-- ==== Sys2Proof/Word.lean ====
section
/-!
DEFINITION. Word types, byte strings, sparse tables, register fields, privilege levels, requesters, and the record types that the commands of Syntax.lean carry as operands.
-/
namespace Sys2Proof

abbrev Byte := BitVec 8
abbrev W32 := BitVec 32
abbrev W64 := BitVec 64

/-- A byte string, first byte first. Multi-byte fields are little-endian throughout (chapter 02). -/
abbrev Bytes := List Byte

/-- The byte at offset `o`, 0 beyond the end. -/
def u8 (b : Bytes) (o : Nat) : Nat := (b.getD o 0).toNat
def u16 (b : Bytes) (o : Nat) : Nat := u8 b o + 256 * u8 b (o + 1)
def u32 (b : Bytes) (o : Nat) : Nat := u16 b o + 65536 * u16 b (o + 2)
def u64 (b : Bytes) (o : Nat) : Nat := u32 b o + 4294967296 * u32 b (o + 4)

/-- The signed reading of an `n`-bit number. -/
def sgn (n v : Nat) : Int := if v < 2 ^ (n - 1) then (v : Int) else (v : Int) - (2 ^ n : Nat)

/-- `n` bytes of `v`, least significant first. -/
def leBytes : Nat → Nat → Bytes
  | 0, _ => []
  | n + 1, v => BitVec.ofNat 8 v :: leBytes n (v / 256)

/-- The number that a little-endian byte string spells. -/
def ofBytes : Bytes → Nat
  | [] => 0
  | b :: r => b.toNat + 256 * ofBytes r

/-- The bytes from offset `o`, `n` of them. -/
def slice (b : Bytes) (o n : Nat) : Bytes := (b.drop o).take n

/-- A sparse table keyed by number, keys rising. -/
abbrev Tab (α : Type) := List (Nat × α)

/-- The entry of `i`, or `d` where the table lists none. -/
def tget {α : Type} (d : α) : Tab α → Nat → α
  | [], _ => d
  | (k, v) :: r, i => if k = i then v else tget d r i

/-- The entry of `i`, if listed. -/
def tget? {α : Type} : Tab α → Nat → Option α
  | [], _ => none
  | (k, v) :: r, i => if k = i then some v else tget? r i

/-- Put `v` at `i`: replace in place, or insert before the first larger key. -/
def tset {α : Type} : Tab α → Nat → α → Tab α
  | [], i, v => [(i, v)]
  | (k, w) :: r, i, v =>
    if k = i then (i, v) :: r else if i < k then (i, v) :: (k, w) :: r else (k, w) :: tset r i v

/-- Remove the entry of `i`. -/
def tdel {α : Type} (t : Tab α) (i : Nat) : Tab α := t.filter (fun e => e.1 ≠ i)

/-- A bit field of a 32-bit register: bits `hi` down to `lo`. -/
structure Fld where
  hi : Nat
  lo : Nat
deriving DecidableEq, Repr

/-- The ones of the field's bits. -/
def Fld.mask (f : Fld) : W32 := BitVec.ofNat 32 ((2 ^ (f.hi + 1 - f.lo) - 1) * 2 ^ f.lo)
/-- The field's number. -/
def Fld.get (f : Fld) (v : W32) : Nat := v.toNat / 2 ^ f.lo % 2 ^ (f.hi + 1 - f.lo)
/-- `v` with the field set to `n` modulo its width. -/
def Fld.put (f : Fld) (v : W32) (n : Nat) : W32 :=
  (v &&& ~~~f.mask) ||| BitVec.ofNat 32 (n % 2 ^ (f.hi + 1 - f.lo) * 2 ^ f.lo)
/-- The largest number the field holds. -/
def Fld.max (f : Fld) : Nat := 2 ^ (f.hi + 1 - f.lo) - 1

/-- Bit `i` of a number. -/
def bit (v i : Nat) : Bool := v / 2 ^ i % 2 = 1

/-- `v` with bit `i` set to `b`. -/
def setBit (v i : Nat) (b : Bool) : Nat :=
  if bit v i then (if b then v else v - 2 ^ i) else (if b then v + 2 ^ i else v)

/-- Privilege levels, lowest first (R391). -/
inductive Lvl where
  | u | s | h | m
deriving DecidableEq, Repr

def Lvl.num : Lvl → Nat
  | .u => 0 | .s => 1 | .h => 2 | .m => 3

def lvlOf : Nat → Lvl
  | 0 => .u | 1 => .s | 2 => .h | _ => .m

/-- Whoever issues a request into the fabric. -/
inductive Agent where
  /-- application core n -/
  | core (n : Fin 32)
  /-- external port controller u -/
  | port (u : Fin 64)
  /-- DMA region engine e -/
  | dma (e : Fin 4)
  /-- the ledger engine -/
  | ledger
  /-- the companion package, over its link -/
  | companion
  /-- the debug access path -/
  | debug
  /-- the image loader -/
  | loader
deriving DecidableEq, Repr

/-- A requester: who, at which level, under which space identifier, with which port class. -/
structure Req where
  agent : Agent
  lvl : Lvl
  sid : BitVec 16
  cls : Fin 8
deriving DecidableEq, Repr

/-! ## Operands of the commands -/

/-- What ECC finds in a word that is read: nothing, a corrected single-bit error, a double-bit error (R198). -/
inductive Ecc where
  | ok | one | two
deriving DecidableEq, Repr

/-- What ECC finds in code words that are copied into a loop buffer (R198): the LE whose bank is read, the word, the finding. -/
abbrev CopyEcc := List (Fin 36 × Fin 64 × Ecc)

/-- The copies of the image and of the firmware in flash, in the order in which a loader looks (R102). -/
structure BootFlash where
  images : List Bytes
  firmwares : List Bytes
deriving DecidableEq, Repr

/-- What a start finds once it has its image and firmware: the memory channels that come up, the code banks, the companion's net. -/
structure BootSite where
  /-- memory channel k trains (R546) -/
  trained : BitVec 4
  /-- what ECC finds in the code that the start copies into loop buffers (R198) -/
  codeEcc : CopyEcc
  /-- PAIR_OWN_N read low throughout the 2 ms before the tick starts (R322) -/
  netHeld : Bool
deriving DecidableEq, Repr

/-- What a boot from the ROM finds (R99 to R102): the TRNG self-test, the loader copies in their order, and the rest. -/
structure BootMedia extends BootFlash, BootSite where
  trngOk : Bool
  loaders : List Bytes
deriving DecidableEq, Repr

/-- A wake pattern of R521, as it has come to the pins. -/
inductive WakeSrc where
  /-- WAKE_N low for at least 1 µs -/
  | wakeN
  /-- pin g: 0 a rising edge, 1 a falling edge, 2 high, 3 low, held for so many µs (R541) -/
  | gpio (g : Fin 128) (pat : Fin 4) (us : Nat)
  /-- address `a` on two-wire controller c -/
  | twoWire (c : Fin 8) (a : BitVec 7)
  /-- an in-band interrupt request from a target on I3C controller i -/
  | i3c (i : Fin 4)
  /-- CLKREQ# asserted or PERST# released on HP0 or HP1 -/
  | pcie (h : Fin 2)
  /-- on the Ethernet port that PWR_STBY_CFG.ETH would name by this code: link up, or a frame -/
  | eth (code : BitVec 4) (frame : Option Bytes)
  /-- a heartbeat from the companion -/
  | companion (hb : Bytes)
  /-- eight valid K28.5 characters on the upstream pair of PL port n -/
  | phase (n : Fin 64)
  /-- link up on hint port h -/
  | hint (h : Fin 8)
  /-- the wake that came during step 6 of the entry (R520) -/
  | stood
deriving DecidableEq, Repr

/-- The copies that an exit from P-STANDBY reads back from DRAM: the image and the firmware (R523). -/
structure DramCopies where
  image : Bytes
  firmware : Bytes
  /-- the bytes of the standby record -/
  record : Bytes
deriving DecidableEq, Repr

/-- What a tick edge finds: how far the tick that ends when its source changed lies from T_tick (0 a cycle short, 1 even, 2 a cycle long), and what ECC finds in code that the edge copies. -/
structure EdgeIn where
  adj : Fin 3
  cp : CopyEcc
deriving DecidableEq, Repr

/-- Where an SPDM request comes from: the MCTP port u of R527, on a two-wire port the target address, and the session. -/
structure SpdmVia where
  port : Fin 34
  sub : BitVec 7
  sid : BitVec 16
deriving DecidableEq, Repr

/-- The algorithms that a requester offers (R114). -/
structure SpdmAlgs where
  ecdsaP384 : Bool
  sha384 : Bool
  secp384r1 : Bool
  aes256gcm : Bool
deriving DecidableEq, Repr

/-- The monitored supplies (R573). -/
inductive Supply where
  | vaon | vedge | vloop | vsoc0 | vsoc1
deriving DecidableEq, Repr

/-- Where an uncorrectable fault was detected (R13, R17, R26, R27). -/
inductive FaultUnit where
  /-- a unit of kind and index by the table of R525 -/
  | unit (kind : Fin 16) (index : BitVec 12)
  | l2 (k : Fin 8)
  | regionFabric (r : Fin 4)
  | sharedLoop (c : Fin 4)
deriving DecidableEq, Repr

/-- A cache error as it is detected (R330). -/
inductive CacheErr where
  /-- parity error in the L1I line of core n at a physical address -/
  | l1i (n : Fin 32) (a : Nat)
  /-- single-bit error, or double-bit error in a clean line, in the L1D of core n -/
  | l1dFixed (n : Fin 32)
  /-- the same in a line of the L2 that core n read -/
  | l2Fixed (n : Fin 32)
  /-- double-bit error in a dirty line of the L1D of core n, or of the L2 of core cluster k -/
  | l1dLost (n : Fin 32)
  | l2Lost (k : Fin 8)
  /-- a system-cache line: corrected, or poisoned -/
  | sysFixed
  | sysLost (a : Nat)
deriving DecidableEq, Repr

/-- The four conversions of a tick-aligned sample (R246). -/
structure Conv where
  c1 : BitVec 14
  c2 : BitVec 14
  c3 : BitVec 14
  c4 : BitVec 14
deriving DecidableEq, Repr

/-- An upstream frame as it reaches the part: its 32 bits, a code or disparity error, and the arrival of its K28.5 in 1/48 ns from the tick edge. -/
structure Upstream where
  w : W32
  bad : Bool
  arr : Nat
deriving DecidableEq, Repr

/-- A stage maker's read-only registers (R180). -/
structure Maker where
  vendor : BitVec 16
  model : BitVec 16
  plrev : BitVec 8
  caps : BitVec 8
  imax : BitVec 8
  serial : BitVec 64
  /-- indexes the maker implements beyond the table, with their power-on values -/
  extra : List (BitVec 8 × BitVec 8)
deriving DecidableEq, Repr

/-- What a stage measures at its strobe (R169, R170). -/
structure StageMeas where
  cur : BitVec 12
  ocl : Bool
  temp : BitVec 8
  vin : BitVec 7
deriving DecidableEq, Repr

/-- A notice as a hint port receives it: its six data characters, a code or disparity error, its arrival in ns from the tick edge. -/
structure HintRx where
  b : BitVec 48
  bad : Bool
  ns : Nat
deriving DecidableEq, Repr

/-- Status of a PCIe completion (R292): successful, Unsupported Request, Completer Abort. -/
inductive Cpl where
  | ok
  | ur
  | ca
deriving DecidableEq, Repr

/-- A partner's reply to a poll (R290 to R292): its bytes (of BUS 0x05 the whole poll frame), and what the partner's bus reports with it: the completion status on PCIe, a PEC that matches on SMBus, and on PLDM a completion code SUCCESS and a sensorOperationalState enabled. -/
structure Reply where
  bytes : Bytes
  cpl : Cpl
  pecOk : Bool
  success : Bool
  enabled : Bool
  /-- on a two-wire bus the controller lost arbitration once before, and tried again (R539) -/
  lost : Bool
deriving DecidableEq, Repr

/-- The shape of a host's request to BAR0: an access of 2^k bytes, or a malformed TLP (R547). -/
inductive Tlp where
  | size (k : Fin 4)
  | malformed
deriving DecidableEq, Repr

/-- What a target sends unasked on an I3C bus: an in-band interrupt request, or a frame with a parity or CRC error (R547). -/
inductive I3cRx where
  | ibi (target : BitVec 7)
  | bad
deriving DecidableEq, Repr

/-- A break on UART i, so many character times long (R542). -/
structure UartBrk where
  i : Fin 4
  chars : Nat
deriving DecidableEq, Repr

/-- How a raw operation ends: done, timed out, or with arbitration lost (R539). -/
inductive RawEnd where
  | ok | tmo | lost
deriving DecidableEq, Repr

/-- Who waits for a completion on RP0 (R532): a core, or the ledger's poll of a partner with a tag. -/
inductive CplReq where
  | core (n : Fin 32)
  | poll (p : BitVec 12) (tag : Nat)
deriving DecidableEq, Repr

end Sys2Proof
end

