-- ==== Sys2Proof/Syntax.lean ====
section
/-!
DEFINITION. The commands of the block: one constructor per row of spec/opcode_table.json, with the row's operands.
-/
namespace Sys2Proof

/-- The commands, one per row of the opcode table, in the table's order. -/
inductive Instr where
  /-- PORST_N_ASSERT (R96): Assertion of PORST_N resets all but fuses, counters and sticky PWR registers, floats the PL pairs, stops TICK_OUT, releases PAIR_OWN_N and drives RAIL_FAULT_N low. -/
  | porstNAssert
  /-- PORST_N_RELEASE (R99): Release of PORST_N starts the boot sequence: always-on logic, fuse sensing, TRNG self-test, loader, image and firmware verification, and structure application. -/
  | porstNRelease (b : BootMedia)
  /-- UART_LOADER_BLOCK (R101): Receipt of one 1,024-byte loader or object block with its CRC-32 over UART 0 in the recovery path. -/
  | uartLoaderBlock (blk : Bytes) (crc : W32) (f : BootFlash) (b : BootSite)
  /-- TICK_START (R69): Once CMP is applied the part starts the first tick, tick 1. -/
  | tickStart
  /-- SYSRST_N_ASSERT (R98): Assertion of SYSRST_N resets the core-side units and withdraws a held amendment before its commit point. -/
  | sysrstNAssert
  /-- SYSRST_N_RELEASE (R97): Release of SYSRST_N restarts level-M firmware from its DRAM copy without interrupting rails or the tick. -/
  | sysrstNRelease (b : BootMedia)
  /-- SUPPLY_OUT_OF_RANGE (R573): A monitored supply leaving its range makes the part act within 2 µs as if PORST_N were asserted. -/
  | supplyOutOfRange (n : Supply)
  /-- VCORE_OUT_OF_RANGE (R26): A region's VCORE outside its operating range fences every core-side unit of the region. -/
  | vcoreOutOfRange (r : Fin 4)
  /-- UNCORRECTABLE_FAULT (R13): Detection of an uncorrectable fault in a unit fences the unit and then raises its fault event. -/
  | uncorrectableFault (u : FaultUnit)
  /-- SUBMIT (R73): IMG_AMD_CTL.SUBMIT copies the amendment into the staging area and starts verification, or refuses it with PENDING, RIGHTS or BADFMT. -/
  | submit (who : Req) (v : W32)
  /-- CANCEL (R79): IMG_AMD_CTL.CANCEL withdraws a held amendment with ABORTED if it arrives before the commit point. -/
  | cancel (who : Req) (v : W32)
  /-- AMENDMENT_VERIFY_DONE (R74): End of verification of signatures, format, sequence, rights and structure, refusing the amendment or starting its staging. -/
  | amendmentVerifyDone (ack settled : Bool)
  /-- AMENDMENT_STAGE_DONE (R76): Staging ends with code in inactive banks and shadow tables built, fixing tick N when APPLY_AT is 0. -/
  | amendmentStageDone
  /-- COMMIT_POINT (R78): At T_tick − 100 ns of tick N − 1 the part repeats the checks and commits or refuses the amendment. -/
  | commitPoint
  /-- REGION_DRAIN_DONE (R89): Once the memory transactions of a region leaving service have drained, the part powers the region off and clears DRAIN. -/
  | regionDrainDone (r : Fin 4)
  /-- KEEP_CNT_INC (R109): KEEP_CNT_CTL.INC requests an increment of the selected counter, checked against index and class. -/
  | keepCntInc (who : Req) (v : W32)
  /-- COUNTER_INCREMENT_DONE (R109): A counter increment completes, or saturates at 0xFFFF_FFFF and raises source 1242. -/
  | counterIncrementDone
  /-- LIFECYCLE_GO (R122): KEEP_LC_CTL.GO requests a forward lifecycle move, refused with RIGHTS or NOKEY where not granted. -/
  | lifecycleGo (who : Req) (v : W32)
  /-- LIFECYCLE_FUSE_WRITE_DONE (R122): The keep finishes writing the new LIFECYCLE fuses, effective at the next PORST_N. -/
  | lifecycleFuseWriteDone
  /-- KEEP_JOB_HASH (R124): Keep job OP 0x01 hashes the input with SHA-256, SHA-384 or SHA3-384. -/
  | keepJobHash (who : Req)
  /-- KEEP_JOB_ECDSA_VERIFY (R124): Keep job OP 0x02 verifies an ECDSA P-384 signature. -/
  | keepJobEcdsaVerify (who : Req)
  /-- KEEP_JOB_HSS_VERIFY (R124): Keep job OP 0x03 verifies an HSS signature. -/
  | keepJobHssVerify (who : Req)
  /-- KEEP_JOB_ECDSA_SIGN (R112): Keep job OP 0x04 makes a bound ECDSA signature over the MRs and the digest. -/
  | keepJobEcdsaSign (who : Req)
  /-- KEEP_JOB_HSS_SIGN (R116): Keep job OP 0x05 makes a bound HSS signature subject to block reservation, rate and exhaustion. -/
  | keepJobHssSign (who : Req)
  /-- KEEP_JOB_AES_ENCRYPT (R124): Keep job OP 0x06 encrypts with AES-256-GCM. -/
  | keepJobAesEncrypt (who : Req)
  /-- KEEP_JOB_AES_DECRYPT (R124): Keep job OP 0x07 decrypts with AES-256-GCM. -/
  | keepJobAesDecrypt (who : Req)
  /-- KEEP_JOB_TRNG_FILL (R124): Keep job OP 0x08 fills the output with TRNG data. -/
  | keepJobTrngFill (who : Req)
  /-- KEEP_JOB_MR_EXTEND (R111): Keep job OP 0x09 extends MR5, MR6 or MR7 with a digest. -/
  | keepJobMrExtend (who : Req)
  /-- KEEP_JOB_DONE (R123): A keep job ends, setting KEEP_JOB_STAT.DONE and CODE and raising source 1245. -/
  | keepJobDone (e : Ecc)
  /-- TRNG_HEALTH_FAIL (R110): A failed continuous TRNG health test stops TRNG output, sets TRNG_FAIL and raises source 1243. -/
  | trngHealthFail
  /-- NORNG_TIMEOUT (R110): A request needing random data is refused with NORNG after waiting 10 ms. -/
  | norngTimeout
  /-- GET_VERSION (R114): SPDM GET_VERSION request answered by the responder. -/
  | getVersion (via : SpdmVia)
  /-- GET_CAPABILITIES (R114): SPDM GET_CAPABILITIES request answered by the responder. -/
  | getCapabilities (via : SpdmVia)
  /-- NEGOTIATE_ALGORITHMS (R114): SPDM NEGOTIATE_ALGORITHMS request answered with the supported algorithms. -/
  | negotiateAlgorithms (via : SpdmVia) (offer : SpdmAlgs)
  /-- GET_DIGESTS (R114): SPDM GET_DIGESTS request answered by the responder. -/
  | getDigests (via : SpdmVia)
  /-- GET_CERTIFICATE (R114): SPDM GET_CERTIFICATE request for slot 0 answered with the device certificate. -/
  | getCertificate (via : SpdmVia) (slot : Fin 8)
  /-- CHALLENGE (R115): SPDM CHALLENGE answered with a bound signature, or ERROR Unspecified when HSS is exhausted. -/
  | challenge (via : SpdmVia)
  /-- GET_MEASUREMENTS (R114): SPDM GET_MEASUREMENTS answered with measurement blocks 0 to 7. -/
  | getMeasurements (via : SpdmVia) (blk : Fin 8) (signed : Bool)
  /-- KEY_EXCHANGE (R114): SPDM KEY_EXCHANGE with DHE secp384r1 opens a session. -/
  | keyExchange (via : SpdmVia)
  /-- FINISH (R114): SPDM FINISH completes session establishment. -/
  | finish (via : SpdmVia)
  /-- HEARTBEAT (R114): SPDM HEARTBEAT keeps a session alive. -/
  | heartbeat (via : SpdmVia)
  /-- KEY_UPDATE (R114): SPDM KEY_UPDATE updates session keys. -/
  | keyUpdate (via : SpdmVia)
  /-- END_SESSION (R114): SPDM END_SESSION closes a session. -/
  | endSession (via : SpdmVia)
  /-- LMS_COSIGN (R115): Vendor request LMS_COSIGN returns the HSS co-signature for a nonce among the last 16 responses. -/
  | lmsCosign (via : SpdmVia) (nonce : BitVec 256)
  /-- TICK_EDGE (R128): The tick edge: TICK_COUNT increments, TICK_EDGE_TB is captured and every serving LE starts at cycle 0. -/
  | tickEdge (err : BitVec 16) (x : EdgeIn)
  /-- TICK_PLL_LOCK_LOSS (R130): Loss of tick PLL lock on REFCLK stops the tick, drives RAIL_FAULT_N low, stops TICK_OUT and raises source 1224. -/
  | tickPllLockLoss
  /-- TICK_IN_LOST (R138): Two consecutive missing TICK_IN edges switch the PLL to REFCLK, set HOLDOVER and raise source 1225. -/
  | tickInLost
  /-- TICK_IN_RETURN (R138): Returning TICK_IN is locked again and HOLDOVER cleared when the package is SECONDARY and not DRIVING. -/
  | tickInReturn
  /-- SENSE_SAMPLE_READY (R246): At t = 40 ns the averaged remote-sense samples are ready on ED and checked by the weir. -/
  | senseSampleReady (rs : List Conv) (aux : Conv)
  /-- SAMPLE_SET_DELIVERY (R208): The tick sequencer delivers the sample set to each LE at cycle 72. -/
  | sampleSetDelivery
  /-- OVERRUN_DEADLINE (R143): At T_tick − 25 ns an LE without END is stopped, its uncommitted commands discarded and the overrun recorded. -/
  | overrunDeadline
  /-- PL_FRAME_SEND (R164): At a free character boundary the port starts the highest-priority ready frame. -/
  | plFrameSend (n : Fin 64) (t : Nat)
  /-- PORT_SHED_MASK (R166): At T_tick − 75 ns the port sends its SHED_MASK frame for all woken addresses needing it. -/
  | portShedMask (n : Fin 64)
  /-- UPSTREAM_SAMPLE_FRAME (R173): Receipt of a stage's sample frame in its slot, validated and delivered to the rail's LEs and weir. -/
  | upstreamSampleFrame (n : Fin 64) (a : Fin 8) (rx : Upstream)
  /-- UPSTREAM_AUX_FRAME (R171): Receipt of a round-robin auxiliary frame updating PL_AUX. -/
  | upstreamAuxFrame (n : Fin 64) (rx : Upstream)
  /-- REGISTER_REPLY (R171): Receipt of a stage's register reply to CONFIGURE, AUX_READ or WAKE, advancing enumeration or ending a register access. -/
  | registerReply (n : Fin 64) (rx : Upstream)
  /-- REGISTER_REPLY_MISSING (R182): A read, write or WAKE without a valid reply is repeated, and after three silent attempts the address is ABSENT or STATUS 0b111. -/
  | registerReplyMissing (n : Fin 64)
  /-- ENUM_SYNC_DONE (R182): After 16 SYNC ticks a full enumeration proceeds to reading the expected addresses. -/
  | enumSyncDone (n : Fin 64)
  /-- STAGE_ABSENT (R184): A woken stage's slot silent for 3 ticks sets ABSENT and makes the phase unavailable. -/
  | stageAbsent (n : Fin 64) (a : Fin 8)
  /-- QUIET_WINDOW_VIOLATION (R185): A differential voltage persisting in a quiet window counts as a violation. -/
  | quietWindowViolation (n : Fin 64)
  /-- BUSFAIL (R184): No valid sample frame from 2 or more woken stages for 3 ticks disables the port with cause BUSFAIL. -/
  | busfail (n : Fin 64)
  /-- PLAUSIBILITY_FAULT (R187): Four consecutive ticks outside the plausibility band raise the rail's plausibility fault. -/
  | plausibilityFault (r : Fin 64)
  /-- PLAUS_CLEAR (R259): Sixteen consecutive ticks inside the band clear PLAUS. -/
  | plausClear (r : Fin 64)
  /-- DISABLE (R186): PL_CTL.DISABLE disables the port with cause SOFTWARE. -/
  | disable (n : Fin 64) (who : Req) (v : W32)
  /-- REENABLE (R193): PL_CTL.REENABLE leaves the disabled state and runs full enumeration. -/
  | reenable (n : Fin 64) (who : Req) (v : W32)
  /-- ENUM_GO (R182): PL_CTL.ENUM_GO runs full enumeration of the port in state RUN. -/
  | enumGo (n : Fin 64) (who : Req) (v : W32)
  /-- READMIT (R182): PL_READMIT clears an address's marks and bucket and enumerates it. -/
  | readmit (n : Fin 64) (who : Req) (v : W32)
  /-- PL_REG_READ (R193): PL_REG_CMD.GO with WRITE = 0 sends an AUX_READ to a stage register. -/
  | plRegRead (n : Fin 64) (who : Req) (v : W32)
  /-- PL_REG_WRITE (R193): PL_REG_CMD.GO with WRITE = 1 sends a CONFIGURE to a stage register. -/
  | plRegWrite (n : Fin 64) (who : Req) (v : W32)
  /-- TEST_INTERNAL_LOOPBACK (R189): PL_CTL.TEST 0b001 enters part-internal loopback with PRBS31 check. -/
  | testInternalLoopback (n : Fin 64) (who : Req) (v : W32)
  /-- TEST_DOWNSTREAM_PRBS31 (R189): PL_CTL.TEST 0b010 sends downstream PRBS31 checked by the stages. -/
  | testDownstreamPrbs31 (n : Fin 64) (who : Req) (v : W32)
  /-- TEST_UPSTREAM_PRBS31 (R189): PL_CTL.TEST 0b011 makes stage TEST_ADDR send PRBS31 checked by the part. -/
  | testUpstreamPrbs31 (n : Fin 64) (who : Req) (v : W32)
  /-- TEST_STAGE_LOOPBACK (R189): PL_CTL.TEST 0b100 makes stage TEST_ADDR loop the part's bits back. -/
  | testStageLoopback (n : Fin 64) (who : Req) (v : W32)
  /-- TEST_EXIT (R189): PL_CTL.TEST 0b000 leaves the test mode and runs enumeration. -/
  | testExit (n : Fin 64) (who : Req) (v : W32)
  /-- EYE_GO (R190): PL_CTL.EYE_GO starts an eye scan at the set phase and voltage offset. -/
  | eyeGo (n : Fin 64) (who : Req) (v : W32)
  /-- EYE_DONE (R190): The eye scan has compared its bits and sets EYE_DONE. -/
  | eyeDone (n : Fin 64) (errors : Nat)
  /-- INJECT_CRC (R191): PL_INJ kind 0b001 corrupts the CRC of the next power frame to ADDR. -/
  | injectCrc (n : Fin 64) (who : Req) (v : W32)
  /-- INJECT_SILENT_SLOT (R191): PL_INJ kind 0b010 treats ADDR's slot as silent for COUNT ticks. -/
  | injectSilentSlot (n : Fin 64) (who : Req) (v : W32)
  /-- INJECT_SAMPLE_CRC_FAIL (R191): PL_INJ kind 0b011 treats ADDR's sample frame as failing its CRC for COUNT ticks. -/
  | injectSampleCrcFail (n : Fin 64) (who : Req) (v : W32)
  /-- INJECT_QUIET_VIOLATION (R191): PL_INJ kind 0b100 records a quiet-window violation for COUNT ticks. -/
  | injectQuietViolation (n : Fin 64) (who : Req) (v : W32)
  /-- STAGE_POWER_ON (R177): A stage powers on into POWERUP. -/
  | stagePowerOn (p : Fin 512) (mk : Maker)
  /-- STAGE_MARKER_RX (R158): A stage receives the tick marker, takes its strobe and counts the tick. -/
  | stageMarkerRx (p : Fin 512) (c : BitVec 8)
  /-- STAGE_MARKER_MISSING (R158): A marker not received 50 ns after its due time counts as a tick without a marker. -/
  | stageMarkerMissing (p : Fin 512)
  /-- STAGE_HOLD_EXPIRY (R178): After HOLD_TICKS missed ticks the stage enters SAFE-OFF. -/
  | stageHoldExpiry (p : Fin 512)
  /-- STAGE_INTERNAL_FAULT (R177): A stage-detected fault puts the stage in FAULT. -/
  | stageInternalFault (p : Fin 512) (code : BitVec 4)
  /-- STAGE_SLOT_START (R168): At its slot start the stage sends preamble and its sample, auxiliary or reply frame. -/
  | stageSlotStart (p : Fin 512) (aux : Bool) (m : StageMeas)
  /-- STAGE_INVALID_FRAME (R156): A stage receives an invalid frame and does not act on it. -/
  | stageInvalidFrame (p : Fin 512)
  /-- CURRENT (R177): A stage acts on a CURRENT power frame. -/
  | current (p : Fin 512) (a : Fin 8) (x : BitVec 16) (en : Bool)
  /-- ONTIME (R177): A stage acts on an ONTIME power frame. -/
  | ontime (p : Fin 512) (a : Fin 8) (x : BitVec 16) (en : Bool)
  /-- SHED (R177): A stage acts on a SHED frame and enters SHED. -/
  | shed (p : Fin 512) (a : Fin 8) (x : BitVec 16) (en : Bool)
  /-- HOLD (R161): A stage keeps its present command on a HOLD frame. -/
  | hold (p : Fin 512) (a : Fin 8) (x : BitVec 16) (en : Bool)
  /-- CONFIGURE (R180): A stage writes one of its registers and replies. -/
  | configure (p : Fin 512) (a : Fin 8) (x : BitVec 16) (en : Bool)
  /-- AUX_READ (R180): A stage reads one of its registers and replies. -/
  | auxRead (p : Fin 512) (a : Fin 8) (x : BitVec 16) (en : Bool)
  /-- WAKE (R171): A stage takes WAKE to READY and replies with its FAULT register. -/
  | wake (p : Fin 512) (a : Fin 8) (x : BitVec 16) (en : Bool)
  /-- OVR_CURRENT (R162): A stage acts on an override current frame. -/
  | ovrCurrent (p : Fin 512) (a : Fin 8) (x : BitVec 16) (en : Bool)
  /-- OVR_SHED (R162): A stage acts on an override shed frame. -/
  | ovrShed (p : Fin 512) (a : Fin 8) (x : BitVec 16) (en : Bool)
  /-- OVR_SHED_MASK (R162): Every stage in the mask acts on an override shed. -/
  | ovrShedMask (p : Fin 512) (a : Fin 8) (x : BitVec 16) (en : Bool)
  /-- SHED_MASK (R162): Every stage in the mask acts on the power shed frame. -/
  | shedMask (p : Fin 512) (a : Fin 8) (x : BitVec 16) (en : Bool)
  /-- LE_NOP (R216): LE no operation. -/
  | leNop (j : Fin 36) (w : BitVec 26) (f : Ecc)
  /-- LE_ADD (R216): LE add with overflow rule. -/
  | leAdd (j : Fin 36) (w : BitVec 26) (f : Ecc)
  /-- LE_SUB (R216): LE subtract. -/
  | leSub (j : Fin 36) (w : BitVec 26) (f : Ecc)
  /-- LE_ADDI (R216): LE add immediate. -/
  | leAddi (j : Fin 36) (w : BitVec 26) (f : Ecc)
  /-- LE_AND (R216): LE bitwise AND. -/
  | leAnd (j : Fin 36) (w : BitVec 26) (f : Ecc)
  /-- LE_OR (R216): LE bitwise OR. -/
  | leOr (j : Fin 36) (w : BitVec 26) (f : Ecc)
  /-- LE_XOR (R216): LE bitwise XOR. -/
  | leXor (j : Fin 36) (w : BitVec 26) (f : Ecc)
  /-- LE_MOVI (R216): LE move sign-extended immediate. -/
  | leMovi (j : Fin 36) (w : BitVec 26) (f : Ecc)
  /-- LE_MOVHI (R216): LE move immediate into high half. -/
  | leMovhi (j : Fin 36) (w : BitVec 26) (f : Ecc)
  /-- LE_MOV (R216): LE register move. -/
  | leMov (j : Fin 36) (w : BitVec 26) (f : Ecc)
  /-- LE_SHL (R216): LE shift left by register. -/
  | leShl (j : Fin 36) (w : BitVec 26) (f : Ecc)
  /-- LE_SHR (R216): LE logical shift right by register. -/
  | leShr (j : Fin 36) (w : BitVec 26) (f : Ecc)
  /-- LE_SRA (R216): LE arithmetic shift right by register. -/
  | leSra (j : Fin 36) (w : BitVec 26) (f : Ecc)
  /-- LE_SHLI (R216): LE shift left by immediate. -/
  | leShli (j : Fin 36) (w : BitVec 26) (f : Ecc)
  /-- LE_SHRI (R216): LE logical shift right by immediate. -/
  | leShri (j : Fin 36) (w : BitVec 26) (f : Ecc)
  /-- LE_SRAI (R216): LE arithmetic shift right by immediate. -/
  | leSrai (j : Fin 36) (w : BitVec 26) (f : Ecc)
  /-- LE_MIN (R216): LE signed minimum. -/
  | leMin (j : Fin 36) (w : BitVec 26) (f : Ecc)
  /-- LE_MAX (R216): LE signed maximum. -/
  | leMax (j : Fin 36) (w : BitVec 26) (f : Ecc)
  /-- LE_CLAMP (R216): LE clamp of d between a and b. -/
  | leClamp (j : Fin 36) (w : BitVec 26) (f : Ecc)
  /-- LE_ABS (R216): LE absolute value. -/
  | leAbs (j : Fin 36) (w : BitVec 26) (f : Ecc)
  /-- LE_NEG (R216): LE negate. -/
  | leNeg (j : Fin 36) (w : BitVec 26) (f : Ecc)
  /-- LE_MULQ (R216): LE rounded shifted multiply. -/
  | leMulq (j : Fin 36) (w : BitVec 26) (f : Ecc)
  /-- LE_MAC (R216): LE multiply-accumulate into an m register. -/
  | leMac (j : Fin 36) (w : BitVec 26) (f : Ecc)
  /-- LE_MSU (R216): LE multiply-subtract from an m register. -/
  | leMsu (j : Fin 36) (w : BitVec 26) (f : Ecc)
  /-- LE_MCLR (R216): LE clear accumulator. -/
  | leMclr (j : Fin 36) (w : BitVec 26) (f : Ecc)
  /-- LE_MLD (R216): LE load accumulator shifted. -/
  | leMld (j : Fin 36) (w : BitVec 26) (f : Ecc)
  /-- LE_MRD (R216): LE read accumulator rounded into a k register. -/
  | leMrd (j : Fin 36) (w : BitVec 26) (f : Ecc)
  /-- LE_MADD (R216): LE add accumulators. -/
  | leMadd (j : Fin 36) (w : BitVec 26) (f : Ecc)
  /-- LE_LD (R216): LE word load from local or shared memory. -/
  | leLd (j : Fin 36) (w : BitVec 26) (f : Ecc) (e : Ecc)
  /-- LE_ST (R216): LE word store. -/
  | leSt (j : Fin 36) (w : BitVec 26) (f : Ecc)
  /-- LE_LDH (R216): LE halfword load. -/
  | leLdh (j : Fin 36) (w : BitVec 26) (f : Ecc) (e : Ecc)
  /-- LE_STH (R198): LE halfword store with read-merge through ECC. -/
  | leSth (j : Fin 36) (w : BitVec 26) (f : Ecc) (e : Ecc)
  /-- LE_LDP (R216): LE load with pointer post-increment. -/
  | leLdp (j : Fin 36) (w : BitVec 26) (f : Ecc) (e : Ecc)
  /-- LE_STP (R216): LE store with pointer post-increment. -/
  | leStp (j : Fin 36) (w : BitVec 26) (f : Ecc)
  /-- LE_SHARED_ACCESS_DONE (R196): A stalled LE access to cluster-shared memory completes and the LE resumes. -/
  | leSharedAccessDone (j : Fin 36) (cycles : Nat) (e : Ecc)
  /-- LE_PSET (R216): LE set pointer. -/
  | lePset (j : Fin 36) (w : BitVec 26) (f : Ecc)
  /-- LE_PADD (R216): LE add to pointer. -/
  | lePadd (j : Fin 36) (w : BitVec 26) (f : Ecc)
  /-- LE_PMOV (R216): LE move register to pointer. -/
  | lePmov (j : Fin 36) (w : BitVec 26) (f : Ecc)
  /-- LE_PRD (R216): LE read pointer. -/
  | lePrd (j : Fin 36) (w : BitVec 26) (f : Ecc)
  /-- LE_RSR (R201): LE read special register. -/
  | leRsr (j : Fin 36) (w : BitVec 26) (f : Ecc)
  /-- LE_WSR (R201): LE write special register. -/
  | leWsr (j : Fin 36) (w : BitVec 26) (f : Ecc)
  /-- LE_RDN (R221): LE reads and removes the oldest hint notice. -/
  | leRdn (j : Fin 36) (w : BitVec 26) (f : Ecc)
  /-- LE_BEQ (R216): LE branch if equal. -/
  | leBeq (j : Fin 36) (w : BitVec 26) (f : Ecc)
  /-- LE_BNE (R216): LE branch if not equal. -/
  | leBne (j : Fin 36) (w : BitVec 26) (f : Ecc)
  /-- LE_BLT (R216): LE branch if less, signed. -/
  | leBlt (j : Fin 36) (w : BitVec 26) (f : Ecc)
  /-- LE_BGE (R216): LE branch if greater or equal, signed. -/
  | leBge (j : Fin 36) (w : BitVec 26) (f : Ecc)
  /-- LE_B (R216): LE unconditional branch. -/
  | leB (j : Fin 36) (w : BitVec 26) (f : Ecc)
  /-- LE_JAL (R216): LE jump and link. -/
  | leJal (j : Fin 36) (w : BitVec 26) (f : Ecc)
  /-- LE_JR (R216): LE jump to register. -/
  | leJr (j : Fin 36) (w : BitVec 26) (f : Ecc)
  /-- LE_LOOP (R218): LE sets up a hardware loop. -/
  | leLoop (j : Fin 36) (w : BitVec 26) (f : Ecc)
  /-- LE_WAITS (R219): LE waits for the selected conditions or a cycle bound. -/
  | leWaits (j : Fin 36) (w : BitVec 26) (f : Ecc)
  /-- LE_WAITS_END (R219): The wait of WAITS ends when its conditions are met or CYC reaches the bound. -/
  | leWaitsEnd (j : Fin 36) (cycles : Nat)
  /-- LE_RDS (R220): LE reads one sample, current, mask, flag, auxiliary or rail value. -/
  | leRds (j : Fin 36) (w : BitVec 26) (f : Ecc)
  /-- LE_SENDP (R222): LE writes a phase's command-buffer entry. -/
  | leSendp (j : Fin 36) (w : BitVec 26) (f : Ecc)
  /-- LE_COMMIT (R210): LE releases the command-buffer entries written since the previous COMMIT. -/
  | leCommit (j : Fin 36) (w : BitVec 26) (f : Ecc)
  /-- LE_END (R211): LE releases remaining commands and stops until the next tick edge. -/
  | leEnd (j : Fin 36) (w : BitVec 26) (f : Ecc)
  /-- LE_PUB (R227): LE writes a publication slot. -/
  | lePub (j : Fin 36) (w : BitVec 26) (f : Ecc)
  /-- LE_EVP (R228): LE records an event code and raises its event source. -/
  | leEvp (j : Fin 36) (w : BitVec 26) (f : Ecc)
  /-- LC_SPARE_RELEASE (R235): LC_SPARE_CTL.RELEASE requests the spare to hand the rail back, or sets RELREF. -/
  | lcSpareRelease (c : Fin 4) (who : Req) (v : W32)
  /-- LC_LE_RESET (R240): LC_LE_CTL.RESET resets the LE unit at the next tick edge. -/
  | lcLeReset (j : Fin 36) (who : Req) (v : W32)
  /-- LC_LE_FENCE (R240): LC_LE_CTL.FENCE fences the LE at the next tick edge, with spare takeover where possible. -/
  | lcLeFence (j : Fin 36) (who : Req) (v : W32)
  /-- LC_LE_UNFENCE (R240): LC_LE_CTL.UNFENCE releases the LE's fence at the next tick edge. -/
  | lcLeUnfence (j : Fin 36) (who : Req) (v : W32)
  /-- REC_RING_RESUME (R237): A write of 1 to an LC_REC_CTL.FROZEN bit resumes the ring from the next tick. -/
  | recRingResume (c : Fin 4) (who : Req) (v : W32)
  /-- ADC_SATURATION (R248): A code at 0 or 16,383 for 8 ticks sets ADC_SAT and raises the ADC event. -/
  | adcSaturation (ch : Fin 80)
  /-- HINT_NOTICE (R251): Arrival of a demand notice on a hint port, accepted or dropped by cause. -/
  | hintNotice (h : Fin 8) (x : HintRx)
  /-- HINT_LINK_UP (R254): Sixteen consecutive valid K28.5 bring the hint link up. -/
  | hintLinkUp (h : Fin 8)
  /-- HINT_LINK_DOWN (R254): No valid character for 1 µs takes the hint link down and discards a notice in progress. -/
  | hintLinkDown (h : Fin 8)
  /-- NOPHASE (R270): No available phase for 2 ticks faults the rail with cause NOPHASE. -/
  | nophase (r : Fin 64)
  /-- PGTMO (R270): No power good within PG_TMO ticks of the start faults the step with PGTMO. -/
  | pgtmo (st : Fin 128)
  /-- PG_UP (R273): Sixteen ticks at target within the window set PG and move a ramping rail to REGULATE. -/
  | pgUp (r : Fin 64)
  /-- SEQ_STEP_START (R271): A waiting step whose dependencies have power good starts after DELAY ticks. -/
  | seqStepStart (st : Fin 128)
  /-- SEQ_GPIO_PG_CHANGE (R271): A GPIO power-good input of a GPIO step changes, giving power good, OFF or GPIOPG fault. -/
  | seqGpioPgChange (g : Fin 128) (lvl : Bool)
  /-- SEQ_UP (R271): SEQ_CTL.UP moves every step in OFF to WAIT. -/
  | seqUp (who : Req) (v : W32)
  /-- SEQ_DOWN (R272): SEQ_CTL.DOWN shuts the sequence down. -/
  | seqDown (who : Req) (v : W32)
  /-- SEQ_CLEAR (R276): SEQ_CTL.CLEAR clears every step fault whose cause is gone. -/
  | seqClear (who : Req) (v : W32)
  /-- RAIL_ON (R276): RAIL_CTL.ON moves the rail from OFF to WAIT. -/
  | railOn (r : Fin 64) (who : Req) (v : W32)
  /-- RAIL_OFF (R272): RAIL_CTL.OFF takes down the rail's step and its dependents. -/
  | railOff (r : Fin 64) (who : Req) (v : W32)
  /-- RAIL_CLEAR (R276): RAIL_CTL.CLEAR moves FAULT to OFF when the cause is gone. -/
  | railClear (r : Fin 64) (who : Req) (v : W32)
  /-- RAIL_SETPT_WRITE (R274): A RAIL_SETPT write sets a new target or is ignored with SETREF. -/
  | railSetptWrite (r : Fin 64) (who : Req) (v : W32)
  /-- RAIL_WSHED_READMIT (R276): Writing 1 to a RAIL_WSHED bit readmits the position from the next latch. -/
  | railWshedReadmit (r : Fin 64) (hi : Bool) (who : Req) (v : W32)
  /-- LEDGER_SERIES_DUE (R282): A series falls due and the engine issues a poll or takes the internal value. -/
  | ledgerSeriesDue (i : BitVec 20)
  /-- LEDGER_UPDATE_DISCARD (R296): An internal update not applied by the end of tick n + 1 is discarded into LDG_SKIP. -/
  | ledgerUpdateDiscard (i : BitVec 20)
  /-- LEDGER_PARTNER_REPLY (R294): A partner reply matching an outstanding poll is applied or counted as an error. -/
  | ledgerPartnerReply (p : BitVec 12) (tag : Nat) (x : Reply)
  /-- LEDGER_POLL_TIMEOUT (R291): A poll without a reply after TMO ticks times out, and the third marks the partner absent. -/
  | ledgerPollTimeout (p : BitVec 12) (tag : Nat)
  /-- LEDGER_PROBE (R291): Every 64 × TMO ticks the engine sends one probe poll to an absent partner. -/
  | ledgerProbe (p : BitVec 12)
  /-- STALE (R293): A series not updated for 4 × PERIOD ticks is set STALE with a record. -/
  | stale (i : BitVec 20)
  /-- LEDGER_UNSOLICITED (R294): A frame matching no outstanding poll is dropped and counted, throttling the partner above FLOOD_LIM. -/
  | ledgerUnsolicited (p : BitVec 12)
  /-- LEDGER_THROTTLE_END (R294): A throttle ends after 1,024 ticks with no unsolicited frame. -/
  | ledgerThrottleEnd (p : BitVec 12)
  /-- LEDGER_WRITEBACK (R298): A changed cached series is written back WB_INTERVAL ticks after its first change. -/
  | ledgerWriteback (i : BitVec 20)
  /-- LDG_READ (R300): LDG_CMD READ returns the engine's current copy of a series. -/
  | ldgRead (who : Req) (v : W32)
  /-- LDG_WRITE (R300): LDG_CMD WRITE rewrites a series entry. -/
  | ldgWrite (who : Req) (v : W32)
  /-- RESET_STATS (R284): LDG_CMD RESET_STATS restarts a series' statistics. -/
  | resetStats (who : Req) (v : W32)
  /-- PUSH (R300): LDG_CMD PUSH updates a software series with r from LDG_DATA0. -/
  | push (who : Req) (v : W32)
  /-- FLUSH_ONE (R302): LDG_CMD FLUSH_ONE writes back and invalidates one series. -/
  | flushOne (who : Req) (v : W32)
  /-- FLUSH_ALL (R299): LDG_CMD FLUSH_ALL writes back every cached series and keeps it. -/
  | flushAll (who : Req) (v : W32)
  /-- INVAL_ALL (R299): LDG_CMD INVAL_ALL writes back and invalidates every cached series. -/
  | invalAll (who : Req) (v : W32)
  /-- LDG_CMD_DONE (R300): A ledger command completes, setting DONE and CODE. -/
  | ldgCmdDone
  /-- COMPANION_HEARTBEAT (R308): Receipt of the companion's heartbeat, driving join, grant, DUALPRI and digest checks. -/
  | companionHeartbeat (b : Bytes)
  /-- HB_LOST (R310): Three consecutive lost heartbeats or a link down set HB_LOST. -/
  | hbLost
  /-- HANDOVER_RECORD_RX (R312): Receipt of a handover record, delivered into shadow HREC or dropped. -/
  | handoverRecordRx (b : Bytes)
  /-- COMPANION_LINK_DOWN (R310): An enabled lane losing block lock for 1 µs takes the link as down. -/
  | companionLinkDown
  /-- COMPANION_LINK_UP (R307): All enabled lanes reach block lock and heartbeats begin. -/
  | companionLinkUp
  /-- JOINED (R321): Sixteen ticks of valid heartbeats and records move a joining package to SHADOW. -/
  | joined
  /-- OWN_WATCHDOG (R304): 1.5 × T_tick after the last tick edge the always-on watchdog releases PAIR_OWN_N. -/
  | ownWatchdog
  /-- PAIR_OWN_HIGH (R305): The PAIR_OWN_N net reads high for 40 ns. -/
  | pairOwnHigh
  /-- PAIR_FENCE_LOW (R317): A package reading PAIR_FENCE_N low while not driving it floats its drivers and enters FENCED. -/
  | pairFenceLow
  /-- FENCE_ASSERT (R318): At its fence instant a package asserts PAIR_FENCE_N if the net read high. -/
  | fenceAssert
  /-- LEAVE (R322): CMP_CTL.LEAVE sends LEAVE and enters JOINING at the next edge. -/
  | leave (who : Req) (v : W32)
  /-- JOIN (R321): CMP_CTL.JOIN clears LEAVE and restarts the join. -/
  | join (who : Req) (v : W32)
  /-- UNFENCE (R319): CMP_CTL.UNFENCE moves a FENCED package to DETACHED while the net is high. -/
  | unfence (who : Req) (v : W32)
  /-- FENCE_REL (R317): CMP_CTL.FENCE_REL releases PAIR_FENCE_N. -/
  | fenceRel (who : Req) (v : W32)
  /-- FENCE (R318): CMP_CTL.FENCE requests fencing of the companion. -/
  | fence (who : Req) (v : W32)
  /-- HANDOFF (R316): CMP_CTL.HANDOFF names the handoff edge H three edges ahead. -/
  | handoff (who : Req) (v : W32)
  /-- MIG_SEND (R325): CMP_MIG_CTL.GO sends a stall record over the companion link. -/
  | migSend (who : Req) (v : W32)
  /-- MIG_DONE (R325): A migration send ends with OK, FULL, LINK, BUSERR or NOPEER. -/
  | migDone (code : Fin 5)
  /-- MIG_RX (R325): A whole stall record with matching CRC arrives and is written to the receive slot. -/
  | migRx (b : Bytes) (stall : BitVec 8)
  /-- MIG_RX_FREE (R328): Writing 1 to CMP_MIG_RXSTAT.FULL frees the receive slot. -/
  | migRxFree (who : Req) (v : W32)
  /-- ADD (R365): P64 add with 64-bit overflow. -/
  | add (n : Fin 32) (d a b : Fin 32) (z : BitVec 8)
  /-- SUB (R365): P64 subtract with 64-bit overflow. -/
  | sub (n : Fin 32) (d a b : Fin 32) (z : BitVec 8)
  /-- ADDM (R365): P64 add modulo 2^64. -/
  | addm (n : Fin 32) (d a b : Fin 32) (z : BitVec 8)
  /-- SUBM (R365): P64 subtract modulo 2^64. -/
  | subm (n : Fin 32) (d a b : Fin 32) (z : BitVec 8)
  /-- AND (R365): P64 AND. -/
  | and (n : Fin 32) (d a b : Fin 32) (z : BitVec 8)
  /-- OR (R365): P64 OR. -/
  | or (n : Fin 32) (d a b : Fin 32) (z : BitVec 8)
  /-- XOR (R365): P64 XOR. -/
  | xor (n : Fin 32) (d a b : Fin 32) (z : BitVec 8)
  /-- ANDN (R365): P64 AND NOT. -/
  | andn (n : Fin 32) (d a b : Fin 32) (z : BitVec 8)
  /-- SHL (R365): P64 shift left. -/
  | shl (n : Fin 32) (d a b : Fin 32) (z : BitVec 8)
  /-- SHR (R365): P64 logical shift right. -/
  | shr (n : Fin 32) (d a b : Fin 32) (z : BitVec 8)
  /-- SAR (R365): P64 arithmetic shift right. -/
  | sar (n : Fin 32) (d a b : Fin 32) (z : BitVec 8)
  /-- CLT (R365): P64 compare less than signed. -/
  | clt (n : Fin 32) (d a b : Fin 32) (z : BitVec 8)
  /-- CLTU (R365): P64 compare less than unsigned. -/
  | cltu (n : Fin 32) (d a b : Fin 32) (z : BitVec 8)
  /-- MIN (R365): P64 signed minimum. -/
  | min (n : Fin 32) (d a b : Fin 32) (z : BitVec 8)
  /-- MAX (R365): P64 signed maximum. -/
  | max (n : Fin 32) (d a b : Fin 32) (z : BitVec 8)
  /-- MINU (R365): P64 unsigned minimum. -/
  | minu (n : Fin 32) (d a b : Fin 32) (z : BitVec 8)
  /-- MAXU (R365): P64 unsigned maximum. -/
  | maxu (n : Fin 32) (d a b : Fin 32) (z : BitVec 8)
  /-- ADD32 (R365): P64 32-bit add. -/
  | add32 (n : Fin 32) (d a b : Fin 32) (z : BitVec 8)
  /-- SUB32 (R365): P64 32-bit subtract. -/
  | sub32 (n : Fin 32) (d a b : Fin 32) (z : BitVec 8)
  /-- SHL32 (R365): P64 32-bit shift left. -/
  | shl32 (n : Fin 32) (d a b : Fin 32) (z : BitVec 8)
  /-- SHR32 (R365): P64 32-bit logical shift right. -/
  | shr32 (n : Fin 32) (d a b : Fin 32) (z : BitVec 8)
  /-- SAR32 (R365): P64 32-bit arithmetic shift right. -/
  | sar32 (n : Fin 32) (d a b : Fin 32) (z : BitVec 8)
  /-- ADDK (R366): P64 add constant with overflow. -/
  | addk (n : Fin 32) (d a : Fin 32) (k : BitVec 13)
  /-- ADDKM (R366): P64 add constant modulo 2^64. -/
  | addkm (n : Fin 32) (d a : Fin 32) (k : BitVec 13)
  /-- ANDK (R366): P64 AND zero-extended constant. -/
  | andk (n : Fin 32) (d a : Fin 32) (k : BitVec 13)
  /-- ORK (R366): P64 OR zero-extended constant. -/
  | ork (n : Fin 32) (d a : Fin 32) (k : BitVec 13)
  /-- XORK (R366): P64 XOR zero-extended constant. -/
  | xork (n : Fin 32) (d a : Fin 32) (k : BitVec 13)
  /-- CLTK (R366): P64 compare less than constant, signed. -/
  | cltk (n : Fin 32) (d a : Fin 32) (k : BitVec 13)
  /-- CLTUK (R366): P64 compare less than constant, unsigned. -/
  | cltuk (n : Fin 32) (d a : Fin 32) (k : BitVec 13)
  /-- SHLK (R366): P64 shift left by constant. -/
  | shlk (n : Fin 32) (d a : Fin 32) (k : BitVec 13)
  /-- SHRK (R366): P64 logical shift right by constant. -/
  | shrk (n : Fin 32) (d a : Fin 32) (k : BitVec 13)
  /-- SARK (R366): P64 arithmetic shift right by constant. -/
  | sark (n : Fin 32) (d a : Fin 32) (k : BitVec 13)
  /-- ADDK32 (R366): P64 32-bit add constant. -/
  | addk32 (n : Fin 32) (d a : Fin 32) (k : BitVec 13)
  /-- SHLK32 (R366): P64 32-bit shift left by constant. -/
  | shlk32 (n : Fin 32) (d a : Fin 32) (k : BitVec 13)
  /-- SHRK32 (R366): P64 32-bit logical shift right by constant. -/
  | shrk32 (n : Fin 32) (d a : Fin 32) (k : BitVec 13)
  /-- SARK32 (R366): P64 32-bit arithmetic shift right by constant. -/
  | sark32 (n : Fin 32) (d a : Fin 32) (k : BitVec 13)
  /-- MUL (R367): P64 multiply low 64 bits. -/
  | mul (n : Fin 32) (d a b : Fin 32) (z : BitVec 8)
  /-- MULHI (R367): P64 signed multiply high. -/
  | mulhi (n : Fin 32) (d a b : Fin 32) (z : BitVec 8)
  /-- MULHIU (R367): P64 unsigned multiply high. -/
  | mulhiu (n : Fin 32) (d a b : Fin 32) (z : BitVec 8)
  /-- MUL32 (R367): P64 32-bit multiply. -/
  | mul32 (n : Fin 32) (d a b : Fin 32) (z : BitVec 8)
  /-- DIV (R368): P64 signed divide. -/
  | div (n : Fin 32) (d a b : Fin 32) (z : BitVec 8)
  /-- DIVU (R368): P64 unsigned divide. -/
  | divu (n : Fin 32) (d a b : Fin 32) (z : BitVec 8)
  /-- MOD (R368): P64 signed remainder. -/
  | mod (n : Fin 32) (d a b : Fin 32) (z : BitVec 8)
  /-- MODU (R368): P64 unsigned remainder. -/
  | modu (n : Fin 32) (d a b : Fin 32) (z : BitVec 8)
  /-- DIV32 (R368): P64 32-bit signed divide. -/
  | div32 (n : Fin 32) (d a b : Fin 32) (z : BitVec 8)
  /-- DIVU32 (R368): P64 32-bit unsigned divide. -/
  | divu32 (n : Fin 32) (d a b : Fin 32) (z : BitVec 8)
  /-- MOD32 (R368): P64 32-bit signed remainder. -/
  | mod32 (n : Fin 32) (d a b : Fin 32) (z : BitVec 8)
  /-- MODU32 (R368): P64 32-bit unsigned remainder. -/
  | modu32 (n : Fin 32) (d a b : Fin 32) (z : BitVec 8)
  /-- LD8 (R370): P64 load byte sign-extended. -/
  | ld8 (n : Fin 32) (d a : Fin 32) (k : BitVec 13) (hit : Bool)
  /-- LD8U (R370): P64 load byte zero-extended. -/
  | ld8u (n : Fin 32) (d a : Fin 32) (k : BitVec 13) (hit : Bool)
  /-- LD16 (R370): P64 load halfword sign-extended. -/
  | ld16 (n : Fin 32) (d a : Fin 32) (k : BitVec 13) (hit : Bool)
  /-- LD16U (R370): P64 load halfword zero-extended. -/
  | ld16u (n : Fin 32) (d a : Fin 32) (k : BitVec 13) (hit : Bool)
  /-- LD32 (R370): P64 load word sign-extended. -/
  | ld32 (n : Fin 32) (d a : Fin 32) (k : BitVec 13) (hit : Bool)
  /-- LD32U (R370): P64 load word zero-extended. -/
  | ld32u (n : Fin 32) (d a : Fin 32) (k : BitVec 13) (hit : Bool)
  /-- LD64 (R370): P64 load doubleword, forwarded or waiting by the store buffer. -/
  | ld64 (n : Fin 32) (d a : Fin 32) (k : BitVec 13) (hit : Bool)
  /-- ST8 (R370): P64 store byte into the store buffer. -/
  | st8 (n : Fin 32) (r a : Fin 32) (k : BitVec 13)
  /-- ST16 (R370): P64 store halfword. -/
  | st16 (n : Fin 32) (r a : Fin 32) (k : BitVec 13)
  /-- ST32 (R370): P64 store word. -/
  | st32 (n : Fin 32) (r a : Fin 32) (k : BitVec 13)
  /-- ST64 (R370): P64 store doubleword. -/
  | st64 (n : Fin 32) (r a : Fin 32) (k : BitVec 13)
  /-- STORE_DRAIN (R344): The oldest store-buffer entry drains to L1D or its target. -/
  | storeDrain (n : Fin 32)
  /-- STORE_ERROR_ENTRY (R397): A pending store error is taken at its target level at an instruction boundary. -/
  | storeErrorEntry (n : Fin 32)
  /-- LOAD_DATA_RETURN (R335): Data of a missing, NORMAL-NC or device load arrives and the load completes or takes a bus error. -/
  | loadDataReturn (n : Fin 32) (e : Ecc)
  /-- RSV32 (R378): P64 32-bit reserve load. -/
  | rsv32 (n : Fin 32) (d a b : Fin 32) (z : BitVec 8)
  /-- RSV64 (R378): P64 64-bit reserve load. -/
  | rsv64 (n : Fin 32) (d a b : Fin 32) (z : BitVec 8)
  /-- CMT32 (R378): P64 32-bit conditional store under reservation. -/
  | cmt32 (n : Fin 32) (d a b : Fin 32) (z : BitVec 8)
  /-- CMT64 (R378): P64 64-bit conditional store under reservation. -/
  | cmt64 (n : Fin 32) (d a b : Fin 32) (z : BitVec 8)
  /-- ATSWAP32 (R378): P64 32-bit atomic swap. -/
  | atswap32 (n : Fin 32) (d a b : Fin 32) (z : BitVec 8)
  /-- ATSWAP64 (R378): P64 64-bit atomic swap. -/
  | atswap64 (n : Fin 32) (d a b : Fin 32) (z : BitVec 8)
  /-- ATADD32 (R378): P64 32-bit atomic add. -/
  | atadd32 (n : Fin 32) (d a b : Fin 32) (z : BitVec 8)
  /-- ATADD64 (R378): P64 64-bit atomic add. -/
  | atadd64 (n : Fin 32) (d a b : Fin 32) (z : BitVec 8)
  /-- ATAND32 (R378): P64 32-bit atomic AND. -/
  | atand32 (n : Fin 32) (d a b : Fin 32) (z : BitVec 8)
  /-- ATAND64 (R378): P64 64-bit atomic AND. -/
  | atand64 (n : Fin 32) (d a b : Fin 32) (z : BitVec 8)
  /-- ATOR32 (R378): P64 32-bit atomic OR. -/
  | ator32 (n : Fin 32) (d a b : Fin 32) (z : BitVec 8)
  /-- ATOR64 (R378): P64 64-bit atomic OR. -/
  | ator64 (n : Fin 32) (d a b : Fin 32) (z : BitVec 8)
  /-- ATCAS32 (R378): P64 32-bit atomic compare and swap. -/
  | atcas32 (n : Fin 32) (d a b : Fin 32) (z : BitVec 8)
  /-- ATCAS64 (R378): P64 64-bit atomic compare and swap. -/
  | atcas64 (n : Fin 32) (d a b : Fin 32) (z : BitVec 8)
  /-- CBEQ (R372): P64 compare-branch if equal. -/
  | cbeq (n : Fin 32) (a b : Fin 32) (off : BitVec 13)
  /-- CBNE (R372): P64 compare-branch if not equal. -/
  | cbne (n : Fin 32) (a b : Fin 32) (off : BitVec 13)
  /-- CBLT (R372): P64 compare-branch if less, signed. -/
  | cblt (n : Fin 32) (a b : Fin 32) (off : BitVec 13)
  /-- CBGE (R372): P64 compare-branch if greater or equal, signed. -/
  | cbge (n : Fin 32) (a b : Fin 32) (off : BitVec 13)
  /-- CBLTU (R372): P64 compare-branch if less, unsigned. -/
  | cbltu (n : Fin 32) (a b : Fin 32) (off : BitVec 13)
  /-- CBGEU (R372): P64 compare-branch if greater or equal, unsigned. -/
  | cbgeu (n : Fin 32) (a b : Fin 32) (off : BitVec 13)
  /-- JLINK (R372): P64 direct jump and link. -/
  | jlink (n : Fin 32) (d : Fin 32) (k : BitVec 23)
  /-- JLINKR (R372): P64 indirect jump and link, call or return. -/
  | jlinkr (n : Fin 32) (d a : Fin 32) (minor : BitVec 5) (k : BitVec 13)
  /-- MKHI (R374): P64 make high constant. -/
  | mkhi (n : Fin 32) (d : Fin 32) (k : BitVec 23)
  /-- PCHI (R374): P64 add high constant to PC. -/
  | pchi (n : Fin 32) (d : Fin 32) (k : BitVec 23)
  /-- LOOP (R375): P64 sets up the counted hardware loop. -/
  | loop (n : Fin 32) (a : Fin 32) (e : BitVec 13) (z1 z2 : BitVec 5)
  /-- NOP (R381): P64 no operation. -/
  | nop (n : Fin 32) (d a : BitVec 5) (k : BitVec 13)
  /-- MFSR (R381): P64 read system register. -/
  | mfsr (n : Fin 32) (d : Fin 32) (a : BitVec 5) (k : BitVec 13)
  /-- MTSR (R381): P64 write system register, with the effects of STATUS, SID and translation writes. -/
  | mtsr (n : Fin 32) (d : BitVec 5) (a : Fin 32) (k : BitVec 13)
  /-- MSSET (R381): P64 read and set bits of a system register. -/
  | msset (n : Fin 32) (d a : Fin 32) (k : BitVec 13)
  /-- MSCLR (R381): P64 read and clear bits of a system register. -/
  | msclr (n : Fin 32) (d a : Fin 32) (k : BitVec 13)
  /-- SYNC (R382): P64 waits until the store buffer is empty and older accesses complete. -/
  | sync (n : Fin 32) (d a : BitVec 5) (k : BitVec 13)
  /-- ISYNC (R383): P64 discards fetched instructions and refetches. -/
  | isync (n : Fin 32) (d a : BitVec 5) (k : BitVec 13)
  /-- ICINV (R384): P64 invalidates a line in this core's L1I. -/
  | icinv (n : Fin 32) (d : BitVec 5) (a : Fin 32) (k : BitVec 13)
  /-- DCWB (R384): P64 writes a modified line back to memory. -/
  | dcwb (n : Fin 32) (d : BitVec 5) (a : Fin 32) (k : BitVec 13)
  /-- DCWBI (R384): P64 writes a line back and invalidates it everywhere. -/
  | dcwbi (n : Fin 32) (d : BitVec 5) (a : Fin 32) (k : BitVec 13)
  /-- TINV_VA (R426): P64 invalidates stage-1 entries of a VA under a SID. -/
  | tinvVa (n : Fin 32) (a b : Fin 32) (z : BitVec 13)
  /-- TINV_SID (R426): P64 invalidates every entry of a SID. -/
  | tinvSid (n : Fin 32) (d : BitVec 5) (a : Fin 32) (k : BitVec 13)
  /-- TINV_IPA (R426): P64 invalidates stage-2 entries of an IA and dependent entries. -/
  | tinvIpa (n : Fin 32) (d : BitVec 5) (a : Fin 32) (k : BitVec 13)
  /-- TINV_ALL (R426): P64 invalidates every TLB and walk-cache entry of the core. -/
  | tinvAll (n : Fin 32) (d a : BitVec 5) (k : BitVec 13)
  /-- PFLUSH (R341): P64 resets the predictor state of the core. -/
  | pflush (n : Fin 32) (d a : BitVec 5) (k : BitVec 13)
  /-- PBAR (R342): P64 sets or clears PREDCTL.BAR. -/
  | pbar (n : Fin 32) (d a : BitVec 5) (k : BitVec 13)
  /-- WAIT (R510): P64 enters C1, C2 or C3, or starts package state entry. -/
  | wait (n : Fin 32) (d a : BitVec 5) (k : BitVec 13)
  /-- ERET (R403): P64 return from exception after the frame read and privilege checks. -/
  | eret (n : Fin 32) (d a : BitVec 5) (k : BitVec 13)
  /-- CALLS (R404): P64 call from U into S. -/
  | calls (n : Fin 32) (d a : BitVec 5) (k : BitVec 13)
  /-- CALLH (R404): P64 call from S into H. -/
  | callh (n : Fin 32) (d a : BitVec 5) (k : BitVec 13)
  /-- CALLM (R404): P64 call into M. -/
  | callm (n : Fin 32) (d a : BitVec 5) (k : BitVec 13)
  /-- BRK (R404): P64 breakpoint exception, or halt when claimed by debug. -/
  | brk (n : Fin 32) (d a : BitVec 5) (k : BitVec 13)
  /-- IRQ_ENTRY (R396): A presented interrupt is recognised at an instruction boundary and taken at ILVL. -/
  | irqEntry (n : Fin 32)
  /-- CORE_TIMER_FIRE (R389): TIMEBASE reaching TMCMP sets FIRED and raises source 1088 + 4n + 3. -/
  | coreTimerFire (n : Fin 32)
  /-- CACHE_ERROR (R330): A cache parity or ECC error is corrected, refetched, poisoned or fences the core or cluster. -/
  | cacheError (x : CacheErr)
  /-- EVD_PRESENTATION (R438): The EVD presents the best eligible source to the target core. -/
  | evdPresentation (t : Fin 32)
  /-- EVD_MODERATION_RELEASE (R440): At tick a + INTERVAL moderation stops holding sources of the target back. -/
  | evdModerationRelease (t : Fin 32)
  /-- EVD_ACK (R442): A core's read of EVD_ACK acknowledges the presented source. -/
  | evdAck (who : Req)
  /-- EVD_EOI (R443): A write of EVD_EOI ends an active source. -/
  | evdEoi (who : Req) (v : W32)
  /-- EVD_PMR_WRITE (R444): A write of EVD_PMR changes the mask and may withdraw a presentation. -/
  | evdPmrWrite (who : Req) (v : W32)
  /-- EVD_SWGEN (R432): A write of EVD_SWGEN raises a software source. -/
  | evdSwgen (who : Req) (v : W32)
  /-- EVD_FALLBACK_WRITE (R437): A write of EVD_FALLBACK sets the fallback core or is ignored with FBREF. -/
  | evdFallbackWrite (who : Req) (v : W32)
  /-- EVD_EN_SET (R433): EVD_EN_SET enables sources. -/
  | evdEnSet (k : Fin 64) (who : Req) (v : W32)
  /-- EVD_EN_CLR (R444): EVD_EN_CLR disables sources and withdraws their presentation. -/
  | evdEnClr (k : Fin 64) (who : Req) (v : W32)
  /-- EVD_PEND_SET (R434): EVD_PEND_SET raises sources. -/
  | evdPendSet (k : Fin 64) (who : Req) (v : W32)
  /-- EVD_PEND_CLR (R444): EVD_PEND_CLR clears PEND and withdraws presentations. -/
  | evdPendClr (k : Fin 64) (who : Req) (v : W32)
  /-- EVD_SRC_CFG_WRITE (R444): A write of EVD_SRC_CFG retargets or reprioritises a source. -/
  | evdSrcCfgWrite (x : Fin 2048) (who : Req) (v : W32)
  /-- MBX_TX (R447): A TX write pushes a stamped word into a mailbox direction, starting the acknowledge wait. -/
  | mbxTx (m : Fin 128) (ba : Bool) (who : Req) (v : W32)
  /-- MBX_RX_DATA (R452): A read of RX_DATA returns and removes the oldest word. -/
  | mbxRxData (m : Fin 128) (ba : Bool) (who : Req)
  /-- MBX_ACK_WRITE (R454): A CODE write by the receiving owner moves WAIT to DONE. -/
  | mbxAckWrite (m : Fin 128) (ba : Bool) (who : Req) (v : W32)
  /-- MBX_TIMEOUT (R455): A direction in WAIT for MBX_TMO ticks moves to TIMEOUT with code 0xFFFF. -/
  | mbxTimeout (m : Fin 128) (ba : Bool)
  /-- CH_START (R486): CH_CTL.START starts a channel from FIRST_BARGE or its saved position. -/
  | chStart (e : Fin 4) (i : Fin 1024) (who : Req) (v : W32)
  /-- CH_STOP (R487): CH_CTL.STOP stops a channel at its barge boundary or at once. -/
  | chStop (e : Fin 4) (i : Fin 1024) (who : Req) (v : W32)
  /-- CH_PAUSE (R488): CH_CTL.PAUSE drains a priority channel to PAUSED. -/
  | chPause (e : Fin 4) (i : Fin 1024) (who : Req) (v : W32)
  /-- CH_RESUME (R488): CH_CTL.RESUME continues a paused channel from its exact element. -/
  | chResume (e : Fin 4) (i : Fin 1024) (who : Req) (v : W32)
  /-- CH_CLEAR (R490): CH_CTL.CLEAR moves ERROR to IDLE. -/
  | chClear (e : Fin 4) (i : Fin 1024) (who : Req) (v : W32)
  /-- CH_INV (R472): CH_CTL.INV discards the cached context. -/
  | chInv (e : Fin 4) (i : Fin 1024) (who : Req) (v : W32)
  /-- CH_OWN_WRITE (R497): A CH_OWN write sets the owner or is ignored when it breaks DMA_MAX. -/
  | chOwnWrite (e : Fin 4) (i : Fin 1024) (who : Req) (v : W32)
  /-- DMA_CONTEXT_FREE (R471): A queued channel obtains a context and loads it. -/
  | dmaContextFree (e : Fin 4) (i : Fin 1024)
  /-- DMA_BARGE_READ (R472): A barge read returns into the shadow set, or ends with BADBARGE, BUSYLINE or BARGEERR. -/
  | dmaBargeRead (e : Fin 4) (i : Fin 1024)
  /-- DMA_READ_COMPLETE (R478): A read burst returns its data, or a bus error ends the barge with SRCERR. -/
  | dmaReadComplete (e : Fin 4) (i : Fin 1024)
  /-- DMA_WRITE_ACK (R479): A write burst is acknowledged, or a bus error ends the barge with DSTERR. -/
  | dmaWriteAck (e : Fin 4) (i : Fin 1024)
  /-- DMA_PORT_REQUEST (R482): A port request on a line lets the engine start a burst. -/
  | dmaPortRequest (e : Fin 4) (q : Fin 64)
  /-- DMA_PORT_DATA (R483): Port data arrives and resumes a waiting burst. -/
  | dmaPortData (e : Fin 4) (q : Fin 64) (d : Bytes)
  /-- UNDERRUN (R483): No port data for TIMEOUT ticks completes the burst with 0xDB and ends the barge. -/
  | underrun (e : Fin 4) (q : Fin 64)
  /-- STALL_QUIET (R500): Once owned channels and tenant accesses have drained the stall is QUIET and rings its doorbell. -/
  | stallQuiet (i : Fin 256)
  /-- BSN_POOL_ALLOC (R494): A read of BSN_POOL_ALLOC takes the allocated granule and allocates the next. -/
  | bsnPoolAlloc (p : Fin 64) (who : Req)
  /-- BSN_FREE (R467): A write of BSN_FREE returns a granule to its pool. -/
  | bsnFree (who : Req) (v : W32)
  /-- BIND (R498): Stall command BIND binds a free stall to its SID. -/
  | bind (i : Fin 256) (who : Req) (v : W32)
  /-- QUIESCE (R500): Stall command QUIESCE blocks tenant access and drains the stall. -/
  | quiesce (i : Fin 256) (who : Req) (v : W32)
  /-- STALL_RESUME (R498): Stall command RESUME returns QUIET to BOUND. -/
  | stallResume (i : Fin 256) (who : Req) (v : W32)
  /-- FREEZE (R501): Stall command FREEZE moves QUIET to FROZEN. -/
  | freeze (i : Fin 256) (who : Req) (v : W32)
  /-- THAW (R501): Stall command THAW moves FROZEN to QUIET. -/
  | thaw (i : Fin 256) (who : Req) (v : W32)
  /-- SAVE (R502): Stall command SAVE writes the 4 KiB state record. -/
  | save (i : Fin 256) (who : Req) (v : W32)
  /-- RESTORE (R503): Stall command RESTORE loads a record into a free stall. -/
  | restore (i : Fin 256) (who : Req) (v : W32)
  /-- STALL_RESET (R504): Stall command RESET clears slot state and keeps maps. -/
  | stallReset (i : Fin 256) (who : Req) (v : W32)
  /-- REMOVE (R504): Stall command REMOVE clears the stall and frees it. -/
  | remove (i : Fin 256) (who : Req) (v : W32)
  /-- STALL_CMD_DONE (R498): A stall command ends, setting CODE and DONE. -/
  | stallCmdDone (i : Fin 256)
  /-- STL_BIND_WRITE (R498): A write of STL_BIND sets the SID or is ignored with BUSY. -/
  | stlBindWrite (i : Fin 256) (who : Req) (v : W32)
  /-- STL_MAP_WRITE (R497): A map write takes effect or is refused with BUSY, LIMIT or CONFLICT. -/
  | stlMapWrite (i : Fin 256) (o : BitVec 12) (who : Req) (v : W32)
  /-- RING (R507): STL_T_BELL.RING raises doorbell 512 + s and sets BELL. -/
  | ring (i : Fin 256) (who : Req) (v : W32)
  /-- STL_T_EN_SET (R507): The tenant enables its slot sources. -/
  | stlTEnSet (i : Fin 256) (who : Req) (v : W32)
  /-- STL_T_EN_CLR (R507): The tenant disables its slot sources. -/
  | stlTEnClr (i : Fin 256) (who : Req) (v : W32)
  /-- STL_T_PEND_CLR (R507): The tenant clears PEND of its slot sources. -/
  | stlTPendClr (i : Fin 256) (who : Req) (v : W32)
  /-- STL_T_BSN_ALLOC (R505): A tenant read allocates a granule tagged with the stall. -/
  | stlTBsnAlloc (i : Fin 256) (who : Req)
  /-- STL_T_BSN_FREE (R505): A tenant write frees a granule tagged with the stall. -/
  | stlTBsnFree (i : Fin 256) (who : Req) (v : W32)
  /-- LV_READ (R506): Ledger-view command READ returns a series of the view. -/
  | lvRead (i : Fin 256) (who : Req) (v : W32)
  /-- SETTHR (R506): Ledger-view command SETTHR writes thresholds of a series. -/
  | setthr (i : Fin 256) (who : Req) (v : W32)
  /-- STALL_PAGE_ACCESS (R499): An access to a stall page, refused with a bus error and DENIED where not permitted. -/
  | stallPageAccess (i : Fin 256) (o : BitVec 12) (k : Fin 4) (who : Req) (w : Option W64)
  /-- CORE_ON (R512): PWR_CORE_CTL.ON restarts a core from C3 at PWR_CORE_RVEC. -/
  | coreOn (n : Fin 32) (who : Req) (v : W32)
  /-- CC_FREQ_WRITE (R517): A write of PWR_CC_FREQ.TGT is a sluice request for one cluster. -/
  | ccFreqWrite (k : Fin 8) (who : Req) (v : W32)
  /-- VTGT_WRITE (R517): A write of PWR_REG_CTL.VTGT alone is a sluice voltage request. -/
  | vtgtWrite (r : Fin 4) (who : Req) (v : W32)
  /-- SLUICE_GO (R516): PWR_REG_CTL.GO requests voltage and both frequencies together. -/
  | sluiceGo (r : Fin 4) (who : Req) (v : W32)
  /-- SLUICE_CLOCK_CHANGE_DONE (R516): A cluster clock change completes and the sluice proceeds. -/
  | sluiceClockChangeDone (r : Fin 4)
  /-- AVSBUS_ACK (R516): The regulator acknowledges the VOUT write. -/
  | avsbusAck (r : Fin 4)
  /-- SETTLE (R518): The settle wait ends and the VCORE monitor is checked. -/
  | settle (r : Fin 4) (mv : Nat)
  /-- NOACK (R518): No acknowledgement within 1 ms ends the request with NOACK. -/
  | noack (r : Fin 4)
  /-- PKG_GO (R519): PWR_PKG_CTL.GO requests P-STANDBY or P-DEEP, or is refused with a code. -/
  | pkgGo (who : Req) (v : W32)
  /-- PKG_ENTRY_STEP_DONE (R520): A step of package state entry completes and its abort point is checked. -/
  | pkgEntryStepDone
  /-- PACKAGE_WAKE (R521): An enabled wake source wakes the package from P-STANDBY or P-DEEP. -/
  | packageWake (w : WakeSrc) (found : DramCopies) (media : BootMedia)
  /-- REGION_RETENTION_ENTRY (R513): When all conditions hold the region enters retention. -/
  | regionRetentionEntry (r : Fin 4)
  /-- REGION_RETENTION_EXIT (R514): A wake, START or register access brings the region back on. -/
  | regionRetentionExit (r : Fin 4)
  /-- UNIT_RESET (R525): PWR_UNIT_CTL RESET resets a unit. -/
  | unitReset (who : Req) (v : W32)
  /-- UNIT_FENCE (R525): PWR_UNIT_CTL FENCE fences a unit. -/
  | unitFence (who : Req) (v : W32)
  /-- UNIT_UNFENCE (R525): PWR_UNIT_CTL UNFENCE releases a unit's fence. -/
  | unitUnfence (who : Req) (v : W32)
  /-- UNIT_OUT (R525): PWR_UNIT_CTL OUT takes a unit out of service, or is refused with INUSE. -/
  | unitOut (who : Req) (v : W32)
  /-- TRACE_ON (R525): PWR_UNIT_CTL TRACE on makes the unit a towpath source. -/
  | traceOn (who : Req) (v : W32)
  /-- TRACE_OFF (R525): PWR_UNIT_CTL TRACE off stops the unit's trace. -/
  | traceOff (who : Req) (v : W32)
  /-- PACKET_RX (R537): A received packet is stored in granules and queued, or dropped for lack of buffer. -/
  | packetRx (u : Fin 52) (sub src : BitVec 16) (b : Bytes)
  /-- PORT_TXQ (R537): A write of PORT_TXQ transmits the packet chain and frees its granules. -/
  | portTxq (u : Fin 52) (who : Req) (v : W32)
  /-- PORT_RXQ (R537): A read of PORT_RXQ dequeues the first token of a received packet. -/
  | portRxq (u : Fin 52) (who : Req)
  /-- MBX_FRAME_PUSH (R535): Mailbox access frame PUSH pushes its words. -/
  | mbxFramePush (u : Fin 52) (sub : BitVec 16) (src : W32) (b : Bytes)
  /-- READ_ACK (R535): Mailbox access frame READ_ACK returns the acknowledge register. -/
  | readAck (u : Fin 52) (sub : BitVec 16) (src : W32) (b : Bytes)
  /-- READ_RX (R535): Mailbox access frame READ_RX removes and returns up to COUNT words. -/
  | readRx (u : Fin 52) (sub : BitVec 16) (src : W32) (b : Bytes)
  /-- WRITE_ACK (R535): Mailbox access frame WRITE_ACK writes the acknowledge code. -/
  | writeAck (u : Fin 52) (sub : BitVec 16) (src : W32) (b : Bytes)
  /-- BAR0_ACCESS (R532): A host access to BAR0 reaches mailbox registers or receives Unsupported Request. -/
  | bar0Access (u : Fin 2) (o : BitVec 15) (k : Tlp) (w : Option W64)
  /-- RP0_INBOUND_REQUEST (R532): A request from the device on RP0 receives Unsupported Request unless it is MSI. -/
  | rp0InboundRequest (msi : Bool)
  /-- COMPLETION_TIMEOUT (R532): A completion not arrived 50 ms after its request is a Completion Timeout. -/
  | completionTimeout (x : CplReq)
  /-- ETH_FRAME_RX (R533): The switch receives an Ethernet frame and forwards, drops or counts it. -/
  | ethFrameRx (i : Fin 11) (fcsOk : Bool) (b : Bytes)
  /-- LINK_UP (R549): A port's link comes up. -/
  | linkUp (u : Fin 52) (rate width : BitVec 4)
  /-- LINK_DOWN (R547): A port's link goes down. -/
  | linkDown (u : Fin 52)
  /-- I3C_IBI (R547): An I3C in-band interrupt arrives, NACKed beyond 64 per tick. -/
  | i3cIbi (i : Fin 4) (x : I3cRx)
  /-- CLOCK_LOW_TIMEOUT (R539): A clock held low for 25 ms ends the two-wire transaction with STOP. -/
  | clockLowTimeout (c : Fin 16)
  /-- STUCK (R539): SDA held low 35 ms sets STUCK and may start recovery. -/
  | stuck (c : Fin 16)
  /-- PCIE_RETRAIN (R548): Raw PCIe op 0x1 retrains from Detect. -/
  | pcieRetrain (u : Fin 52) (who : Req) (v : W32)
  /-- PCIE_FORCE_RATE (R548): Raw PCIe op 0x2 forces a rate and retrains. -/
  | pcieForceRate (u : Fin 52) (who : Req) (v : W32)
  /-- LANE_MARGINING (R548): Raw PCIe op 0x3 margins a lane. -/
  | laneMargining (u : Fin 52) (who : Req) (v : W32)
  /-- PRBS31_LANES (R548): Raw op 0x4 runs PRBS31 on every lane for LEN ms. -/
  | prbs31Lanes (u : Fin 52) (who : Req) (v : W32)
  /-- PCS_LOOPBACK_NEAR (R548): Raw Ethernet op 0x5 runs near-end PCS loopback. -/
  | pcsLoopbackNear (u : Fin 52) (who : Req) (v : W32)
  /-- PCS_LOOPBACK_FAR (R548): Raw Ethernet op 0x6 runs far-end PCS loopback. -/
  | pcsLoopbackFar (u : Fin 52) (who : Req) (v : W32)
  /-- BUS_RECOVERY (R548): Raw two-wire op 0x1 clocks the bus free and sends STOP. -/
  | busRecovery (u : Fin 52) (who : Req) (v : W32)
  /-- RAW_TRANSFER (R548): Raw two-wire op 0x2 sends START, LEN bytes and STOP. -/
  | rawTransfer (u : Fin 52) (who : Req) (v : W32)
  /-- I3C_TARGET_RESET (R548): Raw I3C op 0x1 sends the target reset pattern then ENTDAA. -/
  | i3cTargetReset (u : Fin 52) (who : Req) (v : W32)
  /-- AVSBUS_FRAME (R548): Raw AVSBus op 0x2 sends one frame. -/
  | avsbusFrame (u : Fin 52) (who : Req) (v : W32)
  /-- TAP_RESET (R548): Raw JTAG op 0x1 resets the TAP. -/
  | tapReset (u : Fin 52) (who : Req) (v : W32)
  /-- SHIFT_IR (R548): Raw JTAG op 0x2 shifts IR. -/
  | shiftIr (u : Fin 52) (who : Req) (v : W32)
  /-- SHIFT_DR (R548): Raw JTAG op 0x3 shifts DR. -/
  | shiftDr (u : Fin 52) (who : Req) (v : W32)
  /-- XSPI_PROGRAM (R548): Raw xSPI op 0x2 programs LEN bytes. -/
  | xspiProgram (u : Fin 52) (who : Req) (v : W32)
  /-- XSPI_ERASE (R548): Raw xSPI op 0x3 erases a sector. -/
  | xspiErase (u : Fin 52) (who : Req) (v : W32)
  /-- UART_BREAK (R548): Raw UART op 0x1 sends a break. -/
  | uartBreak (u : Fin 52) (who : Req) (v : W32)
  /-- RAW_DONE (R549): A raw operation ends, setting DONE and CODE. -/
  | rawDone (u : Fin 52) (e : RawEnd) (data : W32) (lanes : List (BitVec 16))
  /-- FAN_TACH_WINDOW (R543): At the end of each 1 s window the fan speed is measured and FAULT set after 3 slow windows. -/
  | fanTachWindow (f : Fin 16) (rpm : BitVec 16)
  /-- FAN_WDT_EXPIRY (R543): Without a kick for SECONDS the PWM outputs go to 100 %. -/
  | fanWdtExpiry
  /-- KICK (R543): FAN_WDT.KICK restarts the fan watchdog count. -/
  | kick (who : Req) (v : W32)
  /-- FAN_PWM_WRITE (R543): A FAN_PWM write sets the duty and ends a fail-safe 100 % drive. -/
  | fanPwmWrite (f : Fin 16) (who : Req) (v : W32)
  /-- PATROL_SCRUB (R546): The patrol scrub rewrites corrected DRAM errors within 24 h. -/
  | patrolScrub (a : BitVec 38) (e : Ecc)
  /-- TS (R555): A core emits a timestamp every 2^TSI cycles or before the CC count overflows. -/
  | ts (n : Fin 32)
  /-- TRACE_FIFO_ROOM (R557): Room returns in a full trace FIFO, releasing a stalled core or emitting OVF and SYNC. -/
  | traceFifoRoom (id : BitVec 16)
  /-- FUNNEL_FRAME (R558): The funnel writes or sends a 16-byte frame to the sink. -/
  | funnelFrame (id : BitVec 16)
  /-- TRC_CTL_WRITE (R556): A write of TRC_CTL sets trace control, and EN changing to 1 emits SYNC. -/
  | trcCtlWrite (who : Req) (v : W32)
  /-- DEBUG_ACCESS (R561): An access by the debug access path with level-M rights, or refused while locked. -/
  | debugAccess (a : BitVec 48) (k : Fin 4) (w : Option W64)
  /-- HALT (R562): DBG_CORE_CTL.HALT stops the core at the next allowed boundary. -/
  | halt (n : Fin 32) (who : Req) (v : W32)
  /-- DBG_RESUME (R562): DBG_CORE_CTL.RESUME continues a halted core. -/
  | dbgResume (n : Fin 32) (who : Req) (v : W32)
  /-- STEP (R562): DBG_CORE_CTL.STEP executes one instruction and halts. -/
  | step (n : Fin 32) (who : Req) (v : W32)
  /-- DBG_CORE_DATA_WRITE (R562): A write of DBG_CORE_DATA writes the selected register of a halted core. -/
  | dbgCoreDataWrite (n : Fin 32) (hi : Bool) (who : Req) (v : W32)
  /-- STEP_EN (R564): DBG_LE_CTL.STEP_EN enters or leaves LE single-tick stepping, or sets STEPREF. -/
  | stepEn (j : Fin 36) (who : Req) (v : W32)
  /-- GO (R564): DBG_LE_CTL.GO lets a stepped LE run the next tick. -/
  | go (j : Fin 36) (who : Req) (v : W32)
  /-- DBG_LE_DATA_WRITE (R564): A write of DBG_LE_DATA writes the selected register of a held LE. -/
  | dbgLeDataWrite (j : Fin 36) (who : Req) (v : W32)
  /-- DEBUG_UNLOCK (R567): TRC_DBG_UNLOCK.GO unlocks the debug path if the class holds DEBUG, else sets REFUSED. -/
  | debugUnlock (who : Req) (v : W32)
  /-- DEBUG_LOCK (R567): TRC_DBG_UNLOCK.LOCK locks the debug path. -/
  | debugLock (who : Req) (v : W32)
  /-- DEBUG_BOOT (R566): TRC_DBG_UNLOCK.BOOT in TEST makes the ROM run the object at basin offset 0. -/
  | debugBoot (who : Req) (v : W32)
  /-- REGISTER_WRITE (R4): A write to a register with no row of its own takes effect by its access codes and level rights. -/
  | registerWrite (a : BitVec 48) (who : Req) (v : W32)
  /-- REGISTER_READ_CLEAR (R4): A read of a register field of access RC returns its value and clears it to 0. -/
  | registerReadClear (a : BitVec 48) (who : Req)
  /-- UNIT_ACTION_DONE (R526): A unit action requested through PWR_UNIT_CTL ends, setting PWR_UNIT_STAT.DONE and CODE and raising source 1222. -/
  | unitActionDone
  /-- LV_CMD_DONE (R507): A ledger-view command of a stall ends between two updates of its series, setting STL_T_LV_STAT.DONE and CODE. -/
  | lvCmdDone (i : Fin 256)
  /-- PACKET_SENT (R537): A port controller finishes sending a packet queued by PORT_TXQ and frees its granules to the pool. -/
  | packetSent (u : Fin 52)
  /-- DMA_REQUEST_WITHDRAW (R484): A port withdraws its request on a DMA request line, adding 1 to CH_STAT.WDRAW when a burst is running. -/
  | dmaRequestWithdraw (e : Fin 4) (q : Fin 64)
  /-- REFCLK_LOSS (R130): REFCLK stops while the tick PLL is not locked to it, and TIMEBASE holds its value and dark ticks stop being counted. -/
  | refclkLoss
  /-- REFCLK_RETURN (R130): REFCLK returns and TIMEBASE resumes advancing from the value it held. -/
  | refclkReturn
  /-- STAGE_POWER_LOSS (R181): A stage loses its power, its outputs go to high impedance and it leaves whatever state it held. -/
  | stagePowerLoss (p : Fin 512)
  /-- GPIO_INPUT_CHANGE (R528): A GPIO input changes level and GPIO k raises event source 1280 + k. -/
  | gpioInputChange (g : Fin 128) (lvl : Bool)
  /-- MAC_AGEING (R533): A MAC table entry not refreshed for 300 s is aged out of the switch table. -/
  | macAgeing (v : BitVec 12) (a : BitVec 48)
  /-- BREAK_RECEIVED (R542): A UART receives a break longer than 2 character times, counts it and ignores it. -/
  | breakReceived (x : UartBrk)
deriving DecidableEq, Repr

end Sys2Proof
end

