-- ==== Sys2Proof/Decode.lean ====
section
/-!
DEFINITION. Commands from words. spec/opcode_table.json gives no row any bits, so no word spells a command for the host; the words of a loop engine's program and of a core's program are read by the spec's own encoding tables.
-/
namespace Sys2Proof

/-- The command that a word spells by the table's bits: none, because no row of the table has bits. -/
def decodeTableWord (_nbits _w : Nat) : Option Instr := none

/-- The instruction of LE j that a word holds, by its opcode in bits 31:26 (R216); none for a reserved opcode. `f` is what ECC finds in the word, `e` in the data that it reads. -/
def decodeLe (j : Fin 36) (w : BitVec 32) (f e : Ecc) : Option Instr :=
  let x : BitVec 26 := w.setWidth 26
  match w.toNat / 2 ^ 26 with
  | 0b000000 => some (.leNop j x f)
  | 0b000001 => some (.leAdd j x f)
  | 0b000010 => some (.leSub j x f)
  | 0b000011 => some (.leAddi j x f)
  | 0b000100 => some (.leAnd j x f)
  | 0b000101 => some (.leOr j x f)
  | 0b000110 => some (.leXor j x f)
  | 0b000111 => some (.leMovi j x f)
  | 0b001000 => some (.leMovhi j x f)
  | 0b001001 => some (.leMov j x f)
  | 0b001010 => some (.leShl j x f)
  | 0b001011 => some (.leShr j x f)
  | 0b001100 => some (.leSra j x f)
  | 0b001101 => some (.leShli j x f)
  | 0b001110 => some (.leShri j x f)
  | 0b001111 => some (.leSrai j x f)
  | 0b010000 => some (.leMin j x f)
  | 0b010001 => some (.leMax j x f)
  | 0b010010 => some (.leClamp j x f)
  | 0b010011 => some (.leAbs j x f)
  | 0b010100 => some (.leNeg j x f)
  | 0b010101 => some (.leMulq j x f)
  | 0b011000 => some (.leMac j x f)
  | 0b011001 => some (.leMsu j x f)
  | 0b011010 => some (.leMclr j x f)
  | 0b011011 => some (.leMld j x f)
  | 0b011100 => some (.leMrd j x f)
  | 0b011101 => some (.leMadd j x f)
  | 0b100000 => some (.leLd j x f e)
  | 0b100001 => some (.leSt j x f)
  | 0b100010 => some (.leLdh j x f e)
  | 0b100011 => some (.leSth j x f e)
  | 0b100100 => some (.leLdp j x f e)
  | 0b100101 => some (.leStp j x f)
  | 0b100110 => some (.lePset j x f)
  | 0b100111 => some (.lePadd j x f)
  | 0b101000 => some (.lePmov j x f)
  | 0b101001 => some (.lePrd j x f)
  | 0b101010 => some (.leRsr j x f)
  | 0b101011 => some (.leWsr j x f)
  | 0b101100 => some (.leRdn j x f)
  | 0b110000 => some (.leBeq j x f)
  | 0b110001 => some (.leBne j x f)
  | 0b110010 => some (.leBlt j x f)
  | 0b110011 => some (.leBge j x f)
  | 0b110100 => some (.leB j x f)
  | 0b110101 => some (.leJal j x f)
  | 0b110110 => some (.leJr j x f)
  | 0b110111 => some (.leLoop j x f)
  | 0b111000 => some (.leWaits j x f)
  | 0b111001 => some (.leRds j x f)
  | 0b111010 => some (.leSendp j x f)
  | 0b111011 => some (.leCommit j x f)
  | 0b111100 => some (.leEnd j x f)
  | 0b111101 => some (.lePub j x f)
  | 0b111110 => some (.leEvp j x f)
  | _ => none

/-- The fields of a word of a core: class, bits 27:23, 22:18, 17:13 and 12:0 (R362). -/
def wCat (c : BitVec 4) (d a m : BitVec 5) (k : BitVec 13) : BitVec 32 := c ++ d ++ a ++ m ++ k
def wReg (r : Fin 32) : BitVec 5 := BitVec.ofFin r
/-- Format RR. -/
def wRR (c : BitVec 4) (d a b : Fin 32) (z : BitVec 8) (func : BitVec 5) : Option (BitVec 32) := some (wCat c (wReg d) (wReg a) (wReg b) (z ++ func))
/-- Format RK. -/
def wRK (c : BitVec 4) (d a : Fin 32) (minor : BitVec 5) (k : BitVec 13) : Option (BitVec 32) := some (wCat c (wReg d) (wReg a) minor k)

/-- The word of an instruction of a core, by the classes, minors, funcs and conds of R364 to R381; none for the other commands. The format gives operand b of TINV.VA no place; it stands here in bits 27:23 (log entry 181). -/
def wordP64 (i : Instr) : Option (BitVec 32) :=
  match i with
  | .nop _ d a k => some (wCat 0b0000 d a 0b00000 k)
  | .mfsr _ d a k => some (wCat 0b0000 (wReg d) a 0b00001 k)
  | .mtsr _ d a k => some (wCat 0b0000 d (wReg a) 0b00010 k)
  | .msset _ d a k => some (wCat 0b0000 (wReg d) (wReg a) 0b00011 k)
  | .msclr _ d a k => some (wCat 0b0000 (wReg d) (wReg a) 0b00100 k)
  | .sync _ d a k => some (wCat 0b0000 d a 0b00101 k)
  | .isync _ d a k => some (wCat 0b0000 d a 0b00110 k)
  | .icinv _ d a k => some (wCat 0b0000 d (wReg a) 0b00111 k)
  | .dcwb _ d a k => some (wCat 0b0000 d (wReg a) 0b01000 k)
  | .dcwbi _ d a k => some (wCat 0b0000 d (wReg a) 0b01001 k)
  | .tinvVa _ a b k => some (wCat 0b0000 (wReg b) (wReg a) 0b01010 k)
  | .tinvSid _ d a k => some (wCat 0b0000 d (wReg a) 0b01011 k)
  | .tinvIpa _ d a k => some (wCat 0b0000 d (wReg a) 0b01100 k)
  | .tinvAll _ d a k => some (wCat 0b0000 d a 0b01101 k)
  | .pflush _ d a k => some (wCat 0b0000 d a 0b01110 k)
  | .pbar _ d a k => some (wCat 0b0000 d a 0b01111 k)
  | .wait _ d a k => some (wCat 0b0000 d a 0b10000 k)
  | .eret _ d a k => some (wCat 0b0000 d a 0b10001 k)
  | .calls _ d a k => some (wCat 0b0000 d a 0b10010 k)
  | .callh _ d a k => some (wCat 0b0000 d a 0b10011 k)
  | .callm _ d a k => some (wCat 0b0000 d a 0b10100 k)
  | .brk _ d a k => some (wCat 0b0000 d a 0b10101 k)
  | .add _ d a b z => wRR 0b0001 d a b z 0b00000
  | .sub _ d a b z => wRR 0b0001 d a b z 0b00001
  | .addm _ d a b z => wRR 0b0001 d a b z 0b00010
  | .subm _ d a b z => wRR 0b0001 d a b z 0b00011
  | .and _ d a b z => wRR 0b0001 d a b z 0b00100
  | .or _ d a b z => wRR 0b0001 d a b z 0b00101
  | .xor _ d a b z => wRR 0b0001 d a b z 0b00110
  | .andn _ d a b z => wRR 0b0001 d a b z 0b00111
  | .shl _ d a b z => wRR 0b0001 d a b z 0b01000
  | .shr _ d a b z => wRR 0b0001 d a b z 0b01001
  | .sar _ d a b z => wRR 0b0001 d a b z 0b01010
  | .clt _ d a b z => wRR 0b0001 d a b z 0b01011
  | .cltu _ d a b z => wRR 0b0001 d a b z 0b01100
  | .min _ d a b z => wRR 0b0001 d a b z 0b01101
  | .max _ d a b z => wRR 0b0001 d a b z 0b01110
  | .minu _ d a b z => wRR 0b0001 d a b z 0b01111
  | .maxu _ d a b z => wRR 0b0001 d a b z 0b10000
  | .add32 _ d a b z => wRR 0b0001 d a b z 0b10001
  | .sub32 _ d a b z => wRR 0b0001 d a b z 0b10010
  | .shl32 _ d a b z => wRR 0b0001 d a b z 0b10011
  | .shr32 _ d a b z => wRR 0b0001 d a b z 0b10100
  | .sar32 _ d a b z => wRR 0b0001 d a b z 0b10101
  | .addk _ d a k => wRK 0b0010 d a 0b00000 k
  | .addkm _ d a k => wRK 0b0010 d a 0b00001 k
  | .andk _ d a k => wRK 0b0010 d a 0b00010 k
  | .ork _ d a k => wRK 0b0010 d a 0b00011 k
  | .xork _ d a k => wRK 0b0010 d a 0b00100 k
  | .cltk _ d a k => wRK 0b0010 d a 0b00101 k
  | .cltuk _ d a k => wRK 0b0010 d a 0b00110 k
  | .shlk _ d a k => wRK 0b0010 d a 0b00111 k
  | .shrk _ d a k => wRK 0b0010 d a 0b01000 k
  | .sark _ d a k => wRK 0b0010 d a 0b01001 k
  | .addk32 _ d a k => wRK 0b0010 d a 0b01010 k
  | .shlk32 _ d a k => wRK 0b0010 d a 0b01011 k
  | .shrk32 _ d a k => wRK 0b0010 d a 0b01100 k
  | .sark32 _ d a k => wRK 0b0010 d a 0b01101 k
  | .mul _ d a b z => wRR 0b0011 d a b z 0b00000
  | .mulhi _ d a b z => wRR 0b0011 d a b z 0b00001
  | .mulhiu _ d a b z => wRR 0b0011 d a b z 0b00010
  | .mul32 _ d a b z => wRR 0b0011 d a b z 0b00011
  | .div _ d a b z => wRR 0b0011 d a b z 0b00100
  | .divu _ d a b z => wRR 0b0011 d a b z 0b00101
  | .mod _ d a b z => wRR 0b0011 d a b z 0b00110
  | .modu _ d a b z => wRR 0b0011 d a b z 0b00111
  | .div32 _ d a b z => wRR 0b0011 d a b z 0b01000
  | .divu32 _ d a b z => wRR 0b0011 d a b z 0b01001
  | .mod32 _ d a b z => wRR 0b0011 d a b z 0b01010
  | .modu32 _ d a b z => wRR 0b0011 d a b z 0b01011
  | .ld8 _ d a k _ => wRK 0b0100 d a 0b00000 k
  | .ld8u _ d a k _ => wRK 0b0100 d a 0b00001 k
  | .ld16 _ d a k _ => wRK 0b0100 d a 0b00010 k
  | .ld16u _ d a k _ => wRK 0b0100 d a 0b00011 k
  | .ld32 _ d a k _ => wRK 0b0100 d a 0b00100 k
  | .ld32u _ d a k _ => wRK 0b0100 d a 0b00101 k
  | .ld64 _ d a k _ => wRK 0b0100 d a 0b00110 k
  | .st8 _ r a k => wRK 0b0101 r a 0b00000 k
  | .st16 _ r a k => wRK 0b0101 r a 0b00010 k
  | .st32 _ r a k => wRK 0b0101 r a 0b00100 k
  | .st64 _ r a k => wRK 0b0101 r a 0b00110 k
  | .rsv32 _ d a b z => wRR 0b0110 d a b z 0b00000
  | .rsv64 _ d a b z => wRR 0b0110 d a b z 0b00001
  | .cmt32 _ d a b z => wRR 0b0110 d a b z 0b00010
  | .cmt64 _ d a b z => wRR 0b0110 d a b z 0b00011
  | .atswap32 _ d a b z => wRR 0b0110 d a b z 0b00100
  | .atswap64 _ d a b z => wRR 0b0110 d a b z 0b00101
  | .atadd32 _ d a b z => wRR 0b0110 d a b z 0b00110
  | .atadd64 _ d a b z => wRR 0b0110 d a b z 0b00111
  | .atand32 _ d a b z => wRR 0b0110 d a b z 0b01000
  | .atand64 _ d a b z => wRR 0b0110 d a b z 0b01001
  | .ator32 _ d a b z => wRR 0b0110 d a b z 0b01010
  | .ator64 _ d a b z => wRR 0b0110 d a b z 0b01011
  | .atcas32 _ d a b z => wRR 0b0110 d a b z 0b01100
  | .atcas64 _ d a b z => wRR 0b0110 d a b z 0b01101
  | .cbeq _ a b k => some (wCat 0b0111 0b00000 (wReg a) (wReg b) k)
  | .cbne _ a b k => some (wCat 0b0111 0b00001 (wReg a) (wReg b) k)
  | .cblt _ a b k => some (wCat 0b0111 0b00010 (wReg a) (wReg b) k)
  | .cbge _ a b k => some (wCat 0b0111 0b00011 (wReg a) (wReg b) k)
  | .cbltu _ a b k => some (wCat 0b0111 0b00100 (wReg a) (wReg b) k)
  | .cbgeu _ a b k => some (wCat 0b0111 0b00101 (wReg a) (wReg b) k)
  | .jlink _ d k => some ((0b1000 : BitVec 4) ++ wReg d ++ k)
  | .jlinkr _ d a minor k => some (wCat 0b1001 (wReg d) (wReg a) minor k)
  | .mkhi _ d k => some ((0b1010 : BitVec 4) ++ wReg d ++ k)
  | .pchi _ d k => some ((0b1011 : BitVec 4) ++ wReg d ++ k)
  | .loop _ a e z1 z2 => some (wCat 0b1100 z1 (wReg a) z2 e)
  | _ => none

/-- The fields of a word of a core (R362): d, a, b or minor, the constant, and of format RR the bits that must be 0. -/
def fldD (w : BitVec 32) : BitVec 5 := w.extractLsb' 23 5
def fldA (w : BitVec 32) : BitVec 5 := w.extractLsb' 18 5
def fldM (w : BitVec 32) : BitVec 5 := w.extractLsb' 13 5
def fldK (w : BitVec 32) : BitVec 13 := w.extractLsb' 0 13
def fldZ (w : BitVec 32) : BitVec 8 := w.extractLsb' 5 8
def fldImm (w : BitVec 32) : BitVec 23 := w.extractLsb' 0 23
def fldFunc (w : BitVec 32) : Nat := w.toNat % 32

/-- Class SYS, by minor. -/
noncomputable def decodeSys (n : Fin 32) (w : BitVec 32) : Option Instr :=
  match (fldM w).toNat with
  | 0b00000 => some (.nop n (fldD w) (fldA w) (fldK w))
  | 0b00001 => some (.mfsr n (fldD w).toFin (fldA w) (fldK w))
  | 0b00010 => some (.mtsr n (fldD w) (fldA w).toFin (fldK w))
  | 0b00011 => some (.msset n (fldD w).toFin (fldA w).toFin (fldK w))
  | 0b00100 => some (.msclr n (fldD w).toFin (fldA w).toFin (fldK w))
  | 0b00101 => some (.sync n (fldD w) (fldA w) (fldK w))
  | 0b00110 => some (.isync n (fldD w) (fldA w) (fldK w))
  | 0b00111 => some (.icinv n (fldD w) (fldA w).toFin (fldK w))
  | 0b01000 => some (.dcwb n (fldD w) (fldA w).toFin (fldK w))
  | 0b01001 => some (.dcwbi n (fldD w) (fldA w).toFin (fldK w))
  | 0b01010 => some (.tinvVa n (fldA w).toFin (fldD w).toFin (fldK w))
  | 0b01011 => some (.tinvSid n (fldD w) (fldA w).toFin (fldK w))
  | 0b01100 => some (.tinvIpa n (fldD w) (fldA w).toFin (fldK w))
  | 0b01101 => some (.tinvAll n (fldD w) (fldA w) (fldK w))
  | 0b01110 => some (.pflush n (fldD w) (fldA w) (fldK w))
  | 0b01111 => some (.pbar n (fldD w) (fldA w) (fldK w))
  | 0b10000 => some (.wait n (fldD w) (fldA w) (fldK w))
  | 0b10001 => some (.eret n (fldD w) (fldA w) (fldK w))
  | 0b10010 => some (.calls n (fldD w) (fldA w) (fldK w))
  | 0b10011 => some (.callh n (fldD w) (fldA w) (fldK w))
  | 0b10100 => some (.callm n (fldD w) (fldA w) (fldK w))
  | 0b10101 => some (.brk n (fldD w) (fldA w) (fldK w))
  | _ => none

/-- Class ALU, by func. -/
noncomputable def decodeAlu (n : Fin 32) (w : BitVec 32) : Option Instr :=
  match fldFunc w with
  | 0b00000 => some (.add n (fldD w).toFin (fldA w).toFin (fldM w).toFin (fldZ w))
  | 0b00001 => some (.sub n (fldD w).toFin (fldA w).toFin (fldM w).toFin (fldZ w))
  | 0b00010 => some (.addm n (fldD w).toFin (fldA w).toFin (fldM w).toFin (fldZ w))
  | 0b00011 => some (.subm n (fldD w).toFin (fldA w).toFin (fldM w).toFin (fldZ w))
  | 0b00100 => some (.and n (fldD w).toFin (fldA w).toFin (fldM w).toFin (fldZ w))
  | 0b00101 => some (.or n (fldD w).toFin (fldA w).toFin (fldM w).toFin (fldZ w))
  | 0b00110 => some (.xor n (fldD w).toFin (fldA w).toFin (fldM w).toFin (fldZ w))
  | 0b00111 => some (.andn n (fldD w).toFin (fldA w).toFin (fldM w).toFin (fldZ w))
  | 0b01000 => some (.shl n (fldD w).toFin (fldA w).toFin (fldM w).toFin (fldZ w))
  | 0b01001 => some (.shr n (fldD w).toFin (fldA w).toFin (fldM w).toFin (fldZ w))
  | 0b01010 => some (.sar n (fldD w).toFin (fldA w).toFin (fldM w).toFin (fldZ w))
  | 0b01011 => some (.clt n (fldD w).toFin (fldA w).toFin (fldM w).toFin (fldZ w))
  | 0b01100 => some (.cltu n (fldD w).toFin (fldA w).toFin (fldM w).toFin (fldZ w))
  | 0b01101 => some (.min n (fldD w).toFin (fldA w).toFin (fldM w).toFin (fldZ w))
  | 0b01110 => some (.max n (fldD w).toFin (fldA w).toFin (fldM w).toFin (fldZ w))
  | 0b01111 => some (.minu n (fldD w).toFin (fldA w).toFin (fldM w).toFin (fldZ w))
  | 0b10000 => some (.maxu n (fldD w).toFin (fldA w).toFin (fldM w).toFin (fldZ w))
  | 0b10001 => some (.add32 n (fldD w).toFin (fldA w).toFin (fldM w).toFin (fldZ w))
  | 0b10010 => some (.sub32 n (fldD w).toFin (fldA w).toFin (fldM w).toFin (fldZ w))
  | 0b10011 => some (.shl32 n (fldD w).toFin (fldA w).toFin (fldM w).toFin (fldZ w))
  | 0b10100 => some (.shr32 n (fldD w).toFin (fldA w).toFin (fldM w).toFin (fldZ w))
  | 0b10101 => some (.sar32 n (fldD w).toFin (fldA w).toFin (fldM w).toFin (fldZ w))
  | _ => none

/-- Class MULDIV, by func. -/
noncomputable def decodeMulDiv (n : Fin 32) (w : BitVec 32) : Option Instr :=
  match fldFunc w with
  | 0b00000 => some (.mul n (fldD w).toFin (fldA w).toFin (fldM w).toFin (fldZ w))
  | 0b00001 => some (.mulhi n (fldD w).toFin (fldA w).toFin (fldM w).toFin (fldZ w))
  | 0b00010 => some (.mulhiu n (fldD w).toFin (fldA w).toFin (fldM w).toFin (fldZ w))
  | 0b00011 => some (.mul32 n (fldD w).toFin (fldA w).toFin (fldM w).toFin (fldZ w))
  | 0b00100 => some (.div n (fldD w).toFin (fldA w).toFin (fldM w).toFin (fldZ w))
  | 0b00101 => some (.divu n (fldD w).toFin (fldA w).toFin (fldM w).toFin (fldZ w))
  | 0b00110 => some (.mod n (fldD w).toFin (fldA w).toFin (fldM w).toFin (fldZ w))
  | 0b00111 => some (.modu n (fldD w).toFin (fldA w).toFin (fldM w).toFin (fldZ w))
  | 0b01000 => some (.div32 n (fldD w).toFin (fldA w).toFin (fldM w).toFin (fldZ w))
  | 0b01001 => some (.divu32 n (fldD w).toFin (fldA w).toFin (fldM w).toFin (fldZ w))
  | 0b01010 => some (.mod32 n (fldD w).toFin (fldA w).toFin (fldM w).toFin (fldZ w))
  | 0b01011 => some (.modu32 n (fldD w).toFin (fldA w).toFin (fldM w).toFin (fldZ w))
  | _ => none

/-- Class ATOM, by func. -/
noncomputable def decodeAtom (n : Fin 32) (w : BitVec 32) : Option Instr :=
  match fldFunc w with
  | 0b00000 => some (.rsv32 n (fldD w).toFin (fldA w).toFin (fldM w).toFin (fldZ w))
  | 0b00001 => some (.rsv64 n (fldD w).toFin (fldA w).toFin (fldM w).toFin (fldZ w))
  | 0b00010 => some (.cmt32 n (fldD w).toFin (fldA w).toFin (fldM w).toFin (fldZ w))
  | 0b00011 => some (.cmt64 n (fldD w).toFin (fldA w).toFin (fldM w).toFin (fldZ w))
  | 0b00100 => some (.atswap32 n (fldD w).toFin (fldA w).toFin (fldM w).toFin (fldZ w))
  | 0b00101 => some (.atswap64 n (fldD w).toFin (fldA w).toFin (fldM w).toFin (fldZ w))
  | 0b00110 => some (.atadd32 n (fldD w).toFin (fldA w).toFin (fldM w).toFin (fldZ w))
  | 0b00111 => some (.atadd64 n (fldD w).toFin (fldA w).toFin (fldM w).toFin (fldZ w))
  | 0b01000 => some (.atand32 n (fldD w).toFin (fldA w).toFin (fldM w).toFin (fldZ w))
  | 0b01001 => some (.atand64 n (fldD w).toFin (fldA w).toFin (fldM w).toFin (fldZ w))
  | 0b01010 => some (.ator32 n (fldD w).toFin (fldA w).toFin (fldM w).toFin (fldZ w))
  | 0b01011 => some (.ator64 n (fldD w).toFin (fldA w).toFin (fldM w).toFin (fldZ w))
  | 0b01100 => some (.atcas32 n (fldD w).toFin (fldA w).toFin (fldM w).toFin (fldZ w))
  | 0b01101 => some (.atcas64 n (fldD w).toFin (fldA w).toFin (fldM w).toFin (fldZ w))
  | _ => none

/-- Class ALUI, by minor. -/
noncomputable def decodeAluI (n : Fin 32) (w : BitVec 32) : Option Instr :=
  match (fldM w).toNat with
  | 0b00000 => some (.addk n (fldD w).toFin (fldA w).toFin (fldK w))
  | 0b00001 => some (.addkm n (fldD w).toFin (fldA w).toFin (fldK w))
  | 0b00010 => some (.andk n (fldD w).toFin (fldA w).toFin (fldK w))
  | 0b00011 => some (.ork n (fldD w).toFin (fldA w).toFin (fldK w))
  | 0b00100 => some (.xork n (fldD w).toFin (fldA w).toFin (fldK w))
  | 0b00101 => some (.cltk n (fldD w).toFin (fldA w).toFin (fldK w))
  | 0b00110 => some (.cltuk n (fldD w).toFin (fldA w).toFin (fldK w))
  | 0b00111 => some (.shlk n (fldD w).toFin (fldA w).toFin (fldK w))
  | 0b01000 => some (.shrk n (fldD w).toFin (fldA w).toFin (fldK w))
  | 0b01001 => some (.sark n (fldD w).toFin (fldA w).toFin (fldK w))
  | 0b01010 => some (.addk32 n (fldD w).toFin (fldA w).toFin (fldK w))
  | 0b01011 => some (.shlk32 n (fldD w).toFin (fldA w).toFin (fldK w))
  | 0b01100 => some (.shrk32 n (fldD w).toFin (fldA w).toFin (fldK w))
  | 0b01101 => some (.sark32 n (fldD w).toFin (fldA w).toFin (fldK w))
  | _ => none

/-- Class LOAD, by minor. -/
noncomputable def decodeLoad (n : Fin 32) (hit : Bool) (w : BitVec 32) : Option Instr :=
  match (fldM w).toNat with
  | 0b00000 => some (.ld8 n (fldD w).toFin (fldA w).toFin (fldK w) hit)
  | 0b00001 => some (.ld8u n (fldD w).toFin (fldA w).toFin (fldK w) hit)
  | 0b00010 => some (.ld16 n (fldD w).toFin (fldA w).toFin (fldK w) hit)
  | 0b00011 => some (.ld16u n (fldD w).toFin (fldA w).toFin (fldK w) hit)
  | 0b00100 => some (.ld32 n (fldD w).toFin (fldA w).toFin (fldK w) hit)
  | 0b00101 => some (.ld32u n (fldD w).toFin (fldA w).toFin (fldK w) hit)
  | 0b00110 => some (.ld64 n (fldD w).toFin (fldA w).toFin (fldK w) hit)
  | _ => none

/-- Class STORE, by minor. -/
noncomputable def decodeStore (n : Fin 32) (w : BitVec 32) : Option Instr :=
  match (fldM w).toNat with
  | 0b00000 => some (.st8 n (fldD w).toFin (fldA w).toFin (fldK w))
  | 0b00010 => some (.st16 n (fldD w).toFin (fldA w).toFin (fldK w))
  | 0b00100 => some (.st32 n (fldD w).toFin (fldA w).toFin (fldK w))
  | 0b00110 => some (.st64 n (fldD w).toFin (fldA w).toFin (fldK w))
  | _ => none

/-- Class CB, by cond. -/
noncomputable def decodeCb (n : Fin 32) (w : BitVec 32) : Option Instr :=
  match (fldD w).toNat with
  | 0b00000 => some (.cbeq n (fldA w).toFin (fldM w).toFin (fldK w))
  | 0b00001 => some (.cbne n (fldA w).toFin (fldM w).toFin (fldK w))
  | 0b00010 => some (.cblt n (fldA w).toFin (fldM w).toFin (fldK w))
  | 0b00011 => some (.cbge n (fldA w).toFin (fldM w).toFin (fldK w))
  | 0b00100 => some (.cbltu n (fldA w).toFin (fldM w).toFin (fldK w))
  | 0b00101 => some (.cbgeu n (fldA w).toFin (fldM w).toFin (fldK w))
  | _ => none

/-- The instruction of core n that a word holds, by its class in bits 31:28 (R362 to R364); none for a reserved class, minor, func or cond. `hit` says of a load that its data are at hand. A 1 in a bit that must be 0 stays in the instruction, which is illegal with it (R363). Lean has no code for values of Instr past its 245th constructor: the kernel evaluates this one. -/
noncomputable def decodeP64 (n : Fin 32) (hit : Bool) (w : BitVec 32) : Option Instr :=
  match w.toNat / 2 ^ 28 with
  | 0b0000 => decodeSys n w
  | 0b0001 => decodeAlu n w
  | 0b0010 => decodeAluI n w
  | 0b0011 => decodeMulDiv n w
  | 0b0100 => decodeLoad n hit w
  | 0b0101 => decodeStore n w
  | 0b0110 => decodeAtom n w
  | 0b0111 => decodeCb n w
  | 0b1000 => some (.jlink n (fldD w).toFin (fldImm w))
  | 0b1001 => some (.jlinkr n (fldD w).toFin (fldA w).toFin (fldM w) (fldK w))
  | 0b1010 => some (.mkhi n (fldD w).toFin (fldImm w))
  | 0b1011 => some (.pchi n (fldD w).toFin (fldImm w))
  | 0b1100 => some (.loop n (fldA w).toFin (fldK w) (fldD w) (fldM w))
  | _ => none

/-- The class of a word and its minor, func or cond are not reserved (R363 to R381). -/
def knownP64 (w : BitVec 32) : Bool :=
  let v := w.toNat
  let minor := v / 2 ^ 13 % 32
  let func := v % 32
  match v / 2 ^ 28 with
  | 0b0000 => decide (minor ≤ 0b10101)
  | 0b0001 => decide (func ≤ 0b10101)
  | 0b0010 => decide (minor ≤ 0b01101)
  | 0b0011 => decide (func ≤ 0b01011)
  | 0b0100 => decide (minor ≤ 0b00110)
  | 0b0101 => [0b00000, 0b00010, 0b00100, 0b00110].contains minor
  | 0b0110 => decide (func ≤ 0b01101)
  | 0b0111 => decide (v / 2 ^ 23 % 32 ≤ 0b00101)
  | c => decide (c ≤ 0b1100)

end Sys2Proof
end

