-- ==== Sys2Proof/Config.lean ====
section
/-!
DEFINITION. What the implementation fixes and the spec leaves open: free values. None of these constants has a body, so nothing can be proved of their values.
-/
namespace Sys2Proof.Config

/-- Free values: the n-th value that the hardware leaves open. DESIGN CHOICE, unsafe nowhere (log entry 2). -/
opaque freeNat : Nat → Nat
opaque freeBit : Nat → Bool
opaque freeW32 : Nat → BitVec 32
opaque freeW64 : Nat → BitVec 64
opaque freeBytes : Nat → Nat → Bytes

/-- What DRAM holds after an exit from P-DEEP (R524): addresses and bytes. -/
opaque freeCells : Nat → List (Nat × Byte)

/-- The digest functions of the keep, named and not computed by the spec (R103, R111, R124): uninterpreted. -/
opaque sha256 : Bytes → BitVec 256
opaque sha384 : Bytes → BitVec 384
opaque sha3_384 : Bytes → BitVec 384

/-- The byte of the ROM at an offset (R44). -/
opaque rom : Nat → BitVec 8

/-! The signature and cipher algorithms, named and not computed by the spec (R61, R62, R112, R113, R124): uninterpreted. -/

/-- The ECDSA P-384 public keys, x then y, under which a signature over a SHA-384 digest verifies: at most four. -/
opaque ecdsaKey : BitVec 384 → Bytes → Fin 4 → Bytes
/-- The root of the top-level LMS tree that an HSS signature over a message leads to, for the type codes and the identifier that open a public key. -/
opaque hssRoot : Bytes → Bytes → Bytes → Bytes
/-- ECDSA P-384 signature, r then s, by a private key over a digest; the last operand is the random number it takes. -/
opaque ecdsaSign : BitVec 384 → BitVec 384 → Nat → BitVec 768
/-- HSS signature of 3,292 bytes by the keys of a seed and identifier over a digest, at a signature index. -/
opaque hssSign : BitVec 384 → BitVec 384 → Nat → BitVec 26336
/-- Byte i of what AES-256-GCM makes of a key record and a plaintext: the ciphertext, then the tag. -/
opaque aesSeal : Bytes → Bytes → Nat → BitVec 8
/-- Byte i of the plaintext that a key record gives for a ciphertext and tag, and whether the tag holds. -/
opaque aesOpen : Bytes → Bytes → Nat → BitVec 8
opaque aesTag : Bytes → Bytes → Bool
/-- The verdict of a verify job (OP 2 or 3) on its key record and its input. -/
opaque jobVerify : Nat → Bytes → Bytes → Bool

end Sys2Proof.Config
end

