-- ==== Sys2Proof/Machine/RegMap.lean ====
section
/-!
DEFINITION. The control-space registers: names, addresses, access codes by field (R4), reset values and access levels, from the register tables of the chapters.
-/
namespace Sys2Proof.Machine

/-- The control-space registers. A register that the spec gives as an array or once per unit is one name with an index. -/
inductive Reg where
  | IMG_ID
  | IMG_AMD_SEQ
  | IMG_STATUS
  | IMG_AMD_ADDR_LO
  | IMG_AMD_ADDR_HI
  | IMG_AMD_LEN
  | IMG_AMD_CTL
  | IMG_AMD_RESULT
  | IMG_AMD_APPLIED_LO
  | IMG_AMD_APPLIED_HI
  | IMG_FLOOR
  | IMG_HASH
  | IMG_AMD_HASH
  | KEEP_STATUS
  | KEEP_CNT_CTL
  | KEEP_CNT_VAL
  | KEEP_CNT_STAT
  | KEEP_LC_CTL
  | KEEP_JOB_ADDR_LO
  | KEEP_JOB_ADDR_HI
  | KEEP_JOB_CTL
  | KEEP_JOB_STAT
  | TICK_CTL
  | TICK_CFG
  | TICK_STATUS
  | TICK_TB_LO
  | TICK_TB_HI
  | TICK_COUNT_LO
  | TICK_COUNT_HI
  | TICK_EDGE_TB_LO
  | TICK_EDGE_TB_HI
  | TICK_PHERR
  | TICK_OVR_MASK_LO
  | TICK_OVR_MASK_HI
  | TICK_OVR_CNT
  | TICK_OVR_LE
  | TICK_OVR_TICK_LO
  | TICK_OVR_TICK_HI
  | PL_CTL
  | PL_STATUS
  | PL_PHASE
  | PL_PHASE2
  | PL_READMIT
  | PL_EVT
  | PL_EVT_EN
  | PL_RTD
  | PL_ERR
  | PL_AUX
  | PL_REG_CMD
  | PL_REG_RESULT
  | PL_EYE_CTL
  | PL_EYE_RES
  | PL_PRBS_ERR
  | PL_INJ
  | LC_STATUS
  | LC_SPARE_CTL
  | LC_REC_CTL
  | LC_EVT
  | LC_EVT_EN
  | LC_LE_STATUS
  | LC_LE_CTL
  | LC_LE_FAULT
  | LC_LE_FAULT_LC0
  | LC_LE_FAULT_LC1
  | LC_LE_FAULT_TICK_LO
  | LC_LE_FAULT_TICK_HI
  | LC_LE_FAULT_CNT
  | LC_LE_SHWIN
  | LC_LE_EVT
  | LC_LE_CYC
  | LC_LE_MAXCYC
  | RAIL_FAULT_LO
  | RAIL_FAULT_HI
  | SEQ_CTL
  | SEQ_STATUS
  | SEQ_STEP
  | HINT_CTL
  | HINT_STAT
  | HINT_ACC
  | HINT_DROP0
  | HINT_DROP1
  | HINT_EVT
  | HINT_EVT_EN
  | RAIL_STATE
  | RAIL_SETPT
  | RAIL_CTL
  | RAIL_EVT
  | RAIL_EVT_EN
  | RAIL_SENSE
  | RAIL_IEST
  | RAIL_IMEAS
  | RAIL_WSHED_LO
  | RAIL_WSHED_HI
  | RAIL_WCNT0
  | RAIL_WCNT1
  | ADC_SAT_LO
  | ADC_SAT_HI
  | ADC_SAT_AUX
  | ADC_RS
  | ADC_AUX
  | LDG_CMD
  | LDG_CMD_STAT
  | LDG_DATA
  | LDG_RING_HEAD
  | LDG_RING_TAIL
  | LDG_RING_LOST
  | LDG_GRP_PEND_LO
  | LDG_GRP_PEND_HI
  | LDG_SKIP
  | LDG_OUT
  | LDG_PART_SEL
  | LDG_PART_STAT0
  | LDG_PART_STAT1
  | CMP_STATUS
  | CMP_CTL
  | CMP_EVT
  | CMP_EVT_EN
  | CMP_HB_MISS
  | CMP_REC_ERR
  | CMP_MISMATCH
  | CMP_TAKE_TICK_LO
  | CMP_TAKE_TICK_HI
  | CMP_DIGEST_LO
  | CMP_DIGEST_HI
  | CMP_PEER_DIGEST_LO
  | CMP_PEER_DIGEST_HI
  | CMP_MIG_ADDR_LO
  | CMP_MIG_ADDR_HI
  | CMP_MIG_CTL
  | CMP_MIG_STAT
  | CMP_MIG_RX_LO
  | CMP_MIG_RX_HI
  | CMP_MIG_RXSTAT
  | EVD_ACK
  | EVD_EOI
  | EVD_PMR
  | EVD_RPR
  | EVD_SWGEN
  | EVD_FALLBACK
  | EVD_STATUS
  | EVD_EN_SET
  | EVD_EN_CLR
  | EVD_PEND_SET
  | EVD_PEND_CLR
  | EVD_ACTIVE
  | EVD_SRC_CFG
  | EVD_TGT_MOD
  | EVD_TGT_STAT
  | MBX_CFG
  | MBX_TMO
  | MBX_EVT
  | MBX_EVT_EN
  | MBX_STATUS
  | MBX_ERR
  | MBX_ERR2
  | MBX_AB_TX
  | MBX_AB_ACK
  | MBX_AB_RX_STAMP
  | MBX_AB_RX_DATA
  | MBX_BA_TX
  | MBX_BA_ACK
  | MBX_BA_RX_STAMP
  | MBX_BA_RX_DATA
  | DMA_ENG_STATUS
  | DMA_GRP_PEND
  | DMA_RQ_CFG
  | CH_CTL
  | CH_STAT
  | CH_OWN
  | CH_REM0
  | CH_REM12
  | CH_BARGE_LO
  | CH_BARGE_HI
  | CH_XFER
  | BSN_STATUS
  | BSN_FREE
  | BSN_POOL_ALLOC
  | BSN_POOL_HELD
  | BSN_POOL_STAT
  | BSN_POOL_PEAK
  | STL_BIND
  | STL_CTL
  | STL_MGR_STAT
  | STL_REC_ADDR_LO
  | STL_REC_ADDR_HI
  | STL_CNT
  | STL_MBX_MAP
  | STL_VIEW_BASE
  | STL_VIEW_CNT
  | STL_SRC
  | STL_WIN_A
  | STL_WIN_B
  | STL_T_ID
  | STL_T_BELL
  | STL_T_EN_SET
  | STL_T_EN_CLR
  | STL_T_PEND
  | STL_T_PEND_CLR
  | STL_T_BSN_ALLOC
  | STL_T_BSN_FREE
  | STL_T_BSN_HELD
  | STL_T_LV_CMD
  | STL_T_LV_STAT
  | STL_T_LV_DATA
  | PWR_PKG_CTL
  | PWR_PKG_STAT
  | PWR_WAKE_EN
  | PWR_WAKE_CAUSE
  | PWR_STBY_CFG
  | PWR_LAST
  | PWR_STICKY
  | PWR_SLUICE_CFG
  | PWR_UNIT_CTL
  | PWR_UNIT_STAT
  | PWR_CORE_CTL
  | PWR_CORE_STAT
  | PWR_CORE_RVEC_LO
  | PWR_CORE_RVEC_HI
  | PWR_CC_FREQ
  | PWR_REG_CTL
  | PWR_REG_STAT
  | PORT_CTL
  | PORT_STAT
  | PORT_EVT
  | PORT_EVT_EN
  | PORT_ERR0
  | PORT_ERR1
  | PORT_RXQ
  | PORT_TXQ
  | PORT_LANE_ERR
  | PORT_RAW_CMD
  | PORT_RAW_DATA
  | PORT_RAW_RES
  | SW_VLAN
  | SW_CPU_MAC_LO
  | SW_CPU_MAC_HI
  | SW_CPU_IP
  | SW_STORM
  | GPIO_IN
  | GPIO_OUT
  | FAN_PWM
  | FAN_STAT
  | FAN_WDT
  | MC_STATUS
  | MC_ECC
  | MC_ERR_ADDR_LO
  | MC_ERR_ADDR_HI
  | TRC_CTL
  | TRC_STATUS
  | TRC_LOST
  | TRC_BUF_BASE_LO
  | TRC_BUF_BASE_HI
  | TRC_BUF_SIZE
  | TRC_BUF_WPTR
  | TRC_DBG_UNLOCK
  | TRC_DBG_STATUS
  | DBG_CORE_CTL
  | DBG_CORE_STAT
  | DBG_CORE_SEL
  | DBG_CORE_DATA_LO
  | DBG_CORE_DATA_HI
  | DBG_LE_CTL
  | DBG_LE_STAT
  | DBG_LE_SEL
  | DBG_LE_DATA
deriving DecidableEq, Repr

/-- A register's place and access. `d1`, `d2` are (count, stride) of its outer and inner index; the index is outer × inner count + inner. -/
structure RegDesc where
  addr : Nat
  d1 : Nat × Nat
  d2 : Nat × Nat
  reset : Nat
  rw : Nat
  w1c : Nat
  w1s : Nat
  rc : Nat
  wo : Nat
  rdLvl : Lvl
  wrLvl : Lvl
deriving DecidableEq, Repr

/-- The register tables: address, index ranges, reset value, the masks of the access codes RW, W1C, W1S, RC and WO (every other bit is RO or reserved), and the lowest level that may read and write. -/
def Reg.desc : Reg → RegDesc
  | .IMG_ID => ⟨0x200000000000, (1, 0x0), (1, 0x0), 0x0, 0x0, 0x0, 0x0, 0x0, 0x0, .h, .m⟩
  | .IMG_AMD_SEQ => ⟨0x200000000004, (1, 0x0), (1, 0x0), 0x0, 0x0, 0x0, 0x0, 0x0, 0x0, .h, .m⟩
  | .IMG_STATUS => ⟨0x200000000008, (1, 0x0), (1, 0x0), 0x0, 0x0, 0x0, 0x0, 0x0, 0x0, .h, .m⟩
  | .IMG_AMD_ADDR_LO => ⟨0x200000000010, (1, 0x0), (1, 0x0), 0x0, 0xFFFFFFF8, 0x0, 0x0, 0x0, 0x0, .h, .m⟩
  | .IMG_AMD_ADDR_HI => ⟨0x200000000014, (1, 0x0), (1, 0x0), 0x0, 0xFFFF, 0x0, 0x0, 0x0, 0x0, .h, .m⟩
  | .IMG_AMD_LEN => ⟨0x200000000018, (1, 0x0), (1, 0x0), 0x0, 0x7FFFFF, 0x0, 0x0, 0x0, 0x0, .h, .m⟩
  | .IMG_AMD_CTL => ⟨0x200000000020, (1, 0x0), (1, 0x0), 0x70, 0xF0, 0x0, 0x0, 0x0, 0x3, .h, .m⟩
  | .IMG_AMD_RESULT => ⟨0x200000000024, (1, 0x0), (1, 0x0), 0x0, 0x0, 0x0, 0x0, 0x0, 0x0, .h, .m⟩
  | .IMG_AMD_APPLIED_LO => ⟨0x200000000028, (1, 0x0), (1, 0x0), 0x0, 0x0, 0x0, 0x0, 0x0, 0x0, .h, .m⟩
  | .IMG_AMD_APPLIED_HI => ⟨0x20000000002C, (1, 0x0), (1, 0x0), 0x0, 0x0, 0x0, 0x0, 0x0, 0x0, .h, .m⟩
  | .IMG_FLOOR => ⟨0x200000000030, (1, 0x0), (1, 0x0), 0x0, 0x0, 0x0, 0x0, 0x0, 0x0, .h, .m⟩
  | .IMG_HASH => ⟨0x200000000040, (12, 0x4), (1, 0x0), 0x0, 0x0, 0x0, 0x0, 0x0, 0x0, .h, .m⟩
  | .IMG_AMD_HASH => ⟨0x200000000070, (12, 0x4), (1, 0x0), 0x0, 0x0, 0x0, 0x0, 0x0, 0x0, .h, .m⟩
  | .KEEP_STATUS => ⟨0x200002000000, (1, 0x0), (1, 0x0), 0x0, 0x0, 0x0, 0x0, 0x0, 0x0, .h, .m⟩
  | .KEEP_CNT_CTL => ⟨0x200002000010, (1, 0x0), (1, 0x0), 0xE00, 0xE3F, 0x0, 0x0, 0x0, 0x100, .h, .m⟩
  | .KEEP_CNT_VAL => ⟨0x200002000014, (1, 0x0), (1, 0x0), 0x0, 0x0, 0x0, 0x0, 0x0, 0x0, .h, .m⟩
  | .KEEP_CNT_STAT => ⟨0x200002000018, (1, 0x0), (1, 0x0), 0x0, 0x0, 0x0, 0x0, 0x0, 0x0, .h, .m⟩
  | .KEEP_LC_CTL => ⟨0x200002000020, (1, 0x0), (1, 0x0), 0xE0, 0xEF, 0x0, 0x0, 0x0, 0x10, .h, .m⟩
  | .KEEP_JOB_ADDR_LO => ⟨0x200002000030, (1, 0x0), (1, 0x0), 0x0, 0xFFFFFFFF, 0x0, 0x0, 0x0, 0x0, .h, .m⟩
  | .KEEP_JOB_ADDR_HI => ⟨0x200002000034, (1, 0x0), (1, 0x0), 0x0, 0xFFFF, 0x0, 0x0, 0x0, 0x0, .h, .m⟩
  | .KEEP_JOB_CTL => ⟨0x200002000038, (1, 0x0), (1, 0x0), 0x0, 0x0, 0x0, 0x0, 0x0, 0x1, .h, .m⟩
  | .KEEP_JOB_STAT => ⟨0x20000200003C, (1, 0x0), (1, 0x0), 0x0, 0x0, 0x80, 0x0, 0x0, 0x0, .h, .m⟩
  | .TICK_CTL => ⟨0x200000010000, (1, 0x0), (1, 0x0), 0x0, 0x1FF, 0x0, 0x0, 0x0, 0x0, .s, .m⟩
  | .TICK_CFG => ⟨0x200000010004, (1, 0x0), (1, 0x0), 0x0, 0x0, 0x0, 0x0, 0x0, 0x0, .s, .m⟩
  | .TICK_STATUS => ⟨0x200000010008, (1, 0x0), (1, 0x0), 0x0, 0x0, 0x0, 0x0, 0x0, 0x0, .s, .m⟩
  | .TICK_TB_LO => ⟨0x200000010010, (1, 0x0), (1, 0x0), 0x0, 0x0, 0x0, 0x0, 0x0, 0x0, .s, .m⟩
  | .TICK_TB_HI => ⟨0x200000010014, (1, 0x0), (1, 0x0), 0x0, 0x0, 0x0, 0x0, 0x0, 0x0, .s, .m⟩
  | .TICK_COUNT_LO => ⟨0x200000010018, (1, 0x0), (1, 0x0), 0x0, 0x0, 0x0, 0x0, 0x0, 0x0, .s, .m⟩
  | .TICK_COUNT_HI => ⟨0x20000001001C, (1, 0x0), (1, 0x0), 0x0, 0x0, 0x0, 0x0, 0x0, 0x0, .s, .m⟩
  | .TICK_EDGE_TB_LO => ⟨0x200000010020, (1, 0x0), (1, 0x0), 0x0, 0x0, 0x0, 0x0, 0x0, 0x0, .s, .m⟩
  | .TICK_EDGE_TB_HI => ⟨0x200000010024, (1, 0x0), (1, 0x0), 0x0, 0x0, 0x0, 0x0, 0x0, 0x0, .s, .m⟩
  | .TICK_PHERR => ⟨0x200000010030, (1, 0x0), (1, 0x0), 0x0, 0x0, 0x0, 0x0, 0x0, 0x0, .s, .m⟩
  | .TICK_OVR_MASK_LO => ⟨0x200000010040, (1, 0x0), (1, 0x0), 0x0, 0x0, 0xFFFFFFFF, 0x0, 0x0, 0x0, .s, .m⟩
  | .TICK_OVR_MASK_HI => ⟨0x200000010044, (1, 0x0), (1, 0x0), 0x0, 0x0, 0xF, 0x0, 0x0, 0x0, .s, .m⟩
  | .TICK_OVR_CNT => ⟨0x200000010048, (1, 0x0), (1, 0x0), 0x0, 0x0, 0x0, 0x0, 0xFFFF, 0x0, .s, .m⟩
  | .TICK_OVR_LE => ⟨0x20000001004C, (1, 0x0), (1, 0x0), 0x0, 0x0, 0x0, 0x0, 0x0, 0x0, .s, .m⟩
  | .TICK_OVR_TICK_LO => ⟨0x200000010050, (1, 0x0), (1, 0x0), 0x0, 0x0, 0x0, 0x0, 0x0, 0x0, .s, .m⟩
  | .TICK_OVR_TICK_HI => ⟨0x200000010054, (1, 0x0), (1, 0x0), 0x0, 0x0, 0x0, 0x0, 0x0, 0x0, .s, .m⟩
  | .PL_CTL => ⟨0x200000100000, (64, 0x10000), (1, 0x0), 0x0, 0xFC00, 0x0, 0x0, 0x0, 0x1E, .s, .m⟩
  | .PL_STATUS => ⟨0x200000100004, (64, 0x10000), (1, 0x0), 0x0, 0x0, 0x0, 0x0, 0x0, 0x0, .s, .m⟩
  | .PL_PHASE => ⟨0x200000100008, (64, 0x10000), (1, 0x0), 0x0, 0x0, 0x0, 0x0, 0x0, 0x0, .s, .m⟩
  | .PL_PHASE2 => ⟨0x20000010000C, (64, 0x10000), (1, 0x0), 0x0, 0x0, 0x0, 0x0, 0x0, 0x0, .s, .m⟩
  | .PL_READMIT => ⟨0x200000100010, (64, 0x10000), (1, 0x0), 0x0, 0x0, 0x0, 0x0, 0x0, 0xFF, .s, .m⟩
  | .PL_EVT => ⟨0x200000100014, (64, 0x10000), (1, 0x0), 0x0, 0x0, 0x7FF, 0x0, 0x0, 0x0, .s, .m⟩
  | .PL_EVT_EN => ⟨0x200000100018, (64, 0x10000), (1, 0x0), 0x0, 0x7FF, 0x0, 0x0, 0x0, 0x0, .s, .m⟩
  | .PL_RTD => ⟨0x200000100020, (64, 0x10000), (8, 0x4), 0x0, 0x0, 0x0, 0x0, 0x0, 0x0, .s, .m⟩
  | .PL_ERR => ⟨0x200000100040, (64, 0x10000), (8, 0x4), 0x0, 0x0, 0x0, 0x0, 0xFFFF0000, 0x0, .s, .m⟩
  | .PL_AUX => ⟨0x200000100060, (64, 0x10000), (8, 0x4), 0x0, 0x0, 0x0, 0x0, 0x0, 0x0, .s, .m⟩
  | .PL_REG_CMD => ⟨0x200000100080, (64, 0x10000), (1, 0x0), 0x0, 0x4007FFFF, 0x0, 0x0, 0x0, 0x80000000, .s, .m⟩
  | .PL_REG_RESULT => ⟨0x200000100084, (64, 0x10000), (1, 0x0), 0x0, 0x0, 0x80000000, 0x0, 0x0, 0x0, .s, .m⟩
  | .PL_EYE_CTL => ⟨0x2000001000A0, (64, 0x10000), (1, 0x0), 0x0, 0x71F3F, 0x0, 0x0, 0x0, 0x0, .s, .m⟩
  | .PL_EYE_RES => ⟨0x2000001000A4, (64, 0x10000), (1, 0x0), 0x0, 0x0, 0x0, 0x0, 0x0, 0x0, .s, .m⟩
  | .PL_PRBS_ERR => ⟨0x2000001000A8, (64, 0x10000), (1, 0x0), 0x0, 0x0, 0x0, 0x0, 0xFFFF, 0x0, .s, .m⟩
  | .PL_INJ => ⟨0x2000001000C0, (64, 0x10000), (1, 0x0), 0x0, 0xFF0707, 0x0, 0x0, 0x0, 0x80000000, .s, .m⟩
  | .LC_STATUS => ⟨0x200000500000, (4, 0x40000), (1, 0x0), 0x0, 0x0, 0x0, 0x0, 0x0, 0x0, .s, .m⟩
  | .LC_SPARE_CTL => ⟨0x200000500004, (4, 0x40000), (1, 0x0), 0x0, 0x0, 0x0, 0x0, 0x0, 0x1, .s, .m⟩
  | .LC_REC_CTL => ⟨0x200000500008, (4, 0x40000), (1, 0x0), 0x0, 0x3, 0x1FF00, 0x0, 0x0, 0x0, .s, .m⟩
  | .LC_EVT => ⟨0x200000500010, (4, 0x40000), (1, 0x0), 0x0, 0x0, 0xF, 0x0, 0x0, 0x0, .s, .m⟩
  | .LC_EVT_EN => ⟨0x200000500014, (4, 0x40000), (1, 0x0), 0x0, 0xF, 0x0, 0x0, 0x0, 0x0, .s, .m⟩
  | .LC_LE_STATUS => ⟨0x200000501000, (4, 0x40000), (9, 0x100), 0x0, 0x0, 0x0, 0x0, 0xFFFF0000, 0x0, .s, .m⟩
  | .LC_LE_CTL => ⟨0x200000501004, (4, 0x40000), (9, 0x100), 0x0, 0x0, 0x0, 0x0, 0x0, 0x7, .s, .m⟩
  | .LC_LE_FAULT => ⟨0x200000501008, (4, 0x40000), (9, 0x100), 0x0, 0x0, 0x80000000, 0x0, 0x0, 0x0, .s, .m⟩
  | .LC_LE_FAULT_LC0 => ⟨0x20000050100C, (4, 0x40000), (9, 0x100), 0x0, 0x0, 0x0, 0x0, 0x0, 0x0, .s, .m⟩
  | .LC_LE_FAULT_LC1 => ⟨0x200000501010, (4, 0x40000), (9, 0x100), 0x0, 0x0, 0x0, 0x0, 0x0, 0x0, .s, .m⟩
  | .LC_LE_FAULT_TICK_LO => ⟨0x200000501014, (4, 0x40000), (9, 0x100), 0x0, 0x0, 0x0, 0x0, 0x0, 0x0, .s, .m⟩
  | .LC_LE_FAULT_TICK_HI => ⟨0x200000501018, (4, 0x40000), (9, 0x100), 0x0, 0x0, 0x0, 0x0, 0x0, 0x0, .s, .m⟩
  | .LC_LE_FAULT_CNT => ⟨0x20000050101C, (4, 0x40000), (9, 0x100), 0x0, 0x0, 0x0, 0x0, 0xFFFF, 0x0, .s, .m⟩
  | .LC_LE_SHWIN => ⟨0x200000501020, (4, 0x40000), (9, 0x100), 0x0, 0x0, 0x0, 0x0, 0x0, 0x0, .s, .m⟩
  | .LC_LE_EVT => ⟨0x200000501024, (4, 0x40000), (9, 0x100), 0x0, 0x0, 0x0, 0x0, 0xFFFF0000, 0x0, .s, .m⟩
  | .LC_LE_CYC => ⟨0x200000501028, (4, 0x40000), (9, 0x100), 0x0, 0x0, 0x0, 0x0, 0x0, 0x0, .s, .m⟩
  | .LC_LE_MAXCYC => ⟨0x20000050102C, (4, 0x40000), (9, 0x100), 0x0, 0x0, 0x0, 0x0, 0xFFFFFFFF, 0x0, .s, .m⟩
  | .RAIL_FAULT_LO => ⟨0x200000600000, (1, 0x0), (1, 0x0), 0x0, 0x0, 0x0, 0x0, 0x0, 0x0, .s, .m⟩
  | .RAIL_FAULT_HI => ⟨0x200000600004, (1, 0x0), (1, 0x0), 0x0, 0x0, 0x0, 0x0, 0x0, 0x0, .s, .m⟩
  | .SEQ_CTL => ⟨0x200000600010, (1, 0x0), (1, 0x0), 0x0, 0x0, 0x0, 0x0, 0x0, 0x7, .s, .m⟩
  | .SEQ_STATUS => ⟨0x200000600014, (1, 0x0), (1, 0x0), 0x0, 0x0, 0x10, 0x0, 0x0, 0x0, .s, .m⟩
  | .SEQ_STEP => ⟨0x200000600400, (128, 0x4), (1, 0x0), 0x0, 0x0, 0x0, 0x0, 0x0, 0x0, .s, .m⟩
  | .HINT_CTL => ⟨0x200000600800, (8, 0x20), (1, 0x0), 0x0, 0x1, 0x0, 0x0, 0x0, 0x0, .s, .m⟩
  | .HINT_STAT => ⟨0x200000600804, (8, 0x20), (1, 0x0), 0x0, 0x0, 0x0, 0x0, 0x0, 0x0, .s, .m⟩
  | .HINT_ACC => ⟨0x200000600808, (8, 0x20), (1, 0x0), 0x0, 0x0, 0x0, 0x0, 0xFFFFFFFF, 0x0, .s, .m⟩
  | .HINT_DROP0 => ⟨0x20000060080C, (8, 0x20), (1, 0x0), 0x0, 0x0, 0x0, 0x0, 0xFFFFFFFF, 0x0, .s, .m⟩
  | .HINT_DROP1 => ⟨0x200000600810, (8, 0x20), (1, 0x0), 0x0, 0x0, 0x0, 0x0, 0xFFFFFFFF, 0x0, .s, .m⟩
  | .HINT_EVT => ⟨0x200000600814, (8, 0x20), (1, 0x0), 0x0, 0x0, 0xF, 0x0, 0x0, 0x0, .s, .m⟩
  | .HINT_EVT_EN => ⟨0x200000600818, (8, 0x20), (1, 0x0), 0x0, 0xF, 0x0, 0x0, 0x0, 0x0, .s, .m⟩
  | .RAIL_STATE => ⟨0x200000601000, (64, 0x100), (1, 0x0), 0x0, 0x0, 0x0, 0x0, 0x0, 0x0, .s, .m⟩
  | .RAIL_SETPT => ⟨0x200000601004, (64, 0x100), (1, 0x0), 0x0, 0x3FFF, 0x0, 0x0, 0x0, 0x0, .s, .m⟩
  | .RAIL_CTL => ⟨0x200000601008, (64, 0x100), (1, 0x0), 0x0, 0x0, 0x0, 0x0, 0x0, 0x7, .s, .m⟩
  | .RAIL_EVT => ⟨0x20000060100C, (64, 0x100), (1, 0x0), 0x0, 0x0, 0x1FF, 0x0, 0x0, 0x0, .s, .m⟩
  | .RAIL_EVT_EN => ⟨0x200000601010, (64, 0x100), (1, 0x0), 0x0, 0x1FF, 0x0, 0x0, 0x0, 0x0, .s, .m⟩
  | .RAIL_SENSE => ⟨0x200000601014, (64, 0x100), (1, 0x0), 0x0, 0x0, 0x0, 0x0, 0x0, 0x0, .s, .m⟩
  | .RAIL_IEST => ⟨0x200000601018, (64, 0x100), (1, 0x0), 0x0, 0x0, 0x0, 0x0, 0x0, 0x0, .s, .m⟩
  | .RAIL_IMEAS => ⟨0x20000060101C, (64, 0x100), (1, 0x0), 0x0, 0x0, 0x0, 0x0, 0x0, 0x0, .s, .m⟩
  | .RAIL_WSHED_LO => ⟨0x200000601020, (64, 0x100), (1, 0x0), 0x0, 0x0, 0xFFFFFFFF, 0x0, 0x0, 0x0, .s, .m⟩
  | .RAIL_WSHED_HI => ⟨0x200000601024, (64, 0x100), (1, 0x0), 0x0, 0x0, 0xFFFFFFFF, 0x0, 0x0, 0x0, .s, .m⟩
  | .RAIL_WCNT0 => ⟨0x200000601028, (64, 0x100), (1, 0x0), 0x0, 0x0, 0x0, 0x0, 0xFFFFFFFF, 0x0, .s, .m⟩
  | .RAIL_WCNT1 => ⟨0x20000060102C, (64, 0x100), (1, 0x0), 0x0, 0x0, 0x0, 0x0, 0xFFFFFFFF, 0x0, .s, .m⟩
  | .ADC_SAT_LO => ⟨0x200000700010, (1, 0x0), (1, 0x0), 0x0, 0x0, 0xFFFFFFFF, 0x0, 0x0, 0x0, .s, .m⟩
  | .ADC_SAT_HI => ⟨0x200000700014, (1, 0x0), (1, 0x0), 0x0, 0x0, 0xFFFFFFFF, 0x0, 0x0, 0x0, .s, .m⟩
  | .ADC_SAT_AUX => ⟨0x200000700018, (1, 0x0), (1, 0x0), 0x0, 0x0, 0xFFFF, 0x0, 0x0, 0x0, .s, .m⟩
  | .ADC_RS => ⟨0x200000700100, (64, 0x4), (1, 0x0), 0x0, 0x0, 0x0, 0x0, 0x0, 0x0, .s, .m⟩
  | .ADC_AUX => ⟨0x200000700200, (16, 0x4), (1, 0x0), 0x0, 0x0, 0x0, 0x0, 0x0, 0x0, .s, .m⟩
  | .LDG_CMD => ⟨0x200000800000, (1, 0x0), (1, 0x0), 0x0, 0x70FFFFF, 0x0, 0x0, 0x0, 0x80000000, .h, .m⟩
  | .LDG_CMD_STAT => ⟨0x200000800004, (1, 0x0), (1, 0x0), 0x0, 0x0, 0x80000000, 0x0, 0x0, 0x0, .h, .m⟩
  | .LDG_DATA => ⟨0x200000800040, (16, 0x4), (1, 0x0), 0x0, 0xFFFFFFFF, 0x0, 0x0, 0x0, 0x0, .h, .m⟩
  | .LDG_RING_HEAD => ⟨0x200000800080, (1, 0x0), (1, 0x0), 0x0, 0x0, 0x0, 0x0, 0x0, 0x0, .h, .m⟩
  | .LDG_RING_TAIL => ⟨0x200000800084, (1, 0x0), (1, 0x0), 0x0, 0xFFFFF, 0x0, 0x0, 0x0, 0x0, .h, .m⟩
  | .LDG_RING_LOST => ⟨0x200000800088, (1, 0x0), (1, 0x0), 0x0, 0x0, 0x0, 0x0, 0xFFFF, 0x0, .h, .m⟩
  | .LDG_GRP_PEND_LO => ⟨0x200000800090, (1, 0x0), (1, 0x0), 0x0, 0x0, 0xFFFFFFFF, 0x0, 0x0, 0x0, .h, .m⟩
  | .LDG_GRP_PEND_HI => ⟨0x200000800094, (1, 0x0), (1, 0x0), 0x0, 0x0, 0xFFFFFFFF, 0x0, 0x0, 0x0, .h, .m⟩
  | .LDG_SKIP => ⟨0x2000008000A0, (1, 0x0), (1, 0x0), 0x0, 0x0, 0x0, 0x0, 0xFFFF, 0x0, .h, .m⟩
  | .LDG_OUT => ⟨0x2000008000A4, (1, 0x0), (1, 0x0), 0x0, 0x0, 0x0, 0x0, 0x0, 0x0, .h, .m⟩
  | .LDG_PART_SEL => ⟨0x2000008000B0, (1, 0x0), (1, 0x0), 0x0, 0xFFF, 0x0, 0x0, 0x0, 0x0, .h, .m⟩
  | .LDG_PART_STAT0 => ⟨0x2000008000B4, (1, 0x0), (1, 0x0), 0x0, 0x0, 0x0, 0x0, 0xFFFF0000, 0x0, .h, .m⟩
  | .LDG_PART_STAT1 => ⟨0x2000008000B8, (1, 0x0), (1, 0x0), 0x0, 0x0, 0x0, 0x0, 0xFFFFFFFF, 0x0, .h, .m⟩
  | .CMP_STATUS => ⟨0x200000900000, (1, 0x0), (1, 0x0), 0x0, 0x0, 0x0, 0x0, 0x0, 0x0, .s, .m⟩
  | .CMP_CTL => ⟨0x200000900004, (1, 0x0), (1, 0x0), 0x0, 0x0, 0x0, 0x0, 0x0, 0x3F, .s, .m⟩
  | .CMP_EVT => ⟨0x200000900010, (1, 0x0), (1, 0x0), 0x0, 0x0, 0x7FFF, 0x0, 0x0, 0x0, .s, .m⟩
  | .CMP_EVT_EN => ⟨0x200000900014, (1, 0x0), (1, 0x0), 0x0, 0x7FFF, 0x0, 0x0, 0x0, 0x0, .s, .m⟩
  | .CMP_HB_MISS => ⟨0x200000900018, (1, 0x0), (1, 0x0), 0x0, 0x0, 0x0, 0x0, 0xFFFF, 0x0, .s, .m⟩
  | .CMP_REC_ERR => ⟨0x20000090001C, (1, 0x0), (1, 0x0), 0x0, 0x0, 0x0, 0x0, 0xFFFF, 0x0, .s, .m⟩
  | .CMP_MISMATCH => ⟨0x200000900020, (1, 0x0), (1, 0x0), 0x0, 0x0, 0x80000000, 0x0, 0x0, 0x0, .s, .m⟩
  | .CMP_TAKE_TICK_LO => ⟨0x200000900028, (1, 0x0), (1, 0x0), 0x0, 0x0, 0x0, 0x0, 0x0, 0x0, .s, .m⟩
  | .CMP_TAKE_TICK_HI => ⟨0x20000090002C, (1, 0x0), (1, 0x0), 0x0, 0x0, 0x0, 0x0, 0x0, 0x0, .s, .m⟩
  | .CMP_DIGEST_LO => ⟨0x200000900030, (1, 0x0), (1, 0x0), 0x0, 0x0, 0x0, 0x0, 0x0, 0x0, .s, .m⟩
  | .CMP_DIGEST_HI => ⟨0x200000900034, (1, 0x0), (1, 0x0), 0x0, 0x0, 0x0, 0x0, 0x0, 0x0, .s, .m⟩
  | .CMP_PEER_DIGEST_LO => ⟨0x200000900038, (1, 0x0), (1, 0x0), 0x0, 0x0, 0x0, 0x0, 0x0, 0x0, .s, .m⟩
  | .CMP_PEER_DIGEST_HI => ⟨0x20000090003C, (1, 0x0), (1, 0x0), 0x0, 0x0, 0x0, 0x0, 0x0, 0x0, .s, .m⟩
  | .CMP_MIG_ADDR_LO => ⟨0x200000900040, (1, 0x0), (1, 0x0), 0x0, 0xFFFFFFFF, 0x0, 0x0, 0x0, 0x0, .s, .m⟩
  | .CMP_MIG_ADDR_HI => ⟨0x200000900044, (1, 0x0), (1, 0x0), 0x0, 0xFFFF, 0x0, 0x0, 0x0, 0x0, .s, .m⟩
  | .CMP_MIG_CTL => ⟨0x200000900048, (1, 0x0), (1, 0x0), 0x0, 0xFF, 0x0, 0x0, 0x0, 0x80000000, .s, .m⟩
  | .CMP_MIG_STAT => ⟨0x20000090004C, (1, 0x0), (1, 0x0), 0x0, 0x0, 0x80000000, 0x0, 0x0, 0x0, .s, .m⟩
  | .CMP_MIG_RX_LO => ⟨0x200000900050, (1, 0x0), (1, 0x0), 0x0, 0xFFFFFFFF, 0x0, 0x0, 0x0, 0x0, .s, .m⟩
  | .CMP_MIG_RX_HI => ⟨0x200000900054, (1, 0x0), (1, 0x0), 0x0, 0xFFFF, 0x0, 0x0, 0x0, 0x0, .s, .m⟩
  | .CMP_MIG_RXSTAT => ⟨0x200000900058, (1, 0x0), (1, 0x0), 0x0, 0x0, 0x80000000, 0x0, 0x0, 0x0, .s, .m⟩
  | .EVD_ACK => ⟨0x200000A00000, (1, 0x0), (1, 0x0), 0xFFFFF, 0x0, 0x0, 0x0, 0x0, 0x0, .s, .s⟩
  | .EVD_EOI => ⟨0x200000A00004, (1, 0x0), (1, 0x0), 0x0, 0x0, 0x0, 0x0, 0x0, 0xFFFF, .s, .s⟩
  | .EVD_PMR => ⟨0x200000A00008, (1, 0x0), (1, 0x0), 0x10, 0x1F, 0x0, 0x0, 0x0, 0x0, .s, .s⟩
  | .EVD_RPR => ⟨0x200000A0000C, (1, 0x0), (1, 0x0), 0x10, 0x0, 0x0, 0x0, 0x0, 0x0, .s, .s⟩
  | .EVD_SWGEN => ⟨0x200000A00010, (1, 0x0), (1, 0x0), 0x0, 0x0, 0x0, 0x0, 0x0, 0x3F, .s, .s⟩
  | .EVD_FALLBACK => ⟨0x200000A00020, (1, 0x0), (1, 0x0), 0x0, 0x1F, 0x0, 0x0, 0x0, 0x0, .s, .m⟩
  | .EVD_STATUS => ⟨0x200000A00024, (1, 0x0), (1, 0x0), 0x0, 0x0, 0x2, 0x0, 0x0, 0x0, .s, .h⟩
  | .EVD_EN_SET => ⟨0x200000A00100, (64, 0x4), (1, 0x0), 0x0, 0x0, 0x0, 0xFFFFFFFF, 0x0, 0x0, .s, .h⟩
  | .EVD_EN_CLR => ⟨0x200000A00200, (64, 0x4), (1, 0x0), 0x0, 0x0, 0xFFFFFFFF, 0x0, 0x0, 0x0, .s, .h⟩
  | .EVD_PEND_SET => ⟨0x200000A00300, (64, 0x4), (1, 0x0), 0x0, 0x0, 0x0, 0xFFFFFFFF, 0x0, 0x0, .s, .h⟩
  | .EVD_PEND_CLR => ⟨0x200000A00400, (64, 0x4), (1, 0x0), 0x0, 0x0, 0xFFFFFFFF, 0x0, 0x0, 0x0, .s, .h⟩
  | .EVD_ACTIVE => ⟨0x200000A00500, (64, 0x4), (1, 0x0), 0x0, 0x0, 0x0, 0x0, 0x0, 0x0, .s, .h⟩
  | .EVD_SRC_CFG => ⟨0x200000A01000, (2048, 0x4), (1, 0x0), 0x3F0F, 0x3F1F, 0x0, 0x0, 0x0, 0x0, .s, .h⟩
  | .EVD_TGT_MOD => ⟨0x200000A04000, (32, 0x10), (1, 0x0), 0x0, 0xFFFF, 0x0, 0x0, 0x0, 0x0, .s, .h⟩
  | .EVD_TGT_STAT => ⟨0x200000A04004, (32, 0x10), (1, 0x0), 0x10, 0x0, 0x0, 0x0, 0xFFFF0000, 0x0, .s, .h⟩
  | .MBX_CFG => ⟨0x200000B00000, (128, 0x100), (1, 0x0), 0xFFFF, 0xFFFF, 0x0, 0x0, 0x0, 0x0, .s, .m⟩
  | .MBX_TMO => ⟨0x200000B00004, (128, 0x100), (1, 0x0), 0xF4240, 0xFFFFFFFF, 0x0, 0x0, 0x0, 0x0, .s, .m⟩
  | .MBX_EVT => ⟨0x200000B00008, (128, 0x100), (1, 0x0), 0x0, 0x0, 0x3F, 0x0, 0x0, 0x0, .s, .s⟩
  | .MBX_EVT_EN => ⟨0x200000B0000C, (128, 0x100), (1, 0x0), 0x0, 0x3F, 0x0, 0x0, 0x0, 0x0, .s, .s⟩
  | .MBX_STATUS => ⟨0x200000B00010, (128, 0x100), (1, 0x0), 0x0, 0x0, 0x0, 0x0, 0x0, 0x0, .s, .s⟩
  | .MBX_ERR => ⟨0x200000B00014, (128, 0x100), (1, 0x0), 0x0, 0x0, 0x0, 0x0, 0xFFFFFFFF, 0x0, .s, .s⟩
  | .MBX_ERR2 => ⟨0x200000B00018, (128, 0x100), (1, 0x0), 0x0, 0x0, 0x0, 0x0, 0xFFFFFFFF, 0x0, .s, .s⟩
  | .MBX_AB_TX => ⟨0x200000B00020, (128, 0x100), (1, 0x0), 0x0, 0x0, 0x0, 0x0, 0x0, 0xFFFFFFFF, .s, .s⟩
  | .MBX_AB_ACK => ⟨0x200000B00024, (128, 0x100), (1, 0x0), 0x0, 0xFFFF, 0x0, 0x0, 0x0, 0x0, .s, .s⟩
  | .MBX_AB_RX_STAMP => ⟨0x200000B00028, (128, 0x100), (1, 0x0), 0x0, 0x0, 0x0, 0x0, 0x0, 0x0, .s, .s⟩
  | .MBX_AB_RX_DATA => ⟨0x200000B0002C, (128, 0x100), (1, 0x0), 0x0, 0x0, 0x0, 0x0, 0x0, 0x0, .s, .s⟩
  | .MBX_BA_TX => ⟨0x200000B00040, (128, 0x100), (1, 0x0), 0x0, 0x0, 0x0, 0x0, 0x0, 0xFFFFFFFF, .s, .s⟩
  | .MBX_BA_ACK => ⟨0x200000B00044, (128, 0x100), (1, 0x0), 0x0, 0xFFFF, 0x0, 0x0, 0x0, 0x0, .s, .s⟩
  | .MBX_BA_RX_STAMP => ⟨0x200000B00048, (128, 0x100), (1, 0x0), 0x0, 0x0, 0x0, 0x0, 0x0, 0x0, .s, .s⟩
  | .MBX_BA_RX_DATA => ⟨0x200000B0004C, (128, 0x100), (1, 0x0), 0x0, 0x0, 0x0, 0x0, 0x0, 0x0, .s, .s⟩
  | .DMA_ENG_STATUS => ⟨0x200000C00000, (4, 0x40000), (1, 0x0), 0x0, 0x0, 0x0, 0x0, 0x0, 0x0, .s, .h⟩
  | .DMA_GRP_PEND => ⟨0x200000C00100, (4, 0x40000), (32, 0x4), 0x0, 0x0, 0xFFFFFFFF, 0x0, 0x0, 0x0, .s, .h⟩
  | .DMA_RQ_CFG => ⟨0x200000C00200, (4, 0x40000), (64, 0x4), 0x40, 0xFFFF, 0x0, 0x0, 0x0, 0x0, .s, .h⟩
  | .CH_CTL => ⟨0x200000C10000, (4, 0x40000), (1024, 0x20), 0x0, 0x80, 0x0, 0x0, 0x0, 0x7E, .s, .s⟩
  | .CH_STAT => ⟨0x200000C10004, (4, 0x40000), (1024, 0x20), 0x0, 0x0, 0x70, 0x0, 0x0, 0x0, .s, .s⟩
  | .CH_OWN => ⟨0x200000C10008, (4, 0x40000), (1024, 0x20), 0x3, 0xFF07, 0x0, 0x0, 0x0, 0x0, .s, .h⟩
  | .CH_REM0 => ⟨0x200000C1000C, (4, 0x40000), (1024, 0x20), 0x0, 0x0, 0x0, 0x0, 0x0, 0x0, .s, .h⟩
  | .CH_REM12 => ⟨0x200000C10010, (4, 0x40000), (1024, 0x20), 0x0, 0x0, 0x0, 0x0, 0x0, 0x0, .s, .h⟩
  | .CH_BARGE_LO => ⟨0x200000C10014, (4, 0x40000), (1024, 0x20), 0x0, 0x0, 0x0, 0x0, 0x0, 0x0, .s, .h⟩
  | .CH_BARGE_HI => ⟨0x200000C10018, (4, 0x40000), (1024, 0x20), 0x0, 0x0, 0x0, 0x0, 0x0, 0x0, .s, .h⟩
  | .CH_XFER => ⟨0x200000C1001C, (4, 0x40000), (1024, 0x20), 0x0, 0x0, 0x0, 0x0, 0x0, 0x0, .s, .h⟩
  | .BSN_STATUS => ⟨0x200001F00000, (1, 0x0), (1, 0x0), 0x0, 0x0, 0x3, 0x0, 0xFFFF0000, 0x0, .s, .s⟩
  | .BSN_FREE => ⟨0x200001F00004, (1, 0x0), (1, 0x0), 0x0, 0x0, 0x0, 0x0, 0x0, 0xFDFFFF, .s, .s⟩
  | .BSN_POOL_ALLOC => ⟨0x200001F01000, (64, 0x10), (1, 0x0), 0x0, 0x0, 0x0, 0x0, 0x3FFFF, 0x0, .s, .s⟩
  | .BSN_POOL_HELD => ⟨0x200001F01004, (64, 0x10), (1, 0x0), 0x0, 0x0, 0x0, 0x0, 0x0, 0x0, .s, .s⟩
  | .BSN_POOL_STAT => ⟨0x200001F01008, (64, 0x10), (1, 0x0), 0x0, 0x0, 0x0, 0x0, 0xFFFF, 0x0, .s, .s⟩
  | .BSN_POOL_PEAK => ⟨0x200001F0100C, (64, 0x10), (1, 0x0), 0x0, 0x0, 0x0, 0x0, 0x3FFFF, 0x0, .s, .s⟩
  | .STL_BIND => ⟨0x200000D00800, (256, 0x1000), (1, 0x0), 0x0, 0xFFFF, 0x0, 0x0, 0x0, 0x0, .u, .u⟩
  | .STL_CTL => ⟨0x200000D00804, (256, 0x1000), (1, 0x0), 0x0, 0x0, 0x0, 0x0, 0x0, 0xF, .u, .u⟩
  | .STL_MGR_STAT => ⟨0x200000D00808, (256, 0x1000), (1, 0x0), 0x0, 0x0, 0xE000, 0x0, 0xFFFF0000, 0x0, .u, .u⟩
  | .STL_REC_ADDR_LO => ⟨0x200000D00810, (256, 0x1000), (1, 0x0), 0x0, 0xFFFFFFFF, 0x0, 0x0, 0x0, 0x0, .u, .u⟩
  | .STL_REC_ADDR_HI => ⟨0x200000D00814, (256, 0x1000), (1, 0x0), 0x0, 0xFFFF, 0x0, 0x0, 0x0, 0x0, .u, .u⟩
  | .STL_CNT => ⟨0x200000D00818, (256, 0x1000), (1, 0x0), 0x0, 0x0, 0x0, 0x0, 0x0, 0x0, .u, .u⟩
  | .STL_MBX_MAP => ⟨0x200000D00840, (256, 0x1000), (8, 0x4), 0x0, 0x8000017F, 0x0, 0x0, 0x0, 0x0, .u, .u⟩
  | .STL_VIEW_BASE => ⟨0x200000D00880, (256, 0x1000), (16, 0x8), 0x0, 0xFFFFF, 0x0, 0x0, 0x0, 0x0, .u, .u⟩
  | .STL_VIEW_CNT => ⟨0x200000D00884, (256, 0x1000), (16, 0x8), 0x0, 0x801FFFFF, 0x0, 0x0, 0x0, 0x0, .u, .u⟩
  | .STL_SRC => ⟨0x200000D00900, (256, 0x1000), (32, 0x4), 0x0, 0x800007FF, 0x0, 0x0, 0x0, 0x0, .u, .u⟩
  | .STL_WIN_A => ⟨0x200000D00980, (256, 0x1000), (4, 0x8), 0x0, 0xFFFFFFFF, 0x0, 0x0, 0x0, 0x0, .u, .u⟩
  | .STL_WIN_B => ⟨0x200000D00984, (256, 0x1000), (4, 0x8), 0x0, 0xFC0FFFFF, 0x0, 0x0, 0x0, 0x0, .u, .u⟩
  | .STL_T_ID => ⟨0x200000D00000, (256, 0x1000), (1, 0x0), 0x0, 0x0, 0x0, 0x0, 0x0, 0x0, .u, .u⟩
  | .STL_T_BELL => ⟨0x200000D00004, (256, 0x1000), (1, 0x0), 0x0, 0x0, 0x0, 0x0, 0x0, 0x1, .u, .u⟩
  | .STL_T_EN_SET => ⟨0x200000D00010, (256, 0x1000), (1, 0x0), 0x0, 0x0, 0x0, 0xFFFFFFFF, 0x0, 0x0, .u, .u⟩
  | .STL_T_EN_CLR => ⟨0x200000D00014, (256, 0x1000), (1, 0x0), 0x0, 0x0, 0xFFFFFFFF, 0x0, 0x0, 0x0, .u, .u⟩
  | .STL_T_PEND => ⟨0x200000D00018, (256, 0x1000), (1, 0x0), 0x0, 0x0, 0x0, 0x0, 0x0, 0x0, .u, .u⟩
  | .STL_T_PEND_CLR => ⟨0x200000D0001C, (256, 0x1000), (1, 0x0), 0x0, 0x0, 0xFFFFFFFF, 0x0, 0x0, 0x0, .u, .u⟩
  | .STL_T_BSN_ALLOC => ⟨0x200000D00020, (256, 0x1000), (1, 0x0), 0x0, 0x0, 0x0, 0x0, 0x3FFFF, 0x0, .u, .u⟩
  | .STL_T_BSN_FREE => ⟨0x200000D00024, (256, 0x1000), (1, 0x0), 0x0, 0x0, 0x0, 0x0, 0x0, 0x1FFFF, .u, .u⟩
  | .STL_T_BSN_HELD => ⟨0x200000D00028, (256, 0x1000), (1, 0x0), 0x0, 0x0, 0x0, 0x0, 0x0, 0x0, .u, .u⟩
  | .STL_T_LV_CMD => ⟨0x200000D00040, (256, 0x1000), (1, 0x0), 0x0, 0x1F1FFFFF, 0x0, 0x0, 0x0, 0x80000000, .u, .u⟩
  | .STL_T_LV_STAT => ⟨0x200000D00044, (256, 0x1000), (1, 0x0), 0x0, 0x0, 0x80000000, 0x0, 0x0, 0x0, .u, .u⟩
  | .STL_T_LV_DATA => ⟨0x200000D00080, (256, 0x1000), (16, 0x4), 0x0, 0xFFFFFFFF, 0x0, 0x0, 0x0, 0x0, .u, .u⟩
  | .PWR_PKG_CTL => ⟨0x200000E00000, (1, 0x0), (1, 0x0), 0x0, 0x6, 0x0, 0x0, 0x0, 0x1, .s, .m⟩
  | .PWR_PKG_STAT => ⟨0x200000E00004, (1, 0x0), (1, 0x0), 0x0, 0x0, 0x0, 0x0, 0x0, 0x0, .s, .m⟩
  | .PWR_WAKE_EN => ⟨0x200000E00008, (1, 0x0), (1, 0x0), 0x0, 0x3FF, 0x0, 0x0, 0x0, 0x0, .s, .m⟩
  | .PWR_WAKE_CAUSE => ⟨0x200000E0000C, (1, 0x0), (1, 0x0), 0x0, 0x0, 0x3FF, 0x0, 0x0, 0x0, .s, .m⟩
  | .PWR_STBY_CFG => ⟨0x200000E00010, (1, 0x0), (1, 0x0), 0x0, 0x10F, 0x0, 0x0, 0x0, 0x0, .s, .m⟩
  | .PWR_LAST => ⟨0x200000E00014, (1, 0x0), (1, 0x0), 0x0, 0x0, 0x180, 0x0, 0x0, 0x0, .s, .m⟩
  | .PWR_STICKY => ⟨0x200000E00020, (4, 0x4), (1, 0x0), 0x0, 0xFFFFFFFF, 0x0, 0x0, 0x0, 0x0, .s, .m⟩
  | .PWR_SLUICE_CFG => ⟨0x200000E00030, (1, 0x0), (1, 0x0), 0x14, 0xFF, 0x0, 0x0, 0x0, 0x0, .s, .m⟩
  | .PWR_UNIT_CTL => ⟨0x200000E00040, (1, 0x0), (1, 0x0), 0x0, 0xFFFF, 0x0, 0x0, 0x0, 0x3F0000, .s, .m⟩
  | .PWR_UNIT_STAT => ⟨0x200000E00044, (1, 0x0), (1, 0x0), 0x0, 0x0, 0x80000000, 0x0, 0x0, 0x0, .s, .m⟩
  | .PWR_CORE_CTL => ⟨0x200000E00100, (32, 0x10), (1, 0x0), 0x1, 0x3, 0x0, 0x0, 0x0, 0x4, .s, .m⟩
  | .PWR_CORE_STAT => ⟨0x200000E00104, (32, 0x10), (1, 0x0), 0x0, 0x0, 0x4, 0x0, 0x0, 0x0, .s, .m⟩
  | .PWR_CORE_RVEC_LO => ⟨0x200000E00108, (32, 0x10), (1, 0x0), 0x0, 0xFFFFFFFF, 0x0, 0x0, 0x0, 0x0, .s, .m⟩
  | .PWR_CORE_RVEC_HI => ⟨0x200000E0010C, (32, 0x10), (1, 0x0), 0x0, 0xFFFFFFFF, 0x0, 0x0, 0x0, 0x0, .s, .m⟩
  | .PWR_CC_FREQ => ⟨0x200000E00400, (8, 0x10), (1, 0x0), 0x0, 0x3F, 0x0, 0x0, 0x0, 0x0, .s, .m⟩
  | .PWR_REG_CTL => ⟨0x200000E00500, (4, 0x10), (1, 0x0), 0x0, 0x7FFC03FF, 0x0, 0x0, 0x0, 0x80000000, .s, .m⟩
  | .PWR_REG_STAT => ⟨0x200000E00504, (4, 0x10), (1, 0x0), 0x0, 0x0, 0x0, 0x0, 0x0, 0x0, .s, .m⟩
  | .PORT_CTL => ⟨0x200001000000, (52, 0x10000), (1, 0x0), 0x0, 0x3, 0x0, 0x0, 0x0, 0x0, .s, .m⟩
  | .PORT_STAT => ⟨0x200001000004, (52, 0x10000), (1, 0x0), 0x0, 0x0, 0x0, 0x0, 0x0, 0x0, .s, .m⟩
  | .PORT_EVT => ⟨0x200001000010, (52, 0x10000), (1, 0x0), 0x0, 0x0, 0x7F, 0x0, 0x0, 0x0, .s, .m⟩
  | .PORT_EVT_EN => ⟨0x200001000014, (52, 0x10000), (1, 0x0), 0x0, 0x7F, 0x0, 0x0, 0x0, 0x0, .s, .m⟩
  | .PORT_ERR0 => ⟨0x200001000018, (52, 0x10000), (1, 0x0), 0x0, 0x0, 0x0, 0x0, 0xFFFFFFFF, 0x0, .s, .m⟩
  | .PORT_ERR1 => ⟨0x20000100001C, (52, 0x10000), (1, 0x0), 0x0, 0x0, 0x0, 0x0, 0xFFFFFFFF, 0x0, .s, .m⟩
  | .PORT_RXQ => ⟨0x200001000020, (52, 0x10000), (1, 0x0), 0x0, 0x0, 0x0, 0x0, 0x3FFFF, 0x0, .s, .m⟩
  | .PORT_TXQ => ⟨0x200001000024, (52, 0x10000), (1, 0x0), 0x0, 0x0, 0x0, 0x0, 0x0, 0x3FFFF, .s, .m⟩
  | .PORT_LANE_ERR => ⟨0x200001000040, (52, 0x10000), (8, 0x4), 0x0, 0x0, 0x0, 0x0, 0xFFFF, 0x0, .s, .m⟩
  | .PORT_RAW_CMD => ⟨0x200001000080, (52, 0x10000), (1, 0x0), 0x0, 0x4FFFFFFF, 0x0, 0x0, 0x0, 0x80000000, .s, .m⟩
  | .PORT_RAW_DATA => ⟨0x200001000084, (52, 0x10000), (1, 0x0), 0x0, 0xFFFFFFFF, 0x0, 0x0, 0x0, 0x0, .s, .m⟩
  | .PORT_RAW_RES => ⟨0x200001000088, (52, 0x10000), (1, 0x0), 0x0, 0x0, 0x80000000, 0x0, 0x0, 0x0, .s, .m⟩
  | .SW_VLAN => ⟨0x200001C00000, (4096, 0x4), (1, 0x0), 0x0, 0x80FFFFFF, 0x0, 0x0, 0x0, 0x0, .s, .m⟩
  | .SW_CPU_MAC_LO => ⟨0x200001C04000, (1, 0x0), (1, 0x0), 0x0, 0xFFFFFFFF, 0x0, 0x0, 0x0, 0x0, .s, .m⟩
  | .SW_CPU_MAC_HI => ⟨0x200001C04004, (1, 0x0), (1, 0x0), 0x0, 0xFFFF, 0x0, 0x0, 0x0, 0x0, .s, .m⟩
  | .SW_CPU_IP => ⟨0x200001C04008, (1, 0x0), (1, 0x0), 0x0, 0xFFFFFFFF, 0x0, 0x0, 0x0, 0x0, .s, .m⟩
  | .SW_STORM => ⟨0x200001C0400C, (1, 0x0), (1, 0x0), 0x0, 0xFFFFFFFF, 0x0, 0x0, 0x0, 0x0, .s, .m⟩
  | .GPIO_IN => ⟨0x200001E00000, (4, 0x4), (1, 0x0), 0x0, 0x0, 0x0, 0x0, 0x0, 0x0, .s, .m⟩
  | .GPIO_OUT => ⟨0x200001E00010, (4, 0x4), (1, 0x0), 0x0, 0xFFFFFFFF, 0x0, 0x0, 0x0, 0x0, .s, .m⟩
  | .FAN_PWM => ⟨0x200001E00100, (16, 0x8), (1, 0x0), 0xFF, 0xFF, 0x0, 0x0, 0x0, 0x0, .s, .m⟩
  | .FAN_STAT => ⟨0x200001E00104, (16, 0x8), (1, 0x0), 0x0, 0x0, 0x80000000, 0x0, 0x0, 0x0, .s, .m⟩
  | .FAN_WDT => ⟨0x200001E00200, (1, 0x0), (1, 0x0), 0x0, 0xFF, 0x0, 0x0, 0x0, 0x80000000, .s, .m⟩
  | .MC_STATUS => ⟨0x200003000000, (4, 0x100000), (1, 0x0), 0x0, 0x0, 0x0, 0x0, 0x0, 0x0, .s, .m⟩
  | .MC_ECC => ⟨0x200003000004, (4, 0x100000), (1, 0x0), 0x0, 0x0, 0x0, 0x0, 0xFFFFFFFF, 0x0, .s, .m⟩
  | .MC_ERR_ADDR_LO => ⟨0x200003000008, (4, 0x100000), (1, 0x0), 0x0, 0x0, 0x0, 0x0, 0x0, 0x0, .s, .m⟩
  | .MC_ERR_ADDR_HI => ⟨0x20000300000C, (4, 0x100000), (1, 0x0), 0x0, 0x0, 0x0, 0x0, 0x0, 0x0, .s, .m⟩
  | .TRC_CTL => ⟨0x200000F00000, (1, 0x0), (1, 0x0), 0x0, 0x1F037D, 0x0, 0x0, 0x0, 0x0, .s, .m⟩
  | .TRC_STATUS => ⟨0x200000F00004, (1, 0x0), (1, 0x0), 0x0, 0x0, 0x2, 0x0, 0x0, 0x0, .s, .m⟩
  | .TRC_LOST => ⟨0x200000F00008, (1, 0x0), (1, 0x0), 0x0, 0x0, 0x0, 0x0, 0xFFFF, 0x0, .s, .m⟩
  | .TRC_BUF_BASE_LO => ⟨0x200000F00010, (1, 0x0), (1, 0x0), 0x0, 0xFFFFFFFF, 0x0, 0x0, 0x0, 0x0, .s, .m⟩
  | .TRC_BUF_BASE_HI => ⟨0x200000F00014, (1, 0x0), (1, 0x0), 0x0, 0xFFFF, 0x0, 0x0, 0x0, 0x0, .s, .m⟩
  | .TRC_BUF_SIZE => ⟨0x200000F00018, (1, 0x0), (1, 0x0), 0x0, 0xFFFFF, 0x0, 0x0, 0x0, 0x0, .s, .m⟩
  | .TRC_BUF_WPTR => ⟨0x200000F0001C, (1, 0x0), (1, 0x0), 0x0, 0x0, 0x0, 0x0, 0x0, 0x0, .s, .m⟩
  | .TRC_DBG_UNLOCK => ⟨0x200000F00100, (1, 0x0), (1, 0x0), 0xE0, 0xE0, 0x0, 0x0, 0x0, 0x80000003, .s, .m⟩
  | .TRC_DBG_STATUS => ⟨0x200000F00104, (1, 0x0), (1, 0x0), 0x0, 0x0, 0x2, 0x0, 0x0, 0x0, .s, .m⟩
  | .DBG_CORE_CTL => ⟨0x200000F01000, (32, 0x20), (1, 0x0), 0x0, 0x8, 0x0, 0x0, 0x0, 0x7, .s, .m⟩
  | .DBG_CORE_STAT => ⟨0x200000F01004, (32, 0x20), (1, 0x0), 0x0, 0x0, 0x0, 0x0, 0x0, 0x0, .s, .m⟩
  | .DBG_CORE_SEL => ⟨0x200000F01008, (32, 0x20), (1, 0x0), 0x0, 0xFFF, 0x0, 0x0, 0x0, 0x0, .s, .m⟩
  | .DBG_CORE_DATA_LO => ⟨0x200000F0100C, (32, 0x20), (1, 0x0), 0x0, 0xFFFFFFFF, 0x0, 0x0, 0x0, 0x0, .s, .m⟩
  | .DBG_CORE_DATA_HI => ⟨0x200000F01010, (32, 0x20), (1, 0x0), 0x0, 0xFFFFFFFF, 0x0, 0x0, 0x0, 0x0, .s, .m⟩
  | .DBG_LE_CTL => ⟨0x200000F02000, (36, 0x10), (1, 0x0), 0x0, 0xA, 0x0, 0x0, 0x0, 0x4, .s, .m⟩
  | .DBG_LE_STAT => ⟨0x200000F02004, (36, 0x10), (1, 0x0), 0x0, 0x0, 0x2, 0x0, 0x0, 0x0, .s, .m⟩
  | .DBG_LE_SEL => ⟨0x200000F02008, (36, 0x10), (1, 0x0), 0x0, 0x3F, 0x0, 0x0, 0x0, 0x0, .s, .m⟩
  | .DBG_LE_DATA => ⟨0x200000F0200C, (36, 0x10), (1, 0x0), 0x0, 0xFFFFFFFF, 0x0, 0x0, 0x0, 0x0, .s, .m⟩

def regs0 : List Reg := [.IMG_ID, .IMG_AMD_SEQ, .IMG_STATUS, .IMG_AMD_ADDR_LO, .IMG_AMD_ADDR_HI, .IMG_AMD_LEN, .IMG_AMD_CTL, .IMG_AMD_RESULT, .IMG_AMD_APPLIED_LO, .IMG_AMD_APPLIED_HI, .IMG_FLOOR, .IMG_HASH, .IMG_AMD_HASH, .KEEP_STATUS, .KEEP_CNT_CTL, .KEEP_CNT_VAL, .KEEP_CNT_STAT, .KEEP_LC_CTL, .KEEP_JOB_ADDR_LO, .KEEP_JOB_ADDR_HI, .KEEP_JOB_CTL, .KEEP_JOB_STAT, .TICK_CTL, .TICK_CFG, .TICK_STATUS, .TICK_TB_LO, .TICK_TB_HI, .TICK_COUNT_LO, .TICK_COUNT_HI, .TICK_EDGE_TB_LO, .TICK_EDGE_TB_HI, .TICK_PHERR, .TICK_OVR_MASK_LO, .TICK_OVR_MASK_HI, .TICK_OVR_CNT, .TICK_OVR_LE, .TICK_OVR_TICK_LO, .TICK_OVR_TICK_HI, .PL_CTL, .PL_STATUS, .PL_PHASE, .PL_PHASE2, .PL_READMIT, .PL_EVT, .PL_EVT_EN, .PL_RTD, .PL_ERR, .PL_AUX, .PL_REG_CMD, .PL_REG_RESULT, .PL_EYE_CTL, .PL_EYE_RES, .PL_PRBS_ERR, .PL_INJ, .LC_STATUS, .LC_SPARE_CTL, .LC_REC_CTL, .LC_EVT, .LC_EVT_EN, .LC_LE_STATUS]
def regs1 : List Reg := [.LC_LE_CTL, .LC_LE_FAULT, .LC_LE_FAULT_LC0, .LC_LE_FAULT_LC1, .LC_LE_FAULT_TICK_LO, .LC_LE_FAULT_TICK_HI, .LC_LE_FAULT_CNT, .LC_LE_SHWIN, .LC_LE_EVT, .LC_LE_CYC, .LC_LE_MAXCYC, .RAIL_FAULT_LO, .RAIL_FAULT_HI, .SEQ_CTL, .SEQ_STATUS, .SEQ_STEP, .HINT_CTL, .HINT_STAT, .HINT_ACC, .HINT_DROP0, .HINT_DROP1, .HINT_EVT, .HINT_EVT_EN, .RAIL_STATE, .RAIL_SETPT, .RAIL_CTL, .RAIL_EVT, .RAIL_EVT_EN, .RAIL_SENSE, .RAIL_IEST, .RAIL_IMEAS, .RAIL_WSHED_LO, .RAIL_WSHED_HI, .RAIL_WCNT0, .RAIL_WCNT1, .ADC_SAT_LO, .ADC_SAT_HI, .ADC_SAT_AUX, .ADC_RS, .ADC_AUX, .LDG_CMD, .LDG_CMD_STAT, .LDG_DATA, .LDG_RING_HEAD, .LDG_RING_TAIL, .LDG_RING_LOST, .LDG_GRP_PEND_LO, .LDG_GRP_PEND_HI, .LDG_SKIP, .LDG_OUT, .LDG_PART_SEL, .LDG_PART_STAT0, .LDG_PART_STAT1, .CMP_STATUS, .CMP_CTL, .CMP_EVT, .CMP_EVT_EN, .CMP_HB_MISS, .CMP_REC_ERR, .CMP_MISMATCH]
def regs2 : List Reg := [.CMP_TAKE_TICK_LO, .CMP_TAKE_TICK_HI, .CMP_DIGEST_LO, .CMP_DIGEST_HI, .CMP_PEER_DIGEST_LO, .CMP_PEER_DIGEST_HI, .CMP_MIG_ADDR_LO, .CMP_MIG_ADDR_HI, .CMP_MIG_CTL, .CMP_MIG_STAT, .CMP_MIG_RX_LO, .CMP_MIG_RX_HI, .CMP_MIG_RXSTAT, .EVD_ACK, .EVD_EOI, .EVD_PMR, .EVD_RPR, .EVD_SWGEN, .EVD_FALLBACK, .EVD_STATUS, .EVD_EN_SET, .EVD_EN_CLR, .EVD_PEND_SET, .EVD_PEND_CLR, .EVD_ACTIVE, .EVD_SRC_CFG, .EVD_TGT_MOD, .EVD_TGT_STAT, .MBX_CFG, .MBX_TMO, .MBX_EVT, .MBX_EVT_EN, .MBX_STATUS, .MBX_ERR, .MBX_ERR2, .MBX_AB_TX, .MBX_AB_ACK, .MBX_AB_RX_STAMP, .MBX_AB_RX_DATA, .MBX_BA_TX, .MBX_BA_ACK, .MBX_BA_RX_STAMP, .MBX_BA_RX_DATA, .DMA_ENG_STATUS, .DMA_GRP_PEND, .DMA_RQ_CFG, .CH_CTL, .CH_STAT, .CH_OWN, .CH_REM0, .CH_REM12, .CH_BARGE_LO, .CH_BARGE_HI, .CH_XFER, .BSN_STATUS, .BSN_FREE, .BSN_POOL_ALLOC, .BSN_POOL_HELD, .BSN_POOL_STAT, .BSN_POOL_PEAK]
def regs3 : List Reg := [.STL_BIND, .STL_CTL, .STL_MGR_STAT, .STL_REC_ADDR_LO, .STL_REC_ADDR_HI, .STL_CNT, .STL_MBX_MAP, .STL_VIEW_BASE, .STL_VIEW_CNT, .STL_SRC, .STL_WIN_A, .STL_WIN_B, .STL_T_ID, .STL_T_BELL, .STL_T_EN_SET, .STL_T_EN_CLR, .STL_T_PEND, .STL_T_PEND_CLR, .STL_T_BSN_ALLOC, .STL_T_BSN_FREE, .STL_T_BSN_HELD, .STL_T_LV_CMD, .STL_T_LV_STAT, .STL_T_LV_DATA, .PWR_PKG_CTL, .PWR_PKG_STAT, .PWR_WAKE_EN, .PWR_WAKE_CAUSE, .PWR_STBY_CFG, .PWR_LAST, .PWR_STICKY, .PWR_SLUICE_CFG, .PWR_UNIT_CTL, .PWR_UNIT_STAT, .PWR_CORE_CTL, .PWR_CORE_STAT, .PWR_CORE_RVEC_LO, .PWR_CORE_RVEC_HI, .PWR_CC_FREQ, .PWR_REG_CTL, .PWR_REG_STAT, .PORT_CTL, .PORT_STAT, .PORT_EVT, .PORT_EVT_EN, .PORT_ERR0, .PORT_ERR1, .PORT_RXQ, .PORT_TXQ, .PORT_LANE_ERR, .PORT_RAW_CMD, .PORT_RAW_DATA, .PORT_RAW_RES, .SW_VLAN, .SW_CPU_MAC_LO, .SW_CPU_MAC_HI, .SW_CPU_IP, .SW_STORM, .GPIO_IN, .GPIO_OUT]
def regs4 : List Reg := [.FAN_PWM, .FAN_STAT, .FAN_WDT, .MC_STATUS, .MC_ECC, .MC_ERR_ADDR_LO, .MC_ERR_ADDR_HI, .TRC_CTL, .TRC_STATUS, .TRC_LOST, .TRC_BUF_BASE_LO, .TRC_BUF_BASE_HI, .TRC_BUF_SIZE, .TRC_BUF_WPTR, .TRC_DBG_UNLOCK, .TRC_DBG_STATUS, .DBG_CORE_CTL, .DBG_CORE_STAT, .DBG_CORE_SEL, .DBG_CORE_DATA_LO, .DBG_CORE_DATA_HI, .DBG_LE_CTL, .DBG_LE_STAT, .DBG_LE_SEL, .DBG_LE_DATA]

/-- Every register of the control space. -/
def Reg.all : List Reg := regs0 ++ regs1 ++ regs2 ++ regs3 ++ regs4

/-- The index of the instance of `r` at physical address `a`, if `a` is one of its addresses. -/
def Reg.hit (r : Reg) (a : Nat) : Option Nat :=
  let d := r.desc
  if a < d.addr then none else
  let off := a - d.addr
  let i := if d.d1.2 = 0 then 0 else min (off / d.d1.2) (d.d1.1 - 1)
  let rem := off - i * d.d1.2
  let j := if d.d2.2 = 0 then 0 else min (rem / d.d2.2) (d.d2.1 - 1)
  if rem - j * d.d2.2 = 0 then some (i * d.d2.1 + j) else none

/-- The physical address of instance `i` of `r`. -/
def Reg.addrOf (r : Reg) (i : Nat) : Nat :=
  r.desc.addr + i / r.desc.d2.1 * r.desc.d1.2 + i % r.desc.d2.1 * r.desc.d2.2

/-- The register and instance that occupies physical address `a` (R7: none where no register stands). -/
def Reg.at (a : Nat) : Option (Reg × Nat) := Reg.all.findSome? (fun r => (r.hit a).map (fun i => (r, i)))

/-! ### Named fields, as the register tables name them -/

abbrev F.IMG_ID.VERSION : Fld := ⟨31, 0⟩
abbrev F.IMG_AMD_SEQ.SEQ : Fld := ⟨31, 0⟩
abbrev F.IMG_STATUS.AMD_STATE : Fld := ⟨13, 12⟩
abbrev F.IMG_STATUS.DRAIN : Fld := ⟨11, 8⟩
abbrev F.IMG_STATUS.IN_SERVICE : Fld := ⟨7, 4⟩
abbrev F.IMG_STATUS.LOADED : Fld := ⟨0, 0⟩
abbrev F.IMG_AMD_ADDR_LO.ADDR : Fld := ⟨31, 3⟩
abbrev F.IMG_AMD_ADDR_HI.ADDR : Fld := ⟨15, 0⟩
abbrev F.IMG_AMD_LEN.LEN : Fld := ⟨22, 0⟩
abbrev F.IMG_AMD_CTL.VERIFY_ONLY : Fld := ⟨7, 7⟩
abbrev F.IMG_AMD_CTL.CLASS : Fld := ⟨6, 4⟩
abbrev F.IMG_AMD_CTL.CANCEL : Fld := ⟨1, 1⟩
abbrev F.IMG_AMD_CTL.SUBMIT : Fld := ⟨0, 0⟩
abbrev F.IMG_AMD_RESULT.DETAIL : Fld := ⟨19, 12⟩
abbrev F.IMG_AMD_RESULT.SECTION : Fld := ⟨11, 4⟩
abbrev F.IMG_AMD_RESULT.CODE : Fld := ⟨3, 0⟩
abbrev F.IMG_AMD_APPLIED_LO.TICK : Fld := ⟨31, 0⟩
abbrev F.IMG_AMD_APPLIED_HI.TICK : Fld := ⟨31, 0⟩
abbrev F.IMG_FLOOR.FLOOR : Fld := ⟨31, 0⟩
abbrev F.IMG_HASH.HASH : Fld := ⟨31, 0⟩
abbrev F.IMG_AMD_HASH.HASH : Fld := ⟨31, 0⟩
abbrev F.KEEP_STATUS.LIFECYCLE : Fld := ⟨11, 8⟩
abbrev F.KEEP_STATUS.KEY_SLOT : Fld := ⟨5, 4⟩
abbrev F.KEEP_STATUS.LMS_EXH : Fld := ⟨3, 3⟩
abbrev F.KEEP_STATUS.TRNG_FAIL : Fld := ⟨2, 2⟩
abbrev F.KEEP_STATUS.RECOVERY : Fld := ⟨1, 1⟩
abbrev F.KEEP_STATUS.ALT_COPY : Fld := ⟨0, 0⟩
abbrev F.KEEP_CNT_CTL.CLASS : Fld := ⟨11, 9⟩
abbrev F.KEEP_CNT_CTL.INC : Fld := ⟨8, 8⟩
abbrev F.KEEP_CNT_CTL.INDEX : Fld := ⟨5, 0⟩
abbrev F.KEEP_CNT_VAL.VALUE : Fld := ⟨31, 0⟩
abbrev F.KEEP_CNT_STAT.CODE : Fld := ⟨3, 0⟩
abbrev F.KEEP_LC_CTL.CLASS : Fld := ⟨7, 5⟩
abbrev F.KEEP_LC_CTL.GO : Fld := ⟨4, 4⟩
abbrev F.KEEP_LC_CTL.TARGET : Fld := ⟨3, 0⟩
abbrev F.KEEP_JOB_ADDR_LO.ADDR : Fld := ⟨31, 0⟩
abbrev F.KEEP_JOB_ADDR_HI.ADDR : Fld := ⟨15, 0⟩
abbrev F.KEEP_JOB_CTL.GO : Fld := ⟨0, 0⟩
abbrev F.KEEP_JOB_STAT.DONE : Fld := ⟨7, 7⟩
abbrev F.KEEP_JOB_STAT.CODE : Fld := ⟨3, 0⟩
abbrev F.TICK_CTL.TICK_OUT_EN : Fld := ⟨8, 8⟩
abbrev F.TICK_CTL.TICKIN_DLY : Fld := ⟨7, 0⟩
abbrev F.TICK_CFG.SOURCE : Fld := ⟨8, 8⟩
abbrev F.TICK_CFG.PERIOD : Fld := ⟨6, 0⟩
abbrev F.TICK_STATUS.STOPPED : Fld := ⟨5, 5⟩
abbrev F.TICK_STATUS.HOLDOVER : Fld := ⟨4, 4⟩
abbrev F.TICK_STATUS.ALIGNED : Fld := ⟨3, 3⟩
abbrev F.TICK_STATUS.ON_TICKIN : Fld := ⟨2, 2⟩
abbrev F.TICK_STATUS.RUNNING : Fld := ⟨1, 1⟩
abbrev F.TICK_STATUS.LOCKED : Fld := ⟨0, 0⟩
abbrev F.TICK_TB_LO.V : Fld := ⟨31, 0⟩
abbrev F.TICK_TB_HI.V : Fld := ⟨31, 0⟩
abbrev F.TICK_COUNT_LO.V : Fld := ⟨31, 0⟩
abbrev F.TICK_COUNT_HI.V : Fld := ⟨31, 0⟩
abbrev F.TICK_EDGE_TB_LO.V : Fld := ⟨31, 0⟩
abbrev F.TICK_EDGE_TB_HI.V : Fld := ⟨31, 0⟩
abbrev F.TICK_PHERR.ERR : Fld := ⟨15, 0⟩
abbrev F.TICK_OVR_MASK_LO.LE : Fld := ⟨31, 0⟩
abbrev F.TICK_OVR_MASK_HI.LE : Fld := ⟨3, 0⟩
abbrev F.TICK_OVR_CNT.COUNT : Fld := ⟨15, 0⟩
abbrev F.TICK_OVR_LE.VALID : Fld := ⟨6, 6⟩
abbrev F.TICK_OVR_LE.LE : Fld := ⟨5, 0⟩
abbrev F.TICK_OVR_TICK_LO.TICK : Fld := ⟨31, 0⟩
abbrev F.TICK_OVR_TICK_HI.TICK : Fld := ⟨31, 0⟩
abbrev F.PL_CTL.TEST : Fld := ⟨15, 13⟩
abbrev F.PL_CTL.TEST_ADDR : Fld := ⟨12, 10⟩
abbrev F.PL_CTL.EYE_GO : Fld := ⟨4, 4⟩
abbrev F.PL_CTL.DISABLE : Fld := ⟨3, 3⟩
abbrev F.PL_CTL.REENABLE : Fld := ⟨2, 2⟩
abbrev F.PL_CTL.ENUM_GO : Fld := ⟨1, 1⟩
abbrev F.PL_STATUS.DIS_CAUSE : Fld := ⟨11, 8⟩
abbrev F.PL_STATUS.TREFUSED : Fld := ⟨5, 5⟩
abbrev F.PL_STATUS.STATE : Fld := ⟨4, 2⟩
abbrev F.PL_STATUS.GEN : Fld := ⟨1, 0⟩
abbrev F.PL_PHASE.CONFLICT : Fld := ⟨31, 24⟩
abbrev F.PL_PHASE.ERRSHED : Fld := ⟨23, 16⟩
abbrev F.PL_PHASE.ABSENT : Fld := ⟨15, 8⟩
abbrev F.PL_PHASE.WOKEN : Fld := ⟨7, 0⟩
abbrev F.PL_PHASE2.FLT : Fld := ⟨23, 16⟩
abbrev F.PL_PHASE2.UNEXPECTED : Fld := ⟨15, 8⟩
abbrev F.PL_PHASE2.MISMATCH : Fld := ⟨7, 0⟩
abbrev F.PL_READMIT.MASK : Fld := ⟨7, 0⟩
abbrev F.PL_EVT.EYE_DONE : Fld := ⟨10, 10⟩
abbrev F.PL_EVT.REG_DONE : Fld := ⟨9, 9⟩
abbrev F.PL_EVT.ENUM_DONE : Fld := ⟨8, 8⟩
abbrev F.PL_EVT.STAGE_FLT : Fld := ⟨7, 7⟩
abbrev F.PL_EVT.BUSFAIL : Fld := ⟨6, 6⟩
abbrev F.PL_EVT.BABBLE : Fld := ⟨5, 5⟩
abbrev F.PL_EVT.MISMATCH : Fld := ⟨4, 4⟩
abbrev F.PL_EVT.UNEXPECTED : Fld := ⟨3, 3⟩
abbrev F.PL_EVT.CONFLICT : Fld := ⟨2, 2⟩
abbrev F.PL_EVT.ERRSHED : Fld := ⟨1, 1⟩
abbrev F.PL_EVT.ABSENT : Fld := ⟨0, 0⟩
abbrev F.PL_EVT_EN.EYE_DONE : Fld := ⟨10, 10⟩
abbrev F.PL_EVT_EN.REG_DONE : Fld := ⟨9, 9⟩
abbrev F.PL_EVT_EN.ENUM_DONE : Fld := ⟨8, 8⟩
abbrev F.PL_EVT_EN.STAGE_FLT : Fld := ⟨7, 7⟩
abbrev F.PL_EVT_EN.BUSFAIL : Fld := ⟨6, 6⟩
abbrev F.PL_EVT_EN.BABBLE : Fld := ⟨5, 5⟩
abbrev F.PL_EVT_EN.MISMATCH : Fld := ⟨4, 4⟩
abbrev F.PL_EVT_EN.UNEXPECTED : Fld := ⟨3, 3⟩
abbrev F.PL_EVT_EN.CONFLICT : Fld := ⟨2, 2⟩
abbrev F.PL_EVT_EN.ERRSHED : Fld := ⟨1, 1⟩
abbrev F.PL_EVT_EN.ABSENT : Fld := ⟨0, 0⟩
abbrev F.PL_RTD.VALID : Fld := ⟨8, 8⟩
abbrev F.PL_RTD.RTD : Fld := ⟨7, 0⟩
abbrev F.PL_ERR.TOTAL : Fld := ⟨31, 16⟩
abbrev F.PL_ERR.BUCKET : Fld := ⟨7, 0⟩
abbrev F.PL_AUX.VALID : Fld := ⟨31, 31⟩
abbrev F.PL_AUX.AGE : Fld := ⟨30, 24⟩
abbrev F.PL_AUX.TEMP : Fld := ⟨23, 16⟩
abbrev F.PL_AUX.VIN : Fld := ⟨14, 8⟩
abbrev F.PL_AUX.FAULT : Fld := ⟨3, 0⟩
abbrev F.PL_REG_CMD.GO : Fld := ⟨31, 31⟩
abbrev F.PL_REG_CMD.WRITE : Fld := ⟨30, 30⟩
abbrev F.PL_REG_CMD.ADDR : Fld := ⟨18, 16⟩
abbrev F.PL_REG_CMD.REG : Fld := ⟨15, 8⟩
abbrev F.PL_REG_CMD.DATA : Fld := ⟨7, 0⟩
abbrev F.PL_REG_RESULT.DONE : Fld := ⟨31, 31⟩
abbrev F.PL_REG_RESULT.STATUS : Fld := ⟨10, 8⟩
abbrev F.PL_REG_RESULT.DATA : Fld := ⟨7, 0⟩
abbrev F.PL_EYE_CTL.DUR : Fld := ⟨18, 16⟩
abbrev F.PL_EYE_CTL.VOFF : Fld := ⟨12, 8⟩
abbrev F.PL_EYE_CTL.PHASE : Fld := ⟨5, 0⟩
abbrev F.PL_EYE_RES.ERRORS : Fld := ⟨15, 0⟩
abbrev F.PL_PRBS_ERR.ERRORS : Fld := ⟨15, 0⟩
abbrev F.PL_INJ.GO : Fld := ⟨31, 31⟩
abbrev F.PL_INJ.COUNT : Fld := ⟨23, 16⟩
abbrev F.PL_INJ.ADDR : Fld := ⟨10, 8⟩
abbrev F.PL_INJ.KIND : Fld := ⟨2, 0⟩
abbrev F.LC_STATUS.RELREF : Fld := ⟨9, 9⟩
abbrev F.LC_STATUS.SPARE_BUSY : Fld := ⟨8, 8⟩
abbrev F.LC_STATUS.SPARE_FOR : Fld := ⟨2, 0⟩
abbrev F.LC_SPARE_CTL.RELEASE : Fld := ⟨0, 0⟩
abbrev F.LC_REC_CTL.FROZEN : Fld := ⟨16, 8⟩
abbrev F.LC_REC_CTL.FREEZE : Fld := ⟨1, 1⟩
abbrev F.LC_REC_CTL.EN : Fld := ⟨0, 0⟩
abbrev F.LC_EVT.FROZEN : Fld := ⟨3, 3⟩
abbrev F.LC_EVT.RELEASED : Fld := ⟨2, 2⟩
abbrev F.LC_EVT.TAKEOVER : Fld := ⟨1, 1⟩
abbrev F.LC_EVT.FAULT : Fld := ⟨0, 0⟩
abbrev F.LC_EVT_EN.FROZEN : Fld := ⟨3, 3⟩
abbrev F.LC_EVT_EN.RELEASED : Fld := ⟨2, 2⟩
abbrev F.LC_EVT_EN.TAKEOVER : Fld := ⟨1, 1⟩
abbrev F.LC_EVT_EN.FAULT : Fld := ⟨0, 0⟩
abbrev F.LC_LE_STATUS.ECC1 : Fld := ⟨31, 16⟩
abbrev F.LC_LE_STATUS.LBUF : Fld := ⟨5, 5⟩
abbrev F.LC_LE_STATUS.BANK : Fld := ⟨4, 4⟩
abbrev F.LC_LE_STATUS.STATE : Fld := ⟨2, 0⟩
abbrev F.LC_LE_CTL.RESET : Fld := ⟨2, 2⟩
abbrev F.LC_LE_CTL.UNFENCE : Fld := ⟨1, 1⟩
abbrev F.LC_LE_CTL.FENCE : Fld := ⟨0, 0⟩
abbrev F.LC_LE_FAULT.VALID : Fld := ⟨31, 31⟩
abbrev F.LC_LE_FAULT.CAUSE : Fld := ⟨19, 16⟩
abbrev F.LC_LE_FAULT.PC : Fld := ⟨10, 0⟩
abbrev F.LC_LE_FAULT_LC0.COUNT : Fld := ⟨31, 0⟩
abbrev F.LC_LE_FAULT_LC1.COUNT : Fld := ⟨31, 0⟩
abbrev F.LC_LE_FAULT_TICK_LO.TICK : Fld := ⟨31, 0⟩
abbrev F.LC_LE_FAULT_TICK_HI.TICK : Fld := ⟨31, 0⟩
abbrev F.LC_LE_FAULT_CNT.COUNT : Fld := ⟨15, 0⟩
abbrev F.LC_LE_SHWIN.LEN : Fld := ⟨14, 8⟩
abbrev F.LC_LE_SHWIN.BASE : Fld := ⟨6, 0⟩
abbrev F.LC_LE_EVT.COUNT : Fld := ⟨31, 16⟩
abbrev F.LC_LE_EVT.CODE : Fld := ⟨7, 0⟩
abbrev F.LC_LE_CYC.END : Fld := ⟨31, 16⟩
abbrev F.LC_LE_CYC.COMMIT : Fld := ⟨15, 0⟩
abbrev F.LC_LE_MAXCYC.END : Fld := ⟨31, 16⟩
abbrev F.LC_LE_MAXCYC.COMMIT : Fld := ⟨15, 0⟩
abbrev F.RAIL_FAULT_LO.RAIL : Fld := ⟨31, 0⟩
abbrev F.RAIL_FAULT_HI.RAIL : Fld := ⟨31, 0⟩
abbrev F.SEQ_CTL.CLEAR : Fld := ⟨2, 2⟩
abbrev F.SEQ_CTL.DOWN : Fld := ⟨1, 1⟩
abbrev F.SEQ_CTL.UP : Fld := ⟨0, 0⟩
abbrev F.SEQ_STATUS.FSTEP : Fld := ⟨15, 8⟩
abbrev F.SEQ_STATUS.REFUSED : Fld := ⟨4, 4⟩
abbrev F.SEQ_STATUS.FAULT : Fld := ⟨3, 3⟩
abbrev F.SEQ_STATUS.STATE : Fld := ⟨2, 0⟩
abbrev F.SEQ_STEP.CAUSE : Fld := ⟨7, 4⟩
abbrev F.SEQ_STEP.PG : Fld := ⟨3, 3⟩
abbrev F.SEQ_STEP.STATE : Fld := ⟨2, 0⟩
abbrev F.HINT_CTL.EN : Fld := ⟨0, 0⟩
abbrev F.HINT_STAT.LINK : Fld := ⟨0, 0⟩
abbrev F.HINT_ACC.COUNT : Fld := ⟨31, 0⟩
abbrev F.HINT_DROP0.CODE : Fld := ⟨31, 16⟩
abbrev F.HINT_DROP0.RATE : Fld := ⟨15, 0⟩
abbrev F.HINT_DROP1.UNBOUND : Fld := ⟨31, 16⟩
abbrev F.HINT_DROP1.CLAMP : Fld := ⟨15, 0⟩
abbrev F.HINT_EVT.UNBOUND : Fld := ⟨3, 3⟩
abbrev F.HINT_EVT.RATE : Fld := ⟨2, 2⟩
abbrev F.HINT_EVT.LINKUP : Fld := ⟨1, 1⟩
abbrev F.HINT_EVT.LINKDOWN : Fld := ⟨0, 0⟩
abbrev F.HINT_EVT_EN.UNBOUND : Fld := ⟨3, 3⟩
abbrev F.HINT_EVT_EN.RATE : Fld := ⟨2, 2⟩
abbrev F.HINT_EVT_EN.LINKUP : Fld := ⟨1, 1⟩
abbrev F.HINT_EVT_EN.LINKDOWN : Fld := ⟨0, 0⟩
abbrev F.RAIL_STATE.WORD : Fld := ⟨31, 0⟩
abbrev F.RAIL_SETPT.TARGET : Fld := ⟨13, 0⟩
abbrev F.RAIL_CTL.CLEAR : Fld := ⟨2, 2⟩
abbrev F.RAIL_CTL.OFF : Fld := ⟨1, 1⟩
abbrev F.RAIL_CTL.ON : Fld := ⟨0, 0⟩
abbrev F.RAIL_EVT.SETREF : Fld := ⟨8, 8⟩
abbrev F.RAIL_EVT.WSHED : Fld := ⟨7, 7⟩
abbrev F.RAIL_EVT.TOC : Fld := ⟨6, 6⟩
abbrev F.RAIL_EVT.POC : Fld := ⟨5, 5⟩
abbrev F.RAIL_EVT.PLAUS : Fld := ⟨4, 4⟩
abbrev F.RAIL_EVT.UV : Fld := ⟨3, 3⟩
abbrev F.RAIL_EVT.PG_LOST : Fld := ⟨2, 2⟩
abbrev F.RAIL_EVT.PG_UP : Fld := ⟨1, 1⟩
abbrev F.RAIL_EVT.FAULT : Fld := ⟨0, 0⟩
abbrev F.RAIL_EVT_EN.SETREF : Fld := ⟨8, 8⟩
abbrev F.RAIL_EVT_EN.WSHED : Fld := ⟨7, 7⟩
abbrev F.RAIL_EVT_EN.TOC : Fld := ⟨6, 6⟩
abbrev F.RAIL_EVT_EN.POC : Fld := ⟨5, 5⟩
abbrev F.RAIL_EVT_EN.PLAUS : Fld := ⟨4, 4⟩
abbrev F.RAIL_EVT_EN.UV : Fld := ⟨3, 3⟩
abbrev F.RAIL_EVT_EN.PG_LOST : Fld := ⟨2, 2⟩
abbrev F.RAIL_EVT_EN.PG_UP : Fld := ⟨1, 1⟩
abbrev F.RAIL_EVT_EN.FAULT : Fld := ⟨0, 0⟩
abbrev F.RAIL_SENSE.SETPT : Fld := ⟨29, 16⟩
abbrev F.RAIL_SENSE.CODE : Fld := ⟨13, 0⟩
abbrev F.RAIL_IEST.AMPS : Fld := ⟨19, 0⟩
abbrev F.RAIL_IMEAS.AMPS : Fld := ⟨19, 0⟩
abbrev F.RAIL_WSHED_LO.POS : Fld := ⟨31, 0⟩
abbrev F.RAIL_WSHED_HI.POS : Fld := ⟨31, 0⟩
abbrev F.RAIL_WCNT0.CLAMP : Fld := ⟨31, 16⟩
abbrev F.RAIL_WCNT0.SLEW : Fld := ⟨15, 0⟩
abbrev F.RAIL_WCNT1.POC : Fld := ⟨31, 16⟩
abbrev F.RAIL_WCNT1.TOC : Fld := ⟨15, 0⟩
abbrev F.ADC_SAT_LO.CH : Fld := ⟨31, 0⟩
abbrev F.ADC_SAT_HI.CH : Fld := ⟨31, 0⟩
abbrev F.ADC_SAT_AUX.CH : Fld := ⟨15, 0⟩
abbrev F.ADC_RS.TICK : Fld := ⟨31, 24⟩
abbrev F.ADC_RS.CODE : Fld := ⟨13, 0⟩
abbrev F.ADC_AUX.TICK : Fld := ⟨31, 24⟩
abbrev F.ADC_AUX.CODE : Fld := ⟨13, 0⟩
abbrev F.LDG_CMD.GO : Fld := ⟨31, 31⟩
abbrev F.LDG_CMD.OP : Fld := ⟨26, 24⟩
abbrev F.LDG_CMD.INDEX : Fld := ⟨19, 0⟩
abbrev F.LDG_CMD_STAT.DONE : Fld := ⟨31, 31⟩
abbrev F.LDG_CMD_STAT.CODE : Fld := ⟨1, 0⟩
abbrev F.LDG_DATA.DATA : Fld := ⟨31, 0⟩
abbrev F.LDG_RING_HEAD.INDEX : Fld := ⟨19, 0⟩
abbrev F.LDG_RING_TAIL.INDEX : Fld := ⟨19, 0⟩
abbrev F.LDG_RING_LOST.COUNT : Fld := ⟨15, 0⟩
abbrev F.LDG_GRP_PEND_LO.GRP : Fld := ⟨31, 0⟩
abbrev F.LDG_GRP_PEND_HI.GRP : Fld := ⟨31, 0⟩
abbrev F.LDG_SKIP.COUNT : Fld := ⟨15, 0⟩
abbrev F.LDG_OUT.COUNT : Fld := ⟨13, 0⟩
abbrev F.LDG_PART_SEL.PARTNER : Fld := ⟨11, 0⟩
abbrev F.LDG_PART_STAT0.TIMEOUTS : Fld := ⟨31, 16⟩
abbrev F.LDG_PART_STAT0.OUT : Fld := ⟨7, 6⟩
abbrev F.LDG_PART_STAT0.THROTTLED : Fld := ⟨1, 1⟩
abbrev F.LDG_PART_STAT0.ABSENT : Fld := ⟨0, 0⟩
abbrev F.LDG_PART_STAT1.ERRORS : Fld := ⟨31, 16⟩
abbrev F.LDG_PART_STAT1.UNSOL : Fld := ⟨15, 0⟩
abbrev F.CMP_STATUS.CTLREF : Fld := ⟨16, 16⟩
abbrev F.CMP_STATUS.DUALPRI : Fld := ⟨15, 15⟩
abbrev F.CMP_STATUS.WIREFAULT : Fld := ⟨14, 14⟩
abbrev F.CMP_STATUS.DIGEST_OK : Fld := ⟨13, 13⟩
abbrev F.CMP_STATUS.READY : Fld := ⟨12, 12⟩
abbrev F.CMP_STATUS.FENCE_OUT : Fld := ⟨11, 11⟩
abbrev F.CMP_STATUS.FENCE_IN : Fld := ⟨10, 10⟩
abbrev F.CMP_STATUS.OWN_IN : Fld := ⟨9, 9⟩
abbrev F.CMP_STATUS.HB : Fld := ⟨8, 8⟩
abbrev F.CMP_STATUS.LINK : Fld := ⟨7, 7⟩
abbrev F.CMP_STATUS.ROLE : Fld := ⟨5, 4⟩
abbrev F.CMP_STATUS.ACT : Fld := ⟨3, 0⟩
abbrev F.CMP_CTL.LEAVE : Fld := ⟨5, 5⟩
abbrev F.CMP_CTL.JOIN : Fld := ⟨4, 4⟩
abbrev F.CMP_CTL.UNFENCE : Fld := ⟨3, 3⟩
abbrev F.CMP_CTL.FENCE_REL : Fld := ⟨2, 2⟩
abbrev F.CMP_CTL.FENCE : Fld := ⟨1, 1⟩
abbrev F.CMP_CTL.HANDOFF : Fld := ⟨0, 0⟩
abbrev F.CMP_EVT.MIG_DONE : Fld := ⟨14, 14⟩
abbrev F.CMP_EVT.MIG_RX : Fld := ⟨13, 13⟩
abbrev F.CMP_EVT.DUALPRI : Fld := ⟨12, 12⟩
abbrev F.CMP_EVT.WIREFAULT : Fld := ⟨11, 11⟩
abbrev F.CMP_EVT.DIGEST : Fld := ⟨10, 10⟩
abbrev F.CMP_EVT.LEFT : Fld := ⟨9, 9⟩
abbrev F.CMP_EVT.JOINED : Fld := ⟨8, 8⟩
abbrev F.CMP_EVT.HB_BACK : Fld := ⟨7, 7⟩
abbrev F.CMP_EVT.HB_LOST : Fld := ⟨6, 6⟩
abbrev F.CMP_EVT.MISMATCH : Fld := ⟨5, 5⟩
abbrev F.CMP_EVT.FENCE_SENT : Fld := ⟨4, 4⟩
abbrev F.CMP_EVT.FENCED : Fld := ⟨3, 3⟩
abbrev F.CMP_EVT.HANDOFF : Fld := ⟨2, 2⟩
abbrev F.CMP_EVT.YIELD : Fld := ⟨1, 1⟩
abbrev F.CMP_EVT.TAKEOVER : Fld := ⟨0, 0⟩
abbrev F.CMP_EVT_EN.MIG_DONE : Fld := ⟨14, 14⟩
abbrev F.CMP_EVT_EN.MIG_RX : Fld := ⟨13, 13⟩
abbrev F.CMP_EVT_EN.DUALPRI : Fld := ⟨12, 12⟩
abbrev F.CMP_EVT_EN.WIREFAULT : Fld := ⟨11, 11⟩
abbrev F.CMP_EVT_EN.DIGEST : Fld := ⟨10, 10⟩
abbrev F.CMP_EVT_EN.LEFT : Fld := ⟨9, 9⟩
abbrev F.CMP_EVT_EN.JOINED : Fld := ⟨8, 8⟩
abbrev F.CMP_EVT_EN.HB_BACK : Fld := ⟨7, 7⟩
abbrev F.CMP_EVT_EN.HB_LOST : Fld := ⟨6, 6⟩
abbrev F.CMP_EVT_EN.MISMATCH : Fld := ⟨5, 5⟩
abbrev F.CMP_EVT_EN.FENCE_SENT : Fld := ⟨4, 4⟩
abbrev F.CMP_EVT_EN.FENCED : Fld := ⟨3, 3⟩
abbrev F.CMP_EVT_EN.HANDOFF : Fld := ⟨2, 2⟩
abbrev F.CMP_EVT_EN.YIELD : Fld := ⟨1, 1⟩
abbrev F.CMP_EVT_EN.TAKEOVER : Fld := ⟨0, 0⟩
abbrev F.CMP_HB_MISS.COUNT : Fld := ⟨15, 0⟩
abbrev F.CMP_REC_ERR.COUNT : Fld := ⟨15, 0⟩
abbrev F.CMP_MISMATCH.VALID : Fld := ⟨31, 31⟩
abbrev F.CMP_MISMATCH.RAIL : Fld := ⟨5, 0⟩
abbrev F.CMP_TAKE_TICK_LO.V : Fld := ⟨31, 0⟩
abbrev F.CMP_TAKE_TICK_HI.V : Fld := ⟨31, 0⟩
abbrev F.CMP_DIGEST_LO.V : Fld := ⟨31, 0⟩
abbrev F.CMP_DIGEST_HI.V : Fld := ⟨31, 0⟩
abbrev F.CMP_PEER_DIGEST_LO.V : Fld := ⟨31, 0⟩
abbrev F.CMP_PEER_DIGEST_HI.V : Fld := ⟨31, 0⟩
abbrev F.CMP_MIG_ADDR_LO.V : Fld := ⟨31, 0⟩
abbrev F.CMP_MIG_ADDR_HI.ADDR : Fld := ⟨15, 0⟩
abbrev F.CMP_MIG_CTL.GO : Fld := ⟨31, 31⟩
abbrev F.CMP_MIG_CTL.STALL : Fld := ⟨7, 0⟩
abbrev F.CMP_MIG_STAT.DONE : Fld := ⟨31, 31⟩
abbrev F.CMP_MIG_STAT.CODE : Fld := ⟨2, 0⟩
abbrev F.CMP_MIG_RX_LO.V : Fld := ⟨31, 0⟩
abbrev F.CMP_MIG_RX_HI.ADDR : Fld := ⟨15, 0⟩
abbrev F.CMP_MIG_RXSTAT.FULL : Fld := ⟨31, 31⟩
abbrev F.CMP_MIG_RXSTAT.CLASS : Fld := ⟨10, 8⟩
abbrev F.CMP_MIG_RXSTAT.STALL : Fld := ⟨7, 0⟩
abbrev F.EVD_ACK.PRIO : Fld := ⟨19, 16⟩
abbrev F.EVD_ACK.ID : Fld := ⟨15, 0⟩
abbrev F.EVD_EOI.ID : Fld := ⟨15, 0⟩
abbrev F.EVD_PMR.PMR : Fld := ⟨4, 0⟩
abbrev F.EVD_RPR.RPR : Fld := ⟨4, 0⟩
abbrev F.EVD_SWGEN.IDX : Fld := ⟨5, 0⟩
abbrev F.EVD_FALLBACK.CORE : Fld := ⟨4, 0⟩
abbrev F.EVD_STATUS.FBREF : Fld := ⟨1, 1⟩
abbrev F.EVD_STATUS.STRANDED : Fld := ⟨0, 0⟩
abbrev F.EVD_EN_SET.SRC : Fld := ⟨31, 0⟩
abbrev F.EVD_EN_CLR.SRC : Fld := ⟨31, 0⟩
abbrev F.EVD_PEND_SET.SRC : Fld := ⟨31, 0⟩
abbrev F.EVD_PEND_CLR.SRC : Fld := ⟨31, 0⟩
abbrev F.EVD_ACTIVE.SRC : Fld := ⟨31, 0⟩
abbrev F.EVD_SRC_CFG.TARGET : Fld := ⟨13, 8⟩
abbrev F.EVD_SRC_CFG.MOD : Fld := ⟨4, 4⟩
abbrev F.EVD_SRC_CFG.PRIO : Fld := ⟨3, 0⟩
abbrev F.EVD_TGT_MOD.INTERVAL : Fld := ⟨15, 0⟩
abbrev F.EVD_TGT_STAT.BADEOI : Fld := ⟨31, 16⟩
abbrev F.EVD_TGT_STAT.AVAIL : Fld := ⟨5, 5⟩
abbrev F.EVD_TGT_STAT.RPR : Fld := ⟨4, 0⟩
abbrev F.MBX_CFG.SIDE_B : Fld := ⟨15, 8⟩
abbrev F.MBX_CFG.SIDE_A : Fld := ⟨7, 0⟩
abbrev F.MBX_TMO.TICKS : Fld := ⟨31, 0⟩
abbrev F.MBX_EVT.TMO_BA : Fld := ⟨5, 5⟩
abbrev F.MBX_EVT.TMO_AB : Fld := ⟨4, 4⟩
abbrev F.MBX_EVT.ACK_BA : Fld := ⟨3, 3⟩
abbrev F.MBX_EVT.ACK_AB : Fld := ⟨2, 2⟩
abbrev F.MBX_EVT.ARRIVE_BA : Fld := ⟨1, 1⟩
abbrev F.MBX_EVT.ARRIVE_AB : Fld := ⟨0, 0⟩
abbrev F.MBX_EVT_EN.TMO_BA : Fld := ⟨5, 5⟩
abbrev F.MBX_EVT_EN.TMO_AB : Fld := ⟨4, 4⟩
abbrev F.MBX_EVT_EN.ACK_BA : Fld := ⟨3, 3⟩
abbrev F.MBX_EVT_EN.ACK_AB : Fld := ⟨2, 2⟩
abbrev F.MBX_EVT_EN.ARRIVE_BA : Fld := ⟨1, 1⟩
abbrev F.MBX_EVT_EN.ARRIVE_AB : Fld := ⟨0, 0⟩
abbrev F.MBX_STATUS.DEPTH_BA : Fld := ⟨7, 4⟩
abbrev F.MBX_STATUS.DEPTH_AB : Fld := ⟨3, 0⟩
abbrev F.MBX_ERR.BA : Fld := ⟨31, 16⟩
abbrev F.MBX_ERR.AB : Fld := ⟨15, 0⟩
abbrev F.MBX_ERR2.BA : Fld := ⟨31, 16⟩
abbrev F.MBX_ERR2.AB : Fld := ⟨15, 0⟩
abbrev F.MBX_AB_TX.DATA : Fld := ⟨31, 0⟩
abbrev F.MBX_AB_ACK.STATE : Fld := ⟨17, 16⟩
abbrev F.MBX_AB_ACK.CODE : Fld := ⟨15, 0⟩
abbrev F.MBX_AB_RX_STAMP.STAMP : Fld := ⟨31, 0⟩
abbrev F.MBX_AB_RX_DATA.DATA : Fld := ⟨31, 0⟩
abbrev F.MBX_BA_TX.DATA : Fld := ⟨31, 0⟩
abbrev F.MBX_BA_ACK.STATE : Fld := ⟨17, 16⟩
abbrev F.MBX_BA_ACK.CODE : Fld := ⟨15, 0⟩
abbrev F.MBX_BA_RX_STAMP.STAMP : Fld := ⟨31, 0⟩
abbrev F.MBX_BA_RX_DATA.DATA : Fld := ⟨31, 0⟩
abbrev F.DMA_ENG_STATUS.OUT : Fld := ⟨27, 16⟩
abbrev F.DMA_ENG_STATUS.CTX_USED : Fld := ⟨14, 8⟩
abbrev F.DMA_ENG_STATUS.CTX_PINNED : Fld := ⟨6, 0⟩
abbrev F.DMA_GRP_PEND.CH : Fld := ⟨31, 0⟩
abbrev F.DMA_RQ_CFG.HELD : Fld := ⟨31, 31⟩
abbrev F.DMA_RQ_CFG.CH : Fld := ⟨25, 16⟩
abbrev F.DMA_RQ_CFG.TIMEOUT : Fld := ⟨15, 0⟩
abbrev F.CH_CTL.CONT : Fld := ⟨7, 7⟩
abbrev F.CH_CTL.CLEAR : Fld := ⟨6, 6⟩
abbrev F.CH_CTL.INV : Fld := ⟨5, 5⟩
abbrev F.CH_CTL.RESUME : Fld := ⟨4, 4⟩
abbrev F.CH_CTL.PAUSE : Fld := ⟨3, 3⟩
abbrev F.CH_CTL.STOP : Fld := ⟨2, 2⟩
abbrev F.CH_CTL.START : Fld := ⟨1, 1⟩
abbrev F.CH_STAT.WDRAW : Fld := ⟨31, 24⟩
abbrev F.CH_STAT.CODE : Fld := ⟨23, 20⟩
abbrev F.CH_STAT.UNDERRUN : Fld := ⟨19, 19⟩
abbrev F.CH_STAT.STOPPED : Fld := ⟨18, 18⟩
abbrev F.CH_STAT.PARTIAL : Fld := ⟨17, 17⟩
abbrev F.CH_STAT.CTX : Fld := ⟨16, 16⟩
abbrev F.CH_STAT.INVREF : Fld := ⟨6, 6⟩
abbrev F.CH_STAT.PREF : Fld := ⟨5, 5⟩
abbrev F.CH_STAT.STREF : Fld := ⟨4, 4⟩
abbrev F.CH_STAT.STATE : Fld := ⟨2, 0⟩
abbrev F.CH_OWN.STALL : Fld := ⟨15, 8⟩
abbrev F.CH_OWN.STALL_EN : Fld := ⟨2, 2⟩
abbrev F.CH_OWN.LEVEL : Fld := ⟨1, 0⟩
abbrev F.CH_REM0.V : Fld := ⟨31, 0⟩
abbrev F.CH_REM12.V : Fld := ⟨31, 0⟩
abbrev F.CH_BARGE_LO.V : Fld := ⟨31, 0⟩
abbrev F.CH_BARGE_HI.V : Fld := ⟨31, 0⟩
abbrev F.CH_XFER.V : Fld := ⟨31, 0⟩
abbrev F.BSN_STATUS.CORR : Fld := ⟨31, 16⟩
abbrev F.BSN_STATUS.BADFREE : Fld := ⟨1, 1⟩
abbrev F.BSN_STATUS.POISON : Fld := ⟨0, 0⟩
abbrev F.BSN_FREE.POOL : Fld := ⟨23, 18⟩
abbrev F.BSN_FREE.GRANULE : Fld := ⟨16, 0⟩
abbrev F.BSN_POOL_ALLOC.TOKEN : Fld := ⟨17, 0⟩
abbrev F.BSN_POOL_HELD.COUNT : Fld := ⟨17, 0⟩
abbrev F.BSN_POOL_STAT.REFUSED : Fld := ⟨15, 0⟩
abbrev F.BSN_POOL_PEAK.COUNT : Fld := ⟨17, 0⟩
abbrev F.STL_BIND.SID : Fld := ⟨15, 0⟩
abbrev F.STL_CTL.CMD : Fld := ⟨3, 0⟩
abbrev F.STL_MGR_STAT.DENIED : Fld := ⟨31, 16⟩
abbrev F.STL_MGR_STAT.DONE : Fld := ⟨15, 15⟩
abbrev F.STL_MGR_STAT.BELL : Fld := ⟨14, 14⟩
abbrev F.STL_MGR_STAT.LIMIT : Fld := ⟨13, 13⟩
abbrev F.STL_MGR_STAT.CODE : Fld := ⟨10, 8⟩
abbrev F.STL_MGR_STAT.STATE : Fld := ⟨2, 0⟩
abbrev F.STL_REC_ADDR_LO.V : Fld := ⟨31, 0⟩
abbrev F.STL_REC_ADDR_HI.ADDR : Fld := ⟨15, 0⟩
abbrev F.STL_CNT.DMA : Fld := ⟨31, 26⟩
abbrev F.STL_CNT.SRC : Fld := ⟨25, 20⟩
abbrev F.STL_CNT.LV : Fld := ⟨19, 15⟩
abbrev F.STL_CNT.MBX : Fld := ⟨14, 11⟩
abbrev F.STL_MBX_MAP.VALID : Fld := ⟨31, 31⟩
abbrev F.STL_MBX_MAP.SIDE : Fld := ⟨8, 8⟩
abbrev F.STL_MBX_MAP.MBX : Fld := ⟨6, 0⟩
abbrev F.STL_VIEW_BASE.BASE : Fld := ⟨19, 0⟩
abbrev F.STL_VIEW_CNT.THR : Fld := ⟨31, 31⟩
abbrev F.STL_VIEW_CNT.COUNT : Fld := ⟨20, 0⟩
abbrev F.STL_SRC.VALID : Fld := ⟨31, 31⟩
abbrev F.STL_SRC.SOURCE : Fld := ⟨10, 0⟩
abbrev F.STL_WIN_A.V : Fld := ⟨31, 0⟩
abbrev F.STL_WIN_B.BASE : Fld := ⟨31, 28⟩
abbrev F.STL_WIN_B.W : Fld := ⟨27, 27⟩
abbrev F.STL_WIN_B.R : Fld := ⟨26, 26⟩
abbrev F.STL_WIN_B.PAGES : Fld := ⟨19, 0⟩
abbrev F.STL_T_ID.STATE : Fld := ⟨10, 8⟩
abbrev F.STL_T_ID.STALL : Fld := ⟨7, 0⟩
abbrev F.STL_T_BELL.RING : Fld := ⟨0, 0⟩
abbrev F.STL_T_EN_SET.SLOT : Fld := ⟨31, 0⟩
abbrev F.STL_T_EN_CLR.SLOT : Fld := ⟨31, 0⟩
abbrev F.STL_T_PEND.SLOT : Fld := ⟨31, 0⟩
abbrev F.STL_T_PEND_CLR.SLOT : Fld := ⟨31, 0⟩
abbrev F.STL_T_BSN_ALLOC.TOKEN : Fld := ⟨17, 0⟩
abbrev F.STL_T_BSN_FREE.GRANULE : Fld := ⟨16, 0⟩
abbrev F.STL_T_BSN_HELD.COUNT : Fld := ⟨17, 0⟩
abbrev F.STL_T_LV_CMD.GO : Fld := ⟨31, 31⟩
abbrev F.STL_T_LV_CMD.OP : Fld := ⟨28, 28⟩
abbrev F.STL_T_LV_CMD.VIEW : Fld := ⟨27, 24⟩
abbrev F.STL_T_LV_CMD.OFFSET : Fld := ⟨20, 0⟩
abbrev F.STL_T_LV_STAT.DONE : Fld := ⟨31, 31⟩
abbrev F.STL_T_LV_STAT.CODE : Fld := ⟨1, 0⟩
abbrev F.STL_T_LV_DATA.V : Fld := ⟨31, 0⟩
abbrev F.PWR_PKG_CTL.TARGET : Fld := ⟨2, 1⟩
abbrev F.PWR_PKG_CTL.GO : Fld := ⟨0, 0⟩
abbrev F.PWR_PKG_STAT.CODE : Fld := ⟨11, 8⟩
abbrev F.PWR_PKG_STAT.AP : Fld := ⟨6, 4⟩
abbrev F.PWR_PKG_STAT.PENDING : Fld := ⟨3, 3⟩
abbrev F.PWR_PKG_STAT.STATE : Fld := ⟨2, 0⟩
abbrev F.PWR_WAKE_EN.SRC : Fld := ⟨9, 0⟩
abbrev F.PWR_WAKE_CAUSE.SRC : Fld := ⟨9, 0⟩
abbrev F.PWR_STBY_CFG.AUTO_UP : Fld := ⟨8, 8⟩
abbrev F.PWR_STBY_CFG.ETH : Fld := ⟨3, 0⟩
abbrev F.PWR_LAST.DIGEST : Fld := ⟨8, 8⟩
abbrev F.PWR_LAST.ABANDONED : Fld := ⟨7, 7⟩
abbrev F.PWR_LAST.AP : Fld := ⟨6, 4⟩
abbrev F.PWR_LAST.STATE : Fld := ⟨1, 0⟩
abbrev F.PWR_STICKY.DATA : Fld := ⟨31, 0⟩
abbrev F.PWR_SLUICE_CFG.SETTLE : Fld := ⟨7, 0⟩
abbrev F.PWR_UNIT_CTL.ACT : Fld := ⟨21, 16⟩
abbrev F.PWR_UNIT_CTL.KIND : Fld := ⟨15, 12⟩
abbrev F.PWR_UNIT_CTL.INDEX : Fld := ⟨11, 0⟩
abbrev F.PWR_UNIT_STAT.DONE : Fld := ⟨31, 31⟩
abbrev F.PWR_UNIT_STAT.CODE : Fld := ⟨1, 0⟩
abbrev F.PWR_CORE_CTL.ON : Fld := ⟨2, 2⟩
abbrev F.PWR_CORE_CTL.WAITSTATE : Fld := ⟨1, 0⟩
abbrev F.PWR_CORE_STAT.ONREF : Fld := ⟨2, 2⟩
abbrev F.PWR_CORE_STAT.CSTATE : Fld := ⟨1, 0⟩
abbrev F.PWR_CORE_RVEC_LO.V : Fld := ⟨31, 0⟩
abbrev F.PWR_CORE_RVEC_HI.V : Fld := ⟨31, 0⟩
abbrev F.PWR_CC_FREQ.CUR : Fld := ⟨13, 8⟩
abbrev F.PWR_CC_FREQ.TGT : Fld := ⟨5, 0⟩
abbrev F.PWR_REG_CTL.GO : Fld := ⟨31, 31⟩
abbrev F.PWR_REG_CTL.RET_EN : Fld := ⟨30, 30⟩
abbrev F.PWR_REG_CTL.F1 : Fld := ⟨29, 24⟩
abbrev F.PWR_REG_CTL.F0 : Fld := ⟨23, 18⟩
abbrev F.PWR_REG_CTL.VTGT : Fld := ⟨9, 0⟩
abbrev F.PWR_REG_STAT.CODE : Fld := ⟨17, 15⟩
abbrev F.PWR_REG_STAT.BUSY : Fld := ⟨14, 14⟩
abbrev F.PWR_REG_STAT.STATE : Fld := ⟨13, 12⟩
abbrev F.PWR_REG_STAT.VCUR : Fld := ⟨9, 0⟩
abbrev F.PORT_CTL.AUTO_REC : Fld := ⟨1, 1⟩
abbrev F.PORT_CTL.RAW_EN : Fld := ⟨0, 0⟩
abbrev F.PORT_STAT.RATE : Fld := ⟨11, 8⟩
abbrev F.PORT_STAT.WIDTH : Fld := ⟨7, 4⟩
abbrev F.PORT_STAT.LINK : Fld := ⟨0, 0⟩
abbrev F.PORT_EVT.RAW_DONE : Fld := ⟨6, 6⟩
abbrev F.PORT_EVT.RECOVERED : Fld := ⟨5, 5⟩
abbrev F.PORT_EVT.STUCK : Fld := ⟨4, 4⟩
abbrev F.PORT_EVT.RX : Fld := ⟨3, 3⟩
abbrev F.PORT_EVT.NOBUF : Fld := ⟨2, 2⟩
abbrev F.PORT_EVT.LINK_DOWN : Fld := ⟨1, 1⟩
abbrev F.PORT_EVT.LINK_UP : Fld := ⟨0, 0⟩
abbrev F.PORT_EVT_EN.RAW_DONE : Fld := ⟨6, 6⟩
abbrev F.PORT_EVT_EN.RECOVERED : Fld := ⟨5, 5⟩
abbrev F.PORT_EVT_EN.STUCK : Fld := ⟨4, 4⟩
abbrev F.PORT_EVT_EN.RX : Fld := ⟨3, 3⟩
abbrev F.PORT_EVT_EN.NOBUF : Fld := ⟨2, 2⟩
abbrev F.PORT_EVT_EN.LINK_DOWN : Fld := ⟨1, 1⟩
abbrev F.PORT_EVT_EN.LINK_UP : Fld := ⟨0, 0⟩
abbrev F.PORT_ERR0.NOBUF : Fld := ⟨31, 16⟩
abbrev F.PORT_ERR0.ERRORS : Fld := ⟨15, 0⟩
abbrev F.PORT_ERR1.TIMEOUTS : Fld := ⟨31, 16⟩
abbrev F.PORT_ERR1.DROPPED : Fld := ⟨15, 0⟩
abbrev F.PORT_RXQ.TOKEN : Fld := ⟨17, 0⟩
abbrev F.PORT_TXQ.TOKEN : Fld := ⟨17, 0⟩
abbrev F.PORT_LANE_ERR.ERRORS : Fld := ⟨15, 0⟩
abbrev F.PORT_RAW_CMD.GO : Fld := ⟨31, 31⟩
abbrev F.PORT_RAW_CMD.DMA : Fld := ⟨30, 30⟩
abbrev F.PORT_RAW_CMD.OP : Fld := ⟨27, 24⟩
abbrev F.PORT_RAW_CMD.LEN : Fld := ⟨23, 12⟩
abbrev F.PORT_RAW_CMD.ARG : Fld := ⟨11, 0⟩
abbrev F.PORT_RAW_DATA.V : Fld := ⟨31, 0⟩
abbrev F.PORT_RAW_RES.DONE : Fld := ⟨31, 31⟩
abbrev F.PORT_RAW_RES.CODE : Fld := ⟨1, 0⟩
abbrev F.SW_VLAN.VALID : Fld := ⟨31, 31⟩
abbrev F.SW_VLAN.UNTAG : Fld := ⟨23, 12⟩
abbrev F.SW_VLAN.MEMBER : Fld := ⟨11, 0⟩
abbrev F.SW_CPU_MAC_LO.V : Fld := ⟨31, 0⟩
abbrev F.SW_CPU_MAC_HI.ADDR : Fld := ⟨15, 0⟩
abbrev F.SW_CPU_IP.V : Fld := ⟨31, 0⟩
abbrev F.SW_STORM.V : Fld := ⟨31, 0⟩
abbrev F.GPIO_IN.V : Fld := ⟨31, 0⟩
abbrev F.GPIO_OUT.V : Fld := ⟨31, 0⟩
abbrev F.FAN_PWM.DUTY : Fld := ⟨7, 0⟩
abbrev F.FAN_STAT.FAULT : Fld := ⟨31, 31⟩
abbrev F.FAN_STAT.RPM : Fld := ⟨15, 0⟩
abbrev F.FAN_WDT.KICK : Fld := ⟨31, 31⟩
abbrev F.FAN_WDT.SECONDS : Fld := ⟨7, 0⟩
abbrev F.MC_STATUS.TYPE : Fld := ⟨2, 1⟩
abbrev F.MC_STATUS.TRAINED : Fld := ⟨0, 0⟩
abbrev F.MC_ECC.UNCORR : Fld := ⟨31, 16⟩
abbrev F.MC_ECC.CORR : Fld := ⟨15, 0⟩
abbrev F.MC_ERR_ADDR_LO.V : Fld := ⟨31, 0⟩
abbrev F.MC_ERR_ADDR_HI.ADDR : Fld := ⟨15, 0⟩
abbrev F.TRC_CTL.TSI : Fld := ⟨20, 16⟩
abbrev F.TRC_CTL.LANES : Fld := ⟨9, 8⟩
abbrev F.TRC_CTL.SINK : Fld := ⟨6, 5⟩
abbrev F.TRC_CTL.RING : Fld := ⟨4, 4⟩
abbrev F.TRC_CTL.CYC : Fld := ⟨3, 3⟩
abbrev F.TRC_CTL.STALL : Fld := ⟨2, 2⟩
abbrev F.TRC_CTL.EN : Fld := ⟨0, 0⟩
abbrev F.TRC_STATUS.FULL : Fld := ⟨1, 1⟩
abbrev F.TRC_STATUS.BUSY : Fld := ⟨0, 0⟩
abbrev F.TRC_LOST.COUNT : Fld := ⟨15, 0⟩
abbrev F.TRC_BUF_BASE_LO.V : Fld := ⟨31, 0⟩
abbrev F.TRC_BUF_BASE_HI.ADDR : Fld := ⟨15, 0⟩
abbrev F.TRC_BUF_SIZE.PAGES : Fld := ⟨19, 0⟩
abbrev F.TRC_BUF_WPTR.V : Fld := ⟨31, 0⟩
abbrev F.TRC_DBG_UNLOCK.GO : Fld := ⟨31, 31⟩
abbrev F.TRC_DBG_UNLOCK.CLASS : Fld := ⟨7, 5⟩
abbrev F.TRC_DBG_UNLOCK.BOOT : Fld := ⟨1, 1⟩
abbrev F.TRC_DBG_UNLOCK.LOCK : Fld := ⟨0, 0⟩
abbrev F.TRC_DBG_STATUS.REFUSED : Fld := ⟨1, 1⟩
abbrev F.TRC_DBG_STATUS.OPEN : Fld := ⟨0, 0⟩
abbrev F.DBG_CORE_CTL.BRK_CLAIM : Fld := ⟨3, 3⟩
abbrev F.DBG_CORE_CTL.STEP : Fld := ⟨2, 2⟩
abbrev F.DBG_CORE_CTL.RESUME : Fld := ⟨1, 1⟩
abbrev F.DBG_CORE_CTL.HALT : Fld := ⟨0, 0⟩
abbrev F.DBG_CORE_STAT.REASON : Fld := ⟨3, 1⟩
abbrev F.DBG_CORE_STAT.HALTED : Fld := ⟨0, 0⟩
abbrev F.DBG_CORE_SEL.REG : Fld := ⟨11, 0⟩
abbrev F.DBG_CORE_DATA_LO.V : Fld := ⟨31, 0⟩
abbrev F.DBG_CORE_DATA_HI.V : Fld := ⟨31, 0⟩
abbrev F.DBG_LE_CTL.HALT_FAULT : Fld := ⟨3, 3⟩
abbrev F.DBG_LE_CTL.GO : Fld := ⟨2, 2⟩
abbrev F.DBG_LE_CTL.STEP_EN : Fld := ⟨1, 1⟩
abbrev F.DBG_LE_STAT.STEPREF : Fld := ⟨1, 1⟩
abbrev F.DBG_LE_STAT.HELD : Fld := ⟨0, 0⟩
abbrev F.DBG_LE_SEL.REG : Fld := ⟨5, 0⟩
abbrev F.DBG_LE_DATA.V : Fld := ⟨31, 0⟩

end Sys2Proof.Machine
end

