-- ==== Sys2Proof/WellFormed.lean ====
section
/-!
DEFINITION. Which commands can be an event of the hardware: the shapes of operands that their types leave open.
-/
namespace Sys2Proof

/-- Units of each kind of R525; 52 external port controllers (R527). -/
def unitCount : Nat → Nat
  | 0 => 32 | 1 => 36 | 2 => 4 | 3 => 4 | 4 => 4 | 5 => 4 | 6 => 64 | 7 => 8 | 8 => 80 | 9 => 128 | 10 => 52 | _ => 0

/-- The unit named by a fault exists. -/
def FaultUnit.known : FaultUnit → Bool
  | .unit kind index => decide (index.toNat < unitCount kind.val)
  | _ => true

/-- The command can occur: 64 remote-sense channels convert (R246), a UART block holds 1,024 bytes (R101), a migration record 4,096 (R325), and a faulty unit is one of R525. -/
def Instr.wf : Instr → Bool
  | .senseSampleReady rs _ => rs.length == 64
  | .uartLoaderBlock blk _ _ _ => blk.length == 1024
  | .migRx b _ => b.length == 4096
  | .uncorrectableFault u => u.known
  | _ => true

end Sys2Proof
end

