-- ==== Sys2Proof/Machine/State.lean ====
section
/-!
DEFINITION. The state of the block as plain data, its faults and refusals, and the state after reset.
-/
namespace Sys2Proof.Machine

/-! ## Units (chapter 01) and events (chapter 14) -/

/-- What the four unit actions of R12 left on a unit. Keyed KIND × 4,096 + INDEX by the table of R525. -/
structure UnitSt where
  fenced : Bool
  out : Bool
  trace : Bool
deriving DecidableEq, Repr

def UnitSt.init : UnitSt := { fenced := false, out := false, trace := false }

/-- Why a step stops with a fault. -/
inductive Fault where
  /-- The command carries an operand that no event of the hardware can carry (Instr.wf fails). Raised by the meanings of SENSE_SAMPLE_READY, UART_LOADER_BLOCK, MIG_RX and UNCORRECTABLE_FAULT alone; safe: such a command stands for no event. -/
  | illFormed
deriving DecidableEq, Repr

/-- Why a command is refused. -/
inductive Refusal where
  /-- No meaning for the command yet. Raised by an arm of Dispatch alone; safe. -/
  | notModelled (mnemonic : String)
deriving DecidableEq, Repr

/-- The last answer on the fabric: the model's own record, no register of the hardware. -/
inductive Reply1 where
  | none
  | value (v : W64)
  | busError
deriving DecidableEq, Repr

/-! ## The fabric image in force and the held amendment (chapter 02) -/

/-- The amendment the part holds from SUBMIT to its result (R75). Its bytes stand in the staging area of DRAM. -/
structure Amend where
  len : Nat
  cls : Nat
  verifyOnly : Bool
  /-- N of R78, once it is known -/
  n : Option Nat
  /-- verification has passed, and staging runs or has ended -/
  verified : Bool
  /-- regions that it brings in, known from its verification on (R76, R518) -/
  ins : List Nat
  /-- staging has ended (R76) -/
  staged : Bool
  /-- committed at the commit point, waiting for the edge of tick N -/
  committed : Bool
deriving DecidableEq, Repr

/-- The structure in force, and what an amendment in flight holds. -/
structure Img where
  /-- section type code to entry number to the entry's bytes, as R63 and R64 key them -/
  sec : Tab (Tab Bytes)
  held : Option Amend
  /-- regions whose cores and DMA engine R88 holds, bit r -/
  hold : Nat
  /-- regions whose leaving waits for the drain of R89, bit r -/
  draining : Nat
  /-- the tick whose commit point has passed last -/
  cpAt : Nat
  /-- FLOOR of the loader, the firmware and the image, raised when the first tick starts (R67, R104) -/
  floors : Nat × Nat × Nat
deriving DecidableEq, Repr

/-! ## Start-up and the security keep (chapter 03) -/

/-- Where the start-up stands (R99 to R102). -/
inductive Boot where
  /-- PORST_N is low -/
  | reset
  /-- no loader copy passed: waiting for a loader on UART 0 (R101) -/
  | waitLoader
  /-- no copy of the image or the firmware verified: waiting for objects on UART 0 (R102) -/
  | waitObject
  /-- SYSRST_N was low when PORST_N was released: the boot waits for it (R580) -/
  | held
  /-- the training of a memory channel failed: the boot is refused (R546) -/
  | refused
  /-- the structure is applied and the tick may start (R69) -/
  | applied
  /-- the first tick has started -/
  | running
deriving DecidableEq, Repr

/-- A keep job in progress (R124): the descriptor's fields. -/
structure Job where
  op : Nat
  arg : Nat
  inAddr : Nat
  inLen : Nat
  outLen : Nat
  outAddr : Nat
  keyAddr : Nat
  /-- the HSS signature index that it took -/
  idx : Nat
  /-- the code that the checks at its start already fixed, if any -/
  code : Option Nat
deriving DecidableEq, Repr

/-- One SPDM session, or the plain exchange as session 0 (R114, R115). -/
structure Session where
  opened : Bool
  established : Bool
  /-- the key generation, advanced by KEY_UPDATE -/
  keyGen : Nat
  /-- nonces of the last 16 signed responses with their HSS co-signatures, newest first -/
  cosign : List (Bytes × Bytes)
deriving DecidableEq, Repr

/-- The responder's last answer: the model's record of what left on the transport (log entry 5). -/
inductive SpdmReply where
  | none
  | version | capabilities | digests | certificate | finish | heartbeat | keyUpdate | endSession
  /-- the algorithms selected of those offered -/
  | algorithms (sel : SpdmAlgs)
  /-- nonce and signature of a signed answer; none when it is not signed -/
  | measurements (block : Nat) (value : BitVec 384) (sig : Option (Bytes × Bytes))
  | challenge (nonce sig : Bytes)
  | keyExchange (nonce sig : Bytes)
  | cosignature (sig : Bytes)
  | errBusy | errUnspecified | errInvalid | errUnsupported
  /-- the class of the port lacks ATTEST (R120) -/
  | refused
deriving DecidableEq, Repr

structure Keep where
  devSecret : BitVec 256
  /-- the identity ECDSA private key, and the value that seed and identifier of the identity HSS key come from (R113) -/
  idEc : BitVec 384
  idHss : BitVec 384
  /-- SLOT_HASH[s]: the hashes of ECDSA_PUB and of HSS_PUB -/
  slotEc : Tab (BitVec 384)
  slotHss : Tab (BitVec 384)
  provEc : BitVec 384
  provHss : BitVec 384
  /-- the LIFECYCLE fuses -/
  lifecycle : Nat
  /-- the LIFECYCLE in force since PORST_N (R122) -/
  lcInForce : Nat
  serial : BitVec 64
  /-- the 64 non-volatile monotonic counters -/
  cnt : Tab Nat
  mr : Tab (BitVec 384)
  /-- the HSS block in use and the next index within it (R116) -/
  block : Option Nat
  hssIdx : Nat
  /-- signatures left in the bucket of R117, and the TIMEBASE of its last refill -/
  bucket : Nat
  bucketAt : Nat
  exhausted : Bool
  said1241 : Bool
  trngOk : Bool
  /-- the counter whose increment is in progress (R109) -/
  incBusy : Option Nat
  /-- the lifecycle whose fuses are being written (R122) -/
  lcBusy : Option Nat
  job : Option Job
  sess : Tab Session
  spdm : SpdmReply
  /-- a request waits for random data (R110) -/
  spdmWait : Bool
  boot : Boot
  /-- bytes received on UART 0 by R101, and the loader they gave -/
  uart : Bytes
  loaderRun : Bytes
deriving DecidableEq, Repr

/-! ## The tick (chapter 04) -/

structure Tick where
  /-- TIMEBASE, in 1.2 GHz cycles (R131) -/
  tb : Nat
  /-- TICK_COUNT -/
  count : Nat
  /-- TICK_EDGE_TB -/
  edgeTb : Nat
  /-- REFCLK runs -/
  refclk : Bool
  /-- consecutive ticks within ±5 ns of TICK_IN (R137) -/
  alignRun : Nat
  /-- TICK_IN has edges -/
  tickIn : Bool
  /-- the tick followed TICK_IN at its last edge (R129) -/
  wasIn : Bool
  /-- dark ticks: counted, with no marker, no sample and no LE start (R522) -/
  dark : Bool
  /-- a dark tick that is lit at the next edge: after an abandoned entry (false), or as an exit from P-STANDBY (true) (R520, R523) -/
  lightDue : Option Bool
deriving DecidableEq, Repr

/-- Output pins whose level the spec gives, and input pins that it reads. -/
structure Pins where
  /-- RAIL_FAULT_N is held low by R96 or R130 -/
  railFaultForced : Bool
  /-- TICK_OUT runs -/
  tickOut : Bool
  /-- ALERT_N is driven low by R101 or R102 -/
  alertBoot : Bool
  /-- PL drivers are on -/
  plOn : Bool
  /-- this package pulls PAIR_OWN_N low -/
  ownOut : Bool
  /-- PAIR_OWN_N reads high (40 ns of R305 included) -/
  ownHigh : Bool
  /-- TIMEBASE at which PAIR_OWN_N was first read high -/
  ownHighAt : Nat
  /-- this package pulls PAIR_FENCE_N low -/
  fenceOut : Bool
  /-- PAIR_FENCE_N reads low -/
  fenceLow : Bool
  /-- PORST_N and SYSRST_N are low -/
  porst : Bool
  sysrst : Bool
  /-- a monitored supply has left its range, and PORST_N has not been asserted since: the part is held as under PORST_N (R573) -/
  supply : Bool
deriving DecidableEq, Repr

/-! ## Phase link: the ports and the stages (chapter 05) -/

/-- One valid upstream sample of an address. -/
structure Samp where
  valid : Bool
  /-- CURRENT, 1/16 A per code -/
  cur : Int
  flags : Nat
deriving DecidableEq, Repr

/-- Which step of R182 the enumeration of an address stands at. -/
inductive EnumStep where
  /-- step 1: SYNC ticks left -/
  | sync (left : Nat)
  /-- step 2: read number i of 0 to 23 (the last eight read SERIAL again) -/
  | read (i : Nat)
  | writeHold
  | writeMode
  | wake
deriving DecidableEq, Repr

structure Enum where
  full : Bool
  /-- addresses still to do, the present one first -/
  todo : List Nat
  step : EnumStep
  /-- attempts made at the present access -/
  tries : Nat
  /-- bytes read so far, index to value; the second SERIAL at 0x18 to 0x1F of this table -/
  got : Tab Nat
deriving DecidableEq, Repr

/-- A register access of PL_REG_CMD in progress. -/
structure RegAcc where
  write : Bool
  addr : Nat
  reg : Nat
  data : Nat
  tries : Nat
deriving DecidableEq, Repr

/-- An injection in progress (R191); `left` counts ticks, and `armed` says that its first edge has come. -/
structure Inject where
  kind : Nat
  addr : Nat
  left : Nat
  armed : Bool
deriving DecidableEq, Repr

/-- Whose management frame the slot A of the next tick answers: the enumeration's, a TEST_CTL write's, PL_REG_CMD's, or one that nothing of the port waits for any more. -/
inductive Await where
  | enum | test | acc | nobody
deriving DecidableEq, Repr

structure Port where
  /-- the port's own copy of each address's present enable (R161), bit a -/
  en : Nat
  /-- a due OVR_SHED_MASK of a disablement (R186) -/
  disShed : Bool
  /-- override frames ready, oldest first, and whether one is the port's own shed of R176 -/
  ovr : List (W32 × Bool)
  /-- power frames ready, by address -/
  pwr : Tab W32
  /-- the port's own SHED_MASK ready (R166) -/
  shed : Option Nat
  /-- the data character of the marker sent at the edge of this tick (R157) -/
  marker : Option Byte
  /-- the management frame heard last on a bus that another package drives (R311) -/
  mgmt : Option W32
  /-- a management frame has been sent this tick -/
  mgmtSent : Bool
  /-- frames handed to the line in this tick, oldest first, and whether the CRC was corrupted by an injection -/
  sent : List (W32 × Bool)
  /-- the address whose register reply slot A of the next tick expects -/
  expect : Option Nat
  await : Await
  /-- a unit RESET has come, and the enumeration of R182 starts at the next tick -/
  startDue : Bool
  enum : Option Enum
  /-- addresses that READMIT still has to enumerate -/
  readmit : Nat
  acc : Option RegAcc
  /-- consecutive silent ticks, by address -/
  silent : Tab Nat
  /-- consecutive valid frames, by address -/
  good : Tab Nat
  /-- consecutive ticks without a valid sample of any woken stage -/
  busTicks : Nat
  /-- a valid sample has come in this tick -/
  anyValid : Bool
  /-- a quiet-window violation in this tick, and in the tick before -/
  quiet : Bool
  quietPrev : Bool
  inj : Option Inject
  /-- availability as latched at t = 40 ns, bit a (R176) -/
  avail : Nat
  /-- this tick's and the previous tick's samples, and the last valid current -/
  cur : Tab Samp
  prev : Tab Samp
  last : Tab Int
  /-- VALUE last sent to each address's stage while it runs (prev of R261) -/
  val : Tab Nat
  /-- the eye scan runs -/
  eye : Bool
  /-- an invalid sample frame came in this tick -/
  badSlot : Bool
  /-- addresses whose slot held a K28.5 in this tick -/
  seen : Nat
  /-- TEST_CTL writes still to send before the TEST markers (R189) -/
  testQ : List W32
deriving DecidableEq, Repr

def Port.init : Port :=
  { en := 0, disShed := false, ovr := [], pwr := [], shed := none, marker := none, mgmt := none, mgmtSent := false, sent := [],
    expect := none, await := .nobody, startDue := false, enum := none, readmit := 0, acc := none, silent := [], good := [],
    busTicks := 0, anyValid := false, quiet := false, quietPrev := false, inj := none, avail := 0, cur := [],
    prev := [], last := [], val := [], eye := false, badSlot := false, seen := 0, testQ := [] }

/-- The states of a stage (R177). -/
inductive StState where
  | powerup | ready | run | shed | safeOff | fault
deriving DecidableEq, Repr

/-- The kind of the marker that opened the stage's present tick. -/
inductive Marker where
  | run | sync | test | missing
deriving DecidableEq, Repr

/-- A power stage, at its own end of the link. -/
structure Stage where
  powered : Bool
  st : StState
  /-- registers 0x00 to 0x7F and above, by index -/
  reg : Tab Nat
  /-- indexes that this stage implements beyond the table of R180 -/
  extra : List Nat
  enable : Bool
  /-- present command: on-time frame or current frame, and its VALUE -/
  ontime : Bool
  value : Nat
  /-- consecutive markers received, to 16 -/
  locked : Nat
  missed : Nat
  marker : Marker
  /-- CNT of the present tick's marker -/
  cnt : Nat
  /-- a power or override frame counted in this tick; a power frame acted on; an override acted on; a management frame acted on -/
  heard : Bool
  actPwr : Bool
  actOvr : Bool
  actMgmt : Bool
  /-- CMDERR due in this tick's sample frame -/
  cmderr : Bool
  /-- a valid management frame for any address came in the present tick, and in the previous -/
  sawMgmt : Bool
  sawMgmtPrev : Bool
  /-- reply owed in slot A of this tick: REG, DATA, STATUS -/
  owe : Option (Nat × Nat × Nat)
  oweNext : Option (Nat × Nat × Nat)
  /-- the last upstream frame sent in this tick's sample slot and in slot A -/
  txSample : Option W32
  txAux : Option W32
deriving DecidableEq, Repr

def Stage.init : Stage :=
  { powered := false, st := .powerup, reg := [], extra := [], enable := false, ontime := false, value := 0,
    locked := 0, missed := 0, marker := .missing, cnt := 0, heard := false, actPwr := false, actOvr := false,
    actMgmt := false, cmderr := false, sawMgmt := false, sawMgmtPrev := false, owe := none, oweNext := none,
    txSample := none, txAux := none }

/-! ## Loop engines and loop clusters (chapter 06) -/

/-- What an LE is doing (LC_LE_STATUS.STATE). -/
inductive LeSt where
  | idle | run | wait | ended | stopped | replaced | fenced | out
deriving DecidableEq, Repr

def LeSt.code : LeSt → Nat
  | .idle => 0 | .run => 1 | .wait => 2 | .ended => 3 | .stopped => 4 | .replaced => 5 | .fenced => 6 | .out => 7

/-- A demand notice in a queue, as the weir limited it (R252). -/
structure Notice where
  step : Int
  lead : Nat
  /-- arrival: tick, and ns from that tick's edge -/
  tick : Nat
  ns : Nat
deriving DecidableEq, Repr

/-- The sample set of R208. -/
structure SampleSet where
  rs : Nat
  /-- previous tick's samples, by rail position -/
  curp : Tab Samp
  avail : Nat
  state : W32
deriving DecidableEq, Repr

/-- A command-buffer entry (R210, R222). -/
structure CmdEnt where
  /-- 0 DRIVE, 1 SHED, 2 HOLD -/
  ty : Nat
  value : Nat
  en : Bool
  released : Bool
deriving DecidableEq, Repr

/-- An access to cluster-shared memory that stalls the LE (R196). -/
structure ShAcc where
  store : Bool
  half : Bool
  d : Nat
  addr : Nat
  data : W32
  /-- the pointer to step after the access, and by how much -/
  post : Option (Nat × Nat)
deriving DecidableEq, Repr

structure LoopEngine where
  k : Tab W32
  m : Tab (BitVec 72)
  p : Tab (BitVec 20)
  lc0 : W32
  lc1 : W32
  le0 : W32
  le1 : W32
  pc : BitVec 11
  sat : Bool
  /-- LS bits 4:0 -/
  ls : BitVec 5
  hage : W32
  /-- LE cycle within the tick -/
  cyc : Nat
  st : LeSt
  /-- WAITS in progress: d, mask, bound -/
  wait : Option (Nat × Nat × Option W32)
  sh : Option ShAcc
  cmd : Tab CmdEnt
  nq : List Notice
  set : Option SampleSet
  /-- the set has been delivered in this tick -/
  setNow : Bool
  pubs : Tab W32
  /-- RESET, FENCE and UNFENCE written to LC_LE_CTL, waiting for the tick edge (R240) -/
  pend : Bool × Bool × Bool
  commitCyc : Option Nat
  endCyc : Option Nat
  /-- the first word that RDN read in this tick -/
  firstNotice : Option W32
  /-- the fault cause of this tick; an overrun in this tick -/
  cause : Option Nat
  overrun : Bool
  /-- active bank; the words of the loop buffer while it is in use -/
  bank : Nat
  lbuf : Option (List W32)
  /-- words of the loop buffer that the copy marked, bit i (R198) -/
  lbad : Nat
  /-- code length of each bank's LOOP entry and the initial MODE that it gave, by bank -/
  codeLen : Tab Nat
  initMode : Tab Nat
  /-- the tick of the fault that led to a takeover was a fault, not an overrun, and no reset has come since (R235) -/
  faultTaken : Bool
  /-- ticks in a row that ended in a fault or overrun without takeover (R315) -/
  badRun : Nat
  /-- this LE was started in the present tick -/
  started : Bool
  /-- DBG_LE_CTL.GO written since the last start (R564) -/
  go : Bool
deriving DecidableEq, Repr

def LoopEngine.init : LoopEngine :=
  { k := [], m := [], p := [], lc0 := 0, lc1 := 0, le0 := 0, le1 := 0, pc := 0, sat := false, ls := 0, hage := 0,
    cyc := 0, st := .idle, wait := none, sh := none, cmd := [], nq := [], set := none, setNow := false, pubs := [],
    pend := (false, false, false), commitCyc := none, endCyc := none, firstNotice := none, cause := none, overrun := false,
    bank := 0, lbuf := none, lbad := 0, codeLen := [], initMode := [], faultTaken := false, badRun := 0, started := false, go := false }

/-- A loop cluster: the spare's binding, and a pending RELEASE. -/
structure LoopCluster where
  /-- the LE that the spare serves -/
  spareFor : Option Nat
  /-- RELEASE waits for the edge after the next commit point (R235): decided at the commit point -/
  release : Bool
  releaseOk : Bool
  /-- fenced whole by R27 -/
  fenced : Bool
  /-- rings that resume from the next tick, bit s -/
  resume : Nat
deriving DecidableEq, Repr

def LoopCluster.init : LoopCluster := { spareFor := none, release := false, releaseOk := false, fenced := false, resume := 0 }

/-! ## Rails, weir, sequencing, ADC and hint ports (chapter 07) -/

/-- Rail and step states (R243). -/
inductive RState where
  | off | wait | ramp | regulate | down | fault
deriving DecidableEq, Repr

def RState.code : RState → Nat
  | .off => 0 | .wait => 1 | .ramp => 2 | .regulate => 3 | .down => 4 | .fault => 5

def RState.ofCode : Nat → RState
  | 1 => .wait | 2 => .ramp | 3 => .regulate | 4 => .down | 5 => .fault | _ => .off

/-- RAMP, REGULATE or DOWN: the LEs drive the rail. -/
def RState.live : RState → Bool
  | .ramp => true | .regulate => true | .down => true | _ => false

structure Rail where
  st : RState
  cause : Nat
  pg : Bool
  plaus : Bool
  /-- the setpoint S in force, and the remote-sense code of this tick -/
  s : Nat
  code : Nat
  nrec : Nat
  dwell : Nat
  uvRun : Nat
  /-- ticks outside and inside the plausibility band -/
  outRun : Nat
  inRun : Nat
  nophaseRun : Nat
  pgRun : Nat
  /-- ticks over POC, by position -/
  pocRun : Tab Nat
  tocRun : Nat
  tocThis : Bool
  /-- ticks for which the phase clamp of a position, and the total clamp, stay in force -/
  pocClamp : Tab Nat
  tocClamp : Nat
  vtoc : Nat
  /-- observer estimate, previous tick's sum, and whether the estimate is known for this tick -/
  iest : Int
  imeas : Int
  iestOk : Bool
  /-- the values in force at the stages in RUN at the strobe, by position (R258) -/
  force : Tab Nat
  /-- ticks since the start, for PG_TMO -/
  since : Nat
  /-- OFF due at the next tick edge, shed at once by IMMEDIATE -/
  offNext : Bool
  /-- the newest handover record and the tick of its END -/
  hrec : Option (Bytes × Nat)
  /-- the gang position that gave it -/
  recPos : Nat
  /-- a valid record received from the companion in this tick, and the tick of the last one -/
  recIn : Option Bytes
  recTick : Option Nat
  /-- the frames of this tick released after R261, and those heard from the driving package, by position -/
  mine : Tab W32
  heard : Tab W32
  mismRun : Nat
  /-- positions to which this package's weir decided an override in this tick, and to which one was heard -/
  ovrMine : List Nat
  ovrHeard : List Nat
  /-- positions readmitted by RAIL_WSHED that wait for the next latch (R276) -/
  wback : List Nat
deriving DecidableEq, Repr

def Rail.init : Rail :=
  { st := .off, cause := 0, pg := false, plaus := false, s := 0, code := 0, nrec := 0, dwell := 0, uvRun := 0,
    outRun := 0, inRun := 0, nophaseRun := 0, pgRun := 0, pocRun := [], tocRun := 0, tocThis := false, pocClamp := [],
    tocClamp := 0, vtoc := 0, iest := 0, imeas := 0, iestOk := false, force := [], since := 0, offNext := false, hrec := none, recPos := 0,
    recIn := none, recTick := none, mine := [], heard := [], mismRun := 0, ovrMine := [], ovrHeard := [], wback := [] }

/-- A step of the power sequence. -/
structure SeqStep where
  st : RState
  pg : Bool
  cause : Nat
  /-- ticks since the last dependency gained power good, or since WAIT -/
  wait : Nat
  /-- ticks since the start or since the shutdown of the step -/
  since : Nat
  /-- waits for its dependents before it goes down (R272) -/
  goingDown : Bool
  immediate : Bool
  /-- a GPIO step's output level -/
  out : Bool
deriving DecidableEq, Repr

def SeqStep.init : SeqStep := { st := .off, pg := false, cause := 0, wait := 0, since := 0, goingDown := false, immediate := false, out := false }

/-- ADC: samples in a row at one end of the scale, by channel (64 on are auxiliary). -/
structure Adc where
  satRun : Tab Nat
deriving DecidableEq, Repr

/-- A hint port: the tick of its last accepted notice. -/
structure Hint where
  lastTick : Option Nat
deriving DecidableEq, Repr

def Hint.init : Hint := { lastTick := none }

/-! ## The ledger (chapter 08) -/

/-- A cached series: the engine's copy, whether it changed, and the tick of its first change since the last write-back. -/
structure CacheEnt where
  bytes : Bytes
  dirty : Bool
  since : Nat
  used : Nat
deriving DecidableEq, Repr

/-- What a poll asks on the partner's bus (R287, R290). -/
inductive PollReq where
  /-- a read of `len` bytes at an address of the RP0 windows -/
  | pcie (addr len : Nat)
  /-- GetSensorReading of a sensor at an MCTP endpoint, on UNIT -/
  | pldm (unit eid sensor : Nat)
  /-- a command of an SMBus target: mode 0 Read Byte, 1 Read Word, 2 Block Read -/
  | smbus (unit addr cmd mode : Nat) (pec : Bool)
  /-- a private read of `len` bytes after the register index has been written -/
  | i3c (unit addr reg len : Nat)
  /-- the 12-byte poll frame to an IPv4 address and UDP port -/
  | eth (unit ip udp : Nat) (frame : Bytes)
deriving DecidableEq, Repr

/-- A poll outstanding to a partner. -/
structure Poll where
  partner : Nat
  /-- what was sent -/
  req : PollReq
  series : Nat
  tag : Nat
  issued : Nat
  probe : Bool
  /-- the entry's identity fields when the poll was issued (R300) -/
  key : Bytes
  /-- its granule of pool 1 (R462, R466) -/
  granule : Nat
deriving DecidableEq, Repr

structure Partner where
  timeouts : Nat
  absent : Bool
  throttled : Bool
  /-- ticks of the unsolicited frames of the last 1,024 ticks, newest first -/
  unsol : List Nat
  /-- the tick from which a throttle counts its quiet 1,024 ticks -/
  quietFrom : Nat
  /-- every second due poll is skipped while throttled -/
  skip : Bool
  probeAt : Nat
  cntTimeouts : Nat
  cntErrors : Nat
  cntUnsol : Nat
deriving DecidableEq, Repr

def Partner.init : Partner :=
  { timeouts := 0, absent := false, throttled := false, unsol := [], quietFrom := 0, skip := false, probeAt := 0,
    cntTimeouts := 0, cntErrors := 0, cntUnsol := 0 }

structure Ledger where
  cache : Tab CacheEnt
  polls : List Poll
  /-- due polls that wait to be issued: series numbers -/
  waiting : List Nat
  part : Tab Partner
  /-- series whose first update after WRITE or RESET_STATS is due -/
  fresh : Tab Bool
  /-- series that wait for their first update: the tick in which the engine wrote or first met the entry, and the bytes of firmware in it (R293) -/
  writtenAt : Tab (Nat × Bytes)
  /-- a command runs -/
  busy : Bool
  code : Nat
  /-- LRU clock -/
  clock : Nat
  tag : Nat
  /-- publications latched at END: LE × 16 + slot to (tick, value) -/
  pub : Tab (Nat × W32)
  /-- the tick of the last auxiliary frame of a phase, and of the last valid sample -/
  auxTick : Tab Nat
  /-- values latched for the tick before whose internal updates are still to be applied, by series, with the identity fields that the entry had (R296) -/
  late : Tab (Int × Bytes)
  /-- updates applied in this tick (R296) -/
  applied : Nat
  /-- series that have fallen due and been served in this tick -/
  done : List Nat
  /-- how far the service of this tick has come: updates of the tick before, then of this tick, then replies -/
  cursor : Nat
deriving DecidableEq, Repr

/-! ## Companion pair (chapter 09) -/

/-- Acting states (R303). -/
inductive Act where
  | driving | shadow | detached | joining | fenced | blocked
deriving DecidableEq, Repr

def Act.code : Act → Nat
  | .driving => 0 | .shadow => 1 | .detached => 2 | .joining => 3 | .fenced => 4 | .blocked => 5

structure Companion where
  act : Act
  /-- role in force: 0 SINGLE, 1 PRIMARY, 2 SECONDARY -/
  role : Nat
  link : Bool
  /-- the last valid heartbeat of the other package -/
  hb : Option Bytes
  /-- the tick that brought it -/
  hbTick : Nat
  /-- consecutive ticks without a valid heartbeat, and with valid heartbeats and records -/
  hbLost : Nat
  /-- HB_LOST has been set since the last valid heartbeat -/
  lost : Bool
  joinRun : Nat
  /-- a handoff edge H; whether this package gives or takes -/
  handoff : Option (Nat × Bool)
  /-- the join edge J granted to the other, or received -/
  grant : Option Nat
  joinAt : Option (Nat × Nat × Nat)
  leave : Bool
  leavePend : Bool
  /-- a yield cause arose in this tick -/
  yield : Bool
  /-- a cause that arose at this edge, for the next one -/
  yieldNext : Bool
  /-- DUALPRI seen: yield at the next edge when our SERIAL is the higher -/
  dual : Bool
  /-- a fence request waits for its instant -/
  fenceReq : Bool
  /-- PAIR_FENCE_N read high at 10 ns before the instant -/
  ready : Bool
  /-- the send that runs: the code that is already known, the stall, and the record (R325) -/
  mig : Option (Nat × Nat × Bytes)
  /-- the net read low throughout the 2 ms before the tick starts -/
  netHeld : Bool
  /-- the counts were taken over at the join edge J (R321) -/
  counted : Bool
  /-- GPIO bits of the newest valid heartbeat -/
  gpio : Nat
  /-- heartbeat sent at the last edge, the handover records sent after it, and the last stall record sent with its CRC (R307) -/
  hbOut : Bytes
  recOut : List Bytes
  migOut : Bytes
deriving DecidableEq, Repr

/-! ## Cores (chapters 10 to 13) -/

/-- Memory types (R331, R410), weakest first by R415. -/
inductive MemTy where
  | wb | nc | relaxed | strict
deriving DecidableEq, Repr

/-- DEVICE-STRICT or DEVICE-RELAXED. -/
def MemTy.device : MemTy → Bool
  | .relaxed => true | .strict => true | _ => false

/-- A store-buffer entry (R344): its address, bytes and type, and what STERR_FLAGS would record of it (R406). -/
structure SbEnt where
  pa : Nat
  bytes : Bytes
  ty : MemTy
  sid : BitVec 16
  lvl : Lvl
deriving DecidableEq, Repr

/-- A combined translation in a TLB (R423, R424). -/
structure TlbEnt where
  sid : BitVec 16
  /-- whether stage 1 and stage 2 were on when it was built -/
  s1 : Bool
  s2 : Bool
  /-- log2 of the size of the stage-1 leaf, of the stage-2 leaf, and of the block that the entry covers -/
  size1 : Nat
  size2 : Nat
  size : Nat
  /-- first VA and first PA of the block -/
  va : Nat
  pa : Nat
  r : Bool
  w : Bool
  x : Bool
  u : Bool
  ty : MemTy
deriving DecidableEq, Repr

/-- A walk-cache entry (R423): a stage-1 table entry by SID, level and address prefix; a stage-2 table entry by level and address prefix; or the stage-2 translation of the page of a stage-1 table. -/
inductive WcEnt where
  | tab1 (sid : BitVec 16) (level pre : Nat) (e : Nat)
  | tab2 (level pre : Nat) (e : Nat)
  | trans (page pa : Nat) (size : Nat)
deriving DecidableEq, Repr

/-- How an L2 holds a line (R332). -/
inductive Mesi where
  | modified | exclusive | shared
deriving DecidableEq, Repr

/-- A load whose data has not come (R335, R345): one part per aligned 8-byte unit that it touches. -/
structure LoadWait where
  d : Nat
  /-- address and length of each part -/
  parts : List (Nat × Nat)
  size : Nat
  signed : Bool
  va : W64
  /-- the lines that it allocates in L1D (R331) -/
  wb : List Nat
  /-- it waited for an overlapping store (R356) -/
  ovlp : Bool
deriving DecidableEq, Repr

/-- The core states of R509. A core held in reset, or in a region that is not powered, holds nothing and counts as C3 (log entry 140). -/
inductive CoreSt where
  | run | c1 | c2 | c3
deriving DecidableEq, Repr

/-- A stream of a core's stride prefetcher (R352): the page, the last address of a load in it, and the stride before that. -/
structure Stream where
  page : Nat
  last : Nat
  stride : Int
deriving DecidableEq, Repr

structure Core where
  /-- g1 to g30 -/
  g : Tab W64
  /-- SP_U, SP_S, SP_H, SP_M by level code -/
  sp : Tab W64
  pc : W64
  /-- the other system registers by number -/
  sr : Tab W64
  st : CoreSt
  /-- halted by debug (R562) -/
  halted : Bool
  /-- a HALT waits for the next boundary, or for the core to leave C3 (R562, R563); a STEP is in progress -/
  haltReq : Bool
  stepping : Bool
  /-- store buffer, oldest first -/
  sb : List SbEnt
  /-- address and size of the reservation -/
  rsv : Option (Nat × Nat)
  /-- the pending store error is the one that STERR_ADDR records (R406) -/
  sterrOwn : Bool
  load : Option LoadWait
  /-- neither a store error nor an interrupt is recognised at the next boundary (R398) -/
  shield : Bool
  /-- SYNC and TS are due before its next instruction (R556, R560) -/
  resync : Bool
  /-- a write of DET whose drain and invalidation stand before the next instruction (R353) -/
  detDue : Bool
  /-- the timer may fire (R389) -/
  armed : Bool
  /-- SID, TTB1, TCTL1, TTB2 and TCTL2 in force for fetch (R386) -/
  fsid : BitVec 16
  fttb1 : W64
  ftctl1 : W64
  fttb2 : W64
  ftctl2 : W64
  itlb : List TlbEnt
  /-- translations that a TINV removed, which instructions already fetched keep until an ISYNC (R427) -/
  stale : List TlbEnt
  dtlb : List TlbEnt
  l2tlb : List (Nat × TlbEnt)
  wc : List WcEnt
  /-- L1I lines held, by line address, with their bytes as fetched (R333) -/
  l1i : Tab Bytes
  /-- the lines that L1D holds, newest first (R329, R331) -/
  l1t : List Nat
  /-- dirty L1D lines, with the bytes that the levels below hold (R358) -/
  l1d : Tab Bytes
  /-- events of the instruction in progress, counted when it retires (R355) -/
  evs : List Nat
  /-- direction table, history and return stack, newest first (R337, R338) -/
  bp : Tab Nat
  hist : Nat
  ret : List W64
  /-- the prefetcher's streams, newest first (R352) -/
  pf : List Stream
deriving DecidableEq, Repr

def CoreSt.code : CoreSt → Nat
  | .run => 0 | .c1 => 1 | .c2 => 2 | .c3 => 3

def Core.init : Core :=
  { g := [], sp := [], pc := 0, sr := [], st := .c3, halted := false, haltReq := false, stepping := false, sb := [], rsv := none, sterrOwn := false, load := none, shield := false, resync := false, detDue := false,
    armed := false, fsid := 0, fttb1 := 0, ftctl1 := 0x79540C01, fttb2 := 0, ftctl2 := 1, itlb := [], stale := [], dtlb := [], l2tlb := [],
    wc := [], l1i := [], l1t := [], l1d := [], evs := [], bp := [], hist := 0, ret := [], pf := [] }


/-! ## Event distributor (chapter 14): EN, PEND and ACT stand in the registers EVD_EN_SET, EVD_PEND_SET and EVD_ACTIVE -/

structure Evd where
  /-- the target that acknowledged an active source -/
  actOn : Tab Nat
  /-- the source presented to a target -/
  pres : Tab Nat
  /-- the tick in which a target last acknowledged a source with MOD = 1 -/
  modAt : Tab Nat
deriving DecidableEq, Repr

/-! ## Mailboxes (chapter 14) -/

/-- One direction of a mailbox (R446, R453): stamped words, oldest first, and the acknowledge register. -/
structure MbxDir where
  q : List (W32 × W32)
  /-- 0 IDLE, 1 WAIT, 2 DONE, 3 TIMEOUT -/
  st : Nat
  code : Nat
  /-- the tick from which WAIT counts; a direction restored from another part may count from before tick 0 (R503) -/
  w : Int
  seq : Nat
deriving DecidableEq, Repr

def MbxDir.init : MbxDir := { q := [], st := 0, code := 0, w := 0, seq := 0 }

structure Mailbox where
  ab : MbxDir
  ba : MbxDir
deriving DecidableEq, Repr

def Mailbox.init : Mailbox := { ab := MbxDir.init, ba := MbxDir.init }

/-! ## DMA channels and the basin (chapter 15) -/

/-- Channel states (R485). -/
inductive ChSt where
  | idle | queued | active | waiting | pausing | paused | stopping | error
deriving DecidableEq, Repr

def ChSt.code : ChSt → Nat
  | .idle => 0 | .queued => 1 | .active => 2 | .waiting => 3 | .pausing => 4 | .paused => 5 | .stopping => 6 | .error => 7

structure Chan where
  st : ChSt
  /-- CODE of R490 -/
  code : Nat
  underrun : Bool
  stopped : Bool
  part : Bool
  wdraw : Nat
  /-- the channel holds a context; the entry's bytes 0 to 63 cached in it; when it was last used -/
  ctx : Bool
  entry : Bytes
  used : Nat
  /-- active set: address and bytes of the barge in progress -/
  barge : Option (Nat × Bytes)
  /-- shadow set -/
  shadow : Option (Nat × Bytes)
  /-- the error that the next barge ends with at its turn: its descriptor has been read and failed, or its port data ran short (R472, R481, R483) -/
  shadowErr : Option Nat
  /-- the barge to load next, 0 for none -/
  next : Nat
  /-- saved CUR_BARGE and POS (R469) -/
  cur : Nat
  pos : Nat × Nat × Nat
  /-- elements of the active barge written and acknowledged, and the element at which it started (R486) -/
  wrn : Nat
  base : Nat
  /-- data read and not yet written -/
  buf : Bytes
  /-- data read ahead for the shadow barge (R479) -/
  ahead : Bytes
  /-- bytes of completed barges since START -/
  xfer : Nat
  /-- bytes still missing of the port burst in progress, and of one for the shadow barge; the tick of its last byte (R483) -/
  burst : Option Nat
  aburst : Option Nat
  lastAt : Nat
  /-- a read error that ends the barge once everything read before it has been written (R490) -/
  fail : Option Nat
  /-- where a continued barge starts (R486), once the barge is loaded -/
  resumeAt : Option (Nat × Nat × Nat)
  /-- how a queued channel starts: 0 FIRST_BARGE, 1 the saved position, 2 NEXT_BARGE, 3 NEXT_BARGE after displacement -/
  want : Nat
  /-- STOP came while PAUSING (R487) -/
  stopNext : Bool
deriving DecidableEq, Repr

def Chan.init : Chan :=
  { st := .idle, code := 0, underrun := false, stopped := false, part := false, wdraw := 0, ctx := false, entry := [],
    used := 0, barge := none, shadow := none, shadowErr := none, next := 0, cur := 0, pos := (0, 0, 0), wrn := 0, base := 0, buf := [], ahead := [],
    xfer := 0, burst := none, aburst := none, lastAt := 0, fail := none, resumeAt := none, want := 0, stopNext := false }

structure Dma where
  ch : Tab Chan
  /-- request lines on which the port requests, and the channel whose context holds a line (R481, R544) -/
  req : Tab Bool
  held : Tab Nat
  /-- the last burst given to the port of a line -/
  out : Tab Bytes
  clock : Nat
deriving DecidableEq, Repr

/-- A granule that is held: its pool, and the stall that it is tagged with (R463, R505). -/
structure Granule where
  pool : Nat
  stall : Option Nat
deriving DecidableEq, Repr

/-! ## Stalls (chapter 16): maps, SID and STATE stand in the registers of R507 -/

structure Stall where
  /-- EN of each source slot as latched by QUIESCE -/
  latch : Nat
  /-- the command that runs -/
  cmd : Option Nat
  /-- the tick of FREEZE -/
  frozenAt : Nat
  /-- the code of the ledger-view command that runs -/
  lv : Option Nat
deriving DecidableEq, Repr

def Stall.init : Stall := { latch := 0, cmd := none, frozenAt := 0, lv := none }

/-! ## Power (chapter 17) -/

/-- The steps of a sluice request (R516). -/
inductive SlPhase where
  | lower | ack | settle | rise
deriving DecidableEq, Repr

structure Sluice where
  v : Nat
  f0 : Nat
  f1 : Nat
  phase : SlPhase
  /-- the request lowers or keeps the voltage (R518) -/
  keeps : Bool
deriving DecidableEq, Repr

/-- The standby record of R523: the structure as it stood, the active bank of each LE and its code. -/
structure Standby where
  sec : Tab (Tab Bytes)
  bank : Tab Nat
  code : Tab Bytes
  lens : Tab (Tab Nat × Tab Nat)
deriving DecidableEq, Repr

structure Pwr where
  /-- the core whose PWR_PKG_CTL.GO waits for its WAIT, or that is held in C2 during entry -/
  writer : Option Nat
  /-- 1 P-STANDBY, 2 P-DEEP -/
  target : Nat
  /-- the entry step in progress (R520) -/
  step : Option Nat
  /-- a wake or a write of R520 has come during the entry -/
  abort : Bool
  /-- the package state: 0 running, 1 P-STANDBY, 2 P-DEEP -/
  asleep : Nat
  stby : Option Standby
  /-- SHA-384 digests of the image copy, the firmware copy and the standby record (R520 step 4) -/
  digest : Option (BitVec 384 × BitVec 384 × BitVec 384)
  /-- the image and the firmware as last verified -/
  copies : Bytes × Bytes
  sluice : Tab Sluice
  /-- regions whose voltage is unknown after NOACK or SETTLE, bit r (R518) -/
  vbad : Nat
  /-- voltage and frequencies before retention, by region (R514) -/
  before : Tab (Nat × Nat × Nat)
  /-- the unit action in progress: its actions, KIND and INDEX (R525) -/
  act : Option (Nat × Nat × Nat)
  /-- the code of an action that the tick edge has carried out (R525) -/
  acted : Option Nat
deriving DecidableEq, Repr

/-! ## External ports (chapter 18) -/

/-- What a port controller last sent of its own: a mailbox frame's reply, a notification, a raw operation, a packet (log entry 5). -/
inductive PortOut where
  | none
  | reply (b : Bytes)
  /-- a frame for an address of the network, or a UART: a notification of R536 -/
  | frame (dest : W32) (b : Bytes)
  /-- MSI-X vector v (R536) -/
  | msix (v : Nat)
  /-- SMBus Host Notify to address 0x08, with its data (R536) -/
  | hostNotify (data : Nat)
  /-- a STOP that ends a transaction (R539) -/
  | stop
  | raw (cmd data : W32)
  | packet (b : Bytes)
  | unsupported
  /-- an AVSBus VOUT write, in mV (R516) -/
  | vout (mv : Nat)
  /-- the NACK of an address that wakes the part (R521) -/
  | nack
deriving DecidableEq, Repr

structure ExtPort where
  /-- first tokens of received packets, oldest first (R537) -/
  rxq : List Nat
  /-- first tokens of packets to send, oldest first -/
  txq : List Nat
  /-- the raw operation that runs: PORT_RAW_CMD -/
  raw : Option W32
  /-- source of the last frame delivered for a mailbox (R536) -/
  src : Tab W32
  out : PortOut
  /-- in-band interrupts in this tick (R547), by target -/
  ibi : Tab Nat
  /-- the raw operation waits for the partner transaction in progress (R548) -/
  rawHeld : Bool
  /-- it has lost arbitration once (R539) -/
  rawTried : Bool
  /-- the MCTP endpoint identifier that the host's bus owner assigned, 0 for none (R538) -/
  eid : Nat
  /-- a malformed TLP stands in AER (R547) -/
  aer : Bool
  /-- TIMEBASE up to which a pause frame holds the port (R533, R547), and the frames that wait for it -/
  pauseTo : Nat
  wait : List Bytes
  /-- TIMEBASE of the last IEEE 1588 event message in and out (R533) -/
  ptpRx : Option Nat
  ptpTx : Option Nat
  /-- bytes in a UART's receive FIFO, at most 64 (R542) -/
  fifo : Bytes
deriving DecidableEq, Repr

def ExtPort.init : ExtPort :=
  { rxq := [], txq := [], raw := none, src := [], out := .none, ibi := [], rawHeld := false, rawTried := false, eid := 0, aer := false, pauseTo := 0, wait := [],
    ptpRx := none, ptpTx := none, fifo := [] }

/-- A learnt address: its port and the TIMEBASE of its last refresh (R533). -/
structure MacEnt where
  port : Nat
  at_ : Nat
deriving DecidableEq, Repr

structure Switch where
  /-- keyed VLAN × 2^48 + address -/
  mac : Tab MacEnt
  /-- frames to the internal port in this tick, by ingress port -/
  storm : Tab Nat
  /-- the last frame that each external port sent -/
  fwd : Tab Bytes
deriving DecidableEq, Repr

structure Fans where
  /-- every PWM output is at 100 % (R543) -/
  all : Bool
  /-- fans that drive their own PWM at 100 %, bit f -/
  own : Nat
  /-- consecutive slow windows -/
  slow : Tab Nat
  /-- TIMEBASE of the last KICK, or of the write that set the watchdog's period -/
  kickAt : Nat
deriving DecidableEq, Repr

/-! ## Trace and debug (chapter 19) -/

/-- A towpath source (R551 to R557). -/
structure TraceSrc where
  /-- packet bytes in its FIFO, oldest first -/
  fifo : Bytes
  /-- atoms held, oldest first (R554) -/
  atoms : List Bool
  /-- bytes of its stream since the last SYNC (R556) -/
  since : Nat
  /-- packets lost since the last OVF -/
  lost : Nat
  /-- packets of a stalled core that wait for room (R557) -/
  held : List Bytes
deriving DecidableEq, Repr

def TraceSrc.init : TraceSrc := { fifo := [], atoms := [], since := 0, lost := 0, held := [] }

/-- Where the funnel's frames went: the port's lanes keep the last frame sent on each (R559). -/
structure Trace where
  src : Tab TraceSrc
  /-- the lane that the next frame takes, and the last frame on each lane -/
  lane : Nat
  out : Tab Bytes
  /-- the debug access path is unlocked (R567) -/
  unlocked : Bool
  /-- the object run by TRC_DBG_UNLOCK.BOOT -/
  bootObj : Bytes
deriving DecidableEq, Repr


/-- The state of the block: every register, queue, buffer, counter, mode and pin that the spec gives it, and the queue of commands that wait. -/
structure State where
  /-- commands waiting, first in, first out -/
  pending : List Instr
  /-- the model's own count of the free values taken so far (log entry 2) -/
  free : Nat
  /-- the control-space registers that hold their own value, by register and index; unlisted: the reset value -/
  regs : Tab (Tab W32)
  /-- memory by physical address: DRAM, basin, local and cluster-shared loop memory (R44) -/
  mem : List Host.Cell
  /-- the last answer on the fabric: a value read, a bus error, or nothing (log entry 5) -/
  reply : Reply1
  unit : Tab UnitSt
  img : Img
  keep : Keep
  tick : Tick
  pins : Pins
  port : Tab Port
  stage : Tab Stage
  le : Tab LoopEngine
  /-- what ECC finds in the code words that the present command copies into loop buffers (R198): LE of the bank, word, finding; empty between commands -/
  copyEcc : CopyEcc
  lc : Tab LoopCluster
  rail : Tab Rail
  seq : Tab SeqStep
  adc : Adc
  hint : Tab Hint
  ldg : Ledger
  cmp : Companion
  core : Tab Core
  /-- the lines that the L2 of each core cluster holds (R329, R332) -/
  l2 : Tab (Tab Mesi)
  /-- poisoned lines of the system caches (R330), by line address -/
  poison : List Nat
  evd : Evd
  mbx : Tab Mailbox
  dma : Dma
  /-- granules held, by index -/
  basin : Tab Granule
  stall : Tab Stall
  pwr : Pwr
  ext : Tab ExtPort
  sw : Switch
  fans : Fans
  trc : Trace
deriving DecidableEq, Repr

/-- The machine right after reset: PORST_N asserted, the fuses and counters as log entry 31 names them, nothing loaded. DESIGN CHOICE: the bucket of R117 starts with 64 signatures (log entry 183); TICK_IN is absent, PAIR_OWN_N is high and REFCLK runs (log entry 160). -/
def State.reset : State :=
  { pending := []
    free := 0
    regs := []
    mem := []
    reply := .none
    unit := []
    img := { sec := [], held := none, hold := 0, draining := 0, cpAt := 0, floors := (0, 0, 0) }
    keep := { devSecret := 0, idEc := 0, idHss := 0, slotEc := [], slotHss := [], provEc := 0, provHss := 0, lifecycle := 7, lcInForce := 7, serial := 0, cnt := [], mr := [], block := none, hssIdx := 0, bucket := 64, bucketAt := 0, exhausted := false, said1241 := false, trngOk := true, incBusy := none, lcBusy := none, job := none, sess := [], spdm := .none, spdmWait := false, boot := .reset, uart := [], loaderRun := [] }
    tick := { tb := 0, count := 0, edgeTb := 0, refclk := true, alignRun := 0, tickIn := false, wasIn := false, dark := false, lightDue := none }
    pins := { railFaultForced := true, tickOut := false, alertBoot := false, plOn := false, ownOut := false, ownHigh := true, ownHighAt := 0, fenceOut := false, fenceLow := false, porst := true, sysrst := false, supply := false }
    port := []
    stage := []
    le := []
    copyEcc := []
    lc := []
    rail := []
    seq := []
    adc := { satRun := [] }
    hint := []
    ldg := { cache := [], polls := [], waiting := [], part := [], fresh := [], writtenAt := [], busy := false, code := 0, clock := 0, tag := 0, pub := [], auxTick := [], late := [], applied := 0, done := [], cursor := 0 }
    cmp := { act := .driving, role := 0, link := false, hb := none, hbTick := 0, hbLost := 0, lost := false, joinRun := 0, handoff := none, grant := none, joinAt := none, leave := false, leavePend := false, yield := false, yieldNext := false, dual := false, fenceReq := false, ready := false, mig := none, netHeld := false, counted := false, gpio := 0, hbOut := [], recOut := [], migOut := [] }
    core := []
    l2 := []
    poison := []
    evd := { actOn := [], pres := [], modAt := [] }
    mbx := []
    dma := { ch := [], req := [], held := [], out := [], clock := 0 }
    basin := []
    stall := []
    pwr := { writer := none, target := 0, step := none, abort := false, asleep := 0, stby := none, digest := none, copies := ([], []), sluice := [], vbad := 0, before := [], act := none, acted := none }
    ext := []
    sw := { mac := [], storm := [], fwd := [] }
    fans := { all := true, own := 0, slow := [], kickAt := 0 }
    trc := { src := [], lane := 0, out := [], unlocked := false, bootObj := [] } }

/-- The outcome of a step of this machine. -/
abbrev Out := Host.Outcome State Fault Refusal

end Sys2Proof.Machine
end

