-- ==== Sys2Proof/Machine/Ops.lean ====
section
/-!
DEFINITION. The named operations over registers, memory, events, units and free values that every meaning is built from.
-/
namespace Sys2Proof.Machine

/-! ### Registers by access code (R4 to R7) -/

/-- The stored value of a register. -/
def State.rd (s : State) (r : Reg) (i : Nat) : W32 :=
  tget (BitVec.ofNat 32 r.desc.reset) (tget [] s.regs r.ctorIdx) i

/-- Store a register's value. -/
def State.wr (s : State) (r : Reg) (i : Nat) (v : W32) : State :=
  { s with regs := tset s.regs r.ctorIdx (tset (tget [] s.regs r.ctorIdx) i v) }

/-- The number in a field. -/
def State.gf (s : State) (r : Reg) (i : Nat) (f : Fld) : Nat := f.get (s.rd r i)

/-- Whether a one-bit field reads 1. -/
def State.gb (s : State) (r : Reg) (i : Nat) (f : Fld) : Bool := s.gf r i f == 1

/-- Set a field. -/
def State.pf (s : State) (r : Reg) (i : Nat) (f : Fld) (n : Nat) : State := s.wr r i (f.put (s.rd r i) n)

/-- Set a one-bit field. -/
def State.pb (s : State) (r : Reg) (i : Nat) (f : Fld) (b : Bool) : State := s.pf r i f (if b then 1 else 0)

/-- Add to a field that saturates at its largest number. -/
def State.inc (s : State) (r : Reg) (i : Nat) (f : Fld) (k : Nat) : State := s.pf r i f (min f.max (s.gf r i f + k))

/-- Set bit `b` of a register. -/
def State.setB (s : State) (r : Reg) (i b : Nat) : State := s.wr r i (s.rd r i ||| BitVec.ofNat 32 (2 ^ b))
/-- Clear bit `b` of a register. -/
def State.clrB (s : State) (r : Reg) (i b : Nat) : State := s.wr r i (s.rd r i &&& ~~~(BitVec.ofNat 32 (2 ^ b)))
/-- Bit `b` of a register. -/
def State.getB (s : State) (r : Reg) (i b : Nat) : Bool := bit (s.rd r i).toNat b

/-- A write by the access codes of R4: RW takes the value, W1C clears, W1S sets, every other bit keeps. -/
def regMerge (d : RegDesc) (old v : W32) : W32 :=
  let m (n : Nat) : W32 := BitVec.ofNat 32 n
  let a := (old &&& ~~~(m d.rw)) ||| (v &&& m d.rw)
  let b := a &&& ~~~(v &&& m d.w1c)
  b ||| (v &&& m d.w1s)

/-- What a read of a stored value returns: WO fields read 0 (R4). -/
def regShow (d : RegDesc) (v : W32) : W32 := v &&& ~~~(BitVec.ofNat 32 d.wo)

/-- What a read leaves: RC fields are cleared (R4). -/
def regAfterRead (d : RegDesc) (v : W32) : W32 := v &&& ~~~(BitVec.ofNat 32 d.rc)

/-- The plain write of R4 to a register. -/
def State.plainWrite (s : State) (r : Reg) (i : Nat) (v : W32) : State := s.wr r i (regMerge r.desc (s.rd r i) v)

/-- Return registers to their reset values, at every index. -/
def State.clearRegs (s : State) (rs : List Reg) : State := { s with regs := s.regs.filter (fun e => !(rs.map Reg.ctorIdx).contains e.1) }

/-! ### Free values -/

/-- Take a free value: the state with its count advanced. -/
def State.tick1 (s : State) : State := { s with free := s.free + 1 }
def State.freeW32 (s : State) : W32 := Config.freeW32 s.free
def State.freeW64 (s : State) : W64 := Config.freeW64 s.free
def State.freeBit (s : State) : Bool := Config.freeBit s.free
def State.freeNat (s : State) : Nat := Config.freeNat s.free
/-- `n` free bytes. -/
def freeBytesN (c : Nat) : Nat → Bytes
  | 0 => []
  | n + 1 => (Config.freeBytes c n).getD 0 0 :: freeBytesN c n
def State.freeBs (s : State) (n : Nat) : Bytes := freeBytesN s.free n

/-! ### Memory: (address, byte) pairs, addresses rising, no entry of 0 -/

/-- The byte at an address; an unlisted address reads 0 (log entry 1). -/
def memGet : List Host.Cell → Nat → Byte
  | [], _ => 0
  | (k, v) :: r, a => if k = a then v else memGet r a

/-- Write one byte, keeping the canonical form. -/
def memSet : List Host.Cell → Nat → Byte → List Host.Cell
  | [], a, v => if v = 0 then [] else [(a, v)]
  | (k, w) :: r, a, v =>
    if k = a then (if v = 0 then r else (a, v) :: r)
    else if a < k then (if v = 0 then (k, w) :: r else (a, v) :: (k, w) :: r)
    else (k, w) :: memSet r a v

/-- The canonical form: addresses strictly rise from `lo` on, and no entry is 0. -/
def memWfFrom : Nat → List Host.Cell → Bool
  | _, [] => true
  | lo, (k, v) :: r => decide (lo ≤ k) && (v != 0) && memWfFrom (k + 1) r

/-- The canonical form of a memory. -/
def Memory.wf (m : List Host.Cell) : Bool := memWfFrom 0 m

/-- Write bytes from an address upward. -/
def memPut : List Host.Cell → Nat → Bytes → List Host.Cell
  | m, _, [] => m
  | m, a, b :: r => memPut (memSet m a b) (a + 1) r

/-- Read `n` bytes from an address upward. -/
def memRead (m : List Host.Cell) (a : Nat) : Nat → Bytes
  | 0 => []
  | n + 1 => memGet m a :: memRead m (a + 1) n

def State.mget (s : State) (a : Nat) : Byte := memGet s.mem a
def State.mput (s : State) (a : Nat) (b : Bytes) : State := { s with mem := memPut s.mem a b }
def State.mread (s : State) (a n : Nat) : Bytes := memRead s.mem a n
/-- The little-endian number in `n` bytes at `a`. -/
def State.mnum (s : State) (a n : Nat) : Nat := ofBytes (s.mread a n)

/-! ### CRCs -/

/-- One step of the CRC-8 of R160, one bit. -/
def crc8Bit (c : Nat) : Nat := if c ≥ 128 then ((2 * c) % 256) ^^^ 7 else 2 * c
def crc8Byte (c b : Nat) : Nat :=
  crc8Bit (crc8Bit (crc8Bit (crc8Bit (crc8Bit (crc8Bit (crc8Bit (crc8Bit (c ^^^ b))))))))
/-- The CRC-8 of R160: polynomial 0x07, initial 0xFF, no inversion. -/
def crc8 (bs : List Nat) : Nat := bs.foldl crc8Byte 255

/-- CRC-32 as in IEEE 802.3, reflected form, one bit. -/
def crc32Bit (c : Nat) : Nat := if c % 2 = 1 then (c / 2) ^^^ 0xEDB88320 else c / 2
def crc32Byte (c : Nat) (b : Byte) : Nat :=
  crc32Bit (crc32Bit (crc32Bit (crc32Bit (crc32Bit (crc32Bit (crc32Bit (crc32Bit (c ^^^ b.toNat))))))))
def crc32 (bs : Bytes) : Nat := (bs.foldl crc32Byte 0xFFFFFFFF) ^^^ 0xFFFFFFFF

/-! ### Units (R11, R12), keyed by the KIND codes of R525 -/

def unitKey (kind idx : Nat) : Nat := kind * 4096 + idx
def State.unitAt (s : State) (kind idx : Nat) : UnitSt := tget UnitSt.init s.unit (unitKey kind idx)
def State.setUnit (s : State) (kind idx : Nat) (u : UnitSt) : State := { s with unit := tset s.unit (unitKey kind idx) u }
def State.fenced (s : State) (kind idx : Nat) : Bool := (s.unitAt kind idx).fenced
def State.isOut (s : State) (kind idx : Nat) : Bool := (s.unitAt kind idx).out

/-! ### The per-unit tables -/

def State.prt (s : State) (n : Nat) : Port := tget Port.init s.port n
def State.setPrt (s : State) (n : Nat) (p : Port) : State := { s with port := tset s.port n p }
def State.stg (s : State) (p : Nat) : Stage := tget Stage.init s.stage p
def State.setStg (s : State) (p : Nat) (x : Stage) : State := { s with stage := tset s.stage p x }
def State.leAt (s : State) (j : Nat) : LoopEngine := tget LoopEngine.init s.le j
def State.setLe (s : State) (j : Nat) (x : LoopEngine) : State := { s with le := tset s.le j x }
def State.lcAt (s : State) (c : Nat) : LoopCluster := tget LoopCluster.init s.lc c
def State.setLc (s : State) (c : Nat) (x : LoopCluster) : State := { s with lc := tset s.lc c x }
def State.rl (s : State) (r : Nat) : Rail := tget Rail.init s.rail r
def State.setRl (s : State) (r : Nat) (x : Rail) : State := { s with rail := tset s.rail r x }
def State.stepAt (s : State) (k : Nat) : SeqStep := tget SeqStep.init s.seq k
def State.setStep (s : State) (k : Nat) (x : SeqStep) : State := { s with seq := tset s.seq k x }

/-- Apply a state change once for each element of a list. -/
def forEach {α : Type} (l : List α) (f : State → α → State) (s : State) : State := l.foldl f s

end Sys2Proof.Machine
end

