-- ==== Sys2Proof/Machine/Struct.lean ====
section
/-!
DEFINITION. Reading the fabric image in force: section entries by number, and the fields of their layouts (R63, R148, R192, R238, R241, R260, R268, R326).
-/
namespace Sys2Proof.Machine

/-- Big-endian numbers in a byte string, and a number as bytes, the most significant first. -/
def be16 (b : Bytes) (o : Nat) : Nat := u8 b o * 256 + u8 b (o + 1)
def be32 (b : Bytes) (o : Nat) : Nat := be16 b o * 65536 + be16 b (o + 2)
def be48 (b : Bytes) (o : Nat) : Nat := be16 b o * 2 ^ 32 + be32 b (o + 2)
def beBytes (n v : Nat) : Bytes := (leBytes n v).reverse

/-- Section type codes (R63). -/
abbrev tPKG : Nat := 0x01
abbrev tREG : Nat := 0x02
abbrev tMEM : Nat := 0x03
abbrev tPORT : Nat := 0x04
abbrev tCLASS : Nat := 0x05
abbrev tSTAGE : Nat := 0x06
abbrev tRAIL : Nat := 0x07
abbrev tLOOP : Nat := 0x08
abbrev tWEIR : Nat := 0x09
abbrev tEVT : Nat := 0x0A
abbrev tBSN : Nat := 0x0B
abbrev tDMA : Nat := 0x0C
abbrev tLDG : Nat := 0x0D
abbrev tSTL : Nat := 0x0E
abbrev tSEQ : Nat := 0x0F
abbrev tCMP : Nat := 0x10

/-- The entries of a section, by number. -/
abbrev Sec := Tab Bytes
/-- A structure: section type to entries. -/
abbrev Struc := Tab Sec

def Struc.sec (x : Struc) (t : Nat) : Sec := tget [] x t
def Struc.ent (x : Struc) (t k : Nat) : Option Bytes := tget? (tget [] x t) k
def State.ent (s : State) (t k : Nat) : Option Bytes := tget? (tget [] s.img.sec t) k
/-- An entry's bytes, empty when there is none. -/
def State.entD (s : State) (t k : Nat) : Bytes := (s.ent t k).getD []

/-! ### PKG (R148) -/

/-- T_tick ÷ 50 ns. -/
def State.period (s : State) : Nat := u8 (s.entD tPKG 0) 0
/-- T_tick in ns. -/
def State.tTick (s : State) : Nat := 50 * s.period
/-- LE cycles per tick, 1.2 × T_tick (R126). -/
def State.tlen (s : State) : Nat := 60 * s.period
/-- PKG.SOURCE is FOLLOW. -/
def State.follow (s : State) : Bool := u8 (s.entD tPKG 0) 1 == 1

/-! ### PORT and STAGE of a PL port (R192); the PORT key is KIND × 256 + INDEX -/

def portKey (kind idx : Nat) : Nat := kind * 256 + idx
/-- 0 off, 1 PL1, 2 PL2. -/
def State.plGen (s : State) (n : Nat) : Nat := u8 (s.entD tPORT (portKey 0x20 n)) 2
def State.expects (s : State) (n : Nat) : Nat := u8 (s.entD tSTAGE n) 1
/-- STAGE.KIND: 0 CURRENT, 1 ONTIME. -/
def State.stKind (s : State) (n : Nat) : Nat := u8 (s.entD tSTAGE n) 2
def State.holdTicks (s : State) (n : Nat) : Nat := u8 (s.entD tSTAGE n) 3
def State.crcShed (s : State) (n : Nat) : Nat := u8 (s.entD tSTAGE n) 4
def State.plausBand (s : State) (n : Nat) : Nat := u16 (s.entD tSTAGE n) 6
/-- Sample slots A of a port (R167). -/
def State.slotsA (s : State) (n : Nat) : Nat :=
  if s.plGen n = 1 then 4 else min 8 ((s.tTick - 50) / 40 - 1)

/-! ### RAIL (R241) -/

def railNph (e : Bytes) : Nat := u8 e 1
def railGang (e : Bytes) : Nat := u8 e 3 % 4 + 1
def railLes (e : Bytes) : List Nat := (List.range (railGang e)).map (fun i => u8 e (4 + i))
def railPhases (e : Bytes) : List Nat := (List.range (railNph e)).map (fun i => u16 e (32 + 2 * i))
def State.railE (s : State) (r : Nat) : Option Bytes := s.ent tRAIL r
def State.railD (s : State) (r : Nat) : Bytes := s.entD tRAIL r
/-- Phase numbers of rail r, in position order. -/
def State.phasesOf (s : State) (r : Nat) : List Nat := railPhases (s.railD r)
/-- Defined rails. -/
def State.rails (s : State) : List Nat := (tget [] s.img.sec tRAIL).map (·.1)
/-- The position of `p` in a list. -/
def posIn : List Nat → Nat → Option Nat
  | [], _ => none
  | x :: r, p => if x = p then some 0 else (posIn r p).map (· + 1)
/-- Rail and position of phase p. -/
def State.railOf (s : State) (p : Nat) : Option (Nat × Nat) :=
  (tget [] s.img.sec tRAIL).findSome? (fun e => (posIn (railPhases e.2) p).map (fun i => (e.1, i)))
/-- Rail and gang position of LE j. -/
def State.leRail (s : State) (j : Nat) : Option (Nat × Nat) :=
  (tget [] s.img.sec tRAIL).findSome? (fun e => (posIn (railLes e.2) j).map (fun i => (e.1, i)))
/-- OVERRUN_TAKEOVER and FAULT_PIN. -/
def State.takeoverOf (s : State) (r : Nat) : Bool := bit (u8 (s.railD r) 16) 0
def State.faultPin (s : State) (r : Nat) : Bool := bit (u8 (s.railD r) 16) 1

/-! ### WEIR (R260) and SEQ (R268) -/

def State.weirD (s : State) (r : Nat) : Bytes := s.entD tWEIR r
def State.seqE (s : State) (k : Nat) : Option Bytes := s.ent tSEQ k
def State.seqD (s : State) (k : Nat) : Bytes := s.entD tSEQ k
def State.steps (s : State) : List Nat := (tget [] s.img.sec tSEQ).map (·.1)
/-- A step's dependencies (DEPS bytes other than 0xFF). -/
def seqDeps (e : Bytes) : List Nat := ((List.range 4).map (fun i => u8 e (4 + i))).filter (· ≠ 0xFF)
/-- A rail's SEQ step. -/
def State.stepOf (s : State) (r : Nat) : Nat := u8 (s.railD r) 24

/-! ### CLASS (R530): keyed by port and SUB -/

/-- The class of a command-accepting port, NONE without an entry. -/
def State.classOf (s : State) (port sub : Nat) : Nat :=
  match s.ent tCLASS (port * 65536 + sub) with
  | some e => u8 e 1
  | none => 7
/-- The families that the port's MASK refuses (R530). -/
def State.maskOf (s : State) (port sub : Nat) : Nat := u16 (s.entD tCLASS (port * 65536 + sub)) 4

/-! ### External ports (R527, R529) -/

/-- The port that a partner descriptor names (R290): KIND and INDEX of its PORT entry. -/
def partPort (e : Bytes) : Option (Nat × Nat) :=
  let u := u8 e 3
  match u8 e 2 with
  | 1 => some (0x02, 0)
  | 2 => if u < 2 then some (0x01, u) else if u = 2 then some (0x02, 0) else if 0x10 ≤ u ∧ u < 0x20 then some (0x06, u - 0x10) else if 0x20 ≤ u ∧ u < 0x24 then some (0x07, u - 0x20) else none
  | 3 => if u < 16 then some (0x06, u) else none
  | 4 => if u < 4 then some (0x07, u) else none
  | 5 => if u < 2 then some (0x03, u) else if u < 10 then some (0x04, u - 2) else none
  | _ => none

/-- KIND and INDEX of the PORT entry of controller u. -/
def portKind (u : Nat) : Nat × Nat :=
  if u < 2 then (1, u) else if u = 2 then (2, 0) else if u < 5 then (3, u - 3) else if u < 13 then (4, u - 5) else if u = 13 then (5, 0)
  else if u < 30 then (6, u - 14) else if u < 34 then (7, u - 30) else if u < 42 then (8, u - 34) else if u < 46 then (9, u - 42)
  else if u < 48 then (0xA, u - 46) else (0xB, u - 48)
/-- The controller of a KIND and INDEX. -/
def portU (k i : Nat) : Nat :=
  match k with
  | 1 => i | 2 => 2 | 3 => 3 + i | 4 => 5 + i | 5 => 13 | 6 => 14 + i | 7 => 30 + i | 8 => 34 + i | 9 => 42 + i | 0xA => 46 + i | _ => 48 + i
/-- The PORT entry of controller u. -/
def State.portE (s : State) (u : Nat) : Option Bytes := s.ent tPORT (portKey (portKind u).1 (portKind u).2)
/-- Raw operations are permitted on controller u (R548). -/
def State.rawEn (s : State) (u : Nat) : Bool := s.gb .PORT_CTL u F.PORT_CTL.RAW_EN

/-! ### LDG (R290, R301): the main entry stands under number 65,536, a partner's descriptor under its index -/

def State.ldgD (s : State) : Bytes := s.entD tLDG 65536
def State.partE (s : State) (p : Nat) : Option Bytes := if p < 4096 then s.ent tLDG p else none
def State.seriesCount (s : State) : Nat := u32 s.ldgD 8

/-! ### CMP (R326), LOOP (R238) -/

def State.cmpD (s : State) : Bytes := s.entD tCMP 0
def State.loopD (s : State) (j : Nat) : Bytes := s.entD tLOOP j

/-- Regions in service (IMG_STATUS.IN_SERVICE). -/
def State.inService (s : State) (r : Nat) : Bool := bit (s.gf .IMG_STATUS 0 F.IMG_STATUS.IN_SERVICE) r

/-- Loop cluster of LE j, and its slot there (R9, R239). -/
def lcOf (j : Nat) : Nat := if j < 32 then j / 8 else j - 32
def slotOf (j : Nat) : Nat := if j < 32 then j % 8 else 8
/-- Register index of LE j's per-LE registers. -/
def leIdx (j : Nat) : Nat := lcOf j * 9 + slotOf j

end Sys2Proof.Machine
end

