-- ==== Sys2Proof/Machine/Route.lean ====
section
/-!
DEFINITION. The cores as event targets: availability and routing (R435), presentation (R438, R440), the wake of R441, and raising a source (R434).
-/
namespace Sys2Proof.Machine

def State.cor (s : State) (n : Nat) : Core := tget Core.init s.core n
def State.setCor (s : State) (n : Nat) (c : Core) : State := { s with core := tset s.core n c }

def State.evPend (s : State) (src : Nat) : Bool := s.getB .EVD_PEND_SET (src / 32) (src % 32)
def State.evEn (s : State) (src : Nat) : Bool := s.getB .EVD_EN_SET (src / 32) (src % 32)
def State.evAct (s : State) (src : Nat) : Bool := s.getB .EVD_ACTIVE (src / 32) (src % 32)

/-- R435: core t is available as a target; a region that leaves holds its cores from the commit point on (R88). -/
def State.available (s : State) (t : Nat) : Bool :=
  (s.cor t).st != .c3 && !bit s.img.hold (t / 8) && s.inService (t / 8) && !s.fenced 0 t && !s.fenced 4 (t / 8)

/-- The core that EVD_FALLBACK names. -/
def State.fallback (s : State) : Nat := s.gf .EVD_FALLBACK 0 F.EVD_FALLBACK.CORE

/-- The core that a source is routed to (R435); it may be a fallback core that is itself unavailable. -/
def State.route (s : State) (src : Nat) : Nat :=
  let t := s.gf .EVD_SRC_CFG src F.EVD_SRC_CFG.TARGET
  if t < 32 ∧ s.available t then t else s.fallback

/-- Region r comes back from retention (R514): the voltage and frequencies before its entry. -/
def State.regionUp (s : State) (r : Nat) : State :=
  if s.gf .PWR_REG_STAT r F.PWR_REG_STAT.STATE ≠ 2 then s
  else
    let (v, f0, f1) := tget (0, 0, 0) s.pwr.before r
    let s := (s.pf .PWR_REG_STAT r F.PWR_REG_STAT.STATE 1).pf .PWR_REG_STAT r F.PWR_REG_STAT.VCUR v
    (s.pf .PWR_CC_FREQ (2 * r) F.PWR_CC_FREQ.CUR f0).pf .PWR_CC_FREQ (2 * r + 1) F.PWR_CC_FREQ.CUR f1

/-- A wake of core n from C1 or C2 (R396, R441). R88 holds back a core of a region that leaves; a wake of the core that waits in package entry abandons the entry (R520). -/
def State.wake (s : State) (n : Nat) : State :=
  let c := s.cor n
  if (c.st ≠ .c1 ∧ c.st ≠ .c2) ∨ bit s.img.hold (n / 8) then s
  else if s.pwr.step.isSome ∧ s.pwr.writer = some n then { s with pwr := { s.pwr with abort := true } }
  else (s.regionUp (n / 8)).setCor n { c with st := .run, resync := c.resync || decide (c.st = .c2) }

/-- The positions of the 1 bits of a 32-bit word. -/
def onesOf (v : Nat) : List Nat := (List.range 32).filter (bit v)

/-- Sources with EN = 1 and PEND = 1. -/
def State.enPend (s : State) : List Nat :=
  (List.range 64).flatMap (fun k =>
    let w := (s.rd .EVD_EN_SET k &&& s.rd .EVD_PEND_SET k).toNat
    if w = 0 then [] else (onesOf w).map (fun b => 32 * k + b))

def State.prio (s : State) (src : Nat) : Nat := s.gf .EVD_SRC_CFG src F.EVD_SRC_CFG.PRIO

/-- R438: the running priority of target t. -/
def State.rpr (s : State) (t : Nat) : Nat := (s.evd.actOn.filter (fun e => e.2 = t)).foldl (fun m e => min m (s.prio e.1)) 16

/-- R440: moderation of t holds its sources with MOD = 1 back. -/
def State.moderated (s : State) (t : Nat) : Bool :=
  match tget? s.evd.modAt t with
  | some a => decide ((s.cor t).st = .run) && decide (s.tick.count < a + s.gf .EVD_TGT_MOD t F.EVD_TGT_MOD.INTERVAL)
  | none => false

/-- R438, R444: a presentation of the source to t may stand; moderation ends none. -/
def State.mayStand (s : State) (src t : Nat) : Bool :=
  s.evEn src && s.evPend src && !s.evAct src && s.available t && decide (s.route src = t)
    && decide (s.prio src < s.gf .EVD_PMR t F.EVD_PMR.PMR) && decide (s.prio src < s.rpr t)

/-- R438: the source may be presented to t. -/
def State.eligible (s : State) (src t : Nat) : Bool :=
  s.mayStand src t && !(s.gb .EVD_SRC_CFG src F.EVD_SRC_CFG.MOD && s.moderated t)

/-- The eligible source with the lowest PRIO, and among equals the lowest number. -/
def State.best (s : State) (t : Nat) : Option Nat :=
  (s.enPend.filter (fun x => s.eligible x t)).foldl (fun b x =>
    match b with
    | some y => if s.prio x < s.prio y then some x else b
    | none => some x) none

def State.setPres (s : State) (p : Tab Nat) : State := { s with evd := { s.evd with pres := p } }

/-- A source that the EVD now presents to t: the best eligible one, if none stands or the one that stands has a higher PRIO (R438). -/
def State.newPres (s : State) (t : Nat) : Option Nat :=
  match s.best t, tget? s.evd.pres t with
  | some x, some y => if s.prio x < s.prio y then some x else none
  | b, _ => b

/-- The EVD presents its choice to t; a presentation wakes the core (R438, R441). -/
def State.present (s : State) (t : Nat) : State :=
  match s.newPres t with
  | none => s
  | some x => (s.setPres (tset s.evd.pres t x)).wake t

/-- R434, R441: a raise sets PEND, and wakes the core in C1 or C2 that the source is routed to while it is enabled. A source with MOD = 1 is judged while the core still sleeps, when moderation holds nothing back (R440). A raise while PEND = 1 has no further effect. -/
def State.raise (s : State) (src : Nat) : State :=
  if s.evPend src then s
  else
    let s' := s.setB .EVD_PEND_SET (src / 32) (src % 32)
    let t := s'.route src
    if !s.evEn src then s'
    else if s.gb .EVD_SRC_CFG src F.EVD_SRC_CFG.MOD && decide ((s.cor t).st ≠ .run) then (s'.present t).wake t
    else s'.wake t

end Sys2Proof.Machine
end

