-- ==== Sys2Proof/Machine/Trace.lean ====
section
/-!
DEFINITION. Towpath packets and the sources' FIFOs (R551 to R557), and the system registers that a packet shows.
-/
namespace Sys2Proof.Machine

/-- Reset value of a system register (R388); CORE_ID is that of core n. -/
def srReset (n num : Nat) : W64 :=
  if num = 0x000 then 0x603
  else if num = 0x041 then 0x79540C01
  else if num = 0x049 then 1
  else if num = 0x0B1 then 1
  else if num = 0x07F then BitVec.ofNat 64 (n / 8 * 256 + n / 4 * 32 + n)
  else 0

def Core.sr1 (c : Core) (n num : Nat) : W64 := tget (srReset n num) c.sr num
/-- The stored value of system register `num` of core n. -/
def State.sr (s : State) (n num : Nat) : W64 := (s.cor n).sr1 n num
def State.setSr (s : State) (n num : Nat) (v : W64) : State := s.setCor n { s.cor n with sr := tset (s.cor n).sr num v }

abbrev srSTATUS : Nat := 0x000
abbrev srSID : Nat := 0x008
abbrev srSIDLIM : Nat := 0x009
abbrev srLCNT : Nat := 0x020
abbrev srLEND : Nat := 0x021
abbrev srTTB1 : Nat := 0x040
abbrev srTCTL1 : Nat := 0x041
abbrev srTTB2 : Nat := 0x048
abbrev srTCTL2 : Nat := 0x049
abbrev srSTERR_ADDR : Nat := 0x060
abbrev srSTERR_FLAGS : Nat := 0x061
abbrev srTMCTL : Nat := 0x070
abbrev srTMCMP : Nat := 0x071
abbrev srTIME : Nat := 0x078
abbrev srTICKC : Nat := 0x079
abbrev srCORE_ID : Nat := 0x07F
abbrev srPREDCTL : Nat := 0x0B0
abbrev srCACHECTL : Nat := 0x0B1
abbrev srCACHE_ERR : Nat := 0x0B2
abbrev srPMU_CTL : Nat := 0x0C0
abbrev srPMU_OVF : Nat := 0x0C1

/-- STATUS.LVL, and a bit of STATUS. -/
def State.lvl (s : State) (n : Nat) : Lvl := lvlOf ((s.sr n srSTATUS).toNat % 4)
def State.stBit (s : State) (n b : Nat) : Bool := (s.sr n srSTATUS).getLsbD b
def State.sid (s : State) (n : Nat) : BitVec 16 := (s.sr n srSID).setWidth 16

/-! ### Packets -/

/-- Source identity of a unit (R551). -/
abbrev traceId (kind idx : Nat) : Nat := unitKey kind idx
def State.tsrc (s : State) (id : Nat) : TraceSrc := tget TraceSrc.init s.trc.src id
def State.setTsrc (s : State) (id : Nat) (x : TraceSrc) : State := { s with trc := { s.trc with src := tset s.trc.src id x } }

/-- A unit emits packets: its TRACE is on and TRC_CTL.EN is 1 (R551). -/
def State.traced (s : State) (id : Nat) : Bool := (tget UnitSt.init s.unit id).trace && s.gb .TRC_CTL 0 F.TRC_CTL.EN

/-- Bytes of a source's FIFO (R557). -/
def fifoSize (id : Nat) : Nat := if id < 32 then 2048 else 256

/-- The SYNC packet of core n (R553). -/
def State.syncPkt (s : State) (n : Nat) : Bytes :=
  [0x01, 0xA5, 0xA5, 0xA5] ++ leBytes 8 (s.cor n).pc.toNat
    ++ [BitVec.ofNat 8 ((s.lvl n).num + (if s.stBit n 8 then 4 else 0))] ++ leBytes 2 (s.sid n).toNat

def State.tsPkt (s : State) : Bytes := 0x05 :: leBytes 8 s.tick.tb

/-- Append packet bytes to the stream of a source. -/
def TraceSrc.push (x : TraceSrc) (p : Bytes) : TraceSrc := { x with fifo := x.fifo ++ p, since := x.since + p.length }

/-- The packets that say what was lost: OVF, and from a core SYNC and the TS that follows each SYNC (R555 to R557). -/
def State.ovfPkts (s : State) (id : Nat) : Bytes :=
  [0x08] ++ leBytes 2 (min 65535 (s.tsrc id).lost) ++ (if id < 32 then s.syncPkt id ++ s.tsPkt else [])

/-- The 2 bytes of CC (R555): a count of core cycles, which the model does not hold; free (log entry 154). -/
def State.ccBytes (s : State) : Bytes := if s.gb .TRC_CTL 0 F.TRC_CTL.CYC then s.freeBs 2 else []

/-- The number that atoms spell, the oldest in bit 0, below their marker. -/
def atomHdr : List Bool → Nat
  | [] => 1
  | a :: r => (if a then 1 else 0) + 2 * atomHdr r

/-- The ATOM packet of the atoms that a core holds; none without atoms. -/
def State.atomPkt (s : State) (id : Nat) : Bytes :=
  match (s.tsrc id).atoms with
  | [] => []
  | l => [BitVec.ofNat 8 (128 + atomHdr l)] ++ s.ccBytes

/-- Say what was lost, once there is room for all of it; a core's ATOM comes before any other packet (R554, R557). -/
def State.ovfTry (s : State) (id : Nat) : State :=
  let x := s.tsrc id
  let p := s.atomPkt id ++ s.ovfPkts id
  if x.lost = 0 ∨ x.fifo.length + p.length > fifoSize id then s
  else (s.setTsrc id { (x.push p) with lost := 0, atoms := [], since := (if id < 32 then 0 else x.since) }).tick1

/-- One packet into the FIFO, or what R557 lays down when it is full: with STALL a core stalls, whatever was lost before. -/
def State.putRaw (s : State) (id : Nat) (p : Bytes) : State :=
  let x := s.tsrc id
  if x.lost = 0 ∧ x.held = [] ∧ x.fifo.length + p.length ≤ fifoSize id then s.setTsrc id (x.push p)
  else if id < 32 ∧ s.gb .TRC_CTL 0 F.TRC_CTL.STALL then s.setTsrc id { x with held := x.held ++ [p] }
  else
    let s := s.setTsrc id { x with lost := min 65535 (x.lost + 1) }
    let s := s.inc .TRC_LOST 0 F.TRC_LOST.COUNT 1
    if id < 32 then s.raise (1088 + 4 * id + 2) else s

/-- A packet of a source, after what says what was lost. -/
def State.emitRaw (s : State) (id : Nat) (p : Bytes) : State := (s.ovfTry id).putRaw id p

/-- SYNC, and TS immediately after it (R555). -/
def State.syncRaw (s : State) (n : Nat) : State :=
  let s := s.emitRaw n (s.syncPkt n)
  (s.setTsrc n { s.tsrc n with since := 0 }).emitRaw n s.tsPkt

/-- SYNC after each 4,096 bytes of a core's stream (R556). -/
def State.syncDue (s : State) (n : Nat) : State := if (s.tsrc n).since < 4096 then s else s.syncRaw n

/-- Emit the atoms held (R554). -/
def State.flushAtoms (s : State) (n : Nat) : State :=
  let s := s.ovfTry n
  let x := s.tsrc n
  if x.atoms = [] then s
  else (((s.setTsrc n { x with atoms := [] }).putRaw n (s.atomPkt n)).tick1).syncDue n

/-- A packet of a core: held atoms first (R554). -/
def State.emitCore (s : State) (n : Nat) (p : Bytes) : State :=
  if !s.traced n then s else (((s.flushAtoms n).emitRaw n p).syncDue n)

/-- A packet of a core that carries CC, counted from the packet before it, an ATOM that it flushes included (R553, R555). -/
def State.emitCC (s : State) (n : Nat) (hd : Byte) (rest : Bytes) : State :=
  let s := if s.traced n then s.flushAtoms n else s
  (s.emitCore n ([hd] ++ s.ccBytes ++ rest)).tick1

/-- An atom (R554). -/
def State.atom (s : State) (n : Nat) (taken : Bool) : State :=
  if !s.traced n then s
  else
    let x := s.tsrc n
    let s := s.setTsrc n { x with atoms := x.atoms ++ [taken] }
    if x.atoms.length + 1 ≥ 6 then s.flushAtoms n else s

/-- SYNC of a core (R556). -/
def State.emitSync (s : State) (n : Nat) : State := if s.traced n then (s.flushAtoms n).syncRaw n else s

/-- UEVT: a unit other than a core or an LE sets a bit of an event register (R551, R553). -/
def State.uevt (s : State) (kind idx off b : Nat) : State :=
  if s.traced (traceId kind idx) then s.emitRaw (traceId kind idx) ([0x0B] ++ leBytes 2 off ++ [BitVec.ofNat 8 b] ++ leBytes 8 s.tick.tb)
  else s

/-- A core held at its instruction by a full FIFO (R557). -/
def State.trcStalled (s : State) (n : Nat) : Bool := decide ((s.tsrc n).held ≠ [])

/-- Put a stalled core's packets into the room that has come, oldest first (R557). -/
def State.release1 (s : State) (id : Nat) : State :=
  let x := s.tsrc id
  match x.held with
  | p :: r => if x.fifo.length + p.length ≤ fifoSize id then s.setTsrc id { (x.push p) with held := r } else s
  | [] => s

end Sys2Proof.Machine
end

