-- ==== Sys2Proof/Machine/Event.lean ====
section
/-!
DEFINITION. The event registers: a bit that becomes 1 while its enable is 1 raises the unit's source, and a traced unit emits UEVT for it (R551).
-/
namespace Sys2Proof.Machine

/-- Set bit `b` of event register `r`; raise `src` when the bit becomes 1 while its enable is 1. -/
def State.setEvt (s : State) (r en : Reg) (i b src : Nat) : State :=
  if s.getB r i b then s
  else
    let s' := s.setB r i b
    if s.getB en i b then s'.raise src else s'

/-- As setEvt, of a unit of R525: `off` is the register's offset in the unit's block. -/
def State.unitEvt (s : State) (r en : Reg) (i b src kind off : Nat) : State :=
  (s.setEvt r en i b src).uevt kind i off b

def State.plEvt (s : State) (n b : Nat) : State := s.unitEvt .PL_EVT .PL_EVT_EN n b n 6 0x14
def State.lcEvt (s : State) (c b : Nat) : State := s.setEvt .LC_EVT .LC_EVT_EN c b (164 + c)
def State.railEvt (s : State) (r b : Nat) : State := s.setEvt .RAIL_EVT .RAIL_EVT_EN r b (64 + r)
def State.hintEvt (s : State) (h b : Nat) : State := s.unitEvt .HINT_EVT .HINT_EVT_EN h b (172 + h) 7 (0x814 + 0x20 * h)
def State.cmpEvt (s : State) (b : Nat) : State := s.setEvt .CMP_EVT .CMP_EVT_EN 0 b 1248
def State.mbxEvt (s : State) (m b : Nat) : State := s.unitEvt .MBX_EVT .MBX_EVT_EN m b (256 + m) 9 0x08
def State.portEvt (s : State) (u b : Nat) : State := s.unitEvt .PORT_EVT .PORT_EVT_EN u b (768 + u) 10 0x10

end Sys2Proof.Machine
end

