-- ==== Sys2Proof/Machine/AddrMap.lean ====
section
/-!
DEFINITION. The physical memory map (R43 to R49), and reading and writing the memories behind it: poison (R330, R461), fences (R12, R27, R30), reservations (R379).
-/
namespace Sys2Proof.Machine

/-- What stands at a physical address (R44). -/
inductive Rgn where
  | dram (ch : Nat)
  | basin
  | leCode (j : Nat)
  | leData (j : Nat)
  | shared (c : Nat)
  | ctl
  | rp0
  | rom
  | xspi (k : Nat)
  | hole
deriving DecidableEq, Repr

def gib : Nat := 2 ^ 30
/-- Capacity of memory channel k in GiB, 0 when it is off (R545). -/
def State.chCap (s : State) (k : Nat) : Nat :=
  match s.ent tMEM k with
  | some e => if u8 e 1 = 0 then 0 else u8 e 5
  | none => 0
/-- Channels in service. -/
def State.chans (s : State) : List Nat := (List.range 4).filter (fun k => s.chCap k ≠ 0)
/-- Installed DRAM in bytes (R45). -/
def State.dramSize (s : State) : Nat := (s.chans.map s.chCap).foldl (· + ·) 0 * gib
def State.mapE (s : State) : Bytes := s.entD tMEM 0xFF
/-- Base of the 4 MiB staging area. -/
def State.staging (s : State) : Nat := u32 s.mapE 4 * 2 ^ 22

/-- The channel that follows when the channels lie one after another. -/
def seqChan (cap : Nat → Nat) : List Nat → Nat → Nat
  | [], _ => 0
  | k :: r, a => if a < cap k * gib then k else seqChan cap r (a - cap k * gib)

/-- The memory channel of a DRAM address (R546). -/
def State.chanOf (s : State) (a : Nat) : Nat :=
  if u8 s.mapE 1 = 1 then s.chans.getD (a / 4096 % max 1 s.chans.length) 0 else seqChan s.chCap s.chans a

def leBase (j : Nat) : Nat := 0x110000000000 + j * 0x10000
def lcBase (c : Nat) : Nat := 0x110001000000 + c * 0x80000
def basinBase : Nat := 0x100000000000
/-- The stall whose page holds an address (R499). -/
def stlPage (a : Nat) : Option Nat := if 0x200000D00000 ≤ a ∧ a < 0x200000E00000 then some ((a - 0x200000D00000) / 0x1000) else none
/-- DENIED counts an access that the page refuses (R499). -/
def State.denied (s : State) (x : Option Nat) : State :=
  match x with
  | some i => s.inc .STL_MGR_STAT i F.STL_MGR_STAT.DENIED 1
  | none => s

def State.rgn (s : State) (a : Nat) : Rgn :=
  if a < 0x4000000000 then (if a < s.dramSize then .dram (s.chanOf a) else .hole)
  else if basinBase ≤ a ∧ a < basinBase + 0x2000000 then .basin
  else if 0x110000000000 ≤ a ∧ a < 0x110000240000 then
    (let j := (a - 0x110000000000) / 0x10000; if a % 0x10000 < 0x4000 then .leCode j else .leData j)
  else if 0x110001000000 ≤ a ∧ a < 0x110001200000 then .shared ((a - 0x110001000000) / 0x80000)
  else if 0x200000000000 ≤ a ∧ a < 0x200004000000 then .ctl
  else if 0x300000000000 ≤ a ∧ a < 0x400000000000 then .rp0
  else if 0x400000000000 ≤ a ∧ a < 0x400000040000 then .rom
  else if 0x400010000000 ≤ a ∧ a < 0x400020000000 then .xspi 0
  else if 0x400020000000 ≤ a ∧ a < 0x400030000000 then .xspi 1
  else .hole

/-- Device memory by the system attribute map (R44, R51). -/
def Rgn.device : Rgn → Bool
  | .ctl => true | .rp0 => true | .rom => true | .xspi _ => true | _ => false
/-- Loop memory (R50). -/
def Rgn.loop : Rgn → Bool
  | .leCode _ => true | .leData _ => true | .shared _ => true | _ => false

/-- A loop cluster and its region answer (R27, R30); debug still reads a fenced cluster. -/
def State.lcOpen (s : State) (c : Nat) (dbgRead : Bool) : Bool := s.inService c && (!(s.lcAt c).fenced || dbgRead)

/-- Lines of an access. -/
def linesOf (a n : Nat) : List Nat := if n = 0 then [] else (List.range ((a + n - 1) / 64 - a / 64 + 1)).map (fun i => (a / 64 + i) * 64)

/-- The first byte of an access, and the first byte of every further 4 KiB page that it reaches: no region, channel or staging area begins or ends within a page. -/
def pageStarts (a n : Nat) : List Nat := a :: (List.range ((a + n - 1) / 4096 - a / 4096)).map (fun i => (a / 4096 + i + 1) * 4096)

/-- The core that makes an access, if a core does. -/
def coreNo (q : Req) : Option Nat :=
  match q.agent with
  | .core m => some m.val
  | _ => none

/-- An L2 answers the access to line l in place of the levels below it: the one of the requester's own cluster, or one that holds the line Modified (R332). -/
def State.l2Answers (s : State) (q : Req) (l : Nat) : Bool :=
  s.l2.any (fun e => match tget? e.2 l with
    | some m => decide (m = .modified) || decide ((coreNo q).map (· / 4) = some e.1)
    | none => false)

/-- The access touches a poisoned line, which no L2 answers for, and does not write it whole (R330, R461). -/
def State.poisoned (s : State) (q : Req) (a n : Nat) (write : Bool) : Bool :=
  (linesOf a n).any (fun l => s.poison.contains l && !(write && decide (a ≤ l) && decide (l + 64 ≤ a + n)) && !s.l2Answers q l)

/-- All 64 bytes of a line are written: it is poisoned no more (R330, R461). -/
def State.lineWhole (s : State) (l : Nat) : State := { s with poison := s.poison.filter (fun x => x ≠ l) }

/-- A memory (not control space, not a port window) answers the access; the local memory of a fenced LE stays reachable (R199). -/
def State.memOpen (s : State) (q : Req) (a n : Nat) (write : Bool) : Bool :=
  let dbg := decide (q.agent = .debug)
  let ok (x : Nat) : Bool :=
    match s.rgn x with
    | .dram k => !s.fenced 5 k && !s.isOut 5 k && !(s.img.held.isSome && decide (q.agent ≠ .loader) && decide (s.staging ≤ x) && decide (x < s.staging + 2 ^ 22))
    | .basin => true
    | .leCode j => s.lcOpen (lcOf j) (dbg && !write) && (!write || decide (q.agent = .loader))
    | .leData j => s.lcOpen (lcOf j) (dbg && !write)
    | .shared c => s.lcOpen c (dbg && !write)
    | _ => false
  n == 0 || ((pageStarts a n).all ok && !s.poisoned q a n write)

/-- Read a memory; none is a bus error. -/
def State.memRd (s : State) (q : Req) (a n : Nat) : Option Bytes := if s.memOpen q a n false then some (s.mread a n) else none

/-- Another requester's write takes a line away from a core: its reservation there ends, its dirty copy is gone (R332, R379). -/
def Core.lose (c : Core) (ls : List Nat) : Core :=
  let hit : Bool := match c.rsv with
    | some (a, n) => (linesOf a n).any ls.contains
    | none => false
  { c with rsv := if hit then none else c.rsv
           l1t := c.l1t.filter (fun l => !ls.contains l)
           l1d := c.l1d.filter (fun e => !ls.contains e.1) }

/-- The effect of a write on the cores' lines and on the L2s: the writing core keeps its own reservation, and its L2 holds what it has of the lines Modified; every other L1D and L2 gives them up (R332, R379). -/
def State.snoop (s : State) (q : Req) (a n : Nat) : State :=
  { s with core := s.core.map (fun e => if coreNo q = some e.1 then e else (e.1, e.2.lose (linesOf a n)))
           l2 := s.l2.map (fun e =>
             if (coreNo q).map (· / 4) = some e.1 then (e.1, e.2.map (fun x => if (linesOf a n).contains x.1 then (x.1, Mesi.modified) else x))
             else (e.1, e.2.filter (fun x => !(linesOf a n).contains x.1))) }

/-! ### L1D and L2 (R329, R331, R332) -/

def State.l2Of (s : State) (k : Nat) : Tab Mesi := tget [] s.l2 k

/-- Put at the front: a cache lists its lines from the one used last. -/
def tfront {α : Type} (t : Tab α) (i : Nat) (v : α) : Tab α := (i, v) :: tdel t i

/-- The line that a full set of `ways` lines, listed from the one used last, gives up (R329). The spec names pseudo-LRU without its state: never the line used last, and among the others a free choice (log entry 180). -/
def State.victim (s : State) (ways : Nat) (same : List Nat) : Option Nat := if same.length < ways then none else same.tail[s.freeNat % (same.length - 1)]?

/-- The L2 of cluster k writes line l back if it holds it Modified. -/
def State.l2Back (s : State) (k l : Nat) : State := if tget? (s.l2Of k) l = some .modified then s.lineWhole l else s

/-- An L2 gives a line up, written back if it is Modified, and before it the L1Ds of its cluster, with a reservation on it (R332, R379). -/
def State.l2Evict (s : State) (k l : Nat) : State :=
  let s := s.l2Back k l
  { s with core := s.core.map (fun e => if e.1 / 4 = k then (e.1, e.2.lose [l]) else e)
           l2 := tset s.l2 k (tdel (s.l2Of k) l) }

/-- The L2 of cluster k takes or uses a line for a reader: Exclusive when no other L2 holds it, else Shared in all (R332). -/
def State.l2Fill (s : State) (k l : Nat) : State :=
  match tget? (s.l2Of k) l with
  | some m => { s with l2 := tset s.l2 k (tfront (s.l2Of k) l m) }
  | none =>
    let s := forEach (s.l2.map (·.1)) (fun s j => s.l2Back j l) s
    let s := match s.victim 16 (((s.l2Of k).map (·.1)).filter (fun x => x / 64 % 2048 = l / 64 % 2048)) with
      | some v => (s.l2Evict k v).tick1
      | none => s
    let shared := s.l2.any (fun e => (tget? e.2 l).isSome)
    let l2 := if shared then s.l2.map (fun e => (e.1, e.2.map (fun x => if x.1 = l then (l, Mesi.shared) else x))) else s.l2
    { s with l2 := tset l2 k (tfront (tget [] l2 k) l (if shared then .shared else .exclusive)) }

/-- L1D of core n takes a line, which another core that held it modified has then written back (R329, R332, R358). -/
def State.l1dFill (s : State) (n l : Nat) : State :=
  if (s.cor n).l1t.contains l then s
  else
    let s := s.l2Fill (n / 4) l
    let s : State := { s with core := s.core.map (fun e => if e.1 = n then e else (e.1, { e.2 with l1d := tdel e.2.l1d l })) }
    let s := match s.victim 4 ((s.cor n).l1t.filter (fun x => x / 64 % 256 = l / 64 % 256)) with
      | some v => (s.setCor n ((s.cor n).lose [v])).tick1
      | none => s
    s.setCor n { s.cor n with l1t := l :: (s.cor n).l1t }

/-- Core n gives up every line of its L1D, written back (R353, R511). -/
def Core.emptyL1d (c : Core) : Core := { c.lose c.l1t with l1t := [], l1d := [] }

/-- Write a memory; false is a bus error, and nothing is written. -/
def State.memWr (s : State) (q : Req) (a : Nat) (b : Bytes) : State × Bool :=
  if s.memOpen q a b.length true then
    let s := (s.mput a b).snoop q a b.length
    ({ s with poison := s.poison.filter (fun l => !(linesOf a b.length).contains l) }, true)
  else (s, false)

/-- Poison the line of an address. -/
def State.poisonLine (s : State) (a : Nat) : State :=
  let l := a / 64 * 64
  if s.poison.contains l then s else { s with poison := l :: s.poison }

end Sys2Proof.Machine
end

