-- ==== Sys2Proof/Machine/Rail.lean ====
section
/-!
DEFINITION. Rails, their weir and the power sequence (R241 to R276), and the frame queues of the PL ports that the weir fills (R159 to R166).
-/
namespace Sys2Proof.Machine

/-! ### Line frames (R159 to R161) -/

/-- A line frame with its CRC-8 (R160). -/
def mkFrame (ty addr val : Nat) (en : Bool) : W32 :=
  let h := ty % 16 * 2 ^ 20 + addr % 8 * 2 ^ 17 + val % 65536 * 2 + (if en then 1 else 0)
  BitVec.ofNat 32 (h * 256 + crc8 [h / 65536, h / 256 % 256, h % 256])

def frTy (w : W32) : Nat := w.toNat / 2 ^ 28
def frAddr (w : W32) : Nat := w.toNat / 2 ^ 25 % 8
def frVal (w : W32) : Nat := w.toNat / 2 ^ 9 % 65536
def frEn (w : W32) : Bool := bit w.toNat 8
/-- The CRC of a frame's bits 31:8 matches its bits 7:0. -/
def crcOk (w : W32) : Bool :=
  let h := w.toNat / 256
  crc8 [h / 65536, h / 256 % 256, h % 256] == w.toNat % 256

/-- The addresses that a frame addresses, as a mask (R162). -/
def frMask (w : W32) : Nat :=
  if frTy w = 0xA ∨ frTy w = 0xB then frVal w % 256 else 2 ^ frAddr w

/-- Clear the bits of `m` in `v`, over eight addresses. -/
def clr8 (v m : Nat) : Nat := (v &&& (255 ^^^ (m &&& 255)))

/-- The PL drivers of this package are on and the port is neither off nor fenced. -/
def State.plSends (s : State) (n : Nat) : Bool := s.pins.plOn && s.plGen n != 0 && !s.fenced 6 n

/-- A package that copies rail states from its companion runs no sequence and takes no rail action (R275, R311). -/
def State.copies (s : State) : Bool := s.cmp.act == .shadow || s.cmp.act == .fenced

/-- Override frames that wait, without the clamps of addresses that `w` sheds: no OVR_CURRENT goes to a phase that is shed (R265). -/
def ovrAfter (q : List (W32 × Bool)) (w : W32) : List (W32 × Bool) :=
  q.filter (fun e => !((frTy w == 9 || frTy w == 0xA) && frTy e.1 == 8 && bit (frMask w) (frAddr e.1)))

/-- An override frame for the addresses of a mask discards the ready power frames for them, a ready SHED_MASK of one such address alone among them (R165). -/
def Port.dropPwr (p : Port) (m : Nat) : Port :=
  { p with
    pwr := p.pwr.filter (fun e => !bit m e.1)
    shed := match p.shed with
      | some k => if (List.range 8).any (fun a => bit m a && k == 2 ^ a) then none else some k
      | none => none }

/-- Hand an override frame to port n: it drops the ready power frames of the addresses it covers (R165). -/
def State.pushOvr (s : State) (n : Nat) (w : W32) : State :=
  if s.plSends n then
    let p := (s.prt n).dropPwr (frMask w)
    s.setPrt n { p with ovr := ovrAfter p.ovr w ++ [(w, false)] }
  else if s.copies then
    -- a shadow sends none, and keeps what its weir decided for the mirror comparison (R311, R313)
    forEach (List.range 8) (fun s a =>
      if !bit (frMask w) a then s
      else match s.railOf (n * 8 + a) with
        | some (r, i) => s.setRl r { s.rl r with ovrMine := i :: (s.rl r).ovrMine }
        | none => s) s
  else s

/-! ### Availability (R176, R256) -/

/-- Positions that the weir has shed (RAIL_WSHED). -/
def State.wshed (s : State) (r pos : Nat) : Bool :=
  if pos < 32 then s.getB .RAIL_WSHED_LO r pos else s.getB .RAIL_WSHED_HI r (pos - 32)

/-- The port's marks leave address a available. -/
def State.markOk (s : State) (n a : Nat) : Bool :=
  s.getB .PL_PHASE n a && !s.getB .PL_PHASE n (8 + a) && !s.getB .PL_PHASE n (16 + a) && !s.getB .PL_PHASE n (24 + a) &&
  !s.getB .PL_PHASE2 n a && !s.getB .PL_PHASE2 n (16 + a) &&
  s.gf .PL_STATUS n F.PL_STATUS.STATE != 5 && !s.fenced 6 n && !bit (s.prt n).readmit a

/-- Phase p is available at this moment (R176, R256). -/
def State.phAvail (s : State) (p : Nat) : Bool :=
  s.markOk (p / 8) (p % 8) &&
  match s.railOf p with
  | some (r, i) => !s.wshed r i && !(s.rl r).wback.contains i
  | none => true

/-- Availability of phase p as latched at t = 40 ns. -/
def State.phLatched (s : State) (p : Nat) : Bool := bit (s.prt (p / 8)).avail (p % 8)

/-- Rail kind: ONTIME when its ports' STAGE.KIND is 1 (R242). -/
def State.railOntime (s : State) (r : Nat) : Bool :=
  match s.phasesOf r with
  | p :: _ => s.stKind (p / 8) == 1
  | [] => false

/-- Woken addresses of rail r on port n, as a mask. -/
def State.railMaskOn (s : State) (r n : Nat) : Nat :=
  (s.phasesOf r).foldl (fun m p => if p / 8 = n ∧ s.getB .PL_PHASE n (p % 8) then m ||| 2 ^ (p % 8) else m) 0

/-- Ports that carry a phase of rail r. -/
def State.railPorts (s : State) (r : Nat) : List Nat := ((s.phasesOf r).map (· / 8)).eraseDups

/-- OVR_SHED_MASK on every port of the rail, with the rail's woken addresses there (R263). -/
def State.shedRail (s : State) (r : Nat) : State :=
  forEach (s.railPorts r) (fun s n =>
    let m := s.railMaskOn r n
    if m = 0 then s else s.pushOvr n (mkFrame 0xA 0 m false)) s

/-! ### Step states (R268, R272, R275) -/

/-- The package runs its own sequence. -/
def State.runsSeq (s : State) : Bool := s.cmp.act == .driving || (!s.copies && s.cmp.role != 2)

/-- A step of kind RAIL whose rail is defined, and its rail. -/
def State.stepRail (s : State) (k : Nat) : Option Nat :=
  if (s.seqE k).isSome ∧ u8 (s.seqD k) 1 = 0 ∧ (s.railE (u8 (s.seqD k) 2)).isSome then some (u8 (s.seqD k) 2) else none
def State.stepGpio (s : State) (k : Nat) : Bool := u8 (s.seqD k) 1 == 1 && (s.seqE k).isSome

/-- State, power good and cause of a step; the step of a removed rail reads OFF, 1 and 0 (R275), and a step that no entry defines reads its reset value 0. -/
def State.stepSt (s : State) (k : Nat) : RState :=
  match s.stepRail k with
  | some r => (s.rl r).st
  | none => if s.stepGpio k then (s.stepAt k).st else .off
def State.stepPg (s : State) (k : Nat) : Bool :=
  match s.stepRail k with
  | some r => (s.rl r).pg
  | none => if s.stepGpio k then (s.stepAt k).pg else (s.seqE k).isSome
def State.stepCause (s : State) (k : Nat) : Nat :=
  match s.stepRail k with
  | some r => (s.rl r).cause
  | none => if s.stepGpio k then (s.stepAt k).cause else 0

/-- Steps that name k in DEPS. -/
def State.dependents (s : State) (k : Nat) : List Nat := s.steps.filter (fun d => (seqDeps (s.seqD d)).contains k)

/-- Every step that depends on one of `ks`, directly or through others, `ks` included; at most 128 rounds. -/
def State.closure (s : State) : Nat → List Nat → List Nat
  | 0, ks => ks
  | n + 1, ks =>
    let more := s.steps.filter (fun d => !ks.contains d && (seqDeps (s.seqD d)).any (fun x => ks.contains x))
    if more.isEmpty then ks else s.closure n (ks ++ more)

/-- PG of a rail changes (R273). -/
def State.setPg (s : State) (r : Nat) (b : Bool) : State :=
  let x := s.rl r
  if x.pg = b then s
  else (s.setRl r { x with pg := b, pgRun := 0 }).railEvt r (if b then 1 else 2)

/-- A rail enters OFF: its plausibility count and flag clear (R187). -/
def State.railOff (s : State) (r : Nat) : State :=
  let s := s.setPg r false
  let x := s.rl r
  s.setRl r { x with st := .off, s := 0, plaus := false, outRun := 0, inRun := 0, offNext := false, uvRun := 0, nophaseRun := 0, pgRun := 0 }

/-- A GPIO step drives its output low and is in DOWN until PG_IN reads low (R272). -/
def State.gpioIn (s : State) (g : Nat) : Bool := s.getB .GPIO_IN (g / 32) (g % 32)

def State.gpioDown (s : State) (k : Nat) : State :=
  let x := s.stepAt k
  let pin := u8 (s.seqD k) 3
  if pin ≠ 0xFF ∧ !s.gpioIn pin then
    s.setStep k { x with st := .off, pg := false, out := false, goingDown := false, since := 0 }
  else s.setStep k { x with st := .down, pg := false, out := false, goingDown := false, since := 0 }

/-- Every step that depends on k is in OFF, WAIT or FAULT. -/
def State.depsOff (s : State) (k : Nat) : Bool :=
  (s.dependents k).all (fun d => !(s.stepSt d).live)

/-- A step marked to go down leaves power-good service once its dependents are off, or at once with IMMEDIATE (R269, R272). -/
def State.goDown (s : State) (k : Nat) : State :=
  let x := s.stepAt k
  if x.goingDown ∧ (x.immediate ∨ s.depsOff k) then
    let s := s.setStep k { x with goingDown := false, immediate := false }
    match s.stepRail k with
    | some r =>
      let y := s.rl r
      if !y.st.live || y.offNext then s
      else
        let s := s.setPg r false
        if x.immediate then (s.shedRail r).setRl r { (s.shedRail r).rl r with offNext := true }
        else s.setRl r { s.rl r with st := .down }
    | none => if x.st = .regulate then s.gpioDown k else s
  else s

/-- The shutdowns that the package was running are its own no more: one that stops driving, or begins, goes by the copied rail states alone (R311, R314). -/
def State.dropPlans (s : State) : State :=
  { s with rail := s.rail.map (fun e => (e.1, { e.2 with offNext := false })), seq := s.seq.map (fun e => (e.1, { e.2 with goingDown := false, immediate := false })) }

/-- Let every step that may go down do so, last dependents first: one round per step. A package that copies its rails' states runs no shutdown (R311). -/
def State.settleDown (s : State) : State :=
  if s.copies then s
  else s.steps.foldl (fun s _ => forEach s.steps State.goDown s) s

/-- Take steps down: a step in WAIT returns to OFF unless it is one of `stay`, a step that is up is marked, and each is taken down once (R272, R275). -/
def State.takeDown (s : State) (ks stay : List Nat) (immediate : Bool) : State :=
  let s := forEach ks (fun s k =>
    match s.stepSt k with
    | .off => s
    | .fault => s
    | .wait =>
      if stay.contains k then s
      else (match s.stepRail k with
      | some r => s.setRl r { s.rl r with st := .off }
      | none => s.setStep k { s.stepAt k with st := .off })
    | .down => if immediate then s.setStep k { s.stepAt k with goingDown := true, immediate := true } else s
    | _ => s.setStep k { s.stepAt k with goingDown := true, immediate := (s.stepAt k).immediate || immediate }) s
  s.settleDown

/-- The step's FAULT_ACT (R269): nothing more, its dependents, or the whole sequence. A dependent in WAIT stays there (R275). `hurry` says that a weir fault came during RAMP or DOWN: every shutdown in progress goes on as with IMMEDIATE (R275). -/
def State.faultAction (s : State) (k : Nat) (hurry : Bool) : State :=
  let act := u8 (s.seqD k) 13
  let imm := bit act 7
  let s := s.pf .SEQ_STATUS 0 F.SEQ_STATUS.FSTEP k
  let s := if hurry then s.takeDown (s.steps.filter (fun d => d != k && ((s.stepAt d).goingDown || s.stepSt d == .down))) [] true else s
  let deps := (s.closure 128 [k]).filter (· ≠ k)
  match act % 4 with
  | 1 => s.takeDown deps deps imm
  | 2 => s.takeDown (s.steps.filter (· ≠ k)) deps imm
  | _ => s.settleDown

/-- The causes that the weir raises (R262, R270): OV, UV, TOC, PLAUS. -/
def weirCause (c : Nat) : Bool := decide (1 ≤ c) && decide (c ≤ 4)

/-- A rail enters FAULT (R263, R269): phases shed, CAUSE set, the step's fault action. A package that copies its rails' states enters none, and keeps the shed that its weir decided for the mirror comparison (R311, R313). -/
def State.railFault (s : State) (r cause : Nat) : State :=
  let x := s.rl r
  if !x.st.live then s
  else if s.copies then s.shedRail r
  else
    let k := s.stepOf r
    let hurry := weirCause cause && (x.st == .ramp || x.st == .down)
    let s := (s.shedRail r).setPg r false
    let s := s.setRl r { s.rl r with st := .fault, cause := cause, offNext := false }
    let s := s.setStep k { s.stepAt k with goingDown := false, immediate := false }
    (s.railEvt r 0).faultAction k hurry

/-- A GPIO step in fault drives its output low and holds it there (R270). -/
def State.gpioFault (s : State) (k cause : Nat) : State :=
  (s.setStep k { s.stepAt k with st := .fault, pg := false, cause := cause, out := false, goingDown := false, immediate := false }).faultAction k false

/-! ### Starting and clearing (R271, R273, R275) -/

/-- Every step in OFF moves to WAIT; a step without dependencies counts its DELAY from here (R271). -/
def State.stepWait (s : State) (k : Nat) : State :=
  if s.stepSt k = .off then
    let x : SeqStep := { s.stepAt k with wait := if (seqDeps (s.seqD k)).isEmpty then 0 else (s.stepAt k).wait, goingDown := false, immediate := false }
    match s.stepRail k with
    | some r => (s.setRl r { s.rl r with st := .wait }).setStep k x
    | none => if s.stepGpio k then s.setStep k { x with st := .wait } else s
  else s

def State.anyDown (s : State) : Bool := s.steps.any (fun k => s.stepSt k == .down || (s.stepAt k).goingDown)

/-- SEQ_CTL.UP and the power-up at the first tick (R271, R275). -/
def State.seqUp (s : State) : State :=
  if !s.runsSeq then s
  else if s.anyDown then s.pb .SEQ_STATUS 0 F.SEQ_STATUS.REFUSED true
  else forEach s.steps State.stepWait s

/-- The setpoint target of a rail. -/
def State.target (s : State) (r : Nat) : Nat := s.gf .RAIL_SETPT r F.RAIL_SETPT.TARGET

/-- A rail step enters RAMP (R273), with the counts of R187, R257 and R262 at their starts. -/
def State.railRamp (s : State) (r : Nat) : State :=
  let x := s.rl r
  s.setRl r { x with
    st := .ramp, s := min x.code (s.target r), pg := false, nrec := u8 (s.railD r) 18, dwell := 0, uvRun := 0,
    outRun := 0, inRun := 0, nophaseRun := 0, pgRun := 0, pocRun := [], tocRun := 0, since := 0, offNext := false }

/-- The LE that runs in place of LE j. -/
def State.server (s : State) (j : Nat) : Nat := if (s.lcAt (lcOf j)).spareFor = some j then 32 + lcOf j else j
/-- Debug step mode of LE j (R564). -/
def State.leStepMode (s : State) (j : Nat) : Bool := s.gb .DBG_LE_CTL j F.DBG_LE_CTL.STEP_EN
/-- LEs that run for rail r, in gang order. -/
def State.serversOf (s : State) (r : Nat) : List Nat := (railLes (s.railD r)).map s.server

/-- A step in WAIT whose dependencies have power good and whose DELAY has passed starts (R271). -/
def State.stepStart (s : State) (k : Nat) : State :=
  if !s.runsSeq || s.stepSt k != .wait || !(seqDeps (s.seqD k)).all s.stepPg || (s.stepAt k).wait < u16 (s.seqD k) 8 then s
  else
    match s.stepRail k with
    | some r =>
      -- an LE of the rail, or the spare that serves it, in debug step mode keeps the step in WAIT (R564)
      if (railLes (s.railD r) ++ s.serversOf r).any s.leStepMode then s else s.railRamp r
    | none =>
      let pin := u8 (s.seqD k) 3
      s.setStep k { s.stepAt k with st := .regulate, out := true, pg := (pin != 0xFF && s.gpioIn pin), since := 0, cause := (s.stepAt k).cause }

/-- The sum of the last valid currents of the latched phases, this tick's first (R262). -/
def State.railSum (s : State) (r : Nat) : Int :=
  (s.phasesOf r).foldl (fun acc p =>
    if s.phLatched p then
      let q := s.prt (p / 8)
      let x := tget { valid := false, cur := 0, flags := 0 } q.cur (p % 8)
      acc + (if x.valid then x.cur else tget 0 q.last (p % 8))
    else acc) 0

/-- Whether a fault's cause still holds (R275; reading DEDUCED, log entry 12). -/
def State.causePresent (s : State) (r : Nat) : Bool :=
  let x := s.rl r
  let w := s.weirD r
  match x.cause with
  | 1 => decide (x.code > u16 w 2)
  | 3 => decide (s.railSum r > (u32 w 12 : Int))
  | 6 => !(s.phasesOf r).any s.phAvail
  | _ => false

/-- RAIL_CTL.CLEAR: FAULT to OFF when the cause is gone (R276). -/
def State.railClear (s : State) (r : Nat) : State :=
  if (s.rl r).st = .fault ∧ !s.causePresent r then s.railOff r else s

/-- The same; a cause that is still present is recorded again (R275). -/
def State.railClearAgain (s : State) (r : Nat) : State :=
  if (s.rl r).st = .fault ∧ s.causePresent r then s.pf .SEQ_STATUS 0 F.SEQ_STATUS.FSTEP (s.stepOf r) else s.railClear r

/-- SEQ_CTL.CLEAR: every step fault whose cause is gone. -/
def State.seqClear (s : State) : State :=
  if s.copies then s
  else
    forEach s.steps (fun s k =>
      match s.stepRail k with
      | some r => s.railClear r
      | none => if s.stepGpio k ∧ (s.stepAt k).st = .fault then s.setStep k { s.stepAt k with st := .off } else s) s

/-- SEQ_CTL.DOWN: the whole sequence (R272). -/
def State.seqDown (s : State) : State := if !s.runsSeq then s else s.takeDown s.steps [] false

/-- A write of SEQ_CTL. -/
def State.seqCtl (s : State) (v : W32) : State :=
  let s := if bit v.toNat 2 then s.seqClear else s
  let s := if bit v.toNat 1 then s.seqDown else s
  if bit v.toNat 0 then s.seqUp else s

/-- A write of RAIL_CTL (R272, R275, R276). -/
def State.railCtl (s : State) (r : Nat) (v : W32) : State :=
  if s.copies || (s.railE r).isNone then s
  else
    let s := if bit v.toNat 2 then s.railClearAgain r else s
    if (bit v.toNat 0 ∧ bit v.toNat 1) ∨ !s.runsSeq then s
    else if bit v.toNat 1 then s.takeDown (s.closure 128 [s.stepOf r]) [] false
    else if bit v.toNat 0 ∧ (s.rl r).st = .off then s.stepWait (s.stepOf r)
    else s

/-- A write of RAIL_SETPT (R274): ignored with SETREF outside SET_MIN to SET_MAX. -/
def State.railSetpt (s : State) (r : Nat) (v : W32) : State :=
  if s.copies || (s.railE r).isNone then s
  else
    let t := F.RAIL_SETPT.TARGET.get v
    if u16 (s.railD r) 8 ≤ t ∧ t ≤ u16 (s.railD r) 10 then s.pf .RAIL_SETPT r F.RAIL_SETPT.TARGET t
    else s.railEvt r 8

/-! ### The weir (R260 to R265) -/

/-- The state that the stage of phase p holds, and the CURRENT value in force at it: 0 unless it is in RUN (R258). -/
def State.stageForce (s : State) (p : Nat) : Nat :=
  let x := s.stg p
  if x.powered && x.st == .run && !x.ontime then x.value else 0

/-- VALUE last sent to phase p, 0 when its stage has left RUN since (R261). -/
def State.prevVal (s : State) (p : Nat) : Nat := tget 0 (s.prt (p / 8)).val (p % 8)

/-- R261: the value that the weir lets through for a DRIVE frame, and the counts it adds. -/
def State.weirDrive (s : State) (r pos p v : Nat) : State × Nat :=
  let w := s.weirD r
  let x := s.rl r
  let c := if tget 0 x.pocClamp pos > 0 then min (u16 w 16) (u16 w 10) else u16 w 16
  let c := if x.tocClamp > 0 then min c x.vtoc else c
  let before := min v c
  let out := min before (s.prevVal p + u16 w 18)
  let s := if out < v then s.inc .RAIL_WCNT0 r F.RAIL_WCNT0.CLAMP 1 else s
  let s := if out < before then s.inc .RAIL_WCNT0 r F.RAIL_WCNT0.SLEW 1 else s
  (s, out)

/-- An override current to phase p, or a shed on an ONTIME rail (R263). -/
def State.ovrCurrent (s : State) (r p v : Nat) : State :=
  if s.railOntime r then s.pushOvr (p / 8) (mkFrame 9 (p % 8) 0 false)
  else s.pushOvr (p / 8) (mkFrame 8 (p % 8) v true)

/-- The value that a clamp of a phase sends: the lower one when both clamps are in force (R265). -/
def State.clampVal (s : State) (r pos v : Nat) : Nat :=
  let x := s.rl r
  let v := if tget 0 x.pocClamp pos > 0 then min v (u16 (s.weirD r) 10) else v
  if x.tocClamp > 0 then min v x.vtoc else v

/-- A phase clamp is counted and recorded (R265). -/
def State.countPoc (s : State) (r : Nat) : State := (s.inc .RAIL_WCNT1 r F.RAIL_WCNT1.POC 1).railEvt r 5

/-- Phase clamp (R263): POC_CMD for the rest of this tick and all of the next. -/
def State.phaseClamp (s : State) (r pos p : Nat) : State :=
  let s := s.setRl r { s.rl r with pocClamp := tset (s.rl r).pocClamp pos 2 }
  (s.countPoc r).ovrCurrent r p (s.clampVal r pos (u16 (s.weirD r) 10))

/-- RAIL_WSHED and its event; the run that led to the shed is over. -/
def State.markWshed (s : State) (r pos : Nat) : State :=
  let s := s.setRl r { s.rl r with pocRun := tset (s.rl r).pocRun pos 0 }
  let s := if pos < 32 then s.setB .RAIL_WSHED_LO r pos else s.setB .RAIL_WSHED_HI r (pos - 32)
  s.railEvt r 7

/-- A write of RAIL_WSHED_LO (`base` 0) or RAIL_WSHED_HI (`base` 32): its positions are readmitted from the next latch (R276). -/
def State.wshedWrite (s : State) (reg : Reg) (base r : Nat) (v : W32) : State :=
  let back := ((List.range 32).filter (fun i => bit v.toNat i && s.getB reg r i)).map (base + ·)
  (s.plainWrite reg r v).setRl r { s.rl r with wback := back ++ (s.rl r).wback }

/-- Phase shed (R263). -/
def State.phaseShed (s : State) (r pos p : Nat) : State := (s.pushOvr (p / 8) (mkFrame 9 (p % 8) 0 false)).markWshed r pos

/-- Total clamp (R263): V_toc to every available phase whose prev exceeds it, but for one that is answered by a frame of its own or has been shed. -/
def State.totalClamp (s : State) (r : Nat) (own : Option Nat) : State :=
  let w := s.weirD r
  let n := ((s.phasesOf r).filter s.phLatched).length
  if n = 0 then s
  else
    let v := min (u16 w 16) (32 * u32 w 12 / n)
    let s := s.setRl r { s.rl r with tocClamp := 2, vtoc := v }
    let s := (s.inc .RAIL_WCNT1 r F.RAIL_WCNT1.TOC 1).railEvt r 6
    forEach (List.range (s.phasesOf r).length) (fun s i =>
      let p := (s.phasesOf r).getD i 0
      if s.phLatched p && s.phAvail p && own != some i && decide (s.prevVal p > v) then s.ovrCurrent r p (s.clampVal r i v) else s) s

/-- The stage-current checks of R262 on a valid sample of the available phase at position `pos` of rail r; the strongest action governs (R265). -/
def State.weirSample (s : State) (r pos p : Nat) (cur : Int) : State :=
  let x := s.rl r
  let w := s.weirD r
  if !x.st.live || !s.phLatched p || !s.phAvail p then s
  else
    let run := if cur > (u16 w 8 : Int) then tget 0 x.pocRun pos + 1 else 0
    let above := !x.tocThis && decide (s.railSum r > (u32 w 12 : Int))
    let s := s.setRl r { x with pocRun := tset x.pocRun pos run, tocThis := x.tocThis || above, tocRun := if above then x.tocRun + 1 else x.tocRun }
    if above && decide (x.tocRun + 1 ≥ u8 w 7) then
      let s := if run ≥ u8 w 7 then s.markWshed r pos else if run = 1 then s.countPoc r else s
      s.railFault r 3
    else
      let own := if run = 1 ∨ run ≥ u8 w 7 then some pos else none
      let s := if above && decide (x.tocRun = 0) then s.totalClamp r own else s
      if run = 0 then s
      else if run ≥ u8 w 7 then s.phaseShed r pos p
      else if run = 1 then s.phaseClamp r pos p
      else s

/-- The sense checks of R262 and the PG count of R273 on this tick's code. -/
def State.senseRail (s : State) (r code : Nat) : State :=
  let s := s.setRl r { s.rl r with code := code }
  let x := s.rl r
  let w := s.weirD r
  if !x.st.live then s
  else if code > u16 w 2 then s.railFault r 1
  else
    let win := u8 (s.seqD (s.stepOf r)) 12
    let tg := s.target r
    let inWin := decide (tg ≤ code + win ∧ code ≤ tg + win)
    let uv := if x.st = .regulate ∧ code < u16 w 4 then x.uvRun + 1 else 0
    let pgRun :=
      match x.st with
      | .ramp => if inWin ∧ x.s = tg then x.pgRun + 1 else 0
      | .regulate => if inWin then x.pgRun + 1 else 0
      | _ => 0
    let s := s.setRl r { x with uvRun := uv, pgRun := pgRun }
    -- a package that copies its rails' states copies PG too (R311)
    let s := if x.st = .regulate ∧ !inWin ∧ !s.copies then s.setPg r false else s
    if uv ≥ u8 w 6 ∧ uv > 0 then
      let s := s.railEvt r 3
      if bit (u8 w 1) 0 then s.railFault r 2 else s
    else s

/-- Ceiling of a ÷ b for a signed a and a positive b. -/
def ceilDiv (a : Int) (b : Nat) : Int := -((-a) / (b : Int))

/-- NREC of R257 at the latch. -/
def State.nrecOf (s : State) (r : Nat) (notices : List Notice) : State :=
  let x := s.rl r
  let e := s.railD r
  if !x.st.live then s
  else
    let ps := (s.phasesOf r).filter s.phLatched
    let base : Int := ps.foldl (fun acc p =>
      let y := tget { valid := false, cur := 0, flags := 0 } (s.prt (p / 8)).prev (p % 8)
      if y.valid then acc + y.cur else acc) 0
    let plus : Int := notices.foldl (fun acc n => if n.step > 0 then acc + 4 * n.step else acc) 0
    let d := base + plus
    let tgt := u16 e 20
    let want := ceilDiv d tgt
    let low := ceilDiv (d + (u16 e 22 : Int)) tgt
    let dwell := if low < (x.nrec : Int) then x.dwell + 1 else 0
    let (n, dwell) :=
      if want > (x.nrec : Int) then (want.toNat, dwell)
      else if dwell ≥ u8 e 19 then (x.nrec - 1, 0)
      else (x.nrec, dwell)
    let n := min (max n (u8 e 18)) ps.length
    let np := if ps.length = 0 then x.nophaseRun + 1 else 0
    s.setRl r { x with nrec := n, dwell := dwell, nophaseRun := np }

/-- The rail state word (R245). -/
def State.railWord (s : State) (r : Nat) : W32 :=
  let x := s.rl r
  let b (v : Bool) : Nat := if v then 1 else 0
  BitVec.ofNat 32 (x.nrec % 128 * 2 ^ 16 + x.cause * 2 ^ 8 + b x.plaus * 64 + b (x.tocClamp > 0) * 32 + b x.pg * 16 + x.st.code)

/-- RAIL_FAULT_N is low (R96, R130, R267). -/
def State.railFaultPin (s : State) : Bool :=
  s.pins.railFaultForced || (!s.copies && s.rails.any (fun r => s.faultPin r && (s.rl r).st == .fault))

/-! ### What a tick edge does to a rail (R263, R272 to R274, R187, R258) -/

/-- One end-of-tick plausibility comparison (R187). -/
def State.plausTick (s : State) (r : Nat) : State :=
  let x := s.rl r
  if !x.st.live then s
  else
    let ps := (s.phasesOf r).filter s.phLatched
    let sm (p : Nat) : Samp := tget { valid := false, cur := 0, flags := 0 } (s.prt (p / 8)).cur (p % 8)
    if ps.any (fun p => !(sm p).valid) || !x.iestOk then s
    else
      let sum : Int := ps.foldl (fun acc p => acc + (sm p).cur) 0
      let band : Nat := ps.foldl (fun acc p => acc + s.plausBand (p / 8)) 0
      if (sum - x.iest).natAbs > band then s.setRl r { x with outRun := x.outRun + 1, inRun := 0 }
      else s.setRl r { x with outRun := 0, inRun := x.inRun + 1 }

/-- RAIL_IMEAS: the previous tick's sum of valid samples. -/
def State.imeasTick (s : State) (r : Nat) : State :=
  let sum : Int := (s.phasesOf r).foldl (fun acc p =>
    let y := tget { valid := false, cur := 0, flags := 0 } (s.prt (p / 8)).cur (p % 8)
    if y.valid then acc + y.cur else acc) 0
  s.setRl r { s.rl r with imeas := sum }

/-- The estimate of a CURRENT rail over the phases that are available (R258). -/
def State.iestOver (s : State) (r : Nat) (ok : Nat → Bool) : State :=
  let ps := s.phasesOf r
  let sum : Nat := (List.range ps.length).foldl (fun acc i => if ok (ps.getD i 0) then acc + tget 0 (s.rl r).force i else acc) 0
  s.setRl r { s.rl r with iest := (sum / 32 : Nat), iestOk := true }

/-- At the latch the estimate takes the phases that R187 takes. -/
def State.iestLatch (s : State) (r : Nat) : State := if s.railOntime r then s else s.iestOver r s.phLatched

/-- The observer estimate at the strobe (R258): CURRENT rails from the values in force at the stages in RUN, ONTIME rails from publication slot 15. -/
def State.iestTick (s : State) (r : Nat) : State :=
  let x := s.rl r
  if s.railOntime r then
    match railLes (s.railD r) with
    | j :: _ =>
      (match tget? s.ldg.pub (j * 16 + 15) with
      | some (t, v) => if t + 1 = s.tick.count then s.setRl r { x with iest := v.toInt, iestOk := true } else s.setRl r { x with iestOk := false }
      | none => s.setRl r { x with iestOk := false })
    | [] => s
  else
    let ps := s.phasesOf r
    let force : Tab Nat := (List.range ps.length).map (fun i =>
      (i, s.stageForce (ps.getD i 0)))
    let s := s.setRl r { x with force := force }
    s.iestOver r s.phAvail

/-- What a frame heard on the shared bus does to the monitoring port's own copies of EN and VALUE at address a. -/
def Port.hears (p : Port) (a ty v : Nat) (en : Bool) : Port :=
  if ty = 1 ∨ ty = 2 ∨ ty = 8 then
    { p with en := if en then p.en ||| 2 ^ a else clr8 p.en (2 ^ a), val := tset p.val a (if en ∨ bit p.en a = false then v else 0) }
  else if ty = 4 then p
  else { p with en := clr8 p.en (2 ^ a), val := tset p.val a 0 }

/-- At the edge a package that copies its rails takes the power frames heard in the tick as those last sent (R261, R311). -/
def State.hearEdge (s : State) (r : Nat) : State :=
  if !s.copies then s
  else forEach (s.rl r).heard (fun s e =>
    let p := (s.phasesOf r).getD e.1 0
    s.setPrt (p / 8) ((s.prt (p / 8)).hears (p % 8) (frTy e.2) (frVal e.2) (frEn e.2))) s

/-- S, clamps, runs and timers at the edge. -/
def State.railEdge (s : State) (r : Nat) : State :=
  let x := s.rl r
  let ramp := u16 (s.seqD (s.stepOf r)) 10
  let tg := s.target r
  let x := { x with
    pocClamp := (x.pocClamp.map (fun e => (e.1, e.2 - 1))).filter (fun e => decide (e.2 > 0)), tocClamp := x.tocClamp - 1,
    tocRun := if x.tocThis then x.tocRun else 0, tocThis := false, since := x.since + 1, mine := [], heard := [], ovrMine := [], ovrHeard := [] }
  if s.copies then s.setRl r x
  else if x.offNext then (s.setRl r x).railOff r
  else
    match x.st with
    | .ramp => s.setRl r { x with s := min (x.s + ramp) tg }
    | .regulate =>
      let rate := u16 (s.railD r) 14
      s.setRl r { x with s := if x.s < tg then min (x.s + rate) tg else max (x.s - rate) tg }
    | .down => if x.s ≤ ramp then (s.setRl r x).railOff r else s.setRl r { x with s := x.s - ramp }
    | _ => s.setRl r x

/-- The timers of a step: ticks since its start, and since the last of its dependencies gained power good (R271). -/
def State.stepTimer (s : State) (k : Nat) : State :=
  let x := s.stepAt k
  let deps := seqDeps (s.seqD k)
  let wait := if deps.isEmpty then (if s.stepSt k = .wait then x.wait + 1 else x.wait) else if deps.all s.stepPg then x.wait + 1 else 0
  s.setStep k { x with since := x.since + 1, wait := wait }

/-- A GPIO step without PG_IN at the edge (R271, R272). -/
def State.stepGpioEdge (s : State) (k : Nat) : State :=
  let x := s.stepAt k
  if !s.stepGpio k || u8 (s.seqD k) 3 != 0xFF || s.copies then s
  else
    match x.st with
    | .regulate => s.setStep k { x with pg := true }
    | .down => s.setStep k { x with st := .off }
    | _ => s

/-- What a tick edge does to the steps: every timer on the power good of the tick that ends, then the GPIO steps. -/
def State.stepsEdge (s : State) : State := forEach s.steps State.stepGpioEdge (forEach s.steps State.stepTimer s)

/-! ### Commands -/

/-- NOPHASE (R270): no available phase for two ticks. -/
def execNophase (r : Fin 64) (s : State) : Out :=
  .next (if (s.rl r).st.live ∧ (s.rl r).nophaseRun ≥ 2 then s.railFault r 6 else s)

/-- PGTMO (R270, R272): no power good within PG_TMO ticks of the start; a GPIO step going down enters OFF all the same. -/
def execPgtmo (st : Fin 128) (s : State) : Out :=
  .next (
    let tmo := u16 (s.seqD st) 14
    match s.stepRail st with
    | some r => if (s.rl r).st = .ramp ∧ !(s.rl r).pg ∧ (s.rl r).since ≥ tmo then s.railFault r 5 else s
    | none =>
      let x := s.stepAt st
      if !s.stepGpio st ∨ x.since < tmo ∨ s.copies then s
      else if x.st = .regulate ∧ !x.pg then s.gpioFault st 5
      else if x.st = .down then s.setStep st { x with st := .off, cause := 5 }
      else s)

/-- PG_UP (R273): sixteen ticks at target within the window. -/
def execPgUp (r : Fin 64) (s : State) : Out :=
  .next (
    let x := s.rl r
    if !s.copies ∧ x.pgRun ≥ 16 ∧ (x.st = .ramp ∨ x.st = .regulate) then
      let s := s.setPg r true
      s.setRl r { s.rl r with st := .regulate }
    else s)

/-- SEQ_STEP_START (R271). -/
def execSeqStepStart (st : Fin 128) (s : State) : Out := .next (s.stepStart st)

/-- SEQ_GPIO_PG_CHANGE (R270 to R272): a GPIO step's power-good input changes. -/
def execSeqGpioPgChange (g : Fin 128) (lvl : Bool) (s : State) : Out :=
  .next (
    let s := if lvl then s.setB .GPIO_IN (g / 32) (g % 32) else s.clrB .GPIO_IN (g / 32) (g % 32)
    let ks := s.steps.filter (fun k => s.stepGpio k && u8 (s.seqD k) 3 == g.val)
    if s.copies then s
    else
      let s := forEach ks (fun s k =>
        let x := s.stepAt k
        match x.st, lvl with
        | .regulate, true => s.setStep k { x with pg := true }
        | .regulate, false => if x.pg then s.gpioFault k 7 else s
        | .down, false => s.setStep k { x with st := .off }
        | _, _ => s) s
      s.settleDown)

end Sys2Proof.Machine
end

