-- ==== Sys2Proof/Machine/Link.lean ====
section
/-!
DEFINITION. PL ports, the part's end of the phase link (R151 to R193): what is sent, what is received, enumeration, failures, tests and injections.
-/
namespace Sys2Proof.Machine

def State.plState (s : State) (n : Nat) : Nat := s.gf .PL_STATUS n F.PL_STATUS.STATE
def State.setPlState (s : State) (n k : Nat) : State := s.pf .PL_STATUS n F.PL_STATUS.STATE k
def State.woken (s : State) (n : Nat) : Nat := s.gf .PL_PHASE n F.PL_PHASE.WOKEN

/-- The port's own shed of an address whose phase is no longer available; with one that still waits and stands last among the override frames it goes as one OVR_SHED_MASK (R164, R176). -/
def Port.shedOwn (p : Port) (a : Nat) : Port :=
  let p := p.dropPwr (2 ^ a)
  match p.ovr.getLast? with
  | some (w, true) => { p with ovr := p.ovr.dropLast ++ [(mkFrame 0xA 0 (frMask w ||| 2 ^ a) false, true)] }
  | _ => { p with ovr := p.ovr ++ [(mkFrame 9 a 0 false, true)] }

/-- A phase that was available and no longer is: the port sheds it (R176). -/
def State.shedLost (s : State) (n a : Nat) (was : Bool) : State :=
  if was && !s.phAvail (n * 8 + a) && s.plSends n then s.setPrt n ((s.prt n).shedOwn a) else s

/-- Set a mark of an address: register, bit offset, and the PL_EVT bit; a woken phase that stops being available is shed (R176). -/
def State.mark (s : State) (n a : Nat) (r : Reg) (off evt : Nat) : State :=
  ((s.setB r n (off + a)).plEvt n evt).shedLost n a (s.phAvail (n * 8 + a))

def State.markAbsent (s : State) (n a : Nat) : State := s.mark n a .PL_PHASE 8 0
def State.markErrshed (s : State) (n a : Nat) : State := s.mark n a .PL_PHASE 16 1
def State.markConflict (s : State) (n a : Nat) : State := s.mark n a .PL_PHASE 24 2
def State.markMismatch (s : State) (n a : Nat) : State := s.mark n a .PL_PHASE2 0 4
def State.markUnexpected (s : State) (n a : Nat) : State := s.mark n a .PL_PHASE2 8 3
def State.markFlt (s : State) (n a : Nat) : State := s.mark n a .PL_PHASE2 16 7

/-! ### Enumeration (R182) -/

/-- Clear the marks of an address, and its bucket. -/
def State.clearMarks (s : State) (n a : Nat) : State :=
  let s := ((s.clrB .PL_PHASE n (8 + a)).clrB .PL_PHASE n (16 + a)).clrB .PL_PHASE n (24 + a)
  let s := ((s.clrB .PL_PHASE2 n a).clrB .PL_PHASE2 n (16 + a)).pf .PL_ERR (n * 8 + a) F.PL_ERR.BUCKET 0
  s.setPrt n { s.prt n with good := tset (s.prt n).good a 0, silent := tset (s.prt n).silent a 0 }

/-- The same, with its WOKEN bit and its round-trip delay. -/
def State.clearAddr (s : State) (n a : Nat) : State :=
  let s := ((s.clearMarks n a).clrB .PL_PHASE n a).pf .PL_RTD (n * 8 + a) F.PL_RTD.VALID 0
  s.setPrt n { s.prt n with en := clr8 (s.prt n).en (2 ^ a), val := tset (s.prt n).val a 0 }

/-- Addresses that STAGE expects, ascending. -/
def State.expected (s : State) (n : Nat) : List Nat := (List.range 8).filter (fun a => bit (s.expects n) a)

/-- What the port has begun, but for register accesses, ends: nothing waits for the reply that slot A may still bring (R171), and the frames that are ready and an eye scan are dropped. -/
def Port.quit (p : Port) : Port :=
  { p with await := .nobody, startDue := false, enum := none, readmit := 0, mgmt := none, pwr := [], ovr := [], shed := none, testQ := [], eye := false }

/-- Full enumeration: SYNC markers for 16 ticks first, and no frames, also in the rest of the tick in which it starts, whatever waited (R182). DESIGN CHOICE: an access of PL_REG_CMD that waits is kept and sent after it, and the sheds of R176 for the phases that were available are not sent (log entries 173 and 198). A package whose drivers are off sends no frame: its port clears the marks and keeps them from what it hears (R311; log entry 174). -/
def State.enumFull (s : State) (n : Nat) : State :=
  if s.plGen n = 0 then s
  else
    let s := forEach (s.expected n) (fun s a => s.clearAddr n a) s
    let s := s.pf .PL_PHASE2 n F.PL_PHASE2.UNEXPECTED 0
    let s := s.setPrt n { (s.prt n).quit with
      enum := if s.pins.plOn then some { full := true, todo := s.expected n, step := .sync 16, tries := 0, got := [] } else none,
      disShed := false, busTicks := 0 }
    s.setPlState n (if s.pins.plOn then 1 else 3)

/-- A port whose package stops driving sends no frame: what it had begun to send ends, and it follows the bus in RUN (R311). -/
def State.plFollow (s : State) (n : Nat) : State :=
  let p := s.prt n
  let s := if p.enum.isSome || !p.testQ.isEmpty then s.setPrt n { p with enum := none, testQ := [], await := if p.await = .acc then .acc else .nobody } else s
  if s.plState n = 1 ∨ s.plState n = 2 then s.setPlState n 3 else s

/-- The next address to enumerate after READMIT (R182). -/
def State.enumNext (s : State) (n : Nat) : State :=
  let p := s.prt n
  match p.enum, (List.range 8).find? (fun a => bit p.readmit a) with
  | none, some a =>
    let s := s.clearAddr n a
    let p := s.prt n
    s.setPrt n { p with enum := some { full := false, todo := [a], step := .read 0, tries := 0, got := [] }, readmit := clr8 p.readmit (2 ^ a) }
  | _, _ => s

/-- The present address is done: the next one, or the end of the enumeration. -/
def State.enumAdvance (s : State) (n : Nat) : State :=
  let p := s.prt n
  match p.enum with
  | none => s
  | some e =>
    match e.todo with
    | _ :: b :: r => s.setPrt n { p with enum := some { e with todo := b :: r, step := .read 0, tries := 0, got := [] } }
    | _ =>
      let s := s.setPrt n { p with enum := none }
      let s := if e.full then s.setPlState n 3 else s
      (s.plEvt n 8).enumNext n

/-- An address marked CONFLICT is not sent WAKE: its enumeration ends at that step (R182, R183). -/
def State.enumStop (s : State) (n : Nat) : State :=
  let p := s.prt n
  match p.enum with
  | some e =>
    match e.todo, e.step, p.expect with
    | a :: _, .wake, none => if s.getB .PL_PHASE n (24 + a) then s.enumAdvance n else s
    | _, _, _ => s
  | none => s

/-- ENUM_SYNC_DONE's effect; in a fence the registers keep their values (R182). -/
def State.enumSynced (s : State) (n : Nat) : State :=
  let p := s.prt n
  match p.enum with
  | some e =>
    match e.step, s.fenced 6 n with
    | .sync 0, false =>
      let s := (s.setPrt n { p with enum := some { e with step := .read 0 } }).setPlState n 2
      if e.todo.isEmpty then s.enumAdvance n else s
    | _, _ => s
  | none => s

/-- The register index of read i: 0x00 to 0x0F, then SERIAL again. -/
def enumIdx (i : Nat) : Nat := if i < 16 then i else i - 8

/-- The management frame that the enumeration has to send in this tick, with its address. -/
def State.enumFrame (s : State) (n : Nat) : Option (Nat × W32) :=
  let p := s.prt n
  match p.enum with
  | some e =>
    match e.todo with
    | a :: _ =>
      let en := bit p.en a
      (match e.step with
      | .sync _ => none
      | .read i => some (a, mkFrame 6 a (enumIdx i * 256) en)
      | .writeHold => some (a, mkFrame 5 a (0x10 * 256 + s.holdTicks n) en)
      | .writeMode => some (a, mkFrame 5 a (0x11 * 256 + s.stKind n) en)
      | .wake => some (a, mkFrame 7 a 0xA55A false))
    | [] => none
  | none => none

/-- Checks of step 3 on what step 2 read: VENDOR, MODEL, PLREV, CAPS. -/
def State.enumOk (s : State) (n : Nat) (g : Tab Nat) : Bool :=
  let st := s.entD tSTAGE n
  let w (i : Nat) : Nat := tget 0 g i + 256 * tget 0 g (i + 1)
  (u16 st 8 == 0 || u16 st 8 == w 0) && (u16 st 10 == 0 || u16 st 10 == w 2) &&
  bit (tget 0 g 4) (s.plGen n - 1) && bit (tget 0 g 5) (s.stKind n)

/-- A valid register reply during the enumeration of address a (R182, R183). -/
def State.enumReply (s : State) (n a data status : Nat) : State :=
  let p := s.prt n
  match p.enum with
  | none => s
  | some e =>
    match e.step with
    | .sync _ => s
    | .read i =>
      let g := tset e.got (if i < 16 then i else i + 8) data
      let s := s.setPrt n { p with enum := some { e with got := g, step := .read (i + 1), tries := 0 } }
      if i < 23 then s
      else if (List.range 8).any (fun k => tget 0 g (8 + k) != tget 0 g (24 + k)) then (s.markConflict n a).enumAdvance n
      else if !s.enumOk n g then (s.markMismatch n a).enumAdvance n
      else s.setPrt n { s.prt n with enum := some { e with got := g, step := .writeHold, tries := 0 } }
    | .writeHold =>
      if status ≠ 0 ∨ data ≠ s.holdTicks n then (s.markMismatch n a).enumAdvance n
      else s.setPrt n { p with enum := some { e with step := .writeMode, tries := 0 } }
    | .writeMode =>
      if status ≠ 0 ∨ data ≠ s.stKind n then (s.markMismatch n a).enumAdvance n
      else (s.setPrt n { p with enum := some { e with step := .wake, tries := 0 } }).enumStop n
    | .wake => (s.setB .PL_PHASE n a).enumAdvance n

/-! ### Disablement (R186) -/

/-- The part checks a PRBS31 pattern in this mode; in mode 0b010 the stages do (R189). -/
def partChecks (t : Nat) : Bool := t == 1 || t == 3 || t == 4

/-- The part stops checking PRBS31 in mode t: how many errors it found is a free value (log entry 57). -/
def State.prbsEnd (s : State) (n t : Nat) : State :=
  if s.plState n == 4 && partChecks t then (s.wr .PL_PRBS_ERR n (s.freeW32 &&& 0xFFFF)).tick1 else s

/-- Disable a port with a cause. A BUSFAIL is judged when its tick has ended, so a BABBLE of the same tick comes first. DESIGN CHOICE: a disabled port keeps its cause, and a port without a generation stays as it is; an enumeration, a register access and an eye scan in progress end without DONE and without an event (log entry 199). -/
def State.plDisable (s : State) (n cause evt : Nat) : State :=
  if s.plGen n = 0 ∨ s.plState n = 5 then s
  else
    let s := if evt < 11 then s.plEvt n evt else s
    let s := ((s.prbsEnd n (s.gf .PL_CTL n F.PL_CTL.TEST)).setPlState n 5).pf .PL_STATUS n F.PL_STATUS.DIS_CAUSE cause
    s.setPrt n { (s.prt n).quit with disShed := (s.woken n != 0 && s.plSends n), acc := none }

/-- The port listens to its upstream bus: neither off, nor in a test mode, nor disabled (R186), nor fenced, when its registers keep their values (R182). -/
def State.plListens (s : State) (n : Nat) : Bool :=
  let st := s.plState n
  st != 0 && st != 4 && st != 5 && !s.fenced 6 n

/-- A quiet-window violation in this tick (R185, R186); none is recorded while the port is off, disabled or in a test mode, whose patterns fill the windows (log entry 56). -/
def State.quietViolation (s : State) (n : Nat) : State :=
  let p := s.prt n
  if !s.plListens n then s
  else
    let s := s.setPrt n { p with quiet := true }
    if p.quietPrev then s.plDisable n 1 5 else s

/-! ### Sending (R161, R164 to R166) -/

/-- What handing a frame to the line changes in the port's own copies: the VALUE sent, but 0 once a frame takes the stage out of RUN (R261). -/
def Port.handed (p : Port) (w : W32) (bad : Bool) : Port :=
  let ty := frTy w
  let a := frAddr w
  let p := { p with sent := p.sent ++ [(w, bad)] }
  if ty = 1 ∨ ty = 2 ∨ ty = 8 then
    { p with en := if frEn w then p.en ||| 2 ^ a else clr8 p.en (2 ^ a), val := tset p.val a (if frEn w ∨ bit p.en a = false then frVal w else 0) }
  else if ty = 3 ∨ ty = 9 ∨ ty = 0xA ∨ ty = 0xB ∨ ty = 7 then
    { p with en := clr8 p.en (frMask w), val := (List.range 8).foldl (fun v k => if bit (frMask w) k then tset v k 0 else v) p.val }
  else p

/-- An injection of kind 1 armed for the address corrupts this power frame's CRC, then ends (R191). -/
def Port.injCrc (p : Port) (w : W32) : Bool × Port :=
  match p.inj with
  | some i => if i.kind = 1 ∧ i.armed ∧ bit (frMask w) i.addr then (true, { p with inj := none }) else (false, p)
  | none => (false, p)

/-- An injection of a kind acts on an address in this tick. -/
def Port.injOn (p : Port) (kind a : Nat) : Bool :=
  match p.inj with
  | some i => i.kind == kind && i.armed && i.addr == a
  | none => false

/-- The management frame due in this tick, with its address and whose it is: the enumeration's first, then the test writes, then a register access (R182, R189). -/
def State.mgmtDue (s : State) (n : Nat) : Option (Nat × W32 × Await) :=
  let p := s.prt n
  if p.expect.isSome then none
  else
    match s.enumFrame n with
    | some (a, w) => some (a, w, .enum)
    | none =>
      match p.testQ with
      | w :: _ => some (frAddr w, mkFrame 5 (frAddr w) (frVal w) (bit p.en (frAddr w)), .test)
      | [] =>
        match p.acc with
        | some x => some (x.addr, mkFrame (if x.write then 5 else 6) x.addr (x.reg * 256 + (if x.write then x.data else 0)) (bit p.en x.addr), .acc)
        | none => none

/-- A power frame as the port sends it: EN of a HOLD is the port's present copy (R161). -/
def Port.powerFrame (p : Port) (w : W32) : W32 := if frTy w = 4 then mkFrame 4 (frAddr w) 0 (bit p.en (frAddr w)) else w

/-- PL_FRAME_SEND's effect at a free character boundary at time t (R164). -/
def State.plSend (s : State) (n t : Nat) : State :=
  let p := s.prt n
  let dur := if s.plGen n = 1 then 100 else 25
  let st := s.plState n
  if !s.plSends n || t + dur > s.tTick || st == 1 || st == 4 || st == 0 then s
  else if p.disShed then
    let w := mkFrame 0xA 0 (s.woken n) false
    s.setPrt n ({ p with disShed := false }.handed w false)
  else if st = 5 then s
  else
    match p.ovr with
    | (w, _) :: r => s.setPrt n ({ p with ovr := r }.handed w false)
    | [] =>
      match p.shed with
      | some m =>
        let (bad, p) := p.injCrc (mkFrame 0xB 0 m false)
        s.setPrt n ({ p with shed := none }.handed (mkFrame 0xB 0 m false) bad)
      | none =>
        match p.pwr with
        | (_, w) :: r =>
          let w := p.powerFrame w
          let (bad, p) := p.injCrc w
          s.setPrt n ({ p with pwr := r }.handed w bad)
        | [] =>
          if p.mgmtSent || t + (if s.plGen n = 1 then 200 else 50) < s.tTick then s
          else
            match s.mgmtDue n with
            | some (a, w, o) => s.setPrt n ({ p with mgmtSent := true, expect := some a, await := o }.handed w false)
            | none => s

/-- The mask of the port's SHED_MASK (R166). -/
def State.shedMask (s : State) (n : Nat) : Nat :=
  (List.range 8).foldl (fun m a =>
    let need := match s.railOf (n * 8 + a) with
      | none => true
      | some (r, _) => !(s.rl r).st.live || !s.phAvail (n * 8 + a)
    if bit (s.woken n) a && need then m ||| 2 ^ a else m) 0

/-! ### Receiving (R173, R183, R184) -/

/-- Slot k starts here, in 1/48 ns (R167). -/
def State.slotStart (s : State) (n k : Nat) : Nat :=
  if s.plGen n = 1 then (160 + 160 * k) * 48 else (40 + 40 * k) * 48
/-- The K28.5 of a frame in slot k arrives inside the window of address a (R173). -/
def State.inWindow (s : State) (n k a arr : Nat) : Bool :=
  let st := s.slotStart n k
  if s.gb .PL_RTD (n * 8 + a) F.PL_RTD.VALID then
    let mid := st + (if s.plGen n = 1 then 720 else 180) + 5 * s.gf .PL_RTD (n * 8 + a) F.PL_RTD.RTD
    decide (mid ≤ arr + 120 ∧ arr ≤ mid + 120)
  else if s.plGen n = 1 then decide (st + 600 ≤ arr ∧ arr ≤ st + 1608)
  else decide (st + 60 ≤ arr ∧ arr ≤ st + 876)

/-- A bucket event of an address; ERRSHED at STAGE.CRC_SHED (R184). -/
def State.bucketUp (s : State) (n a : Nat) : State :=
  let i := n * 8 + a
  let s := (s.inc .PL_ERR i F.PL_ERR.TOTAL 1).inc .PL_ERR i F.PL_ERR.BUCKET 1
  if s.crcShed n ≠ 0 ∧ s.gf .PL_ERR i F.PL_ERR.BUCKET ≥ s.crcShed n ∧ !s.getB .PL_PHASE n (16 + a) then s.markErrshed n a else s

/-- A valid frame of an address; after 256 in a row the bucket falls by 1. -/
def State.goodFrame (s : State) (n a : Nat) : State :=
  let p := s.prt n
  let g := tget 0 p.good a + 1
  if g ≥ 256 then
    let s := s.setPrt n { p with good := tset p.good a 0 }
    s.pf .PL_ERR (n * 8 + a) F.PL_ERR.BUCKET (s.gf .PL_ERR (n * 8 + a) F.PL_ERR.BUCKET - 1)
  else s.setPrt n { p with good := tset p.good a g }

/-- An invalid frame of an address. -/
def State.badFrame (s : State) (n a : Nat) : State :=
  let p := s.prt n
  (s.setPrt n { p with good := tset p.good a 0, badSlot := true }).bucketUp n a

/-- The sample frame of address a's slot (R173, R174, R183, R184). -/
def State.rxSample (s : State) (n a : Nat) (rx : Upstream) : State :=
  let p := s.prt n
  if !s.plListens n || p.injOn 2 a then s
  else
    let s := s.setPrt n { p with seen := p.seen ||| 2 ^ a }
    let v := rx.w.toNat
    let win := s.inWindow n a a rx.arr
    let crc := !rx.bad && crcOk rx.w && !p.injOn 3 a
    let kind := v / 2 ^ 30 == 0
    let addr := v / 2 ^ 27 % 8 == a
    let seq := v / 2 ^ 8 % 4 == s.tick.count % 4
    if win && crc && kind && addr && seq then
      if !bit (s.expects n) a then s.markUnexpected n a
      else
        let cur := sgn 12 (v / 2 ^ 15 % 4096)
        let fl := v / 2 ^ 10 % 32
        let s := s.goodFrame n a
        let p := s.prt n
        let wok := bit (s.woken n) a && !s.getB .PL_PHASE n (8 + a)
        let s := s.setPrt n { p with cur := tset p.cur a { valid := true, cur := cur, flags := fl }, last := tset p.last a cur, anyValid := p.anyValid || wok }
        let s := if bit fl 0 then s.bucketUp n a else s
        let busy := match (s.prt n).enum with
          | some e => e.todo.contains a
          | none => false
        let s := if bit fl 3 && wok && !busy && !s.getB .PL_PHASE2 n (16 + a) then s.markFlt n a else s
        match s.railOf (n * 8 + a) with
        | some (r, i) => s.weirSample r i (n * 8 + a) cur
        | none => s
    else
      let s := s.badFrame n a
      if win && crc && kind && !addr && seq then (s.markConflict n a).enumStop n else s

/-- A frame in a slot A that expects the round-robin auxiliary frame (R169, R171, R173). -/
def State.rxAux (s : State) (n : Nat) (rx : Upstream) : State :=
  let a := s.tick.count % 8
  if decide (a ≥ s.slotsA n) then s
  else
    let v := rx.w.toNat
    if s.inWindow n (s.slotsA n) a rx.arr && !rx.bad && crcOk rx.w && v / 2 ^ 30 == 1 && v / 2 ^ 27 % 8 == a then
      let s := s.goodFrame n a
      let w := 2 ^ 31 + (v / 2 ^ 19 % 256) * 2 ^ 16 + (v / 2 ^ 12 % 128) * 2 ^ 8 + v / 2 ^ 8 % 16
      let s := s.wr .PL_AUX (n * 8 + a) (BitVec.ofNat 32 w)
      { s with ldg := { s.ldg with auxTick := tset s.ldg.auxTick (n * 8 + a) s.tick.count } }
    else s.badFrame n a

/-- The end of a PL_REG_CMD access. -/
def State.accDone (s : State) (n status data : Nat) : State :=
  let p := s.prt n
  let s := s.setPrt n { p with acc := none }
  let s := s.wr .PL_REG_RESULT n (BitVec.ofNat 32 (2 ^ 31 + status * 256 + data))
  s.plEvt n 9

/-- The stage's own WAKE was heard on a bus that another package drives, and its reply has come: the address is woken (R311). -/
def State.heardWoken (s : State) (n a : Nat) : State :=
  match (s.prt n).mgmt with
  | some w => if s.copies && frTy w == 7 && frAddr w == a then s.setB .PL_PHASE n a else s
  | none => s

/-- A TEST_CTL write has ended: the next one, or the test mode (R189). -/
def State.testNext (s : State) (n : Nat) : State :=
  match (s.prt n).testQ with
  | _ :: r =>
    let s := s.setPrt n { s.prt n with testQ := r }
    if r.isEmpty then s.setPlState n 4 else s
  | [] => s

/-- A frame in a slot A that expects the register reply of address a (R171, R173, R182, R183). DESIGN CHOICE: PL_RTD is the delay in its unit rounded down, 0 below the base and modulo 256 (log entry 175). -/
def State.rxReply (s : State) (n a : Nat) (rx : Upstream) : State :=
  let p := s.prt n
  let v := rx.w.toNat
  let k := s.slotsA n
  let win := s.inWindow n k a rx.arr
  let crc := !rx.bad && crcOk rx.w
  let kind := v / 2 ^ 30 == 2
  let addr := v / 2 ^ 27 % 8 == a
  let reading := p.await == .enum && match p.enum with
    | some e => (match e.step with | .read _ => true | _ => false)
    | none => false
  if win && crc && kind && addr then
    let data := v / 2 ^ 11 % 256
    let status := v / 2 ^ 8 % 8
    let s := s.goodFrame n a
    let s :=
      if reading && !s.gb .PL_RTD (n * 8 + a) F.PL_RTD.VALID then
        let base := s.slotStart n k + (if s.plGen n = 1 then 720 else 180)
        s.wr .PL_RTD (n * 8 + a) (BitVec.ofNat 32 (256 + (rx.arr - base) / 5 % 256))
      else s
    let s := s.setPrt n { s.prt n with expect := none, await := .nobody }
    match p.await with
    | .enum => s.enumReply n a data status
    | .test => s.testNext n
    | .acc => s.accDone n status data
    | .nobody => s.heardWoken n a
  else
    let s := s.badFrame n a
    if reading && !p.badSlot && ((win && crc && kind && !addr) || !crc) then
      let s := s.setPrt n { s.prt n with expect := none, await := .nobody }
      (s.markConflict n a).enumAdvance n
    else s

/-- A frame in slot A, judged by what the slot expects: the reply to the management frame of the tick before, or the round-robin frame (R171, R173). -/
def State.rxSlotA (s : State) (n : Nat) (rx : Upstream) : State :=
  if !s.plListens n then s
  else
    match (s.prt n).expect, (s.prt n).mgmtSent with
    | some a, false => s.rxReply n a rx
    | _, _ => s.rxAux n rx

/-- No valid reply came (R182, R193): up to two repeats, then ABSENT, or status 0b111 for a register access. In a fence the registers keep their values (R182), and the attempt is made again after it. -/
def State.replyMissing (s : State) (n : Nat) : State :=
  let p := s.prt n
  match p.expect, s.fenced 6 n with
  | some a, false =>
    let p := { p with expect := none, await := .nobody }
    match (s.prt n).await with
    | .enum =>
      match p.enum with
      | some e =>
        if e.tries ≥ 2 then ((s.setPrt n p).markAbsent n a).enumAdvance n
        else (s.setPrt n { p with enum := some { e with tries := e.tries + 1 } }).enumStop n
      | none => s.setPrt n p
    | .test => (s.setPrt n p).testNext n
    | .acc =>
      match p.acc with
      | some x => if x.tries ≥ 2 then (s.setPrt n p).accDone n 7 0 else s.setPrt n { p with acc := some { x with tries := x.tries + 1 } }
      | none => s.setPrt n p
    | .nobody => s.setPrt n p
  | some _, true => s.setPrt n { p with expect := none, await := .nobody }
  | none, _ => s

/-! ### Register writes of a port (R189 to R193) -/

/-- Any woken phase of the port belongs to a rail that SEQ has enabled. -/
def State.plInUse (s : State) (n : Nat) : Bool :=
  (List.range 8).any (fun a => bit (s.woken n) a && match s.railOf (n * 8 + a) with
    | some (r, _) => (s.rl r).st.live
    | none => false)

/-- The TEST_CTL writes that a mode begins with (R189): to every woken stage, or to stage TEST_ADDR; none to an address that STAGE does not expect (R183), and none from a package whose drivers are off. -/
def State.testWrites (s : State) (n t addr : Nat) : List W32 :=
  let w (a c : Nat) : W32 := mkFrame 5 a (0x16 * 256 + c) false
  if !s.pins.plOn then []
  else match t with
    | 2 => ((List.range 8).filter (fun a => bit (s.woken n) a)).map (fun a => w a 1)
    | 3 => if bit (s.expects n) addr then [w addr 2] else []
    | 4 => if bit (s.expects n) addr then [w addr 3] else []
    | _ => []

/-- The port is in a test mode, or on its way into one. -/
def State.inTest (s : State) (n : Nat) : Bool := s.plState n == 4 || !(s.prt n).testQ.isEmpty

/-- A TEST write (R189). A port that is off or disabled takes the field and no mode (R186). DESIGN CHOICE: a write that names the mode the port is in is no TEST write (log entry 55); what the port has begun to send, to access or to scan when a mode is taken up is discarded, an eye scan without EYE_DONE and with PL_EYE_RES kept (log entry 176), and a mode that follows another begins with TEST_CTL in RUN ticks as from none. -/
def State.plTest (s : State) (n t addr : Nat) : State :=
  let old := s.gf .PL_CTL n F.PL_CTL.TEST
  let was := s.inTest n
  if t = old ∧ (t = 0 ∨ was = true) then s
  else if t > 4 || s.plInUse n then s.pb .PL_STATUS n F.PL_STATUS.TREFUSED true
  else
    let s := (s.pb .PL_STATUS n F.PL_STATUS.TREFUSED false).pf .PL_CTL n F.PL_CTL.TEST t
    if s.plGen n = 0 ∨ s.plState n = 5 ∨ s.plState n = 0 then s
    else if t = 0 then (if was then (s.prbsEnd n old).enumFull n else s)
    else
      let s := s.wr .PL_PRBS_ERR n 0
      let q := s.testWrites n t addr
      let s := s.setPrt n { (s.prt n).quit with testQ := q, acc := none }
      s.setPlState n (if q.isEmpty then 4 else 3)

/-- A write of PL_CTL. EYE_GO acts in the mode that the port is in (R190). DESIGN CHOICE: of several actions in one write TEST comes first, then EYE_GO, ENUM_GO, REENABLE and DISABLE (log entry 200). -/
def State.plCtl (s : State) (n : Nat) (v : W32) : State :=
  let addr := F.PL_CTL.TEST_ADDR.get v
  let s := (s.pf .PL_CTL n F.PL_CTL.TEST_ADDR addr).plTest n (F.PL_CTL.TEST.get v) addr
  let s := if bit v.toNat 4 ∧ s.plState n = 4 ∧ partChecks (s.gf .PL_CTL n F.PL_CTL.TEST) = true then s.setPrt n { s.prt n with eye := true } else s
  let s := if bit v.toNat 1 ∧ s.plState n = 3 then s.enumFull n else s
  let s := if bit v.toNat 2 ∧ s.plState n = 5 then (s.pf .PL_STATUS n F.PL_STATUS.DIS_CAUSE 0).enumFull n else s
  if bit v.toNat 3 then s.plDisable n 3 11 else s

/-- A write of PL_READMIT (R182, R183, R193). -/
def State.plReadmit (s : State) (n : Nat) (v : W32) : State :=
  if s.plState n ≠ 3 then s
  else
    let s := forEach (List.range 8) (fun s a =>
      if !bit v.toNat a then s
      else
        let s := s.clrB .PL_PHASE2 n (8 + a)
        if bit (s.expects n) a then
          let was := s.phAvail (n * 8 + a)
          let s := s.clearMarks n a
          (s.setPrt n { s.prt n with readmit := (s.prt n).readmit ||| 2 ^ a }).shedLost n a was
        else s.pf .PL_ERR (n * 8 + a) F.PL_ERR.BUCKET 0) s
    s.enumNext n

/-- A write of PL_REG_CMD. DESIGN CHOICE: no frame is ever sent to an address that STAGE does not expect (R183), so an access to one ends at once without a reply (log entry 177). -/
def State.plRegCmd (s : State) (n : Nat) (v : W32) : State :=
  let busy := (s.prt n).acc.isSome
  let s := s.plainWrite .PL_REG_CMD n v
  if bit v.toNat 31 ∧ !busy ∧ s.plState n = 3 then
    if !bit (s.expects n) (F.PL_REG_CMD.ADDR.get v) then (s.wr .PL_REG_RESULT n (BitVec.ofNat 32 (2 ^ 31 + 7 * 256))).plEvt n 9
    else s.setPrt n { s.prt n with
      acc := some { write := bit v.toNat 30, addr := F.PL_REG_CMD.ADDR.get v, reg := F.PL_REG_CMD.REG.get v, data := F.PL_REG_CMD.DATA.get v, tries := 0 } }
  else s

/-- A write of PL_INJ (R191). -/
def State.plInj (s : State) (n : Nat) (v : W32) : State :=
  let s := s.plainWrite .PL_INJ n v
  let k := F.PL_INJ.KIND.get v
  let c := F.PL_INJ.COUNT.get v
  if bit v.toNat 31 ∧ (s.prt n).inj.isNone ∧ 1 ≤ k ∧ k ≤ 4 ∧ (k = 1 ∨ c > 0) then
    s.setPrt n { s.prt n with inj := some { kind := k, addr := F.PL_INJ.ADDR.get v, left := c, armed := false } }
  else s

/-! ### The tick edge at a port -/

/-- MODE of the tick marker (R157): SYNC and TEST by the port's state, RUN in every other. -/
def State.markerMode (s : State) (n : Nat) : Nat := if s.plState n = 1 then 1 else if s.plState n = 4 then 2 else 0

/-- The tick marker that port n sends at the edge (R128, R155, R157), on the way into SYNC counted down: none from a port that is off or fenced, or in part-internal loopback (R189), or of a package whose drivers are off. -/
def State.sendMarker (s : State) (n : Nat) : State :=
  let p := s.prt n
  let on := s.plSends n && s.plState n != 0 && !(s.plState n == 4 && s.gf .PL_CTL n F.PL_CTL.TEST == 1)
  let enum := match p.enum with
    | some e => (match e.step with
      | .sync k => some { e with step := .sync (if on then k - 1 else k) }
      | _ => some e)
    | none => none
  s.setPrt n { p with marker := if on then some (BitVec.ofNat 8 (s.markerMode n * 64 + s.tick.count % 64)) else none, enum := enum }

/-- A port may start an enumeration: not in a fence, not before the first tick, and not while it is disabled, which only REENABLE ends (R182, R186). -/
def State.canEnum (s : State) (n : Nat) : Bool :=
  !(s.fenced 6 n || s.plState n == 5 || !s.gb .TICK_STATUS 0 F.TICK_STATUS.RUNNING || s.tick.dark)

/-- What a tick edge does to a port: counts of R184, samples move to the previous tick, the per-tick marks clear, injections advance, the marker goes out. The tick in which BABBLE disabled the port still counts (R188). -/
def State.portEdge (s : State) (n : Nat) : State :=
  if s.plGen n = 0 then s
  else
    let p := s.prt n
    let st := s.plState n
    let wok := s.woken n
    let listening := (st == 2 || st == 3 || (st == 5 && p.quiet)) && !s.fenced 6 n
    let silent := (List.range 8).foldl (fun t a =>
      if bit wok a && bit (s.expects n) a && listening then tset t a (if bit p.seen a then 0 else tget 0 t a + 1) else tset t a 0) p.silent
    let nw := ((List.range 8).filter (fun a => bit wok a && !s.getB .PL_PHASE n (8 + a))).length
    let bus := if nw ≥ 2 ∧ !p.anyValid ∧ listening then p.busTicks + 1 else 0
    let inj := match p.inj with
      | some i =>
        if !i.armed then some { i with armed := true }
        else if i.kind = 1 then some i
        else if i.left ≤ 1 then none else some { i with left := i.left - 1 }
      | none => none
    let aux (s : State) (a : Nat) : State :=
      if s.gb .PL_AUX (n * 8 + a) F.PL_AUX.VALID && !s.fenced 6 n then s.inc .PL_AUX (n * 8 + a) F.PL_AUX.AGE 1 else s
    let s := forEach (List.range 8) aux s
    let s := s.setPrt n { p with
      silent := silent, busTicks := bus, inj := inj, anyValid := false, badSlot := false, seen := 0,
      quietPrev := p.quiet, quiet := false, mgmtSent := false, sent := [], shed := none, pwr := [],
      disShed := p.disShed || (st == 5 && wok != 0 && s.plSends n),
      expect := if p.await == .nobody && !p.mgmtSent then none else p.expect, startDue := false,
      prev := p.cur, cur := [] }
    let s := if p.startDue && s.canEnum n then s.enumFull n else s
    let s := s.sendMarker n
    if (s.prt n).injOn 4 ((match inj with | some i => i.addr | none => 0)) then s.quietViolation n else s

/-! ### Commands -/

/-- PL_FRAME_SEND (R164). -/
def execPlFrameSend (n : Fin 64) (t : Nat) (s : State) : Out := .next (s.plSend n t)

/-- PORT_SHED_MASK (R166): once a tick, unless the mask is 0 or the port is disabled, in SYNC or in a test mode. -/
def execPortShedMask (n : Fin 64) (s : State) : Out :=
  .next (if (s.plState n = 2 ∨ s.plState n = 3) ∧ s.plSends n ∧ s.shedMask n ≠ 0 then
    s.setPrt n { s.prt n with shed := some (s.shedMask n) } else s)

/-- UPSTREAM_SAMPLE_FRAME (R173). -/
def execUpstreamSampleFrame (n : Fin 64) (a : Fin 8) (rx : Upstream) (s : State) : Out := .next (s.rxSample n a rx)

/-- UPSTREAM_AUX_FRAME (R171). -/
def execUpstreamAuxFrame (n : Fin 64) (rx : Upstream) (s : State) : Out := .next (s.rxSlotA n rx)

/-- REGISTER_REPLY (R171). -/
def execRegisterReply (n : Fin 64) (rx : Upstream) (s : State) : Out := .next (s.rxSlotA n rx)

/-- REGISTER_REPLY_MISSING (R182). -/
def execRegisterReplyMissing (n : Fin 64) (s : State) : Out := .next (s.replyMissing n)

/-- ENUM_SYNC_DONE (R182). -/
def execEnumSyncDone (n : Fin 64) (s : State) : Out := .next (s.enumSynced n)

/-- STAGE_ABSENT (R184): three silent ticks of a woken, expected address. -/
def execStageAbsent (n : Fin 64) (a : Fin 8) (s : State) : Out :=
  .next (if tget 0 (s.prt n).silent a ≥ 3 ∧ bit (s.woken n) a ∧ !s.fenced 6 n ∧ !s.getB .PL_PHASE n (8 + a) then s.markAbsent n a else s)

/-- QUIET_WINDOW_VIOLATION (R185). -/
def execQuietWindowViolation (n : Fin 64) (s : State) : Out := .next (s.quietViolation n)

/-- BUSFAIL (R184): three ticks without a valid sample of two or more woken stages; after a BABBLE of the same tick it is recorded alone (R186, R188). -/
def execBusfail (n : Fin 64) (s : State) : Out :=
  .next (
    if (s.prt n).busTicks < 3 ∨ s.fenced 6 n then s
    else
      let s := if s.plState n = 5 then s.plEvt n 6 else s.plDisable n 2 6
      s.setPrt n { s.prt n with busTicks := 0 })

/-- EYE_DONE (R190). -/
def execEyeDone (n : Fin 64) (errors : Nat) (s : State) : Out :=
  .next (if (s.prt n).eye && !s.fenced 6 n then
    ((s.setPrt n { s.prt n with eye := false }).pf .PL_EYE_RES n F.PL_EYE_RES.ERRORS (min 65535 errors)).plEvt n 10 else s)

/-- PLAUSIBILITY_FAULT (R187, R259): four ticks in a row outside the band. -/
def execPlausibilityFault (r : Fin 64) (s : State) : Out :=
  .next (
    let x := s.rl r
    if x.st.live ∧ x.outRun ≥ 4 ∧ !x.plaus ∧ !s.copies then
      let s := (s.setRl r { x with plaus := true }).railEvt r 4
      if bit (u8 (s.weirD r) 1) 1 then s.railFault r 4 else s
    else s)

/-- PLAUS_CLEAR (R259): sixteen ticks in a row inside the band. -/
def execPlausClear (r : Fin 64) (s : State) : Out :=
  .next (if (s.rl r).inRun ≥ 16 then s.setRl r { s.rl r with plaus := false } else s)

end Sys2Proof.Machine
end

