-- ==== Sys2Proof/Machine/LoopEngine.lean ====
section
/-!
DEFINITION. Loop engines and loop clusters (R194 to R240): registers, the instruction set, faults, overrun, the handover record, the recorder, takeover by the spare.
-/
namespace Sys2Proof.Machine

/-! ### Who serves what -/

def leLocal (j : Nat) : Nat := 0x110000000000 + j * 0x10000
def lcShared (c : Nat) : Nat := 0x110001000000 + c * 0x80000

/-- The LE whose rail LE j serves: j itself, or the LE that a spare replaces. -/
def State.served (s : State) (j : Nat) : Nat := if j < 32 then j else (s.lcAt (j - 32)).spareFor.getD j
/-- Rail and gang position that LE j serves. -/
def State.leServes (s : State) (j : Nat) : Option (Nat × Nat) := s.leRail (s.served j)
/-- Positions that gang position g owns (R213). -/
def State.ownedPos (s : State) (r g : Nat) : List Nat := (List.range (s.phasesOf r).length).filter (fun i => i / 16 == g)
/-- The phase at a position. -/
def State.phaseAt (s : State) (r i : Nat) : Nat := (s.phasesOf r).getD i 0

/-! ### Registers (R200, R201) -/

def LoopEngine.kg (x : LoopEngine) (i : Nat) : W32 := tget 0 x.k i
def LoopEngine.ks (x : LoopEngine) (i : Nat) (v : W32) : LoopEngine := { x with k := tset x.k i v }
def LoopEngine.mg (x : LoopEngine) (i : Nat) : BitVec 72 := tget 0 x.m i
def LoopEngine.ms (x : LoopEngine) (i : Nat) (v : BitVec 72) : LoopEngine := { x with m := tset x.m i v }
def LoopEngine.pg (x : LoopEngine) (i : Nat) : BitVec 20 := tget 0 x.p i
def LoopEngine.ps (x : LoopEngine) (i : Nat) (v : BitVec 20) : LoopEngine := { x with p := tset x.p i v }
/-- Set a sticky flag of LS. -/
def LoopEngine.flag (x : LoopEngine) (b : Nat) : LoopEngine := { x with ls := x.ls ||| BitVec.ofNat 5 (2 ^ b) }
def loopStart (v : W32) : Nat := v.toNat % 2048
def loopEnd (v : W32) : Nat := v.toNat / 65536 % 2048
/-- A word index as the PC holds it. -/
abbrev pcOf (n : Nat) : BitVec 11 := BitVec.ofNat 11 n
/-- The PC is at the end word of an active loop. -/
def LoopEngine.atEnd (x : LoopEngine) : Bool :=
  (x.lc0 != 0 && x.pc.toNat == loopEnd x.le0) || (x.lc1 != 0 && x.pc.toNat == loopEnd x.le1)

/-! ### Completion of an instruction (R195, R223, R224) -/

/-- The test of R223 at the present PC; past word 2,047 the 11 bits of the PC hold 0 (log entry 65). -/
def LoopEngine.fall (x : LoopEngine) : LoopEngine :=
  let hit1 := x.lc1 != 0 && x.pc.toNat == loopEnd x.le1
  if hit1 && x.lc1 != 1 then { x with lc1 := x.lc1 - 1, pc := pcOf (loopStart x.le1) }
  else
    let x := if hit1 then { x with lc1 := 0 } else x
    let hit0 := x.lc0 != 0 && x.pc.toNat == loopEnd x.le0
    if hit0 && x.lc0 != 1 then { x with lc0 := x.lc0 - 1, pc := pcOf (loopStart x.le0) }
    else
      let x := if hit0 then { x with lc0 := 0 } else x
      { x with pc := x.pc + 1 }

/-- A taken transfer to t ends each active loop whose span excludes t. -/
def LoopEngine.go1 (x : LoopEngine) (t : Nat) : LoopEngine :=
  let out (lc le : W32) : W32 := if loopStart le ≤ t ∧ t ≤ loopEnd le then lc else 0
  { x with lc0 := out x.lc0 x.le0, lc1 := out x.lc1 x.le1, pc := pcOf t }

/-- What an instruction does: a fault that writes nothing, or a state in which LE j may have moved. -/
inductive LeRes where
  | fault (cause : Nat)
  /-- completed in 1 cycle: the loop test and the next PC follow -/
  | next (s : State)
  /-- a taken transfer, 2 cycles -/
  | jump (s : State) (t : Nat)
  /-- completed with its own PC and cycles -/
  | own (s : State)
deriving DecidableEq, Repr

abbrev cILLEGAL : Nat := 1
abbrev cBOUND : Nat := 2
abbrev cOVERFLOW : Nat := 3
abbrev cOVERRUN : Nat := 4
abbrev cECC : Nat := 5

/-- LC_LE_FAULT and its neighbours record the first fault while VALID = 0 (R225, R230). -/
def State.leRecordFault (s : State) (j cause : Nat) : State :=
  let i := leIdx j
  let x := s.leAt j
  if s.gb .LC_LE_FAULT i F.LC_LE_FAULT.VALID then s
  else
    let s := s.wr .LC_LE_FAULT i (BitVec.ofNat 32 (2 ^ 31 + cause * 65536 + x.pc.toNat))
    let s := (s.wr .LC_LE_FAULT_LC0 i x.lc0).wr .LC_LE_FAULT_LC1 i x.lc1
    (s.wr .LC_LE_FAULT_TICK_LO i (BitVec.ofNat 32 s.tick.count)).wr .LC_LE_FAULT_TICK_HI i (BitVec.ofNat 32 (s.tick.count / 2 ^ 32))

/-- R229: a fault stops the LE for the rest of the tick. -/
def State.leFault (s : State) (j cause : Nat) : State :=
  let c := lcOf j
  let x := s.leAt j
  let serves := (s.leServes j).isSome
  let s := s.leRecordFault j cause
  let s := s.inc .LC_LE_FAULT_CNT (leIdx j) F.LC_LE_FAULT_CNT.COUNT 1
  let s := s.setLe j { x with st := if cause = cECC then .fenced else .stopped, cause := some cause,
                              cmd := x.cmd.filter (fun e => e.2.released), wait := none, sh := none }
  let s := if cause = cECC then s.setUnit 1 j { s.unitAt 1 j with fenced := true } else s
  let s := if cause = cECC ∧ serves then { s with cmp := { s.cmp with yield := true } } else s
  ((s.lcEvt c 0).raise (128 + j)).raise (164 + c)

/-- A corrected single-bit error (R198). -/
def State.leEcc1 (s : State) (j : Nat) : State :=
  (s.setLe j ((s.leAt j).flag 3)).inc .LC_LE_STATUS (leIdx j) F.LC_LE_STATUS.ECC1 1

/-- LE j executes in the present cycle: it runs, it is not at the deadline. -/
def State.leRuns (s : State) (j : Nat) : Bool := (s.leAt j).st == .run && decide ((s.leAt j).cyc + 30 < s.tlen)

/-- The word at the PC is one that the copy into the loop buffer marked (R198). -/
def LoopEngine.marked (x : LoopEngine) : Bool := x.lbuf.isSome && bit x.lbad x.pc.toNat

/-- One instruction of LE j: `f` is what ECC finds in the fetched word, `resv` the bits shown as 0, `xfer` a branch, jump or LOOP. -/
def State.leExec (s : State) (j : Nat) (w : BitVec 26) (f : Ecc) (resv : Nat) (xfer : Bool)
    (op : State → LoopEngine → Nat → LeRes) : State :=
  if !s.leRuns j then s
  else if f = .two ∨ (s.leAt j).marked = true then s.leFault j cECC
  else
    let s := if f = .one then s.leEcc1 j else s
    let x := s.leAt j
    if w.toNat &&& resv ≠ 0 ∨ (xfer ∧ x.atEnd) then s.leFault j cILLEGAL
    else
      match op s x w.toNat with
      | .fault c => s.leFault j c
      | .next s => s.setLe j { (s.leAt j).fall with cyc := (s.leAt j).cyc + 1 }
      | .jump s t => s.setLe j { (s.leAt j).go1 t with cyc := (s.leAt j).cyc + 2 }
      | .own s => s

/-! ### Fields of a word (R215) -/

def wD (w : Nat) : Nat := w / 2 ^ 22 % 16
def wA (w : Nat) : Nat := w / 2 ^ 18 % 16
def wB (w : Nat) : Nat := w / 2 ^ 14 % 16
def wSh (w : Nat) : Nat := w / 2 ^ 9 % 32
def wImm (w : Nat) : Int := sgn 18 (w % 2 ^ 18)
def wM (w : Nat) : Nat := w / 2 ^ 24 % 4
def wMb (w : Nat) : Nat := w / 2 ^ 22 % 4
def wP (w : Nat) : Nat := w / 2 ^ 19 % 8
def wP2 (w : Nat) : Nat := w / 2 ^ 23 % 8

/-- rnd(x, s) of R216. -/
def rndShift (x : Int) (n : Nat) : Int := if n = 0 then x else (x + (2 ^ (n - 1) : Nat)) / (2 ^ n : Nat)

/-- A value into an `n`-bit signed destination under R217: the stored number and whether it saturated. -/
def ovfTo (n : Nat) (sat : Bool) (v : Int) : Option (Int × Bool) :=
  let hi : Int := (2 ^ (n - 1) : Nat) - 1
  let lo : Int := -(2 ^ (n - 1) : Nat)
  if lo ≤ v ∧ v ≤ hi then some (v, false)
  else if sat then some (if v > hi then hi else lo, true) else none

/-- k[d] = v under R217. -/
def setKOvf (j d : Nat) (v : LoopEngine → Int) (s : State) (x : LoopEngine) : LeRes :=
  match ovfTo 32 x.sat (v x) with
  | none => .fault cOVERFLOW
  | some (r, st) => .next (s.setLe j ((if st then x.flag 0 else x).ks d (BitVec.ofInt 32 r)))

/-- m[d] = v under R217. -/
def setMOvf (j d : Nat) (v : LoopEngine → Int) (s : State) (x : LoopEngine) : LeRes :=
  match ovfTo 72 x.sat (v x) with
  | none => .fault cOVERFLOW
  | some (r, st) => .next (s.setLe j ((if st then x.flag 0 else x).ms d (BitVec.ofInt 72 r)))

/-- k[d] = v. -/
def setK (j d : Nat) (v : W32) (s : State) (x : LoopEngine) : LeRes := .next (s.setLe j (x.ks d v))

abbrev LoopEngine.a (x : LoopEngine) (w : Nat) : W32 := x.kg (wA w)
abbrev LoopEngine.b (x : LoopEngine) (w : Nat) : W32 := x.kg (wB w)

/-! ### Loads and stores (R196, R198, R203) -/

/-- Where a data address lies: local physical address, or offset in shared memory. -/
inductive LeMem where
  | loc (pa : Nat)
  | shared (off : Nat)
  | bad
deriving DecidableEq, Repr

/-- The memory at an LE address, for an access of `n` bytes. -/
def State.leMem (s : State) (j a n : Nat) (store : Bool) : LeMem :=
  if a % n ≠ 0 then .bad
  else if 0x4000 ≤ a ∧ a < 0x10000 then .loc (leLocal (s.served j) + a)
  else if a < 0x80000 then .bad
  else
    let off := a - 0x80000
    let win := s.rd .LC_LE_SHWIN (leIdx (s.served j))
    let base := F.LC_LE_SHWIN.BASE.get win * 4096
    if store ∧ ¬ (base ≤ off ∧ off + n ≤ base + F.LC_LE_SHWIN.LEN.get win * 4096) then .bad else .shared off

/-- Physical address of an offset in the cluster-shared memory of LE j. -/
def sharedPa (j off : Nat) : Nat := lcShared (lcOf j) + off

/-- A load or store at LE address a; `post` is the pointer step of LDP and STP. -/
def leAccess (j d a : Nat) (store half : Bool) (post : Option (Nat × Nat)) (e : Ecc) (s : State) (x : LoopEngine) : LeRes :=
  let n := if half then 2 else 4
  let stepP (x : LoopEngine) : LoopEngine := match post with
    | some (p, i) => x.ps p (x.pg p + BitVec.ofNat 20 i)
    | none => x
  match s.leMem j a n store with
  | .bad => .fault cBOUND
  | .shared off => .own (s.setLe j { x with st := .wait, sh := some { store := store, half := half, d := d, addr := sharedPa j off, data := x.kg d, post := post } })
  | .loc pa =>
    -- a word store reads nothing, every other access reads the word through ECC
    if e = .two ∧ ¬ (store ∧ !half) then .fault cECC
    else
      let s := if e = .one ∧ ¬ (store ∧ !half) then s.leEcc1 j else s
      let x := s.leAt j
      if store then .next ((s.mput pa (leBytes n (x.kg d).toNat)).setLe j (stepP x))
      else .next (s.setLe j (stepP (x.ks d (BitVec.ofInt 32 (sgn (8 * n) (s.mnum pa n))))))

/-- The access's address: p + imm modulo 2^20. -/
def wAddr (x : LoopEngine) (w : Nat) : Nat := (x.pg (wP w) + BitVec.ofInt 20 (wImm w)).toNat

/-! ### Releasing commands: the weir and the port (R163, R210, R244, R261) -/

/-- One released command of the phase at position i of rail r. -/
def State.relCmd (s : State) (r i : Nat) (e : CmdEnt) : State :=
  if !(s.rl r).st.live then s
  else
    let p := s.phaseAt r i
    let n := p / 8
    let a := p % 8
    let (s, w) :=
      if e.ty = 0 then
        let (s, v) := s.weirDrive r i p e.value
        (s, mkFrame (if s.stKind n = 1 then 2 else 1) a v e.en)
      else if e.ty = 1 then (s, mkFrame 3 a 0 false)
      else (s, mkFrame 4 a 0 (bit (s.prt n).en a))
    let s := s.setRl r { s.rl r with mine := tset (s.rl r).mine i w }
    if s.plSends n && s.phAvail p then s.setPrt n { s.prt n with pwr := tset (s.prt n).pwr a w } else s

/-- COMMIT: release every entry not yet released, in position order. -/
def State.leCommit (s : State) (j : Nat) : State :=
  let x := s.leAt j
  let s := s.setLe j { x with cmd := x.cmd.map (fun e => (e.1, { e.2 with released := true })) }
  match s.leServes j with
  | some (r, _) => forEach (x.cmd.filter (fun e => !e.2.released)) (fun s e => s.relCmd r e.1 e.2) s
  | none => s

/-! ### The handover record, publications and the recorder (R205, R211, R227, R236, R309) -/

/-- The 24 bytes of a handover record of rail r from gang position g. -/
def State.mkRecord (s : State) (r g : Nat) (spare : Bool) (carried : Bytes) : Bytes :=
  let x := s.rl r
  let b (v : Bool) (k : Nat) : Nat := if v then 2 ^ k else 0
  let h : List Nat := [r + b (decide (g ≠ 0)) 6 + b spare 7, x.st.code + b x.pg 4 + b (x.tocClamp > 0) 5 + b x.plaus 6,
    x.s % 256, x.s / 256 % 64, s.tick.count % 256, s.tick.count / 256 % 256, x.nrec % 128]
  h.map (BitVec.ofNat 8) ++ [BitVec.ofNat 8 (crc8 (h ++ carried.map (·.toNat)))] ++ carried

/-- The record of a member that reached END: from position 0, or the lowest position that did. -/
def State.takeRecord (s : State) (j : Nat) : State :=
  match s.leServes j with
  | none => s
  | some (r, g) =>
    let x := s.rl r
    let kept := match x.hrec with
      | some (_, t) => t == s.tick.count && decide (x.recPos < g)
      | none => false
    if kept then s
    else
      let car := s.mread (leLocal (s.served j) + 0xFFE8) 16
      s.setRl r { x with hrec := some (s.mkRecord r g (j ≥ 32) car, s.tick.count), recPos := g }

/-- Deliver the rail's newest record into HREC of the memory that LE j uses, and set HAGE to its age by the formula of R309 (R201, R205). DESIGN CHOICE: so a takeover at the edge of tick 2,000,001 gives the record of tick 1,999,999 the age 2, where the worked example of R145 says 1 (log entry 211). -/
def State.deliverRec (s : State) (j r : Nat) : State :=
  match (s.rl r).hrec with
  | some (b, t) =>
    (s.mput (leLocal (s.served j) + 0xFFE0) b).setLe j { s.leAt j with hage := BitVec.ofNat 32 ((s.tick.count - t) % 65536) }
  | none => s.setLe j { s.leAt j with hage := 0xFFFFFFFF }

/-- The publications written in the tick reach the ledger's latch as those of the served LE. -/
def State.latchPubs (s : State) (j : Nat) : State :=
  let k := s.served j
  { s with ldg := { s.ldg with pub := (s.leAt j).pubs.foldl (fun t e => tset t (k * 16 + e.1) (s.tick.count, e.2)) s.ldg.pub } }

/-- The status byte of R236, offset 6. -/
def State.leStatus (s : State) (j : Nat) : Nat :=
  let x := s.leAt j
  let b (v : Bool) (k : Nat) : Nat := if v then 2 ^ k else 0
  b (x.st == .ended) 0 + b x.overrun 1 + b x.cause.isSome 2 + b (decide (j ≥ 32)) 3 + (if x.overrun then cOVERRUN else x.cause.getD 0) * 16

/-- The 64-byte snapshot record (R236). -/
def State.snapRecord (s : State) (j r g : Nat) : Bytes :=
  let x := s.leAt j
  let own := s.ownedPos r g
  let m (f : Nat → Bool) : Nat := (own.filter f).foldl (fun v i => v + 2 ^ (i % 16)) 0
  let ent (i : Nat) : Option CmdEnt := match tget? x.cmd i with
    | some e => if e.released then some e else none
    | none => none
  let has (f : CmdEnt → Bool) (i : Nat) : Bool := match ent i with
    | some e => f e
    | none => false
  let sum : Int := own.foldl (fun acc i =>
    let y := tget { valid := false, cur := 0, flags := 0 } (s.prt (s.phaseAt r i / 8)).prev (s.phaseAt r i % 8)
    if y.valid then acc + y.cur else acc) 0
  leBytes 4 s.tick.count ++ leBytes 2 (s.rl r).code ++ leBytes 1 (s.leStatus j) ++ leBytes 1 (s.served j) ++
  leBytes 2 (x.commitCyc.getD 0xFFFF) ++ leBytes 2 (x.endCyc.getD 0xFFFF) ++ leBytes 4 (BitVec.ofInt 32 sum).toNat ++
  leBytes 2 (m (fun i => s.phLatched (s.phaseAt r i))) ++ leBytes 2 (m (has (fun _ => true))) ++ leBytes 4 (x.firstNotice.getD 0).toNat ++
  leBytes 2 (m (has (·.en))) ++ leBytes 2 (m (has (fun e => e.ty == 1))) ++ leBytes 2 (m (has (fun e => e.ty == 2))) ++ leBytes 2 x.ls.toNat ++
  (List.range 16).flatMap (fun k => match ent (16 * g + k) with
    | some e => leBytes 2 e.value
    | none => leBytes 2 0)

/-- Write the record of this tick into the LE's ring, and freeze the ring after a fault or an overrun (R237). -/
def State.snapshot (s : State) (j : Nat) : State :=
  let c := lcOf j
  let sl := slotOf j
  match s.leServes j with
  | none => s
  | some (r, g) =>
    if !s.gb .LC_REC_CTL c F.LC_REC_CTL.EN || s.getB .LC_REC_CTL c (8 + sl) || bit (s.lcAt c).resume sl then s
    else
      let s := s.mput (lcShared c + 0x5C000 + sl * 0x4000 + s.tick.count % 256 * 64) (s.snapRecord j r g)
      if s.gb .LC_REC_CTL c F.LC_REC_CTL.FREEZE && ((s.leAt j).overrun || (s.leAt j).cause.isSome) then (s.setB .LC_REC_CTL c (8 + sl)).lcEvt c 3 else s

/-- R143: the LE has not executed END by the deadline. -/
def State.leOverrun (s : State) (j : Nat) : State :=
  let c := lcOf j
  let x := s.leAt j
  -- a store to shared memory that was issued lands in full
  let s := match x.sh with
    | some y => if y.store then s.mput y.addr (leBytes (if y.half then 2 else 4) y.data.toNat) else s
    | none => s
  let s := s.leRecordFault j cOVERRUN
  let s := s.setLe j { x with st := .stopped, overrun := true, wait := none, sh := none, cmd := x.cmd.filter (fun e => e.2.released) }
  let s := if j < 32 then s.setB .TICK_OVR_MASK_LO 0 j else s.setB .TICK_OVR_MASK_HI 0 (j - 32)
  let s := s.wr .TICK_OVR_LE 0 (BitVec.ofNat 32 (64 + j))
  let s := (s.wr .TICK_OVR_TICK_LO 0 (BitVec.ofNat 32 s.tick.count)).wr .TICK_OVR_TICK_HI 0 (BitVec.ofNat 32 (s.tick.count / 2 ^ 32))
  ((s.inc .TICK_OVR_CNT 0 F.TICK_OVR_CNT.COUNT 1).raise (128 + j)).raise (168 + c)

/-- OVERRUN_DEADLINE (R143, R150, R211): at t = T_tick − 25 ns, ascending LE numbers. -/
def execOverrunDeadline (s : State) : Out :=
  .next (forEach (List.range 36) (fun s j =>
    let x := s.leAt j
    if !x.started then s
    else if x.st = .run ∨ x.st = .wait then (s.leOverrun j).snapshot j
    else if x.cause.isSome then s.snapshot j
    else s) s)

/-! ### Starting, stopping and takeover at a tick edge (R202, R207, R231 to R235, R240) -/

/-- The words of the loop buffer for LE j's bank, when the code is short enough (R197). -/
def State.bufferOf (s : State) (j bank : Nat) : Option (List W32) :=
  let n := tget 0 (s.leAt j).codeLen bank
  if 1 ≤ n ∧ n ≤ 64 then some ((List.range 64).map (fun i => BitVec.ofNat 32 (s.mnum (leLocal j + bank * 0x2000 + 4 * i) 4))) else none

/-- LE j's loop buffer is filled from a bank of LE k, through the bank's ECC: a corrected word is counted, a word with a double-bit error marked (R197, R198). -/
def State.copyCode (s : State) (j k bank : Nat) : State :=
  match s.bufferOf k bank with
  | none => s.setLe j { s.leAt j with lbuf := none, lbad := 0 }
  | some ws =>
    let hits := s.copyEcc.filter (fun e => e.1.val == k)
    let bad := hits.foldl (fun m e => if e.2.2 = .two then setBit m e.2.1 true else m) 0
    (s.setLe j { s.leAt j with lbuf := some ws, lbad := bad }).inc .LC_LE_STATUS (leIdx j) F.LC_LE_STATUS.ECC1 (hits.filter (fun e => e.2.2 == .one)).length

/-- Make a bank of LE j active. -/
def State.useBank (s : State) (j bank : Nat) : State := (s.setLe j { s.leAt j with bank := bank }).copyCode j j bank

/-- MODE of LE j as the LOOP entry of its active bank gives it (R200). -/
def State.bootMode (s : State) (j : Nat) : State :=
  let x := s.leAt j
  s.setLe j { x with sat := decide (j < 32) && bit (tget 0 x.initMode x.bank) 0 }

/-- A reset of an LE (R199, R200). -/
def State.leReset (s : State) (j : Nat) : State :=
  let x := s.leAt j
  let k := s.served j
  let s := (s.setLe j { LoopEngine.init with
    codeLen := x.codeLen, initMode := x.initMode, bank := x.bank, badRun := x.badRun, st := if x.st = .run ∨ x.st = .wait then .stopped else x.st }).bootMode j
  if j < 32 ∨ k ≠ j then s.copyCode j k x.bank else s

/-- LE j is out of service: its unit, or its region. -/
def State.leOut (s : State) (j : Nat) : Bool := s.isOut 1 j || !s.inService (lcOf j)
/-- The tick sequencer of cluster c starts no LE: it or the whole cluster is fenced, or it is out of service (R12, R27). -/
def State.seqStopped (s : State) (c : Nat) : Bool := (s.lcAt c).fenced || s.fenced 2 c || s.isOut 2 c
def State.leFenced (s : State) (j : Nat) : Bool := s.fenced 1 j || s.seqStopped (lcOf j)

/-- RESET, FENCE and UNFENCE of LC_LE_CTL, in that order; a fence of an LE of a rail whose spare serves another LE is a yield cause (R240, R315). -/
def State.leUnits (s : State) (j : Nat) : State :=
  let x := s.leAt j
  let (rst, fnc, unf) := x.pend
  let s := s.setLe j { x with pend := (false, false, false) }
  -- RESET of an LE that is out of service powers it and leaves it fenced (R525)
  let u := s.unitAt 1 j
  let s := if rst then (let s := s.leReset j; if u.out then s.setUnit 1 j { u with out := false, fenced := true } else s) else s
  let s :=
    if fnc then
      let s := s.setUnit 1 j { s.unitAt 1 j with fenced := true }
      match s.leServes j, (s.lcAt (lcOf j)).spareFor with
      | some _, some k => if k ≠ j then { s with cmp := { s.cmp with yieldNext := true } } else s
      | _, _ => s
    else s
  if unf && !s.isOut 1 j then s.setUnit 1 j { s.unitAt 1 j with fenced := false } else s

/-- LE j faulted or overran in the tick that ends. -/
def State.leBad (s : State) (j : Nat) : Bool :=
  let x := s.leAt j
  x.started && (x.overrun || x.cause.isSome)

/-- R231, judged before the unit actions of the same edge: the rail of LE j calls for the spare; a fence that takes effect at the edge counts, and in debug step mode it alone does (R564). -/
def State.wantsSpare (s : State) (j : Nat) : Bool :=
  let x := s.leAt j
  match s.leRail j with
  | none => false
  | some (r, _) => s.takeoverOf r && x.cause != some cECC && ((x.pend.2.1 && !x.pend.2.2) || (s.leBad j && !s.leStepMode j))

/-- The spare of cluster c is free and able to serve. -/
def State.spareFree (s : State) (c : Nat) : Bool :=
  (s.lcAt c).spareFor.isNone && !s.leFenced (32 + c) && !s.leOut (32 + c)

/-- The spare of the cluster takes over LE j (R233). -/
def State.takeOver (s : State) (j : Nat) : State :=
  let c := lcOf j
  let x := s.leAt j
  let y := s.leAt (32 + c)
  let s := s.setLc c { s.lcAt c with spareFor := some j }
  let s := s.setLe j { x with st := .replaced, nq := [], faultTaken := x.cause.isSome, badRun := 0 }
  let s := s.setLe (32 + c) { y with k := [], m := [], p := [], sat := bit (tget 0 x.initMode x.bank) 0, bank := x.bank,
                                      nq := x.nq, set := none }
  let s := s.copyCode (32 + c) j x.bank
  let s := s.wr .LC_STATUS c (BitVec.ofNat 32 (F.LC_STATUS.RELREF.get (s.rd .LC_STATUS c) * 512 + 256 + slotOf j))
  let s := match s.leRail j with
    | some (r, _) => s.deliverRec (32 + c) r
    | none => s
  s.lcEvt c 1

/-- The spare of cluster c is free again; the LE that it served starts with the spare's newest record (R235). -/
def State.spareBack (s : State) (c : Nat) : State :=
  match (s.lcAt c).spareFor with
  | none => s
  | some j =>
    let y := s.leAt (32 + c)
    let s := s.setLc c { s.lcAt c with spareFor := none }
    let s := s.setLe (32 + c) { y with st := .idle, nq := [], lbuf := none, set := none }
    let s := s.setLe j { s.leAt j with st := .ended, nq := y.nq, set := none, cause := none, overrun := false }
    let s := s.pf .LC_STATUS c F.LC_STATUS.SPARE_BUSY 0
    let s := match s.leRail j with
      | some (r, _) => s.deliverRec j r
      | none => s
    s.lcEvt c 2

/-- Start LE j at cycle 0 of the tick (R202, R207). With HALT_FAULT in step mode it goes on where it stopped (R565). -/
def State.leStart (s : State) (j : Nat) : State :=
  let x := s.leAt j
  let again := s.leStepMode j && s.gb .DBG_LE_CTL j F.DBG_LE_CTL.HALT_FAULT && (x.overrun || x.cause.isSome)
  let x := if again then x else { x with pc := 0#11, lc0 := 0, lc1 := 0 }
  s.setLe j { x with cmd := [], cyc := 0, st := .run, wait := none, sh := none, setNow := false, pubs := [], commitCyc := none, endCyc := none,
                     firstNotice := none, cause := none, overrun := false, started := true, go := false }

/-- LE j is started at this edge. -/
def State.leStarts (s : State) (j : Nat) : Bool :=
  (s.leServes j).isSome && !s.leOut j && !s.leFenced j && s.server (s.served j) == j && (!s.leStepMode j || (s.leAt j).go)

/-- What an LE that is not started shows and keeps. -/
def State.leRest (s : State) (j : Nat) : State :=
  let x := s.leAt j
  let st : LeSt :=
    if s.leOut j then .out
    else if s.leFenced j then .fenced
    else if s.server j ≠ j then .replaced
    else if (s.leServes j).isNone then .idle
    else if x.st = .out ∨ x.st = .fenced ∨ x.st = .replaced then .stopped
    else x.st
  s.setLe j { x with st := st, started := false, setNow := false, pubs := [] }

/-- HAGE is 0 in a tick in which no delivery is due (R201). -/
def State.clearAge (s : State) : State := { s with le := s.le.map (fun e => (e.1, { e.2 with hage := 0 })) }

/-- The edge of the tick at loop cluster c, before the LEs start: unit actions, RELEASE, takeover (R231, R235, R240). -/
def State.lcEdge (s : State) (c : Nat) : State :=
  let js := (List.range 8).map (fun i => 8 * c + i)
  let want := js.filter s.wantsSpare
  let bad := js.filter s.leBad
  let s := forEach (js ++ [32 + c]) State.leUnits s
  let l := s.lcAt c
  let s := if l.releaseOk then (s.setLc c { l with releaseOk := false, resume := 0 }).spareBack c else s.setLc c { l with resume := 0 }
  let s := match want.filter (fun j => s.server j == j) with
    | j :: _ => if s.spareFree c && !s.seqStopped c then s.takeOver j else s
    | [] => s
  -- ticks in a row that ended badly without takeover (R315, cause 4)
  forEach js (fun s j =>
    let x := s.leAt j
    let n := if bad.contains j && (s.leServes j).isSome && s.server j == j then x.badRun + 1 else 0
    let s := s.setLe j { x with badRun := n }
    if n ≥ 2 then { s with cmp := { s.cmp with yield := true } } else s) s

/-- Start the LEs of the cluster. -/
def State.lcStart (s : State) (c : Nat) : State :=
  forEach ((List.range 8).map (fun i => 8 * c + i) ++ [32 + c]) (fun s j => if s.leStarts j then s.leStart j else s.leRest j) s

/-- RELEASE at a commit point (R235). -/
def State.releaseCheck (s : State) (c : Nat) (amending : Bool) : State :=
  let l := s.lcAt c
  if !l.release then s
  else
    let s := s.setLc c { l with release := false }
    let ok := match l.spareFor with
      | some j => !(s.leFenced j || s.leOut j || (s.leAt j).faultTaken || amending)
      | none => false
    if ok then (s.setLc c { s.lcAt c with releaseOk := true }).pf .LC_STATUS c F.LC_STATUS.RELREF 0 else s.pf .LC_STATUS c F.LC_STATUS.RELREF 1

/-! ### The sample set (R208, R209) -/

def noSamp : Samp := { valid := false, cur := 0, flags := 0 }

/-- A sample of phase p in a port's table; without a valid one the last valid current. -/
def State.sampOf (s : State) (t : Tab Samp) (p : Nat) : Samp :=
  let y := tget noSamp t (p % 8)
  if y.valid then y else { valid := false, cur := tget 0 (s.prt (p / 8)).last (p % 8), flags := 0 }

/-- The sample set of rail r. -/
def State.mkSet (s : State) (r : Nat) : SampleSet :=
  let ps := s.phasesOf r
  { rs := (s.rl r).code
    curp := (List.range ps.length).map (fun i => (i, s.sampOf (s.prt (s.phaseAt r i / 8)).prev (s.phaseAt r i)))
    avail := (List.range ps.length).foldl (fun m i => if s.phLatched (s.phaseAt r i) then m + 2 ^ i else m) 0
    state := s.railWord r }

/-- SAMPLE_SET_DELIVERY (R208): cycle 72 of the tick; none in a dark tick (R522). -/
def execSampleSetDelivery (s : State) : Out :=
  .next (if s.tick.dark then s else forEach (List.range 36) (fun s j =>
    match s.leServes j with
    | some (r, _) => if s.server (s.served j) = j ∧ !s.seqStopped (lcOf j) then s.setLe j { s.leAt j with set := some (s.mkSet r), setNow := true } else s
    | none => s) s)

/-- The cycle from which CUR is met (R209). -/
def State.curCycle (s : State) (r : Nat) : Nat :=
  let ps := s.phasesOf r
  let amax (g : Nat) : Option Nat := ps.foldl (fun m p => if s.plGen (p / 8) = g then some (max (m.getD 0) (p % 8)) else m) none
  let all := ps.foldl (fun m p => max m (p % 8)) 0
  let t2 := match amax 2 with
    | some _ => 111 + 40 * all
    | none => 0
  let t1 := match amax 1 with
    | some _ => 339 + 160 * all
    | none => 0
  (max t1 t2 * 6 + 4) / 5

/-- The conditions of WAITS met in cycle `cyc`. -/
def State.waitMet (s : State) (j cyc : Nat) : Nat :=
  let cur := match s.leServes j with
    | some (r, _) => decide (s.curCycle r ≤ cyc)
    | none => false
  (if cyc ≥ 72 then 1 else 0) + (if cur then 2 else 0) + (if (s.leAt j).nq.length > 0 then 4 else 0)

/-- The wait ends in cycle `cyc`: every selected condition is met, or the bound is reached. -/
def waitEnds (met mask : Nat) (bound : Option W32) (cyc : Nat) : Bool :=
  met &&& mask == mask || (match bound with
    | some b => decide (b.toNat ≤ cyc)
    | none => false)

/-- The wait had surely ended by cycle `cyc`; a notice counts once the 30 ns of R253 have passed since it arrived. -/
def State.endedBy (s : State) (j mask : Nat) (bound : Option W32) (cyc : Nat) : Bool :=
  let queued := (s.leAt j).nq.any (fun n => decide (n.tick < s.tick.count) || decide (6 * (n.ns + 30) ≤ 5 * cyc))
  let met := s.waitMet j cyc
  waitEnds (if queued then met else met % 4) mask bound cyc

/-- RDS (R220). -/
def State.rds (s : State) (j r cls idx : Nat) : Option W32 :=
  let x := s.leAt j
  let n := (s.phasesOf r).length
  let set : SampleSet := x.set.getD { rs := 0, curp := [], avail := 0, state := 0 }
  let cp (i : Nat) : Samp := tget noSamp set.curp i
  let now (i : Nat) : Option Samp :=
    let y := tget noSamp (s.prt (s.phaseAt r i / 8)).cur (s.phaseAt r i % 8)
    if x.setNow && y.valid then some y else none
  let msk (hi : Nat) (f : Nat → Bool) : W32 := BitVec.ofNat 32 (((List.range 32).filter (fun k => decide (32 * hi + k < n) && f (32 * hi + k))).foldl (fun v k => v + 2 ^ k) 0)
  let I (v : Int) : W32 := BitVec.ofInt 32 v
  match cls with
  | 0 => if idx ≠ 0 then none else some (BitVec.ofNat 32 set.rs)
  | 1 => if idx ≥ n then none else some (I (cp idx).cur)
  | 2 => if idx ≥ n then none else some (I ((now idx).getD (cp idx)).cur)
  | 3 =>
    if idx > 5 then none
    else if idx < 2 then some (msk idx (fun i => bit set.avail i))
    else if idx < 4 || !x.setNow then some (msk (idx % 2) (fun i => (cp i).valid))
    else some (msk (idx - 4) (fun i => (now i).isSome))
  | 4 => if idx ≥ n then none else some (BitVec.ofNat 32 (if (cp idx).valid then (cp idx).flags else 0))
  | 5 => if idx > 15 then none else some (BitVec.ofNat 32 (s.gf .ADC_AUX idx F.ADC_AUX.CODE))
  | _ =>
    match idx with
    | 0 => some (BitVec.ofNat 32 (s.rl r).s)
    | 1 => some set.state
    | 2 => some (BitVec.ofNat 32 (match s.leServes j with
      | some (_, g) => (s.ownedPos r g).length
      | none => 0))
    | 3 => some (BitVec.ofNat 32 n)
    | _ => none

/-- RSR's value of a special register (R201). -/
def State.leSr (s : State) (j : Nat) (x : LoopEngine) (n : Nat) : Option W32 :=
  let N (v : Nat) : W32 := BitVec.ofNat 32 v
  match n with
  | 0 => some (N x.cyc)
  | 1 => some (N s.tick.count)
  | 2 => some (N (s.tick.count / 2 ^ 32))
  | 3 =>
    let (g, sz) := match s.leServes j with
      | some (r, g) => (g, railGang (s.railD r) - 1)
      | none => (0, 0)
    some (N (j + s.served j * 256 + g * 2 ^ 16 + sz * 2 ^ 18))
  | 4 => match s.leServes j with
    | some (r, _) => some (N (2 ^ 31 + r))
    | none => some 0
  | 5 => some x.hage
  | 6 => some (if x.sat then 1 else 0)
  | 7 => some (x.ls.setWidth 32)
  | 8 => some x.lc0
  | 9 => some x.lc1
  | 10 => some x.le0
  | 11 => some x.le1
  | 12 => some (N x.nq.length)
  | 13 => some (N (x.bank + (if x.lbuf.isSome then 2 else 0)))
  | 14 => some (N s.tlen)
  | _ => none

/-- WSR (R201): numbers 6 to 11 only. -/
def LoopEngine.wsr (x : LoopEngine) (n : Nat) (v : W32) : Option LoopEngine :=
  match n with
  | 6 => some { x with sat := bit v.toNat 0 }
  | 7 => some { x with ls := v.setWidth 5 }
  | 8 => some { x with lc0 := v }
  | 9 => some { x with lc1 := v }
  | 10 => some { x with le0 := v &&& 0x07FF07FF }
  | 11 => some { x with le1 := v &&& 0x07FF07FF }
  | _ => none

/-- RDN's value of a notice: step and the lead that remains (R221, R253). -/
def State.noticeWord (s : State) (n : Notice) (cyc : Nat) : W32 :=
  let el : Int := 6 * ((s.tick.count - n.tick : Nat) * s.tTick : Nat) + 5 * (cyc : Int) - 6 * (n.ns : Int)
  let rem : Int := max 0 (min 65535 ((6 * (n.lead : Int) - el) / 6))
  BitVec.ofInt 32 (n.step * 65536) + BitVec.ofInt 32 rem

/-- Queue a notice at LE j (R214). -/
def State.queueNotice (s : State) (j : Nat) (n : Notice) : State :=
  let x := s.leAt j
  s.setLe j (if x.nq.length ≥ 8 then ({ x with nq := x.nq.drop 1 ++ [n] }).flag 4 else { x with nq := x.nq ++ [n] })

/-- SENDP (R210, R222). -/
def leSendp (j : Nat) (s : State) (x : LoopEngine) (w : Nat) : LeRes :=
  let X := bit w 17
  let ty := w / 2 ^ 14 % 4
  let idx := if X then (x.a w).toNat % 64 else w % 64
  if (X ∧ w % 64 ≠ 0) ∨ (!X ∧ wA w ≠ 0) ∨ ty = 3 then .fault cILLEGAL
  else
    let own := match s.leServes j with
      | some (r, g) => (s.ownedPos r g).contains idx
      | none => false
    if !own then .fault cBOUND
    else
      match tget? x.cmd idx with
      | some ⟨_, _, _, true⟩ => .next (s.setLe j (x.flag 2))
      | _ =>
        let v := (x.kg (wD w)).toInt
        let x := if ty = 0 ∧ (v < 0 ∨ v > 65535) then x.flag 1 else x
        let val := if ty = 0 then (max 0 (min 65535 v)).toNat else 0
        .next (s.setLe j { x with cmd := tset x.cmd idx { ty := ty, value := val, en := bit w 16, released := false } })

/-- LOOP (R218). -/
def leLoop (j : Nat) (s : State) (x : LoopEngine) (w : Nat) : LeRes :=
  let n := bit w 25
  let R := bit w 24
  let ra := w / 2 ^ 20 % 16
  let ci := w / 2 ^ 10 % 1024
  let e := w % 1024
  if (R ∧ ci ≠ 0) ∨ (!R ∧ ra ≠ 0) then .fault cILLEGAL
  else
    let cnt : W32 := if R then x.kg ra else BitVec.ofNat 32 ci
    let st := x.pc.toNat + 1
    let en := st + e
    let busy := if n then x.lc1 != 0 else x.lc0 != 0
    let outside := n && x.lc0 != 0 && !(decide (loopStart x.le0 ≤ st ∧ en ≤ loopEnd x.le0))
    if busy || outside || decide (en > 2047) || (cnt == 0 && decide (en + 1 > 2047)) then .fault cILLEGAL
    else
      let b := BitVec.ofNat 32 (en * 65536 + st)
      let x := if n then { x with lc1 := cnt, le1 := b } else { x with lc0 := cnt, le0 := b }
      if cnt ≠ 0 then .next (s.setLe j x)
      else
        let hit0 := x.lc0 != 0 && loopEnd x.le0 == en
        let hit1 := x.lc1 != 0 && loopEnd x.le1 == en
        let out (hit : Bool) (lc le : W32) : W32 := if hit || decide (loopStart le ≤ en + 1 ∧ en + 1 ≤ loopEnd le) then lc else 0
        let y := { x with lc0 := out hit0 x.lc0 x.le0, lc1 := out hit1 x.lc1 x.le1, pc := pcOf en, cyc := x.cyc + 2 }
        .own (s.setLe j (if hit0 || hit1 then y.fall else { y with pc := pcOf (en + 1) }))

/-- The target of a branch, B or JAL: outside the bank it is ILLEGAL, taken or not (R216). -/
def leBranch (j : Nat) (s : State) (x : LoopEngine) (w : Nat) (taken : Bool) : LeRes :=
  let t : Int := x.pc.toNat + 1 + wImm w
  if t < 0 ∨ t > 2047 then .fault cILLEGAL
  else if taken then .jump (s.setLe j x) t.toNat else .next (s.setLe j x)

/-! ### The instructions (R216) -/

/-- NOP: the all-zero word alone (R215). -/
def execLeNop (j : Fin 36) (w : BitVec 26) (f : Ecc) (s : State) : Out :=
  .next (s.leExec j w f 0x3FFFFFF false (fun s _ _ => .next s))
/-- ADD. -/
def execLeAdd (j : Fin 36) (w : BitVec 26) (f : Ecc) (s : State) : Out :=
  .next (s.leExec j w f 0x3FFF false (fun s x w => setKOvf j (wD w) (fun x => (x.a w).toInt + (x.b w).toInt) s x))
/-- SUB. -/
def execLeSub (j : Fin 36) (w : BitVec 26) (f : Ecc) (s : State) : Out :=
  .next (s.leExec j w f 0x3FFF false (fun s x w => setKOvf j (wD w) (fun x => (x.a w).toInt - (x.b w).toInt) s x))
/-- ADDI. -/
def execLeAddi (j : Fin 36) (w : BitVec 26) (f : Ecc) (s : State) : Out :=
  .next (s.leExec j w f 0 false (fun s x w => setKOvf j (wD w) (fun x => (x.a w).toInt + wImm w) s x))
/-- AND. -/
def execLeAnd (j : Fin 36) (w : BitVec 26) (f : Ecc) (s : State) : Out :=
  .next (s.leExec j w f 0x3FFF false (fun s x w => setK j (wD w) (x.a w &&& x.b w) s x))
/-- OR. -/
def execLeOr (j : Fin 36) (w : BitVec 26) (f : Ecc) (s : State) : Out :=
  .next (s.leExec j w f 0x3FFF false (fun s x w => setK j (wD w) (x.a w ||| x.b w) s x))
/-- XOR. -/
def execLeXor (j : Fin 36) (w : BitVec 26) (f : Ecc) (s : State) : Out :=
  .next (s.leExec j w f 0x3FFF false (fun s x w => setK j (wD w) (x.a w ^^^ x.b w) s x))
/-- MOVI. -/
def execLeMovi (j : Fin 36) (w : BitVec 26) (f : Ecc) (s : State) : Out :=
  .next (s.leExec j w f 0x3C0000 false (fun s x w => setK j (wD w) (BitVec.ofInt 32 (wImm w)) s x))
/-- MOVHI. -/
def execLeMovhi (j : Fin 36) (w : BitVec 26) (f : Ecc) (s : State) : Out :=
  .next (s.leExec j w f 0x3F0000 false (fun s x w => setK j (wD w) (BitVec.ofNat 32 (w % 65536 * 65536) ||| (x.kg (wD w) &&& 0xFFFF)) s x))
/-- MOV. -/
def execLeMov (j : Fin 36) (w : BitVec 26) (f : Ecc) (s : State) : Out :=
  .next (s.leExec j w f 0x3FFFF false (fun s x w => setK j (wD w) (x.a w) s x))
/-- SHL: overflow as R217 says is exactly leaving the signed 32-bit range. -/
def execLeShl (j : Fin 36) (w : BitVec 26) (f : Ecc) (s : State) : Out :=
  .next (s.leExec j w f 0x3FFF false (fun s x w => setKOvf j (wD w) (fun x => (x.a w).toInt * (2 ^ ((x.b w).toNat % 32) : Nat)) s x))
/-- SHR. -/
def execLeShr (j : Fin 36) (w : BitVec 26) (f : Ecc) (s : State) : Out :=
  .next (s.leExec j w f 0x3FFF false (fun s x w => setK j (wD w) (x.a w >>> ((x.b w).toNat % 32)) s x))
/-- SRA. -/
def execLeSra (j : Fin 36) (w : BitVec 26) (f : Ecc) (s : State) : Out :=
  .next (s.leExec j w f 0x3FFF false (fun s x w => setK j (wD w) ((x.a w).sshiftRight ((x.b w).toNat % 32)) s x))
/-- SHLI. -/
def execLeShli (j : Fin 36) (w : BitVec 26) (f : Ecc) (s : State) : Out :=
  .next (s.leExec j w f 0x3FFE0 false (fun s x w => setKOvf j (wD w) (fun x => (x.a w).toInt * (2 ^ (w % 32) : Nat)) s x))
/-- SHRI. -/
def execLeShri (j : Fin 36) (w : BitVec 26) (f : Ecc) (s : State) : Out :=
  .next (s.leExec j w f 0x3FFE0 false (fun s x w => setK j (wD w) (x.a w >>> (w % 32)) s x))
/-- SRAI. -/
def execLeSrai (j : Fin 36) (w : BitVec 26) (f : Ecc) (s : State) : Out :=
  .next (s.leExec j w f 0x3FFE0 false (fun s x w => setK j (wD w) ((x.a w).sshiftRight (w % 32)) s x))
/-- MIN. -/
def execLeMin (j : Fin 36) (w : BitVec 26) (f : Ecc) (s : State) : Out :=
  .next (s.leExec j w f 0x3FFF false (fun s x w => setK j (wD w) (if (x.a w).toInt ≤ (x.b w).toInt then x.a w else x.b w) s x))
/-- MAX. -/
def execLeMax (j : Fin 36) (w : BitVec 26) (f : Ecc) (s : State) : Out :=
  .next (s.leExec j w f 0x3FFF false (fun s x w => setK j (wD w) (if (x.a w).toInt ≤ (x.b w).toInt then x.b w else x.a w) s x))
/-- CLAMP. -/
def execLeClamp (j : Fin 36) (w : BitVec 26) (f : Ecc) (s : State) : Out :=
  .next (s.leExec j w f 0x3FFF false (fun s x w =>
    let d := x.kg (wD w)
    let a := x.a w
    let b := x.b w
    let r := if a.toInt > b.toInt ∨ d.toInt < a.toInt then a else if d.toInt > b.toInt then b else d
    setK j (wD w) r s x))
/-- ABS. -/
def execLeAbs (j : Fin 36) (w : BitVec 26) (f : Ecc) (s : State) : Out :=
  .next (s.leExec j w f 0x3FFFF false (fun s x w => setKOvf j (wD w) (fun x => (x.a w).toInt.natAbs) s x))
/-- NEG. -/
def execLeNeg (j : Fin 36) (w : BitVec 26) (f : Ecc) (s : State) : Out :=
  .next (s.leExec j w f 0x3FFFF false (fun s x w => setKOvf j (wD w) (fun x => -(x.a w).toInt) s x))
/-- MULQ. -/
def execLeMulq (j : Fin 36) (w : BitVec 26) (f : Ecc) (s : State) : Out :=
  .next (s.leExec j w f 0x1FF false (fun s x w => setKOvf j (wD w) (fun x => rndShift ((x.a w).toInt * (x.b w).toInt) (wSh w)) s x))
/-- MAC. -/
def execLeMac (j : Fin 36) (w : BitVec 26) (f : Ecc) (s : State) : Out :=
  .next (s.leExec j w f 0xC03FFF false (fun s x w => setMOvf j (wM w) (fun x => (x.mg (wM w)).toInt + (x.a w).toInt * (x.b w).toInt) s x))
/-- MSU. -/
def execLeMsu (j : Fin 36) (w : BitVec 26) (f : Ecc) (s : State) : Out :=
  .next (s.leExec j w f 0xC03FFF false (fun s x w => setMOvf j (wM w) (fun x => (x.mg (wM w)).toInt - (x.a w).toInt * (x.b w).toInt) s x))
/-- MCLR. -/
def execLeMclr (j : Fin 36) (w : BitVec 26) (f : Ecc) (s : State) : Out :=
  .next (s.leExec j w f 0xFFFFFF false (fun s x w => .next (s.setLe j (x.ms (wM w) 0))))
/-- MLD. -/
def execLeMld (j : Fin 36) (w : BitVec 26) (f : Ecc) (s : State) : Out :=
  .next (s.leExec j w f 0xC3C1FF false (fun s x w => .next (s.setLe j (x.ms (wM w) (BitVec.ofInt 72 ((x.a w).toInt * (2 ^ wSh w : Nat)))))))
/-- MRD: the destination stands in bits 21:18. -/
def execLeMrd (j : Fin 36) (w : BitVec 26) (f : Ecc) (s : State) : Out :=
  .next (s.leExec j w f 0xC3C1FF false (fun s x w => setKOvf j (wA w) (fun x => rndShift (x.mg (wM w)).toInt (wSh w)) s x))
/-- MADD. -/
def execLeMadd (j : Fin 36) (w : BitVec 26) (f : Ecc) (s : State) : Out :=
  .next (s.leExec j w f 0x3FFFFF false (fun s x w => setMOvf j (wM w) (fun x => (x.mg (wM w)).toInt + (x.mg (wMb w)).toInt) s x))
/-- LD. -/
def execLeLd (j : Fin 36) (w : BitVec 26) (f : Ecc) (e : Ecc) (s : State) : Out :=
  .next (s.leExec j w f 0x40000 false (fun s x w => leAccess j (wD w) (wAddr x w) false false none e s x))
/-- ST: a word store reads nothing through ECC. -/
def execLeSt (j : Fin 36) (w : BitVec 26) (f : Ecc) (s : State) : Out :=
  .next (s.leExec j w f 0x40000 false (fun s x w => leAccess j (wD w) (wAddr x w) true false none .ok s x))
/-- LDH. -/
def execLeLdh (j : Fin 36) (w : BitVec 26) (f : Ecc) (e : Ecc) (s : State) : Out :=
  .next (s.leExec j w f 0x40000 false (fun s x w => leAccess j (wD w) (wAddr x w) false true none e s x))
/-- STH. -/
def execLeSth (j : Fin 36) (w : BitVec 26) (f : Ecc) (e : Ecc) (s : State) : Out :=
  .next (s.leExec j w f 0x40000 false (fun s x w => leAccess j (wD w) (wAddr x w) true true none e s x))
/-- LDP. -/
def execLeLdp (j : Fin 36) (w : BitVec 26) (f : Ecc) (e : Ecc) (s : State) : Out :=
  .next (s.leExec j w f 0x40000 false (fun s x w =>
    leAccess j (wD w) (x.pg (wP w)).toNat false false (some (wP w, (BitVec.ofInt 20 (wImm w)).toNat)) e s x))
/-- STP. -/
def execLeStp (j : Fin 36) (w : BitVec 26) (f : Ecc) (s : State) : Out :=
  .next (s.leExec j w f 0x40000 false (fun s x w =>
    leAccess j (wD w) (x.pg (wP w)).toNat true false (some (wP w, (BitVec.ofInt 20 (wImm w)).toNat)) .ok s x))
/-- PSET. -/
def execLePset (j : Fin 36) (w : BitVec 26) (f : Ecc) (s : State) : Out :=
  .next (s.leExec j w f 0x700000 false (fun s x w => .next (s.setLe j (x.ps (wP2 w) (BitVec.ofNat 20 w)))))
/-- PADD. -/
def execLePadd (j : Fin 36) (w : BitVec 26) (f : Ecc) (s : State) : Out :=
  .next (s.leExec j w f 0x7C0000 false (fun s x w => .next (s.setLe j (x.ps (wP2 w) (x.pg (wP2 w) + BitVec.ofInt 20 (wImm w))))))
/-- PMOV. -/
def execLePmov (j : Fin 36) (w : BitVec 26) (f : Ecc) (s : State) : Out :=
  .next (s.leExec j w f 0x43FFFF false (fun s x w => .next (s.setLe j (x.ps (wP2 w) ((x.a w).setWidth 20)))))
/-- PRD. -/
def execLePrd (j : Fin 36) (w : BitVec 26) (f : Ecc) (s : State) : Out :=
  .next (s.leExec j w f 0x7FFFF false (fun s x w => setK j (wD w) ((x.pg (wP w)).setWidth 32) s x))
/-- RSR. -/
def execLeRsr (j : Fin 36) (w : BitVec 26) (f : Ecc) (s : State) : Out :=
  .next (s.leExec j w f 0x3FFFF0 false (fun s x w => match s.leSr j x (w % 16) with
    | some v => setK j (wD w) v s x
    | none => .fault cILLEGAL))
/-- WSR. -/
def execLeWsr (j : Fin 36) (w : BitVec 26) (f : Ecc) (s : State) : Out :=
  .next (s.leExec j w f 0x3C3FFF0 false (fun s x w => match x.wsr (w % 16) (x.a w) with
    | some y => .next (s.setLe j y)
    | none => .fault cILLEGAL))
/-- RDN. -/
def execLeRdn (j : Fin 36) (w : BitVec 26) (f : Ecc) (s : State) : Out :=
  .next (s.leExec j w f 0x3FFFFF false (fun s x w => match x.nq with
    | n :: r =>
      let v := s.noticeWord n x.cyc
      setK j (wD w) v s { x with nq := r, firstNotice := some (x.firstNotice.getD v) }
    | [] => setK j (wD w) 0 s x))
/-- BEQ. -/
def execLeBeq (j : Fin 36) (w : BitVec 26) (f : Ecc) (s : State) : Out :=
  .next (s.leExec j w f 0 true (fun s x w => leBranch j s x w (x.kg (wD w) == x.a w)))
/-- BNE. -/
def execLeBne (j : Fin 36) (w : BitVec 26) (f : Ecc) (s : State) : Out :=
  .next (s.leExec j w f 0 true (fun s x w => leBranch j s x w (x.kg (wD w) != x.a w)))
/-- BLT. -/
def execLeBlt (j : Fin 36) (w : BitVec 26) (f : Ecc) (s : State) : Out :=
  .next (s.leExec j w f 0 true (fun s x w => leBranch j s x w (decide ((x.kg (wD w)).toInt < (x.a w).toInt))))
/-- BGE. -/
def execLeBge (j : Fin 36) (w : BitVec 26) (f : Ecc) (s : State) : Out :=
  .next (s.leExec j w f 0 true (fun s x w => leBranch j s x w (decide ((x.kg (wD w)).toInt ≥ (x.a w).toInt))))
/-- B. -/
def execLeB (j : Fin 36) (w : BitVec 26) (f : Ecc) (s : State) : Out :=
  .next (s.leExec j w f 0x3FC0000 true (fun s x w => leBranch j s x w true))
/-- JAL. -/
def execLeJal (j : Fin 36) (w : BitVec 26) (f : Ecc) (s : State) : Out :=
  .next (s.leExec j w f 0x3C0000 true (fun s x w => leBranch j s (x.ks (wD w) (BitVec.ofNat 32 (x.pc.toNat + 1))) w true))
/-- JR: bits 31:11 of the register must be 0. -/
def execLeJr (j : Fin 36) (w : BitVec 26) (f : Ecc) (s : State) : Out :=
  .next (s.leExec j w f 0x3C3FFFF true (fun s x w => if (x.a w).toNat > 2047 then .fault cILLEGAL else .jump s (x.a w).toNat))
/-- LOOP. -/
def execLeLoop (j : Fin 36) (w : BitVec 26) (f : Ecc) (s : State) : Out :=
  .next (s.leExec j w f 0 true (fun s x w => leLoop j s x w))
/-- WAITS (R219): done at once, or the LE waits. -/
def execLeWaits (j : Fin 36) (w : BitVec 26) (f : Ecc) (s : State) : Out :=
  .next (s.leExec j w f 0x1FFF8 false (fun s x w =>
    let mask := w % 8
    let bound := if bit w 17 then some (x.a w) else none
    let met := s.waitMet j x.cyc
    if mask = 0 then .fault cILLEGAL
    else if waitEnds met mask bound x.cyc then setK j (wD w) (BitVec.ofNat 32 met) s x
    else .own (s.setLe j { x with st := .wait, wait := some (wD w, mask, bound) })))
/-- RDS (R220). -/
def execLeRds (j : Fin 36) (w : BitVec 26) (f : Ecc) (s : State) : Out :=
  .next (s.leExec j w f 0x18FC0 false (fun s x w =>
    let X := bit w 17
    let cls := w / 2 ^ 12 % 8
    let idx := if X then (x.a w).toNat % 64 else w % 64
    if (X ∧ w % 64 ≠ 0) ∨ (!X ∧ wA w ≠ 0) ∨ cls = 7 then .fault cILLEGAL
    else
      match s.leServes j with
      | none => .fault cBOUND
      | some (r, _) =>
        match s.rds j r cls idx with
        | some v => setK j (wD w) v s x
        | none => .fault cBOUND))
/-- SENDP (R222). -/
def execLeSendp (j : Fin 36) (w : BitVec 26) (f : Ecc) (s : State) : Out :=
  .next (s.leExec j w f 0x3FC0 false (fun s x w => leSendp j s x w))
/-- The first COMMIT of the tick: its cycle, and the largest such cycle since the last read (R239). -/
def State.firstCommit (s : State) (j : Nat) : State :=
  let x := s.leAt j
  let i := leIdx j
  if x.commitCyc.isSome then s
  else (s.setLe j { x with commitCyc := some x.cyc }).pf .LC_LE_MAXCYC i F.LC_LE_MAXCYC.COMMIT (max x.cyc (s.gf .LC_LE_MAXCYC i F.LC_LE_MAXCYC.COMMIT))
/-- COMMIT (R210). -/
def execLeCommit (j : Fin 36) (w : BitVec 26) (f : Ecc) (s : State) : Out :=
  .next (s.leExec j w f 0x3FFFFFF false (fun s _ _ => .next ((s.firstCommit j).leCommit j)))
/-- END (R210, R211). -/
def execLeEnd (j : Fin 36) (w : BitVec 26) (f : Ecc) (s : State) : Out :=
  .next (s.leExec j w f 0x3FFFFFF false (fun s x _ =>
    let i := leIdx j
    let s := (s.setLe j { x with endCyc := some x.cyc, st := .ended }).leCommit j
    let s := s.wr .LC_LE_CYC i (BitVec.ofNat 32 (x.cyc * 65536 + x.commitCyc.getD 0xFFFF))
    let s := s.pf .LC_LE_MAXCYC i F.LC_LE_MAXCYC.END (max x.cyc (s.gf .LC_LE_MAXCYC i F.LC_LE_MAXCYC.END))
    .own (((s.takeRecord j).latchPubs j).snapshot j)))
/-- PUB (R227). -/
def execLePub (j : Fin 36) (w : BitVec 26) (f : Ecc) (s : State) : Out :=
  .next (s.leExec j w f 0x3C3FFF0 false (fun s x w => .next (s.setLe j { x with pubs := tset x.pubs (w % 16) (x.a w) })))
/-- EVP (R228). -/
def execLeEvp (j : Fin 36) (w : BitVec 26) (f : Ecc) (s : State) : Out :=
  .next (s.leExec j w f 0x3FFFF00 false (fun s _ w =>
    .next (((s.inc .LC_LE_EVT (leIdx j) F.LC_LE_EVT.COUNT 1).pf .LC_LE_EVT (leIdx j) F.LC_LE_EVT.CODE (w % 256)).raise (128 + j))))

/-- LE_SHARED_ACCESS_DONE (R196): an access to cluster-shared memory completes after that many cycles. -/
def execLeSharedAccessDone (j : Fin 36) (cycles : Nat) (e : Ecc) (s : State) : Out :=
  .next (
    let x := s.leAt j
    match x.sh with
    | none => s
    | some y =>
      let n := if y.half then 2 else 4
      if x.st ≠ .wait ∨ cycles = 0 ∨ x.cyc + cycles + 30 > s.tlen then s
      else if e = .two ∧ !y.store then s.leFault j cECC
      else
        let x := match y.post with
          | some (p, i) => x.ps p (x.pg p + BitVec.ofNat 20 i)
          | none => x
        let s := if y.store then s.mput y.addr (leBytes n y.data.toNat) else s
        let x := if y.store then x else x.ks y.d (BitVec.ofInt 32 (sgn (8 * n) (s.mnum y.addr n)))
        let s := s.setLe j { x.fall with st := .run, sh := none, cyc := x.cyc + cycles }
        if e = .one ∧ !y.store then s.leEcc1 j else s)

/-- LE_WAITS_END (R219): a wait ends after that many cycles. -/
def execLeWaitsEnd (j : Fin 36) (cycles : Nat) (s : State) : Out :=
  .next (
    let x := s.leAt j
    match x.wait with
    | none => s
    | some (d, mask, bound) =>
      let cyc := x.cyc + cycles
      let met := s.waitMet j cyc
      if x.st ≠ .wait ∨ cycles = 0 ∨ cyc + 30 ≥ s.tlen ∨ !waitEnds met mask bound cyc ∨ (cycles > 1 ∧ s.endedBy j mask bound (cyc - 1)) then s
      else s.setLe j { (x.ks d (BitVec.ofNat 32 met)).fall with st := .run, wait := none, cyc := cyc })

end Sys2Proof.Machine
end

