-- ==== Sys2Proof/Machine/Sense.lean ====
section
/-!
DEFINITION. Remote sense, auxiliary ADC, the latch of availability, and the hint ports (R176, R246 to R257).
-/
namespace Sys2Proof.Machine

/-- The tick-aligned code of four conversions (R246). -/
def convCode (c : Conv) : Nat := (c.c1.toNat + c.c2.toNat + c.c3.toNat + c.c4.toNat + 2) / 4

/-- Availability of a port's phases at the latch (R176). -/
def State.latchPort (s : State) (n : Nat) : State :=
  s.setPrt n { s.prt n with avail := (List.range 8).foldl (fun m a => if s.phAvail (n * 8 + a) then m + 2 ^ a else m) 0 }

/-- Samples in a row at one end of the scale, `old` being the sample before (R248). -/
def State.satCount (s : State) (ch old code : Nat) : State :=
  let run := if code ≠ 0 ∧ code ≠ 16383 then 0 else if code = old then tget 0 s.adc.satRun ch + 1 else 1
  { s with adc := { satRun := tset s.adc.satRun ch run } }

/-- A remote-sense code of channel n: its register, and the checks of the rail that it serves. -/
def State.senseCh (s : State) (n code : Nat) : State :=
  if s.fenced 8 n then s
  else
    let s := (s.satCount n (s.gf .ADC_RS n F.ADC_RS.CODE) code).wr .ADC_RS n (BitVec.ofNat 32 (s.tick.count % 256 * 2 ^ 24 + code))
    match s.rails.find? (fun r => u8 (s.railD r) 2 == n) with
    | some r => s.senseRail r code
    | none => s

/-- Notices of a rail that count in this tick's NREC (R257): those of the LE at gang position 0. -/
def State.latchNotices (s : State) (r : Nat) : List Notice :=
  match s.serversOf r with
  | j :: _ => (s.leAt j).nq.filter (fun n => decide (n.tick < s.tick.count ∨ n.ns ≤ 10))
  | [] => []

/-- SENSE_SAMPLE_READY (R176, R246, R247): t = 40 ns; 64 remote-sense channels and the auxiliary channel of the tick; a dark tick takes none (R522). -/
def execSenseSampleReady (rs : List Conv) (aux : Conv) (s : State) : Out :=
  if !(Instr.senseSampleReady rs aux).wf then .fault .illFormed
  else .next (
    if s.tick.dark then s else
    let s := forEach s.rails (fun s r => s.setRl r { s.rl r with wback := [] }) s
    let s := forEach (List.range 64) State.latchPort s
    let s := forEach (List.range 64) (fun s n => match rs[n]? with
      | some c => s.senseCh n (convCode c)
      | none => s) s
    let i := s.tick.count % 16
    let s := if s.fenced 8 (64 + i) then s
      else (s.satCount (64 + i) (s.gf .ADC_AUX i F.ADC_AUX.CODE) (convCode aux)).wr .ADC_AUX i (BitVec.ofNat 32 (s.tick.count % 256 * 2 ^ 24 + (convCode aux)))
    let s := forEach s.rails State.iestLatch s
    if s.copies then s else forEach s.rails (fun s r => s.nrecOf r (s.latchNotices r)) s)

/-- ADC_SATURATION (R248): eight samples in a row at one end of the scale; once for such a run, and again after software has cleared the bit. -/
def execAdcSaturation (ch : Fin 80) (s : State) : Out :=
  .next (
    let run := tget 0 s.adc.satRun ch
    let r : Reg := if ch.val < 32 then .ADC_SAT_LO else if ch.val < 64 then .ADC_SAT_HI else .ADC_SAT_AUX
    if run < 8 ∨ (run > 8 ∧ s.getB r 0 (ch % 32)) then s
    else
      let s : State := { s with adc := { satRun := tset s.adc.satRun ch (max 9 run) } }
      (s.setB r 0 (ch % 32)).raise (if ch.val < 64 then 180 + ch / 8 else 188))

/-! ### Hint ports (R250 to R254) -/

/-- Data character i of a notice, the first in the most significant byte. -/
def hintChar (b : BitVec 48) (i : Nat) : Nat := b.toNat / 256 ^ (5 - i) % 256

/-- The PORT section names hint port h; the pins of a port that it does not name are at high impedance (R529). -/
def State.hintOn (s : State) (h : Nat) : Bool := (s.ent tPORT (portKey 0x21 h)).isSome

/-- HINT_NOTICE (R251 to R253): drops by cause, the limits of R252, and the queue of every LE of the rail. -/
def execHintNotice (h : Fin 8) (x : HintRx) (s : State) : Out :=
  .next (
    let c := hintChar x.b
    let r := c 0 % 64
    let bad := x.bad || c 0 / 64 != 0 || crc8 [c 0, c 1, c 2, c 3, c 4] != c 5
    if !s.hintOn h || !s.gb .HINT_CTL h F.HINT_CTL.EN || s.fenced 7 h || s.tick.dark then s
    else if bad then s.inc .HINT_DROP0 h F.HINT_DROP0.CODE 1
    else if (s.railE r).isNone || !bit (u8 (s.railD r) 17) h then (s.inc .HINT_DROP1 h F.HINT_DROP1.UNBOUND 1).hintEvt h 3
    else if (tget Hint.init s.hint h).lastTick = some s.tick.count then (s.inc .HINT_DROP0 h F.HINT_DROP0.RATE 1).hintEvt h 2
    else
      let w := s.weirD r
      let step := sgn 16 (c 1 * 256 + c 2)
      let lead := c 3 * 256 + c 4
      let mx : Int := u16 w 20
      let step' := if step > mx then mx else if step < -mx then -mx else step
      let lead' := min lead (u16 w 22)
      let s := if step' ≠ step ∨ lead' ≠ lead then s.inc .HINT_DROP1 h F.HINT_DROP1.CLAMP 1 else s
      let s := s.inc .HINT_ACC h F.HINT_ACC.COUNT 1
      let s := { s with hint := tset s.hint h { lastTick := some s.tick.count } }
      forEach (s.serversOf r) (fun s j => s.queueNotice j { step := step', lead := lead', tick := s.tick.count, ns := x.ns }) s)

/-- HINT_LINK_UP (R254). -/
def execHintLinkUp (h : Fin 8) (s : State) : Out :=
  .next (if s.hintOn h ∧ !s.gb .HINT_STAT h F.HINT_STAT.LINK then (s.pb .HINT_STAT h F.HINT_STAT.LINK true).hintEvt h 1 else s)

/-- HINT_LINK_DOWN (R254): queued notices are kept. -/
def execHintLinkDown (h : Fin 8) (s : State) : Out :=
  .next (if s.gb .HINT_STAT h F.HINT_STAT.LINK then (s.pb .HINT_STAT h F.HINT_STAT.LINK false).hintEvt h 0 else s)

end Sys2Proof.Machine
end

