-- ==== Sys2Proof/Machine/Stage.lean ====
section
/-!
DEFINITION. Power stages, the far end of the phase link (R156, R158, R161, R162, R168 to R172, R177 to R181, R601).
-/
namespace Sys2Proof.Machine

def Stage.get (x : Stage) (i : Nat) : Nat := tget 0 x.reg i
def Stage.put (x : Stage) (i v : Nat) : Stage := { x with reg := tset x.reg i v }
/-- HOLD_TICKS. -/
def Stage.hold (x : Stage) : Nat := x.get 0x10
/-- READY, RUN and SHED count missed ticks (R177). -/
def Stage.counts (x : Stage) : Bool := x.st == .ready || x.st == .run || x.st == .shed
/-- A SYNC or TEST tick (R179); a tick without a marker is none. -/
def Stage.quietTick (x : Stage) : Bool := x.marker == .sync || x.marker == .test
/-- The stage switches (R177, R179). -/
def Stage.switching (x : Stage) : Bool := x.powered && x.st == .run && !x.quietTick

/-- Register indexes of R180. -/
def Stage.has (x : Stage) (i : Nat) : Bool :=
  decide (i ≤ 6) || decide (8 ≤ i ∧ i ≤ 0x16) || i == 0x18 || i == 0x19 || x.extra.contains i
def stageRo (i : Nat) : Bool := decide (i ≤ 6) || decide (8 ≤ i ∧ i ≤ 0xF) || i == 0x14 || i == 0x18 || i == 0x19

/-- The power-on state of a stage of this maker (R180, R181). -/
def Stage.powerOn (mk : Maker) : Stage :=
  let regs : Tab Nat :=
    [(0, mk.vendor.toNat % 256), (1, mk.vendor.toNat / 256), (2, mk.model.toNat % 256), (3, mk.model.toNat / 256),
     (4, mk.plrev.toNat), (5, mk.caps.toNat), (6, mk.imax.toNat)] ++
    (List.range 8).map (fun i => (8 + i, mk.serial.toNat / 256 ^ i % 256)) ++
    [(0x10, 4), (0x11, 0), (0x12, mk.imax.toNat), (0x13, 0xB4), (0x14, 0), (0x16, 0), (0x18, 0), (0x19, 0)]
  let own := { Stage.init with powered := true, reg := regs }
  mk.extra.foldl (fun y e => if own.has e.1.toNat || decide (e.1.toNat < 0x80) then y else { y.put e.1.toNat e.2.toNat with extra := y.extra ++ [e.1.toNat] }) own

/-- Close the present tick and open the next with a marker (R158, R170, R178, R179). -/
def Stage.nextTick (x : Stage) (m : Marker) (cnt : Nat) : Stage :=
  let missed := x.counts && !x.quietTick && !x.heard
  { x with
    missed := if missed then x.missed + 1 else if x.counts && x.quietTick then x.missed else 0
    cmderr := missed, marker := m, cnt := cnt, heard := false, actPwr := false, actOvr := false, actMgmt := false,
    sawMgmtPrev := x.sawMgmt, sawMgmt := false, owe := x.oweNext, oweNext := none, txSample := none, txAux := none,
    locked := if m = .missing then 0 else min 16 (x.locked + 1) }

/-- Write a register through CONFIGURE: the stage after it, and DATA and STATUS of the reply (R180). `free` answers for a register that does not exist. -/
def Stage.configure (x : Stage) (i v free : Nat) : Stage × Nat × Nat :=
  if !x.has i then (x, free, 1)
  else if stageRo i then (x, x.get i, 2)
  else if 0x10 ≤ i ∧ i ≤ 0x13 ∧ x.switching then (x, x.get i, 2)
  else
    let refuse : Bool := match i with
      | 0x10 => decide (v < 1 ∨ v > 8)
      | 0x11 => decide (v > 1) || !bit (x.get 5) v
      | 0x15 => v != 1
      | 0x16 => decide (v > 3)
      | _ => false
    if refuse then (x, if i = 0x15 then 0 else x.get i, 2)
    else
      match i with
      | 0x15 => ({ x.put 0x14 0 with st := if x.st = .fault then .safeOff else x.st }, 0, 0)
      | 0x16 => (((x.put 0x16 v).put 0x18 0).put 0x19 0, v, 0)
      | _ => (x.put i v, v, 0)

/-- The stage refuses this valid frame (R601). -/
def Stage.refuses (x : Stage) (ty : Nat) : Bool :=
  if x.get 0x11 = 1 then ty == 1 || ty == 8 else ty == 2

/-- EN and VALUE break the table of R161 for a frame that addresses this stage. -/
def Stage.badFields (x : Stage) (ty addr v : Nat) (en : Bool) : Bool :=
  match ty with
  | 3 => en
  | 4 => en != x.enable
  | 5 => en != x.enable
  | 6 => en != x.enable
  | 7 => en || v != 0xA55A
  | 9 => en
  | 0xA => en || addr != 0 || decide (v ≥ 256)
  | 0xB => en || addr != 0 || decide (v ≥ 256)
  | _ => false

/-- A drive frame: CURRENT, ONTIME, OVR_CURRENT (R177). -/
def Stage.drive (x : Stage) (ty v : Nat) (en : Bool) : Stage :=
  if !x.counts then x
  else if en then { x with st := .run, enable := true, value := v, ontime := ty == 2 }
  else { x with st := if x.st = .run then .ready else x.st, enable := false }

/-- A shed frame. -/
def Stage.doShed (x : Stage) : Stage := if x.counts then { x with st := .shed, enable := false } else x

/-- WAKE (R159, R171, R177): to READY from POWERUP and SAFE-OFF, and, as its EN is 0, from RUN; the reply carries FAULT after it. -/
def Stage.doWake (x : Stage) : Stage :=
  let x := if x.st = .powerup ∨ x.st = .safeOff then { x.put 0x14 0 with st := .ready, enable := false, missed := 0 }
    else { x with st := if x.st = .run then .ready else x.st, enable := false }
  { x with oweNext := some (0x14, x.get 0x14, 0) }

/-- A received line frame of the given TYPE with a good CRC: which stage acts, and how (R161, R162, R177, R601). `free` is the DATA of a register that does not exist, and a PRBS31 error count while TEST_CTL checks. -/
def Stage.frame (x : Stage) (own ty addr v : Nat) (en : Bool) (free : Nat) : Stage :=
  let mask := ty == 0xA || ty == 0xB
  let mine := if mask then bit v own else addr == own
  let mgmt := ty == 5 || ty == 6 || ty == 7
  let ovr := ty == 8 || ty == 9 || ty == 0xA
  if !x.powered then x
  else if !mine then
    -- a valid management frame for another address silences the next tick's round-robin frame (R171)
    if mgmt && !(ty == 7 && (en || v != 0xA55A)) then { x with sawMgmt := true } else x
  else if x.badFields ty addr v en then x
  else if mgmt then
    let x := { x with sawMgmt := true }
    if x.actMgmt then x
    else
      let x := { x with actMgmt := true }
      if ty = 7 then x.doWake
      else if ty = 5 then
        let (y, data, st) := x.configure (v / 256) (v % 256) free
        { y with oweNext := some (v / 256, data, st) }
      else
        let i := v / 256
        { x with oweNext := some (i, if !x.has i || ((i == 0x18 || i == 0x19) && x.get 0x16 == 1) then free else if i = 0x15 then 0 else x.get i, if x.has i then 0 else 1) }
  else if x.refuses ty then x
  else
    let x := { x with heard := true }
    if ovr then
      -- in POWERUP, SAFE-OFF and FAULT it ignores the frame, and so has not acted on it (R162, R177)
      let x := { x with actOvr := x.actOvr || x.counts }
      if ty = 8 then x.drive ty v en else x.doShed
    else if x.actOvr || x.actPwr then x
    else
      let x := { x with actPwr := true }
      if ty = 3 ∨ ty = 0xB then x.doShed else if ty = 4 then x else x.drive ty v en

/-- What the monitor receiver of port n learns of address a's marks (R311): a frame of the driving port addresses only woken stages, but a management frame; WAKE ends an enumeration, whose start cleared the marks, and its reply is awaited. -/
def State.hearMarks (s : State) (n a ty v : Nat) (en : Bool) : State :=
  if !bit (s.expects n) a then s
  else if ty = 5 ∨ ty = 6 ∨ ty = 7 then
    let s := if ty = 7 then s.clearAddr n a else s
    s.setPrt n { s.prt n with mgmt := some (mkFrame ty a v en), expect := some a, await := .nobody, mgmtSent := true }
  else if bit (s.woken n) a then s
  else s.setB .PL_PHASE n a

/-- The monitor receiver of a SHADOW or FENCED package hears the frame on the shared bus (R311, R313): marks, power frames of a rail's phase, and override frames. -/
def State.hear (s : State) (p ty a v : Nat) (en : Bool) : State :=
  if !s.copies || s.plGen (p / 8) = 0 then s
  else
    let mine := if ty = 0xA ∨ ty = 0xB then bit v (p % 8) else a == p % 8
    let s := if mine && 1 ≤ ty then s.hearMarks (p / 8) (p % 8) ty v en else s
    let now := mine && (ty == 7 || ty == 8 || ty == 9 || ty == 0xA || ty == 0xB)
    let s := if now then s.setPrt (p / 8) ((s.prt (p / 8)).hears (p % 8) ty v en) else s
    match s.railOf p with
    | none => s
    | some (r, i) =>
      let x := s.rl r
      if mine && (ty == 8 || ty == 9 || ty == 0xA) then s.setRl r { x with ovrHeard := i :: x.ovrHeard }
      else if mine && (ty == 1 || ty == 2 || ty == 3 || ty == 4) && (tget? x.heard i).isNone then
        s.setRl r { x with heard := tset x.heard i (mkFrame ty a v en) }
      else s

/-- The stage of phase p has left RUN: prev of R261 is 0 from then on. -/
def State.leftRun (s : State) (p : Nat) : State := s.setPrt (p / 8) { s.prt (p / 8) with val := tset (s.prt (p / 8)).val (p % 8) 0 }

/-- The stage of phase p becomes x. -/
def State.stageTo (s : State) (p : Nat) (x : Stage) : State :=
  let left := (s.stg p).st == .run && !(x.powered && x.st == .run)
  let s := s.setStg p x
  if left then s.leftRun p else s

/-- A line frame reaches the stage of phase p; the DATA of a register that does not exist is a free value. -/
def State.stageFrame (s : State) (p ty a v : Nat) (en : Bool) : State :=
  ((s.stageTo p ((s.stg p).frame (p % 8) ty a v en (s.freeNat % 256))).hear p ty a v en).tick1

/-- An upstream frame's 32 bits with its CRC (R169). -/
def upFrame (h : Nat) : W32 := BitVec.ofNat 32 (h * 256 + crc8 [h / 65536 % 256, h / 256 % 256, h % 256])

/-- The sample frame of the slot (R169, R170). -/
def Stage.sample (x : Stage) (own : Nat) (m : StageMeas) : W32 :=
  let b (v : Bool) (k : Nat) : Nat := if v then 2 ^ k else 0
  let fl := b (!x.switching) 4 + b (x.st == .fault || x.st == .safeOff) 3 + b m.ocl 2 + b (decide (m.temp.toNat > x.get 0x13)) 1 + b x.cmderr 0
  upFrame (own * 2 ^ 19 + m.cur.toNat * 2 ^ 7 + fl * 2 ^ 2 + x.cnt % 4)

/-- What the stage sends in auxiliary slot A (R169, R171). -/
def Stage.auxFrame (x : Stage) (own slots : Nat) (m : StageMeas) : Option W32 :=
  match x.owe with
  | some (i, data, st) => some (upFrame (2 ^ 23 + own * 2 ^ 19 + i * 2 ^ 11 + data * 2 ^ 3 + st))
  | none =>
    if !x.sawMgmtPrev && x.cnt % 8 == own && decide (own < slots) then
      some (upFrame (2 ^ 22 + own * 2 ^ 19 + m.temp.toNat * 2 ^ 11 + m.vin.toNat * 2 ^ 4 + x.get 0x14 % 16))
    else none

/-! ### Commands -/

/-- STAGE_POWER_ON (R177): into POWERUP. -/
def execStagePowerOn (p : Fin 512) (mk : Maker) (s : State) : Out := .next (s.stageTo p (Stage.powerOn mk))

/-- STAGE_POWER_LOSS (R181): outputs to high impedance, all state lost. -/
def execStagePowerLoss (p : Fin 512) (s : State) : Out := .next (s.stageTo p Stage.init)

/-- STAGE_MARKER_RX (R158, R179): the marker's data character has MODE in bits 7:6 and CNT in bits 5:0. DESIGN CHOICE: the reserved MODE 0b11, to which the spec gives no meaning, opens a RUN tick (log entry 178). -/
def execStageMarkerRx (p : Fin 512) (c : BitVec 8) (s : State) : Out :=
  .next (
    let x := s.stg p
    let m : Marker := match c.toNat / 64 with
      | 1 => .sync
      | 2 => .test
      | _ => .run
    if x.powered then s.setStg p (x.nextTick m (c.toNat % 64)) else s)

/-- STAGE_MARKER_MISSING (R158): a tick without a marker. -/
def execStageMarkerMissing (p : Fin 512) (s : State) : Out :=
  .next (if (s.stg p).powered then s.setStg p ((s.stg p).nextTick .missing ((s.stg p).cnt + 1)) else s)

/-- STAGE_HOLD_EXPIRY (R178): SAFE-OFF after HOLD_TICKS missed ticks, fault code 0x1. -/
def execStageHoldExpiry (p : Fin 512) (s : State) : Out :=
  .next (
    let x := s.stg p
    if x.powered && x.counts && decide (x.missed ≥ x.hold) then s.stageTo p { x.put 0x14 1 with st := .safeOff, enable := false, missed := 0 } else s)

/-- STAGE_INTERNAL_FAULT (R172, R177): FAULT with the code. -/
def execStageInternalFault (p : Fin 512) (code : BitVec 4) (s : State) : Out :=
  .next (
    let x := s.stg p
    if x.powered && x.counts then s.stageTo p { x.put 0x14 code.toNat with st := .fault, enable := false, missed := 0 } else s)

/-- STAGE_SLOT_START (R168, R170, R171): the sample in the stage's slot of a RUN or SYNC tick, or what it owes in slot A of any tick that a marker opened. -/
def execStageSlotStart (p : Fin 512) (aux : Bool) (m : StageMeas) (s : State) : Out :=
  .next (
    let x := s.stg p
    if !x.powered || x.marker == .missing then s
    else if aux then s.setStg p { x with txAux := x.auxFrame (p % 8) (s.slotsA (p / 8)) m }
    else if x.locked ≥ 16 ∧ x.marker ≠ .test then s.setStg p { x with txSample := some (x.sample (p % 8) m) } else s)

/-- STAGE_INVALID_FRAME (R156, R161): the stage does not act on it. -/
def execStageInvalidFrame (_p : Fin 512) (s : State) : Out := .next s

/-- CURRENT (R161, R177). -/
def execCurrent (p : Fin 512) (a : Fin 8) (x : BitVec 16) (en : Bool) (s : State) : Out := .next (s.stageFrame p 1 a x.toNat en)
/-- ONTIME. -/
def execOntime (p : Fin 512) (a : Fin 8) (x : BitVec 16) (en : Bool) (s : State) : Out := .next (s.stageFrame p 2 a x.toNat en)
/-- SHED. -/
def execShed (p : Fin 512) (a : Fin 8) (x : BitVec 16) (en : Bool) (s : State) : Out := .next (s.stageFrame p 3 a x.toNat en)
/-- HOLD: the present command is kept (R161). -/
def execHold (p : Fin 512) (a : Fin 8) (x : BitVec 16) (en : Bool) (s : State) : Out := .next (s.stageFrame p 4 a x.toNat en)
/-- CONFIGURE (R180). -/
def execConfigure (p : Fin 512) (a : Fin 8) (x : BitVec 16) (en : Bool) (s : State) : Out := .next (s.stageFrame p 5 a x.toNat en)
/-- AUX_READ (R180). -/
def execAuxRead (p : Fin 512) (a : Fin 8) (x : BitVec 16) (en : Bool) (s : State) : Out := .next (s.stageFrame p 6 a x.toNat en)
/-- WAKE (R171, R177). -/
def execWake (p : Fin 512) (a : Fin 8) (x : BitVec 16) (en : Bool) (s : State) : Out := .next (s.stageFrame p 7 a x.toNat en)
/-- OVR_CURRENT (R162). -/
def execOvrCurrent (p : Fin 512) (a : Fin 8) (x : BitVec 16) (en : Bool) (s : State) : Out := .next (s.stageFrame p 8 a x.toNat en)
/-- OVR_SHED. -/
def execOvrShed (p : Fin 512) (a : Fin 8) (x : BitVec 16) (en : Bool) (s : State) : Out := .next (s.stageFrame p 9 a x.toNat en)
/-- OVR_SHED_MASK. -/
def execOvrShedMask (p : Fin 512) (a : Fin 8) (x : BitVec 16) (en : Bool) (s : State) : Out := .next (s.stageFrame p 0xA a x.toNat en)
/-- SHED_MASK. -/
def execShedMask (p : Fin 512) (a : Fin 8) (x : BitVec 16) (en : Bool) (s : State) : Out := .next (s.stageFrame p 0xB a x.toNat en)

end Sys2Proof.Machine
end

