-- ==== Sys2Proof/Machine/Companion.lean ====
section
/-!
DEFINITION. The companion pair (R303 to R328): acting states, heartbeats, records, mirror comparison, takeover, yield, handoff, fencing, join, leave and stall migration.
-/
namespace Sys2Proof.Machine

/-- The first `n` bytes of a digest, most significant first. -/
def digestBytes (d : BitVec 384) (n : Nat) : Bytes := (List.range n).map (fun i => BitVec.ofNat 8 (d.toNat / 256 ^ (47 - i)))

/-- The entries of sections in force, one after another. -/
def State.secBytes (s : State) (ts : List Nat) : Bytes := ts.flatMap (fun t => (tget [] s.img.sec t).flatMap (·.2))

/-- PAIR_DIGEST (R308); 0 before an image is applied (R328). -/
def State.pairDigest (s : State) : Bytes :=
  if s.img.sec = [] then List.replicate 8 0 else digestBytes (Config.sha384 (s.secBytes [tSTAGE, tRAIL, tLOOP, tWEIR, tSEQ])) 8

def hbAct (b : Bytes) : Nat := u8 b 2 / 16
def hbRole (b : Bytes) : Nat := u8 b 2 % 4
def hbFlag (b : Bytes) (i : Nat) : Bool := bit (u8 b 3) i

/-- The package's role is PRIMARY or SECONDARY. -/
def State.paired (s : State) : Bool := s.cmp.role != 0
def State.yieldEn (s : State) : Bool := bit (u8 s.cmpD 5) 1
def State.joinEn (s : State) : Bool := bit (u8 s.cmpD 5) 2
def State.fenceEn (s : State) : Bool := bit (u8 s.cmpD 5) 0

/-- The package drives its sequencer GPIO outputs: a package of a pair only while it is DRIVING (R314, R541). -/
def State.seqDrives (s : State) : Bool := !s.paired || s.cmp.act == .driving
/-- The output pin of GPIO step k: its level, none at high impedance (R314, R320, R541). -/
def State.gpioPin (s : State) (k : Nat) : Option Bool := if s.seqDrives then some (s.stepAt k).out else none

/-- The heartbeat that the package sends at this edge (R307, R308). -/
def State.mkHb (s : State) : Bytes :=
  let c := s.cmp
  let b (v : Bool) (k : Nat) : Nat := if v then 2 ^ k else 0
  let gives := match c.handoff with
    | some (_, g) => g
    | none => false
  let leave := c.leave || (c.act == .joining && !s.joinEn)
  let fl := b (c.act == .shadow && c.ready) 0 + b s.pins.fenceOut 1 + b leave 2 + b gives 3 + b c.grant.isSome 4
  let at_ := match c.grant, c.handoff with
    | some j, _ => j
    | none, some (h, _) => h
    | none, none => 0
  let gpio := s.steps.foldl (fun m k => if s.stepGpio k && s.gpioPin k == some true then m + 2 ^ k else m) 0
  let h := leBytes 2 0x4842 ++ leBytes 1 (c.role + c.act.code * 16) ++ leBytes 1 fl ++ leBytes 4 at_ ++ leBytes 8 s.tick.count ++
    leBytes 8 s.tick.edgeTb ++ s.pairDigest ++ leBytes 8 s.keep.serial.toNat ++ leBytes 16 gpio ++ leBytes 4 0
  h ++ leBytes 4 (crc32 h)

/-- The package sends link traffic (R307). -/
def State.sendsLink (s : State) : Bool := s.paired && s.cmp.link && s.cmp.act != .blocked

/-- The other package's heartbeat of tick n was valid. -/
def State.hbIn (s : State) (n : Nat) : Option Bytes := if s.cmp.hbTick = n then s.cmp.hb else none
/-- A valid heartbeat of tick n showed the companion SHADOW with READY. -/
def State.peerReady (s : State) (n : Nat) : Bool :=
  match s.hbIn n with
  | some b => hbAct b == 1 && hbFlag b 0
  | none => false

/-- PL drivers, PAIR_OWN_N and the acting state when a package leaves DRIVING. -/
def State.leaveDriving (s : State) (a : Act) : State :=
  let s := forEach (List.range 64) State.plFollow s.dropPlans
  { s with
    pins := { s.pins with plOn := false, ownOut := false }
    cmp := { s.cmp with act := a, ready := false, joinRun := 0, yield := false, handoff := none, grant := none } }

/-- The tick of the last takeover, yield or handoff edge. -/
def State.takeTick (s : State) : State :=
  (s.wr .CMP_TAKE_TICK_LO 0 (BitVec.ofNat 32 s.tick.count)).wr .CMP_TAKE_TICK_HI 0 (BitVec.ofNat 32 (s.tick.count / 2 ^ 32))

/-- A GPIO step of the package that takes the buses: its output is the bit of the newest valid heartbeat, and its state follows (R314). -/
def State.takeGpio (s : State) (k : Nat) : State :=
  if !s.stepGpio k then s
  else
    let on := bit s.cmp.gpio k
    let pin := u8 (s.seqD k) 3
    s.setStep k { s.stepAt k with out := on, st := if on then .regulate else .off, pg := on && (pin == 0xFF || s.gpioIn pin), goingDown := false, immediate := false }

/-- Frames that a port held ready when it last drove are gone. -/
def Port.fresh (p : Port) : Port := { p with pwr := [], ovr := [], shed := none }

/-- The tick PLL leaves TICK_IN: TICK_PHERR reads 0 and the tick is not aligned (R137, R149). -/
def State.offTickIn (s : State) : State :=
  let s := (s.pb .TICK_STATUS 0 F.TICK_STATUS.ON_TICKIN false).pb .TICK_STATUS 0 F.TICK_STATUS.ALIGNED false
  { s.wr .TICK_PHERR 0 0 with tick := { s.tick with alignRun := 0 } }

/-- Enter DRIVING at this edge (R314, R316). A DRIVING package takes its tick from REFCLK (R324). -/
def State.enterDriving (s : State) : State :=
  let s := if s.gb .TICK_STATUS 0 F.TICK_STATUS.ON_TICKIN then s.offTickIn.pb .TICK_STATUS 0 F.TICK_STATUS.HOLDOVER (s.cmp.role == 2) else s
  let s := { s with
    pins := { s.pins with plOn := true, ownOut := true, ownHigh := false }
    cmp := { s.cmp with act := .driving, ready := false, handoff := none, joinRun := 0 } }
  let s : State := { s.dropPlans with port := s.port.map (fun e => (e.1, e.2.fresh)) }
  (forEach s.steps State.takeGpio s).takeTick

/-- The role that a PRIMARY falls back to (R320, R322). -/
def State.fallBack (s : State) : State :=
  let s := s.leaveDriving (if s.follow then .joining else .blocked)
  { s with cmp := { s.cmp with role := 2, dual := false, counted := false } }

/-! ### The mirror comparison (R313) -/

/-- Frames of one phase mismatch. -/
def mirrorDiff (band : Nat) (a b : Option W32) : Bool :=
  match a, b with
  | none, none => false
  | some x, some y =>
    frTy x != frTy y || frEn x != frEn y || decide (frVal x > frVal y + band) || decide (frVal y > frVal x + band)
  | _, _ => true

/-- Compare the ended tick's frames of rail r. -/
def State.mirrorRail (s : State) (r : Nat) : State :=
  let x := s.rl r
  if !x.st.live then s.setRl r { x with mismRun := 0 }
  else
    let band := u16 s.cmpD 2
    let n := (s.phasesOf r).length
    let bad := (List.range n).any (fun i => mirrorDiff band (tget? x.mine i) (tget? x.heard i)) || x.ovrHeard.any (fun i => !x.ovrMine.contains i)
    let run := if bad then x.mismRun + 1 else 0
    let s := s.setRl r { x with mismRun := run }
    if run ≥ u8 s.cmpD 4 ∧ run > 0 then
      let s := if s.gb .CMP_MISMATCH 0 F.CMP_MISMATCH.VALID then s else s.wr .CMP_MISMATCH 0 (BitVec.ofNat 32 (2 ^ 31 + r))
      let s := s.cmpEvt 5
      if s.fenceEn then { s with cmp := { s.cmp with fenceReq := true } } else s
    else s

/-! ### What a tick edge does (R307, R310, R312 to R316, R320 to R322); the count is already that of the new tick -/

/-- The heartbeat account of the tick that ended. -/
def State.hbAccount (s : State) (ended : Nat) : State :=
  let c := s.cmp
  let got := (s.hbIn ended).isSome
  let recs := s.rails.all (fun r => (s.rl r).recTick == some ended)
  let c := { c with
    hbLost := if got then 0 else c.hbLost + 1, joinRun := if got && recs then c.joinRun + 1 else 0,
    handoff := if got then c.handoff else none }
  -- an abandoned handoff: the incoming package releases PAIR_OWN_N
  let pins := if got || s.cmp.handoff.isNone || c.act == .driving then s.pins else { s.pins with ownOut := false }
  { s with cmp := { c with ready := c.ready || (c.act == .shadow && decide (c.joinRun ≥ 16)) }, pins := pins }

/-- Leave, DUALPRI, yield, handoff and takeover at the edge of tick m. -/
def State.actEdge (s : State) (m : Nat) : State :=
  let c := s.cmp
  -- a FENCED package leaves FENCED only on UNFENCE (R319)
  if c.act = .fenced then s
  else if c.leavePend then
    ({ s with cmp := { c with leavePend := false, act := .joining, ready := false, joinRun := 0, joinAt := none, counted := false } }).cmpEvt 9
  else if c.dual then s.fallBack
  else if c.act = .driving ∧ c.yield ∧ s.yieldEn ∧ s.peerReady (m - 1) then ((s.leaveDriving .shadow).takeTick).cmpEvt 1
  else
    match c.handoff with
    | some (h, gives) =>
      if m ≥ h then (if gives then ((s.leaveDriving .shadow).takeTick).cmpEvt 2 else s.enterDriving.cmpEvt 2)
      else if m + 1 = h ∧ !gives then { s with pins := { s.pins with ownOut := true, ownHigh := false } }
      else s
    | none =>
      if (c.act = .shadow ∨ c.act = .detached) ∧ s.pins.ownHigh ∧ s.pins.ownHighAt + 12 ≤ s.tick.tb then
        let peerDrives := match s.hbIn (m - 1) with
          | some b => hbAct b == 0
          | none => false
        if c.link && peerDrives then (s.pb .CMP_STATUS 0 F.CMP_STATUS.WIREFAULT true).cmpEvt 11
        else s.enterDriving.cmpEvt 0
      else s

/-- Deliver the records of the ended tick to the LEs of a SHADOW or FENCED package (R312). -/
def State.recEdge (s : State) (r : Nat) : State :=
  let x := s.rl r
  let s' := s.setRl r { x with recIn := none }
  if !s.copies then s'
  else
    match x.recIn with
    | some b => forEach (s'.serversOf r) (fun s j => (s.mput (leLocal (s.served j) + 0xFFE0) b).setLe j { s.leAt j with
        hage := BitVec.ofNat 32 ((s.tick.count + 65536 - u16 b 4) % 65536) }) s'
    | none => if x.recTick.isNone ∧ x.hrec.isNone then forEach (s'.serversOf r) (fun s j => s.setLe j { s.leAt j with hage := 0xFFFFFFFF }) s' else s'

/-- The joining package takes the counts of the grant at edge J (R321). -/
def State.joinEdge (s : State) : State :=
  match s.cmp.joinAt with
  | some (j, left, tb) =>
    if left ≤ 1 then
      { s with tick := { s.tick with count := j, tb := tb, edgeTb := tb }, cmp := { s.cmp with joinAt := none, counted := true } }
    else { s with cmp := { s.cmp with joinAt := some (j, left - 1, tb) } }
  | none => s

/-- The edge of tick m for a package of a pair. -/
def State.cmpEdge (s : State) (m : Nat) : State :=
  if !s.paired then s
  else
    let s := if s.cmp.act = .shadow then forEach s.rails State.mirrorRail s else s
    let s := s.hbAccount (m - 1)
    let s := s.actEdge m
    let s := { s with cmp := { s.cmp with
      yield := s.cmp.yieldNext, yieldNext := false,
      grant := match s.cmp.grant with
        | some j => if m ≥ j then none else some j
        | none => none } }
    let s := forEach s.rails State.recEdge s
    s.joinEdge

/-- The handover records of the ended tick, in rail order (R307). -/
def State.endedRecs (s : State) : List Bytes :=
  s.rails.filterMap (fun r => match (s.rl r).hrec with
    | some (b, t) => if t + 1 = s.tick.count then some b else none
    | none => none)

/-- The heartbeat leaves at the edge, and after it, from a DRIVING package, the records of the ended tick. -/
def State.hbSend (s : State) : State :=
  if s.sendsLink then { s with cmp := { s.cmp with hbOut := s.mkHb, recOut := if s.cmp.act = .driving then s.endedRecs else [] } }
  else { s with cmp := { s.cmp with hbOut := [], recOut := [] } }

/-! ### Commands -/

/-- A heartbeat arrived whole. -/
def hbWhole (b : Bytes) : Bool := b.length == 64 && u16 b 0 == 0x4842 && crc32 (b.take 60) == u32 b 60

/-- A heartbeat is valid (R308). -/
def State.hbValid (s : State) (b : Bytes) : Bool :=
  hbWhole b &&
  (u64 b 8 == s.tick.count || (s.cmp.act == .joining && !s.cmp.counted) || hbAct b == 3)

/-- The DRIVING package grants a join (R321); how far ahead of the least 4 ticks it names J is a free value. -/
def State.giveGrant (s : State) (b : Bytes) : State :=
  if s.cmp.act == .driving && s.joinEn && slice b 24 8 == s.pairDigest && !hbFlag b 2 && s.cmp.grant.isNone then
    { s with cmp := { s.cmp with grant := some (s.tick.count + 5 + s.freeNat) } }.tick1
  else s

/-- The package takes the grant that a heartbeat of the DRIVING package carries (R321). -/
def State.takeGrant (s : State) (b : Bytes) : State :=
  if hbAct b == 0 && hbFlag b 4 && slice b 24 8 == s.pairDigest then
    let t := u64 b 8
    let j := t + (u32 b 4 + 2 ^ 32 - t % 2 ^ 32) % 2 ^ 32
    { s with cmp := { s.cmp with joinAt := if j > t then some (j, j - t, u64 b 16 + (j - t) * s.tlen) else s.cmp.joinAt } }
  else s

/-- Step 4 of R321 is repeated for a DETACHED package whose count differs: its heartbeat asks for the grant, and it takes the grant, though R308 calls neither heartbeat valid (log entry 168). -/
def State.joinAgain (s : State) (b : Bytes) : State :=
  if !hbWhole b || u64 b 8 == s.tick.count then s
  else if s.cmp.act = .driving ∧ hbAct b = 2 then s.giveGrant b
  else if s.cmp.act = .detached then s.takeGrant b
  else s

/-- PAIR_OWN_N was read high, and the heartbeat shows the companion newly DRIVING: it then pulls the net low, unless the wire between the two is open, which no command tells: free (log entry 169). While the companion goes on driving, what PAIR_OWN_HIGH tells stands. -/
def State.ownFell (s : State) (b : Bytes) : State :=
  let newly := hbAct b == 0 && (match s.cmp.hb with
    | some o => hbAct o != 0
    | none => true)
  if s.pins.ownHigh && newly then { s with pins := { s.pins with ownHigh := s.freeBit } }.tick1 else s

/-- COMPANION_HEARTBEAT (R308, R310, R316, R320, R321). -/
def execCompanionHeartbeat (b : Bytes) (s : State) : Out :=
  .next (if !s.paired || !s.cmp.link then s
  else if !s.hbValid b then s.joinAgain b
  else
    let old := s.cmp.hb
    let same := slice b 24 8 == s.pairDigest
    let s := s.ownFell b
    let s := { s with cmp := { s.cmp with hb := some b, hbTick := s.tick.count, gpio := ofBytes (slice b 40 16) } }
    let s := { s with pins := { s.pins with fenceLow := s.pins.fenceOut || hbFlag b 1 } }
    let s := s.pb .CMP_STATUS 0 F.CMP_STATUS.DIGEST_OK same
    let s := if s.cmp.lost then ({ s with cmp := { s.cmp with lost := false } }).cmpEvt 7 else s
    let join := (s.cmp.act == .joining && hbAct b == 0) || (s.cmp.act == .driving && hbAct b == 3)
    let s := if join && !same then s.cmpEvt 10 else s
    -- the companion left
    let wasLeft := match old with
      | some o => hbFlag o 2
      | none => true
    let s := if hbFlag b 2 && hbAct b == 3 && !wasLeft then s.cmpEvt 9 else s
    -- both PRIMARY
    let s := if s.cmp.role = 1 ∧ hbRole b = 1 ∧ !s.gb .CMP_STATUS 0 F.CMP_STATUS.DUALPRI then
        let s := (s.pb .CMP_STATUS 0 F.CMP_STATUS.DUALPRI true).cmpEvt 12
        if s.keep.serial.toNat > u64 b 32 then { s with cmp := { s.cmp with dual := true } } else s
      else s
    let s := if hbAct b == 3 then s.giveGrant b else s
    -- the joiner takes the grant once its tick is aligned
    let s := if s.cmp.act == .joining && !s.cmp.counted && s.gb .TICK_STATUS 0 F.TICK_STATUS.ALIGNED then s.takeGrant b else s
    -- a handoff named by the driving package: the heartbeats of ticks H − 2 and H − 1 carry it, and one lost of them abandons it
    let h := s.tick.count + (u32 b 4 + 2 ^ 32 - s.tick.count % 2 ^ 32) % 2 ^ 32
    if s.cmp.act == .shadow && s.cmp.ready && hbAct b == 0 && hbFlag b 3 && s.cmp.handoff.isNone && h == s.tick.count + 2 then
      { s with cmp := { s.cmp with handoff := some (h, false) } }
    else s)

/-- HB_LOST (R310): three lost heartbeats in a row. -/
def execHbLost (s : State) : Out :=
  .next (if s.paired && !s.cmp.lost && (decide (s.cmp.hbLost ≥ 3) || !s.cmp.link) then
    ({ s with cmp := { s.cmp with lost := true } }.inc .CMP_HB_MISS 0 F.CMP_HB_MISS.COUNT 1).cmpEvt 6 else s)

/-- A copied record's state (R309, R311). -/
def State.copyRecord (s : State) (r : Nat) (b : Bytes) : State :=
  let x := s.rl r
  let st := u8 b 1
  s.setRl r { x with st := RState.ofCode (st % 16), pg := bit st 4, s := u16 b 2 % 16384, nrec := u8 b 6 % 128 }

/-- HANDOVER_RECORD_RX (R311, R312). -/
def execHandoverRecordRx (b : Bytes) (s : State) : Out :=
  .next (
    let r := u8 b 0 % 64
    let chk := crc8 (((b.take 7) ++ (b.drop 8)).map (·.toNat)) == u8 b 7
    let tick := (u16 b 4 + 1) % 65536 == s.tick.count % 65536
    let same := match s.hbIn s.tick.count with
      | some h => slice h 24 8 == s.pairDigest
      | none => s.gb .CMP_STATUS 0 F.CMP_STATUS.DIGEST_OK
    if !s.paired || s.cmp.act == .driving || s.cmp.act == .blocked then s
    else if b.length ≠ 24 ∨ !chk ∨ !tick ∨ !same then s.inc .CMP_REC_ERR 0 F.CMP_REC_ERR.COUNT 1
    else if (s.railE r).isNone then s
    else
      let s := s.setRl r { s.rl r with recIn := some b, recTick := some s.tick.count }
      if s.copies then s.copyRecord r b else s)

/-- COMPANION_LINK_DOWN (R310, R321): a SHADOW package becomes DETACHED. A transfer that runs ends with LINK by MIG_DONE. -/
def execCompanionLinkDown (s : State) : Out :=
  .next (if !s.paired then s
  else
    let a : Act := if s.cmp.act = .shadow then .detached else s.cmp.act
    let s := { s with cmp := { s.cmp with link := false, joinRun := 0, hbOut := [], recOut := [], act := a, ready := false, mig := s.cmp.mig.map (fun x => (if x.1 = 0 then 2 else x.1, x.2)) } }
    if s.cmp.lost then s
    else
      let s := { s with cmp := { s.cmp with lost := true } }
      (s.inc .CMP_HB_MISS 0 F.CMP_HB_MISS.COUNT 1).cmpEvt 6)

/-- COMPANION_LINK_UP (R307): every lane that CMP.LANES enables has block lock. -/
def execCompanionLinkUp (s : State) : Out :=
  .next (if s.paired ∧ u8 s.cmpD 1 ≠ 0 then { s with cmp := { s.cmp with link := true } } else s)

/-- JOINED (R321): sixteen ticks of valid heartbeats and records; a package whose tick follows TICK_IN by its role is aligned as well (R324). -/
def execJoined (s : State) : Out :=
  .next (
    let c := s.cmp
    let ok := (c.act == .joining && !c.leave && s.joinEn && c.counted) || c.act == .detached
    if s.paired && ok && c.link && decide (c.joinRun ≥ 16) && (c.role != 2 || s.gb .TICK_STATUS 0 F.TICK_STATUS.ALIGNED) then
      ({ s.dropPlans with cmp := { c with act := .shadow, ready := true } }).cmpEvt 8
    else s)

/-- OWN_WATCHDOG (R304): 1.5 × T_tick since the last tick edge. -/
def execOwnWatchdog (s : State) : Out := .next { s with pins := { s.pins with ownOut := false } }

/-- PAIR_OWN_HIGH (R305): the net has read high for 40 ns. -/
def execPairOwnHigh (s : State) : Out :=
  .next (if s.pins.ownOut ∨ s.pins.ownHigh then s else { s with pins := { s.pins with ownHigh := true, ownHighAt := s.tick.tb } })

/-- PAIR_FENCE_LOW (R40, R317). -/
def execPairFenceLow (s : State) : Out :=
  .next (if !s.paired || s.pins.fenceOut then s
  else
    let s := forEach (List.range 64) State.plFollow s.dropPlans
    let s := { s with
      pins := { s.pins with fenceLow := true, plOn := false, ownOut := false }
      cmp := { s.cmp with act := .fenced, ready := false, joinRun := 0, handoff := none, grant := none, fenceReq := false, yield := false, leavePend := false } }
    s.cmpEvt 3)

/-- FENCE_ASSERT (R318): the instant at which a fence that has been asked for is asserted. -/
def execFenceAssert (s : State) : Out :=
  .next (if !s.cmp.fenceReq then s
  else
    let s := { s with cmp := { s.cmp with fenceReq := false } }
    if s.pins.fenceLow || !(s.cmp.act == .shadow || s.cmp.act == .driving) then s
    else ({ s with pins := { s.pins with fenceOut := true, fenceLow := true } }).cmpEvt 4)

/-- PAIR_FENCE_N reads low. No command tells of its rise: once the heartbeats that told of FENCE_OUT have stopped, its level is free (log entry 98). -/
def State.fenceNet (s : State) : Bool := s.pins.fenceLow && (s.pins.fenceOut || s.cmp.hbLost == 0 || s.freeBit)

/-- A write of CMP_CTL (R316, R318, R319, R322). -/
def State.cmpCtl (s : State) (v : W32) : State :=
  let b (i : Nat) : Bool := bit v.toNat i
  let c := s.cmp
  let handOk := b 0 && c.act == .driving && s.paired && (s.peerReady s.tick.count || s.peerReady (s.tick.count - 1)) && c.handoff.isNone
  let fenceOk := b 1 && s.paired && (c.act == .shadow || c.act == .driving)
  let unfOk := b 3 && c.act == .fenced && !s.fenceNet
  let leaveOk := b 5 && (c.act == .shadow || c.act == .detached)
  let bad := (b 0 && !handOk) || (b 1 && !fenceOk) || (b 3 && !unfOk) || (b 5 && !leaveOk)
  let s := (s.pb .CMP_STATUS 0 F.CMP_STATUS.CTLREF bad).tick1
  let s := if handOk then { s with cmp := { s.cmp with handoff := some (s.tick.count + 3, true) } } else s
  let s := if fenceOk then { s with cmp := { s.cmp with fenceReq := true } } else s
  let s := if b 2 then { s with pins := { s.pins with fenceLow := s.pins.fenceLow && !s.pins.fenceOut, fenceOut := false } } else s
  let s := if unfOk then { s with cmp := { s.cmp with act := .detached, joinRun := 0 }, pins := { s.pins with fenceLow := false } } else s
  let s := if b 4 then { s with cmp := { s.cmp with leave := false, joinRun := if s.cmp.act = .joining then 0 else s.cmp.joinRun,
                                                     joinAt := if s.cmp.act = .joining then none else s.cmp.joinAt,
                                                     counted := s.cmp.counted && s.cmp.act != .joining } } else s
  if leaveOk then { s with cmp := { s.cmp with leave := true, leavePend := true } } else s

/-! ### Stall migration (R325) -/

/-- The companion as a requester on the fabric. -/
def cmpReq : Req := { agent := .companion, lvl := .m, sid := 0, cls := 0 }

/-- A 64-bit address held in a LO and HI pair. -/
def State.addr64 (s : State) (lo hi : Reg) (i : Nat) : Nat := (s.rd lo i).toNat + (s.rd hi i).toNat % 65536 * 2 ^ 32

/-- A write of CMP_MIG_CTL: GO reads the record of 4 KiB. Without a companion on the link the code is NOPEER, with a record that cannot be read BUSERR (log entry 170). -/
def State.migCtl (s : State) (v : W32) : State :=
  let st := F.CMP_MIG_CTL.STALL.get v
  let s := s.pf .CMP_MIG_CTL 0 F.CMP_MIG_CTL.STALL st
  if s.cmp.mig.isSome ∨ !bit v.toNat 31 then s
  else
    let x : Nat × Bytes :=
      if !s.paired || !s.cmp.link then (4, [])
      else match s.memRd cmpReq (s.addr64 .CMP_MIG_ADDR_LO .CMP_MIG_ADDR_HI 0 / 4096 * 4096) 4096 with
        | some b => (0, b)
        | none => (3, [])
    { s with cmp := { s.cmp with mig := some (x.1, st, x.2) } }

/-- MIG_DONE (R325): the send ends. A code that the part knows itself stands; else the receiving package answered OK or FULL, and the record has gone out with its CRC-32. A package that sends no link data cannot have sent it. -/
def execMigDone (code : Fin 5) (s : State) : Out :=
  .next (match s.cmp.mig with
    | none => s
    | some (k, _, b) =>
      let fin (s : State) (c : Nat) : State :=
        (({ s with cmp := { s.cmp with mig := none } }).wr .CMP_MIG_STAT 0 (BitVec.ofNat 32 (2 ^ 31 + c))).cmpEvt 14
      if k ≠ 0 then fin s k
      else if 1 < code.val ∨ s.sendsLink = false ∨ s.cmp.act = .joining then s
      else fin { s with cmp := { s.cmp with migOut := b ++ leBytes 4 (crc32 b) } } code)

/-- MIG_RX (R325): a whole record of 4 KiB with a matching CRC; refused while the slot is FULL. -/
def execMigRx (b : Bytes) (stall : BitVec 8) (s : State) : Out :=
  if !(Instr.migRx b stall).wf then .fault .illFormed
  else .next (if !s.paired || !s.cmp.link || s.gb .CMP_MIG_RXSTAT 0 F.CMP_MIG_RXSTAT.FULL then s
  else
    let a := s.addr64 .CMP_MIG_RX_LO .CMP_MIG_RX_HI 0 / 4096 * 4096
    let (s, ok) := s.memWr cmpReq a b
    if !ok then s
    else (s.wr .CMP_MIG_RXSTAT 0 (BitVec.ofNat 32 (2 ^ 31 + s.classOf 0xF0 0 * 256 + stall.toNat))).cmpEvt 13)

end Sys2Proof.Machine
end

