-- ==== Sys2Proof/Machine/Funnel.lean ====
section
/-!
DEFINITION. The towpath funnel: frames of the sources' bytes to the trace buffer or to the port (R552, R558, R559).
-/
namespace Sys2Proof.Machine

/-- The funnel as a requester of memory. A frame whose write the bus refuses is lost (log entry 155). -/
def trcReq : Req := { agent := .ledger, lvl := .m, sid := 0, cls := 0 }

/-- The next frame of a source. -/
def State.frameOf (s : State) (id : Nat) : Bytes :=
  let b := (s.tsrc id).fifo.take 14
  leBytes 2 id ++ b ++ List.replicate (14 - b.length) 0

def State.lanes (s : State) : Nat :=
  match s.gf .TRC_CTL 0 F.TRC_CTL.LANES with
  | 1 => 1 | 2 => 2 | 3 => 4 | _ => 0

/-- What a lane of the port sends (R559): a control character of 8b/10b, or a byte. -/
inductive LineSym where
  | k27_7
  | k28_5
  | data (b : Byte)
deriving DecidableEq, Repr

/-- K27.7 and the 16 bytes of the lane's frame, or K28.5 while it has none (R559). -/
def State.laneSends (s : State) (l : Nat) : List LineSym :=
  match tget? s.trc.out l with
  | some f => .k27_7 :: f.map .data
  | none => [.k28_5]

/-- One frame of a source to the sink, or none: then the lane whose turn it is idles; with no sink or no lane the frame is dropped (log entry 155). -/
def State.funnel (s : State) (id : Nat) : State :=
  let x := s.tsrc id
  let sink := s.gf .TRC_CTL 0 F.TRC_CTL.SINK
  if x.fifo = [] then { s with trc := { s.trc with out := tdel s.trc.out (s.trc.lane % max 1 s.lanes) } }
  else
    let f := s.frameOf id
    let s' := s.setTsrc id { x with fifo := x.fifo.drop 14 }
    if sink = 1 then
      if s.gb .TRC_STATUS 0 F.TRC_STATUS.FULL then s'.inc .TRC_LOST 0 F.TRC_LOST.COUNT 1
      else
        let base := (s.rd .TRC_BUF_BASE_LO 0).toNat / 4096 * 4096 + 2 ^ 32 * ((s.rd .TRC_BUF_BASE_HI 0).toNat % 65536)
        let size := 4096 * ((s.rd .TRC_BUF_SIZE 0).toNat % 2 ^ 20)
        let w := (s.rd .TRC_BUF_WPTR 0).toNat
        if w + 16 > size then
          if s.gb .TRC_CTL 0 F.TRC_CTL.RING && decide (16 ≤ size) then (s'.memWr trcReq base f).1.wr .TRC_BUF_WPTR 0 16
          else (s'.pb .TRC_STATUS 0 F.TRC_STATUS.FULL true).inc .TRC_LOST 0 F.TRC_LOST.COUNT 1
        else
          let w' := w + 16
          let s' := (s'.memWr trcReq (base + w) f).1
          if w' < size then s'.wr .TRC_BUF_WPTR 0 (BitVec.ofNat 32 w')
          else if s.gb .TRC_CTL 0 F.TRC_CTL.RING then s'.wr .TRC_BUF_WPTR 0 0
          else (s'.wr .TRC_BUF_WPTR 0 (BitVec.ofNat 32 w')).pb .TRC_STATUS 0 F.TRC_STATUS.FULL true
    else if sink = 2 then
      if s.lanes = 0 then s'
      else
        let l := s.trc.lane % s.lanes
        { s' with trc := { s'.trc with lane := (l + 1) % s.lanes, out := tset s'.trc.out l f } }
    else s'

/-- Drain a FIFO to the sink: `k` frames at most (R560). -/
def State.drainFifo (s : State) (id : Nat) : Nat → State
  | 0 => s
  | k + 1 => (s.funnel id).drainFifo id k

/-- Every source's FIFO is empty (R560). -/
def State.trcDrained (s : State) : Bool := s.trc.src.all (fun e => decide (e.2.fifo = []))

end Sys2Proof.Machine
end

