-- ==== Sys2Proof/Machine/Evd.lean ====
section
/-!
DEFINITION. The event distributor: presentation, moderation, acknowledge and end of interrupt (R435 to R445).
-/
namespace Sys2Proof.Machine

/-- Presentations whose source may no longer be presented are withdrawn (R444). -/
def State.withdraw (s : State) : State := s.setPres (s.evd.pres.filter (fun e => s.mayStand e.2 e.1))

/-- R436: some enabled pending source is routed to a fallback core that is unavailable. -/
def State.stranded (s : State) : Bool :=
  s.enPend.any (fun x => !s.available (s.route x))

/-- ALERT_N is driven low: by R101 or R102, or while a source is stranded (R436). -/
def State.alertLow (s : State) : Bool := s.pins.alertBoot || s.stranded

/-- R442: a read of EVD_ACK by core t. -/
def State.evdAck (s : State) (t : Nat) : State × W32 :=
  match tget? s.evd.pres t with
  | none => (s, 0x000FFFFF)
  | some x =>
    let v := BitVec.ofNat 32 (s.prio x * 65536 + x)
    let md := s.gb .EVD_SRC_CFG x F.EVD_SRC_CFG.MOD
    let s := (s.clrB .EVD_PEND_SET (x / 32) (x % 32)).setB .EVD_ACTIVE (x / 32) (x % 32)
    let s := { s with evd := { s.evd with actOn := tset s.evd.actOn x t, pres := tdel s.evd.pres t,
                                          modAt := if md then tset s.evd.modAt t s.tick.count else s.evd.modAt } }
    (s, v)

/-- R443: a write of EVD_EOI by core t. -/
def State.evdEoi (s : State) (t : Nat) (v : W32) : State :=
  let x := v.toNat % 65536
  if x < 2048 ∧ tget? s.evd.actOn x = some t then
    let s := s.clrB .EVD_ACTIVE (x / 32) (x % 32)
    { s with evd := { s.evd with actOn := tdel s.evd.actOn x } }
  else s.inc .EVD_TGT_STAT t F.EVD_TGT_STAT.BADEOI 1

/-- R444: a write of EVD_PMR by core t; values above 16 are stored as 16. -/
def State.evdPmr (s : State) (t : Nat) (v : W32) : State := (s.pf .EVD_PMR t F.EVD_PMR.PMR (min 16 (v.toNat % 32))).withdraw

/-- R432: EVD_SWGEN raises source 1024 + IDX. -/
def State.evdSwgen (s : State) (v : W32) : State := s.raise (1024 + v.toNat % 64)

/-- R437: a write of EVD_FALLBACK. -/
def State.evdFallback (s : State) (v : W32) : State :=
  if s.inService (v.toNat % 32 / 8) then (s.pf .EVD_FALLBACK 0 F.EVD_FALLBACK.CORE (v.toNat % 32)).withdraw
  else s.pb .EVD_STATUS 0 F.EVD_STATUS.FBREF true

/-- R433: EN of the sources 32 k + i with bit i of v. -/
def State.evdEnSet (s : State) (k : Nat) (v : W32) : State := s.wr .EVD_EN_SET k (s.rd .EVD_EN_SET k ||| v)
def State.evdEnClr (s : State) (k : Nat) (v : W32) : State := (s.wr .EVD_EN_SET k (s.rd .EVD_EN_SET k &&& ~~~v)).withdraw
/-- A write of EVD_PEND_SET raises its sources; 837 to 1023 are never raised (R528). -/
def State.evdPendSet (s : State) (k : Nat) (v : W32) : State :=
  forEach ((onesOf v.toNat).filter (fun b => decide (32 * k + b < 837) || decide (1024 ≤ 32 * k + b))) (fun s b => s.raise (32 * k + b)) s
def State.evdPendClr (s : State) (k : Nat) (v : W32) : State := (s.wr .EVD_PEND_SET k (s.rd .EVD_PEND_SET k &&& ~~~v)).withdraw

/-- R444: a write of EVD_SRC_CFG; a new target in C1 or C2 is woken for a pending source. -/
def State.evdSrcCfg (s : State) (x : Nat) (v : W32) : State :=
  let t := F.EVD_SRC_CFG.TARGET.get v
  let v := if t < 32 then v else F.EVD_SRC_CFG.TARGET.put v 0x3F
  let old := s.route x
  let s := (s.plainWrite .EVD_SRC_CFG x v).withdraw
  if s.evEn x && s.evPend x && !s.evAct x && decide (s.route x ≠ old) then s.wake (s.route x) else s

/-- An EVT entry's configuration word (R445). -/
def evtCfg (e : Bytes) : Nat :=
  let t := u8 e 2
  (if t < 32 then t else 0x3F) * 256 + (if bit (u8 e 4) 1 then 16 else 0) + u8 e 3 % 16

/-- R433: load the sources from the EVT section; every other source takes its reset column. -/
def State.evdLoad (s : State) : State :=
  let s := s.clearRegs [.EVD_EN_SET, .EVD_PEND_SET, .EVD_ACTIVE, .EVD_SRC_CFG, .EVD_PMR, .EVD_TGT_MOD, .EVD_TGT_STAT, .EVD_FALLBACK, .EVD_STATUS]
  let s := { s with evd := { actOn := [], pres := [], modAt := [] } }
  forEach (tget [] s.img.sec tEVT) (fun s e =>
    let s := s.wr .EVD_SRC_CFG e.1 (BitVec.ofNat 32 (evtCfg e.2))
    if bit (u8 e.2 4) 0 then s.setB .EVD_EN_SET (e.1 / 32) (e.1 % 32) else s) s

/-! ### Commands -/

/-- EVD_PRESENTATION (R438). -/
def execEvdPresentation (t : Fin 32) (s : State) : Out := .next (s.present t)

/-- EVD_MODERATION_RELEASE (R440): at the edge of tick a + INTERVAL. -/
def execEvdModerationRelease (t : Fin 32) (s : State) : Out :=
  .next (match tget? s.evd.modAt t with
    | some a =>
      if a + s.gf .EVD_TGT_MOD t F.EVD_TGT_MOD.INTERVAL ≤ s.tick.count then ({ s with evd := { s.evd with modAt := tdel s.evd.modAt t } }).present t else s
    | none => s)

end Sys2Proof.Machine
end

