-- ==== Sys2Proof/Machine/Mbx.lean ====
section
/-!
DEFINITION. Mailboxes: stamps, queues, the acknowledge registers and the notifications of their port-side owners (R446 to R457, R536).
-/
namespace Sys2Proof.Machine

def State.mb (s : State) (m : Nat) : Mailbox := tget Mailbox.init s.mbx m
def State.setMb (s : State) (m : Nat) (x : Mailbox) : State := { s with mbx := tset s.mbx m x }
/-- A direction: false AB, true BA. -/
def Mailbox.dir (x : Mailbox) (ba : Bool) : MbxDir := if ba then x.ba else x.ab
def Mailbox.setDir (x : Mailbox) (ba : Bool) (d : MbxDir) : Mailbox := if ba then { x with ba := d } else { x with ab := d }
def State.setDir (s : State) (m : Nat) (ba : Bool) (d : MbxDir) : State := s.setMb m ((s.mb m).setDir ba d)

/-- R448, R527: the origin code of port controller u, if it stamps. -/
def portOrigin (u : Nat) : Option Nat :=
  if u ≤ 2 then some (0x20 + u) else if u ≤ 4 then some (0x30 + (u - 3)) else if u ≤ 12 then some (0x38 + (u - 5))
  else if u = 13 then some 0x40 else if u ≤ 29 then some (0x50 + (u - 14)) else if u ≤ 33 then some (0x60 + (u - 30))
  else if 42 ≤ u ∧ u ≤ 45 then some (0x70 + (u - 42)) else none

/-- The controller of an origin code. -/
def originPort (o : Nat) : Option Nat := (List.range 52).find? (fun u => portOrigin u = some o)

/-- The origin code of a requester (R448). -/
def originOf (q : Req) : Option Nat :=
  match q.agent with
  | .core n => some n.val
  | .port u => portOrigin u
  | .dma e => some (0xA0 + e.val)
  | .companion => some 0x80
  | .debug => some 0x90
  | _ => none

/-- The class of the debug port (R566). -/
def State.dbgClass (s : State) : Nat :=
  match s.keep.lcInForce with
  | 1 => 0
  | 3 => 0
  | 7 => s.classOf 0xF1 0
  | _ => 7

/-- The class bits of a stamp (R449): cores by their level, ports by their CLASS entry; SUB is the port's (R530), the requester's SID field carrying it. -/
def State.stampClass (s : State) (q : Req) : Nat :=
  match q.agent with
  | .core _ => 8 + q.lvl.num
  | .port u => s.classOf u q.sid.toNat
  | .companion => s.classOf 0xF0 0
  | .debug => s.dbgClass
  | _ => 7

/-- The owner of a side: true for side B. -/
def State.sideOwner (s : State) (m : Nat) (b : Bool) : Nat := s.gf .MBX_CFG m (if b then F.MBX_CFG.SIDE_B else F.MBX_CFG.SIDE_A)
/-- A requester with this origin owns the side (R446). -/
def State.owns (s : State) (m : Nat) (b : Bool) (o : Option Nat) : Bool :=
  match o with
  | some o => if s.sideOwner m b = 0xFF then decide (o < 32) else decide (s.sideOwner m b = o)
  | none => false

/-- Stalls in STATE `st` with a VALID slot for mailbox m: their maps of it (R495). -/
def State.mapsOf (s : State) (m : Nat) (st : Nat) : List (Nat × Bool) :=
  (tget [] s.regs Reg.STL_MGR_STAT.ctorIdx).flatMap (fun e =>
    if F.STL_MGR_STAT.STATE.get e.2 = st then
      ((List.range 8).filter (fun i => s.gb .STL_MBX_MAP (e.1 * 8 + i) F.STL_MBX_MAP.VALID && decide (s.gf .STL_MBX_MAP (e.1 * 8 + i) F.STL_MBX_MAP.MBX = m))).map
        (fun i => (e.1, s.gb .STL_MBX_MAP (e.1 * 8 + i) F.STL_MBX_MAP.SIDE))
    else [])

/-- R501: a FROZEN stall maps the mailbox. -/
def State.frozenMbx (s : State) (m : Nat) : Bool := !(s.mapsOf m 4).isEmpty
/-- R501: a FROZEN stall maps the side other than `side`. -/
def State.frozenOther (s : State) (m : Nat) (side : Bool) : Bool := (s.mapsOf m 4).any (fun p => p.2 != side)

/-! ### Notifying a port-side owner (R536) -/

def State.xp (s : State) (u : Nat) : ExtPort := tget ExtPort.init s.ext u
def State.setXp (s : State) (u : Nat) (x : ExtPort) : State := { s with ext := tset s.ext u x }
def State.linkUp (s : State) (u : Nat) : Bool := s.gb .PORT_STAT u F.PORT_STAT.LINK

/-- Controller u exists in the image, is not fenced, and SYSRST_N does not hold it in reset (R95). -/
def State.portOn (s : State) (u : Nat) : Bool := (s.portE u).isSome && !s.fenced 10 u && !s.pins.sysrst

/-- The side that an event bit of MBX_EVT concerns: ARRIVE and the receiver, ACK and TMO and the sender. -/
def evtSide (b : Nat) : Bool :=
  match b with
  | 0 => true | 1 => false | 2 => false | 3 => true | 4 => false | _ => true

/-- A frame on a UART: 0x7E, its length, the frame, and its CRC-32 (R535); log entry 214. -/
def uartFrame (b : Bytes) : Bytes := [0x7E, BitVec.ofNat 8 b.length] ++ b ++ leBytes 4 (crc32 b)

/-- The NOTIFY frame of event bit b of mailbox m (R535, R536): its direction, and COUNT 0. -/
def notifyBytes (m b : Nat) : Bytes := (leBytes 2 0x4D42).reverse ++ [5, BitVec.ofNat 8 (b % 2 * 128 + m), 0, 0, 0, 0]

/-- What notifies the owner by its kind of port (R536): nothing where no frame of it has named mailbox m yet (log entry 220). -/
def State.notifyOut (s : State) (u m b : Nat) : Option PortOut :=
  match (portKind u).1 with
  | 1 => some (.msix (m % 64))
  | 3 | 4 | 5 => (tget? (s.xp u).src m).map (fun d => .frame d (notifyBytes m b))
  | 6 => some (.hostNotify m)
  | 9 => some (.frame 0 (uartFrame (notifyBytes m b)))
  | _ => none

def State.notifyPort (s : State) (m b : Nat) : State :=
  match originPort (s.sideOwner m (evtSide b)) with
  | none => s
  | some u =>
    -- nothing leaves a fenced controller (R12, R13)
    match s.linkUp u && !s.fenced 10 u, s.notifyOut u m b with
    | true, some o => s.setXp u { s.xp u with out := o }
    | _, _ => s.inc .PORT_ERR1 u F.PORT_ERR1.DROPPED 1

/-- Set a bit of MBX_EVT, raise source 256 + m, and notify a port-side owner while the bit is enabled. -/
def State.mEvt (s : State) (m b : Nat) : State :=
  if s.getB .MBX_EVT m b then s
  else
    let s := s.mbxEvt m b
    if s.getB .MBX_EVT_EN m b then s.notifyPort m b else s

/-! ### Pushing, reading, acknowledging -/

/-- R453: a push moves the acknowledge state of its direction to WAIT, but in WAIT. -/
def MbxDir.wait (d : MbxDir) (now : Nat) : MbxDir := if d.st = 1 then d else { d with st := 1, code := 0, w := now }

/-- R447, R450, R451, R453: push a word with the class, stall and origin of its stamp. A word that is dropped is a push all the same for the acknowledge state. -/
def State.mbxPush (s : State) (m : Nat) (ba : Bool) (cls stall org : Nat) (w : W32) : State :=
  let d := (s.mb m).dir ba
  -- the sender of AB is side A
  if d.q.length ≥ 8 ∨ s.frozenOther m ba = true then (s.setDir m ba (d.wait s.tick.count)).inc .MBX_ERR m (if ba then F.MBX_ERR.BA else F.MBX_ERR.AB) 1
  else
    let st := BitVec.ofNat 32 (cls * 2 ^ 28 + stall * 2 ^ 20 + org * 2 ^ 12 + d.seq)
    (s.setDir m ba ({ d with q := d.q ++ [(st, w)], seq := (d.seq + 1) % 4096 }.wait s.tick.count)).mEvt m (if ba then 1 else 0)

/-- R452: remove the oldest word; stamp and word, 0 when the queue is empty. -/
def State.mbxPop (s : State) (m : Nat) (ba : Bool) : State × W32 × W32 :=
  let d := (s.mb m).dir ba
  match d.q with
  | [] => (s, 0, 0)
  | (st, w) :: r => (s.setDir m ba { d with q := r }, st, w)
/-- The stamp of the oldest word. -/
def State.mbxStamp (s : State) (m : Nat) (ba : Bool) : W32 :=
  match ((s.mb m).dir ba).q with
  | [] => 0
  | (st, _) :: _ => st

/-- R454: a write of CODE; `ok` says that the receiving side's owner writes it. -/
def State.mbxCode (s : State) (m : Nat) (ba ok : Bool) (v : W32) : State :=
  let d := (s.mb m).dir ba
  let c := v.toNat % 65536
  if ok ∧ d.st = 1 ∧ c ≠ 0xFFFF then (s.setDir m ba { d with st := 2, code := c }).mEvt m (if ba then 3 else 2)
  else s.inc .MBX_ERR2 m (if ba then F.MBX_ERR2.BA else F.MBX_ERR2.AB) 1

/-- The acknowledge register. -/
def State.mbxAck (s : State) (m : Nat) (ba : Bool) : W32 :=
  let d := (s.mb m).dir ba
  BitVec.ofNat 32 (d.st * 65536 + d.code)

/-- R457: a reset leaves MBX_CFG and MBX_TMO unchanged. -/
def State.mbxReset (s : State) (m : Nat) : State :=
  let s := ((s.setMb m Mailbox.init).wr .MBX_EVT m 0).wr .MBX_EVT_EN m 0
  (s.wr .MBX_ERR m 0).wr .MBX_ERR2 m 0

/-- The mailbox answers: it is not fenced (R457). -/
def State.mbxOpen (s : State) (m : Nat) : Bool := !s.fenced 9 m

/-- R455 on one direction; a fenced mailbox sends nothing, and its time runs out after the fence (R12, R13). -/
def State.mbxTmo (s : State) (m : Nat) (ba : Bool) : State :=
  let d := (s.mb m).dir ba
  let t := (s.rd .MBX_TMO m).toNat
  if d.st = 1 ∧ t ≠ 0 ∧ d.w + t ≤ s.tick.count ∧ s.frozenMbx m = false ∧ s.mbxOpen m = true then (s.setDir m ba { d with st := 3, code := 0xFFFF }).mEvt m (if ba then 5 else 4)
  else s

/-! ### Commands -/

/-- MBX_TIMEOUT (R455): at the edge of tick w + MBX_TMO; what has run out at a tick edge the edge has ended (R456). -/
def execMbxTimeout (m : Fin 128) (ba : Bool) (s : State) : Out := .next (s.mbxTmo m ba)

end Sys2Proof.Machine
end

