-- ==== Sys2Proof/Machine/Dma.lean ====
section
/-!
DEFINITION. The DMA region engines: contexts, barges, bursts, starting, stopping and pausing (R469 to R492), with channels numbered engine × 1,024 + i.
-/
namespace Sys2Proof.Machine

def State.chn (s : State) (c : Nat) : Chan := tget Chan.init s.dma.ch c
def State.setChn (s : State) (c : Nat) (x : Chan) : State := { s with dma := { s.dma with ch := tset s.dma.ch c x } }
def engOf (c : Nat) : Nat := c / 1024
def State.dmaD (s : State) : Bytes := s.entD tDMA 0
/-- Address of the channel's table entry (R469). -/
def State.chEntry (s : State) (c : Nat) : Nat := u64 s.dmaD (8 * engOf c) + c % 1024 * 128
/-- The priority list (R492). -/
def State.prioCh (s : State) (c : Nat) : Bool := (List.range (u8 s.dmaD 32)).any (fun i => u16 s.dmaD (40 + 2 * i) = c)
def dmaReq (c : Nat) : Req := { agent := .dma (Fin.ofNat 4 (engOf c)), lvl := .m, sid := 0, cls := 0 }

/-! ### The barge (R473 to R475) -/

def bCtl (b : Bytes) : Nat := u32 b 24
def bEs (b : Bytes) : Nat := 2 ^ (bCtl b % 4)
def bSrcPort (b : Bytes) : Bool := bit (bCtl b) 2
def bDstPort (b : Bytes) : Bool := bit (bCtl b) 3
def bLine (b : Bytes) : Nat := bCtl b / 256 % 64
def bUsesPort (b : Bytes) : Bool := bSrcPort b || bDstPort b
def bC0 (b : Bytes) : Nat := u32 b 28
def bC1 (b : Bytes) : Nat := u16 b 32
def bC2 (b : Bytes) : Nat := u16 b 34
def bTotal (b : Bytes) : Nat := bC0 b * bC1 b * bC2 b
def bNext (b : Bytes) : Nat := u64 b 16

/-- Indexes of element k. -/
def bIdx (b : Bytes) (k : Nat) : Nat × Nat × Nat := (k % bC0 b, k / bC0 b % bC1 b, k / (bC0 b * bC1 b))
/-- The element at indexes. -/
def bAt (b : Bytes) (p : Nat × Nat × Nat) : Nat := p.1 + bC0 b * (p.2.1 + bC1 b * p.2.2)

/-- R474: address of element k on the source side, or on the destination side. -/
def bAddr (b : Bytes) (dst : Bool) (k : Nat) : Nat :=
  let o := if dst then 4 else 0
  let (i0, i1, i2) := bIdx b k
  let st (f : Nat) : Int := sgn 32 (u32 b (f + o))
  ((((u64 b (if dst then 8 else 0) : Nat) : Int) + i0 * st 36 + i1 * st 44 + i2 * st 52) % (2 ^ 48 : Int)).toNat

/-- R475. -/
def bBad (a : Nat) (b : Bytes) : Bool :=
  let es := bEs b
  let side (dst : Bool) : Bool :=
    let o := if dst then 4 else 0
    u64 b (if dst then 8 else 0) % es ≠ 0 ∨ u32 b (36 + o) % es ≠ 0 ∨ u32 b (44 + o) % es ≠ 0 ∨ u32 b (52 + o) % es ≠ 0
  decide (u32 b 60 ≠ 0) || decide (bCtl b ≥ 2 ^ 14) || decide (bCtl b / 64 % 4 ≠ 0) || (bSrcPort b && bDstPort b)
    || (!bSrcPort b && side false) || (!bDstPort b && side true) || decide (a % 64 ≠ 0) || (bUsesPort b && decide (bLine b ≥ 58))

/-- R477: how many elements from k on, of `n` at most, follow one another in a burst: within 256 bytes and one 256-byte block. -/
def bRun (b : Bytes) (dst : Bool) (k : Nat) : Nat → Nat
  | 0 => 0
  | n + 1 =>
    let a := bAddr b dst k
    if n = 0 ∨ bAddr b dst (k + 1) ≠ (a + bEs b) % 2 ^ 48 ∨ (a + bEs b) % 256 = 0 then 1 else 1 + bRun b dst (k + 1) n

/-! ### Ownership and windows (R470, R499) -/

def State.ownStall (s : State) (c : Nat) : Option Nat :=
  if s.gb .CH_OWN c F.CH_OWN.STALL_EN then some (s.gf .CH_OWN c F.CH_OWN.STALL) else none
/-- Channels that a stall owns. -/
def State.ownedCh (s : State) (st : Nat) : List Nat :=
  (tget [] s.regs Reg.CH_OWN.ctorIdx).filterMap (fun e => if s.ownStall e.1 = some st then some e.1 else none)

/-- The bytes lie wholly in one window of the stall that grants the access. -/
def State.stlWindow (s : State) (st a n : Nat) (write : Bool) : Bool :=
  (List.range 4).any (fun w =>
    let x := (s.rd .STL_WIN_A (st * 4 + w)).toNat
    let y := (s.rd .STL_WIN_B (st * 4 + w)).toNat
    let base := x * 4096 + y / 2 ^ 28 * 2 ^ 44
    bit y (if write then 27 else 26) && decide (base ≤ a) && decide (a + n ≤ base + y % 2 ^ 20 * 4096))

def State.chWindow (s : State) (c a n : Nat) (write : Bool) : Bool :=
  match s.ownStall c with
  | some st => s.stlWindow st a n write
  | none => true

/-! ### Accesses of an engine (R476) -/

/-- The mailbox and direction of a TX register. -/
def txReg (a : Nat) : Option (Nat × Bool) :=
  if 0x200000B00000 ≤ a ∧ a < 0x200000B08000 then
    (if a % 256 = 0x20 then some (a / 256 % 128, false) else if a % 256 = 0x40 then some (a / 256 % 128, true) else none)
  else none

/-- Elements of one access: a TX register is an access of its own. -/
def dmaRun (b : Bytes) (dst : Bool) (k n : Nat) : Nat := if (txReg (bAddr b dst k)).isSome then 1 else bRun b dst k n

/-- A read of n bytes; a TX register takes a 4-byte element and reads 0, as WO fields do (R4, R476). -/
def State.dmaRd (s : State) (c a n : Nat) : Option Bytes :=
  match txReg a with
  | some (m, _) => if n = 4 ∧ s.mbxOpen m = true then some (List.replicate 4 0) else none
  | none =>
    match s.rgn a with
    | .leCode _ => none
    | _ => s.memRd (dmaReq c) a n

def State.dmaWr (s : State) (c a es : Nat) (b : Bytes) : State × Bool :=
  match txReg a with
  | some (m, ba) =>
    let o := 0xA0 + engOf c
    if es = 4 ∧ s.mbxOpen m = true ∧ s.owns m ba (some o) = true then
      let lv := s.gf .CH_OWN c F.CH_OWN.LEVEL
      let through := s.gb .CH_OWN c F.CH_OWN.STALL_EN && decide (lv < 2)
      (s.mbxPush m ba (if through then 12 + lv else 8 + lv) (if s.gb .CH_OWN c F.CH_OWN.STALL_EN then s.gf .CH_OWN c F.CH_OWN.STALL else 0) o (BitVec.ofNat 32 (ofBytes b)), true)
    else (s, false)
  | none =>
    match s.memWr (dmaReq c) a b with
    | (s, true) => (s, true)
    | (s, false) => (s.denied (stlPage a), false)

/-- The controller of request line q (R544). -/
def linePort (q : Nat) : Nat :=
  if q < 32 then 14 + q / 2 else if q < 40 then 30 + (q - 32) / 2 else if q < 48 then 42 + (q - 40) / 2 else if q < 56 then 48 + (q - 48) / 2 else 46 + (q - 56)

/-! ### Contexts, lines, group bits, saving -/

def State.dmaGrp (s : State) (c : Nat) : State :=
  let g := c / 32
  let s' := s.setB .DMA_GRP_PEND g (c % 32)
  if s.rd .DMA_GRP_PEND g = 0 then s'.raise (384 + g) else s'

def State.freeLines (s : State) (c : Nat) : State := { s with dma := { s.dma with held := s.dma.held.filter (fun e => e.2 ≠ c) } }

/-- Save a context to bytes 64 to 127 of its table entry (R469, R471). -/
def State.chSave (s : State) (c : Nat) : State :=
  let x := s.chn c
  (s.memWr (dmaReq c) (s.chEntry c + 64)
    (leBytes 8 x.next ++ leBytes 8 x.cur ++ leBytes 4 x.pos.1 ++ leBytes 2 x.pos.2.1 ++ leBytes 2 x.pos.2.2 ++ leBytes 4 x.xfer ++ List.replicate 36 0)).1

/-- Bytes written since START (R489). -/
def Chan.bytes (x : Chan) : Nat :=
  match x.barge with
  | some (_, b) => (x.xfer + (x.wrn - x.base) * bEs b) % 2 ^ 32
  | none => x.xfer

/-- The shadow set is discarded. -/
def Chan.noShadow (x : Chan) : Chan := { x with shadow := none, shadowErr := none, ahead := [], aburst := none }

/-- Nothing is in progress in the active set. -/
def Chan.noBarge (x : Chan) : Chan := { x with barge := none, wrn := 0, base := 0, buf := [], burst := none, fail := none }

/-- An error ends the barge and the channel (R490). -/
def State.chErr (s : State) (c code : Nat) : State :=
  let x := s.chn c
  let s := (s.freeLines c).setChn c { x.noShadow with st := .error, code := code, buf := [], burst := none, fail := none, stopNext := false }
  if bit (u8 x.entry 9) 0 then s.dmaGrp c else s

def State.ctxCount (s : State) (e : Nat) : Nat := (s.dma.ch.filter (fun p => engOf p.1 = e ∧ p.2.ctx = true)).length

/-- The least recently used channel of engine e among those that satisfy `p`. -/
def State.lru (s : State) (e : Nat) (p : Nat → Chan → Bool) : Option Nat :=
  ((s.dma.ch.filter (fun q => engOf q.1 = e ∧ p q.1 q.2 = true)).foldl (fun b q =>
    match b with
    | some (_, u) => if q.2.used < u then some (q.1, q.2.used) else b
    | none => some (q.1, q.2.used)) none).map (·.1)

/-- A context for channel c: its own, a free one, or that of the least recently used idle channel (R471). -/
def State.ctxGet (s : State) (c : Nat) : State × Bool :=
  if (s.chn c).ctx ∨ s.ctxCount (engOf c) < 64 then (s, true)
  else
    match s.lru (engOf c) (fun _ x => x.ctx && (decide (x.st = .idle) || decide (x.st = .error))) with
    | some d => (s.setChn d { s.chn d with ctx := false }, true)
    | none => (s, false)

/-- Load the context and start by `want` (R472, R486). -/
def State.chLoad (s : State) (c : Nat) : State :=
  let x := s.chn c
  let s := { s with dma := { s.dma with clock := s.dma.clock + 1 } }
  let fresh := if x.ctx then some x else
    (match s.dmaRd c (s.chEntry c) 128 with
      | some b => some { x with entry := b.take 64, next := u64 b 64, cur := u64 b 72, pos := (u32 b 80, u16 b 84, u16 b 86), xfer := if x.want = 3 then u32 b 88 else x.xfer }
      | none => none)
  match fresh with
  -- the entry has not been read, so the channel holds no context
  | none => (s.setChn c { x with ctx := false, entry := [] }).chErr c 3
  | some y =>
    let y := { y.noShadow.noBarge with ctx := true, used := s.dma.clock, resumeAt := none }
    let y := match x.want with
      | 0 => { y with next := u64 y.entry 0 }
      | 1 => { y with next := y.cur, resumeAt := some y.pos }
      | _ => y
    s.setChn c (if y.next = 0 then { y with st := .idle } else { y with st := .active })

/-- Start a channel, or queue it (R471). -/
def State.chGo (s : State) (c : Nat) : State :=
  let (s, ok) := s.ctxGet c
  if ok then s.chLoad c else s.setChn c { s.chn c with st := .queued }

/-- The port side of a channel's barge may start a burst: a request stands that has started none, and there is something to move (R482, R483). While PAUSING only what was already read still goes out (R488). -/
def State.burstDue (s : State) (x : Chan) (b : Bytes) : Bool :=
  bUsesPort b && x.burst.isNone && tget false s.dma.req (bLine b) &&
    (decide (x.st = .active) || decide (x.st = .waiting) || decide (x.st = .stopping) || (decide (x.st = .pausing) && bDstPort b && decide (x.buf ≠ [])))

/-- Bytes of the port burst that would start now, at most 256. -/
def Chan.burstLen (x : Chan) (b : Bytes) : Nat :=
  if bSrcPort b then min 256 ((bTotal b - x.wrn) * bEs b - x.buf.length)
  else min 256 (if x.st = .pausing ∨ x.fail.isSome = true then x.buf.length else (bTotal b - x.wrn) * bEs b)

/-- Every element of the active barge b has been read. -/
def Chan.allRead (x : Chan) (b : Bytes) : Bool := x.fail.isNone && decide (bTotal b ≤ x.wrn + x.buf.length / bEs b)

/-- The reads of the shadow barge may go on: those of the present barge are all issued, and it has not ORDER = 1 (R479). -/
def Chan.aheadOk (x : Chan) (b : Bytes) : Bool :=
  (x.st == .active || x.st == .waiting) && x.shadowErr.isNone && !bit (bCtl b) 5 && decide (x.ahead.length / bEs b < bTotal b) &&
    match x.barge with
    | some (_, p) => x.allRead p
    | none => false

/-- A port burst for the shadow barge starts, if one is due (R479, R483). -/
def State.aheadTry (s : State) (c : Nat) : State :=
  let x := s.chn c
  match x.shadow with
  | some (_, b) =>
    if bSrcPort b && x.aburst.isNone && tget false s.dma.req (bLine b) && x.aheadOk b then
      ({ s with dma := { s.dma with req := tset s.dma.req (bLine b) false } }).setChn c
        { x with aburst := some (min 256 (bTotal b * bEs b - x.ahead.length)), lastAt := s.tick.count }
    else s
  | none => s

/-- Start a port burst, if one is due; the request is used up. -/
def State.burstTry (s : State) (c : Nat) : State :=
  let x := s.chn c
  match x.barge with
  | some (_, b) =>
    if s.burstDue x b && decide (x.burstLen b ≠ 0) then
      ({ s with dma := { s.dma with req := tset s.dma.req (bLine b) false } }).setChn c { x with burst := some (x.burstLen b), lastAt := s.tick.count }
    else s.aheadTry c
  | none => s

/-- A port burst starts if one is due; the state that a running channel shows is WAITING while it needs a port request or port data (R482, R483). -/
def State.chFlow (s : State) (c : Nat) : State :=
  let s := s.burstTry c
  let x := s.chn c
  match x.barge with
  | some (_, b) =>
    if x.st = .active ∨ x.st = .waiting then
      s.setChn c { x with st := if bUsesPort b && (x.burst.isNone || bSrcPort b) then .waiting else .active }
    else s
  | none => s

/-- The shadow set becomes the active set, if it is loaded (R471). -/
def Chan.exchange (x : Chan) : Chan :=
  match x.shadow with
  | some (a, b) => { x.noShadow with barge := some (a, b), next := bNext b, wrn := 0, base := 0, buf := x.ahead, burst := x.aburst, fail := none }
  | none => x.noShadow.noBarge

/-- Channel c gives its context up at its barge boundary (R471): another channel of its engine is QUEUED, every context runs, and c's is the least recently used of a non-priority channel. A channel that already holds port data of its next barge keeps its context for one more barge (log entry 202). -/
def State.displacedNow (s : State) (c : Nat) : Bool :=
  let e := engOf c
  s.dma.ch.any (fun p => engOf p.1 = e && decide (p.2.st = .queued)) && decide (64 ≤ s.ctxCount e)
    && (s.lru e (fun _ x => x.ctx && (decide (x.st = .idle) || decide (x.st = .error)))).isNone
    && !s.prioCh c && decide (s.lru e (fun d x => x.ctx && !s.prioCh d) = some c)
    && !(match (s.chn c).shadow with | some (_, b) => bSrcPort b && ((s.chn c).aburst.isSome || decide ((s.chn c).ahead ≠ [])) | none => false)

/-- The displaced channel is saved, its shadow set discarded, and QUEUED. -/
def State.displace (s : State) (c : Nat) : State :=
  let x := s.chn c
  let s := (s.setChn c { x.noShadow.noBarge with cur := 0, pos := (0, 0, 0) }).chSave c
  (s.freeLines c).setChn c { s.chn c with st := .queued, ctx := false, want := 3 }

/-! ### Write bursts -/

/-- One write burst of channel c: with `all` what was read goes out in memory even when its run is not yet complete, with `last` in the port burst in progress too. False: a bus error or a window refusal, recorded as the channel's error. Nothing leaves through a controller that is off or fenced (R12, R13). -/
def State.writeBurst (s : State) (c : Nat) (all last : Bool) : State × Bool :=
  let x := s.chn c
  match x.barge with
  | none => (s, true)
  | some (_, b) =>
    let es := bEs b
    let have_ := x.buf.length / es
    if have_ = 0 then (s, true)
    else if bDstPort b then
      let n := min have_ (x.burst.getD 0 / es)
      if x.burst.isNone || (decide (n * es < x.burst.getD 0) && !last) then (s, true)
      else
        let s := if s.portOn (linePort (bLine b)) then { s with dma := { s.dma with out := tset s.dma.out (bLine b) (x.buf.take (n * es)) } } else s
        (s.setChn c { x with buf := x.buf.drop (n * es), wrn := x.wrn + n, burst := none }, true)
    else
      let a := bAddr b true x.wrn
      let run := dmaRun b true x.wrn (min 256 (bTotal b - x.wrn))
      let n := min run have_
      if n < run ∧ all = false then (s, true)
      else if (List.range n).any (fun i => !s.chWindow c (bAddr b true (x.wrn + i)) es true) then (s.chErr c 6, false)
      else
        let (s, ok) := s.dmaWr c a es (x.buf.take (n * es))
        if ok then (s.setChn c { s.chn c with buf := x.buf.drop (n * es), wrn := x.wrn + n }, true) else (s.chErr c 2, false)

/-- Write out everything read that can go out now, before an error ends the barge. -/
def State.flushBuf (s : State) (c : Nat) : Nat → State × Bool
  | 0 => (s, true)
  | k + 1 =>
    if (s.chn c).buf.length = 0 then (s, true)
    else
      let (s, ok) := s.writeBurst c true true
      if ok then s.flushBuf c k else (s, false)

/-- An error of a read: the barge ends with it once everything read before it has been written, for a port side at the port's further requests (R490). -/
def State.errAfterFlush (s : State) (c code : Nat) : State :=
  let (s, ok) := s.flushBuf c (s.chn c).buf.length
  if !ok then s
  else if (s.chn c).buf = [] then s.chErr c code
  else s.setChn c { s.chn c with fail := some code, burst := none }

/-! ### The end of a barge -/

/-- The end of a drain (R488): PAUSED, or STOPPING when STOP came meanwhile. A barge that has not been read yet is awaited, so that the registers show its first element. -/
def State.drained (s : State) (c : Nat) : State :=
  let x := s.chn c
  if x.st = .pausing ∧ x.barge.isSome = true ∧ x.buf = [] ∧ x.burst = none then
    (if x.stopNext then (s.setChn c { x.noShadow with st := .stopping, stopNext := false }) else s.setChn c { x with st := .paused })
  else s

/-- The register sets exchange (R479); a next barge that failed when it was read ends the channel now, one whose port data ran short once that data is written. -/
def State.nextBarge (s : State) (c : Nat) (st : ChSt) : State :=
  let y := s.chn c
  let s := s.setChn c { y.exchange with st := st }
  match y.shadowErr with
  | some k => if k = 5 then s.errAfterFlush c 5 else s.chErr c k
  | none => s

/-- The active barge is complete: every write acknowledged (R479, R487, R488). -/
def State.bargeEnd1 (s : State) (c : Nat) : State :=
  let x := s.chn c
  match x.barge with
  | none => s
  | some (_, b) =>
    let s := s.setChn c { x with xfer := (x.xfer + (bTotal b - x.base) * bEs b) % 2 ^ 32 }
    let keep (q : Nat) : Bool := match x.shadow with
      | some (_, t) => bUsesPort t && decide (bLine t = q)
      | none => false
    let s := if bUsesPort b then { s with dma := { s.dma with held := s.dma.held.filter (fun e => e.2 != c || keep e.1) } } else s
    let s := if bit (bCtl b) 4 then s.dmaGrp c else s
    let y := s.chn c
    if y.st = .stopping ∨ y.stopNext then
      ((s.freeLines c).setChn c { y.noShadow.noBarge with st := .idle, stopped := true, stopNext := false, cur := 0, pos := (0, 0, 0) }).chSave c
    else if y.next = 0 then s.setChn c { y.noBarge with st := .idle, cur := 0 }
    else if y.st = .pausing then (s.nextBarge c .pausing).drained c
    else if s.displacedNow c then s.displace c
    else (s.nextBarge c .active).chFlow c

/-- The active barge is complete, and with it a next barge that moves no element (R474). -/
def State.bargeEnd (s : State) (c : Nat) : State :=
  let s := s.bargeEnd1 c
  let x := s.chn c
  match x.barge with
  | some (_, b) => if bTotal b = 0 ∧ (x.st = .active ∨ x.st = .waiting ∨ x.st = .pausing ∨ x.st = .paused) then (s.setChn c { x with st := if x.st = .paused then .pausing else x.st }).bargeEnd1 c else s
  | none => s

/-- Complete the barge once all its elements are written, or end it with an error that waited for that; else the drain of a pause may end. -/
def State.chAfter (s : State) (c : Nat) : State :=
  let x := s.chn c
  match x.barge with
  | some (_, b) =>
    match x.fail with
    | some k => if x.buf = [] then s.chErr c k else s.chFlow c
    | none => if x.wrn ≥ bTotal b then s.bargeEnd c else (s.drained c).chFlow c
  | none => s

/-! ### Read bursts -/

/-- One read burst for the shadow barge, once the reads of the present barge are all issued, unless it has ORDER = 1 (R479). What fails is left for when the barge is the active one. -/
def State.readAhead (s : State) (c : Nat) : State :=
  let x := s.chn c
  match x.shadow with
  | none => s
  | some (_, b) =>
    let es := bEs b
    let k := x.ahead.length / es
    if bSrcPort b ∨ x.aheadOk b = false then s
    else
      let n := dmaRun b false k (min 256 (bTotal b - k))
      if (List.range n).any (fun i => !s.chWindow c (bAddr b false (k + i)) es false) then s
      else
        match s.dmaRd c (bAddr b false k) (n * es) with
        | some d => s.setChn c { x with ahead := x.ahead ++ d }
        | none => s

/-- The channel's reads go on: it runs, or it pauses and the port burst that it has begun still needs data (R482, R488). -/
def Chan.reads (x : Chan) (b : Bytes) : Bool :=
  x.st == .active || x.st == .waiting || x.st == .stopping || (x.st == .pausing && bDstPort b && decide (x.buf.length < x.burst.getD 0))

/-- One read burst returns its data (R476 to R478). -/
def State.readBurst (s : State) (c : Nat) : State :=
  let x := s.chn c
  match x.barge with
  | none => s
  | some (_, b) =>
    let es := bEs b
    let k := x.wrn + x.buf.length / es
    if x.fail.isSome then s
    else if k ≥ bTotal b then s.readAhead c
    else if bSrcPort b ∨ x.reads b = false then s
    else
      let n := dmaRun b false k (min 256 (bTotal b - k))
      if (List.range n).any (fun i => !s.chWindow c (bAddr b false (k + i)) es false) then s.errAfterFlush c 6
      else
        match s.dmaRd c (bAddr b false k) (n * es) with
        | some d => s.setChn c { x with buf := x.buf ++ d }
        | none => (s.denied (stlPage (bAddr b false k))).errAfterFlush c 1

/-- A barge read returns (R472, R475, R481): each barge is read once, and one that fails in the shadow set ends the channel at its turn. -/
def State.bargeRead (s : State) (c : Nat) : State :=
  let x := s.chn c
  let goes := x.st == .active || x.st == .waiting || x.st == .pausing || (x.barge.isSome && x.st == .paused)
  if !x.ctx ∨ x.next = 0 ∨ x.shadow.isSome ∨ x.shadowErr.isSome ∨ goes = false then s
  else
    let fail (code : Nat) : State := if x.barge.isSome then s.setChn c { x with shadowErr := some code } else s.chErr c code
    if x.next % 64 ≠ 0 then fail 4
    else match s.dmaRd c x.next 64 with
    | none => fail 3
    | some b =>
      if bBad x.next b then fail 4
      else if bUsesPort b ∧ (match tget? s.dma.held (bLine b) with | some h => decide (h ≠ c) | none => false) = true then fail 8
      else
        let s := if bUsesPort b then { s with dma := { s.dma with held := tset s.dma.held (bLine b) c } } else s
        if x.barge.isSome then (s.setChn c { x with shadow := some (x.next, b) }).chFlow c
        else
          let k := match x.resumeAt with
            | some p => bAt b p
            | none => 0
          let s := s.setChn c { x.noBarge with barge := some (x.next, b), next := bNext b, wrn := k, base := k, resumeAt := none }
          if k ≥ bTotal b then s.bargeEnd c else (s.drained c).chFlow c

/-- The channel whose context holds a line of engine e. -/
def State.lineCh (s : State) (e q : Nat) : Option Nat := (tget? s.dma.held q).filter (fun c => engOf c = e)

/-- The engine issues requests: it is not fenced, and its region is in service (R12, R30). -/
def State.engOpen (s : State) (e : Nat) : Bool := !s.fenced 3 e && s.inService e

/-- Whether the channel's barge in progress uses line q. -/
def Chan.onLine (x : Chan) (q : Nat) : Bool :=
  match x.barge with
  | some (_, b) => bUsesPort b && decide (bLine b = q)
  | none => false

/-- A port requests on a line: the channel that holds it starts a burst, at once or as soon as it can (R482, R483). -/
def State.portReq (s : State) (e q : Nat) : State :=
  let s := { s with dma := { s.dma with req := tset s.dma.req q true } }
  match s.lineCh e q with
  | none => s
  | some c => s.chFlow c

/-- The shadow barge takes data from line q, and a burst of it is in progress. -/
def Chan.aheadOn (x : Chan) (q : Nat) : Option Nat :=
  match x.shadow, x.aburst with
  | some (_, b), some n => if bSrcPort b && decide (bLine b = q) then some n else none
  | _, _ => none

/-- The active barge takes data from line q, and a burst of it is in progress. -/
def Chan.takesOn (x : Chan) (q : Nat) : Option Nat :=
  match x.barge, x.burst with
  | some (_, b), some n => if x.onLine q && bSrcPort b then some n else none
  | _, _ => none

/-- What is still missing of a burst of n bytes after k more. -/
def burstLeft (n k : Nat) : Option Nat := if n ≤ k then none else some (n - k)

/-- Port data arrives (R483), for the active barge first. -/
def State.portData (s : State) (e q : Nat) (d : Bytes) : State :=
  match s.lineCh e q with
  | none => s
  | some c =>
    let x := { s.chn c with lastAt := s.tick.count }
    match x.takesOn q, x.aheadOn q with
    | some n, _ => (s.setChn c { x with buf := x.buf ++ d.take n, burst := burstLeft n d.length }).chFlow c
    | none, some n => (s.setChn c { x with ahead := x.ahead ++ d.take n, aburst := burstLeft n d.length }).chFlow c
    | none, none => s

/-- Bytes for line q: those of a UART pass its 64-byte FIFO, which keeps what no burst takes, and loses what it cannot hold (R542; log entry 223). -/
def State.lineData (s : State) (e q : Nat) (d : Bytes) : State :=
  if 40 ≤ q ∧ q < 48 ∧ q % 2 = 1 then
    let u := linePort q
    let all := (s.xp u).fifo ++ d
    let n := match s.lineCh e q with
      | some c => ((s.chn c).takesOn q).getD (((s.chn c).aheadOn q).getD 0)
      | none => 0
    (s.setXp u { s.xp u with fifo := (all.drop n).take 64 }).portData e q (all.take n)
  else s.portData e q d

/-- No byte has come on line q for the TIMEOUT ticks of its DMA_RQ_CFG since the last one, or since the burst started (R483). -/
def State.ranShort (s : State) (e q : Nat) (x : Chan) : Bool := decide (x.lastAt + s.gf .DMA_RQ_CFG (e * 64 + q) F.DMA_RQ_CFG.TIMEOUT ≤ s.tick.count)

/-- R483: the burst completes with 0xDB and the barge ends with UNDERRUN, the shadow barge at its turn. -/
def State.underrun (s : State) (e q : Nat) : State :=
  match s.lineCh e q with
  | none => s
  | some c =>
    let x := { s.chn c with underrun := true }
    if !s.ranShort e q x then s
    else
      match x.takesOn q, x.aheadOn q with
      | some n, _ => (s.setChn c { x with buf := x.buf ++ List.replicate n 0xDB, burst := none }).errAfterFlush c 5
      | none, some n => s.setChn c { x with ahead := x.ahead ++ List.replicate n 0xDB, aburst := none, shadowErr := some 5 }
      | none, none => s

/-! ### CH_CTL (R486 to R491) -/

def State.strefCh (s : State) (c : Nat) : State := s.pb .CH_STAT c F.CH_STAT.STREF true

def State.chStart (s : State) (c : Nat) (cont : Bool) : State :=
  let x := s.chn c
  let e := engOf c
  if x.st ≠ .idle then s.strefCh c
  else if bit s.img.hold e ∨ (match s.pwr.step with | some k => decide (2 ≤ k) | none => false) = true then s.setChn c { x with code := 7 }
  else
    let s := s.regionUp e
    let x := { x with want := if !cont then 0 else if x.part then 1 else 2, code := 0, underrun := false, stopped := false, part := false, wdraw := 0, xfer := 0 }
    (s.setChn c x).chGo c

/-- The exact position at which a channel that has read no barge yet would go on: saved again by a STOP (R486, R487). -/
def Chan.keepPos (x : Chan) : Chan :=
  match x.resumeAt with
  | some p => { x with cur := x.next, pos := p, part := true, resumeAt := none }
  | none => { x with cur := 0, pos := (0, 0, 0) }

/-- STOP of a running channel: the present barge completes, the shadow barge and its line are given up; with none in the active set the channel stops at once, and keeps a position that it was to resume from (log entry 203). -/
def State.chStopRun (s : State) (c : Nat) : State :=
  let x := s.chn c
  if x.barge.isSome then
    let s := { s with dma := { s.dma with held := s.dma.held.filter (fun e => e.2 != c || x.onLine e.1) } }
    (s.setChn c { x.noShadow with st := .stopping }).chAfter c
  else ((s.freeLines c).setChn c { x.noShadow.keepPos with st := .idle, stopped := true }).chSave c

def State.chStop (s : State) (c : Nat) : State :=
  let x := s.chn c
  match x.st with
  | .active => s.chStopRun c
  | .waiting => s.chStopRun c
  | .queued => s.setChn c { x with st := .idle, stopped := true }
  | .paused =>
    let y := match x.barge with
      | some (a, b) => { x with cur := a, pos := bIdx b x.wrn, xfer := x.bytes, part := true }
      | none => x.keepPos
    ((s.freeLines c).setChn c { y.noShadow.noBarge with st := .idle, stopped := true }).chSave c
  | .pausing => if x.barge.isSome then s.setChn c { x with stopNext := true } else s.chStopRun c
  | _ => s

def State.chPause (s : State) (c : Nat) : State :=
  let x := s.chn c
  if s.prioCh c ∧ (x.st = .active ∨ x.st = .waiting) then (s.setChn c { x with st := .pausing }).drained c
  else s.pb .CH_STAT c F.CH_STAT.PREF true

def State.chResume (s : State) (c : Nat) : State :=
  let x := s.chn c
  if x.st = .paused then (s.setChn c { x with st := .active }).chAfter c else s

def State.chClear (s : State) (c : Nat) : State :=
  let x := s.chn c
  if x.st = .error then s.setChn c { x.noBarge with st := .idle, xfer := x.bytes } else s

def State.chInv (s : State) (c : Nat) : State :=
  let x := s.chn c
  if x.st = .idle ∨ x.st = .error then s.setChn c { x with ctx := false } else s.pb .CH_STAT c F.CH_STAT.INVREF true

/-- A write of CH_CTL that the access checks admit (R486 to R491). -/
def State.chCtl (s : State) (c : Nat) (v : W32) : State :=
  let b (i : Nat) : Bool := bit v.toNat i
  let s := s.plainWrite .CH_CTL c v
  let s := if b 6 then s.chClear c else s
  let s := if b 5 then s.chInv c else s
  let s := if b 4 then s.chResume c else s
  if b 1 && b 2 then s.strefCh c
  else if b 2 then s.chStop c
  else
    let s := if b 3 then s.chPause c else s
    if b 1 then s.chStart c (b 7) else s

/-- R497: DMA_MAX of a stall. -/
def State.dmaMax (s : State) (st : Nat) : Nat := u8 (s.entD tSTL st) 4

/-- A write of CH_OWN (R470, R497). -/
def State.chOwn (s : State) (c : Nat) (v : W32) : State :=
  let st := F.CH_OWN.STALL.get v
  if F.CH_OWN.STALL_EN.get v = 1 ∧ ((s.ownedCh st).filter (fun d => d ≠ c)).length ≥ s.dmaMax st then s.pb .STL_MGR_STAT st F.STL_MGR_STAT.LIMIT true
  else s.plainWrite .CH_OWN c v

/-! ### Reading the channel registers (R489, R493) -/

def State.chStatV (s : State) (c : Nat) : W32 :=
  let x := s.chn c
  let f (b : Bool) (i : Nat) : Nat := if b then 2 ^ i else 0
  (s.rd .CH_STAT c &&& 0x70) ||| BitVec.ofNat 32 (x.wdraw * 2 ^ 24 + x.code * 2 ^ 20 + f x.underrun 19 + f x.stopped 18 + f x.part 17 + f x.ctx 16 + x.st.code)

/-- REM0, REM1, REM2 of the first element not yet written. -/
def Chan.rem (x : Chan) : Nat × Nat × Nat :=
  match x.barge with
  | some (_, b) =>
    if x.wrn ≥ bTotal b then (0, 0, 0)
    else
      let (i0, i1, i2) := bIdx b x.wrn
      (bC0 b - i0, bC1 b - i1, bC2 b - i2)
  | none => (0, 0, 0)

def State.chBargeV (s : State) (c : Nat) : Nat :=
  let x := s.chn c
  match x.barge with
  | some (a, _) => a
  | none => if x.ctx then x.cur else u64 (s.mread (s.chEntry c) 128) 72

/-! ### Commands -/

abbrev chNum (e : Fin 4) (i : Fin 1024) : Nat := e.val * 1024 + i.val

/-- DMA_CONTEXT_FREE (R471). -/
def execDmaContextFree (e : Fin 4) (i : Fin 1024) (s : State) : Out :=
  .next (if (s.chn (chNum e i)).st = .queued ∧ s.engOpen e = true then s.chGo (chNum e i) else s)

/-- DMA_BARGE_READ (R472). -/
def execDmaBargeRead (e : Fin 4) (i : Fin 1024) (s : State) : Out := .next (if s.engOpen e then s.bargeRead (chNum e i) else s)

/-- DMA_READ_COMPLETE (R478). -/
def execDmaReadComplete (e : Fin 4) (i : Fin 1024) (s : State) : Out := .next (if s.engOpen e then s.readBurst (chNum e i) else s)

/-- DMA_WRITE_ACK (R479): the oldest data goes out as one burst. -/
def execDmaWriteAck (e : Fin 4) (i : Fin 1024) (s : State) : Out :=
  .next (
    let c := chNum e i
    let x := s.chn c
    if !s.engOpen e ∨ x.st = .idle ∨ x.st = .error ∨ x.st = .queued ∨ x.st = .paused then s
    else
      let whole := match x.barge with
        | some (_, b) => decide (bTotal b ≤ x.wrn + x.buf.length / bEs b)
        | none => false
      let (s, ok) := s.writeBurst c (whole || decide (x.st = .pausing)) false
      if ok then s.chAfter c else s)

/-- DMA_PORT_REQUEST (R482, R544): the port of the line requests; a controller that is off or fenced does not. -/
def execDmaPortRequest (e : Fin 4) (q : Fin 64) (s : State) : Out := .next (if s.engOpen e && s.portOn (linePort q) then s.portReq e q else s)

/-- DMA_PORT_DATA (R483). -/
def execDmaPortData (e : Fin 4) (q : Fin 64) (d : Bytes) (s : State) : Out := .next (if s.engOpen e && s.portOn (linePort q) then s.lineData e q d else s)

/-- UNDERRUN (R483). -/
def execUnderrun (e : Fin 4) (q : Fin 64) (s : State) : Out := .next (if s.engOpen e then s.underrun e q else s)

/-- DMA_REQUEST_WITHDRAW (R484). -/
def execDmaRequestWithdraw (e : Fin 4) (q : Fin 64) (s : State) : Out :=
  .next (
    let s := { s with dma := { s.dma with req := tset s.dma.req q false } }
    match s.lineCh e q with
    | none => s
    | some c =>
      let x := s.chn c
      if (x.onLine q && x.burst.isSome) || (x.aheadOn q).isSome then s.setChn c { x with wdraw := min 255 (x.wdraw + 1) } else s.chFlow c)

end Sys2Proof.Machine
end

