-- ==== Sys2Proof/Machine/Basin.lean ====
section
/-!
DEFINITION. The basin's pools and granules (R460 to R468, R494, R505).
-/
namespace Sys2Proof.Machine

def State.poolD (s : State) (p : Nat) : Bytes := s.entD tBSN p
def poolRes (e : Bytes) : Nat := u32 e 4
def poolCap (e : Bytes) : Nat := u32 e 8
def poolShare (e : Bytes) : Nat := u8 e 2
/-- H_p: the granules that pool p holds. -/
def State.heldBy (s : State) (p : Nat) : Nat := (s.basin.filter (fun e => e.2.pool = p)).length
def State.pools (s : State) : List (Nat × Bytes) := tget [] s.img.sec tBSN
/-- R: the common remainder. -/
def State.remainder (s : State) : Nat := 131072 - (s.pools.map (fun e => poolRes e.2)).foldl (· + ·) 0
/-- B: the part of the remainder lent out. -/
def State.lent (s : State) : Nat := (s.pools.map (fun e => s.heldBy e.1 - poolRes e.2)).foldl (· + ·) 0

/-- R463: the part grants pool p a granule. -/
def State.grants (s : State) (p : Nat) : Bool :=
  let e := s.poolD p
  let h := s.heldBy p
  (s.ent tBSN p).isSome && decide (h < poolCap e)
    && (decide (h < poolRes e) || (decide (h - poolRes e < s.remainder * poolShare e / 256) && decide (s.lent < s.remainder)))

/-- The first granule from `g` on that no entry of the table holds, the table's keys rising. -/
def firstFree : List Nat → Nat → Nat
  | [], g => g
  | k :: r, g => if k = g then firstFree r (g + 1) else firstFree r g

/-- A free granule; which one the spec leaves open (log entry 2). -/
def State.pickGranule (s : State) : Nat :=
  let ks := s.basin.map (·.1)
  let g := firstFree ks (s.freeNat % 131072)
  if g < 131072 then g else firstFree ks 0

/-- Allocate a granule to pool p, or refuse and count (R463, R466): the token, granule index + 1 or 0. -/
def State.allocGranule (s : State) (p : Nat) (st : Option Nat) : State × Nat :=
  if s.grants p then
    let g := s.pickGranule
    let s := { s with basin := tset s.basin g { pool := p, stall := st } }.tick1
    (s.pf .BSN_POOL_PEAK p F.BSN_POOL_PEAK.COUNT (max (s.gf .BSN_POOL_PEAK p F.BSN_POOL_PEAK.COUNT) (s.heldBy p)), g + 1)
  else (s.inc .BSN_POOL_STAT p F.BSN_POOL_STAT.REFUSED 1, 0)

/-- A read of BSN_POOL_ALLOC (R494): the granule in the field, and the next one into it. -/
def State.bsnAlloc (s : State) (p : Nat) : State × W32 :=
  if p < 2 then (s, 0)
  else
    let v := s.rd .BSN_POOL_ALLOC p
    let (s, t) := s.allocGranule p none
    (s.wr .BSN_POOL_ALLOC p (BitVec.ofNat 32 t), v)

def State.badFree (s : State) : State := s.pb .BSN_STATUS 0 F.BSN_STATUS.BADFREE true

/-- A write of BSN_FREE (R467). -/
def State.bsnFree (s : State) (v : W32) : State :=
  let p := F.BSN_FREE.POOL.get v
  let g := F.BSN_FREE.GRANULE.get v
  match tget? s.basin g with
  | some x => if x.pool = p ∧ 2 ≤ p then { s with basin := tdel s.basin g } else s.badFree
  | none => s.badFree

/-- Granules tagged with a stall (R505). -/
def State.tagged (s : State) (st : Nat) : Nat := (s.basin.filter (fun e => e.2.stall = some st)).length

/-- The PL ports' granules of pool 0 (R465). -/
def State.plGranules (s : State) : State :=
  forEach (List.range 64) (fun s n =>
    if s.plGen n = 0 then s else forEach (List.range 8) (fun s _ => (s.allocGranule 0 none).1) s) s

/-- A port controller as a requester on the fabric. -/
def portAgent (u : Nat) : Req := { agent := .port (Fin.ofNat 64 u), lvl := .m, sid := 0, cls := 0 }

/-- Granules of a token chain, at most `k` of them (R537); it ends where a line is poisoned (R461). -/
def State.chain (s : State) (u t : Nat) : Nat → List Nat
  | 0 => []
  | k + 1 =>
    if t = 0 ∨ t > 131072 then []
    else (t - 1) :: (match s.memRd (portAgent u) (basinBase + (t - 1) * 256) 4 with
      | some b => s.chain u (ofBytes b % 2 ^ 18) k
      | none => [])

/-- The granule belongs to firmware or to an external port: one of pools 2 to 63, and not the one that a BSN_POOL_ALLOC field holds (log entry 207). -/
def State.handed (s : State) (g : Nat) (x : Granule) : Bool :=
  decide (2 ≤ x.pool) && decide ((s.rd .BSN_POOL_ALLOC x.pool).toNat ≠ g + 1)

/-- A port controller frees granules of a chain (R467, R537): those of its own and those that firmware gave it, never another holder's. -/
def State.dropGranules (s : State) (gs : List Nat) : State := { s with basin := s.basin.filter (fun e => !(gs.contains e.1 && s.handed e.1 e.2)) }

end Sys2Proof.Machine
end

