-- ==== Sys2Proof/Machine/Ledger.lean ====
section
/-!
DEFINITION. The ledger (R278 to R302): series, sources, updates, thresholds, records, partners, polls, the cache and the commands of LDG_CMD.
-/
namespace Sys2Proof.Machine

/-! ### Entry fields (R278) -/

def serKind (b : Bytes) : Nat := u8 b 0 / 16
def serFmt (b : Bytes) : Nat := u8 b 0 % 16
def serPeriod (b : Bytes) : Nat := u32 b 8 % 2 ^ 24
def serFlags (b : Bytes) : Nat := u16 b 52
def s32 (b : Bytes) (o : Nat) : Int := sgn 32 (u32 b o)
/-- Replace bytes from offset o. -/
def putAt (b : Bytes) (o : Nat) (v : Bytes) : Bytes := b.take o ++ v ++ b.drop (o + v.length)
def put32 (b : Bytes) (o : Nat) (v : Int) : Bytes := putAt b o (leBytes 4 (BitVec.ofInt 32 v).toNat)
/-- Identity fields of R300: KIND_FMT, SRC_A, SRC_B. -/
def serKey (b : Bytes) : Bytes := slice b 0 1 ++ slice b 2 6
/-- The bytes of an entry that firmware writes (R278). -/
def serOwn (b : Bytes) : Bytes := slice b 0 20 ++ slice b 44 8 ++ slice b 54 2
def flVALID : Nat := 0
def flSTALE : Nat := 1
def flABSENT : Nat := 2
def flERROR : Nat := 3
def flSAT : Nat := 4
def flCLAMP : Nat := 5
def flHI : Nat := 6
def flLO : Nat := 7
def flRATELIM : Nat := 8
def serFl (b : Bytes) (i : Nat) : Bool := bit (serFlags b) i
def serSetFl (b : Bytes) (i : Nat) (v : Bool) : Bytes := putAt b 52 (leBytes 2 (setBit (serFlags b) i v))

/-! ### The engine's copy and the cache (R297 to R299) -/

def State.serAddr (s : State) (i : Nat) : Nat := u64 s.ldgD 0 + 64 * i
/-- The ledger engine as a requester on the fabric. -/
def ledReq : Req := { agent := .ledger, lvl := .m, sid := 0, cls := 0 }
/-- The entry can be read: it is cached, or its line in DRAM gives no bus error (R330). -/
def State.serOk (s : State) (i : Nat) : Bool := (tget? s.ldg.cache i).isSome || s.memOpen ledReq (s.serAddr i) 64 false

/-- The engine's copy of a series: cached, or the DRAM entry. -/
def State.ser (s : State) (i : Nat) : Bytes :=
  match tget? s.ldg.cache i with
  | some e => e.bytes
  | none => s.mread (s.serAddr i) 64

/-- Write a cached series back; it stays, and stays changed where the write receives a bus error: false then. -/
def State.serBackOk (s : State) (i : Nat) : State × Bool :=
  match tget? s.ldg.cache i with
  | some e =>
    if e.dirty then
      match s.memWr ledReq (s.serAddr i) e.bytes with
      | (t, true) => ({ t with ldg := { t.ldg with cache := tset t.ldg.cache i { e with dirty := false } } }, true)
      | (t, false) => (t, false)
    else (s, true)
  | none => (s, true)

/-- Write a cached series back; it stays. -/
def State.serBack (s : State) (i : Nat) : State := (s.serBackOk i).1

/-- Write back and discard. -/
def State.serDrop (s : State) (i : Nat) : State :=
  let s := s.serBack i
  { s with ldg := { s.ldg with cache := tdel s.ldg.cache i } }

/-- Write back and discard; a series whose write receives a bus error stays (R302). -/
def State.serDropOk (s : State) (i : Nat) : State × Bool :=
  match s.serBackOk i with
  | (t, true) => ({ t with ldg := { t.ldg with cache := tdel t.ldg.cache i } }, true)
  | (t, false) => (t, false)

/-- The same action on each series of a list; the code BUSERR when one failed. -/
def State.serEach (s : State) (f : State → Nat → State × Bool) : List Nat → State × Nat
  | [] => (s, 0)
  | i :: r =>
    match f s i with
    | (t, ok) =>
      match t.serEach f r with
      | (u, c) => (u, if ok then c else 2)

/-- The same action on every cached series. -/
def State.serAll (s : State) (f : State → Nat → State × Bool) : State × Nat := s.serEach f (s.ldg.cache.map (·.1))

/-- Make room in a series' set: the least recently used of eight ways goes. -/
def State.serRoom (s : State) (i : Nat) : State :=
  let set := s.ldg.cache.filter (fun e => e.1 % 2048 == i % 2048)
  if set.length < 8 then s
  else
    match set with
    | e :: r => s.serDrop ((r.foldl (fun (b : Nat × CacheEnt) x => if x.2.used < b.2.used then x else b) e).1)
    | [] => s

/-- Change a series: in the cache, allocating a way, or in DRAM for a slow series with NOALLOC_SLOW. -/
def State.serPut (s : State) (i : Nat) (b : Bytes) : State :=
  let cached := (tget? s.ldg.cache i).isSome
  if !cached && bit (u8 s.ldgD 31) 0 && decide (serPeriod b ≥ 65536) then (s.memWr ledReq (s.serAddr i) b).1
  else
    let s := if cached then s else s.serRoom i
    let since := match tget? s.ldg.cache i with
      | some e => if e.dirty then e.since else s.tick.count
      | none => s.tick.count
    { s with ldg := { s.ldg with cache := tset s.ldg.cache i { bytes := b, dirty := true, since := since, used := s.ldg.clock }, clock := s.ldg.clock + 1 } }

/-- Every cached series. -/
def State.serCached (s : State) : List Nat := s.ldg.cache.map (·.1)

/-! ### Crossing records (R288, R289) -/

def State.serRecord (s : State) (i kind : Nat) (b : Bytes) : State :=
  let n := u32 s.ldgD 24
  let head := s.gf .LDG_RING_HEAD 0 F.LDG_RING_HEAD.INDEX
  let next := (head + 1) % n
  if n = 0 ∨ next = s.gf .LDG_RING_TAIL 0 F.LDG_RING_TAIL.INDEX then s.inc .LDG_RING_LOST 0 F.LDG_RING_LOST.COUNT 1
  else
    let g := u8 b 1 % 64
    let s := (s.memWr ledReq (u64 s.ldgD 16 + 16 * head) (leBytes 4 (i + kind * 2 ^ 20 + g * 2 ^ 24) ++ slice b 20 4 ++ leBytes 8 s.tick.count)).1
    let s := s.pf .LDG_RING_HEAD 0 F.LDG_RING_HEAD.INDEX next
    let r : Reg := if g < 32 then .LDG_GRP_PEND_LO else .LDG_GRP_PEND_HI
    if s.getB r 0 (g % 32) then s else (s.setB r 0 (g % 32)).raise (192 + g)

/-- Kinds 5 to 9 only for a series with HI_EN or LO_EN. -/
def recAllowed (b : Bytes) (k : Nat) : Bool := decide (k < 5) || bit (u8 b 1) 6 || bit (u8 b 1) 7

/-- Store a changed entry and write its records in the order of their kinds. -/
def State.serCommit (s : State) (i : Nat) (b : Bytes) (ks : List Nat) : State :=
  forEach (ks.filter (recAllowed b)) (fun s k => s.serRecord i k b) (s.serPut i b)

/-- Set a status flag, with its record when it was clear. -/
def State.serStatus (s : State) (i fl kind : Nat) : State :=
  let b := s.ser i
  if serFl b fl then s else s.serCommit i (serSetFl b fl true) [kind]

/-- One of STALE, ABSENT, ERROR is set. -/
def serBad (b : Bytes) : Bool := serFl b flSTALE || serFl b flABSENT || serFl b flERROR

/-! ### An update (R283 to R286) -/

/-- The limits of range RANGE_ID of the main entry; none for 0. -/
def State.serRange (s : State) (id : Nat) : Option (Int × Int) :=
  if id = 0 ∨ id > u8 s.ldgD 30 then none else some (s32 s.ldgD (32 + 8 * (id - 1)), s32 s.ldgD (36 + 8 * (id - 1)))

def limitTo (lo hi v : Int) : Int := if v < lo then lo else if v > hi then hi else v

/-- The value of an update with raw value num ÷ den, and whether it was limited (R283). -/
def State.serValue (s : State) (b : Bytes) (num : Int) (den : Nat) : Int × Bool :=
  let v := num * s32 b 12 / (65536 * den : Nat) + s32 b 16
  let w := limitTo (-2147483648) 2147483647 v
  let w := match s.serRange (u8 b 11) with
    | some (lo, hi) => limitTo lo hi w
    | none => w
  (w, w != v)

/-- HI or LO after value v (R286): `above` for HI. -/
def thrFlag (en was : Bool) (set clear : Bool) : Bool := if !en then false else if set then true else if clear then false else was

/-- The entry after an update with value v at the present tick, and the kinds of its records. -/
def serApply (b : Bytes) (v : Int) (clamp fresh partner : Bool) (tick : Nat) : Bytes × List Nat :=
  let g := u8 b 1
  let hy : Int := u16 b 54
  let hiE := bit g 6
  let loE := bit g 7
  let th := s32 b 44
  let tl := s32 b 48
  let hi0 := serFl b flHI
  let lo0 := serFl b flLO
  let hi1 := thrFlag hiE hi0 (decide (v > th)) (decide (v < th - hy))
  let lo1 := thrFlag loE lo0 (decide (v < tl)) (decide (v > tl + hy))
  let sum := sgn 64 (u64 b 32) + v
  let cnt := u32 b 40 + 1
  let sat0 := serFl b flSAT
  let ovf := decide (sum < -(2 ^ 63 : Nat) ∨ sum ≥ (2 ^ 63 : Nat) ∨ cnt ≥ 2 ^ 32)
  let sat1 := sat0 || ovf
  let c := put32 b 20 v
  let c := putAt c 56 (leBytes 8 tick)
  let c := if fresh ∨ v < s32 b 24 then put32 c 24 v else c
  let c := if fresh ∨ v > s32 b 28 then put32 c 28 v else c
  let c := if sat1 then c else putAt (putAt c 32 (leBytes 8 (BitVec.ofInt 64 sum).toNat)) 40 (leBytes 4 cnt)
  let c := serSetFl (serSetFl (serSetFl c flVALID true) flSTALE false) flCLAMP clamp
  let c := if partner then serSetFl c flERROR false else c
  let c := serSetFl (serSetFl (serSetFl c flHI hi1) flLO lo1) flSAT sat1
  let k (p : Bool) (n : Nat) : List Nat := if p then [n] else []
  (c, k (!hi0 && hi1) 1 ++ k (hiE && hi0 && !hi1) 2 ++ k (!lo0 && lo1) 3 ++ k (loE && lo0 && !lo1) 4 ++ k (!sat0 && sat1) 8 ++ k (serBad b && !serBad c) 9)

/-- Update series i with raw value num ÷ den, captured in tick `t`. -/
def State.serUpdateAt (s : State) (i : Nat) (num : Int) (den : Nat) (partner : Bool) (t : Nat) : State :=
  let b := s.ser i
  let (v, cl) := s.serValue b num den
  let (c, ks) := serApply b v cl (tget false s.ldg.fresh i) partner t
  let s := { s with ldg := { s.ldg with fresh := tdel s.ldg.fresh i, writtenAt := tdel s.ldg.writtenAt i, applied := s.ldg.applied + 1 } }
  s.serCommit i c ks

/-- The engine has applied all the updates that R296 lets it apply in one tick: 256 for each microsecond of T_tick. -/
def State.ldgFull (s : State) : Bool := decide (s.tTick * 256 / 1000 ≤ s.ldg.applied)

/-- The engine meets series i, which waits for its first update: from when STALE counts (R293). DESIGN CHOICE: an entry that firmware wrote in DRAM counts from the tick in which the engine first finds it so (log entry 204). -/
def State.serSeen (s : State) (i : Nat) : State :=
  let b := s.ser i
  if serFl b flVALID ∨ (tget? s.ldg.writtenAt i).map (·.2) = some (serOwn b) then s
  else { s with ldg := { s.ldg with writtenAt := tset s.ldg.writtenAt i (s.tick.count, serOwn b) } }

/-- Update series i with raw value num ÷ den in the present tick. -/
def State.serUpdate (s : State) (i : Nat) (num : Int) (den : Nat) (partner : Bool) : State := s.serUpdateAt i num den partner s.tick.count

/-! ### Internal sources (R279, R282) -/

/-- The new valid value of an internal source in the present tick. -/
def State.serSource (s : State) (b : Bytes) : Option Int :=
  let a := u16 b 2
  let d := u32 b 4
  match serKind b with
  | 2 => match tget? s.ldg.pub (a * 16 + d) with
    | some (t, v) => if t = s.tick.count ∧ d < 16 then some v.toInt else none
    | none => none
  | 3 =>
    let t := tget 0 s.ldg.auxTick a
    if a < 512 ∧ d < 3 ∧ t > (if serFl b flVALID then u64 b 56 else 0) then
      some (match d with
        | 0 => s.gf .PL_AUX a F.PL_AUX.TEMP
        | 1 => s.gf .PL_AUX a F.PL_AUX.VIN
        | _ => s.gf .PL_AUX a F.PL_AUX.FAULT)
    else none
  | 4 =>
    let y := tget noSamp (s.prt (a / 8)).cur (a % 8)
    if a < 512 ∧ y.valid then some y.cur else none
  | 5 => if a < 64 ∧ s.fenced 8 a = false ∧ s.gf .ADC_RS a F.ADC_RS.TICK = s.tick.count % 256 then some (s.gf .ADC_RS a F.ADC_RS.CODE) else none
  | 6 => if a < 16 ∧ s.fenced 8 (64 + a) = false ∧ s.gf .ADC_AUX a F.ADC_AUX.TICK = s.tick.count % 256 then some (s.gf .ADC_AUX a F.ADC_AUX.CODE) else none
  | 7 =>
    let x := s.rl a
    if (s.railE a).isNone then none
    else match d with
      | 0 => some x.imeas
      | 1 => if x.iestOk then some (BitVec.ofInt 20 x.iest).toInt else none
      | 2 => some x.s
      | _ => none
  | _ => none

/-! ### Partners (R287 to R295) -/

def State.prtn (s : State) (p : Nat) : Partner := tget Partner.init s.ldg.part p
def State.setPrtn (s : State) (p : Nat) (x : Partner) : State := { s with ldg := { s.ldg with part := tset s.ldg.part p x } }
/-- Series of partner p, in index order. -/
def State.partSeries (s : State) (p : Nat) : List Nat :=
  (List.range s.seriesCount).filter (fun i => serKind (s.ser i) == 1 && u16 (s.ser i) 2 == p)
def State.outTo (s : State) (p : Nat) : Nat := (s.ldg.polls.filter (fun q => q.partner == p)).length

/-- Bytes that a reply of this format has. -/
def fmtLen (fmt : Nat) : Nat := if fmt < 2 then 1 else if fmt < 6 ∨ fmt ≥ 0xA then 2 else 4

/-- What a poll of the series with entry b asks the partner of descriptor d, with this tag (R287, R290); the poll frame is big-endian (log entry 179). -/
def pollReq (d b : Bytes) (tag : Nat) : PollReq :=
  let sel := u32 b 4
  match u8 d 2 with
  | 1 => .pcie (u32 d 4 * 65536 + sel) (fmtLen (serFmt b))
  | 2 => .pldm (u8 d 3) (u8 d 4) (sel % 65536)
  | 3 => .smbus (u8 d 3) (u32 d 4) (sel % 256) (sel / 256 % 4) (bit (u8 d 11) 0)
  | 4 => .i3c (u8 d 3) (u32 d 4) (sel % 256) (sel / 256 % 8)
  | _ => .eth (u8 d 3) (u32 d 4) (u16 d 14) (beBytes 2 0x4C44 ++ beBytes 2 (tag % 65536) ++ beBytes 4 sel ++ beBytes 4 0)

/-- Issue a poll of series i to partner p, with a granule of pool 1 (R462). -/
def State.issuePoll (s : State) (p i : Nat) (probe : Bool) : State :=
  let (s, t) := s.allocGranule 1 none
  { s with ldg := { s.ldg with
      polls := s.ldg.polls ++ [{ partner := p, req := pollReq ((s.partE p).getD []) (s.ser i) s.ldg.tag, series := i, tag := s.ldg.tag % 65536, issued := s.tick.count, probe := probe, key := serKey (s.ser i), granule := t - 1 }]
      tag := s.ldg.tag + 1 } }

/-- The polls of partner p go over controller u. -/
def State.partOn (s : State) (u p : Nat) : Bool :=
  match (s.partE p).bind partPort with
  | some (k, i) => portU k i == u
  | none => false

/-- A partner transaction is in progress on controller u (R548). -/
def State.portBusy (s : State) (u : Nat) : Bool := s.ldg.polls.any (fun q => s.partOn u q.partner)

/-- The request lines of controller u (R544): data to it, and data from it. -/
def portLines (u : Nat) : Nat × Nat :=
  if u < 30 then (2 * (u - 14), 2 * (u - 14) + 1) else if u < 34 then (32 + 2 * (u - 30), 33 + 2 * (u - 30)) else if u < 46 then (40 + 2 * (u - 42), 41 + 2 * (u - 42))
  else if u < 48 then (56 + (u - 46), 56 + (u - 46)) else (48 + 2 * (u - 48), 49 + 2 * (u - 48))

/-- The raw operation v of controller u takes its data from a line, or gives it to one: DMA = 1 on a controller that the table of lines names (R544; log entry 224). -/
def rawDma (u : Nat) (v : W32) : Bool := bit v.toNat 30 && decide (14 ≤ u) && (decide (u < 34) || decide (42 ≤ u))

/-- A raw operation starts, with the data of PORT_RAW_DATA, or with DMA = 1 those that its line has (R544, R548). -/
def State.rawStart (s : State) (u : Nat) (v : W32) : State :=
  let d := if rawDma u v then BitVec.ofNat 32 (u32 (tget [] s.dma.out (portLines u).1) 0) else s.rd .PORT_RAW_DATA u
  s.setXp u { s.xp u with raw := some v, rawHeld := false, out := .raw v d }

/-- A raw operation that waited starts when the transaction has ended. -/
def State.rawGo (s : State) (u : Nat) : State :=
  match (s.xp u).raw with
  | some v => if (s.xp u).rawHeld && !s.portBusy u then s.rawStart u v else s
  | none => s

/-- A poll ends: its granule is free again (R467), and a raw operation that waited for it goes (R548). -/
def State.pollEnd (s : State) (q : Poll) : State :=
  let s := { s with ldg := { s.ldg with polls := s.ldg.polls.filter (fun r => r != q) }, basin := tdel s.basin q.granule }
  match (s.partE q.partner).bind partPort with
  | some (k, i) => s.rawGo (portU k i)
  | none => s

/-- A two-wire controller has lost arbitration, which it counts (R539). -/
def State.arbLost (s : State) (p : Nat) : State :=
  match (s.partE p).bind partPort with
  | some (6, i) => s.inc .PORT_ERR0 (portU 6 i) F.PORT_ERR0.ERRORS 1
  | _ => s

/-- The partner and its port take a poll now (R295): a controller that is fenced sends none (R12), and one under raw access is not the engine's (R548). -/
def State.partnerFree (s : State) (p : Nat) : Bool :=
  match s.partE p with
  | some d =>
    let ready := match partPort d with
      | some (k, i) => s.portOn (portU k i) && !s.rawEn (portU k i)
      | none => false
    decide (s.outTo p < u8 d 10) && decide (s.ldg.polls.length < 8192) && ready
  | none => false

/-- A poll of partner p may be issued now: pool 1 has a granule for it (R466). -/
def State.mayPoll (s : State) (p : Nat) : Bool := s.partnerFree p && s.grants 1

/-- A waiting poll goes. -/
def State.unwait (s : State) (i : Nat) : State := { s with ldg := { s.ldg with waiting := s.ldg.waiting.filter (· ≠ i) } }

/-- The series is one that the engine polls: of a partner, with a period, below the series count (R278, R279, R301). -/
def State.polled (s : State) (i : Nat) : Bool := decide (i < s.seriesCount) && serKind (s.ser i) == 1 && serPeriod (s.ser i) != 0

/-- Issue the waiting polls that may now be issued, oldest first; one whose series is no longer polled is dropped. -/
def State.pollWaiting (s : State) : State :=
  forEach s.ldg.waiting (fun s i =>
    let p := u16 (s.ser i) 2
    if !s.polled i then s.unwait i else if s.mayPoll p then (s.unwait i).issuePoll p i false else s) s

/-- A due poll (R282, R291, R293 to R295): a poll of the series that still waits is discarded and counted first. -/
def State.pollDue (s : State) (i p : Nat) : State :=
  let x := s.prtn p
  let s := if s.ldg.waiting.contains i then (s.unwait i).inc .LDG_SKIP 0 F.LDG_SKIP.COUNT 1 else s
  if (s.partE p).isNone || x.absent || s.ldg.polls.any (fun q => q.series == i) then s
  else if x.throttled && x.skip then (s.setPrtn p { x with skip := false }).serPut i (serSetFl (s.ser i) flRATELIM true)
  else
    let s := if x.throttled then s.setPrtn p { x with skip := true } else s
    if s.mayPoll p then s.issuePoll p i false
    else
      let s := if s.partnerFree p then s.inc .BSN_POOL_STAT 1 F.BSN_POOL_STAT.REFUSED 1 else s
      { s with ldg := { s.ldg with waiting := s.ldg.waiting ++ [i] } }

/-- An unsolicited frame of partner p (R294). -/
def State.unsolicited (s : State) (p : Nat) : State :=
  match s.partE p with
  | none => s
  | some d =>
    let x := s.prtn p
    let t := s.tick.count
    let us := t :: x.unsol.filter (fun u => decide (t < u + 1024))
    let thr := x.throttled || decide (us.length > u8 d 13)
    s.setPrtn p { x with unsol := us, throttled := thr, quietFrom := t, cntUnsol := min 65535 (x.cntUnsol + 1), skip := x.throttled && x.skip }

/-- Raw value of a reply by FORMAT, as a fraction; none for an error (R280, R292). -/
def serRaw (fmt : Nat) (l16 : Int) (b : Bytes) : Option (Int × Nat) :=
  let n := b.length
  let be (k : Nat) : Nat := ofBytes ((b.take k).reverse)
  let le (k : Nat) : Nat := ofBytes (b.take k)
  let two (e : Int) (m : Int) : Int × Nat := if e ≥ 0 then (m * (2 ^ e.toNat : Nat), 1) else (m, 2 ^ (-e).toNat)
  match fmt with
  | 0 => if n ≥ 1 then some (le 1, 1) else none
  | 1 => if n ≥ 1 then some (sgn 8 (le 1), 1) else none
  | 2 => if n ≥ 2 then some (le 2, 1) else none
  | 3 => if n ≥ 2 then some (sgn 16 (le 2), 1) else none
  | 4 => if n ≥ 2 then some (be 2, 1) else none
  | 5 => if n ≥ 2 then some (sgn 16 (be 2), 1) else none
  | 6 => if n ≥ 4 then some (le 4, 1) else none
  | 7 => if n ≥ 4 then some (sgn 32 (le 4), 1) else none
  | 8 => if n ≥ 4 then some (be 4, 1) else none
  | 9 => if n ≥ 4 then some (sgn 32 (be 4), 1) else none
  | 0xA => if n ≥ 2 then some (two (sgn 5 (le 2 / 2048)) (sgn 11 (le 2 % 2048))) else none
  | 0xB => if n ≥ 2 then some (two l16 (le 2 : Nat)) else none
  | _ => none

/-- The reply's length fits: exact, but a Block Read and a poll frame carry their own number of bytes. -/
def lenFits (bus srcB fmt n : Nat) : Bool :=
  if bus = 5 then n == 4 else if bus = 3 ∧ srcB / 256 % 4 = 2 then decide (n ≥ fmtLen fmt) else n == fmtLen fmt

/-- ABSENT clears on every series of the partner, and ERROR on the one that the probe read (R291, R292). -/
def State.partBack (s : State) (p probed : Nat) : State :=
  let s := s.setPrtn p { s.prtn p with absent := false, timeouts := 0 }
  forEach (s.partSeries p) (fun s i =>
    let b := s.ser i
    let c := serSetFl b flABSENT false
    let c := if i = probed then serSetFl c flERROR false else c
    if c = b then s else s.serCommit i c (if serBad c then [] else [9])) s

/-- A poll's timeout; the third in a row marks the partner absent (R291). -/
def State.pollTimeout (s : State) (q : Poll) : State :=
  let p := q.partner
  let s := s.pollEnd q
  let x := s.prtn p
  let x := { x with timeouts := x.timeouts + 1, cntTimeouts := min 65535 (x.cntTimeouts + 1) }
  let s := s.setPrtn p x
  let s :=
    if x.timeouts ≥ 3 ∧ !x.absent then
      let tmo := match s.partE p with
        | some d => u16 d 8
        | none => 0
      let s := s.setPrtn p { x with absent := true, probeAt := s.tick.count + 64 * tmo }
      let s := { s with ldg := { s.ldg with waiting := s.ldg.waiting.filter (fun i => u16 (s.ser i) 2 ≠ p) } }
      forEach (s.partSeries p) (fun s i => s.serStatus i flABSENT 6) s
    else s
  s.pollWaiting

/-- A partner's poll with this tag. -/
def State.findPoll (s : State) (p tag : Nat) : Option Poll := s.ldg.polls.find? (fun q => q.partner == p && q.tag == tag % 65536)

/-! ### Commands -/

/-- The service of this tick has come as far as `k`. -/
def State.served1 (s : State) (k : Nat) : State := { s with ldg := { s.ldg with cursor := k } }

/-- Series i has been served in this tick. -/
def State.serDone (s : State) (i : Nat) : State := { s with ldg := { s.ldg with done := i :: s.ldg.done } }

/-- The update of the tick before goes, applied or discarded. -/
def State.unlate (s : State) (i : Nat) : State := { s with ldg := { s.ldg with late := tdel s.ldg.late i } }

/-- Series i falls due in this tick, and has not been served in it: a poll, or the value of the source, unless the service has gone past it or has applied all that R296 allows; a source that has no new value yet may still give one in this tick (R282). -/
def State.serNow (s : State) (i : Nat) : State :=
  let b := s.ser i
  if (s.tick.count + i) % serPeriod b ≠ 0 ∨ s.ldg.done.contains i = true then s
  else if serKind b = 1 then (s.serDone i).pollDue i (u16 b 2)
  else if 2 ^ 20 + i < s.ldg.cursor ∨ s.ldgFull = true then s
  else
    match s.serSource b with
    | some r => ((s.serDone i).served1 (2 ^ 20 + i + 1)).serUpdate i r 1 false
    | none => s

/-- LEDGER_SERIES_DUE (R282, R296): the engine serves the series: its update of the tick before, when that is still to be applied, else what falls due in this tick; in series order, and before the replies. A value latched for a source that the entry no longer names is not applied. -/
def execLedgerSeriesDue (i : BitVec 20) (s : State) : Out :=
  .next (
    let n := i.toNat
    if n ≥ s.seriesCount ∨ !s.serOk n ∨ serPeriod (s.ser n) = 0 then s
    else
      let s := s.serSeen n
      match tget? s.ldg.late n with
      | some (r, key) =>
        if n < s.ldg.cursor then s.serNow n
        else if key ≠ serKey (s.ser n) then s.unlate n
        else if s.ldgFull then s
        else ((s.unlate n).served1 (n + 1)).serUpdateAt n r 1 false (s.tick.count - 1)
      | none => s.serNow n)

/-- LEDGER_UPDATE_DISCARD (R296): an internal update of the tick before that was not applied is discarded and counted. -/
def execLedgerUpdateDiscard (i : BitVec 20) (s : State) : Out :=
  .next (if (tget? s.ldg.late i.toNat).isSome then (s.unlate i.toNat).inc .LDG_SKIP 0 F.LDG_SKIP.COUNT 1 else s)

/-- The internal updates of the tick that ends which are still to be applied: series due in it whose source gave a value. -/
def State.ldgLatch (s : State) : Tab (Int × Bytes) :=
  (List.range s.seriesCount).filterMap (fun i =>
    let b := s.ser i
    if s.serOk i && decide (2 ≤ serKind b) && decide (serKind b ≤ 7) && serPeriod b != 0 && (s.tick.count + i) % serPeriod b == 0 && !s.ldg.done.contains i then
      (s.serSource b).map (fun r => (i, r, serKey b))
    else none)

/-- Updates latched for the tick before that were not applied are discarded and counted (R296). -/
def State.dropLate (s : State) : State :=
  let s := if s.ldg.late.isEmpty then s else s.inc .LDG_SKIP 0 F.LDG_SKIP.COUNT s.ldg.late.length
  { s with ldg := { s.ldg with late := [] } }

/-- The ledger at the end of a tick (R296): what was left of the tick before is discarded and counted, this tick's values are latched, and the count of updates begins again. -/
def State.ldgClose (s : State) : State :=
  let l := s.ldgLatch
  let s := s.dropLate
  ({ s with ldg := { s.ldg with late := l, done := [], cursor := 0, applied := 0 } }).pollWaiting

/-- The bus reports one of the errors of R292 with the reply: by BUS and FLAGS of the descriptor. -/
def replyErr (d : Bytes) (x : Reply) : Bool :=
  match u8 d 2 with
  | 1 => x.cpl != .ok
  | 2 => !x.success || !x.enabled
  | 3 => bit (u8 d 11) 0 && !x.pecOk
  | 5 => u8 x.bytes 7 != 0
  | _ => false

/-- The value bytes of a reply: of a poll frame the last four. -/
def replyBytes (d : Bytes) (x : Reply) : Bytes := if u8 d 2 = 5 then slice x.bytes 8 4 else x.bytes

/-- The outstanding poll that a reply matches (R294): by its tag, which a poll frame carries itself beside its MAGIC. -/
def State.replyPoll (s : State) (p tag : Nat) (d : Bytes) (x : Reply) : Option Poll :=
  if u8 d 2 = 5 then (if x.bytes.length = 12 ∧ be16 x.bytes 0 = 0x4C45 then s.findPoll p (be16 x.bytes 2) else none) else s.findPoll p tag

/-- The reply to poll q is judged and applied (R291, R292, R300): a series that is no longer updated, or was rewritten for another source, takes nothing. -/
def State.replyApply (s : State) (q : Poll) (d : Bytes) (x : Reply) : State :=
  let p := q.partner
  let b := s.ser q.series
  let y := replyBytes d x
  let raw := if replyErr d x || !lenFits (u8 d 2) (u32 b 4) (serFmt b) y.length then none else serRaw (serFmt b) (sgn 8 (u8 d 12)) y
  if serKey b ≠ q.key ∨ s.polled q.series = false then s
  else
    match raw with
    | none => (s.setPrtn p { s.prtn p with cntErrors := min 65535 ((s.prtn p).cntErrors + 1) }).serStatus q.series flERROR 7
    | some (num, den) => if q.probe then s.partBack p q.series else s.serUpdate q.series num den true

/-- LEDGER_PARTNER_REPLY (R291, R292, R294, R296, R300): replies are served after the internal updates, and as long as the tick allows another update: until then a reply waits. -/
def execLedgerPartnerReply (p : BitVec 12) (tag : Nat) (x : Reply) (s : State) : Out :=
  .next (
    let d := (s.partE p.toNat).getD []
    match s.replyPoll p.toNat tag d x with
    | none => s.unsolicited p.toNat
    | some q =>
      if s.ldgFull then s
      else
      let s := if x.lost then s.arbLost p.toNat else s
      let s := s.pollEnd q
      let s := (s.setPrtn p.toNat { s.prtn p.toNat with timeouts := 0 }).served1 (2 ^ 21)
      (s.replyApply q d x).pollWaiting)

/-- LEDGER_POLL_TIMEOUT (R291). -/
def execLedgerPollTimeout (p : BitVec 12) (tag : Nat) (s : State) : Out :=
  .next (match s.findPoll p.toNat tag with
    | some q => s.pollTimeout q
    | none => s)

/-- LEDGER_PROBE (R291): every 64 × TMO ticks. -/
def execLedgerProbe (p : BitVec 12) (s : State) : Out :=
  .next (
    let x := s.prtn p.toNat
    match s.partE p.toNat with
    | none => s
    | some d =>
      if !x.absent || decide (s.tick.count < x.probeAt) then s
      else
        let s := s.setPrtn p.toNat { x with probeAt := x.probeAt + 64 * u16 d 8 }
        match (s.partSeries p.toNat).find? (fun i => serPeriod (s.ser i) != 0) with
        | some i => if s.mayPoll p.toNat then s.issuePoll p.toNat i true else s
        | none => s)

/-- STALE (R293). -/
def execStale (i : BitVec 20) (s : State) : Out :=
  .next (
    let b := s.ser i.toNat
    let s := if i.toNat < s.seriesCount then s.serSeen i.toNat else s
    let from_ := if serFl b flVALID then u64 b 56 else (tget (0, []) s.ldg.writtenAt i.toNat).1
    if i.toNat < s.seriesCount ∧ serPeriod b ≠ 0 ∧ serKind b ≠ 0 ∧ from_ + 4 * serPeriod b ≤ s.tick.count then s.serStatus i.toNat flSTALE 5 else s)

/-- LEDGER_UNSOLICITED (R294). -/
def execLedgerUnsolicited (p : BitVec 12) (s : State) : Out := .next (s.unsolicited p.toNat)

/-- LEDGER_THROTTLE_END (R294): 1,024 ticks with no unsolicited frame. -/
def execLedgerThrottleEnd (p : BitVec 12) (s : State) : Out :=
  .next (
    let x := s.prtn p.toNat
    if !x.throttled || decide (s.tick.count < x.quietFrom + 1024) then s
    else
      let s := s.setPrtn p.toNat { x with throttled := false, skip := false, unsol := [] }
      forEach (s.partSeries p.toNat) (fun s i => if serFl (s.ser i) flRATELIM then s.serPut i (serSetFl (s.ser i) flRATELIM false) else s) s)

/-- LEDGER_WRITEBACK (R298). -/
def execLedgerWriteback (i : BitVec 20) (s : State) : Out :=
  .next (if u32 s.ldgD 12 ≠ 0 then s.serBack i.toNat else s)

/-! ### LDG_CMD (R300, R302) -/

/-- The engine's copy into LDG_DATA. -/
def State.ldgShow (s : State) (b : Bytes) : State :=
  forEach (List.range 16) (fun s k => s.wr .LDG_DATA k (BitVec.ofNat 32 (u32 b (4 * k)))) s

/-- The entry that LDG_DATA spells. -/
def State.ldgEntry (s : State) : Bytes := (List.range 16).flatMap (fun k => leBytes 4 (s.rd .LDG_DATA k).toNat)

/-- FLAGS after a WRITE (R281, R285): VALID and STALE wait for the first update; SAT and CLAMP stay with the statistics; HI and LO with their enables; ERROR and RATELIM with the source; ABSENT with the partner. -/
def wrFlags (old new : Bytes) (absent : Bool) : Nat :=
  let same := serKey old == serKey new
  let k (p : Bool) (i : Nat) : Nat := if p then 2 ^ i else 0
  k absent flABSENT + k (same && serFl old flERROR) flERROR + k (serFl old flSAT) flSAT + k (serFl old flCLAMP) flCLAMP
    + k (bit (u8 new 1) 6 && serFl old flHI) flHI + k (bit (u8 new 1) 7 && serFl old flLO) flLO + k (same && serFl old flRATELIM) flRATELIM

/-- The entry after a WRITE of `new` (R278): firmware's bytes are 0 to 19, 44 to 51, 54 and 55; the engine keeps its own (log entry 86). -/
def wrEntry (old new : Bytes) (absent : Bool) : Bytes :=
  slice new 0 20 ++ slice old 20 24 ++ slice new 44 8 ++ leBytes 2 (wrFlags old new absent) ++ slice new 54 2 ++ slice old 56 8

/-- WRITE on series i: what waits for a source that it no longer has goes. -/
def State.serWrite (s : State) (i : Nat) : State :=
  let old := s.ser i
  let new := s.ldgEntry
  let s := if serKey old = serKey new then s else (s.unwait i).unlate i
  let s := { s with ldg := { s.ldg with fresh := tset s.ldg.fresh i true, writtenAt := tset s.ldg.writtenAt i (s.tick.count, serOwn new) } }
  s.serPut i (wrEntry old new (serKind new == 1 && (s.prtn (u16 new 2)).absent))

/-- OP on series i; the state and the code. -/
def State.ldgOp (s : State) (op i : Nat) : State × Nat :=
  if (op ≤ 4) ∧ i ≥ s.seriesCount then (s, 1)
  else if (op ≤ 3) ∧ !s.serOk i then (s, 2)
  else
    match op with
    | 0 => (s.ldgShow (s.ser i), 0)
    | 1 => (s.serWrite i, 0)
    | 2 =>
      let b := serSetFl (putAt (putAt (s.ser i) 32 (leBytes 8 0)) 40 (leBytes 4 0)) flSAT false
      let s := { s with ldg := { s.ldg with fresh := tset s.ldg.fresh i true } }
      (s.serPut i b, 0)
    | 3 =>
      if serKind (s.ser i) ≠ 8 then (s, 3)
      else if serPeriod (s.ser i) = 0 then (s, 0)
      else (s.serUpdate i (s.rd .LDG_DATA 0).toInt 1 false, 0)
    | 4 => (let x := s.serDropOk i; (x.1, if x.2 then 0 else 2))
    | 5 => s.serAll State.serBackOk
    | 6 => s.serAll State.serDropOk
    | _ => (s, 3)

/-- A write of LDG_CMD: GO is ignored while a command runs. -/
def State.ldgCmd (s : State) (v : W32) : State :=
  let s := s.plainWrite .LDG_CMD 0 v
  if !bit v.toNat 31 || s.ldg.busy then s
  else
    let (s, code) := s.ldgOp (F.LDG_CMD.OP.get v) (F.LDG_CMD.INDEX.get v)
    { s with ldg := { s.ldg with busy := true, code := code } }

/-- LDG_CMD_DONE (R300). -/
def execLdgCmdDone (s : State) : Out :=
  .next (if s.ldg.busy then
    ({ s with ldg := { s.ldg with busy := false } }).wr .LDG_CMD_STAT 0 (BitVec.ofNat 32 (2 ^ 31 + s.ldg.code))
  else s)

end Sys2Proof.Machine
end

