-- ==== Sys2Proof/Machine/Stall.lean ====
section
/-!
DEFINITION. Stalls: maps, states and commands, the state record, and the tenant half of a stall's page (R495 to R508).
-/
namespace Sys2Proof.Machine

def State.stl (s : State) (i : Nat) : Stall := tget Stall.init s.stall i
def State.setStl (s : State) (i : Nat) (x : Stall) : State := { s with stall := tset s.stall i x }
/-- 0 FREE, 1 BOUND, 2 QUIESCING, 3 QUIET, 4 FROZEN. -/
def State.stSt (s : State) (i : Nat) : Nat := s.gf .STL_MGR_STAT i F.STL_MGR_STAT.STATE
def State.setStSt (s : State) (i k : Nat) : State := s.pf .STL_MGR_STAT i F.STL_MGR_STAT.STATE k
def State.stCode (s : State) (i k : Nat) : State := s.pf .STL_MGR_STAT i F.STL_MGR_STAT.CODE k
/-- A command ends: CODE and DONE. -/
def State.stDone (s : State) (i k : Nat) : State := (s.stCode i k).pb .STL_MGR_STAT i F.STL_MGR_STAT.DONE true
/-- BOUND or QUIESCING. -/
def State.stBusy (s : State) (i : Nat) : Bool := s.stSt i == 1 || s.stSt i == 2

/-- Limits of the STL entry (R495, R496): all 0 and no pool without one. -/
def State.stlLim (s : State) (i o : Nat) : Nat := u8 (s.entD tSTL i) o
def State.stlPool (s : State) (i : Nat) : Nat :=
  match s.ent tSTL i with
  | some e => u8 e 5
  | none => 0xFF

def State.mbxSlots (s : State) (i : Nat) : List Nat := (List.range 8).filter (fun k => s.gb .STL_MBX_MAP (i * 8 + k) F.STL_MBX_MAP.VALID)
def State.viewSlots (s : State) (i : Nat) : List Nat := (List.range 16).filter (fun k => s.gf .STL_VIEW_CNT (i * 16 + k) F.STL_VIEW_CNT.COUNT ≠ 0)
def State.srcSlots (s : State) (i : Nat) : List Nat := (List.range 32).filter (fun k => s.gb .STL_SRC (i * 32 + k) F.STL_SRC.VALID)
def State.slotSrc (s : State) (i k : Nat) : Nat := s.gf .STL_SRC (i * 32 + k) F.STL_SRC.SOURCE

/-- STL_CNT (R507). -/
def State.stlCnt (s : State) (i : Nat) : W32 :=
  BitVec.ofNat 32 ((s.ownedCh i).length % 64 * 2 ^ 26 + (s.srcSlots i).length * 2 ^ 20 + (s.viewSlots i).length * 2 ^ 15 + (s.mbxSlots i).length * 2 ^ 11)

/-! ### Map writes (R497) -/

/-- Another stall's VALID map word with the same number under `key`. -/
def State.mappedElse (s : State) (r : Reg) (per i : Nat) (key : W32 → Nat) (v : W32) : Bool :=
  (tget [] s.regs r.ctorIdx).any (fun e => decide (e.1 / per ≠ i) && bit e.2.toNat 31 && decide (key e.2 = key v))

def mapKey (v : W32) : Nat := F.STL_MBX_MAP.MBX.get v * 2 + F.STL_MBX_MAP.SIDE.get v

/-- The mailbox side may be mapped by stall i. -/
def State.mbxMapOk (s : State) (i : Nat) (v : W32) : Bool :=
  !s.mappedElse .STL_MBX_MAP 8 i mapKey v && decide (s.sideOwner (F.STL_MBX_MAP.MBX.get v) (F.STL_MBX_MAP.SIDE.get v == 1) = 0xFF)

/-- The source may be mapped by stall i. -/
def State.srcMapOk (s : State) (i : Nat) (v : W32) : Bool :=
  let x := F.STL_SRC.SOURCE.get v
  !s.mappedElse .STL_SRC 32 i F.STL_SRC.SOURCE.get v && !(decide (512 ≤ x) && decide (x ≤ 767)) && !(decide (1216 ≤ x) && decide (x ≤ 1279))

/-- The write makes the held slots exceed the limit. -/
def overLimit (old new : List Nat) (lim : Nat) : Bool := decide (old.length < new.length) && decide (lim < new.length)

/-- A write of a map register of stall i at register index `x` (R497). -/
def State.mapWrite (s : State) (i : Nat) (r : Reg) (x : Nat) (v : W32) : State :=
  let n := regMerge r.desc (s.rd r x) v
  let t := s.wr r x n
  if s.stBusy i then s.stCode i 1
  else if overLimit (s.mbxSlots i) (t.mbxSlots i) (s.stlLim i 1) ∨ overLimit (s.viewSlots i) (t.viewSlots i) (s.stlLim i 2) ∨ overLimit (s.srcSlots i) (t.srcSlots i) (s.stlLim i 3) then s.stCode i 6
  else if r = .STL_MBX_MAP ∧ bit n.toNat 31 = true ∧ s.mbxMapOk i n = false then s.stCode i 3
  else if r = .STL_SRC ∧ bit n.toNat 31 = true ∧ s.srcMapOk i n = false then s.stCode i 3
  else t

/-! ### Commands (R498 to R504) -/

/-- The states in which a command is accepted (R498). -/
def stlAccepts : Nat → List Nat
  | 1 => [0] | 2 => [1] | 3 => [3] | 4 => [3] | 5 => [4] | 6 => [4] | 7 => [0] | 8 => [3, 4] | 9 => [3, 4] | _ => []

/-- R500: what QUIESCE does at once. -/
def State.quiesce (s : State) (i : Nat) : State :=
  let slots := s.srcSlots i
  let latch := (slots.filter (fun k => s.evEn (s.slotSrc i k))).foldl (fun n k => n + 2 ^ k) 0
  let s := s.setStl i { s.stl i with latch := latch }
  let s := (forEach slots (fun s k => s.clrB .EVD_EN_SET (s.slotSrc i k / 32) (s.slotSrc i k % 32)) s).withdraw
  let s := forEach (s.ownedCh i) (fun s c =>
    let st := (s.chn c).st
    if s.prioCh c ∧ (st = .active ∨ st = .waiting) then s.chPause c
    else if st = .active ∨ st = .waiting ∨ st = .queued then s.chStop c
    else s) s
  s.setStSt i 2

/-- R504 on the slots. -/
def State.stlClear (s : State) (i : Nat) : State :=
  let s := forEach (s.mbxSlots i) (fun s k => s.mbxReset (s.gf .STL_MBX_MAP (i * 8 + k) F.STL_MBX_MAP.MBX)) s
  let s := (forEach (s.srcSlots i) (fun s k => s.clrB .EVD_PEND_SET (s.slotSrc i k / 32) (s.slotSrc i k % 32)) s).withdraw
  let s := forEach (s.ownedCh i) (fun s c => ((s.freeLines c).setChn c Chan.init).wr .CH_STAT c 0) s
  { s with basin := s.basin.filter (fun e => e.2.stall ≠ some i) }

/-- Registers that hold a stall's maps and their number per stall. -/
def stlMaps : List (Reg × Nat) := [(.STL_MBX_MAP, 8), (.STL_VIEW_BASE, 16), (.STL_VIEW_CNT, 16), (.STL_SRC, 32), (.STL_WIN_A, 4), (.STL_WIN_B, 4)]
def State.stlUnmap (s : State) (i : Nat) : State :=
  forEach stlMaps (fun s p => forEach (List.range p.2) (fun s k => s.wr p.1 (i * p.2 + k) 0) s) s

def edReq : Req := { agent := .ledger, lvl := .m, sid := 0, cls := 0 }
def State.recAddr (s : State) (i : Nat) : Nat := (s.rd .STL_REC_ADDR_LO i).toNat / 4096 * 4096 + 2 ^ 32 * ((s.rd .STL_REC_ADDR_HI i).toNat % 65536)

def zeros (n : Nat) : Bytes := List.replicate n 0
/-- Pad with zeros to `n` bytes. -/
def padTo (n : Nat) (b : Bytes) : Bytes := b ++ zeros (n - b.length)

/-- A direction of a mailbox in the record: words, acknowledge register, depth and sequence, ticks in WAIT. -/
def State.recDir (s : State) (m : Nat) (ba : Bool) (now : Int) : Bytes :=
  let d := (s.mb m).dir ba
  padTo 64 (d.q.flatMap (fun p => leBytes 4 p.1.toNat ++ leBytes 4 p.2.toNat)) ++ leBytes 4 (s.mbxAck m ba).toNat
    ++ leBytes 4 (d.q.length + d.seq * 65536) ++ leBytes 4 (if d.st = 1 then (now - d.w).toNat else 0)

/-- The record of R502 but its CRC; of a slot that is not VALID it holds the register's fields and no state behind them (log entry 136). -/
def State.recBody (s : State) (i : Nat) : Bytes :=
  let now : Int := (s.stl i).frozenAt
  let ml := (List.range 8).flatMap (fun k =>
    let v := s.rd .STL_MBX_MAP (i * 8 + k)
    let m := F.STL_MBX_MAP.MBX.get v
    leBytes 4 v.toNat ++ leBytes 4 (s.rd .MBX_TMO m).toNat ++ (if bit v.toNat 31 then s.recDir m false now ++ s.recDir m true now else zeros 152))
  let cl := (s.ownedCh i).take 32 |>.flatMap (fun c =>
    let x := s.chn c
    let f (b : Bool) (n : Nat) : Nat := if b then n else 0
    leBytes 2 c ++ leBytes 2 (s.gf .CH_OWN c F.CH_OWN.LEVEL + f x.part 4 + f x.stopped 8 + f x.underrun 16) ++ leBytes 1 (s.mnum (s.chEntry c + 8) 1)
      ++ zeros 3 ++ s.mread (s.chEntry c + 64) 32 ++ zeros 8)
  leBytes 4 0x53544C52 ++ leBytes 2 1 ++ leBytes 1 i ++ zeros 1 ++ leBytes 2 (s.rd .STL_BIND i).toNat
    ++ leBytes 1 (s.mbxSlots i).length ++ leBytes 1 (s.viewSlots i).length ++ leBytes 1 (s.srcSlots i).length ++ leBytes 1 (s.ownedCh i).length ++ zeros 2
    ++ leBytes 8 s.tick.count ++ leBytes 8 s.keep.serial.toNat ++ zeros 32
    ++ (List.range 4).flatMap (fun w => leBytes 4 (s.rd .STL_WIN_A (i * 4 + w)).toNat ++ leBytes 4 (s.rd .STL_WIN_B (i * 4 + w)).toNat ++ zeros 8)
    ++ (List.range 16).flatMap (fun v => leBytes 4 (s.rd .STL_VIEW_BASE (i * 16 + v)).toNat ++ leBytes 4 (s.rd .STL_VIEW_CNT (i * 16 + v)).toNat ++ zeros 8)
    ++ (List.range 32).flatMap (fun k =>
        let v := s.rd .STL_SRC (i * 32 + k)
        leBytes 4 (v.toNat % 2048 + (if bit v.toNat 31 then (if bit (s.stl i).latch k then 2 ^ 13 else 0) + (if s.evPend (v.toNat % 2048) then 2 ^ 14 else 0) + 2 ^ 15 else 0)))
    ++ ml ++ padTo 1536 cl ++ zeros 764

/-- SAVE (R502): the state and the code. -/
def State.stlSave (s : State) (i : Nat) : State × Nat :=
  let b := s.recBody i
  let a := s.recAddr i
  if a + 4096 ≤ s.dramSize then
    let (s, ok) := s.memWr edReq a (b ++ leBytes 4 (crc32 b))
    (s, if ok then 0 else 5)
  else (s, 5)

/-- Words of a direction from the record. -/
def recWords (b : Bytes) (o : Nat) : Nat → List (W32 × W32)
  | 0 => []
  | n + 1 => (BitVec.ofNat 32 (u32 b o), BitVec.ofNat 32 (u32 b (o + 4))) :: recWords b (o + 8) n

def recDirOf (b : Bytes) (o : Nat) (now : Int) : MbxDir :=
  let ack := u32 b (o + 64)
  { q := recWords b o (min 8 (u32 b (o + 68) % 16)), st := ack / 65536 % 4, code := ack % 65536, w := now - u32 b (o + 72), seq := u32 b (o + 68) / 65536 % 4096 }

/-- The code of RESTORE before anything changes (R503). -/
def State.restoreCode (s : State) (i : Nat) (b : Bytes) : Nat :=
  let cnt (o : Nat) : Nat := u8 b (0xA + o)
  let maps := (List.range 8).filterMap (fun k => if bit (u32 b (0x200 + 160 * k)) 31 then some (BitVec.ofNat 32 (u32 b (0x200 + 160 * k)) : W32) else none)
  let srcs := (List.range 32).filterMap (fun k => if bit (u32 b (0x180 + 4 * k)) 15 then some (BitVec.ofNat 32 (u32 b (0x180 + 4 * k) % 2048 + 2 ^ 31) : W32) else none)
  let views := ((List.range 16).filter (fun v => decide (F.STL_VIEW_CNT.COUNT.get (BitVec.ofNat 32 (u32 b (0x84 + 16 * v))) ≠ 0))).length
  let chs := (List.range (min 32 (cnt 3))).map (fun k => u16 b (0x700 + 48 * k))
  if u32 b 0 ≠ 0x53544C52 ∨ u16 b 4 ≠ 1 ∨ u32 b 0xFFC ≠ crc32 (b.take 0xFFC) ∨ cnt 0 > s.stlLim i 1 ∨ cnt 1 > s.stlLim i 2 ∨ cnt 2 > s.stlLim i 3 ∨ cnt 3 > s.stlLim i 4 then 4
  else if decide (maps.length > s.stlLim i 1) || decide (views > s.stlLim i 2) || decide (srcs.length > s.stlLim i 3) || decide ((s.ownedCh i).length + chs.length > s.stlLim i 4) || chs.any (fun c => decide (c ≥ 4096)) || maps.any (fun v => !s.mbxMapOk i v) || srcs.any (fun v => !s.srcMapOk i v) || chs.any (fun c => decide ((s.chn c).st ≠ .idle) || s.gb .CH_OWN c F.CH_OWN.STALL_EN) then 3
  else 0

/-- The word of a record at byte o as register r stores it: a reserved bit reads 0 (R5). -/
def recReg (r : Reg) (b : Bytes) (o : Nat) : W32 := BitVec.ofNat 32 (u32 b o) &&& BitVec.ofNat 32 r.desc.rw

/-- R503: windows, views and the binding from the record. -/
def State.restoreViews (s : State) (i : Nat) (b : Bytes) : State :=
  let s := forEach (List.range 4) (fun s w => (s.wr .STL_WIN_A (i * 4 + w) (recReg .STL_WIN_A b (0x40 + 16 * w))).wr .STL_WIN_B (i * 4 + w) (recReg .STL_WIN_B b (0x44 + 16 * w))) s
  let s := forEach (List.range 16) (fun s v => (s.wr .STL_VIEW_BASE (i * 16 + v) (recReg .STL_VIEW_BASE b (0x80 + 16 * v))).wr .STL_VIEW_CNT (i * 16 + v) (recReg .STL_VIEW_CNT b (0x84 + 16 * v))) s
  s.wr .STL_BIND i (BitVec.ofNat 32 (u16 b 8))

/-- Source k of the record. -/
def recSrc (b : Bytes) (k : Nat) : Nat := u32 b (0x180 + 4 * k)

/-- R503: the source slots. -/
def State.restoreSrcs (s : State) (i : Nat) (b : Bytes) : State :=
  forEach (List.range 32) (fun s k => s.wr .STL_SRC (i * 32 + k) (if bit (recSrc b k) 15 then BitVec.ofNat 32 (recSrc b k % 2048 + 2 ^ 31) else 0)) s

/-- R503: the mailbox slots, and the mailboxes they name. -/
def State.restoreMbx (s : State) (i : Nat) (b : Bytes) : State :=
  let now : Int := s.tick.count
  forEach (List.range 8) (fun s k =>
    let o := 0x200 + 160 * k
    let v := recReg .STL_MBX_MAP b o
    if bit v.toNat 31 then
      let m := F.STL_MBX_MAP.MBX.get v
      (((s.wr .STL_MBX_MAP (i * 8 + k) v).wr .MBX_TMO m (recReg .MBX_TMO b (o + 4))).setDir m false (recDirOf b (o + 8) now)).setDir m true (recDirOf b (o + 84) now)
    else s.wr .STL_MBX_MAP (i * 8 + k) 0) s

/-- R503: the channels and their contexts. -/
def State.restoreChs (s : State) (i : Nat) (b : Bytes) : State :=
  forEach (List.range (min 32 (u8 b 0xD))) (fun s k =>
    let o := 0x700 + 48 * k
    let c := u16 b o
    let f := u16 b (o + 2)
    let s := s.wr .CH_OWN c (BitVec.ofNat 32 (i * 256 + 4 + f % 4))
    let s := (s.memWr edReq (s.chEntry c + 64) (slice b (o + 8) 32)).1
    s.setChn c { s.chn c with ctx := false, part := bit f 2, stopped := bit f 3, underrun := bit f 4 }) s

/-- R503: everything that the record b gives stall i. -/
def State.restoreAll (s : State) (i : Nat) (b : Bytes) : State :=
  let now := s.tick.count
  let s := (((s.restoreViews i b).restoreSrcs i b).restoreMbx i b).restoreChs i b
  let s := s.setStl i { s.stl i with latch := ((List.range 32).filter (fun k => bit (recSrc b k) 13 && bit (recSrc b k) 15)).foldl (fun n k => n + 2 ^ k) 0, frozenAt := now }
  let s := forEach (List.range 32) (fun s k => if bit (recSrc b k) 15 && bit (recSrc b k) 14 then s.raise (recSrc b k % 2048) else s) s
  s.setStSt i 4

/-- RESTORE of the record b (R503): the state and the code. -/
def State.restoreRec (s : State) (i : Nat) (b : Bytes) : State × Nat :=
  if s.restoreCode i b ≠ 0 then (s, s.restoreCode i b) else (s.restoreAll i b, 0)

/-- RESTORE (R503). -/
def State.stlRestore (s : State) (i : Nat) : State × Nat :=
  if s.recAddr i + 4096 ≤ s.dramSize then
    match s.memRd edReq (s.recAddr i) 4096 with
    | none => (s, 5)
    | some b => s.restoreRec i b
  else (s, 5)

/-- The mailboxes of which the stall maps a side, each once. -/
def State.mappedMbx (s : State) (i : Nat) : List Nat :=
  (List.range 128).filter (fun m => (s.mbxSlots i).any (fun k => s.gf .STL_MBX_MAP (i * 8 + k) F.STL_MBX_MAP.MBX = m))

/-- THAW (R501): the ticks spent frozen are added to w. -/
def State.stlThaw (s : State) (i : Nat) : State :=
  let dt := s.tick.count - (s.stl i).frozenAt
  let add (d : MbxDir) : MbxDir := if d.st = 1 then { d with w := d.w + dt } else d
  let s := forEach (s.mappedMbx i) (fun s m => s.setMb m { ab := add (s.mb m).ab, ba := add (s.mb m).ba }) s
  s.setStSt i 3

/-- The effect of an accepted command as it ends: the state and the code. -/
def State.stlRun (s : State) (i c : Nat) : State × Nat :=
  match c with
  | 1 => (s.setStSt i 1, 0)
  | 3 => (forEach (s.srcSlots i) (fun s k =>
      let v := BitVec.ofNat 32 (2 ^ (s.slotSrc i k % 32))
      if bit (s.stl i).latch k then s.evdEnSet (s.slotSrc i k / 32) v else s.evdEnClr (s.slotSrc i k / 32) v) (s.setStSt i 1), 0)
  | 4 => ((s.setStl i { s.stl i with frozenAt := s.tick.count }).setStSt i 4, 0)
  | 5 => (s.stlThaw i, 0)
  | 6 => s.stlSave i
  | 7 => s.stlRestore i
  | 8 => ((s.stlClear i).setStSt i 3, 0)
  | 9 =>
    let own := s.ownedCh i
    let s := forEach own (fun s c => s.wr .CH_OWN c 3) (s.stlClear i)
    ((s.stlUnmap i).setStSt i 0, 0)
  | _ => (s, 0)

/-- A write of STL_CTL (R498). -/
def State.stlCtl (s : State) (i : Nat) (v : W32) : State :=
  let c := F.STL_CTL.CMD.get v
  if (s.stl i).cmd.isSome ∨ c = 0 ∨ c > 9 then s
  else if (stlAccepts c).contains (s.stSt i) then
    let s := s.setStl i { s.stl i with cmd := some c }
    if c = 2 then s.quiesce i else s
  else s.stDone i (if s.stBusy i then 1 else 2)

/-- A write of STL_BIND (R498). -/
def State.stlBind (s : State) (i : Nat) (v : W32) : State := if s.stBusy i then s.stCode i 1 else s.plainWrite .STL_BIND i v

/-- SYSRST_N and PORST_N: every stall FREE, every map removed (R498). -/
def State.stlResetAll (s : State) : State :=
  { (s.clearRegs [.STL_BIND, .STL_CTL, .STL_MGR_STAT, .STL_REC_ADDR_LO, .STL_REC_ADDR_HI, .STL_MBX_MAP, .STL_VIEW_BASE, .STL_VIEW_CNT, .STL_SRC, .STL_WIN_A, .STL_WIN_B, .STL_T_LV_CMD, .STL_T_LV_STAT, .STL_T_LV_DATA]) with stall := [] }

/-! ### The tenant half (R505 to R508) -/

/-- STL_T_BELL (R507). -/
def State.stlRing (s : State) (i : Nat) (v : W32) : State :=
  if bit v.toNat 0 then (s.pb .STL_MGR_STAT i F.STL_MGR_STAT.BELL true).raise (512 + i) else s

/-- Act on the sources of the slots of `v`. -/
def State.stlSlots (s : State) (i : Nat) (v : W32) (f : State → Nat → W32 → State) : State :=
  forEach ((s.srcSlots i).filter (fun k => bit v.toNat k)) (fun s k => f s (s.slotSrc i k / 32) (BitVec.ofNat 32 (2 ^ (s.slotSrc i k % 32)))) s
/-- EN or PEND by slot. -/
def State.stlBits (s : State) (i : Nat) (f : Nat → Bool) : W32 :=
  BitVec.ofNat 32 (((s.srcSlots i).filter (fun k => f (s.slotSrc i k))).foldl (fun n k => n + 2 ^ k) 0)

/-- A read of STL_T_BSN_ALLOC (R505). -/
def State.stlAlloc (s : State) (i : Nat) : State × W32 :=
  let p := s.stlPool i
  if p = 0xFF ∨ s.tagged i ≥ u32 (s.entD tSTL i) 8 then (s, 0)
  else
    let (s, t) := s.allocGranule p (some i)
    (s, BitVec.ofNat 32 t)

/-- A write of STL_T_BSN_FREE (R505). -/
def State.stlFree (s : State) (i : Nat) (v : W32) : State :=
  let g := v.toNat % 2 ^ 17
  match tget? s.basin g with
  | some x => if x.stall = some i then { s with basin := tdel s.basin g } else s.badFree
  | none => s.badFree

/-- A write of STL_T_LV_CMD (R506). -/
def State.lvCmd (s : State) (i : Nat) (v : W32) : State :=
  let s := s.plainWrite .STL_T_LV_CMD i v
  if bit v.toNat 31 ∧ (s.stl i).lv.isNone then s.setStl i { s.stl i with lv := some v.toNat } else s

/-- The command as it ends (R506): the state and the code. -/
def State.lvRun (s : State) (i cmd : Nat) : State × Nat :=
  let w := cmd / 2 ^ 24 % 16
  let off := cmd % 2 ^ 21
  let cnt := s.rd .STL_VIEW_CNT (i * 16 + w)
  let n := F.STL_VIEW_CNT.COUNT.get cnt
  let x := s.gf .STL_VIEW_BASE (i * 16 + w) F.STL_VIEW_BASE.BASE + off
  let op := bit cmd 28
  if n = 0 ∨ (op = true ∧ bit cnt.toNat 31 = false) then (s, 2)
  else if off ≥ n ∨ x ≥ s.seriesCount then (s, 1)
  else if !s.serOk x then (s, 3)
  else if op then
    let d (k : Nat) : Nat := (s.rd .STL_T_LV_DATA (i * 16 + k)).toNat
    let b := s.ser x
    let b := putAt (putAt b 44 (leBytes 4 (d 11))) 48 (leBytes 4 (d 12))
    let b := putAt b 54 (leBytes 2 (d 13 / 65536))
    (s.serPut x (putAt b 1 [BitVec.ofNat 8 (u8 b 1 % 64 + d 0 / 2 ^ 14 % 4 * 64)]), 0)
  else (forEach (List.range 16) (fun s k => s.wr .STL_T_LV_DATA (i * 16 + k) (BitVec.ofNat 32 (u32 (s.ser x) (4 * k)))) s, 0)

/-! ### Commands -/

/-- Nothing of the stall is outstanding (R500). -/
def State.stlDrained (s : State) (i : Nat) : Bool :=
  (s.ownedCh i).all (fun c => let st := (s.chn c).st; decide (st = .idle) || decide (st = .error) || decide (st = .paused)) && (s.stl i).lv.isNone

/-- STALL_QUIET (R500). -/
def execStallQuiet (i : Fin 256) (s : State) : Out :=
  .next (if s.stSt i = 2 ∧ (s.stl i).cmd = some 2 ∧ s.stlDrained i = true then
    (((s.setStl i { s.stl i with cmd := none }).setStSt i 3).stDone i 0).raise (512 + i)
  else s)

/-- STALL_CMD_DONE (R498). -/
def execStallCmdDone (i : Fin 256) (s : State) : Out :=
  .next (match (s.stl i).cmd with
    | some c =>
      if c = 2 then s
      else
        let (t, code) := (s.setStl i { s.stl i with cmd := none }).stlRun i c
        t.stDone i code
    | none => s)

/-- LV_CMD_DONE (R506, R507). -/
def execLvCmdDone (i : Fin 256) (s : State) : Out :=
  .next (match (s.stl i).lv with
    | some c =>
      let (t, code) := (s.setStl i { s.stl i with lv := none }).lvRun i c
      t.wr .STL_T_LV_STAT i (BitVec.ofNat 32 (2 ^ 31 + code))
    | none => s)

end Sys2Proof.Machine
end

