-- ==== Sys2Proof/Machine/Power.lean ====
section
/-!
DEFINITION. Power: core resets and starts, unit actions, the sluice, region retention, and the entry into package states (R12 to R17, R358, R509 to R526).
-/
namespace Sys2Proof.Machine

/-- Forget the stored value of a register: its reset value. -/
def State.clearAt (s : State) (r : Reg) (i : Nat) : State := { s with regs := tset s.regs r.ctorIdx (tdel (tget [] s.regs r.ctorIdx) i) }

/-! ### Cores -/

/-- Dirty L1D lines of a core are lost, unless the L2 held a copy (R358): a free choice for each line. -/
def State.dropLines (s : State) : List (Nat × Bytes) → State
  | [] => s
  | (a, b) :: r => ((if s.freeBit then s.mput a b else s).tick1).dropLines r

/-- The core halts (R562): 1 HALT, 2 STEP, 3 BRK. -/
def State.haltNow (s : State) (n reason : Nat) : State :=
  let s := s.setCor n { s.cor n with halted := true, haltReq := false, stepping := false, resync := true }
  (s.pf .DBG_CORE_STAT n F.DBG_CORE_STAT.REASON reason).pb .DBG_CORE_STAT n F.DBG_CORE_STAT.HALTED true

/-- The core is at an instruction boundary and may go on from it: in C0, not halted, not fenced, no load outstanding, not stalled by its trace FIFO, in a region in service. -/
def State.atBoundary (s : State) (n : Nat) : Bool :=
  decide ((s.cor n).st = .run) && !(s.cor n).halted && !s.fenced 0 n && !s.isOut 0 n && s.inService (n / 8)
    && decide ((s.cor n).load = none) && !s.trcStalled n

/-- A HALT that waited over a stall or a fence is taken at the boundary where the core stands (R562). -/
def State.haltWaits (s : State) (n : Nat) : State :=
  if s.atBoundary n && (s.cor n).haltReq && !(s.cor n).shield && !(s.cor n).stepping then s.haltNow n 1 else s

/-- A halt of a core ends. -/
def State.unhalt (s : State) (n : Nat) : State := if (s.cor n).halted then s.wr .DBG_CORE_STAT n 0 else s

/-- A core starts at level M, every register at its reset value (R391, R512), and with it its region comes back from retention (R514); a HALT that waited for it is taken before its first instruction (R563). SYSRST_N low holds it in reset (R95). -/
def State.coreStart (s : State) (n : Nat) (pc : W64) : State :=
  if s.pins.sysrst then s
  else
    let s := s.regionUp (n / 8)
    let asked := (s.cor n).haltReq
    let s := ((s.unhalt n).setCor n { Core.init with st := .run, pc := pc, resync := true }).withdraw
    if asked then s.haltNow n 1 else s

/-- The restart address of PWR_CORE_RVEC. -/
def State.rvec (s : State) (n : Nat) : W64 :=
  BitVec.ofNat 64 ((s.rd .PWR_CORE_RVEC_LO n).toNat / 4 * 4 + 2 ^ 32 * (s.rd .PWR_CORE_RVEC_HI n).toNat)

/-- A core loses its state: C3 (R509). -/
def State.coreOff (s : State) (n : Nat) : State := (s.unhalt n).setCor n { Core.init with haltReq := (s.cor n).haltReq }

/-- A unit reset of a core (R12, R358): it starts again at PWR_CORE_RVEC (log entry 140). -/
def State.coreReset (s : State) (n : Nat) : State := (s.dropLines (s.cor n).l1d).coreStart n (s.rvec n)

/-- A write of PWR_CORE_CTL (R512, R526). -/
def State.pwrCoreCtl (s : State) (n : Nat) (v : W32) : State :=
  let s := s.plainWrite .PWR_CORE_CTL n (if v.toNat % 4 = 0 then v ||| 1 else v)
  if !bit v.toNat 2 then s
  else if (s.cor n).st = .c3 ∧ bit s.img.hold (n / 8) = false ∧ s.inService (n / 8) = true ∧ s.isOut 0 n = false then s.coreStart n (s.rvec n)
  else s.pb .PWR_CORE_STAT n F.PWR_CORE_STAT.ONREF true

/-! ### Unit actions (R12, R525) -/

/-- Units of each kind. -/
def kindCount (k : Nat) : Nat := Sys2Proof.unitCount k

/-- A rail uses the unit (R525). -/
def State.railUses (s : State) (kind idx : Nat) : Bool :=
  s.rails.any (fun r =>
    let e := s.railD r
    match kind with
    | 1 => (railLes e).contains idx || (s.serversOf r).contains idx
    | 2 => (railLes e).any (fun j => lcOf j == idx)
    | 6 => (railPhases e).any (fun p => p / 8 == idx)
    | 7 => bit (u8 e 17) idx
    | 8 => u8 e 2 == idx
    | _ => false)

/-- Registers that a unit holds, with its index among each register's indexes: `n` consecutive ones from idx × n. -/
def unitRegs : Nat → List (Reg × Nat)
  | 6 => [(.PL_CTL, 1), (.PL_STATUS, 1), (.PL_PHASE, 1), (.PL_PHASE2, 1), (.PL_READMIT, 1), (.PL_EVT, 1), (.PL_EVT_EN, 1), (.PL_RTD, 8), (.PL_ERR, 8), (.PL_AUX, 8),
          (.PL_REG_CMD, 1), (.PL_REG_RESULT, 1), (.PL_EYE_CTL, 1), (.PL_EYE_RES, 1), (.PL_PRBS_ERR, 1), (.PL_INJ, 1)]
  | 7 => [(.HINT_CTL, 1), (.HINT_STAT, 1), (.HINT_ACC, 1), (.HINT_DROP0, 1), (.HINT_DROP1, 1), (.HINT_EVT, 1), (.HINT_EVT_EN, 1)]
  | 10 => [(.PORT_CTL, 1), (.PORT_STAT, 1), (.PORT_EVT, 1), (.PORT_EVT_EN, 1), (.PORT_ERR0, 1), (.PORT_ERR1, 1), (.PORT_RXQ, 1), (.PORT_TXQ, 1), (.PORT_LANE_ERR, 8),
           (.PORT_RAW_CMD, 1), (.PORT_RAW_DATA, 1), (.PORT_RAW_RES, 1)]
  | 4 => [(.EVD_PMR, 8), (.EVD_TGT_MOD, 8), (.EVD_TGT_STAT, 8)]
  | 3 => [(.DMA_GRP_PEND, 32), (.DMA_RQ_CFG, 64), (.CH_CTL, 1024), (.CH_STAT, 1024), (.CH_OWN, 1024)]
  | _ => []
/-- Registers, each with as many indexes for unit `idx` as the list says, return to their reset values. -/
def State.clearEach (s : State) (rs : List (Reg × Nat)) (idx : Nat) : State :=
  { s with regs := rs.foldl (fun t p => tset t p.1.ctorIdx ((tget [] t p.1.ctorIdx).filter (fun e => decide (e.1 / p.2 ≠ idx)))) s.regs }
def State.clearUnitRegs (s : State) (kind idx : Nat) : State := s.clearEach (unitRegs kind) idx

/-- The registers of loop cluster c and of its nine LEs. -/
def lcRegs : List (Reg × Nat) :=
  [(.LC_STATUS, 1), (.LC_SPARE_CTL, 1), (.LC_REC_CTL, 1), (.LC_EVT, 1), (.LC_EVT_EN, 1), (.LC_LE_STATUS, 9), (.LC_LE_CTL, 9), (.LC_LE_FAULT, 9),
   (.LC_LE_FAULT_LC0, 9), (.LC_LE_FAULT_LC1, 9), (.LC_LE_FAULT_TICK_LO, 9), (.LC_LE_FAULT_TICK_HI, 9), (.LC_LE_FAULT_CNT, 9), (.LC_LE_SHWIN, 9),
   (.LC_LE_EVT, 9), (.LC_LE_CYC, 9), (.LC_LE_MAXCYC, 9)]
def State.lcClear (s : State) (c : Nat) : State := s.clearEach lcRegs c

/-- A PL port enumerates on release from a fence (R182). -/
def State.plStart (s : State) (n : Nat) : State := if s.canEnum n then s.enumFull n else s

/-- An ADC channel at its reset values: its code register, its saturation run and flag (R12, R247, R248). -/
def State.adcReset (s : State) (ch : Nat) : State :=
  let s := if ch < 64 then s.clearAt .ADC_RS ch else s.clearAt .ADC_AUX (ch - 64)
  let s := s.clrB (if ch < 32 then .ADC_SAT_LO else if ch < 64 then .ADC_SAT_HI else .ADC_SAT_AUX) 0 (ch % 32)
  { s with adc := { s.adc with satRun := tdel s.adc.satRun ch } }

/-- An LE that is taken out of service loses its state (R12); its code memory stands in the loop cluster. -/
def State.lePowerOff (s : State) (j : Nat) : State :=
  let x := s.leAt j
  s.setLe j { LoopEngine.init with codeLen := x.codeLen, initMode := x.initMode, bank := x.bank, st := .out }

/-- The unit's state returns to reset values (R12). -/
def State.unitReset1 (s : State) (kind idx : Nat) : State :=
  let s := s.clearUnitRegs kind idx
  match kind with
  | 0 => if (s.cor idx).st = .c3 then s else s.coreReset idx
  | 2 => forEach (((List.range 8).map (fun i => 8 * idx + i)) ++ [32 + idx]) (fun s j => s.setLe j { s.leAt j with set := none, setNow := false }) s
  | 3 => { s with dma := { s.dma with ch := s.dma.ch.filter (fun e => engOf e.1 ≠ idx), held := s.dma.held.filter (fun e => engOf e.2 ≠ idx) } }
  | 4 => { s with evd := { s.evd with pres := s.evd.pres.filter (fun e => e.1 / 8 ≠ idx), modAt := s.evd.modAt.filter (fun e => e.1 / 8 ≠ idx) } }
  | 6 => s.setPrt idx { Port.init with startDue := !s.fenced 6 idx }
  | 7 => { s with hint := tdel s.hint idx }
  | 8 => s.adcReset idx
  | 9 => s.mbxReset idx
  | 10 => (s.dropGranules ((s.xp idx).rxq.flatMap (fun t => s.chain idx t 261))).setXp idx ExtPort.init
  | _ => s

/-- A unit is fenced: a PL port's registers keep their values from then on (R12, R182). -/
def State.setFence (s : State) (kind idx : Nat) : State :=
  let s := if kind = 6 ∧ s.fenced 6 idx = false then s.prbsEnd idx (s.gf .PL_CTL idx F.PL_CTL.TEST) else s
  s.setUnit kind idx { s.unitAt kind idx with fenced := true }

/-- One action on a unit (R12, R14): bits 0 RESET, 1 FENCE, 2 UNFENCE, 3 OUT, 4 TRACE on, 5 TRACE off. -/
def State.unitAct (s : State) (kind idx b : Nat) : State :=
  let u := s.unitAt kind idx
  match b with
  | 0 => if u.out then (s.unitReset1 kind idx).setUnit kind idx { u with out := false, fenced := true } else s.unitReset1 kind idx
  | 1 => (s.setFence kind idx).withdraw
  | 2 =>
    if u.out then s
    else
      -- the release of a tick sequencer also lifts the fence of its loop cluster (R14, R27)
      let s := s.setUnit kind idx { u with fenced := false }
      if kind = 6 ∧ u.fenced then s.plStart idx
      else if kind = 2 then s.setLc idx { s.lcAt idx with fenced := false }
      else if kind = 0 then (s.withdraw).haltWaits idx
      else s.withdraw
  | 3 =>
    let s := s.setUnit kind idx { u with fenced := true, out := true }
    (match kind with
      | 0 => s.coreOff idx
      | 1 => s.lePowerOff idx
      | _ => s.unitReset1 kind idx).withdraw
  | 4 => s.setUnit kind idx { u with trace := true }
  | _ => s.setUnit kind idx { u with trace := false }

/-- What R525 answers to the actions: 0 OK, 1 INUSE, 2 BADUNIT. -/
def State.unitCode (s : State) (acts kind idx : Nat) : Nat :=
  if kindCount kind ≤ idx then 2
  else if (bit acts 3 && s.railUses kind idx) || (kind == 5 && (bit acts 0 || bit acts 3)) then 1
  else 0

/-- A write of PWR_UNIT_CTL; the actions run until UNIT_ACTION_DONE, and a write meanwhile starts none (log entry 141). LE actions wait for the tick edge as LC_LE_CTL's do (R240). -/
def State.unitCtl (s : State) (v : W32) : State :=
  let s := s.plainWrite .PWR_UNIT_CTL 0 v
  let acts := F.PWR_UNIT_CTL.ACT.get v
  let kind := F.PWR_UNIT_CTL.KIND.get v
  let idx := F.PWR_UNIT_CTL.INDEX.get v
  if acts = 0 ∨ s.pwr.act.isSome then s
  else
    let s := { s with pwr := { s.pwr with act := some (acts, kind, idx), acted := none } }
    if kind = 1 ∧ s.unitCode acts kind idx = 0 then
      let x := s.leAt idx
      s.setLe idx { x with pend := (x.pend.1 || bit acts 0, x.pend.2.1 || bit acts 1, x.pend.2.2 || bit acts 2) }
    else s

/-- The actions end: the state, and the code. -/
def State.unitRun (s : State) (acts kind idx : Nat) : State × Nat :=
  let code := s.unitCode acts kind idx
  if code ≠ 0 then (s, code)
  else
    let bs := (List.range 6).filter (fun b => bit acts b && !(kind == 1 && decide (b < 3)))
    (forEach bs (fun s b => s.unitAct kind idx b) s, 0)

/-- Kinds whose actions take effect at the next tick edge (R525). -/
def edgeKind (k : Nat) : Bool := k == 1 || k == 2 || k == 6 || k == 7 || k == 8

/-- A tick edge carries out the action that waits for it (R525): those of an LE with `le`, after LC_LE_CTL's. -/
def State.unitEdge (s : State) (le : Bool) : State :=
  match s.pwr.act, s.pwr.acted with
  | some (acts, kind, idx), none =>
    if edgeKind kind && ((kind == 1) == le) then
      let (t, code) := s.unitRun acts kind idx
      { t with pwr := { t.pwr with acted := some code } }
    else s
  | _, _ => s

/-! ### Fences by fault (R13, R17, R26, R27) -/

/-- Fence every core-side unit of region r, then raise the region's fault event (R13, R26). -/
def State.fenceRegion (s : State) (r : Nat) : State :=
  let s := forEach (List.range 8) (fun s i => s.setUnit 0 (8 * r + i) { s.unitAt 0 (8 * r + i) with fenced := true }) s
  (((s.setUnit 3 r { s.unitAt 3 r with fenced := true }).setUnit 4 r { s.unitAt 4 r with fenced := true }).withdraw).raise (1216 + r)

/-- Fence loop cluster c whole: nothing more leaves its LEs, and source 1228 + c alone is raised (R13, R27); a DRIVING package has a cause to yield (R315). -/
def State.fenceLc (s : State) (c : Nat) : State :=
  if (s.lcAt c).fenced then s
  else
    let s := s.setLc c { s.lcAt c with fenced := true }
    let s := forEach ((List.range 8).map (fun i => 8 * c + i) ++ [32 + c]) (fun s j =>
      let x := s.leAt j
      s.setLe j { x with st := .fenced, cmd := x.cmd.filter (fun e => e.2.released), wait := none, sh := none }) s
    ({ s with cmp := { s.cmp with yield := true } }).raise (1228 + c)

/-! ### The sluice (R515 to R518) -/

/-- V_min of a frequency code, in mV, rounded up to 5 (R515). -/
def vMin (f : Nat) : Nat := (2400 + 50 * (f - 12) + 19) / 20 * 5

def State.vCur (s : State) (r : Nat) : Nat := s.gf .PWR_REG_STAT r F.PWR_REG_STAT.VCUR
def State.fCur (s : State) (k : Nat) : Nat := s.gf .PWR_CC_FREQ k F.PWR_CC_FREQ.CUR
def fOk (f : Nat) : Bool := decide (12 ≤ f) && decide (f ≤ 40)
def vOk (v : Nat) : Bool := decide (600 ≤ v) && decide (v ≤ 950) && decide (v % 5 = 0)

/-- A request ends with a code and raises source 1220 (R517, R518). -/
def State.slEnd (s : State) (r code : Nat) : State :=
  let lowers := match tget? s.pwr.sluice r with
    | some x => x.keeps
    | none => false
  let vbad := if code = 3 ∨ code = 4 then setBit s.pwr.vbad r true else if code = 0 ∧ lowers = true then setBit s.pwr.vbad r false else s.pwr.vbad
  let s := { s with pwr := { s.pwr with sluice := (if code = 1 ∨ code = 2 then s.pwr.sluice else tdel s.pwr.sluice r), vbad := vbad } }
  let s := s.pf .PWR_REG_STAT r F.PWR_REG_STAT.CODE code
  (s.pb .PWR_REG_STAT r F.PWR_REG_STAT.BUSY (s.pwr.sluice.any (fun e => e.1 = r))).raise 1220

def State.setSl (s : State) (r : Nat) (x : Sluice) : State := { s with pwr := { s.pwr with sluice := tset s.pwr.sluice r x } }

/-- Step 3: raise the clusters whose target is above their frequency, or end. -/
def State.slRise (s : State) (r : Nat) (x : Sluice) : State :=
  if x.f0 > s.fCur (2 * r) ∨ x.f1 > s.fCur (2 * r + 1) then s.setSl r { x with phase := .rise } else s.slEnd r 0

/-- The AVSBus controller of the regulator that the REG section names for region r (R516). -/
def State.regAvs (s : State) (r : Nat) : Nat := portU 8 (u8 (s.entD tREG r) 6)

/-- Step 2: the VOUT write of V, when V differs; nothing leaves a controller that is off or fenced (R12). -/
def State.slVolt (s : State) (r : Nat) (x : Sluice) : State :=
  if x.v ≠ s.vCur r then
    let u := s.regAvs r
    let s := s.setSl r { x with phase := .ack }
    if s.portOn u then s.setXp u { s.xp u with out := .vout x.v } else s
  else s.slRise r x

/-- R516 step 1 of an accepted request. -/
def State.slStart (s : State) (r : Nat) (x : Sluice) : State :=
  let s := (s.setSl r x).pb .PWR_REG_STAT r F.PWR_REG_STAT.BUSY true
  if x.f0 < s.fCur (2 * r) ∨ x.f1 < s.fCur (2 * r + 1) then s else s.slVolt r x

/-- A request for region r: the state, and whether it was accepted; `ok` says that the write keeps the voltage admissible throughout. -/
def State.slReq (s : State) (r v f0 f1 : Nat) (ok : Bool) : State × Bool :=
  let busy := s.pwr.sluice.any (fun e => decide (e.1 = r)) || decide (s.gf .PWR_REG_STAT r F.PWR_REG_STAT.STATE = 2) || s.pwr.step.isSome
    || (match s.img.held with | some a => a.verified && !a.staged && a.ins.contains r | none => false)
  let raises := bit s.pwr.vbad r && (decide (f0 > s.fCur (2 * r)) || decide (f1 > s.fCur (2 * r + 1)))
  if busy then (s.slEnd r 2, false)
  else if !ok ∨ raises = true ∨ vOk v = false ∨ fOk f0 = false ∨ fOk f1 = false then (s.slEnd r 1, false)
  else (s.slStart r { v := v, f0 := f0, f1 := f1, phase := .lower, keeps := decide (v ≤ s.vCur r) }, true)

/-- A write of PWR_CC_FREQ k (R517): a refused write changes nothing. -/
def State.ccFreq (s : State) (k : Nat) (v : W32) : State :=
  let r := k / 2
  let f := F.PWR_CC_FREQ.TGT.get v
  let (t, ok) := s.slReq r (s.vCur r) (if k % 2 = 0 then f else s.fCur (2 * r)) (if k % 2 = 1 then f else s.fCur (2 * r + 1)) (decide (vMin f ≤ s.vCur r))
  if ok then t.pf .PWR_CC_FREQ k F.PWR_CC_FREQ.TGT f else t

/-- A write of PWR_REG_CTL (R516, R517): with GO it requests all three, else VTGT alone. -/
def State.regCtl (s : State) (r : Nat) (v : W32) : State :=
  let vt := F.PWR_REG_CTL.VTGT.get v
  let f0 := F.PWR_REG_CTL.F0.get v
  let f1 := F.PWR_REG_CTL.F1.get v
  let cur0 := s.fCur (2 * r)
  let cur1 := s.fCur (2 * r + 1)
  if bit v.toNat 31 then
    let (t, ok) := s.slReq r vt f0 f1 (decide (vMin f0 ≤ vt) && decide (vMin f1 ≤ vt))
    if ok then t.plainWrite .PWR_REG_CTL r v else t
  else
    let (t, ok) := s.slReq r vt cur0 cur1 (decide (vMin cur0 ≤ vt) && decide (vMin cur1 ≤ vt))
    if ok then t.plainWrite .PWR_REG_CTL r v else t

/-- SLUICE_CLOCK_CHANGE_DONE (R516). -/
def execSluiceClockChangeDone (r : Fin 4) (s : State) : Out :=
  .next (match tget? s.pwr.sluice r with
    | some x =>
      let put (s : State) (k f : Nat) (up : Bool) : State :=
        if (if up then f > s.fCur k else f < s.fCur k) then s.pf .PWR_CC_FREQ k F.PWR_CC_FREQ.CUR f else s
      (match x.phase with
        | .lower => ((put (put s (2 * r) x.f0 false) (2 * r + 1) x.f1 false)).slVolt r x
        | .rise => (put (put s (2 * r) x.f0 true) (2 * r + 1) x.f1 true).slEnd r 0
        | _ => s)
    | none => s)

/-- AVSBUS_ACK (R516): it comes by the regulator's controller. -/
def execAvsbusAck (r : Fin 4) (s : State) : Out :=
  .next (match tget? s.pwr.sluice r with
    | some x =>
      if x.phase = .ack ∧ s.portOn (s.regAvs r) = true then
        let up := decide (x.v > s.vCur r)
        let s := s.pf .PWR_REG_STAT r F.PWR_REG_STAT.VCUR x.v
        if up then s.setSl r { x with phase := .settle } else s.slRise r x
      else s
    | none => s)

/-- SETTLE (R516, R518): the monitor's reading in mV when the settle wait ends; below the operating range of R570 the region is fenced (R26). -/
def execSettle (r : Fin 4) (mv : Nat) (s : State) : Out :=
  .next (match tget? s.pwr.sluice r with
    | some x =>
      if x.phase ≠ .settle then s
      else if x.v ≤ mv + 15 then s.slRise r x
      else if mv * 100 < x.v * 97 then (s.slEnd r 4).fenceRegion r
      else s.slEnd r 4
    | none => s)

/-- NOACK (R518). -/
def execNoack (r : Fin 4) (s : State) : Out :=
  .next (match tget? s.pwr.sluice r with
    | some x => if x.phase = .ack then s.slEnd r 3 else s
    | none => s)

/-! ### Region retention (R513, R514) -/

def State.retains (s : State) (r : Nat) : Bool :=
  s.inService r && s.gb .PWR_REG_CTL r F.PWR_REG_CTL.RET_EN && decide (s.gf .PWR_REG_STAT r F.PWR_REG_STAT.STATE = 1)
    && !s.pwr.sluice.any (fun e => decide (e.1 = r))
    && (List.range 8).all (fun i => let c := s.cor (8 * r + i); decide (c.st = .c2) || decide (c.st = .c3))
    && s.dma.ch.all (fun e => decide (engOf e.1 ≠ r) || decide (e.2.st = .idle) || decide (e.2.st = .error) || decide (e.2.st = .paused))

/-- REGION_RETENTION_ENTRY (R513). -/
def execRegionRetentionEntry (r : Fin 4) (s : State) : Out :=
  .next (if s.retains r then
    let s := { s with pwr := { s.pwr with before := tset s.pwr.before r (s.vCur r, s.fCur (2 * r), s.fCur (2 * r + 1)) } }
    let s := { s with l2 := tdel (tdel s.l2 (2 * r)) (2 * r + 1) }
    (s.pf .PWR_REG_STAT r F.PWR_REG_STAT.STATE 2).pf .PWR_REG_STAT r F.PWR_REG_STAT.VCUR 600
  else s)

/-- REGION_RETENTION_EXIT (R514). -/
def execRegionRetentionExit (r : Fin 4) (s : State) : Out := .next (s.regionUp r)

/-- UNIT_ACTION_DONE (R525, R526): an action that waits for a tick edge ends after that edge. -/
def execUnitActionDone (s : State) : Out :=
  .next (match s.pwr.act with
    | some (acts, kind, idx) =>
      let fin (s : State) (code : Nat) : State :=
        (({ s with pwr := { s.pwr with act := none, acted := none } }).wr .PWR_UNIT_STAT 0 (BitVec.ofNat 32 (2 ^ 31 + code))).raise 1222
      (match s.pwr.acted with
        | some code => fin s code
        | none =>
          if edgeKind kind && decide (s.unitCode acts kind idx = 0) then s
          else
            let (t, code) := s.unitRun acts kind idx
            fin t code)
    | none => s)

/-! ### Package states: request and entry (R519, R520) -/

def State.pkgCode (s : State) (target : Nat) (writer : Nat) : Nat :=
  if !bit (u8 (s.entD tPKG 0) 3) target then 1
  else if s.steps.any (fun k => decide (s.stepSt k ≠ .off)) || s.rails.any (fun r => decide ((s.rl r).st ≠ .off)) then 2
  else if s.cmp.role ≠ 0 ∧ s.cmp.act = .driving then 3
  else if (List.range 32).any (fun n => decide (n ≠ writer) && decide ((s.cor n).st ≠ .c3)) then 4
  else if s.dma.ch.any (fun e => !(decide (e.2.st = .idle) || decide (e.2.st = .error))) then 5
  else if s.img.held.isSome then 6
  else 0

/-- A write of PWR_PKG_CTL by requester q (R519); only a core can be the writer that waits (log entry 143). -/
def State.pkgCtl (s : State) (q : Req) (v : W32) : State :=
  let s := s.plainWrite .PWR_PKG_CTL 0 v
  let t := F.PWR_PKG_CTL.TARGET.get v
  if !bit v.toNat 0 ∨ (t ≠ 1 ∧ t ≠ 2) then s
  else if s.pwr.step.isSome then (s.pf .PWR_PKG_STAT 0 F.PWR_PKG_STAT.CODE 7).raise 1221
  else
    match q.agent with
    | .core n =>
      let code := s.pkgCode t n
      let s := s.pf .PWR_PKG_STAT 0 F.PWR_PKG_STAT.CODE code
      if code ≠ 0 then s.raise 1221
      else { s.pb .PWR_PKG_STAT 0 F.PWR_PKG_STAT.PENDING true with pwr := { s.pwr with writer := some n.val, target := t } }
    | _ => s

/-- A WAIT that retires without entering a state cancels the request (R519). -/
def State.pkgCancel (s : State) (n : Nat) : State :=
  if s.pwr.writer = some n ∧ s.pwr.step.isNone then
    { s.pb .PWR_PKG_STAT 0 F.PWR_PKG_STAT.PENDING false with pwr := { s.pwr with writer := none } }
  else s

/-- Entry begins at the writer's WAIT (R519). -/
def State.pkgBegin (s : State) (n : Nat) : State :=
  let s := (s.pb .PWR_PKG_STAT 0 F.PWR_PKG_STAT.PENDING false).pf .PWR_PKG_STAT 0 F.PWR_PKG_STAT.STATE 2
  let s := s.setCor n { s.cor n with st := .c2 }
  { s with pwr := { s.pwr with step := some 1, abort := false } }

/-- A write to SEQ_CTL, RAIL_CTL or IMG_AMD_CTL.SUBMIT abandons an entry up to AP5 (R520). -/
def State.pkgAbortBy (s : State) : State := if s.pwr.step.isSome ∧ s.pwr.step ≠ some 6 then { s with pwr := { s.pwr with abort := true } } else s

/-- TICK_OUT runs while it is enabled and the tick runs (R136). -/
def State.tickOutPin (s : State) : State :=
  { s with pins := { s.pins with tickOut := s.gb .TICK_CTL 0 F.TICK_CTL.TICK_OUT_EN && s.gb .TICK_STATUS 0 F.TICK_STATUS.RUNNING && !s.tick.dark } }

/-- The tick is lit again: the drivers of a DRIVING package and TICK_OUT (R520, R523). -/
def State.lightTick (s : State) : State :=
  let up := s.gb .TICK_STATUS 0 F.TICK_STATUS.RUNNING && s.cmp.act == .driving
  ({ s with tick := { s.tick with dark := false, lightDue := none }, pins := { s.pins with plOn := up } }).tickOutPin

/-- The standby record (R523). -/
def State.standbyRec (s : State) : Standby :=
  { sec := s.img.sec
    bank := (List.range 36).map (fun j => (j, (s.leAt j).bank))
    code := (List.range 36).map (fun j => (j, s.mread (leBase j + 0x2000 * (s.leAt j).bank) 0x2000))
    lens := (List.range 36).map (fun j => (j, (s.leAt j).codeLen, (s.leAt j).initMode)) }

/-- Sections whose entries the standby record holds (R523). -/
def standbyTypes : List Nat := [tREG, tRAIL, tWEIR, tEVT, tBSN, tLDG, tSTL, tCMP]

/-- Undo the steps done, and let the writer go on after its WAIT (R520). -/
def State.pkgUndo (s : State) (ap : Nat) : State :=
  let s : State := if ap ≥ 2 then { s with tick := { s.tick with lightDue := some false } } else s
  let s := (s.pf .PWR_LAST 0 F.PWR_LAST.AP ap).pb .PWR_LAST 0 F.PWR_LAST.ABANDONED true
  let s := s.pf .PWR_PKG_STAT 0 F.PWR_PKG_STAT.STATE 0
  let n := s.pwr.writer.getD 0
  let s := { s with pwr := { s.pwr with step := none, abort := false, writer := none, stby := none, digest := none } }
  (if (s.cor n).st = .c2 then s.setCor n { s.cor n with st := .run, resync := true } else s).raise 1221

/-- Length of the standby record in the staging area. -/
def State.standbyLen (s : State) : Nat := (s.secBytes standbyTypes).length + 36 * 0x2000

/-- Step 2 completes: write-backs, the tick dark, and the standby record for P-STBY. -/
def State.pkgStep2 (s : State) : State :=
  let s := forEach s.serCached State.serBack s
  let s := { s with tick := { s.tick with dark := true }, pins := { s.pins with plOn := false, tickOut := false } }
  if s.pwr.target = 1 then
    -- the layout of the record in the staging area is open: its bytes there are free
    let n := s.standbyLen
    { ((s.mput s.staging (s.freeBs n)).snoop edReq s.staging n).tick1 with pwr := { s.pwr with stby := some s.standbyRec } }
  else s

/-- Step 4 completes: the digests. -/
def State.pkgStep4 (s : State) : State :=
  let rec_ := if s.pwr.target = 1 then s.mread s.staging s.standbyLen else []
  { s with pwr := { s.pwr with digest := some (Config.sha384 s.pwr.copies.1, Config.sha384 s.pwr.copies.2, Config.sha384 rec_) } }

/-- Every core, and with it the region and its L2s, loses its state. -/
def State.coresOff (s : State) : State := { forEach (List.range 32) State.coreOff s with l2 := [] }

/-- The package sleeps. -/
def State.pkgSleep (s : State) : State :=
  let s := { s with le := [], pwr := { s.pwr with step := none, asleep := s.pwr.target } }
  let s := s.pf .PWR_LAST 0 F.PWR_LAST.STATE s.pwr.target
  if s.pwr.target = 2 then { s with mem := [], basin := [] } else s

/-- What step k does when it completes. -/
def State.pkgStep (s : State) (k : Nat) : State :=
  match k with
  | 2 => s.pkgStep2
  | 4 => s.pkgStep4
  | 6 => s.coresOff.pkgSleep
  | _ => s

/-- PKG_ENTRY_STEP_DONE (R520): step k ends and APk is passed, or the entry is abandoned there; step 2 does not end before every trace FIFO has drained (R560). After AP5 nothing is abandoned: a wake then is an exit of its own, at once after step 6. -/
def execPkgEntryStepDone (s : State) : Out :=
  .next (match s.pwr.step with
    | none => s
    | some k =>
      if k = 2 ∧ s.trcDrained = false then s
      else
      let recheck := if k = 1 then s.pkgCode s.pwr.target (s.pwr.writer.getD 0) else 0
      let s := if recheck ≠ 0 then s.pf .PWR_PKG_STAT 0 F.PWR_PKG_STAT.CODE recheck else s
      let s := s.pkgStep k
      if k ≥ 6 then s
      else
        let s := s.pf .PWR_PKG_STAT 0 F.PWR_PKG_STAT.AP k
        if s.pwr.abort ∨ recheck ≠ 0 then s.pkgUndo k else { s with pwr := { s.pwr with step := some (k + 1) } })

end Sys2Proof.Machine
end

