-- ==== Sys2Proof/Machine/P64Core.lean ====
section
/-!
DEFINITION. A Parhild-64 core without its memory accesses: registers, performance counters, predictor, system registers, timer, fences and halts (R337 to R343, R355 to R360, R385 to R389, R562, R563).
-/
namespace Sys2Proof.Machine

/-! ### Registers (R359, R360) -/

def Core.spAt (c : Core) (l : Nat) : W64 := tget 0 c.sp l
/-- g[i] of core n: g0 reads 0, g31 is the stack pointer of the present level. -/
def State.gr (s : State) (n i : Nat) : W64 :=
  if i = 0 then 0 else if i = 31 then (s.cor n).spAt (s.lvl n).num else tget 0 (s.cor n).g i
def State.setSp (s : State) (n l : Nat) (v : W64) : State := s.setCor n { s.cor n with sp := tset (s.cor n).sp l v }
/-- Write g[i]; a write of g0 is discarded. -/
def State.gw (s : State) (n i : Nat) (v : W64) : State :=
  if i = 0 then s else if i = 31 then s.setSp n (s.lvl n).num v else s.setCor n { s.cor n with g := tset (s.cor n).g i v }

def State.pcOf (s : State) (n : Nat) : W64 := (s.cor n).pc
def State.setPc (s : State) (n : Nat) (v : W64) : State := s.setCor n { s.cor n with pc := v }
def coreReq (s : State) (n : Nat) : Req := { agent := .core (Fin.ofNat 32 n), lvl := s.lvl n, sid := s.sid n, cls := 0 }

/-! ### Performance counters (R355, R356) -/

/-- Counter i counts k times: it wraps at 48 bits, sets its bit in PMU_OVF and raises the core's source (R355). -/
def State.pmuAdd (s : State) (n i k : Nat) : State :=
  let v := (s.sr n (0x0D0 + i)).toNat % 2 ^ 48 + k
  let s := s.setSr n (0x0D0 + i) (BitVec.ofNat 64 (v % 2 ^ 48))
  if v < 2 ^ 48 then s
  else (s.setSr n srPMU_OVF (s.sr n srPMU_OVF ||| BitVec.ofNat 64 (2 ^ i))).raise (1088 + 4 * n)

/-- Counter i counts event `ev` at the present level. -/
def State.pmuSel (s : State) (n i ev : Nat) : Bool :=
  let sel := (s.sr n (0x0C8 + i)).toNat
  bit (s.sr n srPMU_CTL).toNat i && decide (sel % 256 = ev) && bit sel (8 + (s.lvl n).num)

/-- Event `ev` happens once on core n. -/
def State.pmu (s : State) (n ev : Nat) : State :=
  if (s.sr n srPMU_CTL).toNat % 256 = 0 then s
  else forEach (List.range 8) (fun s i => if s.pmuSel n i ev then s.pmuAdd n i 1 else s) s

/-- An event of the instruction in progress, counted if it retires (R355). -/
def State.note (s : State) (n ev : Nat) : State :=
  if (s.sr n srPMU_CTL).toNat % 256 = 0 then s else s.setCor n { s.cor n with evs := (s.cor n).evs ++ [ev] }

abbrev evINST : Nat := 0x02
abbrev evL1I : Nat := 0x03
abbrev evL1D : Nat := 0x04
abbrev evL2 : Nat := 0x05
abbrev evBR : Nat := 0x06
abbrev evMISP : Nat := 0x07
abbrev evIND : Nat := 0x08
abbrev evFWD : Nat := 0x09
abbrev evOVLP : Nat := 0x0A
abbrev evITLB : Nat := 0x0E
abbrev evDTLB : Nat := 0x0F
abbrev evWALK : Nat := 0x10
abbrev evSTERR : Nat := 0x11
abbrev evEXC : Nat := 0x12
abbrev evDET : Nat := 0x13
abbrev evPFL : Nat := 0x14
abbrev evDUAL : Nat := 0x0C
abbrev evWPI : Nat := 0x30
abbrev evWPF : Nat := 0x31
/-- Events that follow cycles and issue, which the model does not hold: their counts grow by free values (log entry 106). -/
def freeEvents : List Nat := [0x01, 0x0B, evDUAL, 0x0D, evDET]

/-- Event `ev` happens k times on core n. -/
def State.pmuBy (s : State) (n ev k : Nat) : State :=
  if (s.sr n srPMU_CTL).toNat % 256 = 0 then s
  else forEach (List.range 8) (fun s i => if s.pmuSel n i ev then s.pmuAdd n i k else s) s

/-- The event of counter i can happen: DET_CYC in deterministic mode alone, DUAL outside it, where issue is not single (R353). -/
def State.evOn (s : State) (n i : Nat) : Bool := freeEvents.any (s.pmuSel n i) && (!s.pmuSel n i evDET || s.stBit n 8) && (!s.pmuSel n i evDUAL || !s.stBit n 8)

/-- The counters of those events take what has come since the last instruction. -/
def State.pmuSettle (s : State) (n : Nat) : State :=
  if (s.sr n srPMU_CTL).toNat % 256 = 0 then s
  else
    forEach (List.range 8) (fun s i =>
      if s.evOn n i then (s.pmuAdd n i s.freeNat).tick1 else s) s

/-- An instruction retires: it counts, and with it what it noted (R355). -/
def State.counted (s : State) (n : Nat) : State :=
  let s := forEach (s.cor n).evs (fun s ev => s.pmu n ev) (s.pmu n evINST)
  (s.setCor n { s.cor n with evs := [] }).pmuSettle n

/-! ### Prediction (R337 to R343) -/

def State.bar (s : State) (n : Nat) : Bool := (s.sr n srPREDCTL).getLsbD 0
/-- No prediction: barred, or deterministic mode (R342, R353). -/
def State.noPred (s : State) (n : Nat) : Bool := s.bar n || s.stBit n 8

def State.pflush (s : State) (n : Nat) : State := (s.setCor n { s.cor n with bp := [], hist := 0, ret := [] }).pmu n evPFL

/-- The counter that a conditional branch at `pc` reads (R337). -/
def State.dirCtr (s : State) (n : Nat) (pc : W64) : Nat := tget 1 (s.cor n).bp ((pc.toNat / 4 % 8192) ^^^ (s.cor n).hist)

/-- The branch is predicted, and wrongly. -/
def State.mispredicts (s : State) (n : Nat) (pc : W64) (taken : Bool) : Bool := !s.noPred n && decide (2 ≤ s.dirCtr n pc) != taken

/-- The return is predicted, and wrongly (R338). -/
def State.misreturns (s : State) (n : Nat) (target : W64) : Bool := !s.noPred n && (match (s.cor n).ret with | [] => false | a :: _ => decide (a ≠ target))

/-- A conditional branch at `pc` resolves (R337). -/
def State.predict (s : State) (n : Nat) (pc : W64) (taken : Bool) : State :=
  let s := s.pmu n evBR
  if s.noPred n then s.pmu n evIND
  else
    let c := s.cor n
    let i := (pc.toNat / 4 % 8192) ^^^ c.hist
    let k := tget 1 c.bp i
    let s := s.setCor n { c with bp := tset c.bp i (if taken then min 3 (k + 1) else k - 1), hist := (c.hist * 2 + (if taken then 1 else 0)) % 8192 }
    if decide (2 ≤ k) = taken then s else s.pmu n evMISP

/-- A call pushes its return address (R338). -/
def State.pushRet (s : State) (n : Nat) (a : W64) : State :=
  if s.noPred n then s else s.setCor n { s.cor n with ret := (a :: (s.cor n).ret).take 16 }

/-- A return pops one (R338, R339). -/
def State.popRet (s : State) (n : Nat) (target : W64) : State :=
  if s.noPred n then s.pmu n evIND
  else
    match (s.cor n).ret with
    | [] => s.pmu n evIND
    | a :: r =>
      let s := s.setCor n { s.cor n with ret := r }
      if a = target then s else s.pmu n evMISP

/-! ### System registers: numbers and rights (R357, R385, R388) -/

/-- Who may reach a system register. -/
inductive SrAcc where
  /-- S, H and M -/
  | shm
  /-- the level with this code and above -/
  | from_ (l : Nat)
  | all
  | nobody
deriving DecidableEq, Repr

def SrAcc.ok (a : SrAcc) (l : Nat) : Bool :=
  match a with
  | .shm => decide (1 ≤ l)
  | .from_ k => decide (k ≤ l)
  | .all => true
  | .nobody => false

/-- A listed system register: read rights, write rights, bits that a write stores, bits cleared by writing 1. -/
structure SrDesc where
  rd : SrAcc
  wr : SrAcc
  rw : Nat
  w1c : Nat
deriving DecidableEq, Repr

def ones (n : Nat) : Nat := 2 ^ n - 1
def srRW (a : SrAcc) (m : Nat) : Option SrDesc := some { rd := a, wr := a, rw := m, w1c := 0 }

/-- The registers of R388. STATUS, SID, PREDCTL and the PMU registers have rules of their own beside these. -/
def srDesc (k : Nat) : Option SrDesc :=
  if k = 0x000 then srRW .shm 0x7FC
  else if 0x001 ≤ k ∧ k ≤ 0x003 then srRW (.from_ k) 0xFFFF0000003F0E3F
  else if 0x004 ≤ k ∧ k ≤ 0x006 then srRW (.from_ (k - 0x003)) (ones 64)
  else if k = 0x008 then srRW .shm 0xFFFF
  else if k = 0x009 then some { rd := .shm, wr := .from_ 2, rw := ones 32, w1c := 0 }
  else if 0x00C ≤ k ∧ k ≤ 0x00E then srRW (.from_ (k - 0x00B)) 0xFFF0FFFFFFFFFFF8
  else if k = 0x010 then srRW .shm (ones 64)
  else if 0x011 ≤ k ∧ k ≤ 0x013 then srRW (.from_ (k - 0x010)) (ones 64)
  else if 0x018 ≤ k ∧ k ≤ 0x01A then srRW (.from_ (k - 0x017)) (ones 64 - ones 9)
  else if k = 0x020 then srRW .shm (ones 45)
  else if k = 0x021 then srRW .shm (ones 64 - 3)
  else if 0x028 ≤ k ∧ k ≤ 0x02A then srRW (.from_ (k - 0x027)) (ones 64)
  else if k = 0x040 then srRW .shm (ones 48 - ones 12)
  else if k = 0x041 then srRW .shm 0xFFFFFF07
  else if k = 0x048 then srRW (.from_ 2) (ones 48 - ones 12)
  else if k = 0x049 then srRW (.from_ 2) 7
  else if k = 0x060 then srRW .shm 0
  else if k = 0x061 then some { rd := .shm, wr := .shm, rw := 0, w1c := 3 }
  else if k = 0x070 then some { rd := .shm, wr := .shm, rw := 1, w1c := 2 }
  else if k = 0x071 then srRW .shm (ones 64)
  else if k = 0x078 ∨ k = 0x079 then some { rd := .all, wr := .nobody, rw := 0, w1c := 0 }
  else if k = 0x07F then some { rd := .shm, wr := .nobody, rw := 0, w1c := 0 }
  else if k = 0x0B0 then srRW .shm 0xF
  else if k = 0x0B1 then srRW .shm 1
  else if k = 0x0B2 then srRW .shm 0
  else if k = 0x0C0 then srRW .shm 0x3FF
  else if k = 0x0C1 then some { rd := .shm, wr := .shm, rw := 0, w1c := 0xFF }
  else if 0x0C8 ≤ k ∧ k ≤ 0x0CF then srRW .shm 0xFFF
  else if 0x0D0 ≤ k ∧ k ≤ 0x0D7 then srRW .shm (ones 48)
  else none

def isPmu (k : Nat) : Bool := decide (0x0C0 ≤ k) && decide (k ≤ 0x0D7)

/-- Read rights of register k at the core's level; PMU_CNTi also at U under UREAD (R357). -/
def State.srReadOk (s : State) (n k : Nat) (d : SrDesc) : Bool :=
  d.rd.ok (s.lvl n).num || (decide (0x0D0 ≤ k) && decide (k ≤ 0x0D7) && (s.sr n srPMU_CTL).getLsbD 8)

/-- The value of a system register as a read finds it. -/
def State.srRead (s : State) (n k : Nat) : W64 :=
  if k = 0x078 then BitVec.ofNat 64 s.tick.tb
  else if k = 0x079 then BitVec.ofNat 64 s.tick.count
  else if 0x010 ≤ k ∧ k ≤ 0x013 then (s.cor n).spAt (k - 0x010)
  else s.sr n k

/-- What a read changes: CACHE_ERR is cleared by it (R357). -/
def State.srAfterRead (s : State) (n k : Nat) : State := if k = srCACHE_ERR then s.setSr n k 0 else s

/-! ### The core timer (R389) -/

/-- Fire when TIMEBASE ≥ TMCMP, once for each write of TMCMP or EN. -/
def State.timerTry (s : State) (n : Nat) : State :=
  let c := s.cor n
  if c.armed && (c.sr1 n srTMCTL).getLsbD 0 && decide ((c.sr1 n srTMCMP).toNat ≤ s.tick.tb) then
    ((s.setCor n { c with armed := false }).setSr n srTMCTL (s.sr n srTMCTL ||| 2)).raise (1088 + 4 * n + 3)
  else s

/-! ### Writes -/

/-- Bits of STATUS that a write at level l changes (R391, R392). -/
def statusMask (l : Nat) : Nat :=
  (if 1 ≤ l then 0x1E4 else 0) + (if 2 ≤ l then 8 else 0) + (if 3 ≤ l then 0x610 else 0)

/-- The bits of a register from a written value, the others kept. -/
def mixBits (m : Nat) (old v : W64) : W64 := (old &&& ~~~(BitVec.ofNat 64 m)) ||| (v &&& BitVec.ofNat 64 m)

/-- STATUS takes the bits of `v` that level l may write; ILVL 0 stores 1. A write that sets DET, or clears it, is carried out in the caches before the next instruction issues (R353). -/
def State.statusRaw (s : State) (n l : Nat) (v : W64) : State :=
  let old := s.sr n srSTATUS
  let x := mixBits (statusMask l) old v
  let x := if x.toNat / 2 ^ 9 % 4 = 0 then x ||| 0x200 else x
  let s := s.setCor n { s.cor n with detDue := (s.cor n).detDue || x.getLsbD 8 || old.getLsbD 8 }
  s.setSr n srSTATUS x

/-- SID is written: CTX, and PFLUSH with FLUSH_SID (R343, R554). -/
def State.setSid (s : State) (n : Nat) (d : BitVec 16) : State :=
  let s := (s.setSr n srSID (d.setWidth 64)).emitCore n ([0x09] ++ leBytes 2 d.toNat)
  if (s.sr n srPREDCTL).getLsbD 1 then s.pflush n else s

/-- A write of system register k at level l, every right checked. -/
def State.srWrite (s : State) (n l k : Nat) (d : SrDesc) (v : W64) : State :=
  let old := s.srRead n k
  if k = srSTATUS then
    let s := s.statusRaw n l v
    s.setCor n { s.cor n with shield := true }
  else if k = srSID then s.setSid n (v.setWidth 16)
  else if 0x010 ≤ k ∧ k ≤ 0x013 then s.setSp n (k - 0x010) v
  else if k = srSTERR_FLAGS then
    let m := (if bit v.toNat 0 then 7 else 0) ||| (if bit v.toNat 1 then 2 else 0)
    s.setSr n k (old &&& ~~~(BitVec.ofNat 64 m))
  else if k = srPREDCTL then s.setSr n k (mixBits (if l = 1 then 3 else 0xF) old v)
  else if isPmu k then
    if l = 1 ∧ (s.sr n srPMU_CTL).getLsbD 9 = true then s
    else if k = srPMU_OVF then s.setSr n k (old &&& ~~~v)
    else s.setSr n k (mixBits (if k = srPMU_CTL ∧ l = 1 then 0x1FF else d.rw) old v)
  else
    let x := (mixBits d.rw old v) &&& ~~~(v &&& BitVec.ofNat 64 d.w1c)
    let s := s.setSr n k x
    if k = srTCTL1 ∧ x.toNat / 256 % 2 ^ 24 ≠ old.toNat / 256 % 2 ^ 24 then s.setCor n { s.cor n with l2tlb := [] }
    else if k = srTMCMP ∨ k = srTMCTL then (s.setCor n { s.cor n with armed := true }).timerTry n
    else s

/-! ### Fences of a core or a core cluster by fault (R13, R17) -/

def State.fenceCore (s : State) (n : Nat) : State :=
  ((s.setUnit 0 n { s.unitAt 0 n with fenced := true }).withdraw).raise (1216 + n / 8)
def State.fenceCluster (s : State) (k : Nat) : State :=
  ((forEach (List.range 4) (fun s i => s.setUnit 0 (4 * k + i) { s.unitAt 0 (4 * k + i) with fenced := true }) s).withdraw).raise (1216 + k / 2)

/-- The halt asked for is taken at a boundary that R398 does not exclude (R562). -/
def State.haltPoll (s : State) (n : Nat) : State :=
  let c := s.cor n
  if c.stepping then s.haltNow n 2 else if c.haltReq && !c.shield then s.haltNow n 1 else s


end Sys2Proof.Machine
end

