-- ==== Sys2Proof/Machine/Ports.lean ====
section
/-!
DEFINITION. External ports (chapter 18): packets, mailbox access frames, the Ethernet switch, link events, two-wire timeouts, raw operations, fans, GPIO inputs, and memory-channel errors.
-/
namespace Sys2Proof.Machine


def State.portMode (s : State) (u : Nat) : Nat := u8 ((s.portE u).getD []) 3
def State.portPool (s : State) (u : Nat) : Nat := u8 ((s.portE u).getD []) 4
/-- A faulty or hostile event of R547. -/
def State.portErr (s : State) (u : Nat) : State := s.inc .PORT_ERR0 u F.PORT_ERR0.ERRORS 1
def State.portTmo (s : State) (u : Nat) : State := s.inc .PORT_ERR1 u F.PORT_ERR1.TIMEOUTS 1
def State.portDrop (s : State) (u : Nat) : State := s.inc .PORT_ERR1 u F.PORT_ERR1.DROPPED 1

/-- The PORT section has been applied (R541, R543, R589). -/
def State.portsApplied (s : State) : Bool := s.keep.boot == .applied || s.keep.boot == .running

/-! ### Packets (R537) -/

/-- Allocate `k` granules of pool p; the tokens got, in order. -/
def State.takeTokens (s : State) (p : Nat) : Nat → State × List Nat
  | 0 => (s, [])
  | k + 1 =>
    let (s, t) := s.allocGranule p none
    if t = 0 then (s, [])
    else
      let (s, r) := s.takeTokens p k
      (s, t :: r)

/-- Controller u writes a chain: 4 bytes of the next token and 252 data bytes in each granule; false on a bus error (R461). -/
def State.putChain (s : State) (u : Nat) : List Nat → Bytes → State × Bool
  | [], _ => (s, true)
  | t :: r, b =>
    match s.memWr (portAgent u) (basinBase + (t - 1) * 256) (leBytes 4 (r.headD 0) ++ b.take 252) with
    | (s, true) => s.putChain u r (b.drop 252)
    | (s, false) => (s, false)

/-- The 16-byte header of a received packet. -/
def State.pktHead (s : State) (u len cls src : Nat) : Bytes :=
  leBytes 2 len ++ leBytes 1 cls ++ leBytes 1 ((portOrigin u).getD 0) ++ leBytes 2 src ++ zeros 2 ++ leBytes 8 s.tick.count

/-- Store and queue a received packet, or drop it whole. DESIGN CHOICE: one whose granules give a bus error is dropped whole, and counts as an error of the port (log entry 208). -/
def State.pktRx (s : State) (u sub src : Nat) (b : Bytes) : State :=
  let d := s.pktHead u b.length (s.classOf u sub) src ++ b
  let need := (d.length + 251) / 252
  let drop (s : State) : State := (s.inc .PORT_ERR0 u F.PORT_ERR0.NOBUF 1).portEvt u 2
  if 64 ≤ (s.xp u).rxq.length then drop s
  else
    let (s, ts) := s.takeTokens (s.portPool u) need
    if ts.length < need then drop (s.dropGranules (ts.map (· - 1)))
    else
      match s.putChain u ts d with
      | (s, true) => (s.setXp u { s.xp u with rxq := (s.xp u).rxq ++ [ts.headD 0] }).portEvt u 3
      | (s, false) => (s.portErr u).dropGranules (ts.map (· - 1))

/-- An MCTP Set Endpoint ID request on HP0 or HP1 gives the part the identifier that the host's bus owner assigns (R538). PRESUMED: its layout is that of the MCTP base specification (log entry 215). -/
def State.eidRx (s : State) (u : Nat) (b : Bytes) : State :=
  let e := u8 b 8
  if u < 2 ∧ u8 b 4 % 128 = 0 ∧ bit (u8 b 5) 7 = true ∧ u8 b 6 = 1 ∧ u8 b 7 % 4 ≤ 1 ∧ 8 ≤ e ∧ e < 255 then s.setXp u { s.xp u with eid := e } else s

/-- PACKET_RX: an MCTP packet, or an NC-SI control packet or AEN (an Ethernet frame for the internal port comes by ETH_FRAME_RX). -/
def execPacketRx (u : Fin 52) (sub src : BitVec 16) (b : Bytes) (s : State) : Out :=
  .next (
    let k := (portKind u).1
    if s.portOn u && [1, 2, 5, 6, 7].contains k then (s.eidRx u b).pktRx u sub.toNat src.toNat b else s)

/-- A read of PORT_RXQ. -/
def State.rxqPop (s : State) (u : Nat) : State × W32 :=
  match (s.xp u).rxq with
  | [] => (s, 0)
  | t :: r => (s.setXp u { s.xp u with rxq := r }, BitVec.ofNat 32 t)

/-- A write of PORT_TXQ. -/
def State.txqPush (s : State) (u : Nat) (v : W32) : State :=
  let t := F.PORT_TXQ.TOKEN.get v
  if t = 0 then s else s.setXp u { s.xp u with txq := (s.xp u).txq ++ [t] }

/-- The data bytes of a chain of granules; none on a bus error. -/
def State.chainData (s : State) (u : Nat) : List Nat → Option Bytes
  | [] => some []
  | g :: r => (s.memRd (portAgent u) (basinBase + g * 256 + 4) 252).bind (fun b => (s.chainData u r).map (b ++ ·))

/-- Bytes of a packet chain after its header; none on a bus error. -/
def State.chainBytes (s : State) (u : Nat) (gs : List Nat) : Option Bytes := (s.chainData u gs).map (fun d => slice d 16 (u16 d 0))

/-! ### The mailbox access frame (R535) -/

/-- The frame fits the table. -/
def mbxFrameOk (b : Bytes) : Bool :=
  let op := u8 b 2
  let c := u8 b 4
  decide (8 ≤ b.length) && be16 b 0 == 0x4D42 && decide (1 ≤ op) && decide (op ≤ 4) && decide (c ≤ 8) && (op != 4 || c == 1)
    && decide (b.length = 8 + (if op = 1 ∨ op = 4 then 4 * c else 0))

/-- A reply: OP, MBX and TAG of the request. -/
def mbxReply (b : Bytes) (count status : Nat) (d : Bytes) : Bytes :=
  beBytes 2 0x4D42 ++ [BitVec.ofNat 8 (u8 b 2), BitVec.ofNat 8 (u8 b 3), BitVec.ofNat 8 count, BitVec.ofNat 8 status] ++ beBytes 2 (be16 b 6) ++ d

/-- Remove up to `k` words of a direction; stamps and words, big-endian. -/
def State.mbxTake (s : State) (m : Nat) (ba : Bool) : Nat → State × Bytes
  | 0 => (s, [])
  | k + 1 =>
    if ((s.mb m).dir ba).q.isEmpty then (s, [])
    else
      let (s, st, w) := s.mbxPop m ba
      let (s, r) := s.mbxTake m ba k
      (s, beBytes 4 st.toNat ++ beBytes 4 w.toNat ++ r)

/-- What a frame that fits the table does: the state and the reply. -/
def State.mbxFrame (s : State) (u sub : Nat) (b : Bytes) : State × Bytes :=
  let m := u8 b 3 % 128
  let ba := bit (u8 b 3) 7
  let c := u8 b 4
  let o := portOrigin u
  let own (side : Bool) : Bool := s.mbxOpen m && s.owns m side o
  match u8 b 2 with
  | 1 =>
    if own ba then
      (forEach (List.range c) (fun s i => s.mbxPush m ba (s.classOf u sub) 0 (o.getD 0) (BitVec.ofNat 32 (be32 b (8 + 4 * i)))) s, mbxReply b 0 0 [])
    else (s, mbxReply b 0 1 [])
  | 2 => if s.mbxOpen m then (s, mbxReply b 1 0 (beBytes 4 (s.mbxAck m ba).toNat)) else (s, mbxReply b 0 1 [])
  | 3 =>
    if !own (!ba) then (s, mbxReply b 0 1 [])
    else
      let (t, d) := s.mbxTake m ba c
      if d.isEmpty then (s, mbxReply b 0 2 []) else (t, mbxReply b (d.length / 8) 0 d)
  | _ => if s.mbxOpen m then (s.mbxCode m ba (s.owns m (!ba) o) (BitVec.ofNat 32 (be32 b 8)), mbxReply b 0 0 []) else (s, mbxReply b 0 1 [])

/-- SMBus PEC: the CRC-8 with initial 0 over every byte of the message, addresses included (R529, R539). -/
def smbPec (b : Bytes) : Byte := BitVec.ofNat 8 ((b.map BitVec.toNat).foldl crc8Byte 0)
def State.smbusPec (s : State) (u : Nat) : Bool := bit (u8 ((s.portE u).getD []) 3) 1

/-- The frame inside what controller u receives at address `sub` (R535): a Block Write 0xD0 on a two-wire target, with its PEC where MODE asks for one; a framed message on a UART; none where the wrapping does not hold. -/
def State.unwrap (s : State) (u sub : Nat) (b : Bytes) : Option Bytes :=
  let n := u8 b 1
  match (portKind u).1 with
  | 6 =>
    let pec := s.smbusPec u
    if u8 b 0 = 0xD0 ∧ b.length = n + (if pec then 3 else 2) ∧ (pec = false ∨ smbPec (BitVec.ofNat 8 (2 * sub) :: b) = 0) then some (slice b 2 n) else none
  | 9 => if u8 b 0 = 0x7E ∧ b.length = n + 6 ∧ crc32 (slice b 2 n) = u32 b (n + 2) then some (slice b 2 n) else none
  | _ => some b

/-- A reply as controller u returns it: by Block Read 0xD1, or framed on a UART. -/
def State.wrap (s : State) (u sub : Nat) (r : Bytes) : Bytes :=
  match (portKind u).1 with
  | 6 =>
    let n : Byte := BitVec.ofNat 8 r.length
    n :: r ++ (if s.smbusPec u then [smbPec ([BitVec.ofNat 8 (2 * sub), 0xD1, BitVec.ofNat 8 (2 * sub + 1), n] ++ r)] else [])
  | 9 => uartFrame r
  | _ => r

/-- A frame reaches the part through controller u, from `src`; the reply is recorded as what the port sent. A frame that its port's wrapping does not hold breaks the table. -/
def State.frameRx (s : State) (u sub : Nat) (src : W32) (b : Bytes) : State :=
  let put (s : State) (r : Bytes) : State := s.setXp u { s.xp u with out := .reply (s.wrap u sub r) }
  match s.unwrap u sub b with
  | none => put (s.portErr u) (mbxReply (b.drop 2) 0 3 [])
  | some f =>
    if !mbxFrameOk f then put (s.portErr u) (mbxReply f 0 3 [])
    else
      let s := s.setXp u { s.xp u with src := tset (s.xp u).src (u8 f 3 % 128) src }
      let (s, r) := s.mbxFrame u sub f
      put s r

/-- Two-wire controller u answers as a target at address a (R529, R539). -/
def State.targetAt (s : State) (u a : Nat) : Bool :=
  let e := (s.portE u).getD []
  bit (u8 e 3) 0 && decide (a ≠ 0) && (u8 e 5 == a || u8 e 6 == a)

/-- Controllers that carry the frame; Ethernet and NC-SI only on a VLAN that a CLASS entry names, a two-wire target at its own addresses. -/
def State.carries (s : State) (u sub : Nat) : Bool :=
  s.portOn u && ((decide (3 ≤ u) && decide (u ≤ 13) && (s.ent tCLASS (u * 65536 + sub)).isSome)
    || (decide (14 ≤ u) && decide (u ≤ 21) && s.targetAt u sub) || (decide (42 ≤ u) && decide (u ≤ 45)))

/-- A frame of operation `op`, or one that breaks the table. -/
def State.opFrame (s : State) (op u sub : Nat) (src : W32) (b : Bytes) : State :=
  let other := match s.unwrap u sub b with
    | some f => mbxFrameOk f && u8 f 2 != op
    | none => false
  if !s.carries u sub || other then s else s.frameRx u sub src b

/-- MBX_FRAME_PUSH (R535). -/
def execMbxFramePush (u : Fin 52) (sub : BitVec 16) (src : W32) (b : Bytes) (s : State) : Out := .next (s.opFrame 1 u sub.toNat src b)
/-- READ_ACK (R535). -/
def execReadAck (u : Fin 52) (sub : BitVec 16) (src : W32) (b : Bytes) (s : State) : Out := .next (s.opFrame 2 u sub.toNat src b)
/-- READ_RX (R535). -/
def execReadRx (u : Fin 52) (sub : BitVec 16) (src : W32) (b : Bytes) (s : State) : Out := .next (s.opFrame 3 u sub.toNat src b)
/-- WRITE_ACK (R535). -/
def execWriteAck (u : Fin 52) (sub : BitVec 16) (src : W32) (b : Bytes) (s : State) : Out := .next (s.opFrame 4 u sub.toNat src b)

/-! ### The switch (R533, R547); ports are numbered u − 3, and 11 is the internal port -/

def macKey (v a : Nat) : Nat := v * 2 ^ 48 + a
def swMember (s : State) (v i : Nat) : Bool := s.gb .SW_VLAN v F.SW_VLAN.VALID && bit (s.gf .SW_VLAN v F.SW_VLAN.MEMBER) i
/-- VLANs in use. -/
def State.vlans (s : State) : List Nat := (tget [] s.regs Reg.SW_VLAN.ctorIdx).filterMap (fun e => if bit e.2.toNat 31 then some e.1 else none)
/-- The VLAN of an untagged frame: the first that leaves its port untagged (log entry 147). -/
def State.untagVlan (s : State) (i : Nat) : Option Nat := s.vlans.find? (fun v => swMember s v i && bit (s.gf .SW_VLAN v F.SW_VLAN.UNTAG) i)
/-- The VLAN of a frame, and the offset of its type field. -/
def State.frameVlan (s : State) (i : Nat) (b : Bytes) : Option Nat × Nat :=
  if be16 b 12 = 0x8100 ∧ be16 b 14 % 4096 ≠ 0 then (some (be16 b 14 % 4096), 16)
  else (s.untagVlan i, if be16 b 12 = 0x8100 then 16 else 12)

/-- Learn a source address; a full table learns no more (log entry 147). -/
def State.learn (s : State) (v i a : Nat) : State :=
  let k := macKey v a
  if bit a 40 ∨ ((tget? s.sw.mac k).isNone ∧ 8192 ≤ s.sw.mac.length) then s
  else { s with sw := { s.sw with mac := tset s.sw.mac k { port := i, at_ := s.tick.tb } } }

def State.cpuMac (s : State) : Nat := (s.rd .SW_CPU_MAC_LO 0).toNat + 2 ^ 32 * ((s.rd .SW_CPU_MAC_HI 0).toNat % 65536)

/-- Egress ports of a frame for address `a` on VLAN v that came in at port i; a fenced port sends nothing (R12, R13). -/
def State.egress (s : State) (v i a : Nat) : List Nat :=
  let ms := (List.range 12).filter (fun p => p != i && swMember s v p && (p == 11 || !s.fenced 10 (p + 3)))
  if bit a 40 then ms
  else if a = s.cpuMac then ms.filter (· == 11)
  else
    match tget? s.sw.mac (macKey v a) with
    | some e => ms.filter (· == e.port)
    | none => ms.filter (· != 11)

/-- The UDP payload of a mailbox access frame, and its source address; `o` is the offset of the type field. -/
def State.udpFrame (s : State) (b : Bytes) (o : Nat) : Option (Nat × Bytes) :=
  let ip := o + 2
  let h := u8 b ip % 16 * 4
  if be16 b o = 0x0800 ∧ u8 b (ip + 9) = 17 ∧ be32 b (ip + 16) = (s.rd .SW_CPU_IP 0).toNat ∧ be16 b (ip + h + 2) = 48673 then
    some (be32 b (ip + 12), slice b (ip + h + 8) (be16 b (ip + h + 4) - 8))
  else none

/-- Port i leaves VLAN v untagged. -/
def State.untags (s : State) (v i : Nat) : Bool := bit (s.gf .SW_VLAN v F.SW_VLAN.UNTAG) i

/-- The frame as port i of VLAN v sends it (R549); `o` is the offset of its type field. -/
def State.tagFor (s : State) (v i o : Nat) (b : Bytes) : Bytes :=
  let pcp := if be16 b 12 = 0x8100 then be16 b 14 / 4096 else 0
  b.take 12 ++ (if s.untags v i then [] else beBytes 2 0x8100 ++ beBytes 2 (pcp * 4096 + v)) ++ b.drop o

/-- The frame is an IEEE 1588 event message; `o` is the offset of its type field. -/
def isPtp (o : Nat) (b : Bytes) : Bool := be16 b o == 0x88F7 && decide (u8 b (o + 2) % 16 ≤ 3)

/-- External port i sends a frame, or holds it while a pause frame stops the port (R533, R547). -/
def State.swSend (s : State) (i : Nat) (f : Bytes) : State :=
  let x := s.xp (i + 3)
  if s.tick.tb < x.pauseTo then s.setXp (i + 3) { x with wait := x.wait ++ [f] }
  else
    let o := if be16 f 12 = 0x8100 then 16 else 12
    let s := if isPtp o f then s.setXp (i + 3) { x with ptpTx := some s.tick.tb } else s
    { s with sw := { s.sw with fwd := tset s.sw.fwd i f } }

/-- The pause of controller u is over: what waits for it goes. -/
def State.unpause (s : State) (u : Nat) : State :=
  let x := s.xp u
  if x.wait = [] ∨ s.tick.tb < x.pauseTo then s else forEach x.wait (fun s f => s.swSend (u - 3) f) (s.setXp u { x with wait := [] })

/-- A frame for the internal port: the storm limit, a mailbox access frame, or a packet. -/
def State.toInternal (s : State) (i v o : Nat) (b : Bytes) : State :=
  let u := i + 3
  let b := s.tagFor v 11 o b
  let o := if s.untags v 11 then 12 else 16
  let n := tget 0 s.sw.storm i
  let lim := (s.rd .SW_STORM 0).toNat
  if 1522 < b.length ∨ (lim ≠ 0 ∧ lim ≤ n) then s.portDrop u
  else
    let s := { s with sw := { s.sw with storm := tset s.sw.storm i (n + 1) } }
    match s.udpFrame b o with
    | some (src, d) => if (s.ent tCLASS (u * 65536 + v)).isSome then s.frameRx u v (BitVec.ofNat 32 src) d else s.pktRx u v u b
    | none => s.pktRx u v u b

/-- A frame at switch port i. -/
def State.swFrame (s : State) (i : Nat) (b : Bytes) : State :=
  match s.frameVlan i b with
  | (none, _) => s
  | (some v, o) =>
    if !swMember s v i then s
    else
      let s := s.learn v i (be48 b 6)
      let s := if isPtp o b then s.setXp (i + 3) { s.xp (i + 3) with ptpRx := some s.tick.tb } else s
      let eg := s.egress v i (be48 b 0)
      let s := forEach (eg.filter (· != 11)) (fun s p => s.swSend p (s.tagFor v p o b)) s
      if eg.contains 11 then s.toInternal i v o b else s

/-- Rate of Ethernet controller u in Mb/s (R529); that of an SGMII link, negotiated, is one of three. -/
def State.ethRate (s : State) (u : Nat) : Nat :=
  match (portKind u).1, u8 ((s.portE u).getD []) 2 with
  | 3, 0x19 => 25000
  | 3, _ => 10000
  | _, 2 => 1000
  | _, 3 => 2500
  | _, _ => [10, 100, 1000].getD (s.freeNat % 3) 1000

/-- A pause frame is obeyed where OPT asks for it, for its quanta of 512 bit times and at most 3.3 ms, and goes no further (R529, R533, R547). -/
def State.pauseRx (s : State) (u : Nat) (b : Bytes) : State :=
  if bit (u8 ((s.portE u).getD []) 5) 0 && be16 b 12 == 0x8808 && be16 b 14 == 1 then
    (s.setXp u { s.xp u with pauseTo := s.tick.tb + min 3960000 (be16 b 16 * 512 * 1200 / s.ethRate u) }).tick1
  else s

/-- ETH_FRAME_RX: a frame at Ethernet port or NC-SI pass-through i = u − 3. -/
def execEthFrameRx (i : Fin 11) (fcsOk : Bool) (b : Bytes) (s : State) : Out :=
  .next (
    let u := i.val + 3
    if !s.portOn u then s
    else if !fcsOk ∨ b.length < 14 ∨ 9216 < b.length then s.portErr u
    else if be48 b 0 = 0x0180C2000001 then s.pauseRx u b
    else s.swFrame i b)

/-- A packet that firmware sends through Ethernet controller u enters the switch at the internal port, and leaves by port u on a VLAN of both (R533, R537; log entry 217). -/
def State.fromInternal (s : State) (u : Nat) (b : Bytes) : State :=
  match s.frameVlan 11 b with
  | (none, _) => s.portDrop u
  | (some v, o) => if swMember s v 11 && swMember s v (u - 3) && decide (b.length ≤ 1522) then s.swSend (u - 3) (s.tagFor v (u - 3) o b) else s.portDrop u

/-- PACKET_SENT: the oldest packet of PORT_TXQ has left, and its granules are free (R467, R537); one that gives the controller a bus error is not sent, and counts as an error (log entry 208). -/
def execPacketSent (u : Fin 52) (s : State) : Out :=
  .next (match (s.xp u).txq with
    | [] => s
    | t :: r =>
      if !s.portOn u then s
      else
        let gs := s.chain u t 261
        let s := match s.chainBytes u gs with
          | some b =>
            let s := s.setXp u { s.xp u with txq := r, out := .packet b }
            if (portKind u).1 = 3 ∨ (portKind u).1 = 4 then s.fromInternal u b else s
          | none => (s.setXp u { s.xp u with txq := r }).portErr u
        s.dropGranules gs)

/-- MAC_AGEING: an address not refreshed for 300 s (R533). -/
def execMacAgeing (v : BitVec 12) (a : BitVec 48) (s : State) : Out :=
  .next (
    let k := macKey v.toNat a.toNat
    match tget? s.sw.mac k with
    | some e => if e.at_ + 300 * 1200000000 ≤ s.tick.tb then { s with sw := { s.sw with mac := tdel s.sw.mac k } } else s
    | none => s)

/-! ### Links, PCIe, two-wire, I3C, UART (R532, R539, R542, R547) -/

/-- The rate and width fit what the controller supports and its entry admits (R529, R531, R533): PCIe generations and lanes, the SPEED code of an Ethernet link. -/
def State.linkFits (s : State) (u rate width : Nat) : Bool :=
  let e := (s.portE u).getD []
  match (portKind u).1 with
  | 1 => decide (1 ≤ rate) && decide (rate ≤ min 5 (u8 e 2)) && [1, 2, 4, 8].contains width && decide (width ≤ u8 e 3)
  | 2 => decide (3 ≤ rate) && decide (rate ≤ min 5 (u8 e 2)) && [1, 2, 4].contains width && decide (width ≤ u8 e 3)
  | 3 | 4 => rate == u8 e 2 % 16 && width == 1
  | _ => true

/-- LINK_UP: with the rate and the width in use (R531, R549). -/
def execLinkUp (u : Fin 52) (rate width : BitVec 4) (s : State) : Out :=
  .next (if !s.portOn u || !s.linkFits u rate.toNat width.toNat then s
  else
    let up := s.linkUp u
    let s := s.wr .PORT_STAT u (BitVec.ofNat 32 (rate.toNat * 256 + width.toNat * 16 + 1))
    if up then s else s.portEvt u 0)

/-- LINK_DOWN (R291, R547, R549): every poll outstanding over the port is timed out. -/
def execLinkDown (u : Fin 52) (s : State) : Out :=
  .next (if s.linkUp u then
    let qs := s.ldg.polls.filter (fun q => s.partOn u q.partner)
    forEach qs State.pollTimeout ((s.wr .PORT_STAT u 0).portEvt u 1)
  else s)

/-- RP0_INBOUND_REQUEST (R532): anything but an MSI write is answered with Unsupported Request. -/
def execRp0InboundRequest (msi : Bool) (s : State) : Out :=
  .next (if !s.portOn 2 || msi then s else (s.portErr 2).setXp 2 { s.xp 2 with out := .unsupported })

/-- I3C_IBI (R547): beyond 64 from one target in a tick the request is NACKed; a parity or CRC error is counted. -/
def execI3cIbi (i : Fin 4) (r : I3cRx) (s : State) : Out :=
  .next (
    let u := i.val + 30
    let x := s.xp u
    if !s.portOn u then s
    else
      match r with
      | .bad => s.portErr u
      | .ibi t =>
        let n := tget 0 x.ibi t.toNat
        if n ≥ 64 then s.portErr u else s.setXp u { x with ibi := tset x.ibi t.toNat (n + 1) })

/-- Bit 2 of MODE: SMBus timeouts on two-wire controller c. -/
def State.smbTmo (s : State) (c : Nat) : Bool := s.portOn (14 + c) && bit (s.portMode (14 + c)) 2

/-- BREAK_RECEIVED (R542): a break longer than two character times is counted and ignored. -/
def execBreakReceived (x : UartBrk) (s : State) : Out := .next (if s.portOn (42 + x.i.val) && decide (2 < x.chars) then s.portErr (42 + x.i.val) else s)

/-- The outputs of recovery JTAG controller i are driven; else they are at high impedance (R529, R542). -/
def State.jtagDrives (s : State) (i : Nat) : Bool := s.portOn (48 + i) && s.rawEn (48 + i)

/-! ### Raw operations (R548) -/

/-- The operations of each kind. -/
def rawOps : Nat → List Nat
  | 1 => [1, 2, 3, 4] | 2 => [1, 2, 3, 4] | 3 => [4, 5, 6] | 4 => [4, 5, 6] | 6 => [1, 2] | 7 => [1] | 8 => [2]
  | 9 => [1] | 0xA => [2, 3] | 0xB => [1, 2, 3] | _ => []

/-- A raw operation ends with its code (R549). -/
def State.rawEnd (s : State) (u code : Nat) : State :=
  ((s.setXp u { s.xp u with raw := none, rawHeld := false, rawTried := false }).wr .PORT_RAW_RES u (BitVec.ofNat 32 (2 ^ 31 + code))).portEvt u 6

/-- The AVSBus port of a REG entry serves the sluice, and a request runs there (R540). -/
def State.avsBusy (s : State) (u : Nat) : Bool :=
  decide ((portKind u).1 = 8) && (tget [] s.img.sec tREG).any (fun e => u8 e.2 6 == (portKind u).2 && u8 e.2 1 == 1 && s.pwr.sluice.any (fun p => p.1 == e.1))

/-- A write of PORT_RAW_CMD; GO is ignored while an operation runs, and the operation waits for a partner transaction in progress (R548). -/
def State.rawCmd (s : State) (u : Nat) (v : W32) : State :=
  let s := s.plainWrite .PORT_RAW_CMD u v
  if !bit v.toNat 31 ∨ (s.xp u).raw.isSome then s
  else if !s.rawEn u ∨ s.avsBusy u = true ∨ s.portOn u = false then s.rawEnd u 3
  else if !(rawOps (portKind u).1).contains (F.PORT_RAW_CMD.OP.get v) then s.rawEnd u 1
  else if s.portBusy u then s.setXp u { s.xp u with raw := some v, rawHeld := true }
  else s.rawStart u v

/-- The operation that R539 starts of itself: GO stays 0 in its record. -/
def autoRec : W32 := 0x01000000

/-- CLOCK_LOW_TIMEOUT (R539): the transaction ends with STOP: the raw transfer that runs, else the poll, which counts as timed out. -/
def execClockLowTimeout (c : Fin 16) (s : State) : Out :=
  .next (
    let u := 14 + c.val
    if !s.smbTmo c then s
    else
      let s := s.portTmo u
      let s := s.setXp u { s.xp u with out := .stop }
      match (s.xp u).raw, (s.xp u).rawHeld, s.ldg.polls.find? (fun q => s.partOn u q.partner) with
      | some v, false, _ => if v = autoRec then s else s.rawEnd u 2
      | _, _, some q => s.pollTimeout q
      | _, _, none => s)

/-- STUCK (R539). -/
def execStuck (c : Fin 16) (s : State) : Out :=
  .next (
    let u := 14 + c.val
    if !s.smbTmo c then s
    else
      let s := (s.portTmo u).portEvt u 4
      if s.gb .PORT_CTL u F.PORT_CTL.AUTO_REC ∧ (s.xp u).raw.isNone then s.setXp u { s.xp u with raw := some autoRec, rawHeld := false } else s)

/-- Operations that leave a result in PORT_RAW_DATA: margining, a two-wire transfer, an AVSBus frame, JTAG shifts. -/
def rawReturns (kind op : Nat) : Bool :=
  (decide (kind = 1 ∨ kind = 2) && op == 3) || (kind == 6 && op == 2) || (kind == 8 && op == 2) || (kind == 0xB && decide (2 ≤ op))

/-- Add PRBS31 errors to the lanes. -/
def State.laneErrs (s : State) (u : Nat) : Nat → List (BitVec 16) → State
  | _, [] => s
  | l, e :: r => if l < 8 then (s.inc .PORT_LANE_ERR (u * 8 + l) F.PORT_LANE_ERR.ERRORS e.toNat).laneErrs u (l + 1) r else s

/-- Bytes of a raw operation's data: LEN bytes on a two-wire bus, LEN bits elsewhere (R548). -/
def rawLen (kind : Nat) (v : W32) : Nat := if kind = 6 then F.PORT_RAW_CMD.LEN.get v else (F.PORT_RAW_CMD.LEN.get v + 7) / 8

/-- What an operation returns goes to PORT_RAW_DATA, or with DMA = 1 to the line of the controller; more than the four bytes of `data` come by DMA_PORT_DATA (R544). -/
def State.rawGives (s : State) (u : Nat) (v data : W32) : State :=
  let n := rawLen (portKind u).1 v
  if !rawDma u v then s.wr .PORT_RAW_DATA u data
  else if 4 < n then s
  else forEach (List.range 4) (fun s e => if s.engOpen e then s.lineData e (portLines u).2 ((leBytes 4 data.toNat).take n) else s) s

/-- RAW_DONE: how the operation ends, and what the partner gave. Arbitration that is lost is counted, and the operation tried once more (R539); lost again it ends as a timeout (log entry 218). One that still waits does not end. -/
def execRawDone (u : Fin 52) (e : RawEnd) (data : W32) (lanes : List (BitVec 16)) (s : State) : Out :=
  .next (match (s.xp u).raw with
    | none => s
    | some v =>
      let op := F.PORT_RAW_CMD.OP.get v
      let k := (portKind u).1
      if (s.xp u).rawHeld || (e == .lost && k != 6) then s
      else if e = .lost ∧ (s.xp u).rawTried = false then
        let s := s.portErr u
        s.setXp u { s.xp u with rawTried := true }
      else
        let ok := e == .ok
        let s := if e = .lost then s.portErr u else s
        let s := if ok && rawReturns k op then s.rawGives u v data else s
        let s := if ok && op == 4 && decide (k ≤ 4) then s.laneErrs u 0 lanes else s
        let s := if ok && k == 6 && op == 1 then s.portEvt u 5 else s
        if v = autoRec then s.setXp u { s.xp u with raw := none, rawTried := false } else s.rawEnd u (if ok then 0 else 2))

/-! ### Fans and GPIO (R432, R543) -/

def State.fanE (s : State) (f : Nat) : Option Bytes := s.ent tPORT (portKey 0x0D f)

/-- FAN_TACH_WINDOW: the speed of the window that ends. -/
def execFanTachWindow (f : Fin 16) (rpm : BitVec 16) (s : State) : Out :=
  .next (match s.fanE f with
    | none => s
    | some e =>
      let s := s.pf .FAN_STAT f F.FAN_STAT.RPM rpm.toNat
      let n := if rpm.toNat < 10 * u16 e 6 then tget 0 s.fans.slow f + 1 else 0
      let s := { s with fans := { s.fans with slow := tset s.fans.slow f (min 3 n) } }
      if n < 3 then s
      else
        let had := s.gb .FAN_STAT f F.FAN_STAT.FAULT
        let s := s.pb .FAN_STAT f F.FAN_STAT.FAULT true
        let s := if bit (u8 e 3) 1 then { s with fans := { s.fans with own := setBit s.fans.own f true } } else s
        if had then s else s.raise (820 + f.val))

/-- FAN_WDT_EXPIRY. -/
def execFanWdtExpiry (s : State) : Out :=
  .next (
    let n := s.gf .FAN_WDT 0 F.FAN_WDT.SECONDS
    if n ≠ 0 ∧ s.fans.kickAt + n * 1200000000 ≤ s.tick.tb then { s with fans := { s.fans with all := true } } else s)

/-- A write of FAN_WDT. -/
def State.fanWdt (s : State) (v : W32) : State :=
  let old := s.gf .FAN_WDT 0 F.FAN_WDT.SECONDS
  let s := s.plainWrite .FAN_WDT 0 v
  if bit v.toNat 31 ∨ (old = 0 ∧ s.gf .FAN_WDT 0 F.FAN_WDT.SECONDS ≠ 0) then { s with fans := { s.fans with kickAt := s.tick.tb } } else s

/-- A write of FAN_PWM f: the outputs at 100 % return to their duties, but for those that wait for the PORT section (R543). -/
def State.fanPwm (s : State) (f : Nat) (v : W32) : State :=
  let s := s.plainWrite .FAN_PWM f v
  { s with fans := { s.fans with all := s.fans.all && !s.portsApplied, own := setBit s.fans.own f false } }

/-- The duty of PWM output f in 1/255 (R543): 100 % until PORT is applied, on an expired watchdog, or of a fan that failed; none at high impedance, where PORT names no such fan (R529). -/
def State.pwmOut (s : State) (f : Nat) : Option Nat :=
  if s.portsApplied && (s.fanE f).isNone then none
  else some (if s.fans.all || bit s.fans.own f then 255 else s.gf .FAN_PWM f F.FAN_PWM.DUTY)

/-- What GPIO g drives: GPIO_OUT push-pull (MODE 1) or open-drain (MODE 2), a SEQ step's level (MODE 3); none at high impedance (R529, R541, R549). -/
def State.gpioDrive (s : State) (g : Nat) : Option Bool :=
  if !s.portsApplied then none
  else
    let out := s.getB .GPIO_OUT (g / 32) (g % 32)
    match s.ent tPORT (portKey 0x0C g) with
    | none => none
    | some e =>
      match u8 e 3 with
      | 1 => some out
      | 2 => if out then none else some false
      | 3 => s.gpioPin (u8 e 7)
      | _ => none

/-- GPIO_INPUT_CHANGE: every pin is an input until PORT is applied, and then a pin without an entry is off (R529, R541). -/
def execGpioInputChange (g : Fin 128) (lvl : Bool) (s : State) : Out :=
  .next (if s.gpioIn g = lvl ∨ (s.portsApplied = true ∧ (s.ent tPORT (portKey 0x0C g)).isNone) then s
  else (if lvl then s.setB .GPIO_IN (g.val / 32) (g.val % 32) else s.clrB .GPIO_IN (g.val / 32) (g.val % 32)).raise (1280 + g.val))

/-- A write of SW_VLAN v: a 65th VALID is ignored (R549). -/
def State.swVlan (s : State) (v : Nat) (x : W32) : State :=
  if bit x.toNat 31 ∧ !s.vlans.contains v ∧ 64 ≤ s.vlans.length then s else s.plainWrite .SW_VLAN v x

/-! ### Memory channels (R546, R550) -/

/-- A DRAM error at an address: counted, and the address of an uncorrectable one recorded; its line then gives every reader a bus error until it is written whole (log entry 206). -/
def State.dramErr (s : State) (a : Nat) (e : Ecc) : State :=
  let k := s.chanOf a
  match e with
  | .ok => s
  | .one => s.inc .MC_ECC k F.MC_ECC.CORR 1
  | .two => (((s.poisonLine a).inc .MC_ECC k F.MC_ECC.UNCORR 1).wr .MC_ERR_ADDR_LO k (BitVec.ofNat 32 a)).wr .MC_ERR_ADDR_HI k (BitVec.ofNat 32 (a / 2 ^ 32))

/-- An error in the basin at an address (R461): corrected and counted, or its line is poisoned. -/
def State.basinErr (s : State) (a : Nat) (e : Ecc) : State :=
  match e with
  | .ok => s
  | .one => s.inc .BSN_STATUS 0 F.BSN_STATUS.CORR 1
  | .two => (s.poisonLine a).pb .BSN_STATUS 0 F.BSN_STATUS.POISON true

/-- The address lies in a memory whose ECC a reader meets. -/
def State.eccAt (s : State) (a : Nat) : Bool := decide (a < s.dramSize) || (decide (basinBase ≤ a) && decide (a < basinBase + 0x2000000))

/-- What ECC finds at an address of DRAM or the basin that is read, and whether the reader receives a bus error (R461, R546). -/
def State.memErr (s : State) (a : Nat) (e : Ecc) : State × Bool := (if a < s.dramSize then s.dramErr a e else s.basinErr a e, decide (e = .two))

/-- PATROL_SCRUB at a DRAM address: a corrected error is rewritten. -/
def execPatrolScrub (a : BitVec 38) (e : Ecc) (s : State) : Out :=
  .next (if a.toNat < s.dramSize ∧ s.fenced 5 (s.chanOf a.toNat) = false then s.dramErr a.toNat e else s)

end Sys2Proof.Machine
end

