-- ==== Sys2Proof/Machine/Keep.lean ====
section
/-!
DEFINITION. The security keep and the SPDM responder (R105 to R124): counters, life cycle, measurements, jobs, HSS index blocks, attestation.
-/
namespace Sys2Proof.Machine

/-! ### Fuses, counters, measurement registers -/

def Keep.ctr (k : Keep) (i : Nat) : Nat := tget 0 k.cnt i
def Keep.setCtr (k : Keep) (i v : Nat) : Keep := { k with cnt := tset k.cnt i v }
def Keep.mrOf (k : Keep) (i : Nat) : BitVec 384 := tget 0 k.mr i

/-- A digest as bytes, byte 0 the most significant (log entry 32). -/
def dig384 (d : BitVec 384) : Bytes := beBytes 48 d.toNat
def dig256 (d : BitVec 256) : Bytes := beBytes 32 d.toNat

/-- Extend MRi with a digest (R111). -/
def State.mrExtend (s : State) (i : Nat) (d : Bytes) : State :=
  { s with keep := { s.keep with mr := tset s.keep.mr i (Config.sha384 (dig384 (s.keep.mrOf i) ++ d)) } }

/-- Extend MRi with SHA-384 of the bytes that an object's signatures cover (R111). -/
def State.measure (s : State) (i : Nat) (b : Bytes) (o : Nat) : State := s.mrExtend i (dig384 (Config.sha384 (b.take o)))

/-- Code of a loader or firmware object, from the end of its 32-byte header to its signature block. -/
def objCode (b : Bytes) : Bytes := slice b 32 (u32 b 24 - 32)

/-- The header fields of an object of this KIND hold, against this counter: the checks of R103 but LOAD_OFFSET and the signatures. -/
def State.objHead (s : State) (kind ctr : Nat) (b : Bytes) : Bool :=
  let o := u32 b 24
  u32 b 0 == 0x4C585258 && u16 b 4 == kind && u16 b 6 == 0x00A1 && decide (s.keep.ctr ctr ≤ u32 b 8) && decide (u32 b 12 ≤ u32 b 8)
    && decide (32 ≤ o) && decide (u32 b 20 < o - 32) && o % 8 == 0 && u32 b 28 == 0

/-- The code of a loader lies in the basin (R103). -/
def loaderFits (b : Bytes) : Bool := decide (u32 b 16 + (u32 b 24 - 32) ≤ 0x2000000)

/-- The ROM runs an object: it is measured into MR1, its code is copied to its LOAD_OFFSET in the basin, and it is the loader that runs (R103, R111). -/
def State.romRun (s : State) (l : Bytes) : State :=
  let s := (s.measure 1 l (u32 l 24)).mput (basinBase + u32 l 16) (objCode l)
  { s with keep := { s.keep with loaderRun := l } }

/-! ### The device identity (R113) -/

/-- HMAC-SHA-384 of a message under a key of at most 128 bytes. -/
def hmac384 (key msg : Bytes) : BitVec 384 :=
  let pad (x : Byte) : Bytes := (key ++ List.replicate (128 - key.length) 0).map (· ^^^ x)
  Config.sha384 (pad 0x5C ++ dig384 (Config.sha384 (pad 0x36 ++ msg)))

/-- The order of the group of P-384. -/
def p384Order : Nat := 0xFFFFFFFFFFFFFFFFFFFFFFFFFFFFFFFFFFFFFFFFFFFFFFFFC7634D81F4372DDF581A0DB248B0A77AECEC196ACCC52973

/-- DEV_SECRET as bytes, byte 0 the most significant (log entry 189). -/
def Keep.secret (k : Keep) : Bytes := dig256 k.devSecret

/-- The identity keys that DEV_SECRET gives: the ECDSA private key, and the value that seed and identifier of the HSS key come from (R113). -/
def Keep.derive (k : Keep) : BitVec 384 × BitVec 384 :=
  (BitVec.ofNat 384 ((hmac384 k.secret ("XRL-ID-EC".toList.map (fun c => BitVec.ofNat 8 c.toNat))).toNat % p384Order),
   hmac384 k.secret ("XRL-ID-LMS".toList.map (fun c => BitVec.ofNat 8 c.toNat)))

/-- The fuse fields other than DEV_SECRET, in the order of R105 (log entry 162). -/
def Keep.fuseBytes (k : Keep) : Bytes :=
  (List.range 4).flatMap (fun i => dig384 (tget 0 k.slotEc i) ++ dig384 (tget 0 k.slotHss i)) ++ dig384 k.provEc ++ dig384 k.provHss
    ++ leBytes 1 k.lifecycle ++ leBytes 8 k.serial.toNat

/-- What MR0 is extended with: SHA-384 of the ROM and of the fuse fields other than DEV_SECRET (R111). -/
def Keep.romDigest (k : Keep) : BitVec 384 := Config.sha384 ((List.range 0x40000).map Config.rom ++ k.fuseBytes)

/-- MR0 to MR7, one after another. -/
def Keep.mrs (k : Keep) : Bytes := (List.range 8).flatMap (fun i => dig384 (k.mrOf i))

/-- Raise a counter to a floor, if the floor is above it (R67, R104). -/
def State.floorUp (s : State) (i v : Nat) : State :=
  if s.keep.ctr i < v then { s with keep := s.keep.setCtr i v } else s

/-! ### Verification of an object (R61, R62, R106, R107) -/

/-- The key hashes that state and slot accept. -/
def Keep.keyHashes (k : Keep) (slot : Nat) : Option (BitVec 384 × BitVec 384) :=
  if k.lcInForce = 0x3 then some (k.provEc, k.provHss)
  else if k.lcInForce = 0x7 ∧ k.ctr 4 ≤ slot then some (tget 0 k.slotEc slot, tget 0 k.slotHss slot)
  else none

/-- The ECDSA signature of the block at `o` verifies over the SHA-384 digest of bytes 0 to o − 1 (R61, R62). -/
def ecdsaOk (b : Bytes) (o : Nat) : Bool :=
  (List.finRange 4).any (fun k => Config.ecdsaKey (Config.sha384 (b.take o)) (slice b (o + 104) 96) k == slice b (o + 8) 96)

/-- L = 2 and the parameter sets of R62 at both levels, where HSS encodes them: type codes 12 (LMS_SHA256_M24_H15) and 7 (LMOTS_SHA256_N24_W4), the signed public key at offset 1,624 of the signature. PRESUMED (log entry 161). -/
def hssShape (b : Bytes) (o : Nat) : Bool :=
  be32 b (o + 200) == 2 && be32 b (o + 204) == 12 && be32 b (o + 208) == 7
    && be32 b (o + 252) == 1 && be32 b (o + 260) == 7 && be32 b (o + 1512) == 12
    && be32 b (o + 1876) == 12 && be32 b (o + 1880) == 7 && be32 b (o + 1928) == 7 && be32 b (o + 3180) == 12

/-- The HSS signature of the block at `o` verifies over bytes 0 to o − 1 (R61, R62). -/
def hssOk (b : Bytes) (o : Nat) : Bool :=
  hssShape b o && Config.hssRoot (slice b (o + 200) 28) (b.take o) (slice b (o + 252) 3292) == slice b (o + 228) 24

/-- R62 on an object whose signature block stands at `o`. -/
def State.sigPass (s : State) (b : Bytes) (o : Nat) : Bool :=
  match s.keep.keyHashes (u16 b (o + 4)) with
  | some (e, h) => ecdsaOk b o && hssOk b o && decide (Config.sha384 (slice b (o + 8) 96) = e) && decide (Config.sha384 (slice b (o + 200) 52) = h)
  | none => false

/-- The signature block is well formed (R60, R61). -/
def sigBlockOk (b : Bytes) (o : Nat) : Bool :=
  u32 b o == 0x47495358 && decide (u16 b (o + 4) < 4) && u16 b (o + 6) == 0 && decide (b.length = o + 3544)

/-! ### KEEP_CNT_CTL and KEEP_LC_CTL (R107 to R109, R122, R123) -/

def State.cntCode (s : State) (c : Nat) : State := s.pf .KEEP_CNT_STAT 0 F.KEEP_CNT_STAT.CODE c

/-- A write of KEEP_CNT_CTL: every one is checked against its CLASS; INC while an increment or a fuse write runs starts none. -/
def State.cntCtl (s : State) (v : W32) : State :=
  let s := s.plainWrite .KEEP_CNT_CTL 0 v
  let i := F.KEEP_CNT_CTL.INDEX.get v
  if F.KEEP_CNT_CTL.CLASS.get v > 1 then s.cntCode 5
  else if !bit v.toNat 8 ∨ s.keep.incBusy.isSome ∨ s.keep.lcBusy.isSome then s
  else if i ≤ 3 ∨ (5 ≤ i ∧ i ≤ 7) then s.cntCode 4
  else if i = 4 ∧ s.keep.ctr 4 = s.gf .KEEP_STATUS 0 F.KEEP_STATUS.KEY_SLOT then s.cntCode 3
  else if s.keep.ctr i = 0xFFFFFFFF then (s.cntCode 2).raise 1242
  else
    let s := s.cntCode 1
    { s with keep := { s.keep with incBusy := some i } }

/-- COUNTER_INCREMENT_DONE (R109). -/
def execCounterIncrementDone (s : State) : Out :=
  .next (match s.keep.incBusy with
    | some i =>
      let s := s.cntCode 0
      { s with keep := { s.keep.setCtr i (s.keep.ctr i + 1) with incBusy := none } }
    | none => s)

/-- An owner key slot that counter 4 has not revoked is fused (R122). -/
def Keep.ownerKey (k : Keep) : Bool :=
  (List.range 4).any (fun i => decide (k.ctr 4 ≤ i) && (decide (tget 0 k.slotEc i ≠ 0) || decide (tget 0 k.slotHss i ≠ 0)))

/-- What R122 answers to a move. -/
def Keep.lcCode (k : Keep) (target cls : Nat) : Nat :=
  match k.lifecycle, target with
  | 0x1, 0x3 => if cls = 0 then 0 else 5
  | 0x3, 0x7 => if cls > 1 then 5 else if k.ownerKey then 0 else 6
  | 0x1, 0xF => if cls ≤ 1 then 0 else 5
  | 0x3, 0xF => if cls ≤ 1 then 0 else 5
  | 0x7, 0xF => if cls ≤ 1 then 0 else 5
  | _, _ => 5

/-- A write of KEEP_LC_CTL: every one is checked against its CLASS. -/
def State.lcCtl (s : State) (v : W32) : State :=
  let s := s.plainWrite .KEEP_LC_CTL 0 v
  if F.KEEP_LC_CTL.CLASS.get v > 1 then s.cntCode 5
  else if !bit v.toNat 4 ∨ s.keep.incBusy.isSome ∨ s.keep.lcBusy.isSome then s
  else
    let t := F.KEEP_LC_CTL.TARGET.get v
    let c := s.keep.lcCode t (F.KEEP_LC_CTL.CLASS.get v)
    if c ≠ 0 then s.cntCode c
    else
      let s := s.cntCode 1
      { s with keep := { s.keep with lcBusy := some t } }

/-- LIFECYCLE_FUSE_WRITE_DONE (R122): the fuses hold the new state; it takes effect at the next PORST_N. -/
def execLifecycleFuseWriteDone (s : State) : Out :=
  .next (match s.keep.lcBusy with
    | some t =>
      let s := s.cntCode 0
      { s with keep := { s.keep with lifecycle := t, lcBusy := none } }
    | none => s)

/-! ### HSS indexes (R116 to R118) -/

/-- TIMEBASE counts for one signature at 2 per second. -/
def hssPeriod : Nat := 600000000

/-- Refill the bucket of R117. -/
def State.refill (s : State) : State :=
  let k := (s.tick.tb - s.keep.bucketAt) / hssPeriod
  { s with keep := { s.keep with bucket := min 64 (s.keep.bucket + k),
                                 bucketAt := if s.keep.bucket + k ≥ 64 then s.tick.tb else s.keep.bucketAt + k * hssPeriod } }

/-- EXHAUSTED (R118): source 1241 once per boot. -/
def State.exhaust (s : State) : State :=
  let said := s.keep.said1241
  let s := s.pb .KEEP_STATUS 0 F.KEEP_STATUS.LMS_EXH true
  let s := { s with keep := { s.keep with exhausted := true, said1241 := true } }
  if said then s else s.raise 1241

/-- Take one HSS index: 0 OK, 3 RATE, 4 EXHAUSTED. -/
def State.hssTake (s : State) : State × Nat :=
  let s := s.refill
  if s.keep.exhausted then (s, 4)
  else if s.keep.bucket = 0 then (s, 3)
  else
    let need := s.keep.block.isNone || decide (1024 ≤ s.keep.hssIdx)
    if need && decide (1048576 ≤ s.keep.ctr 3) then (s.exhaust, 4)
    else
      let s : State :=
        if need then
          let c := s.keep.ctr 3 + 1
          let s := { s with keep := { s.keep.setCtr 3 c with block := some (c - 1), hssIdx := 0 } }
          if c = 1038090 then s.raise 1240 else s
        else s
      let s : State := { s with keep := { s.keep with hssIdx := s.keep.hssIdx + 1, bucket := s.keep.bucket - 1 } }
      (if s.keep.block = some 1048575 ∧ s.keep.hssIdx = 1024 then s.exhaust else s, 0)

/-- The signature index that was taken last. -/
def State.hssLast (s : State) : Nat := s.keep.block.getD 0 * 1024 + s.keep.hssIdx - 1

/-! ### Bound signatures (R112) -/

/-- What the keep signs for a digest: SHA-384 of the measurement registers and the digest. -/
def State.bound (s : State) (d : Bytes) : BitVec 384 := Config.sha384 (s.keep.mrs ++ d)
/-- The bound ECDSA signature of a digest. -/
def State.signEc (s : State) (d : Bytes) : Bytes := beBytes 96 (Config.ecdsaSign s.keep.idEc (s.bound d) s.free).toNat
/-- The bound HSS signature of a digest at a signature index. -/
def State.signHss (s : State) (d : Bytes) (i : Nat) : Bytes := beBytes 3292 (Config.hssSign s.keep.idHss (s.bound d) i).toNat

/-! ### Jobs (R124) -/

/-- Physical address of the descriptor. -/
def State.jobAddr (s : State) : Nat := (s.rd .KEEP_JOB_ADDR_LO 0).toNat / 64 * 64 + 2 ^ 32 * ((s.rd .KEEP_JOB_ADDR_HI 0).toNat % 65536)

/-- A job's descriptor, the checks of its fields made. -/
def jobOf (b : Bytes) : Job :=
  let op := u8 b 0
  let arg := u8 b 1
  let inLen := u32 b 16
  let outLen := u32 b 20
  let bad : Bool :=
    op == 0 || decide (9 < op) || (slice b 2 6).any (· != 0) || (slice b 40 24).any (· != 0) || decide (2 ^ 24 < inLen)
    || (match op with
      | 1 => decide (2 < arg) || decide (outLen < if arg = 0 then 32 else 48)
      | 4 => arg != 0 || inLen != 48 || u64 b 32 != 0 || decide (outLen < 480)
      | 5 => arg != 0 || inLen != 48 || u64 b 32 != 0 || decide (outLen < 3676)
      | 6 => arg != 0 || decide (outLen < inLen + 16)
      | 7 => arg != 0 || decide (inLen < 16) || decide (outLen < inLen - 16)
      | 9 => decide (arg < 5) || decide (7 < arg) || inLen != 48
      | _ => arg != 0)
  { op := op, arg := arg, inAddr := u64 b 8, inLen := inLen, outLen := outLen, outAddr := u64 b 24, keyAddr := u64 b 32, idx := 0, code := if bad then some 1 else none }

/-- Bytes that a job reads at KEY_ADDR. -/
def keyLen : Nat → Nat
  | 2 => 96 | 3 => 52 | 6 => 32 | 7 => 32 | _ => 0

def Job.random (j : Job) : Bool := j.op == 4 || j.op == 5 || j.op == 8

/-- Start the descriptor at KEEP_JOB_ADDR (R123); a GO while a job runs is ignored. Reads that fail end it with BUSERR. -/
def State.jobGo (s : State) : State :=
  if s.keep.job.isSome then s
  else
    let put (s : State) (j : Job) : State := { s with keep := { s.keep with job := some j } }
    match s.memRd edReq s.jobAddr 64 with
    | none => put s { op := 0, arg := 0, inAddr := 0, inLen := 0, outLen := 0, outAddr := 0, keyAddr := 0, idx := 0, code := some 6 }
    | some b =>
      let j := jobOf b
      if j.code.isSome then put s j
      else if (s.memRd edReq j.inAddr j.inLen).isNone ∨ (s.memRd edReq j.keyAddr (keyLen j.op)).isNone then put s { j with code := some 6 }
      else if j.op = 5 ∧ s.keep.trngOk = true then
        let (t, c) := s.hssTake
        put t { j with idx := t.hssLast, code := if c = 0 then none else some c }
      else put s j

/-- What a job writes at OUT_ADDR for its key record and its input: digests, the measurement registers with a bound signature, ciphertext and tag, plaintext, random bytes. -/
def State.jobOut (s : State) (j : Job) (k x : Bytes) : Bytes :=
  match j.op with
  | 1 => if j.arg = 0 then dig256 (Config.sha256 x) else if j.arg = 1 then dig384 (Config.sha384 x) else dig384 (Config.sha3_384 x)
  | 4 => s.keep.mrs ++ s.signEc x
  | 5 => s.keep.mrs ++ s.signHss x j.idx
  | 6 => (List.range (j.inLen + 16)).map (Config.aesSeal k x)
  | 7 => (List.range (j.inLen - 16)).map (Config.aesOpen k x)
  | 8 => s.freeBs j.outLen
  | _ => []

/-- The verdict of a verification, or of the tag of a decryption; every other job passes. -/
def Job.pass (j : Job) (k x : Bytes) : Bool :=
  match j.op with
  | 2 => Config.jobVerify 2 k x
  | 3 => Config.jobVerify 3 k x
  | 7 => Config.aesTag k x
  | _ => true

/-- The job ends with a code. -/
def State.jobEnd (s : State) (c : Nat) : State :=
  (({ s with keep := { s.keep with job := none } }).wr .KEEP_JOB_STAT 0 (BitVec.ofNat 32 (128 + c))).raise 1245

/-- What ECC found where a job reads DRAM or the basin, first in its input and then in its key (R461, R546): an uncorrectable error gives the keep a bus error. -/
def State.jobEcc (s : State) (j : Job) (e : Ecc) : State × Bool :=
  match [(j.inAddr, j.inLen), (j.keyAddr, keyLen j.op)].find? (fun p => decide (0 < p.2) && s.eccAt p.1) with
  | some p => s.memErr p.1 e
  | none => (s, false)

/-- KEEP_JOB_DONE (R123). A job that waits for random data ends only by NORNG_TIMEOUT. -/
def execKeepJobDone (e : Ecc) (s : State) : Out :=
  .next (match s.keep.job with
    | none => s
    | some j =>
      match j.code with
      | some c => s.jobEnd c
      | none =>
        if j.random && !s.keep.trngOk then s
        else
          match s.memRd edReq j.keyAddr (keyLen j.op), s.memRd edReq j.inAddr j.inLen with
          | some k, some x =>
            match s.jobEcc j e with
            | (s, true) => s.jobEnd 6
            | (s, false) =>
              if j.pass k x = false then s.jobEnd 2
              else if j.op = 9 then (s.mrExtend j.arg x).jobEnd 0
              else
                let out := s.jobOut j k x
                let s := s.tick1
                if out = [] then s.jobEnd 0
                else
                  let (t, done) := s.memWr edReq j.outAddr out
                  if done then t.jobEnd 0 else s.jobEnd 6
          | _, _ => s.jobEnd 6)

/-- TRNG_HEALTH_FAIL (R110). -/
def execTrngHealthFail (s : State) : Out :=
  .next (({ s with keep := { s.keep with trngOk := false } }).pb .KEEP_STATUS 0 F.KEEP_STATUS.TRNG_FAIL true |>.raise 1243)

/-! ### The SPDM responder (R114, R115) -/

/-- The responder runs. -/
def State.spdmUp (s : State) : Bool := decide (s.keep.boot = .running) && s.pwr.asleep == 0

def Session.none_ : Session := { opened := false, established := false, keyGen := 0, cosign := [] }
/-- Session `i`; 0 stands for the exchange outside sessions, which is always open. -/
def State.ses (s : State) (i : BitVec 16) : Session := tget (if i = 0 then { Session.none_ with opened := true, established := true } else Session.none_) s.keep.sess i.toNat
def State.setSes (s : State) (i : BitVec 16) (x : Session) : State := { s with keep := { s.keep with sess := tset s.keep.sess i.toNat x } }
def State.answer (s : State) (r : SpdmReply) : State := { s with keep := { s.keep with spdm := r } }

/-- A port carries MCTP and works (R538): HP0, HP1, RP0, the two-wire and the I3C controllers. -/
def State.mctpUp (s : State) (v : SpdmVia) : Bool :=
  let u := v.port.val
  (decide (u < 3) || decide (14 ≤ u)) && (s.portE u).isSome && !s.fenced 10 u && !s.pins.sysrst
/-- The SUB under which CLASS keeps the port of a request: the target address on a two-wire port (R530). -/
def spdmSub (v : SpdmVia) : Nat := if 14 ≤ v.port.val ∧ v.port.val < 30 then v.sub.toNat else 0
/-- The port's class has the right ATTEST of R120, and no MASK refuses it (R530). -/
def State.attestOk (s : State) (v : SpdmVia) : Bool := s.classOf v.port (spdmSub v) != 7 && !bit (s.maskOf v.port (spdmSub v)) 12

/-- A request reaches the responder and is granted (R114, R120, R538): one on a port that does not carry it is no event, and one without the right is refused. -/
def State.attest (s : State) (v : SpdmVia) (f : State → State) : State :=
  if !s.spdmUp || !s.mctpUp v then s else if s.attestOk v then f s else s.answer .refused

/-- An answer within a session: one that is not open gets InvalidRequest. -/
def State.inSes (s : State) (v : SpdmVia) (f : State → State) : State :=
  s.attest v (fun s => if (s.ses v.sid).established then f s else s.answer .errInvalid)

/-- A signed answer: nonce, then the signature of R112 over the digest of the answer; the HSS index is taken first, and the co-signature of the same digest kept (R112, R115, R117, R118). Nonce and answer digest are free values. -/
def State.signed (s : State) (i : BitVec 16) (mk : Bytes → Bytes → SpdmReply) : State :=
  if !s.keep.trngOk then { s with keep := { s.keep with spdmWait := true } }
  else
    match s.hssTake with
    | (s, 0) =>
      let nonce := s.freeBs 32
      let s := s.tick1
      let d := s.freeBs 48
      let x := s.ses i
      let t := s.setSes i { x with cosign := ((nonce, s.signHss d s.hssLast) :: x.cosign).take 16 }
      (t.answer (mk nonce (s.signEc d))).tick1
    | (s, 3) => s.answer .errBusy
    | (s, _) => s.answer .errUnspecified

/-- GET_VERSION (R114). -/
def execGetVersion (via : SpdmVia) (s : State) : Out := .next (s.inSes via (fun s => s.answer .version))
/-- GET_CAPABILITIES (R114). -/
def execGetCapabilities (via : SpdmVia) (s : State) : Out := .next (s.inSes via (fun s => s.answer .capabilities))
/-- NEGOTIATE_ALGORITHMS (R114): the answer selects what the part supports of the offer; without ECDSA P-384 or SHA-384 there is none. -/
def execNegotiateAlgorithms (via : SpdmVia) (offer : SpdmAlgs) (s : State) : Out :=
  .next (s.inSes via (fun s => s.answer (if offer.ecdsaP384 && offer.sha384 then .algorithms offer else .errUnsupported)))
/-- GET_DIGESTS (R114). -/
def execGetDigests (via : SpdmVia) (s : State) : Out := .next (s.inSes via (fun s => s.answer .digests))
/-- GET_CERTIFICATE (R114): slot 0 only. -/
def execGetCertificate (via : SpdmVia) (slot : Fin 8) (s : State) : Out :=
  .next (s.inSes via (fun s => s.answer (if slot.val = 0 then .certificate else .errInvalid)))
/-- CHALLENGE (R114, R115). -/
def execChallenge (via : SpdmVia) (s : State) : Out := .next (s.inSes via (fun s => s.signed via.sid .challenge))
/-- GET_MEASUREMENTS of block `blk`, with or without a signature (R114, R118). -/
def execGetMeasurements (via : SpdmVia) (blk : Fin 8) (signed : Bool) (s : State) : Out :=
  .next (s.inSes via (fun s =>
    let v := s.keep.mrOf blk
    if signed then s.signed via.sid (fun n g => .measurements blk v (some (n, g))) else s.answer (.measurements blk v none)))
/-- KEY_EXCHANGE that opens session `via.sid` (R114, R115). -/
def execKeyExchange (via : SpdmVia) (s : State) : Out :=
  .next (s.attest via (fun s =>
    if via.sid = 0 ∨ (s.ses via.sid).opened = true then s.answer .errInvalid
    else
      let t := s.signed via.sid .keyExchange
      match t.keep.spdm with
      | .keyExchange _ _ => if t.keep.spdmWait then t else t.setSes via.sid { t.ses via.sid with opened := true }
      | _ => t))
/-- FINISH (R114). -/
def execFinish (via : SpdmVia) (s : State) : Out :=
  .next (s.attest via (fun s =>
    if (s.ses via.sid).opened && via.sid != 0 then (s.setSes via.sid { s.ses via.sid with established := true }).answer .finish
    else s.answer .errInvalid))
/-- HEARTBEAT (R114). -/
def execHeartbeat (via : SpdmVia) (s : State) : Out := .next (s.inSes via (fun s => if via.sid = 0 then s.answer .errInvalid else s.answer .heartbeat))
/-- KEY_UPDATE (R114). -/
def execKeyUpdate (via : SpdmVia) (s : State) : Out :=
  .next (s.inSes via (fun s => if via.sid = 0 then s.answer .errInvalid else (s.setSes via.sid { s.ses via.sid with keyGen := (s.ses via.sid).keyGen + 1 }).answer .keyUpdate))
/-- END_SESSION (R114). -/
def execEndSession (via : SpdmVia) (s : State) : Out :=
  .next (s.inSes via (fun s => if via.sid = 0 then s.answer .errInvalid else ({ s with keep := { s.keep with sess := tdel s.keep.sess via.sid.toNat } }).answer .endSession))
/-- LMS_COSIGN (R115): the co-signature of a signed response by its nonce. -/
def execLmsCosign (via : SpdmVia) (nonce : BitVec 256) (s : State) : Out :=
  .next (s.inSes via (fun s =>
    match (s.ses via.sid).cosign.find? (fun e => e.1 = leBytes 32 nonce.toNat) with
    | some e => s.answer (.cosignature e.2)
    | none => s.answer .errInvalid))

/-- NORNG_TIMEOUT (R110): 10 ms after it began to wait, a request for random data is refused. -/
def execNorngTimeout (s : State) : Out :=
  .next (if s.keep.trngOk then s
    else
      let s := match s.keep.job with
        | some j => if j.random && j.code.isNone then s.jobEnd 5 else s
        | none => s
      if s.keep.spdmWait then ({ s with keep := { s.keep with spdmWait := false } }).answer .errUnspecified else s)

end Sys2Proof.Machine
end

