-- ==== Sys2Proof/Machine/ImageCheck.lean ====
section
/-!
DEFINITION. The container of an image (R58 to R61), its entries by number (R63, R64), and the structure checks (R65, R148, R192, R206, R238, R242, R268, R290, R301, R307, R326, R445, R464, R492, R496, R529, R530, R546).
-/
namespace Sys2Proof.Machine

/-! ### Container -/

/-- A section-table entry. -/
structure SecRow where
  type : Nat
  count : Nat
  off : Nat
  len : Nat
deriving DecidableEq, Repr

def secRow (b : Bytes) (i : Nat) : SecRow :=
  let o := 64 + 16 * i
  { type := u16 b o, count := u16 b (o + 2), off := u32 b (o + 4), len := u32 b (o + 8) }
def sigOff (b : Bytes) : Nat := u32 b 40
def sectCount (b : Bytes) : Nat := u16 b 34
def secRows (b : Bytes) : List SecRow := (List.range (sectCount b)).map (secRow b)
def allZero (b : Bytes) (o n : Nat) : Bool := (List.range n).all (fun i => u8 b (o + i) == 0)
def noDup (l : List Nat) : Bool := l.length == l.eraseDups.length

/-- Section types an amendment may hold (R63). -/
def amendable : List Nat := [tREG, tRAIL, tLOOP, tWEIR, tEVT, tBSN, tLDG, tSTL, tCMP]

/-- R58 of a header of this KIND. -/
def headerOk (b : Bytes) (amd : Bool) : Bool :=
  u32 b 0 == 0x584E5455 && u16 b 4 == 1 && u16 b 6 == (if amd then 1 else 0) && decide (1 ≤ u32 b 8) && decide (u32 b 12 ≤ u32 b 8)
    && (if amd then decide (1 ≤ u32 b 20) else u32 b 16 == 0 && u32 b 20 == 0 && u64 b 24 == 0)
    && u16 b 32 == 0x00A1 && decide (1 ≤ sectCount b) && decide (sectCount b ≤ 16) && u32 b 36 == b.length && decide (sigOff b % 8 = 0) && u32 b 44 == 0

/-- R59: every section starts at a multiple of 8, and RESERVED is 0. -/
def tableOk (b : Bytes) : Bool := (secRows b).all (fun r => decide (r.off % 8 = 0)) && (List.range (sectCount b)).all (fun i => allZero b (64 + 16 * i + 12) 4)

/-- R60, but for the types held. -/
def sectionsOk (b : Bytes) : Bool :=
  let rs := secRows b
  let tableEnd := 64 + 16 * sectCount b
  decide (tableEnd ≤ sigOff b) && sigBlockOk b (sigOff b)
    && rs.all (fun r => decide (tableEnd ≤ r.off) && decide (r.off + r.len ≤ sigOff b))
    && rs.all (fun r => rs.all (fun q => r == q || decide (r.off + r.len ≤ q.off) || decide (q.off + q.len ≤ r.off)))
    && noDup (rs.map (·.type))

def formatOk (b : Bytes) (amd : Bool) : Bool := headerOk b amd && tableOk b && sectionsOk b
/-- A full image holds every section type (R60). -/
def holdsAll (b : Bytes) : Bool := (List.range 16).all (fun i => (secRows b).any (fun r => r.type == i + 1))
/-- The first section of an amendment that is not of an amendable type. -/
def badType (b : Bytes) : Option Nat := ((secRows b).find? (fun r => !amendable.contains r.type)).map (·.type)

/-! ### Entries -/

def up8 (n : Nat) : Nat := (n + 7) / 8 * 8

/-- End of the data records from offset `o` of a LOOP entry. -/
def drecEnd (b : Bytes) : Nat → Nat → Nat
  | _, 0 => 0
  | o, k + 1 => max (o + 8 + up8 (u16 b (o + 2))) (drecEnd b (o + 8 + up8 (u16 b (o + 2))) k)

/-- Length of the entry that starts `b`; `first` for the first of its section. -/
def entLen (t : Nat) (first : Bool) (b : Bytes) : Nat :=
  match t with
  | 0x01 => 16 | 0x02 => 8 | 0x03 => 8 | 0x04 => 8 | 0x05 => 8 | 0x06 => 16 | 0x09 => 32 | 0x0A => 8 | 0x0B => 16 | 0x0E => 16 | 0x0F => 16 | 0x10 => 16
  | 0x07 => up8 (32 + 2 * u8 b 1)
  | 0x08 => up8 (max (max 32 (u32 b 8 + 4 * u16 b 4)) (drecEnd b (u32 b 12) (u16 b 6)))
  | 0x0C => 40 + up8 (2 * u8 b 32)
  | 0x0D => if first then 32 + 8 * u8 b 30 else 16
  | _ => 8

/-- The number of an entry. -/
def entKey (t : Nat) (first : Bool) (b : Bytes) : Nat :=
  match t with
  | 0x01 => 0 | 0x0C => 0 | 0x10 => 0
  | 0x04 => portKey (u8 b 0) (u8 b 1)
  | 0x05 => u8 b 0 * 65536 + u16 b 2
  | 0x0A => u16 b 0
  | 0x0D => if first then 65536 else u16 b 0
  | _ => u8 b 0

/-- The entries of a section, in order; none when they do not fit. -/
def entries (t : Nat) : Bool → Nat → Bytes → Option (List (Nat × Bytes))
  | _, 0, _ => some []
  | first, k + 1, b =>
    let n := entLen t first b
    if b.length < n then none else (entries t false k (b.drop n)).map ((entKey t first b, b.take n) :: ·)

def secEntries (b : Bytes) (r : SecRow) : Option (List (Nat × Bytes)) := entries r.type true r.count (slice b r.off r.len)

/-- The structure that an image spells, or the type of a section whose entries do not fit or repeat a number. -/
def parseStruc (b : Bytes) : Except Nat Struc :=
  (secRows b).foldl (fun acc r =>
    match acc with
    | .error t => .error t
    | .ok x =>
      match secEntries b r with
      | some es => if noDup (es.map (·.1)) then .ok (tset x r.type (es.foldl (fun m e => tset m e.1 e.2) [])) else .error r.type
      | none => .error r.type) (.ok [])

/-- R64: the entries of an amendment replace those of the structure; an empty phase list removes a rail and its WEIR entry, CAP 0 a pool (R468). -/
def mergeStruc (cur amd : Struc) : Struc :=
  let x : Struc := amd.foldl (fun x s => tset x s.1 (s.2.foldl (fun m e => tset m e.1 e.2) (x.sec s.1))) cur
  let gone := ((x.sec tRAIL).filter (fun e => railNph e.2 = 0)).map (·.1)
  let x : Struc := tset x tRAIL ((x.sec tRAIL).filter (fun e => railNph e.2 ≠ 0))
  let x : Struc := tset x tWEIR ((x.sec tWEIR).filter (fun e => !gone.contains e.1))
  tset x tBSN ((x.sec tBSN).filter (fun e => u32 e.2 8 ≠ 0))

/-! ### Checks of one section against the whole structure -/

def Struc.d (x : Struc) (t k : Nat) : Bytes := (x.ent t k).getD []
def pow2 (n : Nat) : Bool := (List.range 21).any (fun k => n == 2 ^ k)
def popc (n : Nat) : Nat := ((List.range 8).filter (bit n)).length

def Struc.tTick (x : Struc) : Nat := 50 * u8 (x.d tPKG 0) 0
/-- Installed DRAM that the structure describes. -/
def Struc.dram (x : Struc) : Nat := ((x.sec tMEM).map (fun e => if e.1 < 4 ∧ u8 e.2 1 ≠ 0 then u8 e.2 5 else 0)).foldl (· + ·) 0 * gib
def Struc.staging (x : Struc) : Nat := u32 (x.d tMEM 0xFF) 4 * 2 ^ 22
def disjoint (a n b m : Nat) : Bool := n == 0 || m == 0 || decide (a + n ≤ b) || decide (b + m ≤ a)
/-- A range lies in installed DRAM outside the staging area. -/
def Struc.inDram (x : Struc) (a n : Nat) : Bool := decide (a + n ≤ x.dram) && disjoint a n x.staging (2 ^ 22)
def Struc.serves (x : Struc) (r : Nat) : Bool := u8 (x.d tREG r) 1 == 1
def Struc.portOn (x : Struc) (kind idx : Nat) : Bool := (x.ent tPORT (portKey kind idx)).isSome
def Struc.plGen (x : Struc) (n : Nat) : Nat := u8 (x.d tPORT (portKey 0x20 n)) 2
def Struc.pool (x : Struc) (p : Nat) : Bool := (x.ent tBSN p).isSome

def ckPkg (x : Struc) : Bool :=
  let e := x.d tPKG 0
  (x.sec tPKG).length == 1 && decide (5 ≤ u8 e 0) && decide (u8 e 0 ≤ 80) && decide (u8 e 1 ≤ 1) && decide (8 ≤ u8 e 2) && decide (u8 e 2 ≤ 24)
    && decide (u8 e 3 < 8) && decide (u8 e 5 ≤ 1) && allZero e 6 10
    && (decide (1000 ≤ x.tTick) || (List.range 64).all (fun n => x.plGen n != 1))

/-- REG: four regions, one at least in service (R29, R63). -/
def ckReg (x : Struc) : Bool := (List.range 4).all (fun r => (x.ent tREG r).isSome && decide (u8 (x.d tREG r) 1 ≤ 1)) && (x.sec tREG).length == 4 && (List.range 4).any x.serves

def memSpeeds : Nat → List Nat
  | 1 => [2400, 2666, 2933, 3200] | 2 => [4800, 5200, 5600] | _ => []
def ckMem (x : Struc) : Bool :=
  let caps := (List.range 4).filterMap (fun k => let e := x.d tMEM k; if u8 e 1 = 0 then none else some (u8 e 5))
  (x.sec tMEM).length == 5 && (x.ent tMEM 0xFF).isSome && decide (u8 (x.d tMEM 0xFF) 1 ≤ 1)
    && (List.range 4).all (fun k =>
      match x.ent tMEM k with
      | some e => u8 e 1 == 0 || (decide (u8 e 1 ≤ 2) && (memSpeeds (u8 e 1)).contains (u16 e 2) && (u8 e 4 == 1 || u8 e 4 == 2) && [8, 16, 32, 64].contains (u8 e 5) && allZero e 6 2)
      | none => false)
    && (u8 (x.d tMEM 0xFF) 1 == 0 || caps.all (fun c => c == caps.getD 0 0))

/-- Kinds that hold a receive queue (R537). -/
def queueKind (k : Nat) : Bool := decide (1 ≤ k) && decide (k ≤ 7)

/-- One PORT entry (R192, R529, R541). -/
def portEntOk (x : Struc) (e : Bytes) : Bool :=
  let k := u8 e 0
  let i := u8 e 1
  let sp := u8 e 2
  let md := u8 e 3
  let pool := u8 e 4
  let opt0 := allZero e 5 3
  let poolOk := if queueKind k then x.pool pool else pool == 0
  match k with
  | 0x01 => decide (i < 2) && decide (1 ≤ sp) && decide (sp ≤ 5) && [1, 2, 4, 8].contains md && decide (u8 e 5 < 4) && allZero e 6 2 && poolOk
  | 0x02 => i == 0 && decide (3 ≤ sp) && decide (sp ≤ 5) && [1, 2, 4].contains md && opt0 && poolOk
  | 0x03 => decide (i < 2) && (sp == 0x0A || sp == 0x19) && decide (md ≤ (if sp = 0x19 then 1 else 0)) && decide (u8 e 5 < 2) && allZero e 6 2 && poolOk
  | 0x04 => decide (i < 8) && decide (1 ≤ sp) && decide (sp ≤ 3) && md == 0 && decide (u8 e 5 < 2) && allZero e 6 2 && poolOk
  | 0x05 => i == 0 && sp == 0 && md == 0 && opt0 && poolOk
  | 0x06 => decide (i < 16) && decide (1 ≤ sp) && decide (sp ≤ 3) && decide (md < 8) && (decide (i < 8) || !bit md 0) && decide (u8 e 5 < 128) && decide (u8 e 6 < 128) && u8 e 7 == 0 && poolOk
  | 0x07 => decide (i < 4) && decide (1 ≤ sp) && decide (sp ≤ 25) && md == 0 && opt0 && poolOk
  | 0x08 => decide (i < 8) && decide (1 ≤ sp) && decide (sp ≤ 50) && md == 0 && opt0 && poolOk
  | 0x09 => decide (i < 4) && sp == 0 && decide (md < 64) && decide (3 ≤ u16 e 5 + 65536 * u8 e 7) && decide (u16 e 5 + 65536 * u8 e 7 ≤ 30000) && poolOk
  | 0x0A => decide (i < 2) && decide (1 ≤ sp) && decide (sp ≤ 200) && decide (md ≤ 2) && opt0 && poolOk
  | 0x0B => decide (i < 4) && decide (sp ≤ 50) && decide (md ≤ 1) && opt0 && poolOk
  | 0x0C => decide (i < 128) && sp == 0 && decide (md ≤ 5) && decide (u8 e 5 ≤ 3) && (u8 e 7 == 0xFF || decide (u8 e 7 < 128)) && poolOk
  | 0x0D => decide (i < 16) && decide (1 ≤ sp) && decide (sp ≤ 100) && decide (md < 4) && decide (1 ≤ u8 e 5) && decide (u8 e 5 ≤ 4) && poolOk
  | 0x20 => decide (i < 64) && decide (sp ≤ 2) && decide (md < 4) && decide (pool ≤ 3) && opt0
  | 0x21 => decide (i < 8) && sp == 0 && decide (md ≤ 1) && pool == 0 && opt0
  | _ => false

def ckPort (x : Struc) : Bool := (x.sec tPORT).all (fun e => portEntOk x e.2)

def ckClass (x : Struc) : Bool :=
  (x.sec tCLASS).all (fun p =>
    let e := p.2
    let u := u8 e 0
    let sub := u16 e 2
    decide (u8 e 1 ≤ 7) && decide (u16 e 4 < 2 ^ 13) && allZero e 6 2
      && (if 3 ≤ u ∧ u ≤ 13 then decide (1 ≤ sub) && decide (sub ≤ 4094)
          else if 14 ≤ u ∧ u ≤ 21 then decide (sub < 128)
          else (u == 0 || u == 1 || (decide (42 ≤ u) && decide (u ≤ 45)) || u == 0xF0 || u == 0xF1) && sub == 0))

def ckStage (x : Struc) : Bool :=
  (x.sec tSTAGE).length == 64 && (x.sec tSTAGE).all (fun p =>
    let e := p.2
    let gen := x.plGen p.1
    let cap := if gen = 1 then 4 else min 8 ((x.tTick - 50) / 40 - 1)
    decide (p.1 < 64) && decide (u8 e 2 ≤ 1) && decide (1 ≤ u8 e 3) && decide (u8 e 3 ≤ 8) && u8 e 5 == 0 && allZero e 12 4
      && (gen == 0 || decide (popc (u8 e 1) ≤ cap)))

/-- A rail's LEs are those of its gang, ascending, in one loop cluster, no spare (R18, R19, R242). -/
def gangOk (e : Bytes) : Bool :=
  let g := railGang e
  let l := railLes e
  (List.range 4).all (fun i => decide (i < g) || u8 e (4 + i) == 0xFF) && l.all (fun j => decide (j < 32)) && l.all (fun j => decide (j / 8 = l.getD 0 0 / 8))
    && (List.range (g - 1)).all (fun i => decide (l.getD i 0 < l.getD (i + 1) 0)) && decide (railNph e ≤ 16 * g)

def ckRail (x : Struc) (hasCode : Nat → Bool) : Bool :=
  let rs := x.sec tRAIL
  let phases := rs.flatMap (fun e => railPhases e.2)
  noDup phases && noDup (rs.flatMap (fun e => railLes e.2)) && noDup (rs.map (fun e => u8 e.2 2))
    && rs.all (fun p =>
      let e := p.2
      let r := p.1
      let n := railNph e
      let k0 := u8 (x.d tSTAGE ((railPhases e).getD 0 0 / 8)) 2
      let st := x.d tSEQ (u8 e 24)
      decide (r < 64) && decide (1 ≤ n) && decide (n ≤ 64) && decide (u8 e 2 < 64) && decide (u8 e 3 < 4) && decide (1 ≤ u16 e 14) && decide (u16 e 14 ≤ 16383)
        && decide (u8 e 16 < 4) && decide (1 ≤ u8 e 18) && decide (u8 e 18 ≤ n) && decide (1 ≤ u8 e 19) && decide (16 ≤ u16 e 20) && allZero e 25 7
        && allZero e (32 + 2 * n) (e.length - (32 + 2 * n))
        && gangOk e && decide (u16 e 8 ≤ u16 e 12) && decide (u16 e 12 ≤ u16 e 10) && decide (u16 e 10 ≤ 16383)
        && (railPhases e).all (fun q => decide (q < 512) && x.plGen (q / 8) != 0 && bit (u8 (x.d tSTAGE (q / 8)) 1) (q % 8) && u8 (x.d tSTAGE (q / 8)) 2 == k0)
        && x.serves ((railLes e).getD 0 0 / 8) && (railLes e).all hasCode
        && (x.ent tSEQ (u8 e 24)).isSome && u8 st 1 == 0 && u8 st 2 == r)

/-- Data records of a LOOP entry. -/
def drecs (b : Bytes) : Nat → Nat → List (Nat × Nat × Bytes)
  | _, 0 => []
  | o, k + 1 => (u16 b o, u16 b (o + 2), slice b (o + 8) (u16 b (o + 2))) :: drecs b (o + 8 + up8 (u16 b (o + 2))) k

def drecHeads (b : Bytes) : Nat → Nat → Bool
  | _, 0 => true
  | o, k + 1 => allZero b (o + 4) 4 && drecHeads b (o + 8 + up8 (u16 b (o + 2))) k

def ckLoop (x : Struc) : Bool :=
  (x.sec tLOOP).all (fun p =>
    let e := p.2
    decide (p.1 < 32) && decide (u8 e 1 ≤ 1) && decide (u8 e 2 ≤ 1) && u8 e 3 == 0 && decide (1 ≤ u16 e 4) && decide (u16 e 4 ≤ 2048) && decide (u16 e 6 ≤ 1024)
      && decide (u32 e 8 % 4 = 0) && decide (u32 e 12 % 8 = 0) && decide (u8 e 16 ≤ 127) && decide (u8 e 17 ≤ 92) && decide (u8 e 16 + u8 e 17 ≤ 92) && allZero e 18 14
      && (drecs e (u32 e 12) (u16 e 6)).all (fun d => decide (0x4000 ≤ d.1) && decide (d.1 ≤ 0xFFFC) && decide (d.1 % 4 = 0) && decide (d.2.1 % 4 = 0) && decide (d.1 + d.2.1 ≤ 0x10000))
      && drecHeads e (u32 e 12) (u16 e 6))

def ckWeir (x : Struc) : Bool :=
  (x.sec tWEIR).length == (x.sec tRAIL).length && (x.sec tWEIR).all (fun p =>
    let e := p.2
    match x.ent tRAIL p.1 with
    | none => false
    | some r => decide (u8 e 1 < 4) && decide (1 ≤ u8 e 6) && decide (1 ≤ u8 e 7) && decide (1 ≤ u32 e 12) && decide (u32 e 12 ≤ 131072) && allZero e 24 8
        && decide (u16 e 4 < u16 r 8) && decide (u16 r 10 < u16 e 2))

/-- Remove, again and again, the steps whose dependencies are all removed; a cycle leaves some. -/
def seqStrip : Nat → List (Nat × Bytes) → List (Nat × Bytes)
  | 0, l => l
  | k + 1, l => seqStrip k (l.filter (fun e => (seqDeps e.2).any (fun d => l.any (fun q => q.1 == d))))

/-- A GPIO named by a step is configured for it (R541). -/
def gpioFor (x : Struc) (g mode step : Nat) : Bool :=
  match x.ent tPORT (portKey 0x0C g) with
  | some e => u8 e 3 == mode && u8 e 7 == step
  | none => false

def ckSeq (x : Struc) : Bool :=
  let l := x.sec tSEQ
  l.all (fun p =>
    let e := p.2
    let rail := u8 e 1 == 0
    decide (p.1 < 128) && decide (u8 e 1 ≤ 1) && decide (u8 e 2 < (if rail then 64 else 128))
      && (if rail then u8 e 3 == 0xFF && decide (1 ≤ u16 e 10) && decide (u16 e 10 ≤ 16383)
          else u16 e 10 == 0 && gpioFor x (u8 e 2) 3 p.1 && (u8 e 3 == 0xFF || (decide (u8 e 3 < 128) && gpioFor x (u8 e 3) 4 p.1)))
      && decide (u8 e 13 % 128 ≤ 2) && decide (1 ≤ u16 e 14) && (seqDeps e).all (fun d => (x.ent tSEQ d).isSome))
    && (seqStrip 128 l).isEmpty && noDup ((l.filter (fun e => u8 e.2 1 = 1)).map (fun e => u8 e.2 2))

def ckEvt (x : Struc) : Bool :=
  (x.sec tEVT).all (fun p =>
    let e := p.2
    decide (p.1 < 2048) && (u8 e 2 == 0xFF || (decide (u8 e 2 < 32) && x.serves (u8 e 2 / 8))) && decide (u8 e 3 ≤ 15) && decide (u8 e 4 < 4) && allZero e 5 3)

def sumOf (l : List Nat) : Nat := l.foldl (· + ·) 0
def ckBsn (x : Struc) : Bool :=
  let l := x.sec tBSN
  let p0 := x.d tBSN 0
  let pls := ((List.range 64).filter (fun n => x.plGen n ≠ 0)).length
  l.all (fun p => decide (p.1 < 64) && decide (u8 p.2 1 ≤ 1) && u8 p.2 3 == 0 && decide (u32 p.2 4 ≤ u32 p.2 8) && decide (u32 p.2 8 ≤ 131072) && allZero p.2 12 4 && (p.1 == 0 || u8 p.2 1 == 0))
    && decide (sumOf (l.map (fun p => u32 p.2 4)) ≤ 131072)
    && (x.ent tBSN 0).isSome && u8 p0 1 == 1 && u8 p0 2 == 0 && u32 p0 8 == u32 p0 4 && decide (8 * pls ≤ u32 p0 4)
    && (u32 (x.d tLDG 65536) 8 == 0 || ((x.ent tBSN 1).isSome && decide (512 ≤ u32 (x.d tBSN 1) 4)))
    && (x.sec tPORT).all (fun p => !queueKind (u8 p.2 0) || x.pool (u8 p.2 4))

def ckDma (x : Struc) : Bool :=
  let e := x.d tDMA 0
  let l := (List.range (u8 e 32)).map (fun i => u16 e (40 + 2 * i))
  (x.sec tDMA).length == 1 && decide (u8 e 32 ≤ 64) && allZero e 33 7 && (List.range 4).all (fun k => decide (u64 e (8 * k) % 4096 = 0) && x.inDram (u64 e (8 * k)) 0x20000)
    && l.all (fun c => decide (c < 4096)) && noDup l && (List.range 4).all (fun k => decide ((l.filter (fun c => c / 1024 = k)).length ≤ 48))

/-- ADDR of a partner descriptor (R290): a 7-bit target address, a 7-bit dynamic address, or a place in the RP0 windows of R44. -/
def addrOk (e : Bytes) : Bool :=
  let a := u32 e 4
  match u8 e 2 with
  | 1 => decide (0x30000000 ≤ a) && decide (a < 0x40000000)
  | 3 => decide (a < 128)
  | 4 => decide (a < 128)
  | _ => true

def ckLdg (x : Struc) : Bool :=
  let m := x.d tLDG 65536
  let ps := (x.sec tLDG).filter (fun e => e.1 < 65536)
  let tb := u64 m 0
  let sz := u32 m 8 * 64
  (x.ent tLDG 65536).isSome && decide (tb % 4096 = 0) && decide (u32 m 8 ≤ 1048576) && x.inDram tb sz
    && decide (u64 m 16 % 4096 = 0) && pow2 (u32 m 24) && decide (256 ≤ u32 m 24) && x.inDram (u64 m 16) (16 * u32 m 24) && disjoint (u64 m 16) (16 * u32 m 24) tb sz
    && decide (u16 m 28 ≤ 4096) && decide (u8 m 31 ≤ 1)
    && (List.range (u8 m 30)).all (fun i => decide (s32 m (32 + 8 * i) ≤ s32 m (36 + 8 * i)))
    && ps.all (fun p =>
      let e := p.2
      decide (p.1 < 4096) && decide (1 ≤ u16 e 8) && decide (1 ≤ u8 e 10) && decide (u8 e 10 ≤ (if u8 e 2 = 3 then 1 else 64)) && decide (u8 e 11 ≤ 1) && decide (1 ≤ u8 e 13)
        && (u8 e 2 == 5 || u16 e 14 == 0) && addrOk e
        && (match partPort e with | some (k, i) => x.portOn k i | none => false))

/-- PARTNERS of a main LDG entry is the number of the descriptors that follow it in its own section (R301): an amendment counts those that it brings itself (log entry 194). -/
def ckPartners (own : Struc) : Bool :=
  match own.ent tLDG 65536 with
  | some m => decide (u16 m 28 = ((own.sec tLDG).filter (fun e => e.1 < 65536)).length)
  | none => true

def ckStl (x : Struc) : Bool :=
  let l := (x.sec tSTL).map (·.2)
  (x.sec tSTL).all (fun p =>
    let e := p.2
    decide (p.1 < 256) && decide (u8 e 1 ≤ 8) && decide (u8 e 2 ≤ 16) && decide (u8 e 3 ≤ 32) && decide (u8 e 4 ≤ 32) && allZero e 6 2 && decide (u32 e 8 ≤ 131072) && allZero e 12 4
      && (u8 e 5 == 0xFF || (decide (2 ≤ u8 e 5) && decide (u8 e 5 < 64) && x.pool (u8 e 5))))
    && decide (sumOf (l.map (fun e => u8 e 1)) ≤ 128) && decide (sumOf (l.map (fun e => u8 e 4)) ≤ 4096) && decide (sumOf (l.map (fun e => u8 e 3)) ≤ 2048)

def ckCmp (x : Struc) : Bool :=
  let e := x.d tCMP 0
  let lanes := u8 e 1
  (x.sec tCMP).length == 1 && decide (u8 e 0 ≤ 2) && !(u8 e 0 == 2 && u8 (x.d tPKG 0) 1 == 0) && (lanes == 2 || lanes == 4 || (lanes == 0 && u8 e 0 == 0)) && decide (1 ≤ u16 e 2) && decide (1 ≤ u8 e 4) && decide (u8 e 5 < 8) && allZero e 6 10
    && (u8 e 0 == 0 || decide ((64 + 24 * (x.sec tRAIL).length) * 8 + 80 * 25 * lanes ≤ x.tTick * 25 * lanes))

/-- R65 and its companions on a whole structure `x`, of which the image or amendment brings `own`: the type of the first section that breaks one. -/
def structBad (x own : Struc) (hasCode : Nat → Bool) : Option Nat :=
  (([(tPKG, ckPkg x), (tMEM, ckMem x), (tCLASS, ckClass x), (tPORT, ckPort x), (tREG, ckReg x), (tBSN, ckBsn x), (tDMA, ckDma x), (tSTL, ckStl x),
     (tEVT, ckEvt x), (tLDG, ckLdg x && ckPartners own), (tSTAGE, ckStage x), (tLOOP, ckLoop x), (tRAIL, ckRail x hasCode), (tWEIR, ckWeir x), (tSEQ, ckSeq x), (tCMP, ckCmp x)]
    : List (Nat × Bool)).find? (fun p => !p.2)).map (·.1)

end Sys2Proof.Machine
end

