-- ==== Sys2Proof/Machine/Image.lean ====
section
/-!
DEFINITION. Amendments of the fabric image (R72 to R94, R323): submission, verification, staging, the commit point, the tick edge at which one takes effect, and a region's leaving.
-/
namespace Sys2Proof.Machine

def loaderReq : Req := { agent := .loader, lvl := .m, sid := 0, cls := 0 }

/-! ### Loading code, data and regions -/

/-- The code of a LOOP entry into a bank of LE j, filled up with 0xFFFFFFFF; its length and initial MODE (R238). -/
def State.loadCode (s : State) (j bank : Nat) (e : Bytes) : State :=
  let n := u16 e 4
  let code := slice e (u32 e 8) (4 * n)
  let s := s.mput (leBase j + 0x2000 * bank) (code ++ List.replicate (0x2000 - code.length) 0xFF)
  let x := s.leAt j
  s.setLe j { x with codeLen := tset x.codeLen bank n, initMode := tset x.initMode bank (u8 e 2) }

/-- The data records of a LOOP entry into the data memory of LE j (R76, R77). -/
def State.loadData (s : State) (j : Nat) (e : Bytes) : State :=
  forEach (drecs e (u32 e 12) (u16 e 6)) (fun s d => s.mput (leBase j + d.1) d.2.2) s

/-- The write window that a LOOP entry gives (R203, R238). -/
def State.loadWindow (s : State) (j : Nat) (e : Bytes) : State :=
  s.wr .LC_LE_SHWIN (leIdx j) (BitVec.ofNat 32 (F.LC_LE_SHWIN.LEN.put (F.LC_LE_SHWIN.BASE.put 0 (u8 e 16)) (u8 e 17)).toNat)

/-- The PWR registers of region r as its REG entry gives them (R526). -/
def State.regRegs (s : State) (r : Nat) (e : Bytes) : State :=
  let s := ((s.pf .PWR_REG_CTL r F.PWR_REG_CTL.VTGT (u16 e 4)).pf .PWR_REG_CTL r F.PWR_REG_CTL.F0 (u8 e 2)).pf .PWR_REG_CTL r F.PWR_REG_CTL.F1 (u8 e 3)
  let freq (s : State) (k f : Nat) : State := (s.pf .PWR_CC_FREQ k F.PWR_CC_FREQ.CUR f).pf .PWR_CC_FREQ k F.PWR_CC_FREQ.TGT f
  freq (freq s (2 * r) (u8 e 2)) (2 * r + 1) (u8 e 3)

/-- Power region r on with the voltage and frequencies of its REG entry; its cores are held in reset (R28). -/
def State.regionOn (s : State) (r : Nat) (e : Bytes) : State :=
  let s := (s.pf .PWR_REG_STAT r F.PWR_REG_STAT.STATE 1).pf .PWR_REG_STAT r F.PWR_REG_STAT.VCUR (u16 e 4)
  let s := s.regRegs r e
  forEach ((List.range 8).map (fun i => 8 * r + i)) State.coreOff s

/-- Addresses of region r's loop memories. -/
def regionMem (r a : Nat) : Bool :=
  (decide (leBase (8 * r) ≤ a) && decide (a < leBase (8 * r + 8))) || (decide (leBase (32 + r) ≤ a) && decide (a < leBase (33 + r)))
    || (decide (lcBase r ≤ a) && decide (a < lcBase (r + 1)))

/-- Power region r off: the state of its units is lost (R12, R89). -/
def State.regionOff (s : State) (r : Nat) : State :=
  let s := (s.pf .PWR_REG_STAT r F.PWR_REG_STAT.STATE 0).pf .PWR_REG_STAT r F.PWR_REG_STAT.VCUR 0
  let s := forEach ((List.range 8).map (fun i => 8 * r + i)) State.coreOff s
  let s := forEach ((List.range 8).map (fun i => 8 * r + i) ++ [32 + r]) (fun s j => s.setLe j { LoopEngine.init with st := .out }) s
  let s := (((s.setLc r LoopCluster.init).lcClear r).unitReset1 3 r).unitReset1 4 r
  { s with mem := s.mem.filter (fun e => !regionMem r e.1), l2 := tdel (tdel s.l2 (2 * r)) (2 * r + 1) }

/-! ### Results (R92, R93) -/

/-- Set a result code other than BUSYWAIT, and raise source 1232. DESIGN CHOICE: the 8-bit SECTION shows the low bits of a TYPE above 0xFF (log entry 205). -/
def State.amdResult (s : State) (code sect detail : Nat) : State :=
  (s.wr .IMG_AMD_RESULT 0 (BitVec.ofNat 32 (detail * 4096 + sect % 256 * 16 + code))).raise 1232

/-- The held amendment is decided: nothing is held any more. -/
def State.amdEnd (s : State) (code sect detail : Nat) : State :=
  let s := { s with img := { s.img with held := none } }
  (s.pf .IMG_STATUS 0 F.IMG_STATUS.AMD_STATE 0).amdResult code sect detail

/-- A refusal; a region that was powered for the amendment is powered off again (DEDUCED, log entry 27). -/
def State.amdRefuse (s : State) (code sect detail : Nat) : State :=
  let on (r : Nat) : Bool := !s.inService r && !bit s.img.draining r && s.gf .PWR_REG_STAT r F.PWR_REG_STAT.STATE == 1
  let s := forEach ((List.range 4).filter on) State.regionOff s
  s.amdEnd code sect detail

/-! ### IMG_AMD_CTL (R72, R73, R75, R79) -/

/-- SUBMIT: copy the amendment into the staging area and hold it. -/
def State.imgSubmit (s : State) : State :=
  let s := s.pkgAbortBy
  if s.img.held.isSome then s.amdResult 9 0 0
  else
    let len := s.gf .IMG_AMD_LEN 0 F.IMG_AMD_LEN.LEN
    let a := (s.rd .IMG_AMD_ADDR_LO 0).toNat / 8 * 8 + 2 ^ 32 * s.gf .IMG_AMD_ADDR_HI 0 F.IMG_AMD_ADDR_HI.ADDR
    if len > 0x400000 then s.amdResult 2 0 0
    else
      match s.memRd edReq a len with
      | none => s.amdResult 2 0 0
      | some b =>
        let s := (s.mput s.staging b).snoop loaderReq s.staging len
        let held : Amend :=
          { len := len, cls := s.gf .IMG_AMD_CTL 0 F.IMG_AMD_CTL.CLASS, verifyOnly := s.gb .IMG_AMD_CTL 0 F.IMG_AMD_CTL.VERIFY_ONLY,
            n := none, verified := false, ins := [], staged := false, committed := false }
        let s := { s with img := { s.img with held := some held } }
        (s.pf .IMG_STATUS 0 F.IMG_STATUS.AMD_STATE 1).wr .IMG_AMD_RESULT 0 13

/-- CANCEL: ABORTED before the commit point, nothing from it on. -/
def State.imgCancel (s : State) : State :=
  match s.img.held with
  | some a => if a.committed then s else s.amdRefuse 12 0 0
  | none => s

/-- A write of IMG_AMD_CTL; CANCEL comes first when both bits are 1 (log entry 20). -/
def State.imgCtl (s : State) (v : W32) : State :=
  let s := s.plainWrite .IMG_AMD_CTL 0 v
  let s := if bit v.toNat 1 then s.imgCancel else s
  if bit v.toNat 0 then s.imgSubmit else s

/-! ### Verification and staging (R74, R76, R80, R90) -/

/-- The held amendment's bytes, and the structure that it spells. -/
def State.amdBytes (s : State) (a : Amend) : Bytes := s.mread s.staging a.len
def amdStruc (b : Bytes) : Struc := match parseStruc b with
  | .ok x => x
  | .error _ => []

/-- R80: the class has the right to amend these section types. DESIGN CHOICE: a submission names a class and no port, so no MASK of R530 narrows it (log entry 166). -/
def rightsOk (cls : Nat) (types : List Nat) : Bool := cls ≤ 1 || (cls == 2 && types.all [tEVT, tBSN, tLDG, tSTL].contains)

/-- R65, Code: the LE holds code in its active bank, or a LOOP entry of the amendment brings it. -/
def State.codeFor (s : State) (amd : Struc) (j : Nat) : Bool :=
  tget 0 (s.leAt j).codeLen (s.leAt j).bank != 0 || (amd.ent tLOOP j).isSome

/-- R65 on the structure in force together with the amendment: the type of the section that breaks it. -/
def State.amdBad (s : State) (amd : Struc) : Option Nat := structBad (mergeStruc s.img.sec amd) amd (s.codeFor amd)

/-- APPLY_AT. -/
def applyAt (b : Bytes) : Nat := u64 b 24

/-- The commit point of a non-zero APPLY_AT has passed. -/
def State.isLate (s : State) (n : Nat) : Bool := n != 0 && (decide (n ≤ s.img.cpAt + 1) || decide (n ≤ s.tick.count))

/-- Verification: code and section of the first check that fails, or (0, 0). Signatures, format, sequence, rights, structure, in the order of R74 (order between failures: log entry 22). -/
def State.amdVerify (s : State) (a : Amend) : Nat × Nat :=
  let b := s.amdBytes a
  if !sigBlockOk b (sigOff b) then (2, 0)
  else if !s.sigPass b (sigOff b) then (1, 0)
  else if a.verifyOnly && u16 b 6 == 0 then
    if !(sectionsOk b && holdsAll b) then (2, 0)
    else if u32 b 8 < s.keep.ctr 2 then (3, 0)
    else match parseStruc b with
      | .error t => (5, t)
      | .ok x => match structBad x x (fun j => (x.ent tLOOP j).isSome) with
        | some t => (5, t)
        | none => (0, 0)
  else if !formatOk b true then (2, 0)
  else match badType b with
    | some t => (4, t)
    | none =>
      if u32 b 16 ≠ s.gf .IMG_ID 0 F.IMG_ID.VERSION ∨ u32 b 20 ≤ s.gf .IMG_AMD_SEQ 0 F.IMG_AMD_SEQ.SEQ then (3, 0)
      else if !rightsOk a.cls ((secRows b).map (·.type)) then (10, 0)
      else match parseStruc b with
        | .error t => (5, t)
        | .ok amd => match s.amdBad amd with
          | some t => (5, t)
          | none => if s.isLate (applyAt b) then (8, 0) else (0, 0)

/-- Regions that a structure serves and that are not in service, and the other way round. -/
def State.regionsIn (s : State) (x : Struc) : List Nat := (List.range 4).filter (fun r => x.serves r && !s.inService r)
def State.regionsOut (s : State) (x : Struc) : List Nat := (List.range 4).filter (fun r => !x.serves r && s.inService r)

/-- The bank that is not active. -/
def State.otherBank (s : State) (j : Nat) : Nat := 1 - (s.leAt j).bank

/-- Staging: code into the inactive banks, data records, and the regions brought in (R76). -/
def State.amdStage (s : State) (amd : Struc) : State :=
  let x := mergeStruc s.img.sec amd
  let s := forEach (s.regionsIn x) (fun s r => s.regionOn r (x.d tREG r)) s
  forEach (amd.sec tLOOP) (fun s e => (s.loadCode e.1 (s.otherBank e.1) e.2).loadData e.1 e.2) s

/-- AMENDMENT_VERIFY_DONE: `ack` and `settled` say whether the regulator of every region brought in acknowledges over AVSBus, and settles in time (R90). -/
def execAmendmentVerifyDone (ack settled : Bool) (s : State) : Out :=
  .next (match s.img.held with
    | none => s
    | some a =>
      if a.verified then s
      else
        let (code, sect) := s.amdVerify a
        if code ≠ 0 then s.amdRefuse code sect 0
        else if a.verifyOnly then s.amdEnd 0 0 0
        else
          let amd := amdStruc (s.amdBytes a)
          let ins := s.regionsIn (mergeStruc s.img.sec amd)
          if !(ack && settled) && !ins.isEmpty then s.amdRefuse 11 0 0
          else
            let n := applyAt (s.amdBytes a)
            let s := s.amdStage amd
            { s with img := { s.img with held := some { a with verified := true, ins := ins, n := if n = 0 then none else some n } } })

/-- AMENDMENT_STAGE_DONE (R76): the amendment is staged; LATE when its commit point has passed meanwhile. -/
def execAmendmentStageDone (s : State) : Out :=
  .next (match s.img.held with
    | none => s
    | some a =>
      if !a.verified || a.staged then s
      else if s.isLate (a.n.getD 0) then s.amdRefuse 8 0 0
      else { s.pf .IMG_STATUS 0 F.IMG_STATUS.AMD_STATE 2 with img := { s.img with held := some { a with staged := true } } })

/-! ### The commit point (R78, R83, R86 to R88, R323) -/

/-- Rails whose LEs an amendment changes (R81). -/
def State.movedRails (s : State) (x : Struc) : List Nat :=
  s.rails.filter (fun r => match x.ent tRAIL r with
    | some e => decide (railLes e ≠ railLes (s.railD r))
    | none => false)

/-- No enabled source targets a core of region r once the EVT entries are applied. -/
def State.evtFree (s : State) (amd : Struc) (r : Nat) : Bool :=
  (List.range 2048).all (fun k =>
    let (en, t) := match amd.ent tEVT k with
      | some e => (bit (u8 e 4) 0, u8 e 2)
      | none => (s.evEn k, s.gf .EVD_SRC_CFG k F.EVD_SRC_CFG.TARGET)
    !en || decide (32 ≤ t) || decide (t / 8 ≠ r))

/-- R87: the DETAIL bits of the conditions that fail. -/
def State.amdBusy (s : State) (amd x : Struc) : Nat :=
  let out := s.regionsOut x
  let b (v : Bool) (k : Nat) : Nat := if v then 2 ^ k else 0
  let stl (p : Nat × Bytes) : Bool :=
    let i := p.1
    let e := p.2
    decide (u8 e 1 < (s.mbxSlots i).length) || decide (u8 e 2 < (s.viewSlots i).length) || decide (u8 e 3 < (s.srcSlots i).length)
      || decide (u8 e 4 < (s.ownedCh i).length) || decide (u32 e 8 < s.tagged i)
  b (out.any (fun r => (List.range 8).any (fun i => (s.cor (8 * r + i)).st != .c3))) 0
    + b (out.any (fun r => (x.sec tRAIL).any (fun e => (railLes e.2).any (fun j => lcOf j == r)))) 1
    + b (out.any (fun r => s.dma.ch.any (fun e => engOf e.1 == r && !(e.2.st == .idle || e.2.st == .error || e.2.st == .paused)))) 2
    + b (out.any (fun r => !s.evtFree amd r)) 3
    + b ((amd.sec tBSN).any (fun p => decide (u32 p.2 4 < s.heldBy p.1) || decide (u32 p.2 8 < s.heldBy p.1))) 4
    + b ((amd.sec tSTL).any stl) 5
    + b ((s.movedRails x).any (fun r => (s.rl r).st == .ramp || (s.rl r).st == .down)) 6

/-- R83: a new LE of a moved rail cannot take it. -/
def State.amdConflict (s : State) (x : Struc) : Bool :=
  (s.movedRails x).any (fun r =>
    let old := railLes (s.railD r)
    (railLes (x.d tRAIL r)).any (fun j =>
      !old.contains j && ((s.leAt j).cause.isSome || (s.leAt j).overrun || s.leFenced j || s.isOut 1 j || decide (32 ≤ j)
        || (match (s.lcAt (lcOf j)).spareFor with
          | some k => !old.contains k
          | none => false))))

/-- R323: the role change is allowed. -/
def State.roleOk (s : State) (amd : Struc) : Bool :=
  match amd.ent tCMP 0 with
  | none => true
  | some e =>
    match s.cmp.role, u8 e 0 with
    | 0, 1 => true
    | 1, 0 => decide (16 ≤ s.cmp.hbLost)
    | 2, 1 => s.cmp.act == .driving || decide (16 ≤ s.cmp.hbLost)
    | 1, 2 => s.cmp.act == .shadow && s.gb .TICK_STATUS 0 F.TICK_STATUS.ALIGNED && s.follow
    | a, b => a == b

/-- The checks at t, in their order, on the amendment amd with the merged structure x (R78): refused, or committed, and the regions that leave are held from here on (R88). -/
def State.amdJudge (s : State) (a : Amend) (amd x : Struc) : State :=
  if s.amdBusy amd x ≠ 0 then s.amdRefuse 6 0 (s.amdBusy amd x)
  else match s.amdBad amd with
  | some t => s.amdRefuse 5 t 0
  | none =>
    if !s.roleOk amd then s.amdRefuse 5 tCMP 0
    else if s.amdConflict x then s.amdRefuse 7 0 0
    else
      let s := s.pf .IMG_STATUS 0 F.IMG_STATUS.AMD_STATE 3
      let hold := (s.regionsOut x).foldl (fun m r => m + 2 ^ r) 0
      { s with img := { s.img with hold := hold, held := some { a with committed := true, n := some (s.tick.count + 1) } } }.withdraw

/-- The commit point of the held amendment, when tick N − 1 is this one. -/
def State.amdCommit (s : State) : State :=
  match s.img.held with
  | none => s
  | some a =>
    if !a.staged || a.committed || (match a.n with | some n => n != s.tick.count + 1 | none => false) then s
    else
      let amd := amdStruc (s.amdBytes a)
      s.amdJudge a amd (mergeStruc s.img.sec amd)

/-- COMMIT_POINT (R78, R235): t = T_tick − 100 ns. The RELEASE requests are decided here too. -/
def execCommitPoint (s : State) : Out :=
  .next (
    let s := { s with img := { s.img with cpAt := s.tick.count } }
    let s := s.amdCommit
    let amending := match s.img.held with
      | some a => a.committed
      | none => false
    forEach (List.range 4) (fun s c => s.releaseCheck c amending) s)

/-! ### The edge of tick N (R79, R81 to R85, R89 to R91) -/

/-- The spare that serves LE k is free (R82). -/
def State.spareFree1 (s : State) (k : Nat) : State :=
  let c := lcOf k
  if (s.lcAt c).spareFor = some k then
    let s := s.setLc c { s.lcAt c with spareFor := none, releaseOk := false }
    let s := s.setLe (32 + c) { s.leAt (32 + c) with st := .idle, nq := [], lbuf := none, set := none }
    (s.pf .LC_STATUS c F.LC_STATUS.SPARE_BUSY 0).lcEvt c 2
  else s

/-- Switch LE j to its other bank, and its spare with it. -/
def State.switchBank (s : State) (j : Nat) (e : Bytes) : State :=
  let bank := s.otherBank j
  let s := (s.useBank j bank).loadWindow j e
  let v := s.server j
  if v = j then s else (s.setLe v { s.leAt v with bank := bank }).copyCode v j bank

/-- The notices that the old LEs of rail r have not consumed (R84). -/
def State.oldNotices (s : State) (r : Nat) : List (List Notice) := (s.serversOf r).map (fun j => (s.leAt j).nq)

/-- A moved rail at its new LEs: the record, its age, and the notices; `old` are the LEs that served it. DESIGN CHOICE: an added gang position receives the notices of the old position 0 (log entry 164), and an LE that faulted after the commit point is started for the rail with its cause cleared (log entry 165). -/
def State.moveRail (s : State) (r : Nat) (old : List Nat) (nq : List (List Notice)) : State :=
  let les := railLes (s.railD r)
  forEach ((List.range les.length).map (fun i => (i, les.getD i 0))) (fun s p =>
    let q := nq.getD p.1 (nq.getD 0 [])
    let x := s.leAt p.2
    (s.setLe p.2 { x with nq := q, st := .ended, cause := none, overrun := false, set := if old.contains p.2 then x.set else none }).deliverRec p.2 r) s

/-- The role that a CMP entry gives (R323). -/
def State.newRole (s : State) (role : Nat) : State :=
  let s := { s with cmp := { s.cmp with role := role } }
  if role = 1 then
    let act : Act := if s.cmp.act = .joining ∨ s.cmp.act = .blocked then .detached else s.cmp.act
    let s := { s with cmp := { s.cmp with act := act, joinAt := none } }
    s.offTickIn.pb .TICK_STATUS 0 F.TICK_STATUS.HOLDOVER false
  else if role = 0 then
    -- a SINGLE package is always DRIVING (R40, R303)
    let s := if s.cmp.act = .driving then s else s.enterDriving
    { s with pins := { s.pins with ownOut := false } }
  else if role = 2 ∧ s.tick.tickIn then s.pb .TICK_STATUS 0 F.TICK_STATUS.ON_TICKIN true
  else s

/-- A region leaves service at the edge (R89, R437). -/
def State.regionLeaves (s : State) (r : Nat) : State :=
  let s := s.pf .IMG_STATUS 0 F.IMG_STATUS.IN_SERVICE (setBit (s.gf .IMG_STATUS 0 F.IMG_STATUS.IN_SERVICE) r false)
  let s := s.pf .IMG_STATUS 0 F.IMG_STATUS.DRAIN (setBit (s.gf .IMG_STATUS 0 F.IMG_STATUS.DRAIN) r true)
  let s := { s with img := { s.img with draining := setBit s.img.draining r true } }
  if s.fallback / 8 = r then
    match (List.range 4).find? s.inService with
    | some q => s.pf .EVD_FALLBACK 0 F.EVD_FALLBACK.CORE (8 * q)
    | none => s
  else s

/-- A region enters service at the edge: its loop cluster is idle (R28). -/
def State.regionEnters (s : State) (r : Nat) : State :=
  let s := s.pf .IMG_STATUS 0 F.IMG_STATUS.IN_SERVICE (setBit (s.gf .IMG_STATUS 0 F.IMG_STATUS.IN_SERVICE) r true)
  forEach ((List.range 8).map (fun i => 8 * r + i) ++ [32 + r]) (fun s j => s.setLe j { s.leAt j with st := .idle }) s

/-- One EVT entry (R91): target, priority, moderation and enable; PEND is kept. -/
def State.evtApply (s : State) (k : Nat) (e : Bytes) : State :=
  let s := s.evdSrcCfg k (BitVec.ofNat 32 (evtCfg e))
  if bit (u8 e 4) 0 then s.evdEnSet (k / 32) (BitVec.ofNat 32 (2 ^ (k % 32))) else s.evdEnClr (k / 32) (BitVec.ofNat 32 (2 ^ (k % 32)))

/-- A SHA-384 digest into twelve registers. -/
def State.putHash (s : State) (r : Reg) (d : BitVec 384) : State :=
  forEach (List.range 12) (fun s i => s.wr r i (BitVec.ofNat 32 (u32 (dig384 d) (4 * i)))) s

/-- A rail that is removed leaves nothing behind in the per-rail registers that hold a value (R276). -/
def State.railGone (s : State) (r : Nat) : State :=
  let s := ((s.wr .RAIL_SETPT r 0).wr .RAIL_EVT r 0).wr .RAIL_EVT_EN r 0
  let s := ((s.wr .RAIL_WSHED_LO r 0).wr .RAIL_WSHED_HI r 0).wr .RAIL_WCNT0 r 0
  (s.wr .RAIL_WCNT1 r 0).setRl r Rail.init

/-- Every section of the committed amendment takes effect (R79). -/
def State.amdApply (s : State) : State :=
  match s.img.held with
  | none => s
  | some a =>
    if !a.committed || a.n != some s.tick.count then s
    else
      let b := s.amdBytes a
      let amd := amdStruc b
      let x := mergeStruc s.img.sec amd
      let moved := s.movedRails x
      let notices := moved.map (fun r => (r, railLes (s.railD r), s.oldNotices r))
      let olds := moved.flatMap (fun r => railLes (s.railD r))
      let gone := s.rails.filter (fun r => (x.ent tRAIL r).isNone)
      let new := ((x.sec tRAIL).map (·.1)).filter (fun r => (s.railE r).isNone)
      let outs := s.regionsOut x
      let ins := s.regionsIn x
      -- the ledger writes back under the old table
      let s := if (amd.sec tLDG).isEmpty then s else forEach s.serCached State.serDrop s
      let ring (y : Struc) : Nat × Nat := (u64 (y.d tLDG 65536) 16, u32 (y.d tLDG 65536) 24)
      let s := if u64 s.ldgD 0 = u64 (x.d tLDG 65536) 0 then s else s.dropLate
      let s := if ring s.img.sec = ring x then s else (s.wr .LDG_RING_HEAD 0 0).wr .LDG_RING_TAIL 0 0
      -- old servers and spares
      let s := forEach (olds ++ gone.flatMap (fun r => railLes (s.railD r))) State.spareFree1 s
      let s := forEach olds (fun s j => s.setLe j { s.leAt j with nq := [] }) s
      let s := { s with img := { s.img with sec := x, hold := 0 } }
      let s := forEach ins State.regionEnters s
      let s := forEach gone State.railGone s
      let s := forEach new (fun s r => (s.setRl r Rail.init).pf .RAIL_SETPT r F.RAIL_SETPT.TARGET (u16 (s.railD r) 12)) s
      -- an LE that begins to serve a rail has no sample set of it yet (R208)
      let s := forEach (new.flatMap (fun r => railLes (s.railD r))) (fun s j => s.setLe j { s.leAt j with set := none }) s
      let s := forEach (amd.sec tLOOP) (fun s e => s.switchBank e.1 e.2) s
      let s := forEach notices (fun s p => s.moveRail p.1 p.2.1 p.2.2) s
      let s := forEach (amd.sec tEVT) (fun s e => s.evtApply e.1 e.2) s
      let s := match amd.ent tCMP 0 with
        | some e => if u8 e 0 = s.cmp.role then s else s.newRole (u8 e 0)
        | none => s
      let s := (forEach outs State.regionLeaves s).withdraw
      let h := Config.sha384 (b.take (sigOff b))
      let s := (s.wr .IMG_AMD_SEQ 0 (BitVec.ofNat 32 (u32 b 20))).wr .IMG_AMD_APPLIED_LO 0 (BitVec.ofNat 32 s.tick.count)
      let s := (s.wr .IMG_AMD_APPLIED_HI 0 (BitVec.ofNat 32 (s.tick.count / 2 ^ 32))).putHash .IMG_AMD_HASH h
      (s.mrExtend 4 (dig384 h)).amdEnd 0 0 0

/-- REGION_DRAIN_DONE (R89): the transactions have drained, and the region is powered off. DESIGN CHOICE: a region that a later amendment has brought back into service meanwhile only ceases to drain (log entry 201). -/
def execRegionDrainDone (r : Fin 4) (s : State) : Out :=
  .next (if bit s.img.draining r then
    let s := s.pf .IMG_STATUS 0 F.IMG_STATUS.DRAIN (setBit (s.gf .IMG_STATUS 0 F.IMG_STATUS.DRAIN) r false)
    let s := { s with img := { s.img with draining := setBit s.img.draining r false } }
    if s.inService r then s else s.regionOff r
  else s)

end Sys2Proof.Machine
end

