-- ==== Sys2Proof/Machine/RegAccess.lean ====
section
/-!
DEFINITION. Reads of the control space: who is answered (R7, R12, R27, R30, R53, R446, R457, R499, R508, R561), the level checks, the values of registers that the part computes, and what a read changes.
-/
namespace Sys2Proof.Machine

def ctlBase : Nat := 0x200000000000

/-- R566, R567: the debug access path is open. -/
def State.dbgOpen (s : State) : Bool := decide (s.keep.lcInForce ≠ 7) || s.trc.unlocked

/-- The level whose rights a requester has; the debug access path has those of M (R561). -/
def reqRights (q : Req) : Nat :=
  match q.agent with
  | .debug => 3
  | _ => q.lvl.num

def isDebug (q : Req) : Bool := decide (q.agent = .debug)
def isPort (q : Req) : Bool :=
  match q.agent with
  | .port _ => true
  | _ => false

/-- A unit answers: neither out nor fenced; debug still reads a fenced unit (R12). -/
def State.unitAns (s : State) (kind idx : Nat) (dbgRead : Bool) : Bool := !s.isOut kind idx && (!s.fenced kind idx || dbgRead)

/-- A core asks about its own target, and the slice answers. -/
def State.evdOwn (s : State) (q : Req) : Bool :=
  match coreNo q with
  | some n => s.unitAns 4 (n / 8) false
  | none => false

/-- The mailbox register at offset `k` answers the requester (R446, R457). -/
def State.mbxAns (s : State) (q : Req) (m k : Nat) (write : Bool) : Bool :=
  let o := originOf q
  s.unitAns 9 m (isDebug q && !write) &&
    (if write then (if k = 0x20 then s.owns m false o else if k = 0x40 then s.owns m true o else true)
     else if k = 0x28 ∨ k = 0x2C then s.owns m true o
     else if k = 0x48 ∨ k = 0x4C then s.owns m false o
     else true)

/-- The unit that the offset `o` of the control space belongs to answers. The page of a stall is not asked here. -/
def State.blockAns (s : State) (q : Req) (o : Nat) (write : Bool) : Bool :=
  let d := isDebug q && !write
  if 0x100000 ≤ o ∧ o < 0x500000 then s.unitAns 6 ((o - 0x100000) / 0x10000) d
  else if 0x500000 ≤ o ∧ o < 0x600000 then (let c := (o - 0x500000) / 0x40000; s.lcOpen c d && s.unitAns 2 c d)
  else if 0x600800 ≤ o ∧ o < 0x600900 then s.unitAns 7 ((o - 0x600800) / 0x20) d
  else if 0x700100 ≤ o ∧ o < 0x700200 then s.unitAns 8 ((o - 0x700100) / 4) d
  else if 0x700200 ≤ o ∧ o < 0x700240 then s.unitAns 8 (64 + (o - 0x700200) / 4) d
  else if 0xA00000 ≤ o ∧ o < 0xA00010 then s.evdOwn q
  else if 0xA04000 ≤ o ∧ o < 0xA04200 then (let r := (o - 0xA04000) / 0x80; s.inService r && s.unitAns 4 r d)
  else if 0xB00000 ≤ o ∧ o < 0xB08000 then s.mbxAns q ((o - 0xB00000) / 256) (o % 256) write
  else if 0xC00000 ≤ o ∧ o < 0xD00000 then (let e := (o - 0xC00000) / 0x40000; s.inService e && s.unitAns 3 e d)
  else if 0x1000000 ≤ o ∧ o < 0x1340000 then s.unitAns 10 ((o - 0x1000000) / 0x10000) d
  else if 0x3000000 ≤ o ∧ o < 0x3400000 then s.unitAns 5 ((o - 0x3000000) / 0x100000) d
  else true

/-- The requester reaches control space at all: cores, the debug access path while it is open and the part is not held in reset (R95, R573), and a port the mailbox offsets that R532 gives it. -/
def State.agentAns (s : State) (q : Req) (a : Nat) : Bool :=
  match q.agent with
  | .core _ => true
  | .debug => !s.pins.porst && (s.dbgOpen || decide (a = Reg.TRC_DBG_STATUS.desc.addr))
  | .port _ => decide (0x200000B00000 ≤ a) && decide (a < 0x200000B08000) && decide (8 ≤ a % 256) && decide (a % 256 < 0x50)
  | _ => false

/-! ### The page of a stall (R499, R508) -/

/-- The tenant half accepts the requester. -/
def State.tenantOk (s : State) (q : Req) (i : Nat) : Bool :=
  match q.agent with
  | .core _ => if q.lvl.num < 2 then decide (s.stSt i = 1) && decide (q.sid.toNat = s.gf .STL_BIND i F.STL_BIND.SID) else decide (s.stSt i ≠ 0)
  | _ => false
/-- The manager half accepts the requester. -/
def State.managerOk (q : Req) : Bool :=
  match q.agent with
  | .core _ => decide (2 ≤ q.lvl.num)
  | _ => false

/-- The mailbox offset that the slot window's offset `k` reaches: 0x20 to 0x4F, MBX_EVT, MBX_STATUS. -/
def slotOff (k : Nat) : Option Nat := if k < 0x30 then some (0x20 + k) else if k / 4 = 0xC then some (8 + k % 4) else if k / 4 = 0xD then some (0x10 + k % 4) else none

/-- What R508 accepts through a slot: TX writes, RX reads and CODE writes on the mapped side (`side` true for B), reads of the acknowledge registers, MBX_EVT and MBX_STATUS (DEDUCED, log entry 137). -/
def slotSideOk (side : Bool) (k : Nat) (write : Bool) : Bool :=
  if k = 8 ∨ k = 0x10 then true
  else if write then (if k = 0x20 ∨ k = 0x44 then !side else if k = 0x40 ∨ k = 0x24 then side else false)
  else if k = 0x24 ∨ k = 0x44 then true
  else if k = 0x28 ∨ k = 0x2C then side
  else if k = 0x48 ∨ k = 0x4C then !side
  else false

/-- Where an access to control space leads. -/
inductive Gate where
  /-- register instance, and the stall whose slot window leads to it -/
  | reg (r : Reg) (i : Nat) (through : Option Nat)
  /-- an offset without a register -/
  | empty
  /-- a bus error, and the stall that counts it -/
  | bus (denied : Option Nat)
deriving DecidableEq, Repr

/-- The gate of an address whose unit answers. -/
def gateAt (a : Nat) : Gate :=
  match Reg.at a with
  | some (r, i) => .reg r i none
  | none => .empty

/-- A 32-bit access at address `a` of control space; one to a stall's page that neither half accepts counts in DENIED, whoever asks (R499). -/
def State.gate (s : State) (q : Req) (a : Nat) (write : Bool) : Gate :=
  let o := a - ctlBase
  if !s.agentAns q a then .bus (stlPage a)
  else if 0xD00000 ≤ o ∧ o < 0xE00000 then
    let i := (o - 0xD00000) / 0x1000
    let p := o % 0x1000
    if p ≥ 0x800 then (if State.managerOk q then gateAt a else .bus (some i))
    else if !s.tenantOk q i then .bus (some i)
    else if 0x100 ≤ p ∧ p < 0x300 then
      let v := s.rd .STL_MBX_MAP (i * 8 + (p - 0x100) / 0x40)
      let m := F.STL_MBX_MAP.MBX.get v
      match slotOff (p % 0x40) with
      | some k =>
        if bit v.toNat 31 && slotSideOk (bit v.toNat 8) k write && s.mbxOpen m then
          (match gateAt (0x200000B00000 + m * 256 + k) with
            | .reg r j _ => .reg r j (some i)
            | _ => .empty)
        else .bus (some i)
      | none => .bus (some i)
    else gateAt a
  else if s.blockAns q o write then gateAt a
  else .bus none

/-! ### Values that the part computes -/

def w32 (n : Nat) : W32 := BitVec.ofNat 32 n
def lowW (n : Nat) : W32 := w32 (n % 2 ^ 32)
def highW (n : Nat) : W32 := w32 (n / 2 ^ 32)
def bitAt (b : Bool) (k : Nat) : Nat := if b then 2 ^ k else 0

/-- SEQ_STATUS (R276): FSTEP and REFUSED as stored, FAULT and STATE by the steps. -/
def State.seqStatusV (s : State) : W32 :=
  let st : Nat :=
    if s.anyDown then 3
    else if s.steps.all (fun k => s.stepSt k == .off) then 0
    else if s.steps.all s.stepPg then 2
    else 1
  (s.rd .SEQ_STATUS 0 &&& 0xFF10) ||| w32 (bitAt (s.steps.any (fun k => s.stepSt k == .fault)) 3 + st)

/-- The LE of a per-LE register index. -/
def idxLe (i : Nat) : Nat := if i % 9 = 8 then 32 + i / 9 else 8 * (i / 9) + i % 9

def State.leStatusV (s : State) (i : Nat) : W32 :=
  let x := s.leAt (idxLe i)
  (s.rd .LC_LE_STATUS i &&& 0xFFFF0000) ||| w32 (bitAt x.lbuf.isSome 5 + x.bank % 2 * 16 + x.st.code)

/-- LDG_PART_STAT0 and 1 of the partner that LDG_PART_SEL names (R291, R292, R294). -/
def State.partSel (s : State) : Nat := s.gf .LDG_PART_SEL 0 F.LDG_PART_SEL.PARTNER
def State.partStat0 (s : State) : W32 :=
  let p := s.partSel
  let x := s.prtn p
  let out := s.outTo p
  w32 (min 65535 x.cntTimeouts * 65536 + (if out = 0 then 0 else if out ≥ u8 ((s.partE p).getD []) 10 then 2 else 1) * 64 + bitAt x.throttled 1 + bitAt x.absent 0)
def State.partStat1 (s : State) : W32 :=
  let x := s.prtn s.partSel
  w32 (min 65535 x.cntErrors * 65536 + min 65535 x.cntUnsol)

/-- CMP_STATUS (R328). -/
def State.cmpStatusV (s : State) : W32 :=
  let c := s.cmp
  (s.rd .CMP_STATUS 0 &&& 0x1E000) ||| w32 (bitAt (c.act == .shadow && c.ready) 12 + bitAt s.pins.fenceOut 11 + bitAt s.pins.fenceLow 10
    + bitAt (s.pins.ownOut || !s.pins.ownHigh) 9 + bitAt (c.hb.isSome && decide (c.hbLost = 0)) 8 + bitAt c.link 7 + c.role % 4 * 16 + c.act.code)

/-- The bursts of a channel that may be outstanding: at most 32, and no more than its barge has left to read and to write (R478). -/
def outMax (x : Chan) : Nat :=
  match x.barge with
  | some (_, b) => if x.st == .active || x.st == .waiting || x.st == .stopping || x.st == .pausing then min 32 (2 * (bTotal b - x.wrn)) else 0
  | none => 0

/-- DMA_ENG_STATUS. The bursts outstanding are a free value within the limits of R10 and R478, for no command issues a burst (log entry 126). -/
def State.engStatusV (s : State) (e : Nat) : W32 :=
  let run (x : Chan) : Bool := x.ctx && !(x.st == .idle || x.st == .error || x.st == .queued)
  let mine := s.dma.ch.filter (fun p => engOf p.1 = e)
  let pin := mine.filter (fun p => p.2.ctx && s.prioCh p.1 && (p.2.st == .active || p.2.st == .waiting || p.2.st == .pausing || p.2.st == .paused))
  let most := min 2048 ((mine.map (fun p => outMax p.2)).sum)
  w32 (s.freeNat % (most + 1) * 65536 + (mine.filter (fun p => run p.2)).length * 256 + pin.length)

def State.rqCfgV (s : State) (i : Nat) : W32 :=
  let b := s.rd .DMA_RQ_CFG i &&& 0xFFFF
  match s.lineCh (i / 64) (i % 64) with
  | some c => b ||| w32 (2 ^ 31 + c % 1024 * 65536)
  | none => b

def State.tgtStatV (s : State) (t : Nat) : W32 := (s.rd .EVD_TGT_STAT t &&& 0xFFFF0000) ||| w32 (bitAt (s.available t) 5 + s.rpr t)

/-- P-IDLE (R509): one region runs, and the others are in retention or not powered. -/
def State.pIdle (s : State) : Bool :=
  let st (r : Nat) : Nat := s.gf .PWR_REG_STAT r F.PWR_REG_STAT.STATE
  decide (((List.range 4).filter (fun r => st r == 1)).length = 1) && (List.range 4).all (fun r => decide (st r ≤ 2))

def State.pkgStatV (s : State) : W32 :=
  let v := s.rd .PWR_PKG_STAT 0
  if F.PWR_PKG_STAT.STATE.get v = 0 ∧ s.pIdle = true then F.PWR_PKG_STAT.STATE.put v 1 else v

/-- R568: STAT of a core that is fenced shows FENCED (R563). -/
def State.dbgStatV (s : State) (n : Nat) : W32 :=
  let v := s.rd .DBG_CORE_STAT n
  if s.fenced 0 n then F.DBG_CORE_STAT.REASON.put v 4 else v

/-- What DBG_CORE_SEL names, read at a halt (R562); another selection is a free value (log entry 156). -/
def State.dbgCoreV (s : State) (n : Nat) : W64 :=
  let k := s.gf .DBG_CORE_SEL n F.DBG_CORE_SEL.REG
  if k < 0x20 then s.gr n k
  else if k = 0x20 then s.pcOf n
  else if 0x400 ≤ k ∧ (srDesc (k - 0x400)).isSome = true then s.srRead n (k - 0x400)
  else s.freeW64

/-- An LE in step mode is held between ticks (R564). -/
def State.leHeld (s : State) (j : Nat) : Bool := s.leStepMode j && decide ((s.leAt j).st ≠ .run) && decide ((s.leAt j).st ≠ .wait)

/-- What DBG_LE_SEL names, while the LE is held. -/
def State.dbgLeV (s : State) (j : Nat) : W32 :=
  if !s.leHeld j then 0
  else
    let x := s.leAt j
    let k := s.gf .DBG_LE_SEL j F.DBG_LE_SEL.REG
    if k < 0x10 then x.kg k
    else if k < 0x18 then (x.pg (k - 0x10)).setWidth 32
    else if k < 0x24 then (let m := (x.mg ((k - 0x18) / 3)).toNat; w32 (m / 2 ^ (32 * ((k - 0x18) % 3)) % 2 ^ 32))
    else if k = 0x24 then w32 x.pc.toNat
    else if k = 0x25 then x.lc0
    else if k = 0x26 then x.lc1
    else s.freeW32

/-- Debug reads the registers of core i: it is halted, or fenced (R399, R562, R563). -/
def State.dbgReads (s : State) (i : Nat) : Bool := (s.cor i).halted || s.fenced 0 i

/-- The part checks PRBS31 in the mode that port i is in (R189). -/
def State.prbsRuns (s : State) (i : Nat) : Bool := s.plState i == 4 && !s.fenced 6 i && partChecks (s.gf .PL_CTL i F.PL_CTL.TEST)

/-- RAIL_FAULT_LO and HI: the rails in FAULT, from rail `base` on (R276). -/
def State.railFaults (s : State) (base : Nat) : W32 :=
  w32 ((List.range 32).foldl (fun m i => if (s.railE (base + i)).isSome && (s.rl (base + i)).st == .fault then m + 2 ^ i else m) 0)

/-- A per-rail register of a rail number that no RAIL entry defines: it reads 0, and writes have no effect (R276). -/
def State.noRail (s : State) (r : Reg) (i : Nat) : Bool :=
  match r with
  | .RAIL_STATE | .RAIL_SETPT | .RAIL_CTL | .RAIL_EVT | .RAIL_EVT_EN | .RAIL_SENSE | .RAIL_IEST | .RAIL_IMEAS
  | .RAIL_WSHED_LO | .RAIL_WSHED_HI | .RAIL_WCNT0 | .RAIL_WCNT1 => (s.railE i).isNone
  | _ => false

def d8 (b : Bytes) (o : Nat) : W32 := w32 (u32 b o)

/-- The value that a read of register instance i finds. The keep shows its state in the registers that R123 lists and in no others: DESIGN CHOICE, no read path for SLOT_HASH, PROV_HASH and SERIAL, for R105 calls them readable and the spec lists no register for them (log entry 182). -/
def State.regView (s : State) (q : Req) (r : Reg) (i : Nat) : W32 :=
  match r with
  | .IMG_FLOOR => w32 (s.keep.ctr 2)
  | .KEEP_STATUS => F.KEEP_STATUS.LIFECYCLE.put (s.rd .KEEP_STATUS 0) s.keep.lcInForce
  | .KEEP_CNT_VAL => w32 (s.keep.ctr (s.gf .KEEP_CNT_CTL 0 F.KEEP_CNT_CTL.INDEX))
  | .TICK_TB_LO => lowW s.tick.tb
  | .TICK_TB_HI => highW s.tick.tb
  | .TICK_COUNT_LO => lowW s.tick.count
  | .TICK_COUNT_HI => highW s.tick.count
  | .TICK_EDGE_TB_LO => lowW s.tick.edgeTb
  | .TICK_EDGE_TB_HI => highW s.tick.edgeTb
  | .PL_STATUS => F.PL_STATUS.GEN.put (s.rd .PL_STATUS i) (s.plGen i)
  | .PL_PRBS_ERR => if s.prbsRuns i then s.freeW32 &&& 0xFFFF else s.rd .PL_PRBS_ERR i
  | .PL_PHASE => (let v := s.rd .PL_PHASE i; v &&& ~~~((v >>> 8) &&& 0xFF))
  | .LC_LE_STATUS => s.leStatusV i
  | .SEQ_STATUS => s.seqStatusV
  | .RAIL_FAULT_LO => s.railFaults 0
  | .RAIL_FAULT_HI => s.railFaults 32
  | .SEQ_STEP => w32 (s.stepCause i % 16 * 16 + bitAt (s.stepPg i) 3 + (s.stepSt i).code)
  | .RAIL_STATE => s.railWord i
  | .RAIL_SENSE => w32 ((s.rl i).s % 2 ^ 14 * 65536 + (s.rl i).code % 2 ^ 14)
  | .RAIL_IEST => (BitVec.ofInt 20 (s.rl i).iest).setWidth 32
  | .RAIL_IMEAS => (BitVec.ofInt 20 (s.rl i).imeas).setWidth 32
  | .LDG_OUT => w32 s.ldg.polls.length
  | .LDG_PART_STAT0 => s.partStat0
  | .LDG_PART_STAT1 => s.partStat1
  | .CMP_STATUS => s.cmpStatusV
  | .CMP_DIGEST_LO => d8 s.pairDigest 0
  | .CMP_DIGEST_HI => d8 s.pairDigest 4
  | .CMP_PEER_DIGEST_LO => d8 (s.cmp.hb.getD []) 24
  | .CMP_PEER_DIGEST_HI => d8 (s.cmp.hb.getD []) 28
  | .EVD_PMR => (match coreNo q with | some n => s.rd .EVD_PMR n | none => 0)
  | .EVD_RPR => (match coreNo q with | some n => w32 (s.rpr n) | none => 0)
  | .EVD_STATUS => s.rd .EVD_STATUS 0 ||| w32 (bitAt s.stranded 0)
  | .EVD_EN_CLR => s.rd .EVD_EN_SET i
  | .EVD_PEND_CLR => s.rd .EVD_PEND_SET i
  | .EVD_TGT_STAT => s.tgtStatV i
  | .MBX_STATUS => w32 ((s.mb i).ba.q.length * 16 + (s.mb i).ab.q.length)
  | .MBX_AB_ACK => s.mbxAck i false
  | .MBX_BA_ACK => s.mbxAck i true
  | .MBX_AB_RX_STAMP => s.mbxStamp i false
  | .MBX_BA_RX_STAMP => s.mbxStamp i true
  | .DMA_ENG_STATUS => s.engStatusV i
  | .DMA_RQ_CFG => s.rqCfgV i
  | .CH_STAT => s.chStatV i
  | .CH_REM0 => w32 (s.chn i).rem.1
  | .CH_REM12 => w32 ((s.chn i).rem.2.2 * 65536 + (s.chn i).rem.2.1)
  | .CH_BARGE_LO => lowW (s.chBargeV i)
  | .CH_BARGE_HI => highW (s.chBargeV i)
  | .CH_XFER => w32 (s.chn i).bytes
  | .BSN_POOL_HELD => w32 (s.heldBy i)
  | .STL_CNT => s.stlCnt i
  | .STL_T_ID => w32 (s.stSt i * 256 + i)
  | .STL_T_EN_SET => s.stlBits i s.evEn
  | .STL_T_EN_CLR => s.stlBits i s.evEn
  | .STL_T_PEND => s.stlBits i s.evPend
  | .STL_T_PEND_CLR => s.stlBits i s.evPend
  | .STL_T_BSN_HELD => w32 (s.tagged i)
  | .PWR_CORE_STAT => (s.rd .PWR_CORE_STAT i &&& 4) ||| w32 (s.cor i).st.code
  | .PWR_PKG_STAT => s.pkgStatV
  | .TRC_STATUS => (s.rd .TRC_STATUS 0 &&& 2) ||| w32 (bitAt (s.trc.src.any (fun e => decide (e.2.fifo ≠ []))) 0)
  | .TRC_DBG_STATUS => (s.rd .TRC_DBG_STATUS 0 &&& 2) ||| w32 (bitAt s.dbgOpen 0)
  | .DBG_CORE_STAT => s.dbgStatV i
  | .DBG_CORE_DATA_LO => if s.dbgReads i then (s.dbgCoreV i).setWidth 32 else 0
  | .DBG_CORE_DATA_HI => if s.dbgReads i then ((s.dbgCoreV i) >>> 32).setWidth 32 else 0
  | .DBG_LE_STAT => (s.rd .DBG_LE_STAT i &&& 2) ||| w32 (bitAt (s.leHeld i) 0)
  | .DBG_LE_DATA => s.dbgLeV i
  | _ => regShow r.desc (s.rd r i)

/-- Registers whose reading takes a free value, which the next reading does not repeat. -/
def State.regUsesFree (s : State) (r : Reg) (i : Nat) : Bool :=
  match r with
  | .DMA_ENG_STATUS => true
  | .DBG_CORE_DATA_LO => s.dbgReads i
  | .DBG_CORE_DATA_HI => s.dbgReads i
  | .DBG_LE_DATA => true
  | .PL_PRBS_ERR => s.prbsRuns i
  | _ => false

/-- Clear counters of the partner that LDG_PART_SEL names. -/
def State.partClear (s : State) (second : Bool) : State :=
  let p := s.partSel
  let x := s.prtn p
  s.setPrtn p (if second then { x with cntErrors := 0, cntUnsol := 0 } else { x with cntTimeouts := 0 })

/-- A read that the access rules admit: the state after it, and the value. -/
def State.regRead (s : State) (q : Req) (r : Reg) (i : Nat) : State × W32 :=
  if s.noRail r i then (s, 0)
  else match r with
  | .EVD_ACK => (match coreNo q with | some n => s.evdAck n | none => (s, 0))
  | .MBX_AB_RX_DATA => (let x := s.mbxPop i false; (x.1, x.2.2))
  | .MBX_BA_RX_DATA => (let x := s.mbxPop i true; (x.1, x.2.2))
  | .BSN_POOL_ALLOC => s.bsnAlloc i
  | .STL_T_BSN_ALLOC => s.stlAlloc i
  | .PORT_RXQ => s.rxqPop i
  | .LDG_PART_STAT0 => (s.partClear false, s.partStat0)
  | .LDG_PART_STAT1 => (s.partClear true, s.partStat1)
  | _ =>
    let s := if (r = .DBG_CORE_DATA_LO ∨ r = .DBG_CORE_DATA_HI) ∧ isPmu (s.gf .DBG_CORE_SEL i F.DBG_CORE_SEL.REG - 0x400) = true then s.pmuSettle i else s
    let v := s.regView q r i
    let t := if r.desc.rc = 0 then s else s.wr r i (regAfterRead r.desc (s.rd r i))
    (if s.regUsesFree r i then t.tick1 else t, v)

/-- A read at a level that may not read leaves the register as it is; the value is free, for the spec states none (log entry 123). -/
def State.regReadAs (s : State) (q : Req) (r : Reg) (i : Nat) : State × W32 :=
  if r.desc.rdLvl.num ≤ reqRights q ∨ isPort q = true then s.regRead q r i else (s.tick1, s.freeW32)

/-- An access to a register of a unit of a region brings the region back from retention before it answers (R514): its DMA engine, its EVD slice, its loop cluster, its cores by their debug registers (log entry 212). -/
def State.engineUp (s : State) (a : Nat) : State :=
  let o := a - ctlBase
  if 0xC00000 ≤ o ∧ o < 0xD00000 then s.regionUp ((o - 0xC00000) / 0x40000)
  else if 0xA04000 ≤ o ∧ o < 0xA04200 then s.regionUp ((o - 0xA04000) / 0x80)
  else if 0x500000 ≤ o ∧ o < 0x600000 then s.regionUp ((o - 0x500000) / 0x40000)
  else if 0xF01000 ≤ o ∧ o < 0xF01400 then s.regionUp ((o - 0xF01000) / 0x100)
  else s

/-- A 32-bit read at an address of control space; none is a bus error. Through a slot of its stall a tenant reads at its own level (R499, R508). -/
def State.ctlRd (s : State) (q : Req) (a : Nat) : State × Option W32 :=
  match s.gate q a false with
  | .reg r i (some _) => (let x := s.regRead q r i; (x.1, some x.2))
  | .reg r i none => (let x := (s.engineUp a).regReadAs q r i; (x.1, some x.2))
  | .empty => (s, some 0)
  | .bus d => (s.denied d, none)

/-- A read of register instance i by its name. -/
def State.regGet (s : State) (q : Req) (r : Reg) (i : Nat) : State :=
  match s.ctlRd q (r.addrOf i) with
  | (t, some v) => { t with reply := .value (v.setWidth 64) }
  | (t, none) => { t with reply := .busError }

end Sys2Proof.Machine
end

