-- ==== Sys2Proof/Machine/RegCmd.lean ====
section
/-!
DEFINITION. Writes of the control space: the level checks and what each register's write does; the debug registers (R561 to R568) and the unlocking of the debug access path.
-/
namespace Sys2Proof.Machine

/-! ### Debug of the cores (R562, R563) -/

/-- HALT of core n: a core in C1 or C2 is woken, a core in C3 halts when it leaves it, any other at the next boundary. -/
def State.dbgHalt (s : State) (n : Nat) : State :=
  if (s.cor n).halted then s
  else
    let s := s.wake n
    if s.atBoundary n && !(s.cor n).shield then s.haltNow n 1 else s.setCor n { s.cor n with haltReq := true }

/-- RESUME: the core goes on at its PC. -/
def State.dbgResume (s : State) (n : Nat) : State :=
  if !(s.cor n).halted || s.fenced 0 n then s
  else (s.setCor n { s.cor n with halted := false }).wr .DBG_CORE_STAT n 0

/-- STEP: one instruction, and a halt again. -/
def State.dbgStep (s : State) (n : Nat) : State :=
  if !(s.cor n).halted || s.fenced 0 n then s
  else (s.setCor n { s.cor n with halted := false, stepping := true }).wr .DBG_CORE_STAT n 0

/-- A write of DBG_CORE_CTL: HALT, then RESUME, then STEP. -/
def State.dbgCoreCtl (s : State) (n : Nat) (v : W32) : State :=
  let s := s.plainWrite .DBG_CORE_CTL n v
  let s := if bit v.toNat 1 then s.dbgResume n else s
  let s := if bit v.toNat 2 then s.dbgStep n else s
  if bit v.toNat 0 then s.dbgHalt n else s

/-- Registers with bits that a write of 1 clears: a half write takes its own half alone (log entry 156). -/
def srClears (d : SrDesc) : Bool := decide (d.w1c ≠ 0)

/-- A write of system register k by debug, with the rights of M; STATUS takes effect without the shield of an MTSR. -/
def State.dbgSr (s : State) (n k : Nat) (hi : Bool) (v : W32) (whole : W64) : State :=
  match srDesc k with
  | none => s
  | some d =>
    if d.wr = .nobody then s
    else if k = srSTATUS then s.statusRaw n 3 whole
    else if srClears d then (if hi then s else s.srWrite n 3 k d (v.setWidth 64))
    else s.srWrite n 3 k d whole

/-- A write of DBG_CORE_DATA: ignored outside a halt. -/
def State.dbgCoreData (s : State) (n : Nat) (hi : Bool) (v : W32) : State :=
  if !(s.cor n).halted then s
  else
    let k := s.gf .DBG_CORE_SEL n F.DBG_CORE_SEL.REG
    let old := s.dbgCoreV n
    let whole : W64 := if hi then v ++ old.setWidth 32 else (old >>> 32).setWidth 32 ++ v
    if k < 0x20 then s.gw n k whole
    else if k = 0x20 then s.setPc n (whole &&& ~~~3)
    else if 0x400 ≤ k then s.dbgSr n (k - 0x400) hi v whole
    else s

/-! ### Debug of the loop engines (R564, R565) -/

/-- STEP_EN may be set: the LE serves no rail, or a rail in OFF, WAIT or FAULT. -/
def State.stepEnOk (s : State) (j : Nat) : Bool :=
  match s.leServes j with
  | some (r, _) => !(s.rl r).st.live
  | none => true

def State.dbgLeCtl (s : State) (j : Nat) (v : W32) : State :=
  if bit v.toNat 1 && !s.stepEnOk j then s.pb .DBG_LE_STAT j F.DBG_LE_STAT.STEPREF true
  else
    let s := s.plainWrite .DBG_LE_CTL j v
    if bit v.toNat 2 then s.setLe j { s.leAt j with go := true } else s

/-- A write of DBG_LE_DATA: ignored unless the LE is held. -/
def State.dbgLeData (s : State) (j : Nat) (v : W32) : State :=
  if !s.leHeld j then s
  else
    let x := s.leAt j
    let k := s.gf .DBG_LE_SEL j F.DBG_LE_SEL.REG
    s.setLe j (
      if k < 0x10 then x.ks k v
      else if k < 0x18 then x.ps (k - 0x10) (v.setWidth 20)
      else if k < 0x24 then
        (let i := (k - 0x18) / 3
         let m := x.mg i
         x.ms i (match (k - 0x18) % 3 with
           | 0 => (m &&& ~~~(0xFFFFFFFF : BitVec 72)) ||| v.setWidth 72
           | 1 => (m &&& ~~~(0xFFFFFFFF00000000 : BitVec 72)) ||| (v.setWidth 72 <<< 32)
           | _ => (m &&& 0xFFFFFFFFFFFFFFFF) ||| (v.setWidth 72 <<< 64)))
      else if k = 0x24 then { x with pc := v.setWidth 11 }
      else if k = 0x25 then { x with lc0 := v }
      else if k = 0x26 then { x with lc1 := v }
      else x)

/-! ### Trace and the debug access path (R556, R566, R567) -/

/-- Cores emit SYNC (R556). -/
def State.syncCores (s : State) : State := forEach (List.range 32) State.emitSync s

/-- A write of TRC_CTL. -/
def State.trcCtl (s : State) (v : W32) : State :=
  let was := s.gb .TRC_CTL 0 F.TRC_CTL.EN
  let s := s.plainWrite .TRC_CTL 0 v
  if !was && s.gb .TRC_CTL 0 F.TRC_CTL.EN then s.syncCores else s

/-- The object at basin offset 0: as long as its header's SIG_OFFSET says (log entry 157). -/
def State.basinObj (s : State) : Bytes := s.mread basinBase (min (s.mnum (basinBase + 24) 4) 0x2000000)

/-- TRC_DBG_UNLOCK.BOOT in state TEST (R106, R566): the ROM runs the object at basin offset 0, with the checks of R103 on a loader but the signatures, in place of the loader that it waits for. No image or firmware passes R62 in TEST, so the boot waits for them after it (R102; log entry 157). -/
def State.dbgBoot (s : State) : State :=
  let b := s.basinObj
  if s.keep.lcInForce ≠ 1 ∨ !(s.objHead 1 0 b && loaderFits b) then s
  else
    let s := s.romRun b
    let s := { s with trc := { s.trc with bootObj := b } }
    if s.keep.boot = .waitLoader then { s with keep := { s.keep with boot := .waitObject } } else s

/-- A write of TRC_DBG_UNLOCK: GO of a class with the DEBUG right unlocks (R120), LOCK locks, BOOT runs an object in TEST. -/
def State.dbgUnlock (s : State) (v : W32) : State :=
  let s := s.plainWrite .TRC_DBG_UNLOCK 0 v
  let s := if bit v.toNat 31 then
      (if F.TRC_DBG_UNLOCK.CLASS.get v ≤ 1 then { s with trc := { s.trc with unlocked := true } } else s.pb .TRC_DBG_STATUS 0 F.TRC_DBG_STATUS.REFUSED true)
    else s
  let s := if bit v.toNat 0 then { s with trc := { s.trc with unlocked := false } } else s
  if bit v.toNat 1 then s.dbgBoot else s

/-! ### Writes by register -/

/-- A write of LC_LE_CTL: the actions wait for the tick edge (R240). -/
def State.lcLeCtl (s : State) (j : Nat) (v : W32) : State :=
  let x := s.leAt j
  s.setLe j { x with pend := (x.pend.1 || bit v.toNat 2, x.pend.2.1 || bit v.toNat 0, x.pend.2.2 || bit v.toNat 1) }

/-- A write of LC_REC_CTL: a 1 in FROZEN resumes the ring from the next tick (R237). -/
def State.lcRecCtl (s : State) (c : Nat) (v : W32) : State :=
  let go := F.LC_REC_CTL.FROZEN.get (v &&& s.rd .LC_REC_CTL c)
  let s := s.plainWrite .LC_REC_CTL c v
  s.setLc c { s.lcAt c with resume := (s.lcAt c).resume ||| go }

/-- The stall's check of a CH_CTL write at U or S (R499). -/
def State.chCtlOk (s : State) (q : Req) (c : Nat) : Bool :=
  match s.ownStall c with
  | some st => decide (2 ≤ reqRights q) || (decide (q.sid.toNat = s.gf .STL_BIND st F.STL_BIND.SID) && decide (s.stSt st = 1))
  | none => true

/-- A TX write: the word with the writer's stamp (R447, R449, R508). -/
def State.txWrite (s : State) (q : Req) (m : Nat) (ba : Bool) (thr : Option Nat) (v : W32) : State :=
  match thr with
  | some i => s.mbxPush m ba (if q.lvl = .u then 12 else 13) i ((originOf q).getD 0) v
  | none => s.mbxPush m ba (s.stampClass q) 0 ((originOf q).getD 0) v

/-- A CODE write: by the owner of the receiving side, or through a slot of that side (R454, R508). -/
def State.codeWrite (s : State) (q : Req) (m : Nat) (ba : Bool) (thr : Option Nat) (v : W32) : State :=
  s.mbxCode m ba (thr.isSome || s.owns m (!ba) (originOf q)) v


/-- Writes with effects of their own: chapters 02 to 09. None: the plain write. -/
def State.regWriteA (s : State) (r : Reg) (i : Nat) (v : W32) : Option State :=
  match r with
  | .IMG_AMD_CTL => some ((if bit v.toNat 0 then s.pkgAbortBy else s).imgCtl v)
  | .KEEP_CNT_CTL => some (s.cntCtl v)
  | .KEEP_LC_CTL => some (s.lcCtl v)
  | .KEEP_JOB_CTL => some (if bit v.toNat 0 then s.jobGo else s)
  | .TICK_CTL => some (s.plainWrite .TICK_CTL 0 v).tickOutPin
  | .PL_CTL => some (s.plCtl i v)
  | .PL_READMIT => some (s.plReadmit i v)
  | .PL_REG_CMD => some (s.plRegCmd i v)
  | .PL_INJ => some (s.plInj i v)
  | .LC_LE_CTL => some (s.lcLeCtl (idxLe i) v)
  | .LC_SPARE_CTL => some (if bit v.toNat 0 then s.setLc i { s.lcAt i with release := true } else s)
  | .LC_REC_CTL => some (s.lcRecCtl i v)
  | .SEQ_CTL => some (s.pkgAbortBy.seqCtl v)
  | .RAIL_CTL => some (s.pkgAbortBy.railCtl i v)
  | .RAIL_SETPT => some (s.railSetpt i v)
  | .RAIL_WSHED_LO => some (s.wshedWrite .RAIL_WSHED_LO 0 i v)
  | .RAIL_WSHED_HI => some (s.wshedWrite .RAIL_WSHED_HI 32 i v)
  | .LDG_CMD => some (s.ldgCmd v)
  | .CMP_CTL => some (s.cmpCtl v)
  | .CMP_MIG_CTL => some (s.migCtl v)
  | _ => none

/-- Writes with effects of their own: chapters 14 to 19. -/
def State.regWriteB (s : State) (q : Req) (r : Reg) (i : Nat) (thr : Option Nat) (v : W32) : Option State :=
  match r with
  | .EVD_EOI => (coreNo q).map (fun n => s.evdEoi n v)
  | .EVD_PMR => (coreNo q).map (fun n => s.evdPmr n v)
  | .EVD_SWGEN => some (s.evdSwgen v)
  | .EVD_FALLBACK => some (s.evdFallback v)
  | .EVD_EN_SET => some (s.evdEnSet i v)
  | .EVD_EN_CLR => some (s.evdEnClr i v)
  | .EVD_PEND_SET => some (s.evdPendSet i v)
  | .EVD_PEND_CLR => some (s.evdPendClr i v)
  | .EVD_SRC_CFG => some (s.evdSrcCfg i v)
  | .MBX_AB_TX => some (s.txWrite q i false thr v)
  | .MBX_BA_TX => some (s.txWrite q i true thr v)
  | .MBX_AB_ACK => some (s.codeWrite q i false thr v)
  | .MBX_BA_ACK => some (s.codeWrite q i true thr v)
  | .CH_CTL => some (s.chCtl i v)
  | .CH_OWN => some (s.chOwn i v)
  | .BSN_FREE => some (s.bsnFree v)
  | .STL_CTL => some (s.stlCtl i v)
  | .STL_BIND => some (s.stlBind i v)
  | .STL_MBX_MAP => some (s.mapWrite (i / 8) .STL_MBX_MAP i v)
  | .STL_VIEW_BASE => some (s.mapWrite (i / 16) .STL_VIEW_BASE i v)
  | .STL_VIEW_CNT => some (s.mapWrite (i / 16) .STL_VIEW_CNT i v)
  | .STL_SRC => some (s.mapWrite (i / 32) .STL_SRC i v)
  | .STL_WIN_A => some (s.mapWrite (i / 4) .STL_WIN_A i v)
  | .STL_WIN_B => some (s.mapWrite (i / 4) .STL_WIN_B i v)
  | .STL_T_BELL => some (s.stlRing i v)
  | .STL_T_EN_SET => some (s.stlSlots i v State.evdEnSet)
  | .STL_T_EN_CLR => some (s.stlSlots i v State.evdEnClr)
  | .STL_T_PEND_CLR => some (s.stlSlots i v State.evdPendClr)
  | .STL_T_BSN_FREE => some (s.stlFree i v)
  | .STL_T_LV_CMD => some (s.lvCmd i v)
  | .PWR_CORE_CTL => some (s.pwrCoreCtl i v)
  | .PWR_UNIT_CTL => some (s.unitCtl v)
  | .PWR_CC_FREQ => some (s.ccFreq i v)
  | .PWR_REG_CTL => some (s.regCtl i v)
  | .PWR_PKG_CTL => some (s.pkgCtl q v)
  | .PORT_CTL => some (s.plainWrite .PORT_CTL i v).pollWaiting
  | .PORT_TXQ => some (s.txqPush i v)
  | .PORT_RAW_CMD => some (s.rawCmd i v)
  | .SW_VLAN => some (s.swVlan i v)
  | .FAN_PWM => some (s.fanPwm i v)
  | .FAN_WDT => some (s.fanWdt v)
  | .TRC_CTL => some (s.trcCtl v)
  | .TRC_DBG_UNLOCK => some (if (coreNo q).isSome then s.dbgUnlock v else s)
  | .DBG_CORE_CTL => some (s.dbgCoreCtl i v)
  | .DBG_CORE_DATA_LO => some (s.dbgCoreData i false v)
  | .DBG_CORE_DATA_HI => some (s.dbgCoreData i true v)
  | .DBG_LE_CTL => some (s.dbgLeCtl i v)
  | .DBG_LE_DATA => some (s.dbgLeData i v)
  | _ => none

/-- A write that the level checks admit. -/
def State.regWrite (s : State) (q : Req) (r : Reg) (i : Nat) (thr : Option Nat) (v : W32) : State :=
  if s.noRail r i then s
  else match s.regWriteA r i v with
  | some t => t
  | none =>
    match s.regWriteB q r i thr v with
    | some t => t
    | none => s.plainWrite r i v

/-- The register stands in the KEEP block. -/
def inKeep (r : Reg) : Bool := decide (0x200002000000 ≤ r.desc.addr) && decide (r.desc.addr < 0x200003000000)

/-- A write as the levels permit it: from a level that may not write it is ignored; debug's writes to KEEP are ignored (R561); CH_CTL is checked by R499 first. -/
def State.regWriteAs (s : State) (q : Req) (r : Reg) (i : Nat) (thr : Option Nat) (v : W32) : State :=
  if r = .CH_CTL ∧ s.chCtlOk q i = false then s.strefCh i
  else if (r.desc.wrLvl.num ≤ reqRights q ∨ isPort q = true ∨ thr.isSome = true) ∧ ¬(inKeep r = true ∧ isDebug q = true) then s.regWrite q r i thr v
  else s

/-- A 32-bit write at an address of control space; false is a bus error. -/
def State.ctlWr (s : State) (q : Req) (a : Nat) (v : W32) : State × Bool :=
  match s.gate q a true with
  | .reg r i thr => ((s.engineUp a).regWriteAs q r i thr v, true)
  | .empty => (s, true)
  | .bus d => (s.denied d, false)

/-- A write of register instance i by its name: what the requester sees is recorded in `reply`. -/
def State.regCmd (s : State) (q : Req) (r : Reg) (i : Nat) (v : W32) : State :=
  let x := s.ctlWr q (r.addrOf i) v
  { x.1 with reply := if x.2 then .none else .busError }

end Sys2Proof.Machine
end

