-- ==== Sys2Proof/Machine/TickEdge.lean ====
section
/-!
DEFINITION. The tick edge and the tick's sources (R125 to R141, R155, R231 to R235, R304, R324, R522).
-/
namespace Sys2Proof.Machine

/-- The tick runs: it has started and has not stopped (R130). -/
def State.ticking (s : State) : Bool := s.gb .TICK_STATUS 0 F.TICK_STATUS.RUNNING && !s.gb .TICK_STATUS 0 F.TICK_STATUS.STOPPED
def State.onTickIn (s : State) : Bool := s.gb .TICK_STATUS 0 F.TICK_STATUS.ON_TICKIN

/-- The LTICK packet of the ended tick, of a traced LE that was started in it (R551, R553). -/
def State.ltick (s : State) (j : Nat) : State :=
  let x := s.leAt j
  if x.started && s.traced (traceId 1 j) then
    s.emitRaw (traceId 1 j) ([0x0A] ++ leBytes 4 s.tick.count ++ leBytes 2 (x.commitCyc.getD 0xFFFF) ++ leBytes 2 (x.endCyc.getD 0xFFFF) ++ leBytes 1 (s.leStatus j))
  else s

/-- TICK_PHERR as a number: 48 units are 5 ns. -/
def State.pherr (s : State) : Int := sgn 16 (s.rd .TICK_PHERR 0).toNat

/-- LE cycles of the tick that runs (R126, R129, R137): exact on REFCLK; on TICK_IN one cycle less or more while the edge lies more than 5 ns late or early; `adj` counts, from one cycle less on, when the source has changed since the last edge. -/
def State.tickLen (s : State) (adj : Nat) : Nat :=
  if s.onTickIn != s.tick.wasIn then s.tlen + adj - 1
  else if s.onTickIn && decide (48 < s.pherr) then s.tlen - 1
  else if s.onTickIn && decide (s.pherr < -48) then s.tlen + 1
  else s.tlen

/-- TICK_COUNT, TIMEBASE and TICK_EDGE_TB at an edge (R129, R131, R132). -/
def State.countEdge (s : State) (adj : Nat) : State :=
  let e := s.tick.edgeTb + s.tickLen adj
  { s with tick := { s.tick with count := s.tick.count + 1, tb := max s.tick.tb e, edgeTb := e, wasIn := s.onTickIn } }

/-- TIMEBASE at the first REFCLK cycle that is not before `e`: it rises by 48 per cycle (R522). -/
def upTo48 (tb e : Nat) : Nat := tb + 48 * ((e - tb + 47) / 48)

/-- A dark tick (R522): the counts alone, while REFCLK runs. -/
def State.darkEdge (s : State) : State :=
  if s.tick.refclk then
    let e := s.tick.edgeTb + s.tlen
    { s with tick := { s.tick with count := s.tick.count + 1, tb := upTo48 s.tick.tb e, edgeTb := e } }
  else s

/-- Leave ALIGNED; a SHADOW package becomes DETACHED (R321). -/
def State.misalign (s : State) : State :=
  let s := { s.pb .TICK_STATUS 0 F.TICK_STATUS.ALIGNED false with tick := { s.tick with alignRun := 0 } }
  if s.paired ∧ s.cmp.act = .shadow then { s with cmp := { s.cmp with act := .detached, ready := false, joinRun := 0 } } else s

/-- The measured error of the tick edge against TICK_IN, in 104.17 ps (R137): 48 units are 5 ns. -/
def State.alignEdge (s : State) (err : BitVec 16) : State :=
  if !s.onTickIn then ((s.wr .TICK_PHERR 0 0).pb .TICK_STATUS 0 F.TICK_STATUS.ALIGNED false)
  else
    let s := s.wr .TICK_PHERR 0 (BitVec.ofNat 32 err.toNat)
    if err.toInt.natAbs ≤ 48 then
      let n := s.tick.alignRun + 1
      let s := { s with tick := { s.tick with alignRun := n } }
      if n ≥ 16 then s.pb .TICK_STATUS 0 F.TICK_STATUS.ALIGNED true else s
    else s.misalign.raise 1226

/-- Lock to TICK_IN when it is present, the role is SECONDARY and the package is not DRIVING (R127, R138, R324). -/
def State.relock (s : State) : State :=
  if s.cmp.role = 2 ∧ s.follow = true ∧ s.cmp.act ≠ .driving ∧ s.tick.tickIn = true ∧ s.onTickIn = false then
    let s := (s.pb .TICK_STATUS 0 F.TICK_STATUS.ON_TICKIN true).pb .TICK_STATUS 0 F.TICK_STATUS.HOLDOVER false
    { s with tick := { s.tick with alignRun := 0 } }
  else s

/-- The LEs at the edge: a JOINING or BLOCKED package starts none (R303). -/
def State.leEdge (s : State) : State :=
  if s.cmp.act = .joining ∨ s.cmp.act = .blocked then forEach (List.range 36) State.leRest s else forEach (List.range 4) State.lcStart s

/-- What is closed of the tick that ends: LTICK packets, the ledger's latch, the plausibility comparison and RAIL_IMEAS (R187, R258, R296). -/
def State.closeTick (s : State) : State :=
  let s := (forEach (List.range 36) State.ltick s).ldgClose
  forEach s.rails (fun s r => (s.plausTick r).imeasTick r) s

/-- The unit actions that wait for the edge: those of R525, and LC_LE_CTL's (R240). -/
def State.unitsEdge (s : State) : State := (forEach (List.range 4) State.lcEdge (s.unitEdge false)).unitEdge true

/-- The mailbox directions whose time has run out at the edge (R455, R456). -/
def State.mbxEdge (s : State) : State := forEach (s.mbx.map Prod.fst) (fun s m => (s.mbxTmo m false).mbxTmo m true) s

/-- What the edge of the tick just counted does, up to the start of the LEs. -/
def State.edgeWork (s : State) : State :=
  let s := s.clearAge.mbxEdge.unitsEdge
  let s := s.cmpEdge s.tick.count
  let s := s.amdApply.relock
  let s := if s.paired ∧ s.cmp.act = .driving then { s with pins := { s.pins with ownOut := true, ownHigh := false } } else s
  let s := forEach (List.range 64) State.portEdge s
  let s := forEach s.rails State.hearEdge s
  let s := forEach s.rails (fun s r => (s.iestTick r).railEdge r) s
  let s := s.stepsEdge
  let s := s.settleDown
  let s := forEach (s.ext.map Prod.fst) State.unpause s
  { s with sw := { s.sw with storm := [] }, ext := s.ext.map (fun e => (e.1, { e.2 with ibi := [] })) }

/-- Drivers and PAIR_OWN_N of the acting state, TICK_OUT, and a full enumeration of every port. -/
def State.lightPorts (s : State) : State :=
  let d := s.cmp.act == .driving
  let s := (({ s with pins := { s.pins with ownOut := s.paired && d, ownHigh := s.pins.ownHigh && !(s.paired && d) } }).lightTick).relock
  forEach (List.range 64) (fun s n => (if s.plState n = 5 then s else s.enumFull n).sendMarker n) s

/-- The address of the loaded firmware, above the staging area, and of its entry (R97, R103), a multiple of 4 (R361; log entry 172). -/
def State.fwBase (s : State) : Nat := s.staging + 2 ^ 22 + u32 s.pwr.copies.2 16
def State.fwEntry (s : State) : W64 := BitVec.ofNat 64 ((s.fwBase + u32 s.pwr.copies.2 20) / 4 * 4)

/-- Core 8r of the lowest-lettered region in service starts level-M firmware (R97, R99). -/
def State.startFw (s : State) : State :=
  match (List.range 4).find? (fun r => s.inService r && !bit s.img.hold r) with
  | some r => s.coreStart (8 * r) s.fwEntry
  | none => s

/-- The last of an exit from P-STANDBY: power-up, and firmware (R523). -/
def State.stbyUp (s : State) : State :=
  let s := if s.cmp.role ≠ 2 ∧ s.gb .PWR_STBY_CFG 0 F.PWR_STBY_CFG.AUTO_UP = true then s.seqUp else s
  ((s.startFw).pf .PWR_PKG_STAT 0 F.PWR_PKG_STAT.STATE 0).raise 1221

/-- A dark tick that is to be lit, at the edge (R520, R523): after an abandoned entry as any edge, else as the first tick after boot. -/
def State.lightEdge (s : State) : State :=
  match s.tick.lightDue with
  | none => s
  | some false => s.lightTick.edgeWork.leEdge.hbSend
  | some true => ((s.lightPorts.stbyUp.unitsEdge).leEdge).hbSend

/-- TICK_EDGE (R128): `err` is the measured error against TICK_IN, `x` the length of the tick that ends when its source changed, and what ECC finds in code that the edge copies. -/
def execTickEdge (err : BitVec 16) (x : EdgeIn) (s : State) : Out :=
  .next (
    if s.gb .TICK_STATUS 0 F.TICK_STATUS.STOPPED then s
    else if s.tick.dark then (if s.tick.refclk then s.darkEdge.lightEdge else s)
    else if !s.ticking then s
    else { ((((({ s with copyEcc := x.cp }).closeTick).countEdge x.adj).alignEdge err).edgeWork.leEdge).hbSend with copyEcc := [] })

/-- TICK_PLL_LOCK_LOSS (R130): on REFCLK the tick stops, or never starts. DESIGN CHOICE: on TICK_IN nothing changes, for the spec gives a lock loss on TICK_IN no effect (log entry 167). -/
def execTickPllLockLoss (s : State) : Out :=
  .next (
    if !s.gb .TICK_STATUS 0 F.TICK_STATUS.LOCKED || s.gb .TICK_STATUS 0 F.TICK_STATUS.STOPPED || s.onTickIn || s.tick.dark then s
    else
      let s := (s.pb .TICK_STATUS 0 F.TICK_STATUS.LOCKED false).pb .TICK_STATUS 0 F.TICK_STATUS.RUNNING false
      let s := s.pb .TICK_STATUS 0 F.TICK_STATUS.STOPPED true
      let s : State := { s with pins := { s.pins with railFaultForced := true, tickOut := false, plOn := false } }
      -- no tick clock: the LEs stand still
      let s : State := { s with le := s.le.map (fun e => (e.1, { e.2 with st := if e.2.st = .run ∨ e.2.st = .wait then .stopped else e.2.st })) }
      s.raise 1224)

/-- TICK_IN_LOST (R138, R324): two expected edges of TICK_IN have not come. A DRIVING package of role SECONDARY stays on REFCLK; a JOINING package is put back at step 2 of R321. DESIGN CHOICE: a TICK_IN that has never been present since the start is not lost: the package runs on REFCLK with HOLDOVER 0 and no event, as R138 names the loss of edges that came (log entry 210). -/
def execTickInLost (s : State) : Out :=
  .next (
    let had := s.tick.tickIn
    let s := { s with tick := { s.tick with tickIn := false } }
    if s.onTickIn then
      let s := s.misalign.offTickIn.pb .TICK_STATUS 0 F.TICK_STATUS.HOLDOVER true
      let s : State := if s.cmp.act = .joining then { s with cmp := { s.cmp with joinAt := none, counted := false, joinRun := 0 } } else s
      s.raise 1225
    else if had ∧ s.cmp.role = 2 ∧ s.follow = true ∧ s.cmp.act = .driving ∧ s.ticking = true then
      (s.pb .TICK_STATUS 0 F.TICK_STATUS.HOLDOVER true).raise 1225
    else s)

/-- TICK_IN_RETURN (R138). -/
def execTickInReturn (s : State) : Out :=
  .next (
    let s := { s with tick := { s.tick with tickIn := true } }
    if s.ticking then s.relock else s)

/-- REFCLK_LOSS (R130): TIMEBASE holds, and dark ticks are not counted. -/
def execRefclkLoss (s : State) : Out := .next { s with tick := { s.tick with refclk := false } }

/-- REFCLK_RETURN (R130). -/
def execRefclkReturn (s : State) : Out := .next { s with tick := { s.tick with refclk := true } }

/-! ### The clock between commands: what step does on an empty queue (log entry 4) -/

/-- One cycle of TIMEBASE while the tick PLL is locked, up to the last cycle of the tick; 48 for a REFCLK cycle while it is not, up to the first such cycle at or after the next dark edge (R130, R131, R522). -/
def State.clock (s : State) : State :=
  let st := s.gb .TICK_STATUS 0 F.TICK_STATUS.STOPPED
  if st ∨ s.tick.dark = true then
    (if s.tick.refclk = true ∧ (st ∨ s.tick.tb < s.tick.edgeTb + s.tlen) then { s with tick := { s.tick with tb := s.tick.tb + 48 } } else s)
  else if s.gb .TICK_STATUS 0 F.TICK_STATUS.LOCKED = true then
    (if s.gb .TICK_STATUS 0 F.TICK_STATUS.RUNNING = true ∧ s.tick.edgeTb + s.tickLen 0 ≤ s.tick.tb + 1 then s
     else { s with tick := { s.tick with tb := s.tick.tb + 1 } })
  else s

end Sys2Proof.Machine
end

