-- ==== Sys2Proof/Machine/Boot.lean ====
section
/-!
DEFINITION. Resets, the start-up from the ROM to the first tick, the wake from package states, and faults that fence (R13, R17, R26, R27, R66 to R71, R95 to R104, R110, R111, R118, R322, R521 to R524, R573, R580).
-/
namespace Sys2Proof.Machine

/-! ### Resets (R95, R96) -/

/-- The registers that PORST_N leaves (R526), and those of the always-on PWR and KEEP blocks that P-DEEP leaves as well (R509). -/
def stickyRegs : List Reg := [.PWR_WAKE_CAUSE, .PWR_LAST, .PWR_STICKY]
def deepRegs : List Reg :=
  [.PWR_PKG_CTL, .PWR_PKG_STAT, .PWR_WAKE_EN, .PWR_WAKE_CAUSE, .PWR_STBY_CFG, .PWR_LAST, .PWR_STICKY, .PWR_SLUICE_CFG, .PWR_UNIT_CTL, .PWR_UNIT_STAT,
   .PWR_CORE_CTL, .PWR_CORE_STAT, .PWR_CORE_RVEC_LO, .PWR_CORE_RVEC_HI, .PWR_CC_FREQ, .PWR_REG_CTL, .PWR_REG_STAT,
   .KEEP_STATUS, .KEEP_CNT_CTL, .KEEP_CNT_STAT, .KEEP_LC_CTL, .KEEP_JOB_ADDR_LO, .KEEP_JOB_ADDR_HI, .KEEP_JOB_CTL, .KEEP_JOB_STAT]

/-- The stored values of some registers. -/
def State.onlyRegs (s : State) (rs : List Reg) : Tab (Tab W32) := s.regs.filter (fun e => (rs.map Reg.ctorIdx).contains e.1)

/-- A counter or LIFECYCLE write that PORST_N cuts short leaves the old or the new value (R109, R122): a free choice. -/
def State.cutWrites (s : State) : State :=
  let s : State := match s.keep.incBusy with
    | some i => if s.freeBit then { s with keep := s.keep.setCtr i (s.keep.ctr i + 1) } else s
    | none => s
  let s := s.tick1
  let s : State := match s.keep.lcBusy with
    | some t => if s.freeBit then { s with keep := { s.keep with lifecycle := t } } else s
    | none => s
  s.tick1

/-- What PORST_N leaves of the keep: fuses and counters; DEV_SECRET reads as erased in SCRAPPED (R106). The HSS block in use is lost (R116), and LIFECYCLE takes effect (R122). -/
def State.keepReset (s : State) : Keep :=
  let k := s.keep
  { State.reset.keep with
    devSecret := if k.lifecycle = 0xF then 0 else k.devSecret, slotEc := k.slotEc, slotHss := k.slotHss, provEc := k.provEc, provHss := k.provHss,
    lifecycle := k.lifecycle, lcInForce := k.lifecycle, serial := k.serial, cnt := k.cnt }

/-- PORST_N is low, or the part acts as if it were (`supply`; R95, R96, R573). The power stages stand outside the part, and so do REFCLK, TICK_IN and the level of SYSRST_N. -/
def State.porst (s : State) (supply : Bool) : State :=
  let s := s.cutWrites
  { State.reset with
    pending := s.pending
    free := s.free
    regs := s.onlyRegs stickyRegs
    keep := s.keepReset
    stage := s.stage
    tick := { State.reset.tick with refclk := s.tick.refclk, tickIn := s.tick.tickIn }
    pins := { State.reset.pins with porst := true, supply := supply, sysrst := s.pins.sysrst, ownHigh := s.pins.ownHigh, ownHighAt := 0, fenceLow := s.pins.fenceLow && !s.pins.fenceOut } }

/-- DRAM with these contents. -/
def dramOf (cs : List (Nat × Byte)) : List Host.Cell := cs.foldl (fun m c => if c.1 < 0x4000000000 then memSet m c.1 c.2 else m) []

/-- What an exit from P-DEEP finds (R509, R524): always-on logic and keep alone, with the measurement registers cleared, and DRAM contents that are undefined. -/
def State.deepOff (s : State) : State :=
  let stopped := s.gb .TICK_STATUS 0 F.TICK_STATUS.STOPPED
  let t : State := { State.reset with
    pending := s.pending
    free := s.free + 1
    mem := dramOf (Config.freeCells s.free)
    regs := s.onlyRegs deepRegs
    img := { State.reset.img with sec := s.img.sec }
    keep := { s.keep with mr := [], block := none, hssIdx := 0, said1241 := false, boot := .reset, uart := [], loaderRun := [] }
    stage := s.stage
    tick := { s.tick with dark := true, alignRun := 0, lightDue := none }
    pins := { s.pins with plOn := false, ownOut := false, fenceOut := false, tickOut := false, fenceLow := s.pins.fenceLow && !s.pins.fenceOut }
    pwr := { State.reset.pwr with sluice := [], copies := ([], []) }
    trc := { State.reset.trc with unlocked := s.trc.unlocked } }
  t.pb .TICK_STATUS 0 F.TICK_STATUS.STOPPED stopped

/-- PORST_N_ASSERT (R95, R96); of a part that R573 holds, its release now ends the hold. -/
def execPorstNAssert (s : State) : Out :=
  .next (if s.pins.supply then { s with pins := { s.pins with supply := false } } else if s.pins.porst then s else s.porst false)

/-- SUPPLY_OUT_OF_RANGE (R573): as if PORST_N were asserted, until it is asserted and released. -/
def execSupplyOutOfRange (_n : Supply) (s : State) : Out := .next (if s.pins.porst then s else s.porst true)

/-! ### Signed objects (R103) -/

/-- The code of a firmware object lies in the DRAM above the staging area that the verified image describes; without an image yet, R103 is checked again once it is there (log entry 163). -/
def State.fwFits (s : State) (b : Bytes) : Bool :=
  match parseStruc s.pwr.copies.1 with
  | .ok x => s.pwr.copies.1 == [] || decide (x.staging + 2 ^ 22 + u32 b 16 + (u32 b 24 - 32) ≤ x.dram)
  | .error _ => true

/-- Every check of R103 on an object of this KIND, against this counter. -/
def State.objOk (s : State) (kind ctr : Nat) (b : Bytes) : Bool :=
  s.objHead kind ctr b && (if kind = 1 then loaderFits b else s.fwFits b) && sigBlockOk b (u32 b 24) && s.sigPass b (u32 b 24)

/-- A full image that the part accepts at boot (R58 to R62, R65, R66). -/
def State.imageOk (s : State) (b : Bytes) : Bool :=
  formatOk b false && holdsAll b && s.sigPass b (sigOff b) && decide (s.keep.ctr 2 ≤ u32 b 8)
    && (match parseStruc b with
      | .ok x => (structBad x x (fun j => (x.ent tLOOP j).isSome)).isNone
      | .error _ => false)

/-- The first copy that passes, and its place. -/
def firstCopy (p : Bytes → Bool) : Nat → List Bytes → Option (Nat × Bytes)
  | _, [] => none
  | i, c :: r => if p c then some (i, c) else firstCopy p (i + 1) r

/-! ### Applying the full image (R69, R70) -/

def State.setBoot (s : State) (b : Boot) : State := { s with keep := { s.keep with boot := b } }

/-- PKG: period, source and defaults of the registers that take theirs from it (R148). The tick PLL locks. DESIGN CHOICE: an exit from P-DEEP that finds an image with another PERIOD takes that period, as R524 applies the image found (log entry 184). -/
def State.applyPkg (s : State) : State :=
  let e := s.entD tPKG 0
  let s := s.wr .TICK_CTL 0 (BitVec.ofNat 32 (u8 e 5 * 256 + u8 e 4))
  let s := s.wr .TICK_CFG 0 (BitVec.ofNat 32 (u8 e 1 * 256 + u8 e 0))
  (s.pf .TRC_CTL 0 F.TRC_CTL.TSI (u8 e 2)).pb .TICK_STATUS 0 F.TICK_STATUS.LOCKED true

/-- MEM: the type of each channel, and whether it came up (R546). -/
def State.applyMem (s : State) (trained : BitVec 4) : State :=
  forEach (List.range 4) (fun s k =>
    let ty := u8 (s.entD tMEM k) 1
    s.wr .MC_STATUS k (BitVec.ofNat 32 (ty * 2 + (if ty ≠ 0 ∧ trained.getLsbD k then 1 else 0)))) s

/-- A channel that the image puts in service has not trained. -/
def State.memFails (s : State) (trained : BitVec 4) : Bool := s.chans.any (fun k => !trained.getLsbD k)

/-- PORT: the fans leave 100 %, and a hint port is enabled by its entry (R250, R543). -/
def State.applyPort (s : State) : State :=
  let s := { s with fans := { s.fans with all := false } }
  forEach (List.range 8) (fun s h => s.pb .HINT_CTL h F.HINT_CTL.EN (u8 (s.entD tPORT (portKey 0x21 h)) 3 == 1)) s

/-- REG: registers, service and power of each region (R90, R99); a loop cluster out of service shows it. -/
def State.applyReg (s : State) : State :=
  forEach (List.range 4) (fun s r =>
    let e := s.entD tREG r
    let s := s.regRegs r e
    let les := (List.range 8).map (fun i => 8 * r + i) ++ [32 + r]
    if u8 e 1 = 1 then
      (s.pf .IMG_STATUS 0 F.IMG_STATUS.IN_SERVICE (setBit (s.gf .IMG_STATUS 0 F.IMG_STATUS.IN_SERVICE) r true)).regionOn r e
    else forEach les (fun s j => s.setLe j { s.leAt j with st := .out }) s) s

/-- LOOP: code into the bank that the entry names as initial, data records, write window, and the loop buffer (R70, R204). -/
def State.applyLoop (s : State) : State :=
  forEach (tget [] s.img.sec tLOOP) (fun s p =>
    let bank := u8 p.2 1
    ((((s.loadCode p.1 bank p.2).loadData p.1 p.2).loadWindow p.1 p.2).useBank p.1 bank).bootMode p.1) s

/-- RAIL: every setpoint at SET_INIT. -/
def State.applyRail (s : State) : State := forEach s.rails (fun s r => s.pf .RAIL_SETPT r F.RAIL_SETPT.TARGET (u16 (s.railD r) 12)) s

/-- CMP: the role, and the acting state that it starts in (R303). -/
def State.applyCmp (s : State) (netHeld : Bool) : State :=
  let role := u8 s.cmpD 0
  { s with cmp := { s.cmp with role := role, act := if role = 2 then .joining else .driving, netHeld := netHeld }, pins := { s.pins with ownHigh := !(role != 0 && netHeld) } }

/-- The structure in the order of R69. A failed training refuses the boot. -/
def State.applyImage (s : State) (b : BootMedia) : State :=
  let s : State := { s with copyEcc := b.codeEcc }
  let img := s.pwr.copies.1
  let fw := s.pwr.copies.2
  let x := match parseStruc img with
    | .ok x => x
    | .error _ => []
  let s := { s with img := { s.img with sec := x } }
  let s := (s.applyPkg).applyMem b.trained
  if s.memFails b.trained then
    -- PORT and what follows it are not applied
    { s.setBoot .refused with copyEcc := [], img := { s.img with sec := x.filter (fun e => e.1 == tPKG || e.1 == tMEM) }, pins := { s.pins with alertBoot := true } }
  else
    let s := ((s.applyPort).applyReg).plGranules
    let s := (((s.evdLoad).applyLoop).applyRail).applyCmp b.netHeld
    let s := (s.wr .IMG_ID 0 (BitVec.ofNat 32 (u32 img 8))).putHash .IMG_HASH (Config.sha384 (img.take (sigOff img)))
    let s := s.pf .KEEP_STATUS 0 F.KEEP_STATUS.KEY_SLOT (u16 img (sigOff img + 4))
    let s := { s with img := { s.img with floors := (u32 s.keep.loaderRun 12, u32 fw 12, u32 img 12) } }
    let s := s.mput s.fwBase (objCode fw)
    -- events that the start-up met, now that the distributor runs (R100, R110, R118)
    let s := if s.gb .KEEP_STATUS 0 F.KEEP_STATUS.ALT_COPY then s.raise 1244 else s
    let s := if s.keep.trngOk then s else s.raise 1243
    let s := if s.keep.exhausted then s.exhaust else s
    { (s.startFw).setBoot .applied with copyEcc := [] }

/-- ALERT_N goes low and the part waits for objects on UART 0 (R101, R102). -/
def State.awaitUart (s : State) (b : Boot) : State := { s.setBoot b with pins := { s.pins with alertBoot := true } }

/-- The image and the firmware are both there: apply; else wait for what is missing. A firmware copy that the image's DRAM does not hold is refused (R103). -/
def State.objectsDone (s : State) (b : BootMedia) : State :=
  let s : State := if s.fwFits s.pwr.copies.2 then s else { s with pwr := { s.pwr with copies := (s.pwr.copies.1, []) } }
  if s.pwr.copies.1 ≠ [] ∧ s.pwr.copies.2 ≠ [] then { s with pins := { s.pins with alertBoot := false } }.applyImage b else s.awaitUart .waitObject

def State.tookImage (s : State) (b : Bytes) : State :=
  { s.measure 2 b (sigOff b) with pwr := { s.pwr with copies := (b, s.pwr.copies.2) } }
def State.tookFw (s : State) (b : Bytes) : State :=
  { s.measure 3 b (u32 b 24) with pwr := { s.pwr with copies := (s.pwr.copies.1, b) } }

/-- The loader runs: it is measured and copied into the basin, and it looks for the image and the firmware (R102, R103). -/
def State.runLoader (s : State) (l : Bytes) (b : BootMedia) : State :=
  let s := s.romRun l
  let s := match firstCopy s.imageOk 0 (b.images.take 2) with
    | some (_, x) => s.tookImage x
    | none => s
  let s := match firstCopy (s.objOk 2 1) 0 (b.firmwares.take 2) with
    | some (_, x) => s.tookFw x
    | none => s
  s.objectsDone b

/-- The boot from the ROM step (R99 to R103, R110, R111, R118). -/
def State.bootRom (s : State) (b : BootMedia) : State :=
  let s := { s with keep := { s.keep with trngOk := b.trngOk, exhausted := s.keep.exhausted || decide (1048576 ≤ s.keep.ctr 3) } }
  let s := s.pb .KEEP_STATUS 0 F.KEEP_STATUS.TRNG_FAIL (!b.trngOk)
  let s := if s.keep.exhausted then s.pb .KEEP_STATUS 0 F.KEEP_STATUS.LMS_EXH true else s
  let s : State := { s with keep := { s.keep with idEc := s.keep.derive.1, idHss := s.keep.derive.2 } }
  let s := s.mrExtend 0 (dig384 s.keep.romDigest)
  match firstCopy (s.objOk 1 0) 0 (b.loaders.take 4) with
  | some (i, l) => (s.pb .KEEP_STATUS 0 F.KEEP_STATUS.ALT_COPY (i != 0)).runLoader l b
  | none => s.awaitUart .waitLoader

/-- PORST_N_RELEASE (R99); with SYSRST_N still low the boot waits for it (R580). -/
def execPorstNRelease (b : BootMedia) (s : State) : Out :=
  .next (
    if !s.pins.porst ∨ s.pins.supply then s
    else
      let s : State := { s with pins := { s.pins with porst := false, railFaultForced := false } }
      if s.pins.sysrst then s.setBoot .held else s.bootRom b)

/-- Length of the object whose first bytes these are; none when no object begins so. -/
def objLen (b : Bytes) : Option Nat :=
  if u32 b 0 = 0x4C585258 then some (u32 b 24 + 3544) else if u32 b 0 = 0x584E5455 then some (u32 b 36) else none

/-- An object received on UART 0 (R101, R102). -/
def State.uartObject (s : State) (o : Bytes) (b : BootMedia) : State :=
  let rec_ (s : State) : State := s.pb .KEEP_STATUS 0 F.KEEP_STATUS.RECOVERY true
  match s.keep.boot with
  | .waitLoader => if s.objOk 1 0 o then { rec_ s with pins := { s.pins with alertBoot := false } }.runLoader o b else s
  | .waitObject =>
    if s.pwr.copies.1 = [] ∧ s.imageOk o = true then ((rec_ s).tookImage o).objectsDone b
    else if s.pwr.copies.2 = [] ∧ s.objOk 2 1 o = true then ((rec_ s).tookFw o).objectsDone b
    else s
  | _ => s

/-- UART_LOADER_BLOCK (R101, R102): one block of 1,024 bytes and its CRC-32; a block whose CRC fails is dropped. A loader received so looks at no loader copy and runs no self-test. -/
def execUartLoaderBlock (blk : Bytes) (crc : W32) (f : BootFlash) (b : BootSite) (s : State) : Out :=
  if !(Instr.uartLoaderBlock blk crc f b).wf then .fault .illFormed
  else .next (
    if (s.keep.boot ≠ .waitLoader ∧ s.keep.boot ≠ .waitObject) ∨ s.keep.lcInForce = 0xF ∨ crc32 blk ≠ crc.toNat then s
    else
      let u := s.keep.uart ++ blk
      match objLen u with
      | none => { s with keep := { s.keep with uart := [] } }
      | some n =>
        if n ≤ u.length then ({ s with keep := { s.keep with uart := [] } }).uartObject (u.take n) { toBootFlash := f, toBootSite := b, trngOk := s.keep.trngOk, loaders := [] }
        else { s with keep := { s.keep with uart := u } })

/-! ### The first tick (R67, R69, R104, R131, R182, R271, R303, R304, R322) -/

/-- A PRIMARY that read PAIR_OWN_N low throughout the 2 ms before its tick starts becomes SECONDARY (R322). -/
def State.roleAtStart (s : State) : State :=
  if s.cmp.role = 1 ∧ s.cmp.netHeld = true then { s with cmp := { s.cmp with role := 2, act := if s.follow then .joining else .blocked } } else s

/-- TICK_START (R69): the edge of tick 1; after P-DEEP, the next edge of the ticks counted in the dark (R522). TIMEBASE at tick 1 is free: the spec does not say how long after its lock the PLL starts the tick. -/
def execTickStart (s : State) : Out :=
  .next (
    if s.keep.boot ≠ .applied ∨ s.gb .TICK_STATUS 0 F.TICK_STATUS.STOPPED = true then s
    else
      let deep := s.tick.dark
      let s := if deep then s.countEdge 1 else
          let t := s.tick.tb + s.freeNat
          { s with tick := { s.tick with count := 1, tb := t, edgeTb := t } }.tick1
      let s := ((s.setBoot .running).pb .IMG_STATUS 0 F.IMG_STATUS.LOADED true).pb .TICK_STATUS 0 F.TICK_STATUS.RUNNING true
      let s := (s.roleAtStart).lightPorts
      let f := s.img.floors
      let s := ((s.floorUp 0 f.1).floorUp 1 f.2.1).floorUp 2 f.2.2
      let s := if s.cmp.role ≠ 2 ∧ (!deep ∨ s.gb .PWR_STBY_CFG 0 F.PWR_STBY_CFG.AUTO_UP = true) then s.seqUp else s
      let s := if deep then (s.pf .PWR_PKG_STAT 0 F.PWR_PKG_STAT.STATE 0).raise 1221 else s
      (s.unitsEdge.leEdge).hbSend)

/-! ### SYSRST_N (R95, R97, R98, R580) -/

/-- Core-side units, the L2s among them, mailboxes, DMA engines, event distributor, port controllers and stalls return to reset (R26, R95, R498). -/
def State.sysReset (s : State) : State :=
  let s := forEach (List.range 32) (fun s n => (s.dropLines (s.cor n).l1d).coreOff n) s
  let s := s.clearRegs [.DMA_GRP_PEND, .DMA_RQ_CFG, .CH_CTL, .CH_STAT, .CH_OWN, .DBG_CORE_STAT]
  let s := { s with dma := { s.dma with ch := [], held := [], out := [] }, l2 := [] }
  let s := forEach (List.range 128) State.mbxReset s
  let s := forEach (List.range 52) (fun s u => s.unitReset1 10 u) s
  s.stlResetAll.evdLoad

/-- The part runs its image, in service or in P-STANDBY; P-DEEP holds nothing that SYSRST_N resets. -/
def State.resettable (s : State) : Bool := !s.pins.porst && (s.keep.boot == .applied || s.keep.boot == .running) && s.pwr.asleep != 2

/-- SYSRST_N_ASSERT (R95, R98): an amendment held before its commit point is ABORTED; a committed one still takes effect. While the pin is low no core starts and no controller takes part (coreStart, portOn). -/
def execSysrstNAssert (s : State) : Out :=
  .next (
    let s := { s with pins := { s.pins with sysrst := true } }
    if !s.resettable then s
    else
      let s := s.imgCancel
      let s : State := if s.pwr.step.isSome then { s with pwr := { s.pwr with abort := true } }
        else { s.pb .PWR_PKG_STAT 0 F.PWR_PKG_STAT.PENDING false with pwr := { s.pwr with writer := none } }
      s.sysReset)

/-- SYSRST_N_RELEASE (R97): the units leave reset as they entered it, whatever came to them meanwhile (log entry 171), and level-M firmware starts again; a boot that waited for it begins (R580). -/
def execSysrstNRelease (b : BootMedia) (s : State) : Out :=
  .next (
    if !s.pins.sysrst then s
    else
      let s : State := { s with pins := { s.pins with sysrst := false } }
      let s := if s.resettable then s.sysReset else s
      if s.pins.porst then s
      else match s.keep.boot with
        | .held => s.bootRom b
        | .applied => s.startFw
        | .running => if s.pwr.asleep = 0 then s.startFw else s
        | _ => s)

/-! ### Waking from a package state (R521, R523, R524) -/

/-- Exit from P-DEEP: the boot from the ROM step, and the first tick by TICK_START (R524). -/
def State.deepExit (s : State) (b : BootMedia) : State := ((s.deepOff).pf .PWR_PKG_STAT 0 F.PWR_PKG_STAT.STATE 3).bootRom b

/-- LE j as the standby record restores it (R523): code of its active bank, data records of the LOOP entry. -/
def State.restoreLe (s : State) (y : Standby) (j : Nat) : State :=
  let bank := tget 0 y.bank j
  let (lens, modes) := tget ([], []) y.lens j
  let s := if j < 32 then s.mput (leBase j + 0x2000 * bank) (tget [] y.code j) else s
  let s := s.setLe j { LoopEngine.init with codeLen := lens, initMode := modes, st := if s.inService (lcOf j) then .idle else .out }
  match tget? (tget [] y.sec tLOOP) j with
  | some e => (((s.loadData j e).loadWindow j e).useBank j bank).bootMode j
  | none => (s.useBank j bank).bootMode j

/-- Exit from P-STANDBY (R523): the compute dies start from reset, with the regions, the loop clusters and their code as the standby record has them; what ED holds stands. The tick is lit at the next edge. DESIGN CHOICE: after a stop of the tick there is no such edge, and firmware starts at once (log entry 213). -/
def State.stbyExit (s : State) (y : Standby) (cp : CopyEcc) : State :=
  let s := { s with copyEcc := cp, pwr := { s.pwr with asleep := 0, abort := false, stby := none, digest := none, writer := none, act := none, acted := none }, img := { s.img with sec := y.sec } }
  let s := { s with mem := s.mem.filter (fun e => !(List.range 4).any (fun r => regionMem r e.1)), lc := [] }
  let s := s.clearRegs ((lcRegs.map Prod.fst) ++ [.MC_ECC, .MC_ERR_ADDR_LO, .MC_ERR_ADDR_HI, .DMA_GRP_PEND, .DMA_RQ_CFG, .CH_CTL, .CH_STAT, .CH_OWN])
  let s := { s with dma := { s.dma with ch := [], held := [], out := [], req := [] } }
  let s := forEach (List.range 4) (fun s r => s.unitReset1 4 r) s
  let s : State := { forEach (List.range 36) (fun s j => s.restoreLe y j) s with copyEcc := [] }
  let s := forEach ((List.range 4).filter s.inService) (fun s r => s.regionOn r (s.entD tREG r)) s
  let s : State := if s.cmp.role = 2 then { s with cmp := { s.cmp with act := .joining, ready := false, joinRun := 0 } } else s
  let s := s.pf .PWR_PKG_STAT 0 F.PWR_PKG_STAT.STATE 3
  if s.gb .TICK_STATUS 0 F.TICK_STATUS.STOPPED then s.stbyUp else { s with tick := { s.tick with lightDue := some true } }

/-- An exit from a package state: P-STANDBY by the standby record while the copies in DRAM match the digests of the entry, else the boot from the ROM step (R523, R524). -/
def State.pkgExit (s : State) (f : DramCopies) (m : BootMedia) : State :=
  match s.pwr.stby, s.pwr.digest with
  | some y, some d =>
    if Config.sha384 f.image = d.1 ∧ Config.sha384 f.firmware = d.2.1 ∧ Config.sha384 f.record = d.2.2 then s.stbyExit y m.codeEcc
    else (s.pb .PWR_LAST 0 F.PWR_LAST.DIGEST true).deepExit m
  | _, _ => s.deepExit m

/-- The frame wakes the port: it goes to the unicast address of the part, or holds a Wake-on-LAN magic packet for it (R521). -/
def State.wakesEth (s : State) (b : Bytes) : Bool :=
  let mac := slice (beBytes 8 s.cpuMac) 2 6
  let magic := List.replicate 6 0xFF ++ (List.replicate 16 mac).flatten
  slice b 0 6 == mac || (List.range b.length).any (fun i => slice b i 102 == magic)

/-- The bit of R521 that a pattern sets, where the configuration lets it wake. -/
def State.wakeBit (s : State) (w : WakeSrc) : Option Nat :=
  let gate (c : Bool) (b : Nat) : Option Nat := if c then some b else none
  match w with
  | .wakeN => some 0
  | .gpio g pat us =>
    let e := s.entD tPORT (portKey 0x0C g)
    gate (u8 e 3 == 5 && u8 e 5 == pat.val && decide (u8 e 6 ≤ us)) 1
  | .twoWire c a => gate (s.portOn (portU 6 c) && s.targetAt (portU 6 c) a.toNat) 2
  | .i3c i => gate (s.portOn (portU 7 i)) 3
  | .pcie h => gate (s.portOn (portU 1 h)) (4 + h.val)
  | .eth code f =>
    let k := code.toNat
    gate (decide (k = s.gf .PWR_STBY_CFG 0 F.PWR_STBY_CFG.ETH) && (k ≤ 1 || 8 ≤ k) && s.portOn (if k ≤ 1 then portU 3 k else portU 4 (k - 8))
      && (match f with
        | none => true
        | some b => s.wakesEth b)) 6
  | .companion b => gate (s.paired && s.hbValid b) 7
  | .phase n => gate (s.plGen n != 0 && !s.fenced 6 n) 8
  | .hint h => gate (s.hintOn h && s.gb .HINT_CTL h F.HINT_CTL.EN && !s.fenced 7 h) 9
  | .stood => none

/-- A two-wire address that wakes the part is NACKed (R521). -/
def State.wakeNack (s : State) (w : WakeSrc) : State :=
  match w with
  | .twoWire c _ => s.setXp (portU 6 c) { s.xp (portU 6 c) with out := .nack }
  | _ => s

/-- PACKAGE_WAKE (R520, R521, R523, R524): the pattern that has come, what an exit finds in DRAM, and what a boot finds. A wake up to AP5 abandons the entry; one in step 6 exits as soon as that step is done, and so does the wake of a core that stood there (`stood`). -/
def execPackageWake (w : WakeSrc) (f : DramCopies) (m : BootMedia) (s : State) : Out :=
  .next (
    if s.pins.porst ∨ (s.pwr.asleep = 0 ∧ s.pwr.step.isNone) then s
    else
      match w, s.wakeBit w with
      | .stood, _ => if s.pwr.asleep ≠ 0 ∧ s.pwr.abort = true then s.pkgExit f m else s
      | _, none => s
      | _, some b =>
        if !s.getB .PWR_WAKE_EN 0 b ∨ ((s.pwr.asleep = 2 ∨ (s.pwr.step.isSome ∧ s.pwr.target = 2)) ∧ 3 ≤ b) then s
        else
          let s := (s.setB .PWR_WAKE_CAUSE 0 b).wakeNack w
          if s.pwr.step.isSome ∧ s.pwr.step ≠ some 6 then { s with pwr := { s.pwr with abort := true } }
          else (if s.pwr.step = some 6 then s.pkgStep 6 else s).pkgExit f m)

/-! ### Faults that fence (R13, R17, R26, R27) -/

/-- VCORE_OUT_OF_RANGE (R26). -/
def execVcoreOutOfRange (r : Fin 4) (s : State) : Out := .next (s.fenceRegion r)

/-- The source that R432 gives to a unit of R525, where it gives one. -/
def unitSource : Nat → Nat → Option Nat
  | 6, n => some n
  | 7, h => some (172 + h)
  | 8, n => some (if n < 64 then 180 + n / 8 else 188)
  | 9, m => some (256 + m)
  | 10, u => some (768 + u)
  | _, _ => none

/-- An uncorrectable fault in an LE: it is fenced at once, and nothing more leaves it; a cause to yield when it serves a rail and the spare serves another LE (R13, R315). -/
def State.fenceLe (s : State) (j : Nat) : State :=
  let x := s.leAt j
  let busy := match (s.lcAt (lcOf j)).spareFor with
    | some k => k != j
    | none => false
  let s : State := if (s.leServes j).isSome && busy then { s with cmp := { s.cmp with yield := true } } else s
  let s := s.setLe j { x with st := .fenced, cmd := x.cmd.filter (fun e => e.2.released), wait := none, sh := none }
  (s.setUnit 1 j { s.unitAt 1 j with fenced := true }).raise (128 + j)

/-- The fault of one unit of R525. -/
def State.fenceUnit (s : State) (kind idx : Nat) : State :=
  if kindCount kind ≤ idx then s
  else
    match kind with
    | 0 => s.fenceCore idx
    | 1 => s.fenceLe idx
    | 2 => s.fenceLc idx
    | 3 => s.fenceRegion idx
    | 4 => s.fenceRegion idx
    | _ =>
      let s := (s.setFence kind idx).withdraw
      match unitSource kind idx with
      | some e => s.raise e
      | none => s

/-- UNCORRECTABLE_FAULT (R13): the unit is fenced before its fault event is raised. -/
def execUncorrectableFault (u : FaultUnit) (s : State) : Out :=
  if !(Instr.uncorrectableFault u).wf then .fault .illFormed
  else .next (match u with
    | .unit k i => s.fenceUnit k.val i.toNat
    | .l2 k => s.fenceCluster k
    | .regionFabric r => s.fenceRegion r
    | .sharedLoop c => s.fenceLc c)

end Sys2Proof.Machine
end

