-- ==== Sys2Proof/Machine/Fabric.lean ====
section
/-!
DEFINITION. One access of a requester to a physical address: the memories, control space, and the windows of RP0, xSPI and the ROM (R44, R45, R53, R532).
-/
namespace Sys2Proof.Machine

/-- An access is a naturally aligned 32-bit or 64-bit access (R53). -/
def ctlShape (a n : Nat) : Bool := (n == 4 || n == 8) && a % n == 0

/-- A bus error at either half of a 64-bit access, before either has an effect. -/
def State.gateBus (s : State) (q : Req) (a : Nat) (write : Bool) : Option (Option Nat) :=
  match s.gate q a write with
  | .bus d => some d
  | _ => none

/-- A read of control space: 4 bytes, or 8 from two registers, the lower address first. -/
def State.ctlRead (s : State) (q : Req) (a n : Nat) : State × Option Bytes :=
  if !ctlShape a n then (s, none)
  else
    match s.gateBus q a false, (if n = 8 then s.gateBus q (a + 4) false else none) with
    | some d, _ => (s.denied d, none)
    | none, some d => (s.denied d, none)
    | none, none =>
      let x := s.ctlRd q a
      if n = 4 then (x.1, x.2.map (fun v => leBytes 4 v.toNat))
      else
        let y := x.1.ctlRd q (a + 4)
        (y.1, some (leBytes 4 (x.2.getD 0).toNat ++ leBytes 4 (y.2.getD 0).toNat))

/-- A write of control space. DESIGN CHOICE: of the two registers of a 64-bit write the one at the lower address takes effect first, for the spec gives their places alone (log entry 219). -/
def State.ctlWrite (s : State) (q : Req) (a : Nat) (b : Bytes) : State × Bool :=
  if !ctlShape a b.length then (s, false)
  else
    match s.gateBus q a true, (if b.length = 8 then s.gateBus q (a + 4) true else none) with
    | some d, _ => (s.denied d, false)
    | none, some d => (s.denied d, false)
    | none, none =>
      let x := s.ctlWr q a (BitVec.ofNat 32 (u32 b 0))
      if b.length = 4 then x else x.1.ctlWr q (a + 4) (BitVec.ofNat 32 (u32 b 4))

/-- The port of a window answers: RP0 with its link up, an xSPI controller while it is not fenced. -/
def State.windowOpen (s : State) (u : Nat) (link : Bool) : Bool := s.unitAns 10 u false && (!link || s.linkUp u)

/-- A read of `n` bytes by requester q. What a window's device or the flash answers is a free value (log entry 153). -/
def State.busRd (s : State) (q : Req) (a n : Nat) : State × Option Bytes :=
  match s.rgn a with
  | .ctl => s.ctlRead q a n
  -- the device answers with data or with an error completion; with its link down nothing answers (R532, R547)
  | .rp0 =>
    if !s.unitAns 10 2 false then (s, none)
    else if !s.linkUp 2 then (s.portTmo 2, none)
    else if s.freeBit then (s.tick1.portErr 2, none)
    else (s.tick1, some (s.freeBs n))
  | .rom => (s, some ((List.range n).map (fun i => Config.rom (a - 0x400000000000 + i))))
  | .xspi k => if s.windowOpen (46 + k) false then (s.tick1, some (s.freeBs n)) else (s, none)
  | _ => (s, s.memRd q a n)

/-- A write by requester q; false is a bus error. -/
def State.busWr (s : State) (q : Req) (a : Nat) (b : Bytes) : State × Bool :=
  match s.rgn a with
  | .ctl => s.ctlWrite q a b
  | .rp0 => (s, s.windowOpen 2 true)
  | .rom => (s, false)
  | .xspi _ => (s, false)
  | _ => s.memWr q a b

end Sys2Proof.Machine
end

