-- ==== Sys2Proof/Machine/StallRows.lean ====
section
/-!
DEFINITION. The commands of the stall pages (chapter 16).
-/
namespace Sys2Proof.Machine

/-- A write at offset `o` of stall i's page that reaches one of its map registers (R497). -/
def State.mapCmd (s : State) (who : Req) (i o : Nat) (v : W32) : State :=
  match Reg.at (0x200000D00000 + i * 0x1000 + o) with
  | some (r, x) => if (stlMaps.map (·.1)).contains r then s.regCmd who r x v else s
  | none => s

/-- One access of `n` bytes by a requester: a read, or a write of the low bytes of `w`; `reply` records the answer. -/
def State.access1 (s : State) (q : Req) (a n : Nat) (w : Option W64) : State :=
  match w with
  | none =>
    (match s.busRd q a n with
      | (t, some b) => { t with reply := .value (BitVec.ofNat 64 (ofBytes b)) }
      | (t, none) => { t with reply := .busError })
  | some x =>
    (match s.busWr q a (leBytes n x.toNat) with
      | (t, true) => { t with reply := .none }
      | (t, false) => { t with reply := .busError })

/-- BIND (R498): Stall command BIND binds a free stall to its SID. -/
def execBind (i : Fin 256) (who : Req) (v : W32) (s : State) : Out := .next (s.regCmd who .STL_CTL i (F.STL_CTL.CMD.put v 1))

/-- QUIESCE (R500): Stall command QUIESCE blocks tenant access and drains the stall. -/
def execQuiesce (i : Fin 256) (who : Req) (v : W32) (s : State) : Out := .next (s.regCmd who .STL_CTL i (F.STL_CTL.CMD.put v 2))

/-- STALL_RESUME (R498): Stall command RESUME returns QUIET to BOUND. -/
def execStallResume (i : Fin 256) (who : Req) (v : W32) (s : State) : Out := .next (s.regCmd who .STL_CTL i (F.STL_CTL.CMD.put v 3))

/-- FREEZE (R501): Stall command FREEZE moves QUIET to FROZEN. -/
def execFreeze (i : Fin 256) (who : Req) (v : W32) (s : State) : Out := .next (s.regCmd who .STL_CTL i (F.STL_CTL.CMD.put v 4))

/-- THAW (R501): Stall command THAW moves FROZEN to QUIET. -/
def execThaw (i : Fin 256) (who : Req) (v : W32) (s : State) : Out := .next (s.regCmd who .STL_CTL i (F.STL_CTL.CMD.put v 5))

/-- SAVE (R502): Stall command SAVE writes the 4 KiB state record. -/
def execSave (i : Fin 256) (who : Req) (v : W32) (s : State) : Out := .next (s.regCmd who .STL_CTL i (F.STL_CTL.CMD.put v 6))

/-- RESTORE (R503): Stall command RESTORE loads a record into a free stall. -/
def execRestore (i : Fin 256) (who : Req) (v : W32) (s : State) : Out := .next (s.regCmd who .STL_CTL i (F.STL_CTL.CMD.put v 7))

/-- STALL_RESET (R504): Stall command RESET clears slot state and keeps maps. -/
def execStallReset (i : Fin 256) (who : Req) (v : W32) (s : State) : Out := .next (s.regCmd who .STL_CTL i (F.STL_CTL.CMD.put v 8))

/-- REMOVE (R504): Stall command REMOVE clears the stall and frees it. -/
def execRemove (i : Fin 256) (who : Req) (v : W32) (s : State) : Out := .next (s.regCmd who .STL_CTL i (F.STL_CTL.CMD.put v 9))

/-- STL_BIND_WRITE (R498): A write of STL_BIND sets the SID or is ignored with BUSY. -/
def execStlBindWrite (i : Fin 256) (who : Req) (v : W32) (s : State) : Out := .next (s.regCmd who .STL_BIND i v)

/-- STL_MAP_WRITE (R497): A map write takes effect or is refused with BUSY, LIMIT or CONFLICT. -/
def execStlMapWrite (i : Fin 256) (o : BitVec 12) (who : Req) (v : W32) (s : State) : Out := .next (s.mapCmd who i o.toNat v)

/-- RING (R507): STL_T_BELL.RING raises doorbell 512 + s and sets BELL. -/
def execRing (i : Fin 256) (who : Req) (v : W32) (s : State) : Out := .next (s.regCmd who .STL_T_BELL i (v ||| 1))

/-- STL_T_EN_SET (R507): The tenant enables its slot sources. -/
def execStlTEnSet (i : Fin 256) (who : Req) (v : W32) (s : State) : Out := .next (s.regCmd who .STL_T_EN_SET i v)

/-- STL_T_EN_CLR (R507): The tenant disables its slot sources. -/
def execStlTEnClr (i : Fin 256) (who : Req) (v : W32) (s : State) : Out := .next (s.regCmd who .STL_T_EN_CLR i v)

/-- STL_T_PEND_CLR (R507): The tenant clears PEND of its slot sources. -/
def execStlTPendClr (i : Fin 256) (who : Req) (v : W32) (s : State) : Out := .next (s.regCmd who .STL_T_PEND_CLR i v)

/-- STL_T_BSN_ALLOC (R505): A tenant read allocates a granule tagged with the stall. -/
def execStlTBsnAlloc (i : Fin 256) (who : Req) (s : State) : Out := .next (s.regGet who .STL_T_BSN_ALLOC i)

/-- STL_T_BSN_FREE (R505): A tenant write frees a granule tagged with the stall. -/
def execStlTBsnFree (i : Fin 256) (who : Req) (v : W32) (s : State) : Out := .next (s.regCmd who .STL_T_BSN_FREE i v)

/-- LV_READ (R506): Ledger-view command READ returns a series of the view. -/
def execLvRead (i : Fin 256) (who : Req) (v : W32) (s : State) : Out := .next (s.regCmd who .STL_T_LV_CMD i ((v ||| 0x80000000) &&& ~~~(0x10000000 : W32)))

/-- SETTHR (R506): Ledger-view command SETTHR writes thresholds of a series. -/
def execSetthr (i : Fin 256) (who : Req) (v : W32) (s : State) : Out := .next (s.regCmd who .STL_T_LV_CMD i (v ||| 0x90000000))

/-- STALL_PAGE_ACCESS (R499): An access to a stall page, refused with a bus error and DENIED where not permitted. -/
def execStallPageAccess (i : Fin 256) (o : BitVec 12) (k : Fin 4) (who : Req) (w : Option W64) (s : State) : Out := .next (s.access1 who (0x200000D00000 + i.val * 0x1000 + o.toNat) (2 ^ k.val) w)

end Sys2Proof.Machine
end

