-- ==== Sys2Proof/Machine/DebugRows.lean ====
section
/-!
DEFINITION. The commands of trace and debug, and of registers without a row of their own (chapters 01 and 19).
-/
namespace Sys2Proof.Machine

/-- A timestamp of core n falls due (R555): the core counts cycles, in C0 or C1. -/
def State.tsDue (s : State) (n : Nat) : State :=
  if (s.cor n).st = .run ∨ (s.cor n).st = .c1 then s.emitCore n s.tsPkt else s

/-- Room returns in a FIFO (R557): OVF for what was lost, then the packets held, oldest first; a core that is stalled no longer takes the HALT that waits for it (R562). -/
def State.fifoRoom (s : State) (id : Nat) : State :=
  let s := s.ovfTry id
  let s := if (s.tsrc id).lost = 0 then forEach (List.range (s.tsrc id).held.length) (fun s _ => s.release1 id) s else s
  if id < 32 then s.haltWaits id else s

/-- The requester behind the debug JTAG port (R561). -/
def dbgReq : Req := { agent := .debug, lvl := .m, sid := 0, cls := 0 }

/-- An access of the debug access path (R53, R561, R566): while it is locked it reaches TRC_DBG_STATUS only, and while the part is held in reset nothing (R95, R573). -/
def State.debugAccess (s : State) (a n : Nat) (w : Option W64) : State :=
  if ctlShape a n && !s.pins.porst && (s.dbgOpen || decide (a = Reg.TRC_DBG_STATUS.desc.addr)) then s.access1 dbgReq a n w else { s with reply := .busError }

/-- A write at an address of control space, 32 bits (R4 to R7, R53). -/
def State.regWriteRow (s : State) (who : Req) (a : Nat) (v : W32) : State :=
  if s.rgn a = .ctl then s.access1 who a 4 (some (v.setWidth 64)) else { s with reply := .busError }

/-- A read at an address of control space, 32 bits (R4 to R7, R53). -/
def State.regReadRow (s : State) (who : Req) (a : Nat) : State :=
  if s.rgn a = .ctl then s.access1 who a 4 none else { s with reply := .busError }

/-- TS (R555): A core emits a timestamp every 2^TSI cycles or before the CC count overflows. -/
def execTs (n : Fin 32) (s : State) : Out := .next (s.tsDue n)

/-- TRACE_FIFO_ROOM (R557): Room returns in a full trace FIFO, releasing a stalled core or emitting OVF and SYNC. -/
def execTraceFifoRoom (id : BitVec 16) (s : State) : Out := .next (s.fifoRoom id.toNat)

/-- FUNNEL_FRAME (R558): The funnel writes or sends a 16-byte frame to the sink. -/
def execFunnelFrame (id : BitVec 16) (s : State) : Out := .next (s.funnel id.toNat)

/-- TRC_CTL_WRITE (R556): A write of TRC_CTL sets trace control, and EN changing to 1 emits SYNC. -/
def execTrcCtlWrite (who : Req) (v : W32) (s : State) : Out := .next (s.regCmd who .TRC_CTL 0 v)

/-- DEBUG_ACCESS (R561): An access by the debug access path with level-M rights, or refused while locked. -/
def execDebugAccess (a : BitVec 48) (k : Fin 4) (w : Option W64) (s : State) : Out := .next (s.debugAccess a.toNat (2 ^ k.val) w)

/-- HALT (R562): DBG_CORE_CTL.HALT stops the core at the next allowed boundary. -/
def execHalt (n : Fin 32) (who : Req) (v : W32) (s : State) : Out := .next (s.regCmd who .DBG_CORE_CTL n (v ||| 1))

/-- DBG_RESUME (R562): DBG_CORE_CTL.RESUME continues a halted core. -/
def execDbgResume (n : Fin 32) (who : Req) (v : W32) (s : State) : Out := .next (s.regCmd who .DBG_CORE_CTL n (v ||| 2))

/-- STEP (R562): DBG_CORE_CTL.STEP executes one instruction and halts. -/
def execStep (n : Fin 32) (who : Req) (v : W32) (s : State) : Out := .next (s.regCmd who .DBG_CORE_CTL n (v ||| 4))

/-- DBG_CORE_DATA_WRITE (R562): A write of DBG_CORE_DATA writes the selected register of a halted core. -/
def execDbgCoreDataWrite (n : Fin 32) (hi : Bool) (who : Req) (v : W32) (s : State) : Out := .next (s.regCmd who (if hi then .DBG_CORE_DATA_HI else .DBG_CORE_DATA_LO) n v)

/-- STEP_EN (R564): DBG_LE_CTL.STEP_EN enters or leaves LE single-tick stepping, or sets STEPREF. -/
def execStepEn (j : Fin 36) (who : Req) (v : W32) (s : State) : Out := .next (s.regCmd who .DBG_LE_CTL j v)

/-- GO (R564): DBG_LE_CTL.GO lets a stepped LE run the next tick. -/
def execGo (j : Fin 36) (who : Req) (v : W32) (s : State) : Out := .next (s.regCmd who .DBG_LE_CTL j (v ||| 4))

/-- DBG_LE_DATA_WRITE (R564): A write of DBG_LE_DATA writes the selected register of a held LE. -/
def execDbgLeDataWrite (j : Fin 36) (who : Req) (v : W32) (s : State) : Out := .next (s.regCmd who .DBG_LE_DATA j v)

/-- DEBUG_UNLOCK (R567): TRC_DBG_UNLOCK.GO unlocks the debug path if the class holds DEBUG, else sets REFUSED. -/
def execDebugUnlock (who : Req) (v : W32) (s : State) : Out := .next (s.regCmd who .TRC_DBG_UNLOCK 0 (v ||| 0x80000000))

/-- DEBUG_LOCK (R567): TRC_DBG_UNLOCK.LOCK locks the debug path. -/
def execDebugLock (who : Req) (v : W32) (s : State) : Out := .next (s.regCmd who .TRC_DBG_UNLOCK 0 (v ||| 1))

/-- DEBUG_BOOT (R566): TRC_DBG_UNLOCK.BOOT in TEST makes the ROM run the object at basin offset 0. -/
def execDebugBoot (who : Req) (v : W32) (s : State) : Out := .next (s.regCmd who .TRC_DBG_UNLOCK 0 (v ||| 2))

/-- REGISTER_WRITE (R4): A write to a register with no row of its own takes effect by its access codes and level rights. -/
def execRegisterWrite (a : BitVec 48) (who : Req) (v : W32) (s : State) : Out := .next (s.regWriteRow who a.toNat v)

/-- REGISTER_READ_CLEAR (R4): A read of a register field of access RC returns its value and clears it to 0. -/
def execRegisterReadClear (a : BitVec 48) (who : Req) (s : State) : Out := .next (s.regReadRow who a.toNat)

end Sys2Proof.Machine
end

