-- ==== Sys2Proof/Machine/DmaRows.lean ====
section
/-!
DEFINITION. The commands of the DMA channels and the basin (chapter 15).
-/
namespace Sys2Proof.Machine

/-- CH_START (R486): CH_CTL.START starts a channel from FIRST_BARGE or its saved position. -/
def execChStart (e : Fin 4) (i : Fin 1024) (who : Req) (v : W32) (s : State) : Out := .next (s.regCmd who .CH_CTL (chNum e i) (v ||| 2))

/-- CH_STOP (R487): CH_CTL.STOP stops a channel at its barge boundary or at once. -/
def execChStop (e : Fin 4) (i : Fin 1024) (who : Req) (v : W32) (s : State) : Out := .next (s.regCmd who .CH_CTL (chNum e i) (v ||| 4))

/-- CH_PAUSE (R488): CH_CTL.PAUSE drains a priority channel to PAUSED. -/
def execChPause (e : Fin 4) (i : Fin 1024) (who : Req) (v : W32) (s : State) : Out := .next (s.regCmd who .CH_CTL (chNum e i) (v ||| 8))

/-- CH_RESUME (R488): CH_CTL.RESUME continues a paused channel from its exact element. -/
def execChResume (e : Fin 4) (i : Fin 1024) (who : Req) (v : W32) (s : State) : Out := .next (s.regCmd who .CH_CTL (chNum e i) (v ||| 16))

/-- CH_CLEAR (R490): CH_CTL.CLEAR moves ERROR to IDLE. -/
def execChClear (e : Fin 4) (i : Fin 1024) (who : Req) (v : W32) (s : State) : Out := .next (s.regCmd who .CH_CTL (chNum e i) (v ||| 64))

/-- CH_INV (R472): CH_CTL.INV discards the cached context. -/
def execChInv (e : Fin 4) (i : Fin 1024) (who : Req) (v : W32) (s : State) : Out := .next (s.regCmd who .CH_CTL (chNum e i) (v ||| 32))

/-- CH_OWN_WRITE (R497): A CH_OWN write sets the owner or is ignored when it breaks DMA_MAX. -/
def execChOwnWrite (e : Fin 4) (i : Fin 1024) (who : Req) (v : W32) (s : State) : Out := .next (s.regCmd who .CH_OWN (chNum e i) v)

/-- BSN_POOL_ALLOC (R494): A read of BSN_POOL_ALLOC takes the allocated granule and allocates the next. -/
def execBsnPoolAlloc (p : Fin 64) (who : Req) (s : State) : Out := .next (s.regGet who .BSN_POOL_ALLOC p)

/-- BSN_FREE (R467): A write of BSN_FREE returns a granule to its pool. -/
def execBsnFree (who : Req) (v : W32) (s : State) : Out := .next (s.regCmd who .BSN_FREE 0 v)

end Sys2Proof.Machine
end

