-- ==== Sys2Proof/Machine/EventRows.lean ====
section
/-!
DEFINITION. The commands of the event distributor and the mailboxes (chapter 14).
-/
namespace Sys2Proof.Machine

/-- EVD_ACK (R442): A core's read of EVD_ACK acknowledges the presented source. -/
def execEvdAck (who : Req) (s : State) : Out := .next (s.regGet who .EVD_ACK 0)

/-- EVD_EOI (R443): A write of EVD_EOI ends an active source. -/
def execEvdEoi (who : Req) (v : W32) (s : State) : Out := .next (s.regCmd who .EVD_EOI 0 v)

/-- EVD_PMR_WRITE (R444): A write of EVD_PMR changes the mask and may withdraw a presentation. -/
def execEvdPmrWrite (who : Req) (v : W32) (s : State) : Out := .next (s.regCmd who .EVD_PMR 0 v)

/-- EVD_SWGEN (R432): A write of EVD_SWGEN raises a software source. -/
def execEvdSwgen (who : Req) (v : W32) (s : State) : Out := .next (s.regCmd who .EVD_SWGEN 0 v)

/-- EVD_FALLBACK_WRITE (R437): A write of EVD_FALLBACK sets the fallback core or is ignored with FBREF. -/
def execEvdFallbackWrite (who : Req) (v : W32) (s : State) : Out := .next (s.regCmd who .EVD_FALLBACK 0 v)

/-- EVD_EN_SET (R433): EVD_EN_SET enables sources. -/
def execEvdEnSet (k : Fin 64) (who : Req) (v : W32) (s : State) : Out := .next (s.regCmd who .EVD_EN_SET k v)

/-- EVD_EN_CLR (R444): EVD_EN_CLR disables sources and withdraws their presentation. -/
def execEvdEnClr (k : Fin 64) (who : Req) (v : W32) (s : State) : Out := .next (s.regCmd who .EVD_EN_CLR k v)

/-- EVD_PEND_SET (R434): EVD_PEND_SET raises sources. -/
def execEvdPendSet (k : Fin 64) (who : Req) (v : W32) (s : State) : Out := .next (s.regCmd who .EVD_PEND_SET k v)

/-- EVD_PEND_CLR (R444): EVD_PEND_CLR clears PEND and withdraws presentations. -/
def execEvdPendClr (k : Fin 64) (who : Req) (v : W32) (s : State) : Out := .next (s.regCmd who .EVD_PEND_CLR k v)

/-- EVD_SRC_CFG_WRITE (R444): A write of EVD_SRC_CFG retargets or reprioritises a source. -/
def execEvdSrcCfgWrite (x : Fin 2048) (who : Req) (v : W32) (s : State) : Out := .next (s.regCmd who .EVD_SRC_CFG x v)

/-- MBX_TX (R447): A TX write pushes a stamped word into a mailbox direction, starting the acknowledge wait. -/
def execMbxTx (m : Fin 128) (ba : Bool) (who : Req) (v : W32) (s : State) : Out := .next (s.regCmd who (if ba then .MBX_BA_TX else .MBX_AB_TX) m v)

/-- MBX_RX_DATA (R452): A read of RX_DATA returns and removes the oldest word. -/
def execMbxRxData (m : Fin 128) (ba : Bool) (who : Req) (s : State) : Out := .next (s.regGet who (if ba then .MBX_BA_RX_DATA else .MBX_AB_RX_DATA) m)

/-- MBX_ACK_WRITE (R454): A CODE write by the receiving owner moves WAIT to DONE. -/
def execMbxAckWrite (m : Fin 128) (ba : Bool) (who : Req) (v : W32) (s : State) : Out := .next (s.regCmd who (if ba then .MBX_BA_ACK else .MBX_AB_ACK) m v)

end Sys2Proof.Machine
end

