-- ==== Sys2Proof/Machine/ImageRows.lean ====
section
/-!
DEFINITION. The commands of IMG and KEEP: submissions, counters, lifecycle moves and keep jobs (chapters 02 and 03).
-/
namespace Sys2Proof.Machine

/-- A keep job is started with the descriptor that KEEP_JOB_ADDR names, when its OP is `op` (R124). -/
def State.jobCmd (s : State) (who : Req) (op : Nat) : State :=
  if (jobOf (s.mread s.jobAddr 64)).op = op then s.regCmd who .KEEP_JOB_CTL 0 1 else s

/-- SUBMIT (R73): IMG_AMD_CTL.SUBMIT copies the amendment into the staging area and starts verification, or refuses it with PENDING, RIGHTS or BADFMT. -/
def execSubmit (who : Req) (v : W32) (s : State) : Out := .next (s.regCmd who .IMG_AMD_CTL 0 (v ||| 1))

/-- CANCEL (R79): IMG_AMD_CTL.CANCEL withdraws a held amendment with ABORTED if it arrives before the commit point. -/
def execCancel (who : Req) (v : W32) (s : State) : Out := .next (s.regCmd who .IMG_AMD_CTL 0 (v ||| 2))

/-- KEEP_CNT_INC (R109): KEEP_CNT_CTL.INC requests an increment of the selected counter, checked against index and class. -/
def execKeepCntInc (who : Req) (v : W32) (s : State) : Out := .next (s.regCmd who .KEEP_CNT_CTL 0 (v ||| 0x100))

/-- LIFECYCLE_GO (R122): KEEP_LC_CTL.GO requests a forward lifecycle move, refused with RIGHTS or NOKEY where not granted. -/
def execLifecycleGo (who : Req) (v : W32) (s : State) : Out := .next (s.regCmd who .KEEP_LC_CTL 0 (v ||| 0x10))

/-- KEEP_JOB_HASH (R124): Keep job OP 0x01 hashes the input with SHA-256, SHA-384 or SHA3-384. -/
def execKeepJobHash (who : Req) (s : State) : Out := .next (s.jobCmd who 1)

/-- KEEP_JOB_ECDSA_VERIFY (R124): Keep job OP 0x02 verifies an ECDSA P-384 signature. -/
def execKeepJobEcdsaVerify (who : Req) (s : State) : Out := .next (s.jobCmd who 2)

/-- KEEP_JOB_HSS_VERIFY (R124): Keep job OP 0x03 verifies an HSS signature. -/
def execKeepJobHssVerify (who : Req) (s : State) : Out := .next (s.jobCmd who 3)

/-- KEEP_JOB_ECDSA_SIGN (R112): Keep job OP 0x04 makes a bound ECDSA signature over the MRs and the digest. -/
def execKeepJobEcdsaSign (who : Req) (s : State) : Out := .next (s.jobCmd who 4)

/-- KEEP_JOB_HSS_SIGN (R116): Keep job OP 0x05 makes a bound HSS signature subject to block reservation, rate and exhaustion. -/
def execKeepJobHssSign (who : Req) (s : State) : Out := .next (s.jobCmd who 5)

/-- KEEP_JOB_AES_ENCRYPT (R124): Keep job OP 0x06 encrypts with AES-256-GCM. -/
def execKeepJobAesEncrypt (who : Req) (s : State) : Out := .next (s.jobCmd who 6)

/-- KEEP_JOB_AES_DECRYPT (R124): Keep job OP 0x07 decrypts with AES-256-GCM. -/
def execKeepJobAesDecrypt (who : Req) (s : State) : Out := .next (s.jobCmd who 7)

/-- KEEP_JOB_TRNG_FILL (R124): Keep job OP 0x08 fills the output with TRNG data. -/
def execKeepJobTrngFill (who : Req) (s : State) : Out := .next (s.jobCmd who 8)

/-- KEEP_JOB_MR_EXTEND (R111): Keep job OP 0x09 extends MR5, MR6 or MR7 with a digest. -/
def execKeepJobMrExtend (who : Req) (s : State) : Out := .next (s.jobCmd who 9)

end Sys2Proof.Machine
end

