-- ==== Sys2Proof/Machine/LedgerRows.lean ====
section
/-!
DEFINITION. The commands of LDG_CMD, CMP_CTL and the migration registers (chapters 08 and 09).
-/
namespace Sys2Proof.Machine

/-- LDG_READ (R300): LDG_CMD READ returns the engine's current copy of a series. -/
def execLdgRead (who : Req) (v : W32) (s : State) : Out := .next (s.regCmd who .LDG_CMD 0 (F.LDG_CMD.OP.put v 0 ||| 0x80000000))

/-- LDG_WRITE (R300): LDG_CMD WRITE rewrites a series entry. -/
def execLdgWrite (who : Req) (v : W32) (s : State) : Out := .next (s.regCmd who .LDG_CMD 0 (F.LDG_CMD.OP.put v 1 ||| 0x80000000))

/-- RESET_STATS (R284): LDG_CMD RESET_STATS restarts a series' statistics. -/
def execResetStats (who : Req) (v : W32) (s : State) : Out := .next (s.regCmd who .LDG_CMD 0 (F.LDG_CMD.OP.put v 2 ||| 0x80000000))

/-- PUSH (R300): LDG_CMD PUSH updates a software series with r from LDG_DATA0. -/
def execPush (who : Req) (v : W32) (s : State) : Out := .next (s.regCmd who .LDG_CMD 0 (F.LDG_CMD.OP.put v 3 ||| 0x80000000))

/-- FLUSH_ONE (R302): LDG_CMD FLUSH_ONE writes back and invalidates one series. -/
def execFlushOne (who : Req) (v : W32) (s : State) : Out := .next (s.regCmd who .LDG_CMD 0 (F.LDG_CMD.OP.put v 4 ||| 0x80000000))

/-- FLUSH_ALL (R299): LDG_CMD FLUSH_ALL writes back every cached series and keeps it. -/
def execFlushAll (who : Req) (v : W32) (s : State) : Out := .next (s.regCmd who .LDG_CMD 0 (F.LDG_CMD.OP.put v 5 ||| 0x80000000))

/-- INVAL_ALL (R299): LDG_CMD INVAL_ALL writes back and invalidates every cached series. -/
def execInvalAll (who : Req) (v : W32) (s : State) : Out := .next (s.regCmd who .LDG_CMD 0 (F.LDG_CMD.OP.put v 6 ||| 0x80000000))

/-- LEAVE (R322): CMP_CTL.LEAVE sends LEAVE and enters JOINING at the next edge. -/
def execLeave (who : Req) (v : W32) (s : State) : Out := .next (s.regCmd who .CMP_CTL 0 (v ||| 32))

/-- JOIN (R321): CMP_CTL.JOIN clears LEAVE and restarts the join. -/
def execJoin (who : Req) (v : W32) (s : State) : Out := .next (s.regCmd who .CMP_CTL 0 (v ||| 16))

/-- UNFENCE (R319): CMP_CTL.UNFENCE moves a FENCED package to DETACHED while the net is high. -/
def execUnfence (who : Req) (v : W32) (s : State) : Out := .next (s.regCmd who .CMP_CTL 0 (v ||| 8))

/-- FENCE_REL (R317): CMP_CTL.FENCE_REL releases PAIR_FENCE_N. -/
def execFenceRel (who : Req) (v : W32) (s : State) : Out := .next (s.regCmd who .CMP_CTL 0 (v ||| 4))

/-- FENCE (R318): CMP_CTL.FENCE requests fencing of the companion. -/
def execFence (who : Req) (v : W32) (s : State) : Out := .next (s.regCmd who .CMP_CTL 0 (v ||| 2))

/-- HANDOFF (R316): CMP_CTL.HANDOFF names the handoff edge H three edges ahead. -/
def execHandoff (who : Req) (v : W32) (s : State) : Out := .next (s.regCmd who .CMP_CTL 0 (v ||| 1))

/-- MIG_SEND (R325): CMP_MIG_CTL.GO sends a stall record over the companion link. -/
def execMigSend (who : Req) (v : W32) (s : State) : Out := .next (s.regCmd who .CMP_MIG_CTL 0 (v ||| 0x80000000))

/-- MIG_RX_FREE (R328): Writing 1 to CMP_MIG_RXSTAT.FULL frees the receive slot. -/
def execMigRxFree (who : Req) (v : W32) (s : State) : Out := .next (s.regCmd who .CMP_MIG_RXSTAT 0 (v ||| 0x80000000))

end Sys2Proof.Machine
end

