-- ==== Sys2Proof/Machine/LinkRows.lean ====
section
/-!
DEFINITION. The commands of a PL port's registers (chapter 05).
-/
namespace Sys2Proof.Machine

/-- DISABLE (R186): PL_CTL.DISABLE disables the port with cause SOFTWARE. -/
def execDisable (n : Fin 64) (who : Req) (v : W32) (s : State) : Out := .next (s.regCmd who .PL_CTL n (v ||| 8))

/-- REENABLE (R193): PL_CTL.REENABLE leaves the disabled state and runs full enumeration. -/
def execReenable (n : Fin 64) (who : Req) (v : W32) (s : State) : Out := .next (s.regCmd who .PL_CTL n (v ||| 4))

/-- ENUM_GO (R182): PL_CTL.ENUM_GO runs full enumeration of the port in state RUN. -/
def execEnumGo (n : Fin 64) (who : Req) (v : W32) (s : State) : Out := .next (s.regCmd who .PL_CTL n (v ||| 2))

/-- EYE_GO (R190): PL_CTL.EYE_GO starts an eye scan at the set phase and voltage offset. -/
def execEyeGo (n : Fin 64) (who : Req) (v : W32) (s : State) : Out := .next (s.regCmd who .PL_CTL n (v ||| 16))

/-- READMIT (R182): PL_READMIT clears an address's marks and bucket and enumerates it. -/
def execReadmit (n : Fin 64) (who : Req) (v : W32) (s : State) : Out := .next (s.regCmd who .PL_READMIT n v)

/-- PL_REG_READ (R193): PL_REG_CMD.GO with WRITE = 0 sends an AUX_READ to a stage register. -/
def execPlRegRead (n : Fin 64) (who : Req) (v : W32) (s : State) : Out := .next (s.regCmd who .PL_REG_CMD n ((v ||| 0x80000000) &&& ~~~(0x40000000 : W32)))

/-- PL_REG_WRITE (R193): PL_REG_CMD.GO with WRITE = 1 sends a CONFIGURE to a stage register. -/
def execPlRegWrite (n : Fin 64) (who : Req) (v : W32) (s : State) : Out := .next (s.regCmd who .PL_REG_CMD n (v ||| 0xC0000000))

/-- TEST_INTERNAL_LOOPBACK (R189): PL_CTL.TEST 0b001 enters part-internal loopback with PRBS31 check. -/
def execTestInternalLoopback (n : Fin 64) (who : Req) (v : W32) (s : State) : Out := .next (s.regCmd who .PL_CTL n (F.PL_CTL.TEST.put v 1))

/-- TEST_DOWNSTREAM_PRBS31 (R189): PL_CTL.TEST 0b010 sends downstream PRBS31 checked by the stages. -/
def execTestDownstreamPrbs31 (n : Fin 64) (who : Req) (v : W32) (s : State) : Out := .next (s.regCmd who .PL_CTL n (F.PL_CTL.TEST.put v 2))

/-- TEST_UPSTREAM_PRBS31 (R189): PL_CTL.TEST 0b011 makes stage TEST_ADDR send PRBS31 checked by the part. -/
def execTestUpstreamPrbs31 (n : Fin 64) (who : Req) (v : W32) (s : State) : Out := .next (s.regCmd who .PL_CTL n (F.PL_CTL.TEST.put v 3))

/-- TEST_STAGE_LOOPBACK (R189): PL_CTL.TEST 0b100 makes stage TEST_ADDR loop the part's bits back. -/
def execTestStageLoopback (n : Fin 64) (who : Req) (v : W32) (s : State) : Out := .next (s.regCmd who .PL_CTL n (F.PL_CTL.TEST.put v 4))

/-- TEST_EXIT (R189): PL_CTL.TEST 0b000 leaves the test mode and runs enumeration. -/
def execTestExit (n : Fin 64) (who : Req) (v : W32) (s : State) : Out := .next (s.regCmd who .PL_CTL n (F.PL_CTL.TEST.put v 0))

/-- INJECT_CRC (R191): PL_INJ kind 0b001 corrupts the CRC of the next power frame to ADDR. -/
def execInjectCrc (n : Fin 64) (who : Req) (v : W32) (s : State) : Out := .next (s.regCmd who .PL_INJ n (F.PL_INJ.KIND.put v 1 ||| 0x80000000))

/-- INJECT_SILENT_SLOT (R191): PL_INJ kind 0b010 treats ADDR's slot as silent for COUNT ticks. -/
def execInjectSilentSlot (n : Fin 64) (who : Req) (v : W32) (s : State) : Out := .next (s.regCmd who .PL_INJ n (F.PL_INJ.KIND.put v 2 ||| 0x80000000))

/-- INJECT_SAMPLE_CRC_FAIL (R191): PL_INJ kind 0b011 treats ADDR's sample frame as failing its CRC for COUNT ticks. -/
def execInjectSampleCrcFail (n : Fin 64) (who : Req) (v : W32) (s : State) : Out := .next (s.regCmd who .PL_INJ n (F.PL_INJ.KIND.put v 3 ||| 0x80000000))

/-- INJECT_QUIET_VIOLATION (R191): PL_INJ kind 0b100 records a quiet-window violation for COUNT ticks. -/
def execInjectQuietViolation (n : Fin 64) (who : Req) (v : W32) (s : State) : Out := .next (s.regCmd who .PL_INJ n (F.PL_INJ.KIND.put v 4 ||| 0x80000000))

end Sys2Proof.Machine
end

