-- ==== Sys2Proof/Machine/LoopRows.lean ====
section
/-!
DEFINITION. The commands of a loop cluster's registers (chapter 06).
-/
namespace Sys2Proof.Machine

/-- LC_SPARE_RELEASE (R235): LC_SPARE_CTL.RELEASE requests the spare to hand the rail back, or sets RELREF. -/
def execLcSpareRelease (c : Fin 4) (who : Req) (v : W32) (s : State) : Out := .next (s.regCmd who .LC_SPARE_CTL c (v ||| 1))

/-- REC_RING_RESUME (R237): A write of 1 to an LC_REC_CTL.FROZEN bit resumes the ring from the next tick. -/
def execRecRingResume (c : Fin 4) (who : Req) (v : W32) (s : State) : Out := .next (s.regCmd who .LC_REC_CTL c v)

/-- LC_LE_RESET (R240): LC_LE_CTL.RESET resets the LE unit at the next tick edge. -/
def execLcLeReset (j : Fin 36) (who : Req) (v : W32) (s : State) : Out := .next (s.regCmd who .LC_LE_CTL (leIdx j) (v ||| 4))

/-- LC_LE_FENCE (R240): LC_LE_CTL.FENCE fences the LE at the next tick edge, with spare takeover where possible. -/
def execLcLeFence (j : Fin 36) (who : Req) (v : W32) (s : State) : Out := .next (s.regCmd who .LC_LE_CTL (leIdx j) (v ||| 1))

/-- LC_LE_UNFENCE (R240): LC_LE_CTL.UNFENCE releases the LE's fence at the next tick edge. -/
def execLcLeUnfence (j : Fin 36) (who : Req) (v : W32) (s : State) : Out := .next (s.regCmd who .LC_LE_CTL (leIdx j) (v ||| 2))

end Sys2Proof.Machine
end

