-- ==== Sys2Proof/Machine/P64Base.lean ====
section
/-!
DEFINITION. A Parhild-64 core's store buffer and store errors (R344 to R347, R358, R397, R406).
-/
namespace Sys2Proof.Machine

/-! ### The store buffer (R344 to R347) -/

/-- STERR_FLAGS and STERR_ADDR of a store error (R347, R406). -/
def State.storeErr (s : State) (n : Nat) (e : SbEnt) : State :=
  let f := (s.sr n srSTERR_FLAGS).toNat
  if bit f 0 then
    let s := if bit f 2 then s else s.setCor n { s.cor n with sterrOwn := false }
    s.setSr n srSTERR_FLAGS (BitVec.ofNat 64 (setBit (setBit f 1 true) 2 true))
  else
    let s := s.setCor n { s.cor n with sterrOwn := true }
    let s := s.setSr n srSTERR_ADDR (BitVec.ofNat 64 (e.pa % 2 ^ 48))
    let s := s.setSr n srSTERR_FLAGS (BitVec.ofNat 64 (e.sid.toNat * 2 ^ 16 + e.lvl.num * 16 + 4 + (if bit f 1 then 2 else 0) + 1))
    (s.pmu n evSTERR).raise (1088 + 4 * n + 1)

/-- An access of core n needs a line in L1D; `count` counts its misses (R329, R331, R356). Deterministic mode allocates nothing (R353). -/
def State.bringLine (s : State) (n l : Nat) (count : State → Nat → State) : State :=
  if s.stBit n 8 then s
  else if (s.cor n).l1t.contains l then s.setCor n { s.cor n with l1t := l :: (s.cor n).l1t.filter (fun x => x ≠ l) }
  else
    let s := if (tget? (s.l2Of (n / 4)) l).isSome then s else count s evL2
    (count s evL1D).l1dFill n l

/-- A NORMAL-WB store makes its lines dirty in L1D: what the levels below hold is kept (R344, R358). -/
def State.dirty (s : State) (n : Nat) (e : SbEnt) : State :=
  if e.ty ≠ .wb ∨ s.stBit n 8 = true then s
  else
    forEach (linesOf e.pa e.bytes.length) (fun s l =>
      let s := s.bringLine n l (fun s ev => s.pmu n ev)
      if (tget? (s.cor n).l1d l).isSome then s else s.setCor n { s.cor n with l1d := tset (s.cor n).l1d l (s.mread l 64) }) s

/-- An entry drains to L1D or its target; on a bus error it writes nothing (R347). -/
def State.drainEnt (s : State) (n : Nat) (e : SbEnt) : State :=
  let q : Req := { agent := .core (Fin.ofNat 32 n), lvl := e.lvl, sid := e.sid, cls := 0 }
  let s := if s.memOpen q e.pa e.bytes.length true then s.dirty n e else s
  let (t, ok) := s.busWr q e.pa e.bytes
  if ok then t else t.storeErr n e

/-- The oldest entry drains. -/
def State.drain1 (s : State) (n : Nat) : State :=
  match (s.cor n).sb with
  | [] => s
  | e :: r => (s.setCor n { s.cor n with sb := r }).drainEnt n e

/-- `k` entries drain. -/
def State.drainK (s : State) (n : Nat) : Nat → State
  | 0 => s
  | k + 1 => (s.drain1 n).drainK n k

def State.drainAll (s : State) (n : Nat) : State := s.drainK n (s.cor n).sb.length

/-- Deterministic mode is written: store buffer drained, L1D and L1I emptied (R353). -/
def State.detSync (s : State) (n : Nat) : State :=
  let s := s.drainAll n
  s.setCor n { (s.cor n).emptyL1d with l1i := [], detDue := false }

/-- What a write of DET still owes, before the next instruction issues. -/
def State.detApply (s : State) (n : Nat) : State := if (s.cor n).detDue then s.detSync n else s

/-- How many entries up to and including the last that satisfies `p`. -/
def lastOf (p : SbEnt → Bool) : List SbEnt → Nat
  | [] => 0
  | e :: r => let k := lastOf p r; if k > 0 then k + 1 else if p e then 1 else 0

/-- Drain up to the youngest entry that satisfies `p`. -/
def State.drainFor (s : State) (n : Nat) (p : SbEnt → Bool) : State := s.drainK n (lastOf p (s.cor n).sb)

/-- A store enters the buffer; a full buffer drains an entry first (R344). -/
def State.sbPush (s : State) (n : Nat) (e : SbEnt) : State :=
  let s := if (s.cor n).sb.length ≥ 16 then s.drain1 n else s
  s.setCor n { s.cor n with sb := (s.cor n).sb ++ [e] }

def SbEnt.overlaps (e : SbEnt) (a k : Nat) : Bool := decide (e.pa < a + k) && decide (a < e.pa + e.bytes.length)
def SbEnt.covers (e : SbEnt) (a k : Nat) : Bool := decide (e.pa ≤ a) && decide (a + k ≤ e.pa + e.bytes.length)

/-- What the buffer does with a load (R345): forwards, holds it back, or leaves it alone. -/
inductive Fwd where
  | data (b : Bytes)
  | wait
  | none
deriving DecidableEq, Repr

/-- A load of these ranges, address and length each, looks at Y, the youngest older store that writes any byte of it: Y writes every byte and the load is not from device memory, or the load waits (R345). -/
def State.forward (s : State) (n : Nat) (l : List (Nat × Nat)) (dev : Bool) : Fwd :=
  match ((s.cor n).sb.filter (fun e => l.any (fun p => e.overlaps p.1 p.2))).getLast? with
  | Option.none => .none
  | some e => if l.all (fun p => e.covers p.1 p.2) && !dev then .data (l.flatMap (fun p => slice e.bytes (p.1 - e.pa) p.2)) else .wait

/-- Stores that must have drained before an access of type `ty` (R416): every older one before a DEVICE-STRICT access, the device ones before a DEVICE-RELAXED access, the DEVICE-STRICT ones before any. -/
def State.orderFor (s : State) (n : Nat) (ty : MemTy) : State :=
  if ty = .strict then s.drainAll n
  else if ty.device then s.drainFor n (fun e => e.ty.device)
  else s.drainFor n (fun e => decide (e.ty = .strict))

/-- A read of a core takes its line into L1D, when it is NORMAL-WB. -/
def State.loaded (s : State) (n a : Nat) (ty : MemTy) : State := if ty = .wb then s.bringLine n (a / 64 * 64) (fun s ev => s.note n ev) else s

/-- Read for the core's own frame, vector or atomic: forwarded, or read once every overlapping store has drained. -/
def State.coreRead (s : State) (n : Nat) (q : Req) (a k : Nat) (ty : MemTy) : State × Option Bytes :=
  match s.forward n [(a, k)] ty.device with
  | .data b => (s, some b)
  | _ =>
    match (s.drainFor n (fun e => e.overlaps a k)).busRd q a k with
    | (s, none) => (s, none)
    | (s, some b) => (s.loaded n a ty, some b)

end Sys2Proof.Machine
end

