-- ==== Sys2Proof/Machine/P64Translate.lean ====
section
/-!
DEFINITION. Address translation: regimes, the walk, TLBs and the walk cache (R407 to R431).
-/
namespace Sys2Proof.Machine

/-- Access kinds, with the codes of SYND.ACCESS (R431). -/
inductive Acc where
  | load | store | fetch | atomic | cache | eret
deriving DecidableEq, Repr

def Acc.code : Acc → Nat
  | .load => 0 | .store => 1 | .fetch => 2 | .atomic => 3 | .cache => 4 | .eret => 5

/-- Cause of a translation fault by kind and stage (R422). -/
def Acc.cause (a : Acc) (stage2 : Bool) : Nat :=
  (match a with
    | .fetch => 0x05 | .store => 0x07 | .atomic => 0x07 | _ => 0x06) + (if stage2 then 5 else 0)

/-- Rights that an access needs of a stage (R413). -/
def Acc.permits (a : Acc) (r w x : Bool) : Bool :=
  match a with
  | .load => r | .cache => r | .eret => r | .store => w | .atomic => r && w | .fetch => x

/-- KIND codes of SYND. -/
abbrev kNOTVALID : Nat := 0
abbrev kPERM : Nat := 1
abbrev kFORMAT : Nat := 2
abbrev kRANGE : Nat := 3
abbrev kWATTR : Nat := 4
abbrev kWBUS : Nat := 5

/-- A fault of translation: its cause and syndrome. -/
structure TFault where
  cause : Nat
  synd : W64
deriving DecidableEq, Repr

/-- The fault of an access, with the fields of SYND. -/
def mkFault (a : Acc) (kind level : Nat) (stage2 ptw : Bool) (addr : Nat) : TFault :=
  { cause := if kind = kWATTR then (if stage2 then 0x0D else 0x08) else if kind = kWBUS then (if stage2 then 0x0E else 0x09) else a.cause stage2
    synd := BitVec.ofNat 64 (kind * 2 ^ 60 + level * 2 ^ 57 + (if stage2 then 2 ^ 56 else 0) + (if ptw then 2 ^ 55 else 0) + a.code * 2 ^ 52 + addr / 8 * 8 % 2 ^ 48) }

/-- What translation reads of the control registers: those of data accesses, or those in force for fetch (R386). -/
structure TCtx where
  sid : BitVec 16
  ttb1 : W64
  tctl1 : W64
  ttb2 : W64
  tctl2 : W64
deriving DecidableEq, Repr

def State.tctx (s : State) (n : Nat) (a : Acc) : TCtx :=
  let c := s.cor n
  if a = .fetch then { sid := c.fsid, ttb1 := c.fttb1, tctl1 := c.ftctl1, ttb2 := c.fttb2, tctl2 := c.ftctl2 }
  else { sid := s.sid n, ttb1 := c.sr1 n srTTB1, tctl1 := c.sr1 n srTCTL1, ttb2 := c.sr1 n srTTB2, tctl2 := c.sr1 n srTCTL2 }

/-- Fetch takes the present registers (R383, R386). -/
def State.syncFetch (s : State) (n : Nat) : State :=
  let t := s.tctx n .load
  s.setCor n { s.cor n with stale := [], fsid := t.sid, fttb1 := t.ttb1, ftctl1 := t.tctl1, fttb2 := t.ttb2, ftctl2 := t.tctl2 }

def TCtx.on1 (t : TCtx) : Bool := t.tctl1.getLsbD 2
def TCtx.on2 (t : TCtx) : Bool := t.tctl2.getLsbD 2
/-- Root level by LEVELS; 0 for the reserved code. -/
def rootLevel (v : W64) : Nat :=
  match v.toNat % 4 with
  | 0 => 3 | 1 => 4 | 2 => 5 | _ => 0
/-- Width w of a tree with this root. -/
def treeWidth (root : Nat) : Nat := 12 + 9 * root

/-! ### Entries (R410 to R412) -/

def eV (e : Nat) : Bool := bit e 0
def eLeaf (e : Nat) : Bool := bit e 1
def eSize (e : Nat) : Nat := e / 4 % 64
def eMt (e : Nat) : MemTy :=
  match e / 256 % 4 with
  | 0 => .wb | 1 => .nc | 2 => .strict | _ => .relaxed
def eOa (e : Nat) : Nat := e / 4096 % 2 ^ 36 * 4096

/-- KIND of the fault that an entry read at level k gives, if any (R411). -/
def eBad (e k : Nat) : Option Nat :=
  if !eV e then some kNOTVALID
  else if e / 2 ^ 48 % 256 ≠ 0 ∨ bit e 11 = true then some kFORMAT
  else if (eLeaf e = false ∧ k = 1) ∨ (eLeaf e = true ∧ k = 5) then some kFORMAT
  else if eLeaf e = false then (if e / 2 ^ 56 % 8 ≠ 0 ∨ e / 4 % 64 ≠ 0 ∨ e / 256 % 8 ≠ 0 then some kFORMAT else none)
  else if eSize e < 3 + 9 * k ∨ eSize e > 11 + 9 * k ∨ eOa e % 2 ^ eSize e ≠ 0 then some kFORMAT
  else none

/-- The slot of level k (R409). -/
def slotAt (a k : Nat) : Nat := a / 2 ^ (3 + 9 * k) % 512

/-- One walk read at a physical address (R419, R420): the entry, or the KIND of its fault. -/
def State.walkRead (s : State) (n a : Nat) : Except Nat Nat :=
  if (s.rgn a).device then .error kWATTR
  else
    match s.memRd (coreReq s n) a 8 with
    | some b => .ok (ofBytes b)
    | none => .error kWBUS

/-- A walk's result: the leaf, its level, the address of the last entry read; and what the walk cache would take. -/
structure Leaf where
  e : Nat
  level : Nat
  at_ : Nat
deriving DecidableEq, Repr

/-- Walk-cache entries that an address matches. -/
def wcTab1 (c : Core) (sid : BitVec 16) (level pre : Nat) : Option Nat :=
  c.wc.findSome? (fun w => match w with
    | .tab1 d l p e => if d = sid ∧ l = level ∧ p = pre then some e else none
    | _ => none)
def wcTab2 (c : Core) (level pre : Nat) : Option Nat :=
  c.wc.findSome? (fun w => match w with
    | .tab2 l p e => if l = level ∧ p = pre then some e else none
    | _ => none)
def wcTrans (c : Core) (a : Nat) : Option Nat :=
  c.wc.findSome? (fun w => match w with
    | .trans page pa size => if a / 2 ^ size = page / 2 ^ size then some (pa + a % 2 ^ size) else none
    | _ => none)

/-- Stage 2 of IA `ia` from level k down: the leaf, or a fault (R411, R420); `ptw` for a stage-1 table address. -/
def State.walk2 (s : State) (n : Nat) (a : Acc) (wc ptw : Bool) (ia : Nat) : Nat → Nat → List WcEnt → Except TFault (Leaf × List WcEnt)
  | 0, _, _ => .error (mkFault a kFORMAT 0 true ptw (ia / 4096 * 4096))
  | k + 1, tbl, new =>
    let pa := tbl + 8 * slotAt ia (k + 1)
    let pre := ia / 2 ^ (3 + 9 * (k + 1))
    let hit := if wc then wcTab2 (s.cor n) (k + 1) pre else none
    match (match hit with | some e => Except.ok e | none => s.walkRead n pa) with
    | .error kind => .error (mkFault a kind (k + 1) true ptw pa)
    | .ok e =>
      match eBad e (k + 1) with
      | some kind => .error (mkFault a kind (k + 1) true ptw (ia / 4096 * 4096))
      | none =>
        if eLeaf e then .ok ({ e := e, level := k + 1, at_ := pa }, new)
        else s.walk2 n a wc ptw ia k (eOa e) (.tab2 (k + 1) pre e :: new)

/-- Stage 2 of an IA as access `as_` (the walk's own reads are loads): physical address and leaf. -/
def State.stage2 (s : State) (n : Nat) (a as_ : Acc) (t : TCtx) (wc ptw : Bool) (ia : Nat) (new : List WcEnt) : Except TFault (Nat × Leaf × List WcEnt) :=
  let root := rootLevel t.tctl2
  if root ≠ 0 ∧ ia ≥ 2 ^ treeWidth root then .error (mkFault a kRANGE 0 true ptw (ia / 4096 * 4096))
  else
    match s.walk2 n a wc ptw ia root (t.ttb2.toNat / 4096 % 2 ^ 36 * 4096) new with
    | .error f => .error f
    | .ok (l, new) =>
      if as_.permits (bit l.e 56) (bit l.e 57) (bit l.e 58) then .ok (eOa l.e + ia % 2 ^ eSize l.e, l, new)
      else .error (mkFault a kPERM l.level true ptw (ia / 4096 * 4096))

/-- The physical address of a stage-1 table entry (R414, R418). -/
def State.tabPa (s : State) (n : Nat) (a : Acc) (t : TCtx) (wc : Bool) (ia : Nat) (new : List WcEnt) : Except TFault (Nat × List WcEnt) :=
  if !t.on2 then .ok (ia, new)
  else
    match (if wc then wcTrans (s.cor n) ia else none) with
    | some pa => .ok (pa, new)
    | none =>
      match s.stage2 n a .load t wc true ia new with
      | .error f => .error f
      | .ok (pa, l, new) => .ok (pa, .trans (ia / 2 ^ eSize l.e * 2 ^ eSize l.e) (eOa l.e) (eSize l.e) :: new)

/-- Stage 1 of a VA from level k down. -/
def State.walk1 (s : State) (n : Nat) (a : Acc) (t : TCtx) (wc : Bool) (va : Nat) : Nat → Nat → List WcEnt → Except TFault (Leaf × List WcEnt)
  | 0, _, _ => .error (mkFault a kFORMAT 0 false false 0)
  | k + 1, tbl, new =>
    let pre := va / 2 ^ (3 + 9 * (k + 1))
    let hit := if wc then wcTab1 (s.cor n) t.sid (k + 1) pre else none
    match hit with
    | some e => s.walk1 n a t wc va k (eOa e) new
    | none =>
      match s.tabPa n a t wc (tbl + 8 * slotAt va (k + 1)) new with
      | .error f => .error f
      | .ok (pa, new) =>
        match s.walkRead n pa with
        | .error kind => .error (mkFault a kind (k + 1) false false pa)
        | .ok e =>
          match eBad e (k + 1) with
          | some kind => .error (mkFault a kind (k + 1) false false pa)
          | none =>
            if eLeaf e then .ok ({ e := e, level := k + 1, at_ := pa }, new)
            else s.walk1 n a t wc va k (eOa e) (.tab1 t.sid (k + 1) pre e :: new)

/-- VA bits 63:w − 1 all equal (R408). -/
def canonical (va w : Nat) : Bool := va / 2 ^ (w - 1) = 0 ∨ va / 2 ^ (w - 1) = 2 ^ (65 - w) - 1

def MemTy.rank : MemTy → Nat
  | .wb => 0 | .nc => 1 | .relaxed => 2 | .strict => 3
def strongest (a b : MemTy) : MemTy := if a.rank < b.rank then b else a

/-- The type of an access at a PA (R415, R50). -/
def State.finalTy (s : State) (pa : Nat) (ty : MemTy) : MemTy :=
  let g := s.rgn pa
  if g.device && !ty.device then .strict else if g.loop && decide (ty = .wb) then .nc else ty

/-- The walk of an access at U or S with a stage on: the combined translation (R413, R418, R423, R424), the IA that stage 1 gave, and what the walk cache takes; or the fault. -/
def State.fullWalk (s : State) (n : Nat) (u : Bool) (a : Acc) (t : TCtx) (wc : Bool) (va : Nat) : Except TFault (TlbEnt × Nat × List WcEnt) :=
  let root := rootLevel t.tctl1
  let st1 : Except TFault (Option Leaf × Nat × List WcEnt) :=
    if t.on1 then
      if root ≠ 0 ∧ canonical va (treeWidth root) = false then .error (mkFault a kRANGE 0 false false 0)
      else
        match s.walk1 n a t wc va root (t.ttb1.toNat / 4096 % 2 ^ 36 * 4096) [] with
        | .error f => .error f
        | .ok (l, new) =>
          if a.permits (bit l.e 56) (bit l.e 57) (bit l.e 58) && (!u || bit l.e 10) then .ok (some l, eOa l.e + va % 2 ^ eSize l.e, new)
          else .error (mkFault a kPERM l.level false false l.at_)
    else if va ≥ 2 ^ 48 then .error (mkFault a kRANGE 0 false false 0)
    else .ok (none, va, [])
  match st1 with
  | .error f => .error f
  | .ok (l1, ia, new) =>
    let st2 : Except TFault (Option Leaf × Nat × List WcEnt) :=
      if t.on2 then
        match s.stage2 n a a t wc false ia new with
        | .error f => .error f
        | .ok (pa, l, new) => .ok (some l, pa, new)
      else .ok (none, ia, new)
    match st2 with
    | .error f => .error f
    | .ok (l2, pa, new) =>
      let ty := strongest ((l1.map (fun l => eMt l.e)).getD .wb) ((l2.map (fun l => eMt l.e)).getD .wb)
      -- R417; ADDR is that of the last entry read, a stage-2 leaf when stage 2 is on, and so is LEVEL (R431, log entry 116)
      let leaf := l2.orElse (fun _ => l1)
      if a = .fetch ∧ s.finalTy pa ty = .strict then .error (mkFault a kPERM ((leaf.map (·.level)).getD 0) false false ((leaf.map (·.at_)).getD 0))
      else
      let z1 := (l1.map (fun l => eSize l.e)).getD 48
      let z2 := (l2.map (fun l => eSize l.e)).getD 48
      let z := min z1 z2
      let p (b : Nat) : Bool := (l1.map (fun l => bit l.e b)).getD true && (l2.map (fun l => bit l.e b)).getD true
      .ok ({ sid := t.sid, s1 := t.on1, s2 := t.on2, size1 := z1, size2 := z2, size := z, va := va / 2 ^ z * 2 ^ z, pa := pa / 2 ^ z * 2 ^ z,
             r := p 56, w := p 57, x := p 58, u := (l1.map (fun l => bit l.e 10)).getD true,
             ty := ty }, ia, new)

/-! ### TLBs (R423 to R425) -/

def TlbEnt.hits (e : TlbEnt) (t : TCtx) (va : Nat) : Bool :=
  decide (e.sid = t.sid) && e.s1 == t.on1 && e.s2 == t.on2 && decide (va / 2 ^ e.size = e.va / 2 ^ e.size)
def TlbEnt.admits (e : TlbEnt) (u : Bool) (a : Acc) : Bool := a.permits e.r e.w e.x && (!u || e.u)

/-- Put `x` into a list that holds `cap` at most; a free choice is replaced. -/
def putCap {α : Type} (cap r : Nat) (l : List α) (x : α) : List α := if l.length < cap then x :: l else x :: l.eraseIdx (r % max 1 l.length)

/-- The size classes that are on (R425). -/
def classesOf (v : W64) : List Nat :=
  ((List.range 4).map (fun i => v.toNat / 2 ^ (8 + 6 * i) % 64)).foldl (fun l c => if 12 ≤ c ∧ c ≤ 47 ∧ l.contains c = false then l ++ [c] else l) []

/-- The piece of a translation that the L2 TLB holds, and its set. -/
def l2Piece (v : W64) (e : TlbEnt) (va : Nat) : Option (Nat × TlbEnt) :=
  match (classesOf v).filter (fun c => c ≤ e.size) with
  | [] => none
  | l =>
    let c := l.foldl max 0
    let b := va / 2 ^ c * 2 ^ c
    some (va / 2 ^ c % 256, { e with size := c, va := b, pa := e.pa + (b - e.va) })

/-- Fill an L1 TLB. -/
def State.fillL1 (s : State) (n : Nat) (a : Acc) (e : TlbEnt) : State :=
  let c := s.cor n
  (s.setCor n (if a = .fetch then { c with itlb := putCap 48 s.freeNat c.itlb e } else { c with dtlb := putCap 48 s.freeNat c.dtlb e })).tick1

/-- Fill the L2 TLB: 8 ways of a set. -/
def State.fillL2 (s : State) (n : Nat) (e : TlbEnt) (va : Nat) : State :=
  let c := s.cor n
  match l2Piece (c.sr1 n srTCTL1) e va with
  | none => s
  | some (set, p) =>
    let same := c.l2tlb.filter (fun x => x.1 = set)
    let rest := c.l2tlb.filter (fun x => x.1 ≠ set)
    (s.setCor n { c with l2tlb := putCap 8 s.freeNat same (set, p) ++ rest }).tick1

/-- Two walk-cache entries stand for the same table entry, or the same page (R423). -/
def WcEnt.same (w x : WcEnt) : Bool :=
  match w, x with
  | .tab1 d l p _, .tab1 d' l' p' _ => decide (d = d') && decide (l = l') && decide (p = p')
  | .tab2 l p _, .tab2 l' p' _ => decide (l = l') && decide (p = p')
  | .trans p _ z, .trans p' _ z' => let m := max z z'; decide (p / 2 ^ m = p' / 2 ^ m)
  | _, _ => false

/-- Fill the walk cache; a new entry replaces the one that stood for the same. -/
def State.fillWc (s : State) (n : Nat) (ws : List WcEnt) : State :=
  forEach ws (fun s w => (s.setCor n { s.cor n with wc := putCap 64 s.freeNat ((s.cor n).wc.filter (fun x => !w.same x)) w }).tick1) s

/-- Drop the entries that a new translation replaces (R424). -/
def State.dropTlb (s : State) (n : Nat) (t : TCtx) (va : Nat) : State :=
  let c := s.cor n
  s.setCor n { c with itlb := c.itlb.filter (fun e => !e.hits t va), dtlb := c.dtlb.filter (fun e => !e.hits t va), l2tlb := c.l2tlb.filter (fun x => !x.2.hits t va) }

/-- The outcome of a translation. -/
inductive Tr where
  | ok (pa : Nat) (ty : MemTy)
  | fault (f : TFault)
deriving DecidableEq, Repr

/-- R417: a fetch of DEVICE-STRICT is refused; here without a walk. -/
def State.finish (s : State) (a : Acc) (pa : Nat) (ty : MemTy) : Tr :=
  let ty := s.finalTy pa ty
  if a = .fetch ∧ ty = .strict then .fault (mkFault a kPERM 0 false false 0) else .ok pa ty

/-- Blocks of IA whose stage-2 walk a new walk has made: the block of the access, and those of its stage-1 tables. -/
def walkedIa (e : TlbEnt) (ia : Nat) (ws : List WcEnt) : List (Nat × Nat) :=
  (if e.s2 then [(ia / 2 ^ e.size2, e.size2)] else []) ++ ws.filterMap (fun w => match w with
    | .trans page _ z => some (page / 2 ^ z, z)
    | _ => none)

/-- The entries of the walk cache that the new walk of a VA replaces go (R424): the stage-1 tables that it would use, and the stage-2 tables that stand within a block for which the walk has found a leaf. -/
def State.dropWc (s : State) (n : Nat) (t : TCtx) (va : Nat) (bs : List (Nat × Nat)) : State :=
  s.setCor n { s.cor n with wc := (s.cor n).wc.filter (fun w => match w with
    | .tab1 d l p _ => !(decide (d = t.sid) && decide (va / 2 ^ (3 + 9 * l) = p))
    | .tab2 l p _ => !bs.any (fun b => decide (3 + 9 * l ≤ b.2) && decide (p * 2 ^ (3 + 9 * l) / 2 ^ b.2 = b.1))
    | .trans _ _ _ => true) }

/-- A walk's result goes into the TLBs and the walk cache in place of what they held of the VA. -/
def State.install (s : State) (n : Nat) (t : TCtx) (a : Acc) (va : Nat) (e : TlbEnt) (ws : List WcEnt) : State :=
  (((s.dropTlb n t va).fillL1 n a e).fillL2 n e va).fillWc n ws

/-- A TLB entry serves the access: it permits it, and a fetch is not of DEVICE-STRICT (R413, R417). -/
def State.serves (s : State) (u : Bool) (a : Acc) (va : Nat) (e : TlbEnt) : Bool :=
  e.admits u a && !(decide (a = .fetch) && decide (s.finalTy (e.pa + va % 2 ^ e.size) e.ty = .strict))

/-- The walk again from the root, after an entry refused the access (R424). -/
def State.rewalk (s : State) (n : Nat) (u : Bool) (a : Acc) (t : TCtx) (va : Nat) : State × Except TFault TlbEnt :=
  let s := s.note n evWALK
  match s.fullWalk n u a t false va with
  | .error f => (s, .error f)
  | .ok (e, ia, ws) => ((s.dropWc n t va (walkedIa e ia ws)).install n t a va e ws, .ok e)

/-- The walk of an access that neither TLB holds. -/
def State.walk (s : State) (n : Nat) (u : Bool) (a : Acc) (t : TCtx) (va : Nat) : State × Except TFault TlbEnt :=
  match s.fullWalk n u a t true va with
  | .error _ => (s.note n evWALK).rewalk n u a t va
  | .ok (e, _, ws) => ((s.note n evWALK).install n t a va e ws, .ok e)

/-- The TLB entry of an access with a stage on: held, or walked for (R423, R424). -/
def State.lookup (s : State) (n : Nat) (u : Bool) (a : Acc) (t : TCtx) (va : Nat) : State × Except TFault TlbEnt :=
  let c := s.cor n
  match (if a = .fetch then c.itlb else c.dtlb).find? (fun e => e.hits t va) with
  | some e => if s.serves u a va e then (s, .ok e) else s.rewalk n u a t va
  | none =>
    let s := s.note n (if a = .fetch then evITLB else evDTLB)
    match (c.l2tlb.find? (fun x => x.2.hits t va && s.serves u a va x.2)).map (·.2) with
    | some e => (s.fillL1 n a e, .ok e)
    | none => if c.l2tlb.any (fun x => x.2.hits t va) then s.rewalk n u a t va else s.walk n u a t va

/-- Translate a VA for an access at level `l` (R407). -/
def State.translate (s : State) (n : Nat) (l : Lvl) (a : Acc) (va : Nat) : State × Tr :=
  let t := s.tctx n a
  if l = .h ∨ l = .m then
    if va ≥ 2 ^ 48 then (s, .fault (mkFault a kRANGE 0 false false 0))
    else (s, s.finish a va (match s.rgn va with | .rom => .relaxed | .xspi _ => .relaxed | _ => .wb))
  else if !t.on1 && !t.on2 then
    if va ≥ 2 ^ 48 then (s, .fault (mkFault a kRANGE 0 false false 0)) else (s, s.finish a va .wb)
  else
    match s.lookup n (decide (l = .u)) a t va with
    | (s, .error f) => (s, .fault f)
    | (s, .ok e) => let pa := e.pa + va % 2 ^ e.size; (s, .ok pa (s.finalTy pa e.ty))

/-- The translation of the fetch at PC. An instruction already fetched when a TINV removed its translation keeps it (R427): whether this one was is a free choice, and from the first that was not on, none is (log entry 185). -/
def State.fetchTr (s : State) (n : Nat) : State × Tr :=
  let pc := (s.cor n).pc.toNat
  let t := s.tctx n .fetch
  let u := decide (s.lvl n = .u)
  let fresh (s : State) : State × Tr := (s.setCor n { s.cor n with stale := [] }).translate n (s.lvl n) .fetch pc
  if (s.cor n).stale = [] ∨ 2 ≤ (s.lvl n).num then s.translate n (s.lvl n) .fetch pc
  else
    match (s.cor n).stale.find? (fun e => e.hits t pc && s.serves u .fetch pc e) with
    | some e => if s.freeBit then (s.tick1, .ok (e.pa + pc % 2 ^ e.size) (s.finalTy (e.pa + pc % 2 ^ e.size) e.ty)) else fresh s.tick1
    | none => fresh s

/-! ### Maintenance (R426, R428) -/

def State.keepTlb (s : State) (n : Nat) (p : TlbEnt → Bool) (w : WcEnt → Bool) : State :=
  let c := s.cor n
  s.setCor n { c with itlb := c.itlb.filter p, stale := c.itlb.filter (fun e => !p e) ++ c.stale, dtlb := c.dtlb.filter p, l2tlb := c.l2tlb.filter (fun x => p x.2), wc := c.wc.filter w }

def WcEnt.ofSid (w : WcEnt) (d : BitVec 16) : Bool :=
  match w with
  | .tab1 e _ _ _ => decide (e = d)
  | _ => false

def State.tinvVa (s : State) (n va : Nat) (d : BitVec 16) : State :=
  s.keepTlb n (fun e => !(decide (e.sid = d) && e.s1 && decide (va / 2 ^ e.size1 = e.va / 2 ^ e.size1))) (fun w => !w.ofSid d)
def State.tinvSid (s : State) (n : Nat) (d : BitVec 16) : State := s.keepTlb n (fun e => decide (e.sid ≠ d)) (fun w => !w.ofSid d)
def State.tinvIpa (s : State) (n ia : Nat) : State :=
  s.keepTlb n (fun e => !e.s2) (fun w => match w with
    | .tab1 _ _ _ _ => false
    | .tab2 l p _ => decide (ia / 2 ^ (3 + 9 * l) ≠ p)
    | .trans page _ size => decide (ia / 2 ^ size ≠ page / 2 ^ size))
def State.tinvAll (s : State) (n : Nat) : State := s.keepTlb n (fun _ => false) (fun _ => false)

end Sys2Proof.Machine
end

