-- ==== Sys2Proof/Machine/P64Exc.lean ====
section
/-!
DEFINITION. Taking an exception or an interrupt (R392 to R400, R404 to R406), instruction boundaries (R396 to R398, R562, R563), the hardware loop's end (R376, R377), and the frame that every instruction runs in (R390).
-/
namespace Sys2Proof.Machine

/-- A synchronous exception: cause code, FADDR and SYND (R393). -/
structure Exc where
  code : Nat
  faddr : W64
  synd : W64
deriving DecidableEq, Repr

/-- What entry saves beside the cause: return PC, original code of a frame fault, LOOPEND. -/
structure Saved where
  ret : W64
  orig : Nat
  loopend : Bool
deriving DecidableEq, Repr

abbrev xILLEGAL : Nat := 0x01
abbrev xPRIV : Nat := 0x02
abbrev xMISALIGN : Nat := 0x03
abbrev xACCTYPE : Nat := 0x04
abbrev xIBUS : Nat := 0x0F
abbrev xLBUS : Nat := 0x10
abbrev xSTERR : Nat := 0x11
abbrev xDIVZ : Nat := 0x12
abbrev xOVF : Nat := 0x13
abbrev xBRK : Nat := 0x14
abbrev xCALLS : Nat := 0x15
abbrev xCALLH : Nat := 0x16
abbrev xCALLM : Nat := 0x17
abbrev xRETPRIV : Nat := 0x18
abbrev xFRAME : Nat := 0x19
abbrev xIRQ : Nat := 0x20

def Exc.ofFault (f : TFault) (va : W64) : Exc := { code := f.cause, faddr := va, synd := f.synd }

/-- Natural level of a cause (R393). -/
def naturalLvl (code : Nat) : Nat :=
  if 0x0A ≤ code ∧ code ≤ 0x0E then 2 else if code = xCALLH then 2 else if code = xCALLM then 3 else 1

/-! ### Entry (R399) -/

/-- A store of the core: into the buffer, and in deterministic mode through it to its target (R344, R354). -/
def State.storeOut (s : State) (n : Nat) (e : SbEnt) : State :=
  if s.stBit n 8 then (s.sbPush n e).drainAll n else s.sbPush n e

/-- Translate the eight frame addresses, lowest first. -/
def State.frameTr (s : State) (n t : Nat) (acc : Acc) (a : W64) : Nat → State × Except W64 (List (Nat × MemTy))
  | 0 => (s, .ok [])
  | k + 1 =>
    match s.translate n (lvlOf t) acc a.toNat with
    | (s, .fault _) => (s, .error a)
    | (s, .ok pa ty) =>
      match s.frameTr n t acc (a + 8) k with
      | (s, .error v) => (s, .error v)
      | (s, .ok l) => (s, .ok ((pa, ty) :: l))

/-- Vector base of level t. -/
def State.vbase (s : State) (n t : Nat) : W64 := s.sr n (0x017 + t)

/-- Steps 2 and 3 at level t: the frame's places and the vector, or the VA whose access failed. -/
def State.frameProbe (s : State) (n t code : Nat) : State × Except W64 (List (Nat × MemTy) × W64) :=
  let sp := (s.cor n).spAt t
  if sp.toNat % 8 ≠ 0 then (s, .error (sp - 64))
  else
    match s.frameTr n t .store (sp - 64) 8 with
    | (s, .error v) => (s, .error v)
    | (s, .ok l) =>
      let v := s.vbase n t + BitVec.ofNat 64 (8 * code)
      match s.translate n (lvlOf t) .load v.toNat with
      | (s, .fault _) => (s, .error v)
      | (s, .ok pa ty) =>
        match (s.orderFor n ty).coreRead n { coreReq s n with lvl := lvlOf t } pa 8 ty with
        | (s, none) => (s, .error v)
        | (s, some b) => (s, .ok (l, BitVec.ofNat 64 (ofBytes b)))

/-- The CAUSE word (R405). -/
def causeWord (sid : BitVec 16) (orig frm code : Nat) (loopend : Bool) : W64 :=
  BitVec.ofNat 64 (sid.toNat * 2 ^ 48 + orig * 2 ^ 16 + frm * 2 ^ 10 + (if loopend then 2 ^ 9 else 0) + code)

/-- The frame words (R400). -/
def State.frameWords (s : State) (n : Nat) (cause faddr ret : W64) : List W64 :=
  [ret, s.sr n srSTATUS, cause, faddr, s.sr n srLCNT, s.sr n srLEND, 0, 0]

/-- The frame's stores (step 4). -/
def State.pushFrame (s : State) (n t : Nat) : List ((Nat × MemTy) × W64) → State
  | [] => s
  | ((pa, ty), w) :: r =>
    (s.storeOut n { pa := pa, bytes := leBytes 8 w.toNat, ty := ty, sid := s.sid n, lvl := lvlOf t }).pushFrame n t r

/-- STATUS after entry to level t (step 5). -/
def entryStatus (st t : Nat) : Nat := setBit (setBit (st / 4 * 4 + t) (t + 1) false) 5 true

/-- Steps 4 to 7. -/
def State.enterAt (s : State) (n t : Nat) (e : Exc) (sv : Saved) (frame : List (Nat × MemTy)) (vec : W64) : State :=
  let old := (s.lvl n).num
  let cause := causeWord (s.sid n) sv.orig old e.code sv.loopend
  let sp := (s.cor n).spAt t
  let s := s.pushFrame n t (frame.zip (s.frameWords n cause e.faddr sv.ret))
  let s := s.setSp n t (sp - 64)
  let s := ((s.setSr n t cause).setSr n (0x003 + t) e.faddr).setSr n (0x00B + t) (if 0x05 ≤ e.code ∧ e.code ≤ 0x0E then e.synd else 0)
  let s := s.pmu n evEXC
  let s := s.setSr n srSTATUS (BitVec.ofNat 64 (entryStatus (s.sr n srSTATUS).toNat t))
  let s := s.setSr n srLCNT 0
  let pc := BitVec.ofNat 64 (vec.toNat / 4 * 4)
  let s := s.setCor n { s.cor n with rsv := none, shield := true, pc := pc, evs := [], stale := [] }
  let s := if (s.sr n srPREDCTL).getLsbD 2 ∧ t ≠ old then s.pflush n else s
  s.emitCC n 0x03 ([BitVec.ofNat 8 (e.code + 64 * t)] ++ leBytes 8 pc.toNat)

/-- Take an exception at level t; a frame fault goes one level up, and above M the core stops (step 3). `fuel` counts the levels left. -/
def State.enter (s : State) (n : Nat) (e : Exc) (sv : Saved) : Nat → Nat → State
  | 0, _ => s.fenceCore n
  | fuel + 1, t =>
    if t > 3 then s.fenceCore n
    else
      match s.frameProbe n t e.code with
      | (s, .ok (frame, vec)) => s.enterAt n t e sv frame vec
      | (s, .error va) => s.enter n { code := xFRAME, faddr := va, synd := 0 } { sv with orig := (if sv.orig = 0 then e.code else sv.orig) } fuel (t + 1)

/-- The halt that a step, or a HALT during the entry, asks for before the handler's first instruction (R562, R563). -/
def State.haltAfterEntry (s : State) (n : Nat) : State :=
  let c := s.cor n
  if c.stepping then s.haltNow n 2 else if c.haltReq then s.haltNow n 1 else s

/-- The instruction at PC stands at LEND of an active loop (R376, R377). -/
def State.atLoopEnd (s : State) (n : Nat) : Bool :=
  decide ((s.sr n srLCNT).toNat % 2 ^ 32 ≠ 0) && decide (s.pcOf n = s.sr n srLEND)

/-! ### Boundaries (R396 to R398) -/

/-- ILVL; a stored 0 reads as 1. -/
def State.ilvl (s : State) (n : Nat) : Nat := max 1 ((s.sr n srSTATUS).toNat / 2 ^ 9 % 4)

/-- An interrupt is recognised at this boundary (R396). -/
def State.irqDue (s : State) (n : Nat) : Bool :=
  let l := (s.lvl n).num
  let t := s.ilvl n
  (tget? s.evd.pres n).isSome && (decide (l < t) || (decide (l = t) && s.stBit n (t + 1)))

/-- Target level of a pending store error. -/
def State.sterrLvl (s : State) (n : Nat) : Nat := max 1 ((s.sr n srSTERR_FLAGS).toNat / 16 % 4)

/-- A store error is taken at this boundary (R397). -/
def State.sterrDue (s : State) (n : Nat) : Bool :=
  let l := (s.lvl n).num
  let t := s.sterrLvl n
  (s.sr n srSTERR_FLAGS).getLsbD 2 && (decide (l < t) || (decide (l = t) && !s.stBit n 5))

/-- The next instruction may execute: no HALT, and nothing that R398 puts before it, is due (R562, R563). -/
def State.canRun (s : State) (n : Nat) : Bool :=
  s.atBoundary n && ((s.cor n).shield || (s.cor n).stepping || (!(s.cor n).haltReq && !s.irqDue n && !s.sterrDue n))

/-- An entry may begin at this boundary (R398, R563). -/
def State.entryOpen (s : State) (n : Nat) : Bool :=
  s.atBoundary n && !(s.cor n).shield && !(s.cor n).stepping && !(s.cor n).haltReq

/-! ### The frame of an instruction -/

/-- What an instruction's own work comes to. -/
inductive Flow where
  /-- it completes, and execution falls through -/
  | next (s : State)
  /-- it completes as a taken branch or jump -/
  | jump (s : State) (pc : W64)
  /-- it raises a synchronous exception -/
  | exc (s : State) (e : Exc)
  /-- it has completed with PC already set, as ERET does -/
  | done (s : State)
  /-- it has not completed: a load outstanding, or a breakpoint that halting debug claims -/
  | hold (s : State)
deriving DecidableEq, Repr



/-- Completion of the instruction at PC that falls through: the end of the hardware loop (R376), PC, and the count. -/
def State.retire (s : State) (n : Nat) : State :=
  let s := s.counted n
  let pc := s.pcOf n
  if s.atLoopEnd n then
    let l := (s.sr n srLCNT).toNat
    if l % 2 ^ 32 > 1 then
      let s := s.setSr n srLCNT (BitVec.ofNat 64 (l - 1))
      ((s.setPc n (s.sr n srLEND - BitVec.ofNat 64 (4 * (l / 2 ^ 32)))).atom n true).haltPoll n
    else
      ((((s.setSr n srLCNT (BitVec.ofNat 64 (l - 1)))).setPc n (pc + 4)).atom n false).haltPoll n
  else (s.setPc n (pc + 4)).haltPoll n

/-- Completion of a taken branch or jump; one out of the loop's body ends the loop (R376). -/
def State.retireJump (s : State) (n : Nat) (target : W64) : State :=
  let s := s.counted n
  let l := (s.sr n srLCNT).toNat
  let lend := s.sr n srLEND
  let start := lend - BitVec.ofNat 64 (4 * (l / 2 ^ 32))
  let s := if l % 2 ^ 32 ≠ 0 ∧ ¬ (start.toNat ≤ target.toNat ∧ target.toNat ≤ lend.toNat) then s.setSr n srLCNT (BitVec.ofNat 64 (l / 2 ^ 32 * 2 ^ 32)) else s
  (s.setPc n target).haltPoll n

/-- L1I takes a line as it was fetched, and the L2 with it (R329, R333). -/
def State.l1iFill (s : State) (n line : Nat) (b : Bytes) : State :=
  let s := s.l2Fill (n / 4) line
  let c := s.cor n
  match s.victim 4 ((c.l1i.map (·.1)).filter (fun x => x / 64 % 256 = line / 64 % 256)) with
  | some v => (s.setCor n { c with l1i := tfront (tdel c.l1i v) line b }).tick1
  | none => s.setCor n { c with l1i := tfront c.l1i line b }

/-- The fetch of the instruction at PC: its fault, or the L1I as the fetch leaves it (R329, R333, R350, R353). -/
def State.fetch (s : State) (n : Nat) : State × Option Exc :=
  let pc := s.pcOf n
  match s.fetchTr n with
  | (s, .fault f) => (s, some (Exc.ofFault f pc))
  | (s, .ok pa ty) =>
    let line := pa / 64 * 64
    if (tget? (s.cor n).l1i line).isSome then (s, none)
    else
      match s.busRd (coreReq s n) line 64 with
      | (s, none) => (s, some { code := xIBUS, faddr := pc, synd := 0 })
      | (s, some b) =>
        let s := s.note n evL1I
        if ty ≠ .wb ∨ s.stBit n 8 = true then (s, none)
        else ((if (tget? (s.l2Of (n / 4)) line).isSome then s else s.note n evL2).l1iFill n line b, none)

/-- The word at PC as the fetch would find it: in L1I as it was fetched, else in memory. -/
def State.coreWord (s : State) (n : Nat) : Option (BitVec 32) :=
  match (s.fetchTr n).2 with
  | .fault _ => none
  | .ok pa _ =>
    let line := pa / 64 * 64
    let b := match tget? (s.cor n).l1i line with
      | some b => some b
      | none => (s.busRd (coreReq s n) line 64).2
    b.map (fun b => BitVec.ofNat 32 (ofBytes (slice b (pa % 64) 4)))

/-- A wrong-path access counts the lines that it allocates: in its L1, and in the L2 unless the L2 held the line (R356). -/
def State.wpFill (s : State) (n l : Nat) : State := s.pmuBy n evWPF (if (tget? (s.l2Of (n / 4)) l).isSome then 1 else 2)

/-- One effect of a wrong-path instruction, freely chosen (R351, R421): a fetch or a load of some address, whose walk fills what it fills unless it faults and which allocates a NORMAL-WB line, or a branch that trains some counter. Deterministic mode allocates no line (R353), and without prediction no counter is trained (R342). -/
def State.wrong1 (s : State) (n : Nat) : State :=
  let va := s.freeW64.toNat
  let kind := s.tick1.freeNat % 3
  let s := s.tick1.tick1
  if kind = 0 then
    match s.translate n (s.lvl n) .fetch va with
    | (_, .fault _) => s
    | (t, .ok pa ty) =>
      let l := pa / 64 * 64
      match t.memRd (coreReq t n) l 64 with
      | some b => if ty = .wb ∧ t.stBit n 8 = false ∧ (tget? (t.cor n).l1i l).isSome = false then (t.wpFill n l).l1iFill n l b else t
      | none => t
  else if kind = 1 then
    match s.translate n (s.lvl n) .load va with
    | (_, .fault _) => s
    | (t, .ok pa ty) =>
      let l := pa / 64 * 64
      if ty = .wb ∧ t.stBit n 8 = false ∧ (t.cor n).l1t.contains l = false ∧ (t.memRd (coreReq t n) l 64).isSome = true then (t.wpFill n l).l1dFill n l else t
  else if s.noPred n then s
  else
    let i := s.freeNat % 8192
    let k := tget 1 (s.cor n).bp i
    (s.setCor n { s.cor n with bp := tset (s.cor n).bp i (if s.freeBit then min 3 (k + 1) else k - 1) }).tick1

def State.wrongK (s : State) (n : Nat) : Nat → State
  | 0 => s
  | k + 1 => (s.wrong1 n).wrongK n k

/-- The wrong path of a misprediction or of an exception leaves caches, TLBs and direction table as some number of such effects leave them (R351; log entry 105). No counter but WP_INST and WP_FILL sees it: WP_INST counts the instructions of these effects, and a free number of others without one. -/
def State.wrongPath (s : State) (n : Nat) : State :=
  let k := s.freeNat
  let t := s.tick1.wrongK n k
  (((t.setCor n { t.cor n with evs := (s.cor n).evs, stale := [] }).pmuBy n evWPI (k + t.freeNat))).tick1

/-- A synchronous exception of the instruction at PC (R394, R395); the instructions fetched after it run on a wrong path (R351). -/
def State.trap (s : State) (n : Nat) (e : Exc) : State :=
  let t := max (s.lvl n).num (naturalLvl e.code)
  let s := s.wrongPath n
  let ret := if e.code = xCALLS ∨ e.code = xCALLH ∨ e.code = xCALLM then s.pcOf n + 4 else s.pcOf n
  (s.enter n e { ret := ret, orig := 0, loopend := s.atLoopEnd n } 4 t).haltAfterEntry n

/-- The end of an instruction. -/
def Flow.finish (f : Flow) (n : Nat) : State :=
  match f with
  | .next s => s.retire n
  | .jump s pc => s.retireJump n pc
  | .exc s e => s.trap n e
  | .done s => s.haltPoll n
  | .hold s => s

/-- The packets due before the first instruction after C2, C3 or a halt (R556, R560). -/
def State.resyncTrace (s : State) (n : Nat) : State :=
  if (s.cor n).resync then
    (s.setCor n { s.cor n with resync := false }).emitSync n
  else s

/-- An instruction of core n, in the order of R390: fetch, illegal (also by R377 when `endOk` is false), privileged, and its own work. A core that cannot execute now is left as it is. -/
def State.insn (s : State) (n : Nat) (legal endOk : Bool) (priv : Lvl → Bool) (body : State → Flow) : State :=
  if !s.canRun n then s
  else
    let s := (s.detApply n).resyncTrace n
    let s := s.setCor n { s.cor n with shield := false, evs := [] }
    match s.fetch n with
    | (s, some e) => s.trap n e
    | (s, none) =>
      if !legal || (!endOk && s.atLoopEnd n) then s.trap n { code := xILLEGAL, faddr := s.pcOf n, synd := 0 }
      else if !priv (s.lvl n) then s.trap n { code := xPRIV, faddr := s.pcOf n, synd := 0 }
      else (body s).finish n

/-- An instruction that every level may execute, at any place of a loop. -/
def State.insnU (s : State) (n : Nat) (legal : Bool) (body : State → Flow) : State := s.insn n legal true (fun _ => true) body

/-! ### Entries at a boundary -/

/-- STORE_ERROR_ENTRY (R397): taking the error clears PEND; FADDR is 0 when no address was recorded for it. -/
def execStoreErrorEntry (n : Fin 32) (s : State) : Out :=
  .next (if s.entryOpen n && s.sterrDue n then
    let a := if (s.cor n).sterrOwn then s.sr n srSTERR_ADDR else 0
    let s' := s.setSr n srSTERR_FLAGS (s.sr n srSTERR_FLAGS &&& ~~~(BitVec.ofNat 64 4))
    ((s'.wrongPath n).enter n { code := xSTERR, faddr := a, synd := 0 } { ret := s.pcOf n, orig := 0, loopend := false } 4 (s.sterrLvl n)).haltAfterEntry n
  else s)

/-- IRQ_ENTRY (R396, R398): a store error at the same boundary comes first. -/
def execIrqEntry (n : Fin 32) (s : State) : Out :=
  .next (if s.entryOpen n && !s.sterrDue n && s.irqDue n then
    ((s.wrongPath n).enter n { code := xIRQ, faddr := 0, synd := 0 } { ret := s.pcOf n, orig := 0, loopend := false } 4 (s.ilvl n)).haltAfterEntry n
  else s)

end Sys2Proof.Machine
end

