-- ==== Sys2Proof/Machine/P64Int.lean ====
section
/-!
DEFINITION. Integer operations, branches, jumps, high constants and the loop instruction of Parhild-64 (R365 to R376).
-/
namespace Sys2Proof.Machine

/-! ### Shared operations -/

/-- The signed reading of bits 31:0, and of all 64. -/
def sg32 (x : W64) : Int := (x.setWidth 32).toInt
def u32w (x : W64) : Nat := x.toNat % 2 ^ 32
/-- The low `w` bits of an exact result, sign-extended to 64. -/
def wrapTo (w : Nat) (x : Int) : W64 := (BitVec.ofInt w x).signExtend 64
/-- The exact result lies outside the signed range of `w` bits (R369). -/
def outside (w : Nat) (x : Int) : Bool := decide (x < -(2 ^ (w - 1) : Nat)) || decide ((2 ^ (w - 1) : Nat) ≤ x)

def State.ove (s : State) (n : Nat) : Bool := s.stBit n 7
def State.dze (s : State) (n : Nat) : Bool := s.stBit n 6

/-- Write a result that overflows nothing. -/
def State.result (s : State) (n d : Nat) (v : W64) : Flow := .next (s.gw n d v)

/-- Write an exact result under R369. -/
def State.exact (s : State) (n d w : Nat) (x : Int) : Flow :=
  if outside w x && s.ove n then .exc s { code := xOVF, faddr := s.pcOf n, synd := 0 } else s.result n d (wrapTo w x)

/-- Register-register form: bits 12:5 are 0 (R362). -/
def State.rr (s : State) (n : Nat) (a b : Fin 32) (z : BitVec 8) (f : State → W64 → W64 → Flow) : State :=
  s.insnU n (z == 0) (fun s => f s (s.gr n a) (s.gr n b))

/-- A result of two registers that overflows nothing. -/
def State.rrV (s : State) (n : Nat) (d a b : Fin 32) (z : BitVec 8) (f : W64 → W64 → W64) : State :=
  s.rr n a b z (fun s x y => s.result n d (f x y))

/-- A result of two registers under R369. -/
def State.rrX (s : State) (n : Nat) (d a b : Fin 32) (z : BitVec 8) (w : Nat) (f : W64 → W64 → Int) : State :=
  s.rr n a b z (fun s x y => s.exact n d w (f x y))

/-- A division: by 0 under R368, else under R369. -/
def State.divide (s : State) (n : Nat) (d a b : Fin 32) (z : BitVec 8) (w : Nat) (signed quotient : Bool) : State :=
  s.rr n a b z (fun s x y =>
    let p : Int := if signed then (x.setWidth w).toInt else (x.setWidth w).toNat
    let q : Int := if signed then (y.setWidth w).toInt else (y.setWidth w).toNat
    if q = 0 then
      if s.dze n then .exc s { code := xDIVZ, faddr := s.pcOf n, synd := 0 } else s.result n d (if quotient then 0 else wrapTo w p)
    else if quotient then (if signed then s.exact n d w (p.tdiv q) else s.result n d (wrapTo w (p / q)))
    else s.result n d (wrapTo w (p.tmod q)))

/-- Register-constant form. -/
def State.rk (s : State) (n : Nat) (d a : Fin 32) (legal : Bool) (f : W64 → W64) : State :=
  s.insnU n legal (fun s => s.result n d (f (s.gr n a)))
def State.rkX (s : State) (n : Nat) (d a : Fin 32) (w : Nat) (f : W64 → Int) : State :=
  s.insnU n true (fun s => s.exact n d w (f (s.gr n a)))

def sext13 (k : BitVec 13) : W64 := k.signExtend 64
def zext13 (k : BitVec 13) : W64 := k.setWidth 64
/-- A shift amount of `w` bits with the bits above it at 0 (R366). -/
def amountOk (w : Nat) (k : BitVec 13) : Bool := decide (k.toNat < 2 ^ w)
def flag (b : Bool) : W64 := if b then 1 else 0
/-- A 32-bit result, sign-extended. -/
def ext32 (v : BitVec 32) : W64 := v.signExtend 64
def lo32 (x : W64) : BitVec 32 := x.setWidth 32

/-! ### ALU (R365) -/

/-- ADD (R365, R369). -/
def execAdd (n : Fin 32) (d a b : Fin 32) (z : BitVec 8) (s : State) : Out := .next (s.rrX n d a b z 64 (fun x y => x.toInt + y.toInt))
/-- SUB (R365, R369). -/
def execSub (n : Fin 32) (d a b : Fin 32) (z : BitVec 8) (s : State) : Out := .next (s.rrX n d a b z 64 (fun x y => x.toInt - y.toInt))
/-- ADDM (R365). -/
def execAddm (n : Fin 32) (d a b : Fin 32) (z : BitVec 8) (s : State) : Out := .next (s.rrV n d a b z (fun x y => x + y))
/-- SUBM (R365). -/
def execSubm (n : Fin 32) (d a b : Fin 32) (z : BitVec 8) (s : State) : Out := .next (s.rrV n d a b z (fun x y => x - y))
/-- AND (R365). -/
def execAnd (n : Fin 32) (d a b : Fin 32) (z : BitVec 8) (s : State) : Out := .next (s.rrV n d a b z (fun x y => x &&& y))
/-- OR (R365). -/
def execOr (n : Fin 32) (d a b : Fin 32) (z : BitVec 8) (s : State) : Out := .next (s.rrV n d a b z (fun x y => x ||| y))
/-- XOR (R365). -/
def execXor (n : Fin 32) (d a b : Fin 32) (z : BitVec 8) (s : State) : Out := .next (s.rrV n d a b z (fun x y => x ^^^ y))
/-- ANDN (R365). -/
def execAndn (n : Fin 32) (d a b : Fin 32) (z : BitVec 8) (s : State) : Out := .next (s.rrV n d a b z (fun x y => x &&& ~~~y))
/-- SHL (R365). -/
def execShl (n : Fin 32) (d a b : Fin 32) (z : BitVec 8) (s : State) : Out := .next (s.rrV n d a b z (fun x y => x <<< (y.toNat % 64)))
/-- SHR (R365). -/
def execShr (n : Fin 32) (d a b : Fin 32) (z : BitVec 8) (s : State) : Out := .next (s.rrV n d a b z (fun x y => x >>> (y.toNat % 64)))
/-- SAR (R365). -/
def execSar (n : Fin 32) (d a b : Fin 32) (z : BitVec 8) (s : State) : Out := .next (s.rrV n d a b z (fun x y => x.sshiftRight (y.toNat % 64)))
/-- CLT (R365). -/
def execClt (n : Fin 32) (d a b : Fin 32) (z : BitVec 8) (s : State) : Out := .next (s.rrV n d a b z (fun x y => flag (x.slt y)))
/-- CLTU (R365). -/
def execCltu (n : Fin 32) (d a b : Fin 32) (z : BitVec 8) (s : State) : Out := .next (s.rrV n d a b z (fun x y => flag (x.ult y)))
/-- MIN (R365). -/
def execMin (n : Fin 32) (d a b : Fin 32) (z : BitVec 8) (s : State) : Out := .next (s.rrV n d a b z (fun x y => if x.slt y then x else y))
/-- MAX (R365). -/
def execMax (n : Fin 32) (d a b : Fin 32) (z : BitVec 8) (s : State) : Out := .next (s.rrV n d a b z (fun x y => if x.slt y then y else x))
/-- MINU (R365). -/
def execMinu (n : Fin 32) (d a b : Fin 32) (z : BitVec 8) (s : State) : Out := .next (s.rrV n d a b z (fun x y => if x.ult y then x else y))
/-- MAXU (R365). -/
def execMaxu (n : Fin 32) (d a b : Fin 32) (z : BitVec 8) (s : State) : Out := .next (s.rrV n d a b z (fun x y => if x.ult y then y else x))
/-- ADD32 (R365, R369). -/
def execAdd32 (n : Fin 32) (d a b : Fin 32) (z : BitVec 8) (s : State) : Out := .next (s.rrX n d a b z 32 (fun x y => sg32 x + sg32 y))
/-- SUB32 (R365, R369). -/
def execSub32 (n : Fin 32) (d a b : Fin 32) (z : BitVec 8) (s : State) : Out := .next (s.rrX n d a b z 32 (fun x y => sg32 x - sg32 y))
/-- SHL32 (R365). -/
def execShl32 (n : Fin 32) (d a b : Fin 32) (z : BitVec 8) (s : State) : Out := .next (s.rrV n d a b z (fun x y => ext32 (lo32 x <<< (y.toNat % 32))))
/-- SHR32 (R365). -/
def execShr32 (n : Fin 32) (d a b : Fin 32) (z : BitVec 8) (s : State) : Out := .next (s.rrV n d a b z (fun x y => ext32 (lo32 x >>> (y.toNat % 32))))
/-- SAR32 (R365). -/
def execSar32 (n : Fin 32) (d a b : Fin 32) (z : BitVec 8) (s : State) : Out := .next (s.rrV n d a b z (fun x y => ext32 ((lo32 x).sshiftRight (y.toNat % 32))))
/-! ### ALUI (R366) -/

/-- ADDK (R366, R369). -/
def execAddk (n : Fin 32) (d a : Fin 32) (k : BitVec 13) (s : State) : Out := .next (s.rkX n d a 64 (fun x => x.toInt + k.toInt))
/-- ADDKM (R366). -/
def execAddkm (n : Fin 32) (d a : Fin 32) (k : BitVec 13) (s : State) : Out := .next (s.rk n d a true (fun x => x + sext13 k))
/-- ANDK (R366). -/
def execAndk (n : Fin 32) (d a : Fin 32) (k : BitVec 13) (s : State) : Out := .next (s.rk n d a true (fun x => x &&& zext13 k))
/-- ORK (R366). -/
def execOrk (n : Fin 32) (d a : Fin 32) (k : BitVec 13) (s : State) : Out := .next (s.rk n d a true (fun x => x ||| zext13 k))
/-- XORK (R366). -/
def execXork (n : Fin 32) (d a : Fin 32) (k : BitVec 13) (s : State) : Out := .next (s.rk n d a true (fun x => x ^^^ zext13 k))
/-- CLTK (R366). -/
def execCltk (n : Fin 32) (d a : Fin 32) (k : BitVec 13) (s : State) : Out := .next (s.rk n d a true (fun x => flag (x.slt (sext13 k))))
/-- CLTUK (R366). -/
def execCltuk (n : Fin 32) (d a : Fin 32) (k : BitVec 13) (s : State) : Out := .next (s.rk n d a true (fun x => flag (x.ult (sext13 k))))
/-- SHLK (R366). -/
def execShlk (n : Fin 32) (d a : Fin 32) (k : BitVec 13) (s : State) : Out := .next (s.rk n d a (amountOk 6 k) (fun x => x <<< k.toNat))
/-- SHRK (R366). -/
def execShrk (n : Fin 32) (d a : Fin 32) (k : BitVec 13) (s : State) : Out := .next (s.rk n d a (amountOk 6 k) (fun x => x >>> k.toNat))
/-- SARK (R366). -/
def execSark (n : Fin 32) (d a : Fin 32) (k : BitVec 13) (s : State) : Out := .next (s.rk n d a (amountOk 6 k) (fun x => x.sshiftRight k.toNat))
/-- ADDK32 (R366, R369). -/
def execAddk32 (n : Fin 32) (d a : Fin 32) (k : BitVec 13) (s : State) : Out := .next (s.rkX n d a 32 (fun x => sg32 x + k.toInt))
/-- SHLK32 (R366). -/
def execShlk32 (n : Fin 32) (d a : Fin 32) (k : BitVec 13) (s : State) : Out := .next (s.rk n d a (amountOk 5 k) (fun x => ext32 (lo32 x <<< k.toNat)))
/-- SHRK32 (R366). -/
def execShrk32 (n : Fin 32) (d a : Fin 32) (k : BitVec 13) (s : State) : Out := .next (s.rk n d a (amountOk 5 k) (fun x => ext32 (lo32 x >>> k.toNat)))
/-- SARK32 (R366). -/
def execSark32 (n : Fin 32) (d a : Fin 32) (k : BitVec 13) (s : State) : Out := .next (s.rk n d a (amountOk 5 k) (fun x => ext32 ((lo32 x).sshiftRight k.toNat)))
/-! ### MULDIV (R367 to R369) -/

/-- MUL (R367, R369). -/
def execMul (n : Fin 32) (d a b : Fin 32) (z : BitVec 8) (s : State) : Out := .next (s.rrX n d a b z 64 (fun x y => x.toInt * y.toInt))
/-- MULHI (R367). -/
def execMulhi (n : Fin 32) (d a b : Fin 32) (z : BitVec 8) (s : State) : Out := .next (s.rrV n d a b z (fun x y => BitVec.ofInt 64 (x.toInt * y.toInt / 2 ^ 64)))
/-- MULHIU (R367). -/
def execMulhiu (n : Fin 32) (d a b : Fin 32) (z : BitVec 8) (s : State) : Out := .next (s.rrV n d a b z (fun x y => BitVec.ofNat 64 (x.toNat * y.toNat / 2 ^ 64)))
/-- MUL32 (R367, R369). -/
def execMul32 (n : Fin 32) (d a b : Fin 32) (z : BitVec 8) (s : State) : Out := .next (s.rrX n d a b z 32 (fun x y => sg32 x * sg32 y))
/-- DIV (R367 to R369). -/
def execDiv (n : Fin 32) (d a b : Fin 32) (z : BitVec 8) (s : State) : Out := .next (s.divide n d a b z 64 true true)
/-- DIVU (R367, R368). -/
def execDivu (n : Fin 32) (d a b : Fin 32) (z : BitVec 8) (s : State) : Out := .next (s.divide n d a b z 64 false true)
/-- MOD (R367, R368). -/
def execMod (n : Fin 32) (d a b : Fin 32) (z : BitVec 8) (s : State) : Out := .next (s.divide n d a b z 64 true false)
/-- MODU (R367, R368). -/
def execModu (n : Fin 32) (d a b : Fin 32) (z : BitVec 8) (s : State) : Out := .next (s.divide n d a b z 64 false false)
/-- DIV32 (R367 to R369). -/
def execDiv32 (n : Fin 32) (d a b : Fin 32) (z : BitVec 8) (s : State) : Out := .next (s.divide n d a b z 32 true true)
/-- DIVU32 (R367, R368). -/
def execDivu32 (n : Fin 32) (d a b : Fin 32) (z : BitVec 8) (s : State) : Out := .next (s.divide n d a b z 32 false true)
/-- MOD32 (R367, R368). -/
def execMod32 (n : Fin 32) (d a b : Fin 32) (z : BitVec 8) (s : State) : Out := .next (s.divide n d a b z 32 true false)
/-- MODU32 (R367, R368). -/
def execModu32 (n : Fin 32) (d a b : Fin 32) (z : BitVec 8) (s : State) : Out := .next (s.divide n d a b z 32 false false)
/-! ### Branches, jumps, high constants (R372 to R374) -/

/-- A compare-and-branch: one atom, and no place at LEND of an active loop (R372, R377, R554). -/
def State.cb (s : State) (n : Nat) (a b : Fin 32) (off : BitVec 13) (c : W64 → W64 → Bool) : State :=
  s.insn n true false (fun _ => true) (fun s =>
    let t := c (s.gr n a) (s.gr n b)
    let pc := s.pcOf n
    let w := s.mispredicts n pc t
    let s := s.predict n pc t
    let s := (if w then s.wrongPath n else s).atom n t
    if t then .jump s (pc + 4 * off.signExtend 64) else .next s)

/-- CBEQ (R372). -/
def execCbeq (n : Fin 32) (a b : Fin 32) (off : BitVec 13) (s : State) : Out := .next (s.cb n a b off (fun x y => x == y))
/-- CBNE (R372). -/
def execCbne (n : Fin 32) (a b : Fin 32) (off : BitVec 13) (s : State) : Out := .next (s.cb n a b off (fun x y => x != y))
/-- CBLT (R372). -/
def execCblt (n : Fin 32) (a b : Fin 32) (off : BitVec 13) (s : State) : Out := .next (s.cb n a b off (fun x y => x.slt y))
/-- CBGE (R372). -/
def execCbge (n : Fin 32) (a b : Fin 32) (off : BitVec 13) (s : State) : Out := .next (s.cb n a b off (fun x y => !x.slt y))
/-- CBLTU (R372). -/
def execCbltu (n : Fin 32) (a b : Fin 32) (off : BitVec 13) (s : State) : Out := .next (s.cb n a b off (fun x y => x.ult y))
/-- CBGEU (R372). -/
def execCbgeu (n : Fin 32) (a b : Fin 32) (off : BitVec 13) (s : State) : Out := .next (s.cb n a b off (fun x y => !x.ult y))
/-- JLINK (R372, R373). -/
def execJlink (n : Fin 32) (d : Fin 32) (k : BitVec 23) (s : State) : Out :=
  .next (s.insn n true false (fun _ => true) (fun s =>
    let pc := s.pcOf n
    let s := (if d.val = 30 then s.pushRet n (pc + 4) else s).pmu n evBR
    let s := if s.noPred n then s.pmu n evIND else s
    .jump (s.gw n d (pc + 4)) (pc + 4 * k.signExtend 64)))

/-- JLINKR (R372, R373): class RK with minor 0; a call with d = g30, a return with d = g0, a = g30 and imm13 = 0, and otherwise an indirect branch. -/
def execJlinkr (n : Fin 32) (d a : Fin 32) (minor : BitVec 5) (k : BitVec 13) (s : State) : Out :=
  .next (s.insn n (minor == 0) false (fun _ => true) (fun s =>
    let pc := s.pcOf n
    let t := (s.gr n a + sext13 k) &&& ~~~3
    let s := s.pmu n evBR
    let s :=
      if d.val = 30 then (s.pushRet n (pc + 4)).pmu n evIND
      else if d.val = 0 ∧ a.val = 30 ∧ k = 0 then (if s.misreturns n t then (s.popRet n t).wrongPath n else s.popRet n t)
      else s.pmu n evIND
    .jump ((s.gw n d (pc + 4)).emitCC n 0x02 (leBytes 8 t.toNat)) t))

/-- MKHI (R374). -/
def execMkhi (n : Fin 32) (d : Fin 32) (k : BitVec 23) (s : State) : Out :=
  .next (s.insnU n true (fun s => s.result n d (k.signExtend 64 <<< 13)))

/-- PCHI (R374). -/
def execPchi (n : Fin 32) (d : Fin 32) (k : BitVec 23) (s : State) : Out :=
  .next (s.insnU n true (fun s => s.result n d (s.pcOf n + (k.signExtend 64 <<< 13))))

/-- LOOP (R375): `z1` and `z2` are bits 27:23 and 17:13. -/
def execLoop (n : Fin 32) (a : Fin 32) (e : BitVec 13) (z1 z2 : BitVec 5) (s : State) : Out :=
  .next (s.insn n (z1 == 0 && z2 == 0 && decide ((s.sr n srLCNT).toNat % 2 ^ 32 = 0)) false (fun _ => true) (fun s =>
    let c := u32w (s.gr n a)
    let last := s.pcOf n + 4 + 4 * e.setWidth 64
    let s := (s.setSr n srLCNT (BitVec.ofNat 64 (e.toNat * 2 ^ 32 + c))).setSr n srLEND last
    let s := s.atom n (decide (c = 0))
    if c = 0 then .jump s (last + 4) else .next s))

end Sys2Proof.Machine
end

