-- ==== Sys2Proof/Machine/P64Mem.lean ====
section
/-!
DEFINITION. Loads, stores, atomic operations and the store buffer's drain on Parhild-64 (R344 to R347, R370, R371, R378 to R380, R416).
-/
namespace Sys2Proof.Machine

/-! ### Data accesses -/

/-- One part of an access after translation: its VA, length, physical address and type. -/
structure Part where
  va : W64
  len : Nat
  pa : Nat
  ty : MemTy
deriving DecidableEq, Repr

/-- The parts of an access: one for each aligned 8-byte unit that it touches (R371). -/
def accParts (va : W64) (k : Nat) : List (W64 × Nat) :=
  let o := va.toNat % 8
  if o + k ≤ 8 then [(va, k)] else [(va, 8 - o), (va + BitVec.ofNat 64 (8 - o), k - (8 - o))]

/-- Translate the parts in address order; the lower-addressed fault is the one taken (R371). -/
def State.trParts (s : State) (n : Nat) (acc : Acc) : List (W64 × Nat) → State × Except Exc (List Part)
  | [] => (s, .ok [])
  | (va, k) :: r =>
    match s.translate n (s.lvl n) acc va.toNat with
    | (s, .fault f) => (s, .error (Exc.ofFault f va))
    | (s, .ok pa ty) =>
      match s.trParts n acc r with
      | (s, .error e) => (s, .error e)
      | (s, .ok l) => (s, .ok ({ va := va, len := k, pa := pa, ty := ty } :: l))

def anyDev (l : List Part) : Bool := l.any (fun p => p.ty.device)

/-- The parts of an access, with the misaligned access to device memory refused after translation (R371, R390). -/
def State.access (s : State) (n : Nat) (acc : Acc) (va : W64) (k : Nat) : State × Except Exc (List Part) :=
  match s.trParts n acc (accParts va k) with
  | (s, .ok l) => if anyDev l && decide (va.toNat % k ≠ 0) then (s, .error { code := xMISALIGN, faddr := va, synd := 0 }) else (s, .ok l)
  | (s, .error e) => (s, .error e)

/-- Stores that must have drained before an access of these parts (R416). -/
def State.order (s : State) (n : Nat) (l : List Part) : State :=
  s.orderFor n (if l.any (fun p => decide (p.ty = .strict)) then .strict else if anyDev l then .relaxed else .wb)

/-- The lines of an access that L1D serves: NORMAL-WB, outside deterministic mode (R331, R353). -/
def State.wbLines (s : State) (n : Nat) (l : List Part) : List Nat :=
  if s.stBit n 8 then [] else (l.filter (fun p => decide (p.ty = .wb))).map (fun p => p.pa / 64 * 64)

/-- Every part of the access is NORMAL-WB and its line stands in L1D. -/
def State.inL1d (s : State) (n : Nat) (l : List Part) : Bool :=
  !s.stBit n 8 && l.all (fun p => decide (p.ty = .wb) && (s.cor n).l1t.contains (p.pa / 64 * 64))

/-- A load told to miss: the L2 has meanwhile evicted the lines of it that L1D held (R332). -/
def State.l2Took (s : State) (n : Nat) (l : List Part) : State := forEach (s.wbLines n l) (fun s x => if (s.cor n).l1t.contains x then s.l2Evict (n / 4) x else s) s

/-- The value that a load writes. -/
def extend (k : Nat) (signed : Bool) (b : Bytes) : W64 :=
  let v := ofBytes b
  if signed then BitVec.ofInt 64 (sgn (8 * k) v) else BitVec.ofNat 64 v

/-- The bytes of the ranges of a load, when the memory answers for each. -/
def State.memParts (s : State) (q : Req) : List (Nat × Nat) → Option Bytes
  | [] => some []
  | (a, k) :: r => (s.memRd q a k).bind (fun b => (s.memParts q r).map (b ++ ·))

/-- The stride prefetcher after a retired NORMAL-WB load of address `pa` (R352): the stream of its page learns it, and once its stride has come twice the L2 may take a line further along it in the same page; whether it does and how far ahead is free (log entry 209). -/
def State.prefetch (s : State) (n pa : Nat) : State :=
  if s.stBit n 8 ∨ (s.sr n srCACHECTL).getLsbD 0 = false then s
  else
    let c := s.cor n
    let old := c.pf.find? (fun x => decide (x.page = pa / 4096))
    let d : Int := match old with
      | some x => (pa : Int) - x.last
      | none => 0
    let s := s.setCor n { c with pf := ({ page := pa / 4096, last := pa, stride := d } :: c.pf.filter (fun x => decide (x.page ≠ pa / 4096))).take 16 }
    if d = 0 ∨ old.map (·.stride) ≠ some d then s
    else
      let next := ((pa : Int) + d * (s.freeNat % 65 : Nat)).toNat
      let l := next / 64 * 64
      if next ≠ pa ∧ next / 4096 = pa / 4096 ∧ (s.memRd (coreReq s n) l 64).isSome = true then (s.tick1).l2Fill (n / 4) l else s.tick1

/-- The prefetcher sees a load whose first part is NORMAL-WB. -/
def State.trained (s : State) (n : Nat) (wb : Bool) (ps : List (Nat × Nat)) : State :=
  match ps with
  | (pa, _) :: _ => if wb then s.prefetch n pa else s
  | [] => s

/-- A load of `k` bytes; without `hit` its lines have left L1D. What neither L1D nor the buffer gives arrives by LOAD_DATA_RETURN (R335, R345). -/
def State.loadOp (s : State) (n d k : Nat) (signed hit : Bool) (va : W64) : Flow :=
  match s.access n .load va k with
  | (s, .error e) => .exc s e
  | (s, .ok l) =>
    let s := s.order n l
    let s := if hit then s else s.l2Took n l
    let ps := l.map (fun p => (p.pa, p.len))
    let f := s.forward n ps (anyDev l)
    let wb := (s.wbLines n l).isEmpty = false
    match f with
    | .data b => .next (((s.note n evFWD).gw n d (extend k signed b)).trained n wb ps)
    | _ =>
      match (if f = .none ∧ s.inL1d n l = true then s.memParts (coreReq s n) ps else none) with
      | some b => .next ((forEach (s.wbLines n l) (fun s x => s.loaded n x .wb) s).gw n d (extend k signed b) |>.trained n wb ps)
      | none => .hold (s.setCor n { s.cor n with load := some { d := d, parts := ps, size := k, signed := signed, va := va, wb := s.wbLines n l, ovlp := decide (f = .wait) } })

/-- A load instruction (R370). -/
def State.ld (s : State) (n d a : Nat) (off : BitVec 13) (k : Nat) (signed hit : Bool) : State :=
  s.insnU n true (fun s => s.loadOp n d k signed hit (s.gr n a + sext13 off))

/-- Read the parts of a load from their targets. -/
def State.readParts (s : State) (q : Req) : List (Nat × Nat) → State × Option Bytes
  | [] => (s, some [])
  | (a, k) :: r =>
    match s.busRd q a k with
    | (s, none) => (s, none)
    | (s, some b) =>
      match s.readParts q r with
      | (s, none) => (s, none)
      | (s, some c) => (s, some (b ++ c))

/-- What ECC found at the load's first part in DRAM or the basin (R461, R546): an uncorrectable error gives the reader a bus error. -/
def State.loadEcc (s : State) (w : LoadWait) (e : Ecc) : State × Bool :=
  match w.parts.find? (fun p => s.eccAt p.1) with
  | some p => s.memErr p.1 e
  | none => (s, false)

/-- LOAD_DATA_RETURN (R335, R345, R393, R546): the data arrives once no buffered store overlaps the load. -/
def execLoadDataReturn (n : Fin 32) (e : Ecc) (s : State) : Out :=
  .next (match (s.cor n).load with
    | none => s
    | some w =>
      if s.fenced 0 n ∨ w.parts.any (fun p => (s.cor n).sb.any (fun e => e.overlaps p.1 p.2)) = true then s
      else
        let (s, bad) := (s.setCor n { s.cor n with load := none }).loadEcc w e
        match (if bad then (s, none) else s.readParts (coreReq s n) w.parts) with
        | (s, none) => s.trap n { code := xLBUS, faddr := w.va, synd := 0 }
        | (s, some b) =>
          let s := forEach w.wb (fun s x => s.loaded n x .wb) s
          (((if w.ovlp then s.note n evOVLP else s).gw n w.d (extend w.size w.signed b)).trained n (!w.wb.isEmpty) w.parts).retire n)

/-- Put the parts of a store into the buffer, in address order (R371). -/
def State.storeParts (s : State) (n : Nat) (b : Bytes) : List Part → State
  | [] => s
  | p :: r => (s.storeOut n { pa := p.pa, bytes := b.take p.len, ty := p.ty, sid := s.sid n, lvl := s.lvl n }).storeParts n (b.drop p.len) r

/-- A store of the low `k` bytes of g[r] (R370). -/
def State.st (s : State) (n r a : Nat) (off : BitVec 13) (k : Nat) : State :=
  s.insnU n true (fun s =>
    let va := s.gr n a + sext13 off
    match s.access n .store va k with
    | (s, .error e) => .exc s e
    | (s, .ok l) => .next (s.storeParts n (leBytes k (s.gr n r).toNat) l))

/-- STORE_DRAIN (R344, R347). -/
def execStoreDrain (n : Fin 32) (s : State) : Out := .next (if s.fenced 0 n then s else s.drain1 n)

/-! ### Loads and stores (R370) -/

/-- LD8 (R370). -/
def execLd8 (n : Fin 32) (d a : Fin 32) (k : BitVec 13) (hit : Bool) (s : State) : Out := .next (s.ld n d a k 1 true hit)
/-- LD8U (R370). -/
def execLd8u (n : Fin 32) (d a : Fin 32) (k : BitVec 13) (hit : Bool) (s : State) : Out := .next (s.ld n d a k 1 false hit)
/-- LD16 (R370). -/
def execLd16 (n : Fin 32) (d a : Fin 32) (k : BitVec 13) (hit : Bool) (s : State) : Out := .next (s.ld n d a k 2 true hit)
/-- LD16U (R370). -/
def execLd16u (n : Fin 32) (d a : Fin 32) (k : BitVec 13) (hit : Bool) (s : State) : Out := .next (s.ld n d a k 2 false hit)
/-- LD32 (R370). -/
def execLd32 (n : Fin 32) (d a : Fin 32) (k : BitVec 13) (hit : Bool) (s : State) : Out := .next (s.ld n d a k 4 true hit)
/-- LD32U (R370). -/
def execLd32u (n : Fin 32) (d a : Fin 32) (k : BitVec 13) (hit : Bool) (s : State) : Out := .next (s.ld n d a k 4 false hit)
/-- LD64 (R370). -/
def execLd64 (n : Fin 32) (d a : Fin 32) (k : BitVec 13) (hit : Bool) (s : State) : Out := .next (s.ld n d a k 8 false hit)
/-- ST8 (R370). -/
def execSt8 (n : Fin 32) (r a : Fin 32) (k : BitVec 13) (s : State) : Out := .next (s.st n r a k 1)
/-- ST16 (R370). -/
def execSt16 (n : Fin 32) (r a : Fin 32) (k : BitVec 13) (s : State) : Out := .next (s.st n r a k 2)
/-- ST32 (R370). -/
def execSt32 (n : Fin 32) (r a : Fin 32) (k : BitVec 13) (s : State) : Out := .next (s.st n r a k 4)
/-- ST64 (R370). -/
def execSt64 (n : Fin 32) (r a : Fin 32) (k : BitVec 13) (s : State) : Out := .next (s.st n r a k 8)
/-! ### Atomic operations (R378 to R380) -/

/-- What an atomic operation makes of the old value: the value written, if any, and the result. -/
abbrev AtomF := State → Nat → Nat → Option Nat × W64

/-- An atomic operation on g[a] of `k` bytes: ordered as a SYNC, aligned, on NORMAL-WB memory; `rsv` is the reservation that it leaves, `f` takes the state, the physical address and the old value. -/
def State.atomic (s : State) (n d a : Nat) (k : Nat) (legal : Bool) (rsv : State → Nat → Option (Nat × Nat)) (f : AtomF) : State :=
  s.insnU n legal (fun s =>
    let s := s.drainAll n
    let va := s.gr n a
    if va.toNat % k ≠ 0 then .exc s { code := xMISALIGN, faddr := va, synd := 0 }
    else
      match s.translate n (s.lvl n) .atomic va.toNat with
      | (s, .fault x) => .exc s (Exc.ofFault x va)
      | (s, .ok pa ty) =>
        if ty ≠ .wb then .exc s { code := xACCTYPE, faddr := va, synd := 0 }
        else
          match s.busRd (coreReq s n) pa k with
          | (s, none) => .exc s { code := xLBUS, faddr := va, synd := 0 }
          | (s, some b) =>
            let r := f s pa (ofBytes b)
            let s := s.loaded n pa .wb
            let s := s.setCor n { s.cor n with rsv := rsv s pa }
            let s := match r.1 with
              | some v => (s.sbPush n { pa := pa, bytes := leBytes k v, ty := ty, sid := s.sid n, lvl := s.lvl n }).drainAll n
              | none => s
            .next (s.gw n d r.2))

/-- The old value as the result: the 32 forms sign-extend (R378). -/
def oldVal (k v : Nat) : W64 := BitVec.ofInt 64 (sgn (8 * k) v)
/-- The present reservation is left as it is. -/
def State.keepRsv (s : State) (n : Nat) (_pa : Nat) : Option (Nat × Nat) := (s.cor n).rsv

/-- An operation that reads, combines with g[b] and writes. -/
def State.rmw (s : State) (n : Nat) (d a b : Fin 32) (z : BitVec 8) (k : Nat) (f : Nat → Nat → Nat) : State :=
  s.atomic n d a k (z == 0) (fun s pa => s.keepRsv n pa) (fun s _ old => (some (f old (s.gr n b).toNat), oldVal k old))

/-- RSV: the reservation covers the address and size (R379); b is g0. -/
def State.rsvOp (s : State) (n : Nat) (d a b : Fin 32) (z : BitVec 8) (k : Nat) : State :=
  s.atomic n d a k (z == 0 && b == 0) (fun _ pa => some (pa, k)) (fun _ _ old => (none, oldVal k old))

/-- CMT: writes when the reservation holds for the same address and size; either way it ends. -/
def State.cmtOp (s : State) (n : Nat) (d a b : Fin 32) (z : BitVec 8) (k : Nat) : State :=
  s.atomic n d a k (z == 0) (fun _ _ => none)
    (fun s pa _ => if (s.cor n).rsv = some (pa, k) then (some (s.gr n b).toNat, 1) else (none, 0))

/-- ATCAS: compares with g[d]. -/
def State.casOp (s : State) (n : Nat) (d a b : Fin 32) (z : BitVec 8) (k : Nat) : State :=
  s.atomic n d a k (z == 0) (fun s pa => s.keepRsv n pa)
    (fun s _ old => (if old = (s.gr n d).toNat % 2 ^ (8 * k) then some (s.gr n b).toNat else none, oldVal k old))

/-- RSV32 (R378, R379). -/
def execRsv32 (n : Fin 32) (d a b : Fin 32) (z : BitVec 8) (s : State) : Out := .next (s.rsvOp n d a b z 4)
/-- CMT32 (R378, R379). -/
def execCmt32 (n : Fin 32) (d a b : Fin 32) (z : BitVec 8) (s : State) : Out := .next (s.cmtOp n d a b z 4)
/-- ATSWAP32 (R378). -/
def execAtswap32 (n : Fin 32) (d a b : Fin 32) (z : BitVec 8) (s : State) : Out := .next (s.rmw n d a b z 4 (fun _ y => y))
/-- ATADD32 (R378). -/
def execAtadd32 (n : Fin 32) (d a b : Fin 32) (z : BitVec 8) (s : State) : Out := .next (s.rmw n d a b z 4 (fun x y => x + y))
/-- ATAND32 (R378). -/
def execAtand32 (n : Fin 32) (d a b : Fin 32) (z : BitVec 8) (s : State) : Out := .next (s.rmw n d a b z 4 (fun x y => x &&& y))
/-- ATOR32 (R378). -/
def execAtor32 (n : Fin 32) (d a b : Fin 32) (z : BitVec 8) (s : State) : Out := .next (s.rmw n d a b z 4 (fun x y => x ||| y))
/-- ATCAS32 (R378). -/
def execAtcas32 (n : Fin 32) (d a b : Fin 32) (z : BitVec 8) (s : State) : Out := .next (s.casOp n d a b z 4)
/-- RSV64 (R378, R379). -/
def execRsv64 (n : Fin 32) (d a b : Fin 32) (z : BitVec 8) (s : State) : Out := .next (s.rsvOp n d a b z 8)
/-- CMT64 (R378, R379). -/
def execCmt64 (n : Fin 32) (d a b : Fin 32) (z : BitVec 8) (s : State) : Out := .next (s.cmtOp n d a b z 8)
/-- ATSWAP64 (R378). -/
def execAtswap64 (n : Fin 32) (d a b : Fin 32) (z : BitVec 8) (s : State) : Out := .next (s.rmw n d a b z 8 (fun _ y => y))
/-- ATADD64 (R378). -/
def execAtadd64 (n : Fin 32) (d a b : Fin 32) (z : BitVec 8) (s : State) : Out := .next (s.rmw n d a b z 8 (fun x y => x + y))
/-- ATAND64 (R378). -/
def execAtand64 (n : Fin 32) (d a b : Fin 32) (z : BitVec 8) (s : State) : Out := .next (s.rmw n d a b z 8 (fun x y => x &&& y))
/-- ATOR64 (R378). -/
def execAtor64 (n : Fin 32) (d a b : Fin 32) (z : BitVec 8) (s : State) : Out := .next (s.rmw n d a b z 8 (fun x y => x ||| y))
/-- ATCAS64 (R378). -/
def execAtcas64 (n : Fin 32) (d a b : Fin 32) (z : BitVec 8) (s : State) : Out := .next (s.casOp n d a b z 8)

end Sys2Proof.Machine
end

