-- ==== Sys2Proof/Machine/P64Sys.lean ====
section
/-!
DEFINITION. System registers, ordering, cache, TLB and prediction instructions, WAIT, ERET, calls and BRK of Parhild-64 (R341, R342, R348, R353, R357, R381 to R389, R401 to R404, R426, R510, R511), the core timer and cache errors.
-/
namespace Sys2Proof.Machine

/-! ### The core timer (R389) and writes -/

/-- CORE_TIMER_FIRE (R389). -/
def execCoreTimerFire (n : Fin 32) (s : State) : Out := .next (s.timerTry n)

/-- SIDLIM admits a SID (R387). -/
def State.sidOk (s : State) (n : Nat) (d : BitVec 16) : Bool :=
  let l := (s.sr n srSIDLIM).toNat
  decide (l % 65536 ≤ d.toNat) && decide (d.toNat < l % 65536 + l / 65536 % 65536)

/-- A system-register instruction (R385): `f` gives the value written, if it writes; `read` says that g[d] takes the old value. -/
def State.srOp (s : State) (n d k : Nat) (legal read : Bool) (f : Option (State → W64 → W64)) : State :=
  let desc := (srDesc k).getD { rd := .nobody, wr := .nobody, rw := 0, w1c := 0 }
  s.insn n (legal && (srDesc k).isSome) true (fun l => (!read || s.srReadOk n k desc) && (f.isNone || desc.wr.ok l.num)) (fun s =>
    let s := if isPmu k then s.pmuSettle n else s
    let l := (s.lvl n).num
    let old := s.srRead n k
    match f with
    | none => .next ((s.srAfterRead n k).gw n d old)
    | some g =>
      let v := g s old
      if k = srSID ∧ l = 1 ∧ s.sidOk n (v.setWidth 16) = false then .exc s { code := xPRIV, faddr := s.pcOf n, synd := 0 }
      else
        let t := if read then s.srAfterRead n k else s
        let t := (t.srWrite n l k desc v).detApply n
        .next (if read then t.gw n d old else t))

/-- MFSR (R381, R385): bits 22:18 are 0. -/
def execMfsr (n : Fin 32) (d : Fin 32) (a : BitVec 5) (k : BitVec 13) (s : State) : Out :=
  .next (s.srOp n d k.toNat (a == 0) true none)

/-- MTSR (R381, R385 to R387): bits 27:23 are 0. -/
def execMtsr (n : Fin 32) (d : BitVec 5) (a : Fin 32) (k : BitVec 13) (s : State) : Out :=
  .next (s.srOp n 0 k.toNat (d == 0) false (some (fun s _ => s.gr n a)))

/-- MSSET (R381, R385). -/
def execMsset (n : Fin 32) (d a : Fin 32) (k : BitVec 13) (s : State) : Out :=
  .next (s.srOp n d k.toNat true true (some (fun s old => old ||| s.gr n a)))

/-- MSCLR (R381, R385). -/
def execMsclr (n : Fin 32) (d a : Fin 32) (k : BitVec 13) (s : State) : Out :=
  .next (s.srOp n d k.toNat true true (some (fun s old => old &&& ~~~(s.gr n a))))

/-! ### NOP, ordering, caches (R382 to R384) -/

/-- Operands that the row does not name are 0 (R381). -/
def z3 (d a : BitVec 5) (k : BitVec 13) : Bool := d == 0 && a == 0 && k == 0

/-- NOP (R363, R381). -/
def execNop (n : Fin 32) (d a : BitVec 5) (k : BitVec 13) (s : State) : Out := .next (s.insnU n (z3 d a k) .next)

/-- SYNC (R382): every older access has completed, and the store buffer is empty. -/
def execSync (n : Fin 32) (d a : BitVec 5) (k : BitVec 13) (s : State) : Out := .next (s.insnU n (z3 d a k) (fun s => .next (s.drainAll n)))

/-- ISYNC (R383, R386). -/
def execIsync (n : Fin 32) (d a : BitVec 5) (k : BitVec 13) (s : State) : Out := .next (s.insnU n (z3 d a k) (fun s => .next (s.syncFetch n)))

/-- A 1-byte load at a physical address would receive a bus error; a byte of control space always does (R53). -/
def State.byteLost (s : State) (n pa : Nat) (ty : MemTy) : Bool :=
  match s.forward n [(pa, 1)] ty.device with
  | .data _ => false
  | _ => (s.busRd (coreReq s n) pa 1).2.isNone

/-- ICINV, DCWB and DCWBI: the line of VA, with the exceptions of a 1-byte load; nothing further off NORMAL-WB (R384). -/
def State.lineOp (s : State) (n : Nat) (legal : Bool) (a : Fin 32) (f : State → Nat → State) : State :=
  s.insnU n legal (fun s =>
    let va := s.gr n a
    match s.translate n (s.lvl n) .cache va.toNat with
    | (s, .fault x) => .exc s (Exc.ofFault x va)
    | (s, .ok pa ty) =>
      if s.byteLost n pa ty then .exc s { code := xLBUS, faddr := va, synd := 0 }
      else .next (if ty = .wb then f s (pa / 64 * 64) else s))

/-- The line goes back to memory from whichever L1D or L2 holds it modified, and stays valid. -/
def State.writeBack (s : State) (l : Nat) : State :=
  let s := forEach (s.l2.map (·.1)) (fun s k => s.l2Back k l) s
  { s with core := s.core.map (fun e => (e.1, { e.2 with l1d := tdel e.2.l1d l }))
           l2 := s.l2.map (fun e => (e.1, e.2.map (fun x => if x.1 = l ∧ x.2 = .modified then (l, .exclusive) else x))) }

/-- ICINV (R348, R384). -/
def execIcinv (n : Fin 32) (d : BitVec 5) (a : Fin 32) (k : BitVec 13) (s : State) : Out :=
  .next (s.lineOp n (d == 0 && k == 0) a (fun s l => s.setCor n { s.cor n with l1i := tdel (s.cor n).l1i l }))

/-- DCWB (R384). -/
def execDcwb (n : Fin 32) (d : BitVec 5) (a : Fin 32) (k : BitVec 13) (s : State) : Out :=
  .next (s.lineOp n (d == 0 && k == 0) a State.writeBack)

/-- DCWBI (R384): the line also leaves every L1D and L2, and with it the reservation on it (R379). -/
def execDcwbi (n : Fin 32) (d : BitVec 5) (a : Fin 32) (k : BitVec 13) (s : State) : Out :=
  .next (s.lineOp n (d == 0 && k == 0) a (fun s l =>
    let s := s.writeBack l
    { s with core := s.core.map (fun e => (e.1, e.2.lose [l])), l2 := s.l2.map (fun e => (e.1, tdel e.2 l)) }))

/-! ### TLB maintenance (R381, R426) -/

def privS (l : Lvl) : Bool := decide (1 ≤ l.num)
def privH (l : Lvl) : Bool := decide (2 ≤ l.num)

/-- At S the SID operand passes the SIDLIM check (R381). -/
def State.tinvSidOp (s : State) (n : Nat) (legal : Bool) (r : Fin 32) (f : State → BitVec 16 → State) : State :=
  s.insn n legal true privS (fun s =>
    let d := (s.gr n r).setWidth 16
    if s.lvl n = .s ∧ s.sidOk n d = false then .exc s { code := xPRIV, faddr := s.pcOf n, synd := 0 } else .next (f s d))

/-- TINV.VA; the format gives operand b no place, so the command carries it, and `z` for the bits that stay 0 (log entries 112 and 181). -/
def execTinvVa (n : Fin 32) (a b : Fin 32) (z : BitVec 13) (s : State) : Out :=
  .next (s.tinvSidOp n (z == 0) b (fun s d => s.tinvVa n (s.gr n a).toNat d))

/-- TINV.SID. -/
def execTinvSid (n : Fin 32) (d : BitVec 5) (a : Fin 32) (k : BitVec 13) (s : State) : Out :=
  .next (s.tinvSidOp n (d == 0 && k == 0) a (fun s i => s.tinvSid n i))

/-- TINV.IPA. -/
def execTinvIpa (n : Fin 32) (d : BitVec 5) (a : Fin 32) (k : BitVec 13) (s : State) : Out :=
  .next (s.insn n (d == 0 && k == 0) true privH (fun s => .next (s.tinvIpa n (s.gr n a).toNat)))

/-- TINV.ALL. -/
def execTinvAll (n : Fin 32) (d a : BitVec 5) (k : BitVec 13) (s : State) : Out :=
  .next (s.insn n (z3 d a k) true privH (fun s => .next (s.tinvAll n)))

/-! ### Prediction (R341, R342) -/

/-- PFLUSH. -/
def execPflush (n : Fin 32) (d a : BitVec 5) (k : BitVec 13) (s : State) : Out := .next (s.insnU n (z3 d a k) (fun s => .next (s.pflush n)))

/-- PBAR: bit 0 of imm13, the bits above it 0; without effect at U and S under BAR_LOCK. -/
def execPbar (n : Fin 32) (d a : BitVec 5) (k : BitVec 13) (s : State) : Out :=
  .next (s.insnU n (d == 0 && a == 0 && decide (k.toNat < 2)) (fun s =>
    .next (if (s.lvl n).num < 2 ∧ (s.sr n srPREDCTL).getLsbD 3 = true then s
      else s.setSr n srPREDCTL (mixBits 1 (s.sr n srPREDCTL) (BitVec.ofNat 64 k.toNat)))))

/-! ### WAIT (R396, R441, R510, R511, R519, R560) -/

/-- Something already stands for core n: a presentation, or a source that R441 would wake it for. -/
def State.wakeStands (s : State) (n : Nat) : Bool := (tget? s.evd.pres n).isSome || s.enPend.any (fun x => decide (s.route x = n))

/-- The core waits until its FIFO has drained to the sink, so that nothing that it emits then is lost (R560). -/
def State.traceOut (s : State) (n : Nat) : State := (s.drainFifo n (s.tsrc n).fifo.length).ovfTry n

/-- PDOWN, after the FIFO has drained (R560). -/
def State.pdown (s : State) (n k : Nat) : State :=
  if !s.traced n then s
  else (((s.traceOut n).flushAtoms n).traceOut n).emitCore n ([0x07, BitVec.ofNat 8 k] ++ leBytes 8 s.tick.tb)

/-- WAIT on the entry to C1: into a FIFO with room for it (R560). -/
def State.emitWait (s : State) (n : Nat) : State :=
  (if s.traced n ∧ fifoSize n < (s.tsrc n).fifo.length + 64 then s.traceOut n else s).emitCC n 0x06 []

/-- The core gives up its L1D and store buffer, as C2 and C3 ask (R511). -/
def State.cacheOff (s : State) (n : Nat) : State :=
  let s := s.drainAll n
  s.setCor n (s.cor n).emptyL1d

/-- The state that PWR_CORE_CTL.WAITSTATE selects, entered after WAIT has retired. -/
def State.enterWait (s : State) (n : Nat) : State :=
  match s.gf .PWR_CORE_CTL n F.PWR_CORE_CTL.WAITSTATE with
  | 2 => let s := (s.cacheOff n).pdown n 2; s.setCor n { s.cor n with st := .c2 }
  | 3 => (((s.cacheOff n).pdown n 3).coreOff n).withdraw
  | _ => let s := s.emitWait n; s.setCor n { s.cor n with st := .c1 }

/-- WAIT. With a package request pending for this core, entry begins instead, and the core is held in C2. -/
def execWait (n : Fin 32) (d a : BitVec 5) (k : BitVec 13) (s : State) : Out :=
  .next (s.insn n (z3 d a k) true privS (fun s =>
    let asked := (s.cor n).stepping || (s.cor n).haltReq
    let s := s.retire n
    let stands := s.wakeStands n
    .done (
      if stands || asked then s.pkgCancel n
      else if s.pwr.writer = some n.val ∧ s.pwr.step = none then ((s.cacheOff n).pdown n 2).pkgBegin n
      else s.enterWait n)))

/-! ### ERET (R401 to R403) -/

/-- Read the parts of a frame word, each as a load (R331, R345). -/
def State.coreReadParts (s : State) (n : Nat) : List Part → State × Option Bytes
  | [] => (s, some [])
  | p :: r =>
    match s.coreRead n (coreReq s n) p.pa p.len p.ty with
    | (s, none) => (s, none)
    | (s, some b) =>
      match s.coreReadParts n r with
      | (s, none) => (s, none)
      | (s, some c) => (s, some (b ++ c))

/-- Translate the frame words that ERET reads, lowest first: each with its VA (R390). -/
def State.eretTr (s : State) (n : Nat) (va : W64) : Nat → State × Except Exc (List (W64 × List Part))
  | 0 => (s, .ok [])
  | k + 1 =>
    match s.access n .eret va 8 with
    | (s, .error e) => (s, .error e)
    | (s, .ok l) =>
      match s.eretTr n (va + 8) k with
      | (s, .error e) => (s, .error e)
      | (s, .ok r) => (s, .ok ((va, l) :: r))

/-- The frame words as ERET reads them. -/
def State.eretWords (s : State) (n : Nat) : List (W64 × List Part) → State × Except Exc (List W64)
  | [] => (s, .ok [])
  | (va, l) :: r =>
    match (s.order n l).coreReadParts n l with
    | (s, none) => (s, .error { code := xLBUS, faddr := va, synd := 0 })
    | (s, some b) =>
      match s.eretWords n r with
      | (s, .error e) => (s, .error e)
      | (s, .ok ws) => (s, .ok (BitVec.ofNat 64 (ofBytes b) :: ws))

/-- The `k` frame words from VA: every translation fault comes before a bus error (R390). -/
def State.eretRead (s : State) (n : Nat) (va : W64) (k : Nat) : State × Except Exc (List W64) :=
  match s.eretTr n va k with
  | (s, .error e) => (s, .error e)
  | (s, .ok l) => s.eretWords n l

/-- The return that passes R402, in one step (R403). -/
def State.eretGo (s : State) (n : Nat) (ws : List W64) : State :=
  let l := (s.lvl n).num
  let st := ws.getD 1 0
  let pc := BitVec.ofNat 64 ((ws.getD 0 0).toNat / 4 * 4)
  let sid : BitVec 16 := BitVec.ofNat 16 ((ws.getD 2 0).toNat / 2 ^ 48)
  let old := s.sr n srSTATUS
  let x := mixBits (statusMask l) old st
  let x := if x.toNat / 2 ^ 9 % 4 = 0 then x ||| 0x200 else x
  let x := mixBits 3 x st
  let s := s.counted n
  let s := if x.getLsbD 8 ≠ old.getLsbD 8 then s.detSync n else s
  let s := s.setSp n l ((s.cor n).spAt l + 64)
  let s := s.setSr n srSTATUS x
  let s := (s.setSr n srLCNT (ws.getD 4 0 &&& BitVec.ofNat 64 (ones 45))).setSr n srLEND (ws.getD 5 0 &&& ~~~3)
  let s := s.setCor n { s.cor n with rsv := none, shield := true, pc := pc, stale := [] }
  let s := s.emitCC n 0x04 ([BitVec.ofNat 8 (x.toNat % 4)] ++ leBytes 8 pc.toNat)
  let s := s.setSid n sid
  let s := s.setCor n { s.cor n with fsid := sid }
  if (s.sr n srPREDCTL).getLsbD 2 ∧ x.toNat % 4 ≠ l then s.pflush n else s

/-- ERET. -/
def execEret (n : Fin 32) (d a : BitVec 5) (k : BitVec 13) (s : State) : Out :=
  .next (s.insn n (z3 d a k) false privS (fun s =>
    let l := (s.lvl n).num
    let sp := (s.cor n).spAt l
    match s.eretRead n sp 8 with
    | (s, .error e) => .exc s e
    | (s, .ok ws) =>
      if (ws.getD 1 0).toNat % 4 > l ∨ (l = 1 ∧ s.sidOk n (BitVec.ofNat 16 ((ws.getD 2 0).toNat / 2 ^ 48)) = false) then
        .exc s { code := xRETPRIV, faddr := sp, synd := 0 }
      else .done (s.eretGo n ws)))

/-! ### Calls and BRK (R381, R404) -/

/-- A call at a level that may execute it takes the exception of its name, after it has retired. -/
def State.callOp (s : State) (n : Nat) (legal : Bool) (priv : Lvl → Bool) (code : Nat) (k : BitVec 13) : State :=
  s.insn n legal false priv (fun s => .exc (s.counted n) { code := code, faddr := zext13 k, synd := 0 })

/-- CALLS, at U. -/
def execCalls (n : Fin 32) (d a : BitVec 5) (k : BitVec 13) (s : State) : Out := .next (s.callOp n (d == 0 && a == 0) (fun l => decide (l = .u)) xCALLS k)
/-- CALLH, at S. -/
def execCallh (n : Fin 32) (d a : BitVec 5) (k : BitVec 13) (s : State) : Out := .next (s.callOp n (d == 0 && a == 0) (fun l => decide (l = .s)) xCALLH k)
/-- CALLM, at S and H. -/
def execCallm (n : Fin 32) (d a : BitVec 5) (k : BitVec 13) (s : State) : Out :=
  .next (s.callOp n (d == 0 && a == 0) (fun l => decide (l = .s) || decide (l = .h)) xCALLM k)

/-- BRK (R404, R562): with BRK_CLAIM the core halts at it. -/
def execBrk (n : Fin 32) (d a : BitVec 5) (k : BitVec 13) (s : State) : Out :=
  .next (s.insn n (d == 0 && a == 0) false (fun _ => true) (fun s =>
    if s.gb .DBG_CORE_CTL n F.DBG_CORE_CTL.BRK_CLAIM then .hold (s.haltNow n 3)
    else .exc s { code := xBRK, faddr := zext13 k, synd := 0 }))

/-! ### Cache errors (R330) -/

/-- Add 1 to a 16-bit field of CACHE_ERR, saturating. -/
def State.cacheErr (s : State) (n lo : Nat) : State :=
  let v := (s.sr n srCACHE_ERR).toNat
  if v / 2 ^ lo % 65536 = 65535 then s else s.setSr n srCACHE_ERR (BitVec.ofNat 64 (v + 2 ^ lo))

/-- CACHE_ERROR. -/
def execCacheError (x : CacheErr) (s : State) : Out :=
  .next (match x with
    | .l1i n a =>
      if (s.cor n).st = .c3 then s
      else
        let l := a / 64 * 64
        let c := s.cor n
        (s.setCor n { c with l1i := if (tget? c.l1i l).isSome then tfront c.l1i l (s.mread l 64) else c.l1i }).cacheErr n 0
    | .l1dFixed n => if (s.cor n).st = .c3 then s else s.cacheErr n 16
    | .l2Fixed n => if (s.cor n).st = .c3 then s else s.cacheErr n 32
    | .l1dLost n => if (s.cor n).st = .c3 then s else s.fenceCore n
    | .l2Lost k => s.fenceCluster k
    | .sysFixed => s
    | .sysLost a => s.poisonLine a)

end Sys2Proof.Machine
end

