-- ==== Sys2Proof/Machine/PortRows.lean ====
section
/-!
DEFINITION. The commands of the external ports' registers, BAR0 and completion timeouts (chapter 18).
-/
namespace Sys2Proof.Machine

/-- The identity of the one physical function of an endpoint (R531): Device ID and Revision ID. -/
def pcieIds : Nat × Nat := (0x9640, 0xA1)

/-- A host's access to BAR0 of endpoint u (R532): what is refused answers Unsupported Request. -/
def State.bar0 (s : State) (u o n : Nat) (w : Option W64) : State :=
  if !s.portOn u then s
  else
    let t := s.access1 { agent := .port (Fin.ofNat 64 u), lvl := .m, sid := 0, cls := 0 } (0x200000B00000 + o) n w
    if t.reply = .busError then (t.portErr u).setXp u { t.xp u with out := .unsupported }
    else t.setXp u { t.xp u with out := match t.reply with
      | .value x => .reply (leBytes n x.toNat)
      | _ => .none }

/-- A part of the outstanding load lies in the windows of RP0. -/
def State.loadOnRp0 (s : State) (n : Nat) : Option W64 :=
  match (s.cor n).load with
  | some w => if w.parts.any (fun p => decide (s.rgn p.1 = .rp0)) then some w.va else none
  | none => none

/-- A Completion Timeout on RP0 (R532, R547): a bus error for the core, a timeout for the ledger's poll. -/
def State.cplTimeout (s : State) (x : CplReq) : State :=
  match x with
  | .core n =>
    (match s.loadOnRp0 n with
      | some va => ((s.portTmo 2).setCor n { s.cor n with load := none }).trap n { code := xLBUS, faddr := va, synd := 0 }
      | none => s)
  | .poll p tag =>
    (match s.findPoll p.toNat tag, s.partE p.toNat with
      | some q, some e => if partPort e = some (2, 0) then (s.portTmo 2).pollTimeout q else s
      | _, _ => s)

/-- A raw operation `op` of controllers of these kinds (R548). -/
def State.rawRow (s : State) (kinds : List Nat) (op u : Nat) (who : Req) (v : W32) : State :=
  if kinds.contains (portKind u).1 then s.regCmd who .PORT_RAW_CMD u (F.PORT_RAW_CMD.OP.put v op ||| 0x80000000) else s

/-- PORT_TXQ (R537): A write of PORT_TXQ transmits the packet chain and frees its granules. -/
def execPortTxq (u : Fin 52) (who : Req) (v : W32) (s : State) : Out := .next (s.regCmd who .PORT_TXQ u v)

/-- PORT_RXQ (R537): A read of PORT_RXQ dequeues the first token of a received packet. -/
def execPortRxq (u : Fin 52) (who : Req) (s : State) : Out := .next (s.regGet who .PORT_RXQ u)

/-- BAR0_ACCESS (R532): A host access to BAR0 reaches mailbox registers or receives Unsupported Request; a malformed TLP is dropped, and reported through AER (R547). -/
def execBar0Access (u : Fin 2) (o : BitVec 15) (k : Tlp) (w : Option W64) (s : State) : Out :=
  .next (match k with
    | .size k => s.bar0 u o.toNat (2 ^ k.val) w
    | .malformed => if s.portOn u then (s.portErr u).setXp u { s.xp u with aer := true } else s)

/-- COMPLETION_TIMEOUT (R532): A completion not arrived 50 ms after its request is a Completion Timeout. -/
def execCompletionTimeout (x : CplReq) (s : State) : Out := .next (s.cplTimeout x)

/-- PCIE_RETRAIN (R548): Raw PCIe op 0x1 retrains from Detect. -/
def execPcieRetrain (u : Fin 52) (who : Req) (v : W32) (s : State) : Out := .next (s.rawRow [1, 2] 1 u who v)

/-- PCIE_FORCE_RATE (R548): Raw PCIe op 0x2 forces a rate and retrains. -/
def execPcieForceRate (u : Fin 52) (who : Req) (v : W32) (s : State) : Out := .next (s.rawRow [1, 2] 2 u who v)

/-- LANE_MARGINING (R548): Raw PCIe op 0x3 margins a lane. -/
def execLaneMargining (u : Fin 52) (who : Req) (v : W32) (s : State) : Out := .next (s.rawRow [1, 2] 3 u who v)

/-- PRBS31_LANES (R548): Raw op 0x4 runs PRBS31 on every lane for LEN ms. -/
def execPrbs31Lanes (u : Fin 52) (who : Req) (v : W32) (s : State) : Out := .next (s.rawRow [1, 2, 3, 4] 4 u who v)

/-- PCS_LOOPBACK_NEAR (R548): Raw Ethernet op 0x5 runs near-end PCS loopback. -/
def execPcsLoopbackNear (u : Fin 52) (who : Req) (v : W32) (s : State) : Out := .next (s.rawRow [3, 4] 5 u who v)

/-- PCS_LOOPBACK_FAR (R548): Raw Ethernet op 0x6 runs far-end PCS loopback. -/
def execPcsLoopbackFar (u : Fin 52) (who : Req) (v : W32) (s : State) : Out := .next (s.rawRow [3, 4] 6 u who v)

/-- BUS_RECOVERY (R548): Raw two-wire op 0x1 clocks the bus free and sends STOP. -/
def execBusRecovery (u : Fin 52) (who : Req) (v : W32) (s : State) : Out := .next (s.rawRow [6] 1 u who v)

/-- RAW_TRANSFER (R548): Raw two-wire op 0x2 sends START, LEN bytes and STOP. -/
def execRawTransfer (u : Fin 52) (who : Req) (v : W32) (s : State) : Out := .next (s.rawRow [6] 2 u who v)

/-- I3C_TARGET_RESET (R548): Raw I3C op 0x1 sends the target reset pattern then ENTDAA. -/
def execI3cTargetReset (u : Fin 52) (who : Req) (v : W32) (s : State) : Out := .next (s.rawRow [7] 1 u who v)

/-- AVSBUS_FRAME (R548): Raw AVSBus op 0x2 sends one frame. -/
def execAvsbusFrame (u : Fin 52) (who : Req) (v : W32) (s : State) : Out := .next (s.rawRow [8] 2 u who v)

/-- TAP_RESET (R548): Raw JTAG op 0x1 resets the TAP. -/
def execTapReset (u : Fin 52) (who : Req) (v : W32) (s : State) : Out := .next (s.rawRow [0xB] 1 u who v)

/-- SHIFT_IR (R548): Raw JTAG op 0x2 shifts IR. -/
def execShiftIr (u : Fin 52) (who : Req) (v : W32) (s : State) : Out := .next (s.rawRow [0xB] 2 u who v)

/-- SHIFT_DR (R548): Raw JTAG op 0x3 shifts DR. -/
def execShiftDr (u : Fin 52) (who : Req) (v : W32) (s : State) : Out := .next (s.rawRow [0xB] 3 u who v)

/-- XSPI_PROGRAM (R548): Raw xSPI op 0x2 programs LEN bytes. -/
def execXspiProgram (u : Fin 52) (who : Req) (v : W32) (s : State) : Out := .next (s.rawRow [0xA] 2 u who v)

/-- XSPI_ERASE (R548): Raw xSPI op 0x3 erases a sector. -/
def execXspiErase (u : Fin 52) (who : Req) (v : W32) (s : State) : Out := .next (s.rawRow [0xA] 3 u who v)

/-- UART_BREAK (R548): Raw UART op 0x1 sends a break. -/
def execUartBreak (u : Fin 52) (who : Req) (v : W32) (s : State) : Out := .next (s.rawRow [9] 1 u who v)

/-- KICK (R543): FAN_WDT.KICK restarts the fan watchdog count. -/
def execKick (who : Req) (v : W32) (s : State) : Out := .next (s.regCmd who .FAN_WDT 0 (v ||| 0x80000000))

/-- FAN_PWM_WRITE (R543): A FAN_PWM write sets the duty and ends a fail-safe 100 % drive. -/
def execFanPwmWrite (f : Fin 16) (who : Req) (v : W32) (s : State) : Out := .next (s.regCmd who .FAN_PWM f v)

end Sys2Proof.Machine
end

