-- ==== Sys2Proof/Machine/PowerRows.lean ====
section
/-!
DEFINITION. The commands of the PWR registers (chapter 17).
-/
namespace Sys2Proof.Machine

/-- CORE_ON (R512): PWR_CORE_CTL.ON restarts a core from C3 at PWR_CORE_RVEC. -/
def execCoreOn (n : Fin 32) (who : Req) (v : W32) (s : State) : Out := .next (s.regCmd who .PWR_CORE_CTL n (v ||| 4))

/-- CC_FREQ_WRITE (R517): A write of PWR_CC_FREQ.TGT is a sluice request for one cluster. -/
def execCcFreqWrite (k : Fin 8) (who : Req) (v : W32) (s : State) : Out := .next (s.regCmd who .PWR_CC_FREQ k v)

/-- VTGT_WRITE (R517): A write of PWR_REG_CTL.VTGT alone is a sluice voltage request. -/
def execVtgtWrite (r : Fin 4) (who : Req) (v : W32) (s : State) : Out := .next (s.regCmd who .PWR_REG_CTL r (v &&& 0x7FFFFFFF))

/-- SLUICE_GO (R516): PWR_REG_CTL.GO requests voltage and both frequencies together. -/
def execSluiceGo (r : Fin 4) (who : Req) (v : W32) (s : State) : Out := .next (s.regCmd who .PWR_REG_CTL r (v ||| 0x80000000))

/-- PKG_GO (R519): PWR_PKG_CTL.GO requests P-STANDBY or P-DEEP, or is refused with a code. -/
def execPkgGo (who : Req) (v : W32) (s : State) : Out := .next (s.regCmd who .PWR_PKG_CTL 0 (v ||| 1))

/-- UNIT_RESET (R525): PWR_UNIT_CTL RESET resets a unit. -/
def execUnitReset (who : Req) (v : W32) (s : State) : Out := .next (s.regCmd who .PWR_UNIT_CTL 0 (v ||| 0x10000))

/-- UNIT_FENCE (R525): PWR_UNIT_CTL FENCE fences a unit. -/
def execUnitFence (who : Req) (v : W32) (s : State) : Out := .next (s.regCmd who .PWR_UNIT_CTL 0 (v ||| 0x20000))

/-- UNIT_UNFENCE (R525): PWR_UNIT_CTL UNFENCE releases a unit's fence. -/
def execUnitUnfence (who : Req) (v : W32) (s : State) : Out := .next (s.regCmd who .PWR_UNIT_CTL 0 (v ||| 0x40000))

/-- UNIT_OUT (R525): PWR_UNIT_CTL OUT takes a unit out of service, or is refused with INUSE. -/
def execUnitOut (who : Req) (v : W32) (s : State) : Out := .next (s.regCmd who .PWR_UNIT_CTL 0 (v ||| 0x80000))

/-- TRACE_ON (R525): PWR_UNIT_CTL TRACE on makes the unit a towpath source. -/
def execTraceOn (who : Req) (v : W32) (s : State) : Out := .next (s.regCmd who .PWR_UNIT_CTL 0 (v ||| 0x100000))

/-- TRACE_OFF (R525): PWR_UNIT_CTL TRACE off stops the unit's trace. -/
def execTraceOff (who : Req) (v : W32) (s : State) : Out := .next (s.regCmd who .PWR_UNIT_CTL 0 (v ||| 0x200000))

end Sys2Proof.Machine
end

