-- ==== Sys2Proof/Machine/RailRows.lean ====
section
/-!
DEFINITION. The commands of the SEQ and RAIL registers (chapter 07).
-/
namespace Sys2Proof.Machine

/-- SEQ_UP (R271): SEQ_CTL.UP moves every step in OFF to WAIT. -/
def execSeqUp (who : Req) (v : W32) (s : State) : Out := .next (s.regCmd who .SEQ_CTL 0 (v ||| 1))

/-- SEQ_DOWN (R272): SEQ_CTL.DOWN shuts the sequence down. -/
def execSeqDown (who : Req) (v : W32) (s : State) : Out := .next (s.regCmd who .SEQ_CTL 0 (v ||| 2))

/-- SEQ_CLEAR (R276): SEQ_CTL.CLEAR clears every step fault whose cause is gone. -/
def execSeqClear (who : Req) (v : W32) (s : State) : Out := .next (s.regCmd who .SEQ_CTL 0 (v ||| 4))

/-- RAIL_ON (R276): RAIL_CTL.ON moves the rail from OFF to WAIT. -/
def execRailOn (r : Fin 64) (who : Req) (v : W32) (s : State) : Out := .next (s.regCmd who .RAIL_CTL r (v ||| 1))

/-- RAIL_OFF (R272): RAIL_CTL.OFF takes down the rail's step and its dependents. -/
def execRailOff (r : Fin 64) (who : Req) (v : W32) (s : State) : Out := .next (s.regCmd who .RAIL_CTL r (v ||| 2))

/-- RAIL_CLEAR (R276): RAIL_CTL.CLEAR moves FAULT to OFF when the cause is gone. -/
def execRailClear (r : Fin 64) (who : Req) (v : W32) (s : State) : Out := .next (s.regCmd who .RAIL_CTL r (v ||| 4))

/-- RAIL_SETPT_WRITE (R274): A RAIL_SETPT write sets a new target or is ignored with SETREF. -/
def execRailSetptWrite (r : Fin 64) (who : Req) (v : W32) (s : State) : Out := .next (s.regCmd who .RAIL_SETPT r v)

/-- RAIL_WSHED_READMIT (R276): Writing 1 to a RAIL_WSHED bit readmits the position from the next latch. -/
def execRailWshedReadmit (r : Fin 64) (hi : Bool) (who : Req) (v : W32) (s : State) : Out := .next (s.regCmd who (if hi then .RAIL_WSHED_HI else .RAIL_WSHED_LO) r v)

end Sys2Proof.Machine
end

