-- ==== Sys2Proof/Machine/Dispatch.lean ====
section
/-!
DEFINITION. One arm per command: a direct call of its meaning, or a rejection by name.
-/
namespace Sys2Proof.Machine

def exec (i : Instr) (s : State) : Host.Outcome State Fault Refusal :=
  match i with
  | .porstNAssert => Sys2Proof.Machine.execPorstNAssert s
  | .porstNRelease b => Sys2Proof.Machine.execPorstNRelease b s
  | .uartLoaderBlock blk crc f b => Sys2Proof.Machine.execUartLoaderBlock blk crc f b s
  | .tickStart => Sys2Proof.Machine.execTickStart s
  | .sysrstNAssert => Sys2Proof.Machine.execSysrstNAssert s
  | .sysrstNRelease b => Sys2Proof.Machine.execSysrstNRelease b s
  | .supplyOutOfRange n => Sys2Proof.Machine.execSupplyOutOfRange n s
  | .vcoreOutOfRange r => Sys2Proof.Machine.execVcoreOutOfRange r s
  | .uncorrectableFault u => Sys2Proof.Machine.execUncorrectableFault u s
  | .submit who v => Sys2Proof.Machine.execSubmit who v s
  | .cancel who v => Sys2Proof.Machine.execCancel who v s
  | .amendmentVerifyDone ack settled => Sys2Proof.Machine.execAmendmentVerifyDone ack settled s
  | .amendmentStageDone => Sys2Proof.Machine.execAmendmentStageDone s
  | .commitPoint => Sys2Proof.Machine.execCommitPoint s
  | .regionDrainDone r => Sys2Proof.Machine.execRegionDrainDone r s
  | .keepCntInc who v => Sys2Proof.Machine.execKeepCntInc who v s
  | .counterIncrementDone => Sys2Proof.Machine.execCounterIncrementDone s
  | .lifecycleGo who v => Sys2Proof.Machine.execLifecycleGo who v s
  | .lifecycleFuseWriteDone => Sys2Proof.Machine.execLifecycleFuseWriteDone s
  | .keepJobHash who => Sys2Proof.Machine.execKeepJobHash who s
  | .keepJobEcdsaVerify who => Sys2Proof.Machine.execKeepJobEcdsaVerify who s
  | .keepJobHssVerify who => Sys2Proof.Machine.execKeepJobHssVerify who s
  | .keepJobEcdsaSign who => Sys2Proof.Machine.execKeepJobEcdsaSign who s
  | .keepJobHssSign who => Sys2Proof.Machine.execKeepJobHssSign who s
  | .keepJobAesEncrypt who => Sys2Proof.Machine.execKeepJobAesEncrypt who s
  | .keepJobAesDecrypt who => Sys2Proof.Machine.execKeepJobAesDecrypt who s
  | .keepJobTrngFill who => Sys2Proof.Machine.execKeepJobTrngFill who s
  | .keepJobMrExtend who => Sys2Proof.Machine.execKeepJobMrExtend who s
  | .keepJobDone e => Sys2Proof.Machine.execKeepJobDone e s
  | .trngHealthFail => Sys2Proof.Machine.execTrngHealthFail s
  | .norngTimeout => Sys2Proof.Machine.execNorngTimeout s
  | .getVersion via => Sys2Proof.Machine.execGetVersion via s
  | .getCapabilities via => Sys2Proof.Machine.execGetCapabilities via s
  | .negotiateAlgorithms via offer => Sys2Proof.Machine.execNegotiateAlgorithms via offer s
  | .getDigests via => Sys2Proof.Machine.execGetDigests via s
  | .getCertificate via slot => Sys2Proof.Machine.execGetCertificate via slot s
  | .challenge via => Sys2Proof.Machine.execChallenge via s
  | .getMeasurements via blk signed => Sys2Proof.Machine.execGetMeasurements via blk signed s
  | .keyExchange via => Sys2Proof.Machine.execKeyExchange via s
  | .finish via => Sys2Proof.Machine.execFinish via s
  | .heartbeat via => Sys2Proof.Machine.execHeartbeat via s
  | .keyUpdate via => Sys2Proof.Machine.execKeyUpdate via s
  | .endSession via => Sys2Proof.Machine.execEndSession via s
  | .lmsCosign via nonce => Sys2Proof.Machine.execLmsCosign via nonce s
  | .tickEdge err x => Sys2Proof.Machine.execTickEdge err x s
  | .tickPllLockLoss => Sys2Proof.Machine.execTickPllLockLoss s
  | .tickInLost => Sys2Proof.Machine.execTickInLost s
  | .tickInReturn => Sys2Proof.Machine.execTickInReturn s
  | .senseSampleReady rs aux => Sys2Proof.Machine.execSenseSampleReady rs aux s
  | .sampleSetDelivery => Sys2Proof.Machine.execSampleSetDelivery s
  | .overrunDeadline => Sys2Proof.Machine.execOverrunDeadline s
  | .plFrameSend n t => Sys2Proof.Machine.execPlFrameSend n t s
  | .portShedMask n => Sys2Proof.Machine.execPortShedMask n s
  | .upstreamSampleFrame n a rx => Sys2Proof.Machine.execUpstreamSampleFrame n a rx s
  | .upstreamAuxFrame n rx => Sys2Proof.Machine.execUpstreamAuxFrame n rx s
  | .registerReply n rx => Sys2Proof.Machine.execRegisterReply n rx s
  | .registerReplyMissing n => Sys2Proof.Machine.execRegisterReplyMissing n s
  | .enumSyncDone n => Sys2Proof.Machine.execEnumSyncDone n s
  | .stageAbsent n a => Sys2Proof.Machine.execStageAbsent n a s
  | .quietWindowViolation n => Sys2Proof.Machine.execQuietWindowViolation n s
  | .busfail n => Sys2Proof.Machine.execBusfail n s
  | .plausibilityFault r => Sys2Proof.Machine.execPlausibilityFault r s
  | .plausClear r => Sys2Proof.Machine.execPlausClear r s
  | .disable n who v => Sys2Proof.Machine.execDisable n who v s
  | .reenable n who v => Sys2Proof.Machine.execReenable n who v s
  | .enumGo n who v => Sys2Proof.Machine.execEnumGo n who v s
  | .readmit n who v => Sys2Proof.Machine.execReadmit n who v s
  | .plRegRead n who v => Sys2Proof.Machine.execPlRegRead n who v s
  | .plRegWrite n who v => Sys2Proof.Machine.execPlRegWrite n who v s
  | .testInternalLoopback n who v => Sys2Proof.Machine.execTestInternalLoopback n who v s
  | .testDownstreamPrbs31 n who v => Sys2Proof.Machine.execTestDownstreamPrbs31 n who v s
  | .testUpstreamPrbs31 n who v => Sys2Proof.Machine.execTestUpstreamPrbs31 n who v s
  | .testStageLoopback n who v => Sys2Proof.Machine.execTestStageLoopback n who v s
  | .testExit n who v => Sys2Proof.Machine.execTestExit n who v s
  | .eyeGo n who v => Sys2Proof.Machine.execEyeGo n who v s
  | .eyeDone n errors => Sys2Proof.Machine.execEyeDone n errors s
  | .injectCrc n who v => Sys2Proof.Machine.execInjectCrc n who v s
  | .injectSilentSlot n who v => Sys2Proof.Machine.execInjectSilentSlot n who v s
  | .injectSampleCrcFail n who v => Sys2Proof.Machine.execInjectSampleCrcFail n who v s
  | .injectQuietViolation n who v => Sys2Proof.Machine.execInjectQuietViolation n who v s
  | .stagePowerOn p mk => Sys2Proof.Machine.execStagePowerOn p mk s
  | .stageMarkerRx p c => Sys2Proof.Machine.execStageMarkerRx p c s
  | .stageMarkerMissing p => Sys2Proof.Machine.execStageMarkerMissing p s
  | .stageHoldExpiry p => Sys2Proof.Machine.execStageHoldExpiry p s
  | .stageInternalFault p code => Sys2Proof.Machine.execStageInternalFault p code s
  | .stageSlotStart p aux m => Sys2Proof.Machine.execStageSlotStart p aux m s
  | .stageInvalidFrame p => Sys2Proof.Machine.execStageInvalidFrame p s
  | .current p a x en => Sys2Proof.Machine.execCurrent p a x en s
  | .ontime p a x en => Sys2Proof.Machine.execOntime p a x en s
  | .shed p a x en => Sys2Proof.Machine.execShed p a x en s
  | .hold p a x en => Sys2Proof.Machine.execHold p a x en s
  | .configure p a x en => Sys2Proof.Machine.execConfigure p a x en s
  | .auxRead p a x en => Sys2Proof.Machine.execAuxRead p a x en s
  | .wake p a x en => Sys2Proof.Machine.execWake p a x en s
  | .ovrCurrent p a x en => Sys2Proof.Machine.execOvrCurrent p a x en s
  | .ovrShed p a x en => Sys2Proof.Machine.execOvrShed p a x en s
  | .ovrShedMask p a x en => Sys2Proof.Machine.execOvrShedMask p a x en s
  | .shedMask p a x en => Sys2Proof.Machine.execShedMask p a x en s
  | .leNop j w f => Sys2Proof.Machine.execLeNop j w f s
  | .leAdd j w f => Sys2Proof.Machine.execLeAdd j w f s
  | .leSub j w f => Sys2Proof.Machine.execLeSub j w f s
  | .leAddi j w f => Sys2Proof.Machine.execLeAddi j w f s
  | .leAnd j w f => Sys2Proof.Machine.execLeAnd j w f s
  | .leOr j w f => Sys2Proof.Machine.execLeOr j w f s
  | .leXor j w f => Sys2Proof.Machine.execLeXor j w f s
  | .leMovi j w f => Sys2Proof.Machine.execLeMovi j w f s
  | .leMovhi j w f => Sys2Proof.Machine.execLeMovhi j w f s
  | .leMov j w f => Sys2Proof.Machine.execLeMov j w f s
  | .leShl j w f => Sys2Proof.Machine.execLeShl j w f s
  | .leShr j w f => Sys2Proof.Machine.execLeShr j w f s
  | .leSra j w f => Sys2Proof.Machine.execLeSra j w f s
  | .leShli j w f => Sys2Proof.Machine.execLeShli j w f s
  | .leShri j w f => Sys2Proof.Machine.execLeShri j w f s
  | .leSrai j w f => Sys2Proof.Machine.execLeSrai j w f s
  | .leMin j w f => Sys2Proof.Machine.execLeMin j w f s
  | .leMax j w f => Sys2Proof.Machine.execLeMax j w f s
  | .leClamp j w f => Sys2Proof.Machine.execLeClamp j w f s
  | .leAbs j w f => Sys2Proof.Machine.execLeAbs j w f s
  | .leNeg j w f => Sys2Proof.Machine.execLeNeg j w f s
  | .leMulq j w f => Sys2Proof.Machine.execLeMulq j w f s
  | .leMac j w f => Sys2Proof.Machine.execLeMac j w f s
  | .leMsu j w f => Sys2Proof.Machine.execLeMsu j w f s
  | .leMclr j w f => Sys2Proof.Machine.execLeMclr j w f s
  | .leMld j w f => Sys2Proof.Machine.execLeMld j w f s
  | .leMrd j w f => Sys2Proof.Machine.execLeMrd j w f s
  | .leMadd j w f => Sys2Proof.Machine.execLeMadd j w f s
  | .leLd j w f e => Sys2Proof.Machine.execLeLd j w f e s
  | .leSt j w f => Sys2Proof.Machine.execLeSt j w f s
  | .leLdh j w f e => Sys2Proof.Machine.execLeLdh j w f e s
  | .leSth j w f e => Sys2Proof.Machine.execLeSth j w f e s
  | .leLdp j w f e => Sys2Proof.Machine.execLeLdp j w f e s
  | .leStp j w f => Sys2Proof.Machine.execLeStp j w f s
  | .leSharedAccessDone j cycles e => Sys2Proof.Machine.execLeSharedAccessDone j cycles e s
  | .lePset j w f => Sys2Proof.Machine.execLePset j w f s
  | .lePadd j w f => Sys2Proof.Machine.execLePadd j w f s
  | .lePmov j w f => Sys2Proof.Machine.execLePmov j w f s
  | .lePrd j w f => Sys2Proof.Machine.execLePrd j w f s
  | .leRsr j w f => Sys2Proof.Machine.execLeRsr j w f s
  | .leWsr j w f => Sys2Proof.Machine.execLeWsr j w f s
  | .leRdn j w f => Sys2Proof.Machine.execLeRdn j w f s
  | .leBeq j w f => Sys2Proof.Machine.execLeBeq j w f s
  | .leBne j w f => Sys2Proof.Machine.execLeBne j w f s
  | .leBlt j w f => Sys2Proof.Machine.execLeBlt j w f s
  | .leBge j w f => Sys2Proof.Machine.execLeBge j w f s
  | .leB j w f => Sys2Proof.Machine.execLeB j w f s
  | .leJal j w f => Sys2Proof.Machine.execLeJal j w f s
  | .leJr j w f => Sys2Proof.Machine.execLeJr j w f s
  | .leLoop j w f => Sys2Proof.Machine.execLeLoop j w f s
  | .leWaits j w f => Sys2Proof.Machine.execLeWaits j w f s
  | .leWaitsEnd j cycles => Sys2Proof.Machine.execLeWaitsEnd j cycles s
  | .leRds j w f => Sys2Proof.Machine.execLeRds j w f s
  | .leSendp j w f => Sys2Proof.Machine.execLeSendp j w f s
  | .leCommit j w f => Sys2Proof.Machine.execLeCommit j w f s
  | .leEnd j w f => Sys2Proof.Machine.execLeEnd j w f s
  | .lePub j w f => Sys2Proof.Machine.execLePub j w f s
  | .leEvp j w f => Sys2Proof.Machine.execLeEvp j w f s
  | .lcSpareRelease c who v => Sys2Proof.Machine.execLcSpareRelease c who v s
  | .lcLeReset j who v => Sys2Proof.Machine.execLcLeReset j who v s
  | .lcLeFence j who v => Sys2Proof.Machine.execLcLeFence j who v s
  | .lcLeUnfence j who v => Sys2Proof.Machine.execLcLeUnfence j who v s
  | .recRingResume c who v => Sys2Proof.Machine.execRecRingResume c who v s
  | .adcSaturation ch => Sys2Proof.Machine.execAdcSaturation ch s
  | .hintNotice h x => Sys2Proof.Machine.execHintNotice h x s
  | .hintLinkUp h => Sys2Proof.Machine.execHintLinkUp h s
  | .hintLinkDown h => Sys2Proof.Machine.execHintLinkDown h s
  | .nophase r => Sys2Proof.Machine.execNophase r s
  | .pgtmo st => Sys2Proof.Machine.execPgtmo st s
  | .pgUp r => Sys2Proof.Machine.execPgUp r s
  | .seqStepStart st => Sys2Proof.Machine.execSeqStepStart st s
  | .seqGpioPgChange g lvl => Sys2Proof.Machine.execSeqGpioPgChange g lvl s
  | .seqUp who v => Sys2Proof.Machine.execSeqUp who v s
  | .seqDown who v => Sys2Proof.Machine.execSeqDown who v s
  | .seqClear who v => Sys2Proof.Machine.execSeqClear who v s
  | .railOn r who v => Sys2Proof.Machine.execRailOn r who v s
  | .railOff r who v => Sys2Proof.Machine.execRailOff r who v s
  | .railClear r who v => Sys2Proof.Machine.execRailClear r who v s
  | .railSetptWrite r who v => Sys2Proof.Machine.execRailSetptWrite r who v s
  | .railWshedReadmit r hi who v => Sys2Proof.Machine.execRailWshedReadmit r hi who v s
  | .ledgerSeriesDue ix => Sys2Proof.Machine.execLedgerSeriesDue ix s
  | .ledgerUpdateDiscard ix => Sys2Proof.Machine.execLedgerUpdateDiscard ix s
  | .ledgerPartnerReply p tag x => Sys2Proof.Machine.execLedgerPartnerReply p tag x s
  | .ledgerPollTimeout p tag => Sys2Proof.Machine.execLedgerPollTimeout p tag s
  | .ledgerProbe p => Sys2Proof.Machine.execLedgerProbe p s
  | .stale ix => Sys2Proof.Machine.execStale ix s
  | .ledgerUnsolicited p => Sys2Proof.Machine.execLedgerUnsolicited p s
  | .ledgerThrottleEnd p => Sys2Proof.Machine.execLedgerThrottleEnd p s
  | .ledgerWriteback ix => Sys2Proof.Machine.execLedgerWriteback ix s
  | .ldgRead who v => Sys2Proof.Machine.execLdgRead who v s
  | .ldgWrite who v => Sys2Proof.Machine.execLdgWrite who v s
  | .resetStats who v => Sys2Proof.Machine.execResetStats who v s
  | .push who v => Sys2Proof.Machine.execPush who v s
  | .flushOne who v => Sys2Proof.Machine.execFlushOne who v s
  | .flushAll who v => Sys2Proof.Machine.execFlushAll who v s
  | .invalAll who v => Sys2Proof.Machine.execInvalAll who v s
  | .ldgCmdDone => Sys2Proof.Machine.execLdgCmdDone s
  | .companionHeartbeat b => Sys2Proof.Machine.execCompanionHeartbeat b s
  | .hbLost => Sys2Proof.Machine.execHbLost s
  | .handoverRecordRx b => Sys2Proof.Machine.execHandoverRecordRx b s
  | .companionLinkDown => Sys2Proof.Machine.execCompanionLinkDown s
  | .companionLinkUp => Sys2Proof.Machine.execCompanionLinkUp s
  | .joined => Sys2Proof.Machine.execJoined s
  | .ownWatchdog => Sys2Proof.Machine.execOwnWatchdog s
  | .pairOwnHigh => Sys2Proof.Machine.execPairOwnHigh s
  | .pairFenceLow => Sys2Proof.Machine.execPairFenceLow s
  | .fenceAssert => Sys2Proof.Machine.execFenceAssert s
  | .leave who v => Sys2Proof.Machine.execLeave who v s
  | .join who v => Sys2Proof.Machine.execJoin who v s
  | .unfence who v => Sys2Proof.Machine.execUnfence who v s
  | .fenceRel who v => Sys2Proof.Machine.execFenceRel who v s
  | .fence who v => Sys2Proof.Machine.execFence who v s
  | .handoff who v => Sys2Proof.Machine.execHandoff who v s
  | .migSend who v => Sys2Proof.Machine.execMigSend who v s
  | .migDone code => Sys2Proof.Machine.execMigDone code s
  | .migRx b stall => Sys2Proof.Machine.execMigRx b stall s
  | .migRxFree who v => Sys2Proof.Machine.execMigRxFree who v s
  | .add n d a b z => Sys2Proof.Machine.execAdd n d a b z s
  | .sub n d a b z => Sys2Proof.Machine.execSub n d a b z s
  | .addm n d a b z => Sys2Proof.Machine.execAddm n d a b z s
  | .subm n d a b z => Sys2Proof.Machine.execSubm n d a b z s
  | .and n d a b z => Sys2Proof.Machine.execAnd n d a b z s
  | .or n d a b z => Sys2Proof.Machine.execOr n d a b z s
  | .xor n d a b z => Sys2Proof.Machine.execXor n d a b z s
  | .andn n d a b z => Sys2Proof.Machine.execAndn n d a b z s
  | .shl n d a b z => Sys2Proof.Machine.execShl n d a b z s
  | .shr n d a b z => Sys2Proof.Machine.execShr n d a b z s
  | .sar n d a b z => Sys2Proof.Machine.execSar n d a b z s
  | .clt n d a b z => Sys2Proof.Machine.execClt n d a b z s
  | .cltu n d a b z => Sys2Proof.Machine.execCltu n d a b z s
  | .min n d a b z => Sys2Proof.Machine.execMin n d a b z s
  | .max n d a b z => Sys2Proof.Machine.execMax n d a b z s
  | .minu n d a b z => Sys2Proof.Machine.execMinu n d a b z s
  | .maxu n d a b z => Sys2Proof.Machine.execMaxu n d a b z s
  | .add32 n d a b z => Sys2Proof.Machine.execAdd32 n d a b z s
  | .sub32 n d a b z => Sys2Proof.Machine.execSub32 n d a b z s
  | .shl32 n d a b z => Sys2Proof.Machine.execShl32 n d a b z s
  | .shr32 n d a b z => Sys2Proof.Machine.execShr32 n d a b z s
  | .sar32 n d a b z => Sys2Proof.Machine.execSar32 n d a b z s
  | .addk n d a k => Sys2Proof.Machine.execAddk n d a k s
  | .addkm n d a k => Sys2Proof.Machine.execAddkm n d a k s
  | .andk n d a k => Sys2Proof.Machine.execAndk n d a k s
  | .ork n d a k => Sys2Proof.Machine.execOrk n d a k s
  | .xork n d a k => Sys2Proof.Machine.execXork n d a k s
  | .cltk n d a k => Sys2Proof.Machine.execCltk n d a k s
  | .cltuk n d a k => Sys2Proof.Machine.execCltuk n d a k s
  | .shlk n d a k => Sys2Proof.Machine.execShlk n d a k s
  | .shrk n d a k => Sys2Proof.Machine.execShrk n d a k s
  | .sark n d a k => Sys2Proof.Machine.execSark n d a k s
  | .addk32 n d a k => Sys2Proof.Machine.execAddk32 n d a k s
  | .shlk32 n d a k => Sys2Proof.Machine.execShlk32 n d a k s
  | .shrk32 n d a k => Sys2Proof.Machine.execShrk32 n d a k s
  | .sark32 n d a k => Sys2Proof.Machine.execSark32 n d a k s
  | .mul n d a b z => Sys2Proof.Machine.execMul n d a b z s
  | .mulhi n d a b z => Sys2Proof.Machine.execMulhi n d a b z s
  | .mulhiu n d a b z => Sys2Proof.Machine.execMulhiu n d a b z s
  | .mul32 n d a b z => Sys2Proof.Machine.execMul32 n d a b z s
  | .div n d a b z => Sys2Proof.Machine.execDiv n d a b z s
  | .divu n d a b z => Sys2Proof.Machine.execDivu n d a b z s
  | .mod n d a b z => Sys2Proof.Machine.execMod n d a b z s
  | .modu n d a b z => Sys2Proof.Machine.execModu n d a b z s
  | .div32 n d a b z => Sys2Proof.Machine.execDiv32 n d a b z s
  | .divu32 n d a b z => Sys2Proof.Machine.execDivu32 n d a b z s
  | .mod32 n d a b z => Sys2Proof.Machine.execMod32 n d a b z s
  | .modu32 n d a b z => Sys2Proof.Machine.execModu32 n d a b z s
  | .ld8 n d a k hit => Sys2Proof.Machine.execLd8 n d a k hit s
  | .ld8u n d a k hit => Sys2Proof.Machine.execLd8u n d a k hit s
  | .ld16 n d a k hit => Sys2Proof.Machine.execLd16 n d a k hit s
  | .ld16u n d a k hit => Sys2Proof.Machine.execLd16u n d a k hit s
  | .ld32 n d a k hit => Sys2Proof.Machine.execLd32 n d a k hit s
  | .ld32u n d a k hit => Sys2Proof.Machine.execLd32u n d a k hit s
  | .ld64 n d a k hit => Sys2Proof.Machine.execLd64 n d a k hit s
  | .st8 n r a k => Sys2Proof.Machine.execSt8 n r a k s
  | .st16 n r a k => Sys2Proof.Machine.execSt16 n r a k s
  | .st32 n r a k => Sys2Proof.Machine.execSt32 n r a k s
  | .st64 n r a k => Sys2Proof.Machine.execSt64 n r a k s
  | .storeDrain n => Sys2Proof.Machine.execStoreDrain n s
  | .storeErrorEntry n => Sys2Proof.Machine.execStoreErrorEntry n s
  | .loadDataReturn n e => Sys2Proof.Machine.execLoadDataReturn n e s
  | .rsv32 n d a b z => Sys2Proof.Machine.execRsv32 n d a b z s
  | .rsv64 n d a b z => Sys2Proof.Machine.execRsv64 n d a b z s
  | .cmt32 n d a b z => Sys2Proof.Machine.execCmt32 n d a b z s
  | .cmt64 n d a b z => Sys2Proof.Machine.execCmt64 n d a b z s
  | .atswap32 n d a b z => Sys2Proof.Machine.execAtswap32 n d a b z s
  | .atswap64 n d a b z => Sys2Proof.Machine.execAtswap64 n d a b z s
  | .atadd32 n d a b z => Sys2Proof.Machine.execAtadd32 n d a b z s
  | .atadd64 n d a b z => Sys2Proof.Machine.execAtadd64 n d a b z s
  | .atand32 n d a b z => Sys2Proof.Machine.execAtand32 n d a b z s
  | .atand64 n d a b z => Sys2Proof.Machine.execAtand64 n d a b z s
  | .ator32 n d a b z => Sys2Proof.Machine.execAtor32 n d a b z s
  | .ator64 n d a b z => Sys2Proof.Machine.execAtor64 n d a b z s
  | .atcas32 n d a b z => Sys2Proof.Machine.execAtcas32 n d a b z s
  | .atcas64 n d a b z => Sys2Proof.Machine.execAtcas64 n d a b z s
  | .cbeq n a b off => Sys2Proof.Machine.execCbeq n a b off s
  | .cbne n a b off => Sys2Proof.Machine.execCbne n a b off s
  | .cblt n a b off => Sys2Proof.Machine.execCblt n a b off s
  | .cbge n a b off => Sys2Proof.Machine.execCbge n a b off s
  | .cbltu n a b off => Sys2Proof.Machine.execCbltu n a b off s
  | .cbgeu n a b off => Sys2Proof.Machine.execCbgeu n a b off s
  | .jlink n d k => Sys2Proof.Machine.execJlink n d k s
  | .jlinkr n d a minor k => Sys2Proof.Machine.execJlinkr n d a minor k s
  | .mkhi n d k => Sys2Proof.Machine.execMkhi n d k s
  | .pchi n d k => Sys2Proof.Machine.execPchi n d k s
  | .loop n a e z1 z2 => Sys2Proof.Machine.execLoop n a e z1 z2 s
  | .nop n d a k => Sys2Proof.Machine.execNop n d a k s
  | .mfsr n d a k => Sys2Proof.Machine.execMfsr n d a k s
  | .mtsr n d a k => Sys2Proof.Machine.execMtsr n d a k s
  | .msset n d a k => Sys2Proof.Machine.execMsset n d a k s
  | .msclr n d a k => Sys2Proof.Machine.execMsclr n d a k s
  | .sync n d a k => Sys2Proof.Machine.execSync n d a k s
  | .isync n d a k => Sys2Proof.Machine.execIsync n d a k s
  | .icinv n d a k => Sys2Proof.Machine.execIcinv n d a k s
  | .dcwb n d a k => Sys2Proof.Machine.execDcwb n d a k s
  | .dcwbi n d a k => Sys2Proof.Machine.execDcwbi n d a k s
  | .tinvVa n a b z => Sys2Proof.Machine.execTinvVa n a b z s
  | .tinvSid n d a k => Sys2Proof.Machine.execTinvSid n d a k s
  | .tinvIpa n d a k => Sys2Proof.Machine.execTinvIpa n d a k s
  | .tinvAll n d a k => Sys2Proof.Machine.execTinvAll n d a k s
  | .pflush n d a k => Sys2Proof.Machine.execPflush n d a k s
  | .pbar n d a k => Sys2Proof.Machine.execPbar n d a k s
  | .wait n d a k => Sys2Proof.Machine.execWait n d a k s
  | .eret n d a k => Sys2Proof.Machine.execEret n d a k s
  | .calls n d a k => Sys2Proof.Machine.execCalls n d a k s
  | .callh n d a k => Sys2Proof.Machine.execCallh n d a k s
  | .callm n d a k => Sys2Proof.Machine.execCallm n d a k s
  | .brk n d a k => Sys2Proof.Machine.execBrk n d a k s
  | .irqEntry n => Sys2Proof.Machine.execIrqEntry n s
  | .coreTimerFire n => Sys2Proof.Machine.execCoreTimerFire n s
  | .cacheError x => Sys2Proof.Machine.execCacheError x s
  | .evdPresentation t => Sys2Proof.Machine.execEvdPresentation t s
  | .evdModerationRelease t => Sys2Proof.Machine.execEvdModerationRelease t s
  | .evdAck who => Sys2Proof.Machine.execEvdAck who s
  | .evdEoi who v => Sys2Proof.Machine.execEvdEoi who v s
  | .evdPmrWrite who v => Sys2Proof.Machine.execEvdPmrWrite who v s
  | .evdSwgen who v => Sys2Proof.Machine.execEvdSwgen who v s
  | .evdFallbackWrite who v => Sys2Proof.Machine.execEvdFallbackWrite who v s
  | .evdEnSet k who v => Sys2Proof.Machine.execEvdEnSet k who v s
  | .evdEnClr k who v => Sys2Proof.Machine.execEvdEnClr k who v s
  | .evdPendSet k who v => Sys2Proof.Machine.execEvdPendSet k who v s
  | .evdPendClr k who v => Sys2Proof.Machine.execEvdPendClr k who v s
  | .evdSrcCfgWrite x who v => Sys2Proof.Machine.execEvdSrcCfgWrite x who v s
  | .mbxTx m ba who v => Sys2Proof.Machine.execMbxTx m ba who v s
  | .mbxRxData m ba who => Sys2Proof.Machine.execMbxRxData m ba who s
  | .mbxAckWrite m ba who v => Sys2Proof.Machine.execMbxAckWrite m ba who v s
  | .mbxTimeout m ba => Sys2Proof.Machine.execMbxTimeout m ba s
  | .chStart e ix who v => Sys2Proof.Machine.execChStart e ix who v s
  | .chStop e ix who v => Sys2Proof.Machine.execChStop e ix who v s
  | .chPause e ix who v => Sys2Proof.Machine.execChPause e ix who v s
  | .chResume e ix who v => Sys2Proof.Machine.execChResume e ix who v s
  | .chClear e ix who v => Sys2Proof.Machine.execChClear e ix who v s
  | .chInv e ix who v => Sys2Proof.Machine.execChInv e ix who v s
  | .chOwnWrite e ix who v => Sys2Proof.Machine.execChOwnWrite e ix who v s
  | .dmaContextFree e ix => Sys2Proof.Machine.execDmaContextFree e ix s
  | .dmaBargeRead e ix => Sys2Proof.Machine.execDmaBargeRead e ix s
  | .dmaReadComplete e ix => Sys2Proof.Machine.execDmaReadComplete e ix s
  | .dmaWriteAck e ix => Sys2Proof.Machine.execDmaWriteAck e ix s
  | .dmaPortRequest e q => Sys2Proof.Machine.execDmaPortRequest e q s
  | .dmaPortData e q d => Sys2Proof.Machine.execDmaPortData e q d s
  | .underrun e q => Sys2Proof.Machine.execUnderrun e q s
  | .stallQuiet ix => Sys2Proof.Machine.execStallQuiet ix s
  | .bsnPoolAlloc p who => Sys2Proof.Machine.execBsnPoolAlloc p who s
  | .bsnFree who v => Sys2Proof.Machine.execBsnFree who v s
  | .bind ix who v => Sys2Proof.Machine.execBind ix who v s
  | .quiesce ix who v => Sys2Proof.Machine.execQuiesce ix who v s
  | .stallResume ix who v => Sys2Proof.Machine.execStallResume ix who v s
  | .freeze ix who v => Sys2Proof.Machine.execFreeze ix who v s
  | .thaw ix who v => Sys2Proof.Machine.execThaw ix who v s
  | .save ix who v => Sys2Proof.Machine.execSave ix who v s
  | .restore ix who v => Sys2Proof.Machine.execRestore ix who v s
  | .stallReset ix who v => Sys2Proof.Machine.execStallReset ix who v s
  | .remove ix who v => Sys2Proof.Machine.execRemove ix who v s
  | .stallCmdDone ix => Sys2Proof.Machine.execStallCmdDone ix s
  | .stlBindWrite ix who v => Sys2Proof.Machine.execStlBindWrite ix who v s
  | .stlMapWrite ix o who v => Sys2Proof.Machine.execStlMapWrite ix o who v s
  | .ring ix who v => Sys2Proof.Machine.execRing ix who v s
  | .stlTEnSet ix who v => Sys2Proof.Machine.execStlTEnSet ix who v s
  | .stlTEnClr ix who v => Sys2Proof.Machine.execStlTEnClr ix who v s
  | .stlTPendClr ix who v => Sys2Proof.Machine.execStlTPendClr ix who v s
  | .stlTBsnAlloc ix who => Sys2Proof.Machine.execStlTBsnAlloc ix who s
  | .stlTBsnFree ix who v => Sys2Proof.Machine.execStlTBsnFree ix who v s
  | .lvRead ix who v => Sys2Proof.Machine.execLvRead ix who v s
  | .setthr ix who v => Sys2Proof.Machine.execSetthr ix who v s
  | .stallPageAccess ix o k who w => Sys2Proof.Machine.execStallPageAccess ix o k who w s
  | .coreOn n who v => Sys2Proof.Machine.execCoreOn n who v s
  | .ccFreqWrite k who v => Sys2Proof.Machine.execCcFreqWrite k who v s
  | .vtgtWrite r who v => Sys2Proof.Machine.execVtgtWrite r who v s
  | .sluiceGo r who v => Sys2Proof.Machine.execSluiceGo r who v s
  | .sluiceClockChangeDone r => Sys2Proof.Machine.execSluiceClockChangeDone r s
  | .avsbusAck r => Sys2Proof.Machine.execAvsbusAck r s
  | .settle r mv => Sys2Proof.Machine.execSettle r mv s
  | .noack r => Sys2Proof.Machine.execNoack r s
  | .pkgGo who v => Sys2Proof.Machine.execPkgGo who v s
  | .pkgEntryStepDone => Sys2Proof.Machine.execPkgEntryStepDone s
  | .packageWake w found media => Sys2Proof.Machine.execPackageWake w found media s
  | .regionRetentionEntry r => Sys2Proof.Machine.execRegionRetentionEntry r s
  | .regionRetentionExit r => Sys2Proof.Machine.execRegionRetentionExit r s
  | .unitReset who v => Sys2Proof.Machine.execUnitReset who v s
  | .unitFence who v => Sys2Proof.Machine.execUnitFence who v s
  | .unitUnfence who v => Sys2Proof.Machine.execUnitUnfence who v s
  | .unitOut who v => Sys2Proof.Machine.execUnitOut who v s
  | .traceOn who v => Sys2Proof.Machine.execTraceOn who v s
  | .traceOff who v => Sys2Proof.Machine.execTraceOff who v s
  | .packetRx u sub src b => Sys2Proof.Machine.execPacketRx u sub src b s
  | .portTxq u who v => Sys2Proof.Machine.execPortTxq u who v s
  | .portRxq u who => Sys2Proof.Machine.execPortRxq u who s
  | .mbxFramePush u sub src b => Sys2Proof.Machine.execMbxFramePush u sub src b s
  | .readAck u sub src b => Sys2Proof.Machine.execReadAck u sub src b s
  | .readRx u sub src b => Sys2Proof.Machine.execReadRx u sub src b s
  | .writeAck u sub src b => Sys2Proof.Machine.execWriteAck u sub src b s
  | .bar0Access u o k w => Sys2Proof.Machine.execBar0Access u o k w s
  | .rp0InboundRequest msi => Sys2Proof.Machine.execRp0InboundRequest msi s
  | .completionTimeout x => Sys2Proof.Machine.execCompletionTimeout x s
  | .ethFrameRx ix fcsOk b => Sys2Proof.Machine.execEthFrameRx ix fcsOk b s
  | .linkUp u rate width => Sys2Proof.Machine.execLinkUp u rate width s
  | .linkDown u => Sys2Proof.Machine.execLinkDown u s
  | .i3cIbi ix x => Sys2Proof.Machine.execI3cIbi ix x s
  | .clockLowTimeout c => Sys2Proof.Machine.execClockLowTimeout c s
  | .stuck c => Sys2Proof.Machine.execStuck c s
  | .pcieRetrain u who v => Sys2Proof.Machine.execPcieRetrain u who v s
  | .pcieForceRate u who v => Sys2Proof.Machine.execPcieForceRate u who v s
  | .laneMargining u who v => Sys2Proof.Machine.execLaneMargining u who v s
  | .prbs31Lanes u who v => Sys2Proof.Machine.execPrbs31Lanes u who v s
  | .pcsLoopbackNear u who v => Sys2Proof.Machine.execPcsLoopbackNear u who v s
  | .pcsLoopbackFar u who v => Sys2Proof.Machine.execPcsLoopbackFar u who v s
  | .busRecovery u who v => Sys2Proof.Machine.execBusRecovery u who v s
  | .rawTransfer u who v => Sys2Proof.Machine.execRawTransfer u who v s
  | .i3cTargetReset u who v => Sys2Proof.Machine.execI3cTargetReset u who v s
  | .avsbusFrame u who v => Sys2Proof.Machine.execAvsbusFrame u who v s
  | .tapReset u who v => Sys2Proof.Machine.execTapReset u who v s
  | .shiftIr u who v => Sys2Proof.Machine.execShiftIr u who v s
  | .shiftDr u who v => Sys2Proof.Machine.execShiftDr u who v s
  | .xspiProgram u who v => Sys2Proof.Machine.execXspiProgram u who v s
  | .xspiErase u who v => Sys2Proof.Machine.execXspiErase u who v s
  | .uartBreak u who v => Sys2Proof.Machine.execUartBreak u who v s
  | .rawDone u e data lanes => Sys2Proof.Machine.execRawDone u e data lanes s
  | .fanTachWindow f rpm => Sys2Proof.Machine.execFanTachWindow f rpm s
  | .fanWdtExpiry => Sys2Proof.Machine.execFanWdtExpiry s
  | .kick who v => Sys2Proof.Machine.execKick who v s
  | .fanPwmWrite f who v => Sys2Proof.Machine.execFanPwmWrite f who v s
  | .patrolScrub a e => Sys2Proof.Machine.execPatrolScrub a e s
  | .ts n => Sys2Proof.Machine.execTs n s
  | .traceFifoRoom id => Sys2Proof.Machine.execTraceFifoRoom id s
  | .funnelFrame id => Sys2Proof.Machine.execFunnelFrame id s
  | .trcCtlWrite who v => Sys2Proof.Machine.execTrcCtlWrite who v s
  | .debugAccess a k w => Sys2Proof.Machine.execDebugAccess a k w s
  | .halt n who v => Sys2Proof.Machine.execHalt n who v s
  | .dbgResume n who v => Sys2Proof.Machine.execDbgResume n who v s
  | .step n who v => Sys2Proof.Machine.execStep n who v s
  | .dbgCoreDataWrite n hi who v => Sys2Proof.Machine.execDbgCoreDataWrite n hi who v s
  | .stepEn j who v => Sys2Proof.Machine.execStepEn j who v s
  | .go j who v => Sys2Proof.Machine.execGo j who v s
  | .dbgLeDataWrite j who v => Sys2Proof.Machine.execDbgLeDataWrite j who v s
  | .debugUnlock who v => Sys2Proof.Machine.execDebugUnlock who v s
  | .debugLock who v => Sys2Proof.Machine.execDebugLock who v s
  | .debugBoot who v => Sys2Proof.Machine.execDebugBoot who v s
  | .registerWrite a who v => Sys2Proof.Machine.execRegisterWrite a who v s
  | .registerReadClear a who => Sys2Proof.Machine.execRegisterReadClear a who s
  | .unitActionDone => Sys2Proof.Machine.execUnitActionDone s
  | .lvCmdDone ix => Sys2Proof.Machine.execLvCmdDone ix s
  | .packetSent u => Sys2Proof.Machine.execPacketSent u s
  | .dmaRequestWithdraw e q => Sys2Proof.Machine.execDmaRequestWithdraw e q s
  | .refclkLoss => Sys2Proof.Machine.execRefclkLoss s
  | .refclkReturn => Sys2Proof.Machine.execRefclkReturn s
  | .stagePowerLoss p => Sys2Proof.Machine.execStagePowerLoss p s
  | .gpioInputChange g lvl => Sys2Proof.Machine.execGpioInputChange g lvl s
  | .macAgeing v a => Sys2Proof.Machine.execMacAgeing v a s
  | .breakReceived x => Sys2Proof.Machine.execBreakReceived x s

end Sys2Proof.Machine
end

