-- ==== Sys2Proof/Machine/Words.lean ====
section
/-!
DEFINITION. Words that no row of the table carries: an LE or a core that stands at a reserved encoding (R215, R216, R363, R364).
-/
namespace Sys2Proof.Machine

/-- The word at LE j's PC: of its loop buffer while that is in use, else of the active bank (R197). -/
def State.leWord (s : State) (j : Nat) : Option W32 :=
  let x := s.leAt j
  match x.lbuf with
  | some ws => ws[x.pc.toNat]?
  | none => some (BitVec.ofNat 32 (s.mnum (leLocal (s.served j) + x.bank * 0x2000 + 4 * x.pc.toNat) 4))

/-- LE j runs and stands at a reserved opcode. -/
def State.leReserved (s : State) (j : Fin 36) : Bool :=
  s.leRuns j && (match s.leWord j with
    | some w => (decodeLe j w .ok .ok).isNone
    | none => false)

/-- Core n can run and stands at a reserved encoding. -/
def State.coreReserved (s : State) (n : Fin 32) : Bool :=
  s.canRun n && (match s.coreWord n with
    | some w => !knownP64 w
    | none => false)

/-- The instruction of LE j with a reserved opcode: ILLEGAL (R215, R226). -/
def State.leIllegal (s : State) (j : Fin 36) : State := s.leExec j 1 .ok 1 false (fun s _ _ => .next s)

/-- The instruction of core n with a reserved encoding: the illegal-instruction exception (R363). -/
def State.coreIllegal (s : State) (n : Fin 32) : State := s.insnU n false .next

/-- Each LE and each core that stands at a reserved encoding takes ILLEGAL (log entry 181). -/
def State.reservedWords (s : State) : State :=
  let s := forEach (List.finRange 36) (fun s j => if s.leReserved j then s.leIllegal j else s) s
  forEach (List.finRange 32) (fun s n => if s.coreReserved n then s.coreIllegal n else s) s

end Sys2Proof.Machine
end

