-- ==== Sys2Proof/Safety.lean ====
section
/-!
DEFINITION. The parts of the state, what it means that a command changes some of them only, and what holds of every state that a step passes through.
-/
namespace Sys2Proof.Machine

/-- The parts of the state that a frame names: the fields of State, and for the registers the blocks of control space (R52). The queue and the count of free values are not among them. -/
inductive Piece where
  | reply | mem | unit | img | keep | tick | pins | port | stage | le | lc | rail | seq | adc | hint | ldg | cmp | core | poison | evd | mbx | dma | basin | stall
  | pwr | ext | sw | fans | trc
  | rIMG | rTICK | rPL | rLC | rRAIL | rADC | rLDG | rCMP | rEVD | rMBX | rDMA | rSTL | rPWR | rTRC | rPORT | rSW | rGF | rBSN | rKEEP | rMC
deriving DecidableEq, Repr

/-- The block of control space that a register stands in (R52). -/
def Reg.block (r : Reg) : Piece :=
  let a := r.desc.addr - 0x200000000000
  if a < 0x10000 then .rIMG else if a < 0x100000 then .rTICK else if a < 0x500000 then .rPL else if a < 0x600000 then .rLC
  else if a < 0x700000 then .rRAIL else if a < 0x800000 then .rADC else if a < 0x900000 then .rLDG else if a < 0xA00000 then .rCMP
  else if a < 0xB00000 then .rEVD else if a < 0xC00000 then .rMBX else if a < 0xD00000 then .rDMA else if a < 0xE00000 then .rSTL
  else if a < 0xF00000 then .rPWR else if a < 0x1000000 then .rTRC else if a < 0x1C00000 then .rPORT else if a < 0x1E00000 then .rSW
  else if a < 0x1F00000 then .rGF else if a < 0x2000000 then .rBSN else if a < 0x3000000 then .rKEEP else .rMC

/-- A part is the same in both states: the field, or every register of the block at every index. -/
def Piece.same : Piece → State → State → Prop
  | .reply, s, t => t.reply = s.reply | .mem, s, t => t.mem = s.mem | .unit, s, t => t.unit = s.unit | .img, s, t => t.img = s.img
  | .keep, s, t => t.keep = s.keep | .tick, s, t => t.tick = s.tick | .pins, s, t => t.pins = s.pins | .port, s, t => t.port = s.port
  | .stage, s, t => t.stage = s.stage | .le, s, t => t.le = s.le ∧ t.copyEcc = s.copyEcc | .lc, s, t => t.lc = s.lc | .rail, s, t => t.rail = s.rail
  | .seq, s, t => t.seq = s.seq | .adc, s, t => t.adc = s.adc | .hint, s, t => t.hint = s.hint | .ldg, s, t => t.ldg = s.ldg
  | .cmp, s, t => t.cmp = s.cmp | .core, s, t => t.core = s.core ∧ t.l2 = s.l2 | .poison, s, t => t.poison = s.poison | .evd, s, t => t.evd = s.evd
  | .mbx, s, t => t.mbx = s.mbx | .dma, s, t => t.dma = s.dma | .basin, s, t => t.basin = s.basin | .stall, s, t => t.stall = s.stall
  | .pwr, s, t => t.pwr = s.pwr | .ext, s, t => t.ext = s.ext | .sw, s, t => t.sw = s.sw | .fans, s, t => t.fans = s.fans | .trc, s, t => t.trc = s.trc
  | p, s, t => ∀ r i, Reg.block r = p → t.rd r i = s.rd r i

/-- From s to t only the listed parts may differ; the queue is the same. -/
def Frame (ps : List Piece) (s t : State) : Prop := t.pending = s.pending ∧ ∀ p, p ∉ ps → p.same s t

/-- The words that wait in a direction of a mailbox (R446). -/
def State.mbxWords (s : State) (m : Nat) (ba : Bool) : List (W32 × W32) :=
  let x := tget Mailbox.init s.mbx m
  if ba then x.ba.q else x.ab.q

/-- The capacities of a core's return stack (R338) and of its first TLBs (R423). -/
def Core.inCap (c : Core) : Prop := c.ret.length ≤ 16 ∧ c.itlb.length ≤ 48 ∧ c.dtlb.length ≤ 48

/-- What every step keeps: the memory's canonical form (log entry 1), at most 8 words in each direction of a mailbox (R446), and the capacities of the cores' structures. -/
structure State.Inv (s : State) : Prop where
  mem : Memory.wf s.mem = true
  mbx : ∀ m ba, (s.mbxWords m ba).length ≤ 8
  core : ∀ n, (tget Core.init s.core n).inCap

/-- The fuses of R105 but DEV_SECRET and LIFECYCLE: the hashes and SERIAL. -/
def Keep.fuses (k : Keep) : Tab (BitVec 384) × Tab (BitVec 384) × BitVec 384 × BitVec 384 × BitVec 64 := (k.slotEc, k.slotHss, k.provEc, k.provHss, k.serial)

end Sys2Proof.Machine
end

