-- ==== Sys2Proof/Certificates/Slice0/Obligations.lean ====
section
/-!
DEFINITION. The statements for the provers.
-/
open Sys2Proof Sys2Proof.Machine

/-! ## The machine as a whole -/

/-- A step with a command at the front of the queue is that command's effect on the state with the rest of the queue (log entry 4: the queue is the model's). -/
def Obligations.StepRunsFront : Prop :=
  ∀ (c : Instr) (s : State), step { s with pending := c :: s.pending } = exec c s

/-- TIMEBASE after a step on an empty queue (log entry 4). -/
def Sys2Proof.Machine.State.idleTb (s : State) : Nat :=
  if s.gb .TICK_STATUS 0 F.TICK_STATUS.STOPPED = true ∨ s.tick.dark = true then
    if s.tick.refclk = true ∧ (s.gb .TICK_STATUS 0 F.TICK_STATUS.STOPPED = true ∨ s.tick.tb < s.tick.edgeTb + s.tlen) then s.tick.tb + 48 else s.tick.tb
  else if s.gb .TICK_STATUS 0 F.TICK_STATUS.LOCKED = true ∧ ¬(s.gb .TICK_STATUS 0 F.TICK_STATUS.RUNNING = true ∧ s.tick.edgeTb + s.tickLen 0 ≤ s.tick.tb + 1) then s.tick.tb + 1
  else s.tick.tb

/-- On an empty queue a step is one cycle of the clock: nothing but TIMEBASE changes while no engine and no core stands at a reserved encoding (the model's choice, log entries 4 and 181). -/
def Obligations.EmptyQueueAdvancesTimebase : Prop :=
  ∀ s : State, s.pending = [] →
    let u : State := { s with tick := { s.tick with tb := s.idleTb } }
    (∀ j, u.leReserved j = false) → (∀ n, u.coreReserved n = false) → step s = .next u

/-- The state after reset meets State.Inv. -/
def Obligations.ResetMeetsInvariant : Prop := State.reset.Inv

/-- Every step keeps State.Inv. -/
def Obligations.StepKeepsInvariant : Prop :=
  ∀ s t : State, s.Inv → step s = .next t → t.Inv

/-- No step changes the fused hashes or SERIAL, and no monotonic counter falls. -/
def Obligations.FusesStayAndCountersRise : Prop :=
  ∀ s t : State, step s = .next t → t.keep.fuses = s.keep.fuses ∧ ∀ i, s.keep.ctr i ≤ t.keep.ctr i

/-- Every part of the state. -/
def Sys2Proof.Machine.Piece.every : List Piece :=
  [.reply, .mem, .unit, .img, .keep, .tick, .pins, .port, .stage, .le, .lc, .rail, .seq, .adc, .hint, .ldg, .cmp, .core, .poison, .evd, .mbx, .dma, .basin, .stall, .pwr, .ext, .sw, .fans, .trc,
   .rIMG, .rTICK, .rPL, .rLC, .rRAIL, .rADC, .rLDG, .rCMP, .rEVD, .rMBX, .rDMA, .rSTL, .rPWR, .rTRC, .rPORT, .rSW, .rGF, .rBSN, .rKEEP, .rMC]

/-- Every part but the listed. -/
def Sys2Proof.Machine.Piece.allBut (ps : List Piece) : List Piece := Piece.every.filter (fun p => !ps.contains p)

/-- The parts of the state that each command may change. -/
def Sys2Proof.Instr.parts : Instr → List Piece
  | .porstNAssert | .supplyOutOfRange .. | .packageWake .. => Piece.allBut []
  | .porstNRelease .. | .uartLoaderBlock .. => [.mem, .img, .keep, .pins, .le, .cmp, .core, .evd, .basin, .pwr, .fans, .rIMG, .rTICK, .rLC, .rRAIL, .rEVD, .rPWR, .rTRC, .rBSN, .rKEEP, .rMC]
  | .tickStart => Piece.allBut [.reply, .img, .stage, .ldg, .poison, .stall, .sw, .fans, .trc]
  | .sysrstNAssert => Piece.allBut [.reply, .unit, .keep, .tick, .stage, .rail, .seq, .ldg, .cmp, .poison, .sw, .fans, .trc]
  | .sysrstNRelease .. => Piece.allBut [.reply, .unit, .tick, .stage, .lc, .rail, .seq, .ldg, .poison, .sw, .trc]
  | .vcoreOutOfRange .. | .settle .. => [.unit, .core, .evd, .pwr, .rEVD, .rPWR]
  | .uncorrectableFault .. => [.unit, .le, .lc, .cmp, .core, .evd, .pwr, .rPL, .rEVD, .rPWR]
  | .submit .. | .cancel .. | .keepCntInc .. | .lifecycleGo .. | .keepJobHash .. | .keepJobEcdsaVerify .. | .keepJobHssVerify .. | .keepJobEcdsaSign .. | .keepJobHssSign .. | .keepJobAesEncrypt .. | .keepJobAesDecrypt .. | .keepJobTrngFill .. | .keepJobMrExtend .. | .disable .. | .reenable .. | .enumGo .. | .readmit .. | .plRegRead .. | .plRegWrite .. | .testInternalLoopback .. | .testDownstreamPrbs31 .. | .testUpstreamPrbs31 .. | .testStageLoopback .. | .testExit .. | .eyeGo .. | .injectCrc .. | .injectSilentSlot .. | .injectSampleCrcFail .. | .injectQuietViolation .. | .lcSpareRelease .. | .lcLeReset .. | .lcLeFence .. | .lcLeUnfence .. | .recRingResume .. | .seqUp .. | .seqDown .. | .seqClear .. | .railOn .. | .railOff .. | .railClear .. | .railSetptWrite .. | .railWshedReadmit .. | .ldgRead .. | .ldgWrite .. | .resetStats .. | .push .. | .flushOne .. | .flushAll .. | .invalAll .. | .leave .. | .join .. | .unfence .. | .fenceRel .. | .fence .. | .handoff .. | .migSend .. | .migRxFree .. | .evdEoi .. | .evdPmrWrite .. | .evdSwgen .. | .evdFallbackWrite .. | .evdEnSet .. | .evdEnClr .. | .evdPendSet .. | .evdPendClr .. | .evdSrcCfgWrite .. | .mbxTx .. | .mbxAckWrite .. | .chStart .. | .chStop .. | .chPause .. | .chResume .. | .chClear .. | .chInv .. | .chOwnWrite .. | .bsnFree .. | .bind .. | .quiesce .. | .stallResume .. | .freeze .. | .thaw .. | .save .. | .restore .. | .stallReset .. | .remove .. | .stlBindWrite .. | .stlMapWrite .. | .ring .. | .stlTEnSet .. | .stlTEnClr .. | .stlTPendClr .. | .stlTBsnFree .. | .lvRead .. | .setthr .. | .stallPageAccess .. | .coreOn .. | .ccFreqWrite .. | .vtgtWrite .. | .sluiceGo .. | .pkgGo .. | .unitReset .. | .unitFence .. | .unitUnfence .. | .unitOut .. | .traceOn .. | .traceOff .. | .portTxq .. | .bar0Access .. | .pcieRetrain .. | .pcieForceRate .. | .laneMargining .. | .prbs31Lanes .. | .pcsLoopbackNear .. | .pcsLoopbackFar .. | .busRecovery .. | .rawTransfer .. | .i3cTargetReset .. | .avsbusFrame .. | .tapReset .. | .shiftIr .. | .shiftDr .. | .xspiProgram .. | .xspiErase .. | .uartBreak .. | .kick .. | .fanPwmWrite .. | .trcCtlWrite .. | .debugAccess .. | .halt .. | .dbgResume .. | .step .. | .dbgCoreDataWrite .. | .stepEn .. | .go .. | .dbgLeDataWrite .. | .debugUnlock .. | .debugLock .. | .debugBoot .. | .registerWrite .. | .registerReadClear .. => Piece.allBut [.unit, .tick, .stage, .sw]
  | .amendmentVerifyDone .. | .amendmentStageDone | .commitPoint => Piece.allBut [.reply, .unit, .keep, .tick, .pins, .stage, .rail, .seq, .ldg, .cmp, .poison, .stall, .sw, .fans, .trc]
  | .regionDrainDone .. => Piece.allBut [.reply, .unit, .keep, .tick, .pins, .stage, .rail, .seq, .ldg, .cmp, .poison, .stall, .pwr, .sw, .fans, .trc]
  | .counterIncrementDone | .lifecycleFuseWriteDone => [.keep, .rKEEP]
  | .keepJobDone .. => [.mem, .keep, .core, .poison, .evd, .pwr, .rEVD, .rPWR, .rBSN, .rKEEP, .rMC]
  | .trngHealthFail | .norngTimeout | .challenge .. | .getMeasurements .. | .keyExchange .. => [.keep, .core, .evd, .pwr, .rEVD, .rPWR, .rKEEP]
  | .getVersion .. | .getCapabilities .. | .negotiateAlgorithms .. | .getDigests .. | .getCertificate .. | .finish .. | .heartbeat .. | .keyUpdate .. | .endSession .. | .lmsCosign .. => [.keep]
  | .tickEdge .. => Piece.allBut [.reply, .stage, .stall, .fans]
  | .tickPllLockLoss => [.pins, .le, .core, .evd, .pwr, .rTICK, .rEVD, .rPWR]
  | .tickInLost => [.tick, .cmp, .core, .evd, .pwr, .rTICK, .rEVD, .rPWR]
  | .tickInReturn => [.tick, .rTICK]
  | .senseSampleReady .. => [.port, .rail, .seq, .adc, .core, .evd, .pwr, .rRAIL, .rADC, .rEVD, .rPWR]
  | .sampleSetDelivery | .leWaitsEnd .. => [.le]
  | .overrunDeadline => [.mem, .le, .core, .evd, .pwr, .rTICK, .rLC, .rEVD, .rPWR]
  | .plFrameSend .. | .portShedMask .. => [.port]
  | .upstreamSampleFrame .. => [.port, .rail, .seq, .core, .evd, .pwr, .trc, .rPL, .rRAIL, .rEVD, .rPWR, .rTRC]
  | .upstreamAuxFrame .. | .registerReply .. => [.port, .ldg, .core, .evd, .pwr, .trc, .rPL, .rEVD, .rPWR, .rTRC]
  | .registerReplyMissing .. | .enumSyncDone .. | .stageAbsent .. | .quietWindowViolation .. | .busfail .. | .eyeDone .. => [.port, .core, .evd, .pwr, .trc, .rPL, .rEVD, .rPWR, .rTRC]
  | .plausibilityFault .. | .nophase .. | .pgtmo .. => [.port, .rail, .seq, .core, .evd, .pwr, .rRAIL, .rEVD, .rPWR]
  | .plausClear .. => [.rail]
  | .stagePowerOn .. | .stageHoldExpiry .. | .stageInternalFault .. | .stagePowerLoss .. => [.port, .stage]
  | .stageMarkerRx .. | .stageMarkerMissing .. | .stageSlotStart .. => [.stage]
  | .stageInvalidFrame .. => []
  | .current .. | .ontime .. | .shed .. | .hold .. | .configure .. | .auxRead .. | .wake .. | .ovrCurrent .. | .ovrShed .. | .ovrShedMask .. | .shedMask .. => [.port, .stage, .rail, .rPL]
  | .leNop .. | .leAdd .. | .leSub .. | .leAddi .. | .leAnd .. | .leOr .. | .leXor .. | .leMovi .. | .leMovhi .. | .leMov .. | .leShl .. | .leShr .. | .leSra .. | .leShli .. | .leShri .. | .leSrai .. | .leMin .. | .leMax .. | .leClamp .. | .leAbs .. | .leNeg .. | .leMulq .. | .leMac .. | .leMsu .. | .leMclr .. | .leMld .. | .leMrd .. | .leMadd .. | .lePset .. | .lePadd .. | .lePmov .. | .lePrd .. | .leRsr .. | .leWsr .. | .leRdn .. | .leBeq .. | .leBne .. | .leBlt .. | .leBge .. | .leB .. | .leJal .. | .leJr .. | .leLoop .. | .leWaits .. | .leRds .. | .leSendp .. | .lePub .. | .leEvp .. => [.unit, .le, .cmp, .core, .evd, .pwr, .rLC, .rEVD, .rPWR]
  | .leLd .. | .leSt .. | .leLdh .. | .leSth .. | .leLdp .. | .leStp .. | .leSharedAccessDone .. => [.mem, .unit, .le, .cmp, .core, .evd, .pwr, .rLC, .rEVD, .rPWR]
  | .leCommit .. => [.unit, .port, .le, .rail, .cmp, .core, .evd, .pwr, .rLC, .rRAIL, .rEVD, .rPWR]
  | .leEnd .. => [.mem, .unit, .port, .le, .rail, .ldg, .cmp, .core, .evd, .pwr, .rLC, .rRAIL, .rEVD, .rPWR]
  | .adcSaturation .. => [.adc, .core, .evd, .pwr, .rIMG, .rTICK, .rPL, .rLC, .rRAIL, .rADC, .rLDG, .rCMP, .rEVD, .rMBX, .rDMA, .rSTL, .rPWR, .rTRC, .rPORT, .rSW, .rGF, .rBSN, .rKEEP, .rMC]
  | .hintNotice .. => [.le, .hint, .core, .evd, .pwr, .trc, .rRAIL, .rEVD, .rPWR, .rTRC]
  | .hintLinkUp .. | .hintLinkDown .. => [.core, .evd, .pwr, .trc, .rRAIL, .rEVD, .rPWR, .rTRC]
  | .pgUp .. => [.rail, .core, .evd, .pwr, .rRAIL, .rEVD, .rPWR]
  | .seqStepStart .. => [.rail, .seq]
  | .seqGpioPgChange .. => [.port, .rail, .seq, .core, .evd, .pwr, .rRAIL, .rEVD, .rPWR, .rGF]
  | .ledgerSeriesDue .. => Piece.allBut [.reply, .unit, .img, .keep, .tick, .pins, .port, .stage, .le, .lc, .rail, .seq, .adc, .hint, .cmp, .mbx, .dma, .stall, .ext, .sw, .fans, .trc]
  | .ledgerUpdateDiscard .. | .ldgCmdDone => [.ldg, .rLDG]
  | .ledgerPartnerReply .. | .ledgerPollTimeout .. => Piece.allBut [.reply, .unit, .img, .keep, .tick, .pins, .port, .stage, .le, .lc, .rail, .seq, .adc, .hint, .cmp, .mbx, .dma, .stall, .sw, .fans, .trc]
  | .ledgerProbe .. => [.ldg, .basin, .rBSN]
  | .stale .. => Piece.allBut [.reply, .unit, .img, .keep, .tick, .pins, .port, .stage, .le, .lc, .rail, .seq, .adc, .hint, .cmp, .mbx, .dma, .basin, .stall, .ext, .sw, .fans, .trc]
  | .ledgerUnsolicited .. => [.ldg]
  | .ledgerThrottleEnd .. | .ledgerWriteback .. => [.mem, .ldg, .core, .poison]
  | .companionHeartbeat .. | .fenceAssert => [.pins, .cmp, .core, .evd, .pwr, .rCMP, .rEVD, .rPWR]
  | .hbLost | .companionLinkDown | .migDone .. => [.cmp, .core, .evd, .pwr, .rCMP, .rEVD, .rPWR]
  | .handoverRecordRx .. => [.rail, .rCMP]
  | .companionLinkUp => [.cmp]
  | .joined => [.rail, .seq, .cmp, .core, .evd, .pwr, .rCMP, .rEVD, .rPWR]
  | .ownWatchdog | .pairOwnHigh => [.pins]
  | .pairFenceLow => [.pins, .port, .rail, .seq, .cmp, .core, .evd, .pwr, .rPL, .rCMP, .rEVD, .rPWR]
  | .migRx .. => [.mem, .core, .poison, .evd, .pwr, .rCMP, .rEVD, .rPWR]
  | .add .. | .sub .. | .addm .. | .subm .. | .and .. | .or .. | .xor .. | .andn .. | .shl .. | .shr .. | .sar .. | .clt .. | .cltu .. | .min .. | .max .. | .minu .. | .maxu .. | .add32 .. | .sub32 .. | .shl32 .. | .shr32 .. | .sar32 .. | .addk .. | .addkm .. | .andk .. | .ork .. | .xork .. | .cltk .. | .cltuk .. | .shlk .. | .shrk .. | .sark .. | .addk32 .. | .shlk32 .. | .shrk32 .. | .sark32 .. | .mul .. | .mulhi .. | .mulhiu .. | .mul32 .. | .div .. | .divu .. | .mod .. | .modu .. | .div32 .. | .divu32 .. | .mod32 .. | .modu32 .. | .ld8 .. | .ld8u .. | .ld16 .. | .ld16u .. | .ld32 .. | .ld32u .. | .ld64 .. | .st8 .. | .st16 .. | .st32 .. | .st64 .. | .storeErrorEntry .. | .loadDataReturn .. | .rsv32 .. | .rsv64 .. | .cmt32 .. | .cmt64 .. | .atswap32 .. | .atswap64 .. | .atadd32 .. | .atadd64 .. | .atand32 .. | .atand64 .. | .ator32 .. | .ator64 .. | .atcas32 .. | .atcas64 .. | .cbeq .. | .cbne .. | .cblt .. | .cbge .. | .cbltu .. | .cbgeu .. | .jlink .. | .jlinkr .. | .mkhi .. | .pchi .. | .loop .. | .nop .. | .mfsr .. | .mtsr .. | .msset .. | .msclr .. | .sync .. | .isync .. | .icinv .. | .dcwb .. | .dcwbi .. | .tinvVa .. | .tinvSid .. | .tinvIpa .. | .tinvAll .. | .pflush .. | .pbar .. | .wait .. | .eret .. | .calls .. | .callh .. | .callm .. | .brk .. | .irqEntry .. | .completionTimeout .. => Piece.allBut [.reply, .tick, .stage, .sw]
  | .storeDrain .. => Piece.allBut [.reply, .unit, .tick, .stage, .sw]
  | .coreTimerFire .. | .avsbusAck .. | .noack .. => [.core, .evd, .pwr, .rEVD, .rPWR]
  | .cacheError .. => [.unit, .core, .poison, .evd, .pwr, .rEVD, .rPWR]
  | .evdPresentation .. | .evdModerationRelease .. => [.core, .evd, .pwr, .rPWR]
  | .evdAck .. | .mbxRxData .. | .bsnPoolAlloc .. | .stlTBsnAlloc .. | .portRxq .. => Piece.allBut [.mem, .unit, .img, .keep, .tick, .pins, .port, .stage, .le, .lc, .rail, .seq, .adc, .hint, .cmp, .poison, .dma, .stall, .sw, .fans, .trc]
  | .mbxTimeout .. | .mbxFramePush .. | .readAck .. | .readRx .. | .writeAck .. => [.core, .evd, .mbx, .pwr, .ext, .trc, .rEVD, .rMBX, .rPWR, .rTRC, .rPORT]
  | .dmaContextFree .. => [.core, .evd, .dma, .pwr, .rEVD, .rDMA, .rPWR]
  | .dmaBargeRead .. | .dmaReadComplete .. | .dmaWriteAck .. | .underrun .. => [.mem, .core, .poison, .evd, .mbx, .dma, .pwr, .ext, .trc, .rEVD, .rMBX, .rDMA, .rSTL, .rPWR, .rTRC, .rPORT]
  | .dmaPortRequest .. | .dmaRequestWithdraw .. => [.dma]
  | .dmaPortData .. => [.dma, .ext]
  | .stallQuiet .. => [.core, .evd, .stall, .pwr, .rEVD, .rSTL, .rPWR]
  | .stallCmdDone .. => Piece.allBut [.reply, .unit, .img, .keep, .tick, .pins, .port, .stage, .le, .lc, .rail, .seq, .adc, .hint, .ldg, .cmp, .ext, .sw, .fans, .trc]
  | .sluiceClockChangeDone .. => [.core, .evd, .pwr, .ext, .rEVD, .rPWR]
  | .pkgEntryStepDone => [.mem, .tick, .pins, .le, .ldg, .core, .poison, .evd, .basin, .pwr, .rEVD, .rPWR, .rTRC]
  | .regionRetentionEntry .. => [.core, .pwr, .rPWR]
  | .regionRetentionExit .. => [.rPWR]
  | .packetRx .. => [.mem, .core, .poison, .evd, .basin, .pwr, .ext, .trc, .rEVD, .rPWR, .rTRC, .rPORT, .rBSN]
  | .rp0InboundRequest .. | .i3cIbi .. => [.ext, .rPORT]
  | .ethFrameRx .. => [.mem, .core, .poison, .evd, .mbx, .basin, .pwr, .ext, .sw, .trc, .rEVD, .rMBX, .rPWR, .rTRC, .rPORT, .rBSN]
  | .linkUp .. => [.core, .evd, .pwr, .trc, .rEVD, .rPWR, .rTRC, .rPORT]
  | .linkDown .. | .clockLowTimeout .. => Piece.allBut [.reply, .unit, .img, .keep, .tick, .pins, .port, .stage, .le, .lc, .rail, .seq, .adc, .hint, .cmp, .mbx, .dma, .stall, .sw, .fans]
  | .stuck .. => [.core, .evd, .pwr, .ext, .trc, .rEVD, .rPWR, .rTRC, .rPORT]
  | .rawDone .. => [.core, .evd, .dma, .pwr, .ext, .trc, .rEVD, .rPWR, .rTRC, .rPORT]
  | .fanTachWindow .. => [.core, .evd, .pwr, .fans, .rEVD, .rPWR, .rGF]
  | .fanWdtExpiry => [.fans]
  | .patrolScrub .. => [.poison, .rMC]
  | .ts .. => [.core, .evd, .pwr, .trc, .rEVD, .rPWR, .rTRC]
  | .traceFifoRoom .. => [.core, .trc, .rTRC]
  | .funnelFrame .. => [.mem, .core, .poison, .trc, .rTRC]
  | .unitActionDone => Piece.allBut [.reply, .img, .keep, .tick, .pins, .stage, .rail, .seq, .ldg, .cmp, .poison, .stall, .sw, .fans, .trc]
  | .lvCmdDone .. => [.mem, .ldg, .core, .poison, .stall, .rSTL]
  | .packetSent .. => [.basin, .ext, .sw, .rPORT]
  | .refclkLoss | .refclkReturn => [.tick]
  | .gpioInputChange .. => [.core, .evd, .pwr, .rEVD, .rPWR, .rGF]
  | .macAgeing .. => [.sw]
  | .breakReceived .. => [.rPORT]

/-- A command changes only its parts of the state, and not the queue. -/
def Obligations.CommandsChangeOnlyTheirParts : Prop :=
  ∀ (c : Instr) (s t : State), exec c s = .next t → Frame c.parts s t

/-- Every well-formed command completes in every state; every other stops with the fault illFormed. -/
def Obligations.OnlyIllFormedCommandsStop : Prop :=
  (∀ (c : Instr) (s : State), (c.wf = true → ∃ t, exec c s = .next t) ∧ (c.wf = false → exec c s = .fault .illFormed)) ∧
  (∀ s : State, s.ldg.busy = true → ∃ t, exec .ldgCmdDone s = .next t ∧ t.ldg.busy = false ∧ t.rd .LDG_CMD_STAT 0 = BitVec.ofNat 32 (2 ^ 31 + s.ldg.code)) ∧
  (∀ (s : State) (e : Fin 4) (i : Fin 1024), s.engOpen e = true →
    let c := chNum e i
    let x := s.chn c
    (x.st = .queued → x.ctx = true ∨ s.ctxCount e < 64 → ∃ t, exec (.dmaContextFree e i) s = .next t ∧ (t.chn c).st ≠ .queued) ∧
    (∀ b, x.st = .active → x.ctx = true → x.barge = none → x.shadow = none → x.shadowErr = none → x.resumeAt = none → x.next ≠ 0 → x.next % 64 = 0 → s.dmaRd c x.next 64 = some b →
      bBad x.next b = false → bUsesPort b = false → 0 < bTotal b → ∃ t, exec (.dmaBargeRead e i) s = .next t ∧ (t.chn c).barge = some (x.next, b) ∧ (t.chn c).next = bNext b) ∧
    (∀ a b, x.st = .active → x.barge = some (a, b) → x.fail = none → s.ownStall c = none →
      (∀ k d, k = x.wrn + x.buf.length / bEs b → k < bTotal b → bSrcPort b = false → s.dmaRd c (bAddr b false k) (dmaRun b false k (min 256 (bTotal b - k)) * bEs b) = some d →
        ∃ t, exec (.dmaReadComplete e i) s = .next t ∧ (t.chn c).buf = x.buf ++ d) ∧
      (∀ n, n = bRun b true x.wrn (min 256 (bTotal b - x.wrn)) → x.wrn + n < bTotal b → n * bEs b ≤ x.buf.length → bDstPort b = false → txReg (bAddr b true x.wrn) = none → s.memOpen (dmaReq c) (bAddr b true x.wrn) (n * bEs b) true = true →
        ∃ t, exec (.dmaWriteAck e i) s = .next t ∧ (t.chn c).wrn = x.wrn + n ∧ (t.chn c).buf = x.buf.drop (n * bEs b)))) ∧
  (∀ (s : State) (e : Fin 4) (q : Fin 64) (c a : Nat) (b d : Bytes), s.engOpen e = true → s.portOn (linePort q) = true → s.lineCh e q = some c →
    let x := s.chn c
    x.barge = some (a, b) → x.st = .waiting → bSrcPort b = true → bLine b = q →
      (x.burst = none → x.buf.length < (bTotal b - x.wrn) * bEs b → ∃ t, exec (.dmaPortRequest e q) s = .next t ∧ (t.chn c).burst = some (min 256 ((bTotal b - x.wrn) * bEs b - x.buf.length))) ∧
      (∀ n, x.burst = some n →
        (q.val < 40 → ∃ t, exec (.dmaPortData e q d) s = .next t ∧ (t.chn c).buf = x.buf ++ d.take n) ∧
        (x.lastAt + s.gf .DMA_RQ_CFG (e.val * 64 + q.val) F.DMA_RQ_CFG.TIMEOUT ≤ s.tick.count → ∃ t, exec (.underrun e q) s = .next t ∧ (t.chn c).underrun = true ∧ (t.chn c).burst = none) ∧
        (∃ t, exec (.dmaRequestWithdraw e q) s = .next t ∧ tget false t.dma.req q = false ∧ (t.chn c).wdraw = min 255 (x.wdraw + 1))))

/-! ## Registers: writes and reads by a requester -/

/-- A write by `who` of instance i of register r reaches the register: the unit that it belongs to answers the requester (R7, R12, R27, R30, R53), the requester's level may write it (a port has none: R532), the debug path does not write KEEP (R561), and R499 admits a write of CH_CTL. -/
structure Sys2Proof.Machine.State.Admits (s : State) (who : Req) (r : Reg) (i : Nat) : Prop where
  gate : s.gate who (r.addrOf i) true = .reg r i none
  level : r.desc.wrLvl.num ≤ reqRights who ∨ isPort who = true
  keep : inKeep r = true → isDebug who = false
  own : r = .CH_CTL → s.chCtlOk who i = true

/-- A read by `who` of instance i of register r reaches the register. -/
structure Sys2Proof.Machine.State.Shows (s : State) (who : Req) (r : Reg) (i : Nat) : Prop where
  gate : s.gate who (r.addrOf i) false = .reg r i none
  level : r.desc.rdLvl.num ≤ reqRights who ∨ isPort who = true

/-- The block goes on in t, and the requester's write is answered without an error. -/
def Sys2Proof.Machine.State.wrote (t : State) : Out := .next { t with reply := .none }

/-- The block goes on in t, and the requester's read is answered with v. -/
def Sys2Proof.Machine.State.showed (t : State) (v : W32) : Out := .next { t with reply := .value (v.setWidth 64) }

/-- Event bit b of an event register is set, and its source is raised when it was clear and enabled (R433). -/
structure Sys2Proof.Machine.State.EventSet (s t : State) (evt en : Reg) (i b src : Nat) : Prop where
  flag : t.getB evt i b = true
  raised : s.getB evt i b = false → s.getB en i b = true → t.evPend src = true

/-- The register write that a command stands for: requester, register, instance, and the word with the command's action bits set (95_what_each_step_holds.md). -/
def Sys2Proof.Instr.write : Instr → Option (Req × Reg × Nat × W32)
  | .submit who v => some (who, .IMG_AMD_CTL, 0, v ||| 1)
  | .cancel who v => some (who, .IMG_AMD_CTL, 0, v ||| 2)
  | .keepCntInc who v => some (who, .KEEP_CNT_CTL, 0, v ||| 0x100)
  | .lifecycleGo who v => some (who, .KEEP_LC_CTL, 0, v ||| 0x10)
  | .disable n who v => some (who, .PL_CTL, n.val, v ||| 8)
  | .reenable n who v => some (who, .PL_CTL, n.val, v ||| 4)
  | .enumGo n who v => some (who, .PL_CTL, n.val, v ||| 2)
  | .eyeGo n who v => some (who, .PL_CTL, n.val, v ||| 16)
  | .readmit n who v => some (who, .PL_READMIT, n.val, v)
  | .plRegRead n who v => some (who, .PL_REG_CMD, n.val, (v ||| 0x80000000) &&& ~~~(0x40000000 : W32))
  | .plRegWrite n who v => some (who, .PL_REG_CMD, n.val, v ||| 0xC0000000)
  | .testInternalLoopback n who v => some (who, .PL_CTL, n.val, F.PL_CTL.TEST.put v 1)
  | .testDownstreamPrbs31 n who v => some (who, .PL_CTL, n.val, F.PL_CTL.TEST.put v 2)
  | .testUpstreamPrbs31 n who v => some (who, .PL_CTL, n.val, F.PL_CTL.TEST.put v 3)
  | .testStageLoopback n who v => some (who, .PL_CTL, n.val, F.PL_CTL.TEST.put v 4)
  | .testExit n who v => some (who, .PL_CTL, n.val, F.PL_CTL.TEST.put v 0)
  | .injectCrc n who v => some (who, .PL_INJ, n.val, F.PL_INJ.KIND.put v 1 ||| 0x80000000)
  | .injectSilentSlot n who v => some (who, .PL_INJ, n.val, F.PL_INJ.KIND.put v 2 ||| 0x80000000)
  | .injectSampleCrcFail n who v => some (who, .PL_INJ, n.val, F.PL_INJ.KIND.put v 3 ||| 0x80000000)
  | .injectQuietViolation n who v => some (who, .PL_INJ, n.val, F.PL_INJ.KIND.put v 4 ||| 0x80000000)
  | .lcSpareRelease c who v => some (who, .LC_SPARE_CTL, c.val, v ||| 1)
  | .recRingResume c who v => some (who, .LC_REC_CTL, c.val, v)
  | .lcLeReset j who v => some (who, .LC_LE_CTL, leIdx j, v ||| 4)
  | .lcLeFence j who v => some (who, .LC_LE_CTL, leIdx j, v ||| 1)
  | .lcLeUnfence j who v => some (who, .LC_LE_CTL, leIdx j, v ||| 2)
  | .seqUp who v => some (who, .SEQ_CTL, 0, v ||| 1)
  | .seqDown who v => some (who, .SEQ_CTL, 0, v ||| 2)
  | .seqClear who v => some (who, .SEQ_CTL, 0, v ||| 4)
  | .railOn r who v => some (who, .RAIL_CTL, r.val, v ||| 1)
  | .railOff r who v => some (who, .RAIL_CTL, r.val, v ||| 2)
  | .railClear r who v => some (who, .RAIL_CTL, r.val, v ||| 4)
  | .railSetptWrite r who v => some (who, .RAIL_SETPT, r.val, v)
  | .railWshedReadmit r hi who v => some (who, if hi then .RAIL_WSHED_HI else .RAIL_WSHED_LO, r.val, v)
  | .ldgRead who v => some (who, .LDG_CMD, 0, F.LDG_CMD.OP.put v 0 ||| 0x80000000)
  | .ldgWrite who v => some (who, .LDG_CMD, 0, F.LDG_CMD.OP.put v 1 ||| 0x80000000)
  | .resetStats who v => some (who, .LDG_CMD, 0, F.LDG_CMD.OP.put v 2 ||| 0x80000000)
  | .push who v => some (who, .LDG_CMD, 0, F.LDG_CMD.OP.put v 3 ||| 0x80000000)
  | .flushOne who v => some (who, .LDG_CMD, 0, F.LDG_CMD.OP.put v 4 ||| 0x80000000)
  | .flushAll who v => some (who, .LDG_CMD, 0, F.LDG_CMD.OP.put v 5 ||| 0x80000000)
  | .invalAll who v => some (who, .LDG_CMD, 0, F.LDG_CMD.OP.put v 6 ||| 0x80000000)
  | .leave who v => some (who, .CMP_CTL, 0, v ||| 32)
  | .join who v => some (who, .CMP_CTL, 0, v ||| 16)
  | .unfence who v => some (who, .CMP_CTL, 0, v ||| 8)
  | .fenceRel who v => some (who, .CMP_CTL, 0, v ||| 4)
  | .fence who v => some (who, .CMP_CTL, 0, v ||| 2)
  | .handoff who v => some (who, .CMP_CTL, 0, v ||| 1)
  | .migSend who v => some (who, .CMP_MIG_CTL, 0, v ||| 0x80000000)
  | .migRxFree who v => some (who, .CMP_MIG_RXSTAT, 0, v ||| 0x80000000)
  | .evdEoi who v => some (who, .EVD_EOI, 0, v)
  | .evdPmrWrite who v => some (who, .EVD_PMR, 0, v)
  | .evdSwgen who v => some (who, .EVD_SWGEN, 0, v)
  | .evdFallbackWrite who v => some (who, .EVD_FALLBACK, 0, v)
  | .evdEnSet k who v => some (who, .EVD_EN_SET, k.val, v)
  | .evdEnClr k who v => some (who, .EVD_EN_CLR, k.val, v)
  | .evdPendSet k who v => some (who, .EVD_PEND_SET, k.val, v)
  | .evdPendClr k who v => some (who, .EVD_PEND_CLR, k.val, v)
  | .evdSrcCfgWrite x who v => some (who, .EVD_SRC_CFG, x.val, v)
  | .mbxTx m ba who v => some (who, if ba then .MBX_BA_TX else .MBX_AB_TX, m.val, v)
  | .mbxAckWrite m ba who v => some (who, if ba then .MBX_BA_ACK else .MBX_AB_ACK, m.val, v)
  | .chStart e i who v => some (who, .CH_CTL, chNum e i, v ||| 2)
  | .chStop e i who v => some (who, .CH_CTL, chNum e i, v ||| 4)
  | .chPause e i who v => some (who, .CH_CTL, chNum e i, v ||| 8)
  | .chResume e i who v => some (who, .CH_CTL, chNum e i, v ||| 16)
  | .chClear e i who v => some (who, .CH_CTL, chNum e i, v ||| 64)
  | .chInv e i who v => some (who, .CH_CTL, chNum e i, v ||| 32)
  | .chOwnWrite e i who v => some (who, .CH_OWN, chNum e i, v)
  | .bsnFree who v => some (who, .BSN_FREE, 0, v)
  | .bind i who v => some (who, .STL_CTL, i.val, F.STL_CTL.CMD.put v 1)
  | .quiesce i who v => some (who, .STL_CTL, i.val, F.STL_CTL.CMD.put v 2)
  | .stallResume i who v => some (who, .STL_CTL, i.val, F.STL_CTL.CMD.put v 3)
  | .freeze i who v => some (who, .STL_CTL, i.val, F.STL_CTL.CMD.put v 4)
  | .thaw i who v => some (who, .STL_CTL, i.val, F.STL_CTL.CMD.put v 5)
  | .save i who v => some (who, .STL_CTL, i.val, F.STL_CTL.CMD.put v 6)
  | .restore i who v => some (who, .STL_CTL, i.val, F.STL_CTL.CMD.put v 7)
  | .stallReset i who v => some (who, .STL_CTL, i.val, F.STL_CTL.CMD.put v 8)
  | .remove i who v => some (who, .STL_CTL, i.val, F.STL_CTL.CMD.put v 9)
  | .stlBindWrite i who v => some (who, .STL_BIND, i.val, v)
  | .ring i who v => some (who, .STL_T_BELL, i.val, v ||| 1)
  | .stlTEnSet i who v => some (who, .STL_T_EN_SET, i.val, v)
  | .stlTEnClr i who v => some (who, .STL_T_EN_CLR, i.val, v)
  | .stlTPendClr i who v => some (who, .STL_T_PEND_CLR, i.val, v)
  | .stlTBsnFree i who v => some (who, .STL_T_BSN_FREE, i.val, v)
  | .lvRead i who v => some (who, .STL_T_LV_CMD, i.val, (v ||| 0x80000000) &&& ~~~(0x10000000 : W32))
  | .setthr i who v => some (who, .STL_T_LV_CMD, i.val, v ||| 0x90000000)
  | .coreOn n who v => some (who, .PWR_CORE_CTL, n.val, v ||| 4)
  | .ccFreqWrite k who v => some (who, .PWR_CC_FREQ, k.val, v)
  | .vtgtWrite r who v => some (who, .PWR_REG_CTL, r.val, v &&& 0x7FFFFFFF)
  | .sluiceGo r who v => some (who, .PWR_REG_CTL, r.val, v ||| 0x80000000)
  | .pkgGo who v => some (who, .PWR_PKG_CTL, 0, v ||| 1)
  | .unitReset who v => some (who, .PWR_UNIT_CTL, 0, v ||| 0x10000)
  | .unitFence who v => some (who, .PWR_UNIT_CTL, 0, v ||| 0x20000)
  | .unitUnfence who v => some (who, .PWR_UNIT_CTL, 0, v ||| 0x40000)
  | .unitOut who v => some (who, .PWR_UNIT_CTL, 0, v ||| 0x80000)
  | .traceOn who v => some (who, .PWR_UNIT_CTL, 0, v ||| 0x100000)
  | .traceOff who v => some (who, .PWR_UNIT_CTL, 0, v ||| 0x200000)
  | .portTxq u who v => some (who, .PORT_TXQ, u.val, v)
  | .kick who v => some (who, .FAN_WDT, 0, v ||| 0x80000000)
  | .fanPwmWrite f who v => some (who, .FAN_PWM, f.val, v)
  | .trcCtlWrite who v => some (who, .TRC_CTL, 0, v)
  | .halt n who v => some (who, .DBG_CORE_CTL, n.val, v ||| 1)
  | .dbgResume n who v => some (who, .DBG_CORE_CTL, n.val, v ||| 2)
  | .step n who v => some (who, .DBG_CORE_CTL, n.val, v ||| 4)
  | .dbgCoreDataWrite n hi who v => some (who, if hi then .DBG_CORE_DATA_HI else .DBG_CORE_DATA_LO, n.val, v)
  | .stepEn j who v => some (who, .DBG_LE_CTL, j.val, v)
  | .go j who v => some (who, .DBG_LE_CTL, j.val, v ||| 4)
  | .dbgLeDataWrite j who v => some (who, .DBG_LE_DATA, j.val, v)
  | .debugUnlock who v => some (who, .TRC_DBG_UNLOCK, 0, v ||| 0x80000000)
  | .debugLock who v => some (who, .TRC_DBG_UNLOCK, 0, v ||| 1)
  | .debugBoot who v => some (who, .TRC_DBG_UNLOCK, 0, v ||| 2)
  | _ => none

/-- A register command writes its register when the write is admitted, and changes nothing when the level may not write or the unit does not answer. -/
def Obligations.RegisterCommandsWriteTheirRegister : Prop :=
  ∀ (c : Instr) (s : State) (who : Req) (r : Reg) (i : Nat) (v : W32), c.write = some (who, r, i, v) →
    (s.Admits who r i → exec c s = ((s.engineUp (r.addrOf i)).regWrite who r i none v).wrote) ∧
    (s.gate who (r.addrOf i) true = .reg r i none → r ≠ .CH_CTL → reqRights who < r.desc.wrLvl.num → isPort who = false →
      exec c s = (s.engineUp (r.addrOf i)).wrote) ∧
    (s.gate who (r.addrOf i) true = .bus none → exec c s = .next { s with reply := .busError })

/-- Registers whose write has an effect of its own, as their tables say. -/
def Sys2Proof.Machine.Reg.acting : List Reg :=
  [.IMG_AMD_CTL, .KEEP_CNT_CTL, .KEEP_LC_CTL, .KEEP_JOB_CTL, .TICK_CTL, .PL_CTL, .PL_READMIT, .PL_REG_CMD, .PL_INJ, .LC_LE_CTL, .LC_SPARE_CTL,
   .LC_REC_CTL, .SEQ_CTL, .RAIL_CTL, .RAIL_SETPT, .RAIL_WSHED_LO, .RAIL_WSHED_HI, .LDG_CMD, .CMP_CTL, .CMP_MIG_CTL, .EVD_EOI, .EVD_PMR, .EVD_SWGEN, .EVD_FALLBACK, .EVD_EN_SET,
   .EVD_EN_CLR, .EVD_PEND_SET, .EVD_PEND_CLR, .EVD_SRC_CFG, .MBX_AB_TX, .MBX_BA_TX, .MBX_AB_ACK, .MBX_BA_ACK, .CH_CTL, .CH_OWN, .BSN_FREE, .STL_CTL,
   .STL_BIND, .STL_MBX_MAP, .STL_VIEW_BASE, .STL_VIEW_CNT, .STL_SRC, .STL_WIN_A, .STL_WIN_B, .STL_T_BELL, .STL_T_EN_SET, .STL_T_EN_CLR,
   .STL_T_PEND_CLR, .STL_T_BSN_FREE, .STL_T_LV_CMD, .PWR_CORE_CTL, .PWR_UNIT_CTL, .PWR_CC_FREQ, .PWR_REG_CTL, .PWR_PKG_CTL, .PORT_CTL, .PORT_TXQ,
   .PORT_RAW_CMD, .SW_VLAN, .FAN_PWM, .FAN_WDT, .TRC_CTL, .TRC_DBG_UNLOCK, .DBG_CORE_CTL, .DBG_CORE_DATA_LO, .DBG_CORE_DATA_HI, .DBG_LE_CTL,
   .DBG_LE_DATA]

/-- Registers whose value the part computes, or whose reading does more than clear RC bits. -/
def Sys2Proof.Machine.Reg.computed : List Reg :=
  [.IMG_FLOOR, .KEEP_STATUS, .KEEP_CNT_VAL, .TICK_TB_LO, .TICK_TB_HI, .TICK_COUNT_LO, .TICK_COUNT_HI, .TICK_EDGE_TB_LO, .TICK_EDGE_TB_HI,
   .PL_STATUS, .PL_PRBS_ERR, .PL_PHASE, .LC_LE_STATUS, .SEQ_STATUS, .SEQ_STEP, .RAIL_FAULT_LO, .RAIL_FAULT_HI, .RAIL_STATE, .RAIL_SENSE, .RAIL_IEST, .RAIL_IMEAS, .LDG_OUT, .LDG_PART_STAT0,
   .LDG_PART_STAT1, .CMP_STATUS, .CMP_DIGEST_LO, .CMP_DIGEST_HI, .CMP_PEER_DIGEST_LO, .CMP_PEER_DIGEST_HI, .EVD_PMR, .EVD_RPR, .EVD_STATUS,
   .EVD_EN_CLR, .EVD_PEND_CLR, .EVD_TGT_STAT, .MBX_STATUS, .MBX_AB_ACK, .MBX_BA_ACK, .MBX_AB_RX_STAMP, .MBX_BA_RX_STAMP, .DMA_ENG_STATUS,
   .DMA_RQ_CFG, .CH_STAT, .CH_REM0, .CH_REM12, .CH_BARGE_LO, .CH_BARGE_HI, .CH_XFER, .BSN_POOL_HELD, .STL_CNT, .STL_T_ID, .STL_T_EN_SET,
   .STL_T_EN_CLR, .STL_T_PEND, .STL_T_PEND_CLR, .STL_T_BSN_HELD, .PWR_CORE_STAT, .PWR_PKG_STAT, .TRC_STATUS, .TRC_DBG_STATUS, .DBG_CORE_STAT,
   .DBG_CORE_DATA_LO, .DBG_CORE_DATA_HI, .DBG_LE_STAT, .DBG_LE_DATA, .EVD_ACK, .MBX_AB_RX_DATA, .MBX_BA_RX_DATA, .BSN_POOL_ALLOC, .STL_T_BSN_ALLOC,
   .PORT_RXQ]

/-- Bit b of the value that a write of v leaves, by the access codes (R4, R6). -/
def Sys2Proof.Machine.codeBit (d : RegDesc) (old v : W32) (b : Nat) : Bool :=
  if d.w1s.testBit b then old.getLsbD b || v.getLsbD b
  else if d.w1c.testBit b then old.getLsbD b && !v.getLsbD b
  else if d.rw.testBit b then v.getLsbD b
  else old.getLsbD b

/-- A register of rail i, which no RAIL entry defines (R276). -/
def Sys2Proof.Machine.State.RailAbsent (s : State) (r : Reg) (i : Nat) : Prop :=
  s.railE i = none ∧ r ∈ [Reg.RAIL_STATE, .RAIL_SETPT, .RAIL_CTL, .RAIL_EVT, .RAIL_EVT_EN, .RAIL_SENSE, .RAIL_IEST, .RAIL_IMEAS, .RAIL_WSHED_LO, .RAIL_WSHED_HI, .RAIL_WCNT0, .RAIL_WCNT1]

/-- Any other register is written by its access codes, and a write of it changes no other register instance; a read clears its RC bits and shows its WO bits as 0. -/
def Obligations.PlainRegistersFollowTheirAccessCodes : Prop :=
  ∀ (r : Reg) (i : Nat) (a : BitVec 48) (who : Req) (v : W32) (s : State), a.toNat = r.addrOf i → s.rgn a.toNat = .ctl → a.toNat % 4 = 0 →
    let u := s.engineUp a.toNat
    (r ∉ Reg.acting → s.Admits who r i → ¬u.RailAbsent r i →
      ∃ w : W32, exec (.registerWrite a who v) s = (u.wr r i w).wrote ∧ (∀ b, b < 32 → w.getLsbD b = codeBit r.desc (u.rd r i) v b) ∧
        ∀ r' i', (u.wr r i w).rd r' i' = if r' = r ∧ i' = i then w else u.rd r' i') ∧
    (r ∉ Reg.computed → s.Shows who r i → ¬u.RailAbsent r i →
      ∃ w : W32, exec (.registerReadClear a who) s = (if r.desc.rc = 0 then u else u.wr r i w).showed (u.rd r i &&& ~~~(BitVec.ofNat 32 r.desc.wo)) ∧
        ∀ b, b < 32 → w.getLsbD b = ((u.rd r i).getLsbD b && !r.desc.rc.testBit b)) ∧
    (u.RailAbsent r i → (s.gate who (r.addrOf i) true = .reg r i none → exec (.registerWrite a who v) s = u.wrote) ∧
      (s.Shows who r i → exec (.registerReadClear a who) s = u.showed 0))

/-! ## The keep (chapter 03) -/

/-- What R122 grants: from, to, and the port classes. -/
def Sys2Proof.Machine.lifecycleMoves : List (Nat × Nat × List Nat) :=
  [(0x1, 0x3, [0]), (0x3, 0x7, [0, 1]), (0x1, 0xF, [0, 1]), (0x3, 0xF, [0, 1]), (0x7, 0xF, [0, 1])]

/-- Counter increments and lifecycle moves (R107, R108, R109, R122, R123). -/
def Obligations.CountersAndLifecycleMoveAsGranted : Prop :=
  (∀ (s : State) (who : Req) (v : W32), s.Admits who .KEEP_CNT_CTL 0 → s.keep.incBusy = none → s.keep.lcBusy = none →
    let w := v ||| 0x100
    let u := s.plainWrite .KEEP_CNT_CTL 0 w
    let i := w.toNat % 64
    let cls := w.toNat / 2 ^ 9 % 8
    let code (t : State) (c : Nat) : State := t.pf .KEEP_CNT_STAT 0 F.KEEP_CNT_STAT.CODE c
    exec (.keepCntInc who v) s =
      (if 1 < cls then code u 5
       else if i < 4 ∨ i = 5 ∨ i = 6 ∨ i = 7 then code u 4
       else if i = 4 ∧ s.keep.ctr 4 = s.gf .KEEP_STATUS 0 F.KEEP_STATUS.KEY_SLOT then code u 3
       else if s.keep.ctr i = 0xFFFFFFFF then (code u 2).raise 1242
       else { code u 1 with keep := { s.keep with incBusy := some i } }).wrote) ∧
  (∀ (s : State) (who : Req) (v : W32), s.Admits who .KEEP_LC_CTL 0 → s.keep.incBusy = none → s.keep.lcBusy = none →
    let w := v ||| 0x10
    let u := s.plainWrite .KEEP_LC_CTL 0 w
    let dest := w.toNat % 16
    let cls := w.toNat / 2 ^ 5 % 8
    let granted := ∃ m ∈ lifecycleMoves, m.1 = s.keep.lifecycle ∧ m.2.1 = dest ∧ cls ∈ m.2.2
    (¬granted → exec (.lifecycleGo who v) s = (u.pf .KEEP_CNT_STAT 0 F.KEEP_CNT_STAT.CODE 5).wrote) ∧
    (granted → dest = 0x7 → s.keep.ownerKey = false → exec (.lifecycleGo who v) s = (u.pf .KEEP_CNT_STAT 0 F.KEEP_CNT_STAT.CODE 6).wrote) ∧
    (granted → (dest = 0x7 → s.keep.ownerKey = true) →
      exec (.lifecycleGo who v) s = { u.pf .KEEP_CNT_STAT 0 F.KEEP_CNT_STAT.CODE 1 with keep := { s.keep with lcBusy := some dest } }.wrote)) ∧
  (∀ (s : State) (i : Nat), s.keep.incBusy = some i →
    ∃ t, exec .counterIncrementDone s = .next t ∧ t.keep = { s.keep.setCtr i (s.keep.ctr i + 1) with incBusy := none } ∧
      t.keep.ctr i = s.keep.ctr i + 1 ∧ (∀ j, j ≠ i → t.keep.ctr j = s.keep.ctr j) ∧ t.gf .KEEP_CNT_STAT 0 F.KEEP_CNT_STAT.CODE = 0 ∧ Frame [.keep, .rKEEP] s t) ∧
  (∀ (s : State) (dest : Nat), s.keep.lcBusy = some dest →
    ∃ t, exec .lifecycleFuseWriteDone s = .next t ∧ t.keep = { s.keep with lifecycle := dest, lcBusy := none } ∧ t.keep.lcInForce = s.keep.lcInForce ∧
      t.gf .KEEP_CNT_STAT 0 F.KEEP_CNT_STAT.CODE = 0 ∧ Frame [.keep, .rKEEP] s t) ∧
  (∀ (s : State) (who : Req) (v : W32),
    (s.Admits who .KEEP_CNT_CTL 0 → 1 < v.toNat / 2 ^ 9 % 8 →
      exec (.keepCntInc who v) s = ((s.plainWrite .KEEP_CNT_CTL 0 (v ||| 0x100)).pf .KEEP_CNT_STAT 0 F.KEEP_CNT_STAT.CODE 5).wrote ∧
      exec (.registerWrite 0x200002000010 who v) s = ((s.plainWrite .KEEP_CNT_CTL 0 v).pf .KEEP_CNT_STAT 0 F.KEEP_CNT_STAT.CODE 5).wrote) ∧
    (s.Admits who .KEEP_LC_CTL 0 → 1 < v.toNat / 2 ^ 5 % 8 →
      exec (.lifecycleGo who v) s = ((s.plainWrite .KEEP_LC_CTL 0 (v ||| 0x10)).pf .KEEP_CNT_STAT 0 F.KEEP_CNT_STAT.CODE 5).wrote ∧
      exec (.registerWrite 0x200002000020 who v) s = ((s.plainWrite .KEEP_LC_CTL 0 v).pf .KEEP_CNT_STAT 0 F.KEEP_CNT_STAT.CODE 5).wrote))

/-- The keep job that a command starts: requester and OP (R124). -/
def Sys2Proof.Instr.keepJob : Instr → Option (Req × Nat)
  | .keepJobHash who => some (who, 1)
  | .keepJobEcdsaVerify who => some (who, 2)
  | .keepJobHssVerify who => some (who, 3)
  | .keepJobEcdsaSign who => some (who, 4)
  | .keepJobHssSign who => some (who, 5)
  | .keepJobAesEncrypt who => some (who, 6)
  | .keepJobAesDecrypt who => some (who, 7)
  | .keepJobTrngFill who => some (who, 8)
  | .keepJobMrExtend who => some (who, 9)
  | _ => none

/-- The end of a job: nothing runs, KEEP_JOB_STAT reads DONE with the code, and source 1245 is raised (R123). -/
def Sys2Proof.Machine.State.jobDone (s : State) (code : Nat) : State :=
  (({ s with keep := { s.keep with job := none } }).wr .KEEP_JOB_STAT 0 (BitVec.ofNat 32 (0x80 + code))).raise 1245

/-- What the end of a job writes, by OP: a hash, the MRs and a bound signature, a sealed or an opened message, random bytes (R112, R124). -/
def Sys2Proof.Machine.State.keepOut (s : State) (j : Job) (k x : Bytes) : Option Bytes :=
  match j.op with
  | 1 => some (match j.arg with
    | 0 => dig256 (Config.sha256 x)
    | 1 => dig384 (Config.sha384 x)
    | _ => dig384 (Config.sha3_384 x))
  | 4 => some (s.keep.mrs ++ beBytes 96 (Config.ecdsaSign s.keep.idEc (Config.sha384 (s.keep.mrs ++ x)) s.free).toNat)
  | 5 => some (s.keep.mrs ++ beBytes 3292 (Config.hssSign s.keep.idHss (Config.sha384 (s.keep.mrs ++ x)) j.idx).toNat)
  | 6 => some ((List.range (j.inLen + 16)).map (Config.aesSeal k x))
  | 7 => some ((List.range (j.inLen - 16)).map (Config.aesOpen k x))
  | 8 => some (s.freeBs j.outLen)
  | _ => none

/-- Where job j first reads a memory whose ECC a reader meets, in its input and then in its key: DRAM or the basin; none when it reads neither. -/
def Sys2Proof.Machine.State.jobReads (s : State) (j : Job) : Option Nat :=
  let meets (a : Nat) : Prop := a < s.dramSize ∨ (0x100000000000 ≤ a ∧ a < 0x100002000000)
  if 0 < j.inLen ∧ meets j.inAddr then some j.inAddr else if 0 < keyLen j.op ∧ meets j.keyAddr then some j.keyAddr else none
/-- The state once ECC has found e there: in DRAM a corrected error is counted, an uncorrectable one counted and its address recorded (R546), in the basin counted or shown in POISON (R461); an uncorrectable error poisons the line (log entry 206). -/
def Sys2Proof.Machine.State.jobFound (s : State) (j : Job) (e : Ecc) : State :=
  match s.jobReads j, e with
  | none, _ => s
  | some _, .ok => s
  | some a, .one => if a < s.dramSize then s.inc .MC_ECC (s.chanOf a) F.MC_ECC.CORR 1 else s.inc .BSN_STATUS 0 F.BSN_STATUS.CORR 1
  | some a, .two =>
    if a < s.dramSize then
      let k := s.chanOf a
      (((s.poisonLine a).inc .MC_ECC k F.MC_ECC.UNCORR 1).wr .MC_ERR_ADDR_LO k (BitVec.ofNat 32 a)).wr .MC_ERR_ADDR_HI k (BitVec.ofNat 32 (a / 2 ^ 32))
    else (s.poisonLine a).pb .BSN_STATUS 0 F.BSN_STATUS.POISON true

/-- Keep jobs start with their descriptor and end with what they compute (R111, R112, R116, R117, R123, R124, R546). -/
def Obligations.KeepJobsStartAndEnd : Prop :=
  (∀ (c : Instr) (who : Req) (op : Nat) (s : State) (b : Bytes), c.keepJob = some (who, op) → s.Admits who .KEEP_JOB_CTL 0 → s.keep.job = none →
    s.memRd edReq s.jobAddr 64 = some b → u8 b 0 = op → (jobOf b).code = none →
    (s.memRd edReq (jobOf b).inAddr (jobOf b).inLen).isSome = true → (s.memRd edReq (jobOf b).keyAddr (keyLen op)).isSome = true →
    ((op ≠ 5 ∨ s.keep.trngOk = false) → exec c s = { s with keep := { s.keep with job := some (jobOf b) } }.wrote) ∧
    (op = 5 → s.keep.trngOk = true → s.keep.exhausted = false → s.keep.block.isSome = true → s.keep.hssIdx < 1023 → 0 < s.refill.keep.bucket →
      exec c s = { s.refill with keep := { s.refill.keep with
        job := some { jobOf b with idx := s.keep.block.getD 0 * 1024 + s.keep.hssIdx }, hssIdx := s.keep.hssIdx + 1, bucket := s.refill.keep.bucket - 1 } }.wrote)) ∧
  (∀ (s : State) (j : Job) (k x : Bytes) (e : Ecc), s.keep.job = some j → j.code = none → (j.random = true → s.keep.trngOk = true) →
    s.memRd edReq j.keyAddr (keyLen j.op) = some k → s.memRd edReq j.inAddr j.inLen = some x →
    let u := s.jobFound j e
    (e = .two → (s.jobReads j).isSome = true → exec (.keepJobDone e) s = .next (u.jobDone 6)) ∧
    (e ≠ .two ∨ s.jobReads j = none →
      ((j.op = 2 ∨ j.op = 3) → exec (.keepJobDone e) s = .next (if Config.jobVerify j.op k x = true then { u with free := s.free + 1 }.jobDone 0 else u.jobDone 2)) ∧
      (j.op = 7 → Config.aesTag k x = false → exec (.keepJobDone e) s = .next (u.jobDone 2)) ∧
      (j.op = 9 → exec (.keepJobDone e) s = .next ({ u with keep := { s.keep with mr := tset s.keep.mr j.arg (Config.sha384 (dig384 (s.keep.mrOf j.arg) ++ x)) } }.jobDone 0)) ∧
      (∀ out, s.keepOut j k x = some out → (j.op = 7 → Config.aesTag k x = true) → Memory.wf s.mem = true → 0 < out.length → s.memOpen edReq j.outAddr out.length true = true →
        ∃ t, exec (.keepJobDone e) s = .next t ∧ t.keep = { s.keep with job := none } ∧ t.rd .KEEP_JOB_STAT 0 = 0x80 ∧ t.evPend 1245 = true ∧
          t.mread j.outAddr out.length = out ∧ ∀ a, (a < j.outAddr ∨ j.outAddr + out.length ≤ a) → t.mget a = s.mget a))) ∧
  (∀ (s : State) (j : Job) (e : Ecc), s.keep.job = some j → j.code = none → j.random = true → s.keep.trngOk = false → exec (.keepJobDone e) s = .next s) ∧
  (∀ (s : State) (j : Job) (c : Nat) (e : Ecc), s.keep.job = some j → j.code = some c → exec (.keepJobDone e) s = .next (s.jobDone c))

/-- The responder's answer is r, and nothing else changes. -/
def Sys2Proof.Machine.State.says (s : State) (r : SpdmReply) : Out := .next { s with keep := { s.keep with spdm := r } }

/-- An HSS index and a signature are at hand: the block in use has at least two indexes left, and the refilled bucket is not empty (R116 to R118). -/
def Sys2Proof.Machine.State.canSign (s : State) : Prop :=
  s.keep.trngOk = true ∧ s.keep.exhausted = false ∧ s.keep.block.isSome = true ∧ s.keep.hssIdx < 1023 ∧ 0 < s.refill.keep.bucket

/-- The signed answer in t carries a nonce and the bound ECDSA signature of a digest; the HSS co-signature of the same digest is kept with the nonce; one HSS index and one signature are spent; nothing outside the keep changes (R112, R115 to R117). Nonce and digest of the answer are free. -/
def Sys2Proof.Machine.State.signedAs (s : State) (sid : BitVec 16) (mk : Bytes → Bytes → SpdmReply) (t : State) : Prop :=
  Frame [.keep] s t ∧ t.keep.hssIdx = s.keep.hssIdx + 1 ∧ t.keep.bucket = s.refill.keep.bucket - 1 ∧
    ∃ (nonce d : Bytes) (rnd : Nat),
      t.keep.spdm = mk nonce (beBytes 96 (Config.ecdsaSign s.keep.idEc (Config.sha384 (s.keep.mrs ++ d)) rnd).toNat) ∧
      (t.ses sid).cosign = ((nonce, beBytes 3292 (Config.hssSign s.keep.idHss (Config.sha384 (s.keep.mrs ++ d)) (s.keep.block.getD 0 * 1024 + s.keep.hssIdx)).toNat) :: (s.ses sid).cosign).take 16

/-- A request comes to the responder by a working MCTP port whose class has ATTEST (R114, R120, R538). -/
structure Sys2Proof.Machine.State.SpdmGranted (s : State) (v : SpdmVia) : Prop where
  up : s.spdmUp = true
  port : s.mctpUp v = true
  right : s.attestOk v = true

/-- The SPDM requests. -/
def Sys2Proof.Instr.spdmVia : Instr → Option SpdmVia
  | .getVersion v | .getCapabilities v | .negotiateAlgorithms v _ | .getDigests v | .getCertificate v _ | .challenge v | .getMeasurements v _ _ | .keyExchange v
  | .finish v | .heartbeat v | .keyUpdate v | .endSession v | .lmsCosign v _ => some v
  | _ => none

/-- The responder answers (R110, R112, R114, R115, R117, R118, R120). -/
def Obligations.SpdmResponderAnswers : Prop :=
  (∀ (c : Instr) (s : State) (v : SpdmVia), c.spdmVia = some v →
    (s.spdmUp = false ∨ s.mctpUp v = false → exec c s = .next s) ∧
    (s.spdmUp = true → s.mctpUp v = true → s.attestOk v = false → exec c s = s.says .refused)) ∧
  (∀ (s : State) (v : SpdmVia), s.SpdmGranted v → (s.ses v.sid).established = true →
    exec (.getVersion v) s = s.says .version ∧ exec (.getCapabilities v) s = s.says .capabilities ∧ exec (.getDigests v) s = s.says .digests ∧
    (∀ o, exec (.negotiateAlgorithms v o) s = s.says (if o.ecdsaP384 = true ∧ o.sha384 = true then .algorithms o else .errUnsupported)) ∧
    exec (.getCertificate v 0) s = s.says .certificate ∧ (∀ k, k ≠ 0 → exec (.getCertificate v k) s = s.says .errInvalid) ∧
    (∀ k, exec (.getMeasurements v k false) s = s.says (.measurements k (s.keep.mrOf k) none)) ∧
    (s.keep.trngOk = false → exec (.challenge v) s = .next { s with keep := { s.keep with spdmWait := true } }) ∧
    (s.canSign →
      (∃ t, exec (.challenge v) s = .next t ∧ s.signedAs v.sid .challenge t) ∧
      (∀ k, ∃ t, exec (.getMeasurements v k true) s = .next t ∧ s.signedAs v.sid (fun n g => .measurements k (s.keep.mrOf k) (some (n, g))) t)) ∧
    (s.keep.trngOk = true → s.keep.exhausted = false → s.refill.keep.bucket = 0 →
      ∃ t, exec (.challenge v) s = .next t ∧ t.keep.spdm = .errBusy ∧ t.keep.hssIdx = s.keep.hssIdx ∧ t.keep.cnt = s.keep.cnt) ∧
    (s.keep.trngOk = true → s.keep.exhausted = true →
      ∃ t, exec (.challenge v) s = .next t ∧ t.keep.spdm = .errUnspecified ∧ t.keep.hssIdx = s.keep.hssIdx ∧ t.keep.cnt = s.keep.cnt) ∧
    (∀ (nonce : BitVec 256) (sig : Bytes), (s.ses v.sid).cosign.find? (fun e => e.1 = leBytes 32 nonce.toNat) = some (leBytes 32 nonce.toNat, sig) →
      exec (.lmsCosign v nonce) s = s.says (.cosignature sig)) ∧
    (v.sid ≠ 0 →
      exec (.heartbeat v) s = s.says .heartbeat ∧
      exec (.keyUpdate v) s = { s with keep := { s.keep with sess := tset s.keep.sess v.sid.toNat { s.ses v.sid with keyGen := (s.ses v.sid).keyGen + 1 } } }.says .keyUpdate ∧
      exec (.endSession v) s = { s with keep := { s.keep with sess := tdel s.keep.sess v.sid.toNat } }.says .endSession)) ∧
  (∀ (s : State) (v : SpdmVia), s.SpdmGranted v → v.sid ≠ 0 → (s.ses v.sid).established = false →
    exec (.getVersion v) s = s.says .errInvalid ∧ exec (.challenge v) s = s.says .errInvalid ∧ exec (.heartbeat v) s = s.says .errInvalid ∧
    ((s.ses v.sid).opened = true →
      exec (.finish v) s = { s with keep := { s.keep with sess := tset s.keep.sess v.sid.toNat { s.ses v.sid with established := true } } }.says .finish) ∧
    ((s.ses v.sid).opened = false → s.keep.spdmWait = false → s.canSign →
      ∃ t, exec (.keyExchange v) s = .next t ∧ s.signedAs v.sid .keyExchange t ∧ (t.ses v.sid).opened = true ∧ (t.ses v.sid).established = false)) ∧
  (∀ s : State, ∃ t, exec .trngHealthFail s = .next t ∧ t.keep = { s.keep with trngOk := false } ∧ t.gb .KEEP_STATUS 0 F.KEEP_STATUS.TRNG_FAIL = true ∧
    t.evPend 1243 = true) ∧
  (∀ s : State, s.keep.trngOk = false → s.keep.job = none → s.keep.spdmWait = true →
    exec .norngTimeout s = { s with keep := { s.keep with spdmWait := false } }.says .errUnspecified) ∧
  (∀ (s : State) (j : Job), s.keep.trngOk = false → s.keep.job = some j → j.random = true → j.code = none → s.keep.spdmWait = false →
    exec .norngTimeout s = .next (s.jobDone 5))

/-! ## Amendments (chapter 02) -/

/-- The held amendment is decided with a result: nothing is held, AMD_STATE is idle, source 1232 is raised (R92, R93). -/
def Sys2Proof.Machine.State.decided (s : State) (code sect detail : Nat) : State :=
  (({ s with img := { s.img with held := none } }.pf .IMG_STATUS 0 F.IMG_STATUS.AMD_STATE 0).wr .IMG_AMD_RESULT 0 (BitVec.ofNat 32 (detail * 4096 + sect % 256 * 16 + code))).raise 1232

/-- No region has been powered on for the held amendment (R90). -/
def Sys2Proof.Machine.State.noneBroughtIn (s : State) : Prop :=
  ∀ r, r < 4 → s.inService r = true ∨ bit s.img.draining r = true ∨ s.gf .PWR_REG_STAT r F.PWR_REG_STAT.STATE ≠ 1

/-- The signature block stands, and every signature and key hash of it passes (R61, R62). -/
def Sys2Proof.Machine.State.amdSigned (s : State) (b : Bytes) : Prop := sigBlockOk b (sigOff b) = true ∧ s.sigPass b (sigOff b) = true
/-- An amendment of the right form, with sections that an amendment may hold (R58 to R60, R63). -/
def Sys2Proof.Machine.amdFormed (b : Bytes) : Prop := formatOk b true = true ∧ badType b = none
/-- It was built for the image in force and comes after the last one (R68). -/
def Sys2Proof.Machine.State.amdFresh (s : State) (b : Bytes) : Prop :=
  u32 b 16 = s.gf .IMG_ID 0 F.IMG_ID.VERSION ∧ s.gf .IMG_AMD_SEQ 0 F.IMG_AMD_SEQ.SEQ < u32 b 20
/-- R80: FACTORY and OWNER may amend every section, OPERATOR sources, pools, the ledger and stalls. -/
def Sys2Proof.Machine.amdGranted (cls : Nat) (b : Bytes) : Prop := cls ≤ 1 ∨ (cls = 2 ∧ ∀ r ∈ secRows b, r.type ∈ [tEVT, tBSN, tLDG, tSTL])
/-- R83: a new LE of a moved rail has faulted or overrun, is fenced or out of service or a spare, or the spare of its cluster serves an LE that is none of the rail's old ones. -/
def Sys2Proof.Machine.State.LesConflict (s : State) (x : Struc) : Prop :=
  ∃ r ∈ s.movedRails x, ∃ j ∈ railLes (x.d tRAIL r), j ∉ railLes (s.railD r) ∧
    ((s.leAt j).cause.isSome = true ∨ (s.leAt j).overrun = true ∨ s.leFenced j = true ∨ s.isOut 1 j = true ∨ 32 ≤ j ∨
      ∃ k, (s.lcAt (lcOf j)).spareFor = some k ∧ k ∉ railLes (s.railD r))

/-- Amendments of the image (R62, R68, R72 to R80, R83, R86 to R90, R92, R93). -/
def Obligations.AmendmentsAreHeldDecidedAndCommitted : Prop :=
  (∀ (s : State) (who : Req) (v : W32), s.Admits who .IMG_AMD_CTL 0 → s.pwr.step = none → bit v.toNat 1 = false →
    let u := s.plainWrite .IMG_AMD_CTL 0 (v ||| 1)
    let len := u.gf .IMG_AMD_LEN 0 F.IMG_AMD_LEN.LEN
    let at_ := (u.rd .IMG_AMD_ADDR_LO 0).toNat / 8 * 8 + 2 ^ 32 * u.gf .IMG_AMD_ADDR_HI 0 F.IMG_AMD_ADDR_HI.ADDR
    (u.img.held.isSome = true → exec (.submit who v) s = ((u.wr .IMG_AMD_RESULT 0 9).raise 1232).wrote) ∧
    (u.img.held = none → (0x400000 < len ∨ u.memRd edReq at_ len = none) → exec (.submit who v) s = ((u.wr .IMG_AMD_RESULT 0 2).raise 1232).wrote) ∧
    (∀ b, u.img.held = none → len ≤ 0x400000 → u.memRd edReq at_ len = some b →
      ∃ t, exec (.submit who v) s = .next t ∧ t.reply = .none ∧ t.mem = memPut s.mem s.staging b ∧ t.rd .IMG_AMD_RESULT 0 = 13 ∧
        t.gf .IMG_STATUS 0 F.IMG_STATUS.AMD_STATE = 1 ∧
        t.img = { s.img with held := some { len := len, cls := u.gf .IMG_AMD_CTL 0 F.IMG_AMD_CTL.CLASS, verifyOnly := u.gb .IMG_AMD_CTL 0 F.IMG_AMD_CTL.VERIFY_ONLY, n := none, verified := false, ins := [], staged := false, committed := false } } ∧
        Frame [.reply, .mem, .img, .core, .rIMG] s t)) ∧
  (∀ (s : State) (who : Req) (v : W32) (a : Amend), s.Admits who .IMG_AMD_CTL 0 → bit v.toNat 0 = false → s.img.held = some a →
    let u := s.plainWrite .IMG_AMD_CTL 0 (v ||| 2)
    (a.committed = true → exec (.cancel who v) s = u.wrote) ∧
    (a.committed = false → s.noneBroughtIn → exec (.cancel who v) s = (u.decided 12 0 0).wrote)) ∧
  (∀ (s : State) (a : Amend) (ack settled : Bool) (t : Nat) (x : Struc), s.img.held = some a → a.verified = false → s.noneBroughtIn →
    let b := s.amdBytes a
    let ends (code sect : Nat) : Prop := exec (.amendmentVerifyDone ack settled) s = .next (s.decided code sect 0)
    (sigBlockOk b (sigOff b) = false → ends 2 0) ∧
    (sigBlockOk b (sigOff b) = true → s.sigPass b (sigOff b) = false → ends 1 0) ∧
    (s.amdSigned b → (a.verifyOnly = false ∨ u16 b 6 ≠ 0) →
      (formatOk b true = false → ends 2 0) ∧
      (formatOk b true = true → badType b = some t → ends 4 t) ∧
      (amdFormed b → ¬s.amdFresh b → ends 3 0) ∧
      (amdFormed b → s.amdFresh b → ¬amdGranted a.cls b → ends 10 0) ∧
      (amdFormed b → s.amdFresh b → amdGranted a.cls b →
        (parseStruc b = .error t → ends 5 t) ∧
        (parseStruc b = .ok x → s.amdBad x = some t → ends 5 t) ∧
        (parseStruc b = .ok x → s.amdBad x = none →
          (s.isLate (u64 b 24) = true → ends 8 0) ∧
          (s.isLate (u64 b 24) = false →
            (a.verifyOnly = true → ends 0 0) ∧
            (a.verifyOnly = false → ack = false ∨ settled = false → s.regionsIn (mergeStruc s.img.sec x) ≠ [] → ends 11 0) ∧
            (a.verifyOnly = false → ack = true → settled = true →
              ∃ u, exec (.amendmentVerifyDone ack settled) s = .next u ∧ u.img.sec = s.img.sec ∧ u.tick = s.tick ∧ u.rail = s.rail ∧
                (∀ q ∈ s.regionsIn (mergeStruc s.img.sec x), u.gf .PWR_REG_STAT q F.PWR_REG_STAT.STATE = 1) ∧
                u.img.held = some { a with verified := true, ins := s.regionsIn (mergeStruc s.img.sec x), n := if u64 b 24 = 0 then none else some (u64 b 24) }))))) ∧
    (s.amdSigned b → a.verifyOnly = true → u16 b 6 = 0 →
      ((sectionsOk b && holdsAll b) = false → ends 2 0) ∧
      ((sectionsOk b && holdsAll b) = true → u32 b 8 < s.keep.ctr 2 → ends 3 0) ∧
      ((sectionsOk b && holdsAll b) = true → s.keep.ctr 2 ≤ u32 b 8 →
        (parseStruc b = .error t → ends 5 t) ∧
        (parseStruc b = .ok x → structBad x x (fun j => (x.ent tLOOP j).isSome) = some t → ends 5 t) ∧
        (parseStruc b = .ok x → structBad x x (fun j => (x.ent tLOOP j).isSome) = none → ends 0 0)))) ∧
  (∀ (s : State) (a : Amend), s.img.held = some a → a.verified = true → a.staged = false →
    (s.isLate (a.n.getD 0) = true → s.noneBroughtIn → exec .amendmentStageDone s = .next (s.decided 8 0 0)) ∧
    (s.isLate (a.n.getD 0) = false →
      exec .amendmentStageDone s = .next { s.pf .IMG_STATUS 0 F.IMG_STATUS.AMD_STATE 2 with img := { s.img with held := some { a with staged := true } } })) ∧
  (∀ (s : State) (a : Amend), (∀ c, c < 4 → (s.lcAt c).release = false) → s.img.held = some a → a.staged = true → a.committed = false →
    let amd := amdStruc (s.amdBytes a)
    let x := mergeStruc s.img.sec amd
    let u : State := { s with img := { s.img with cpAt := s.tick.count } }
    let due := a.n = none ∨ a.n = some (s.tick.count + 1)
    (∀ n, a.n = some n → n ≠ s.tick.count + 1 → exec .commitPoint s = .next u) ∧
    (due → s.amdBusy amd x ≠ 0 → s.noneBroughtIn → exec .commitPoint s = .next (u.decided 6 0 (s.amdBusy amd x))) ∧
    (due → s.amdBusy amd x = 0 →
      (∀ t, s.amdBad amd = some t → s.noneBroughtIn → exec .commitPoint s = .next (u.decided 5 t 0)) ∧
      (s.amdBad amd = none → s.roleOk amd = false → s.noneBroughtIn → exec .commitPoint s = .next (u.decided 5 tCMP 0)) ∧
      (s.amdBad amd = none → s.roleOk amd = true → s.LesConflict x → s.noneBroughtIn → exec .commitPoint s = .next (u.decided 7 0 0)) ∧
      (s.amdBad amd = none → s.roleOk amd = true → ¬s.LesConflict x → exec .commitPoint s =
        .next { u.pf .IMG_STATUS 0 F.IMG_STATUS.AMD_STATE 3 with img := { u.img with
          hold := (s.regionsOut x).foldl (fun m r => m + 2 ^ r) 0, held := some { a with committed := true, n := some (s.tick.count + 1) } } }.withdraw))) ∧
  (∀ (s : State) (r : Fin 4), bit s.img.draining r = true →
    (s.inService r = false →
      ∃ t, exec (.regionDrainDone r) s = .next t ∧ t.img = { s.img with draining := setBit s.img.draining r false } ∧ t.gf .PWR_REG_STAT r F.PWR_REG_STAT.STATE = 0 ∧
        t.gf .PWR_REG_STAT r F.PWR_REG_STAT.VCUR = 0 ∧ bit (t.gf .IMG_STATUS 0 F.IMG_STATUS.DRAIN) r = false ∧
        (∀ i, i < 8 → (t.cor (8 * r + i)).st = .c3 ∧ (t.leAt (8 * r + i)).st = .out) ∧ (t.leAt (32 + r)).st = .out ∧
        ∀ a, regionMem r a = false → t.mget a = s.mget a) ∧
    (s.inService r = true →
      exec (.regionDrainDone r) s = .next { s.pf .IMG_STATUS 0 F.IMG_STATUS.DRAIN (setBit (s.gf .IMG_STATUS 0 F.IMG_STATUS.DRAIN) r false) with
        img := { s.img with draining := setBit s.img.draining r false } }))

/-! ## Resets, start-up, wake and fault fencing (chapters 01, 03, 17) -/

/-- What PORST_N leaves, or a supply out of range (R95, R96, R106, R109, R122, R526, R573). -/
structure Sys2Proof.Machine.State.PowerOnReset (s t : State) (supply : Bool) : Prop where
  queue : t.pending = s.pending
  pins : t.pins.porst = true ∧ t.pins.supply = supply ∧ t.pins.sysrst = s.pins.sysrst ∧ t.pins.railFaultForced = true ∧ t.pins.tickOut = false ∧ t.pins.plOn = false
  regs : ∀ r i, r ∉ stickyRegs → t.rd r i = State.reset.rd r i
  sticky : ∀ r i, r ∈ stickyRegs → t.rd r i = s.rd r i
  fuses : t.keep.fuses = s.keep.fuses
  secret : t.keep.devSecret = if t.keep.lifecycle = 0xF then 0 else s.keep.devSecret
  ctr : ∀ i, t.keep.ctr i = s.keep.ctr i ∨ s.keep.incBusy = some i ∧ t.keep.ctr i = s.keep.ctr i + 1
  life : t.keep.lifecycle = s.keep.lifecycle ∨ s.keep.lcBusy = some t.keep.lifecycle
  force : t.keep.lcInForce = t.keep.lifecycle
  mr : ∀ i, t.keep.mrOf i = 0
  boot : t.keep.boot = .reset ∧ t.tick.count = 0 ∧ t.img = State.reset.img ∧ t.mem = State.reset.mem ∧ t.evd = State.reset.evd
  stages : t.stage = s.stage

/-- Resets and the boot (R13, R26, R27, R67, R69, R95 to R104, R109, R131, R432, R521, R523, R526, R573). -/
def Obligations.ResetsWakesAndFaultsActOnTheWholePart : Prop :=
  (∀ s : State, s.pins.porst = false → s.pins.supply = false → ∃ t, exec .porstNAssert s = .next t ∧ s.PowerOnReset t false) ∧
  (∀ (s : State) (n : Supply), s.pins.porst = false → ∃ t, exec (.supplyOutOfRange n) s = .next t ∧ s.PowerOnReset t true) ∧
  (∀ (s : State) (b : BootMedia), s.pins.supply = true →
    exec (.porstNRelease b) s = .next s ∧ exec .porstNAssert s = .next { s with pins := { s.pins with supply := false } }) ∧
  (∀ (s : State) (b : BootMedia), s.pins.porst = true → s.pins.supply = false →
    (s.pins.sysrst = true → exec (.porstNRelease b) s = .next { s with pins := { s.pins with porst := false, railFaultForced := false }, keep := { s.keep with boot := .held } }) ∧
    (s.pins.sysrst = false → firstCopy (s.objOk 1 0) 0 (b.loaders.take 4) = none →
      ∃ t, exec (.porstNRelease b) s = .next t ∧ t.keep.boot = .waitLoader ∧ t.pins.alertBoot = true ∧ t.pins.porst = false ∧ t.pins.railFaultForced = false ∧
        t.keep.mrOf 0 = Config.sha384 (dig384 (s.keep.mrOf 0) ++ dig384 s.keep.romDigest) ∧ (t.keep.idEc, t.keep.idHss) = s.keep.derive ∧ Frame [.keep, .pins, .rKEEP] s t) ∧
    (∀ i l, s.pins.sysrst = false → firstCopy (s.objOk 1 0) 0 (b.loaders.take 4) = some (i, l) →
      ∃ t, exec (.porstNRelease b) s = .next t ∧ t.keep.loaderRun = l ∧ t.pins.porst = false ∧ (t.keep.idEc, t.keep.idHss) = s.keep.derive ∧
        t.keep.mrOf 1 = Config.sha384 (dig384 (s.keep.mrOf 1) ++ dig384 (Config.sha384 (l.take (u32 l 24)))) ∧
        (t.keep.boot = .waitObject ∧ t.pins.alertBoot = true ∨ t.keep.boot = .refused ∨ t.keep.boot = .applied))) ∧
  (∀ (s : State) (blk : Bytes) (crc : W32) (f : BootFlash) (b : BootSite), (Instr.uartLoaderBlock blk crc f b).wf = true →
    (s.keep.boot = .waitLoader ∨ s.keep.boot = .waitObject) → s.keep.lcInForce ≠ 0xF →
    (crc32 blk ≠ crc.toNat → exec (.uartLoaderBlock blk crc f b) s = .next s) ∧
    (∀ n, crc32 blk = crc.toNat → objLen (s.keep.uart ++ blk) = some n → (s.keep.uart ++ blk).length < n →
      exec (.uartLoaderBlock blk crc f b) s = .next { s with keep := { s.keep with uart := s.keep.uart ++ blk } }) ∧
    (∀ n, s.keep.boot = .waitLoader → crc32 blk = crc.toNat → objLen (s.keep.uart ++ blk) = some n → n ≤ (s.keep.uart ++ blk).length →
      s.objOk 1 0 ((s.keep.uart ++ blk).take n) = true →
      ∃ t, exec (.uartLoaderBlock blk crc f b) s = .next t ∧ t.keep.loaderRun = (s.keep.uart ++ blk).take n ∧ t.gb .KEEP_STATUS 0 F.KEEP_STATUS.RECOVERY = true ∧ t.keep.uart = [])) ∧
  (∀ s : State, s.keep.boot = .applied → s.gb .TICK_STATUS 0 F.TICK_STATUS.STOPPED = false → s.tick.dark = false →
    ∃ t, exec .tickStart s = .next t ∧ t.keep.boot = .running ∧ t.tick.count = 1 ∧ t.tick.edgeTb = t.tick.tb ∧ s.tick.tb ≤ t.tick.tb ∧
      t.gb .IMG_STATUS 0 F.IMG_STATUS.LOADED = true ∧ t.gb .TICK_STATUS 0 F.TICK_STATUS.RUNNING = true ∧
      t.keep.ctr 0 = max (s.keep.ctr 0) s.img.floors.1 ∧ t.keep.ctr 1 = max (s.keep.ctr 1) s.img.floors.2.1 ∧ t.keep.ctr 2 = max (s.keep.ctr 2) s.img.floors.2.2) ∧
  (∀ s : State, s.pins.porst = false → (s.keep.boot = .applied ∨ s.keep.boot = .running) → s.pwr.asleep ≠ 2 → s.noneBroughtIn →
    ∃ t, exec .sysrstNAssert s = .next t ∧ t.pins = { s.pins with sysrst := true } ∧ (∀ n, n < 32 → (t.cor n).st = .c3) ∧ t.l2 = [] ∧ t.dma.ch = [] ∧ t.dma.out = [] ∧
      (∀ m ba, m < 128 → t.mbxWords m ba = []) ∧ (∀ i, t.rd .CH_STAT i = State.reset.rd .CH_STAT i) ∧
      t.keep = s.keep ∧ t.tick = s.tick ∧ t.le = s.le ∧ t.rail = s.rail ∧ t.ldg = s.ldg ∧ t.cmp = s.cmp ∧ t.stage = s.stage) ∧
  (∀ (s : State) (b : BootMedia) (r : Fin 4), s.pins.sysrst = true → s.pins.porst = false →
    (s.keep.boot = .applied ∨ s.keep.boot = .running ∧ s.pwr.asleep = 0) → s.inService r = true → bit s.img.hold r = false →
    (∀ q, q < r.val → s.inService q = false ∨ bit s.img.hold q = true) →
    ∃ t, exec (.sysrstNRelease b) s = .next t ∧ t.pins.sysrst = false ∧ (t.cor (8 * r)).pc = s.fwEntry ∧ t.keep = s.keep) ∧
  (∀ (s : State) (w : WakeSrc) (f : DramCopies) (m : BootMedia), s.pins.porst = false → (s.pwr.asleep ≠ 0 ∨ s.pwr.step.isSome = true) → w ≠ .stood →
    (s.wakeBit w = none → exec (.packageWake w f m) s = .next s) ∧
    (∀ b, s.wakeBit w = some b → s.getB .PWR_WAKE_EN 0 b = false → exec (.packageWake w f m) s = .next s) ∧
    (∀ b k, s.wakeBit w = some b → s.getB .PWR_WAKE_EN 0 b = true → s.pwr.step = some k → k ≠ 6 → s.pwr.asleep = 0 → (s.pwr.target = 2 → b < 3) →
      ∃ t, exec (.packageWake w f m) s = .next t ∧ t.pwr = { s.pwr with abort := true } ∧ t.getB .PWR_WAKE_CAUSE 0 b = true ∧ Frame [.pwr, .ext, .rPWR] s t) ∧
    (∀ b y d, s.wakeBit w = some b → s.getB .PWR_WAKE_EN 0 b = true → s.pwr.asleep = 1 → s.pwr.step = none → s.pwr.stby = some y → s.pwr.digest = some d →
      Config.sha384 f.image = d.1 → Config.sha384 f.firmware = d.2.1 → Config.sha384 f.record = d.2.2 → s.gb .TICK_STATUS 0 F.TICK_STATUS.STOPPED = false →
      ∃ t, exec (.packageWake w f m) s = .next t ∧ t.pwr.asleep = 0 ∧ t.pwr.stby = none ∧ t.img.sec = y.sec ∧ t.getB .PWR_WAKE_CAUSE 0 b = true ∧
        t.gf .PWR_PKG_STAT 0 F.PWR_PKG_STAT.STATE = 3 ∧ t.tick = { s.tick with lightDue := some true } ∧ t.keep = s.keep ∧ t.rail = s.rail) ∧
    (∀ b y d, s.wakeBit w = some b → s.getB .PWR_WAKE_EN 0 b = true → s.pwr.asleep = 1 → s.pwr.step = none → s.pwr.stby = some y → s.pwr.digest = some d →
      (Config.sha384 f.image ≠ d.1 ∨ Config.sha384 f.firmware ≠ d.2.1 ∨ Config.sha384 f.record ≠ d.2.2) → firstCopy (s.objOk 1 0) 0 (m.loaders.take 4) = none →
      ∃ t, exec (.packageWake w f m) s = .next t ∧ t.keep.boot = .waitLoader ∧ t.gb .PWR_LAST 0 F.PWR_LAST.DIGEST = true ∧ t.gf .PWR_PKG_STAT 0 F.PWR_PKG_STAT.STATE = 3) ∧
    (∀ b, s.wakeBit w = some b → s.getB .PWR_WAKE_EN 0 b = true → s.pwr.asleep = 2 → s.pwr.step = none → s.pwr.stby = none →
      (3 ≤ b → exec (.packageWake w f m) s = .next s) ∧
      (b < 3 → firstCopy (s.objOk 1 0) 0 (m.loaders.take 4) = none →
        ∃ t, exec (.packageWake w f m) s = .next t ∧ t.keep.boot = .waitLoader ∧ t.getB .PWR_WAKE_CAUSE 0 b = true ∧ t.gf .PWR_PKG_STAT 0 F.PWR_PKG_STAT.STATE = 3 ∧
          t.keep.cnt = s.keep.cnt ∧ t.keep.fuses = s.keep.fuses))) ∧
  (∀ (s : State) (err : BitVec 16) (x : EdgeIn), s.gb .TICK_STATUS 0 F.TICK_STATUS.STOPPED = false → s.tick.dark = true → s.tick.refclk = true → s.tick.lightDue = some true →
    ∃ t, exec (.tickEdge err x) s = .next t ∧ t.tick.count = s.tick.count + 1 ∧ t.tick.dark = false ∧ t.tick.lightDue = none ∧
      t.gf .PWR_PKG_STAT 0 F.PWR_PKG_STAT.STATE = 0 ∧ t.evPend 1221 = true) ∧
  (∀ (s : State) (r : Fin 4), ∃ t, exec (.vcoreOutOfRange r) s = .next t ∧ (∀ i, i < 8 → t.fenced 0 (8 * r + i) = true) ∧ t.fenced 3 r = true ∧ t.fenced 4 r = true ∧ t.evPend (1216 + r) = true) ∧
  (∀ (s : State) (j : Fin 36), ∃ t, exec (.uncorrectableFault (.unit 1 j)) s = .next t ∧ t.fenced 1 j = true ∧ (t.leAt j).st = .fenced ∧ t.evPend (128 + j) = true ∧
    (t.leAt j).cmd = (s.leAt j).cmd.filter (fun e => e.2.released)) ∧
  (∀ (s : State) (n : Fin 32), ∃ t, exec (.uncorrectableFault (.unit 0 n)) s = .next t ∧ t.fenced 0 n = true ∧ t.evPend (1216 + n / 8) = true ∧ Frame [.unit, .core, .evd, .pwr, .rEVD, .rPWR] s t) ∧
  (∀ (s : State) (k : Fin 8), ∃ t, exec (.uncorrectableFault (.l2 k)) s = .next t ∧ (∀ i, i < 4 → t.fenced 0 (4 * k + i) = true) ∧ t.evPend (1216 + k / 2) = true ∧
    Frame [.unit, .core, .evd, .pwr, .rEVD, .rPWR] s t) ∧
  (∀ (s : State) (r : Fin 4) (u : FaultUnit), u = .unit 3 r ∨ u = .unit 4 r ∨ u = .regionFabric r →
    ∃ t, exec (.uncorrectableFault u) s = .next t ∧ (∀ i, i < 8 → t.fenced 0 (8 * r + i) = true) ∧ t.fenced 3 r = true ∧ t.fenced 4 r = true ∧ t.evPend (1216 + r) = true ∧
      Frame [.unit, .core, .evd, .pwr, .rEVD, .rPWR] s t) ∧
  (∀ (s : State) (c : Fin 4) (u : FaultUnit), u = .unit 2 c ∨ u = .sharedLoop c →
    ((s.lcAt c).fenced = true → exec (.uncorrectableFault u) s = .next s) ∧
    ((s.lcAt c).fenced = false → ∃ t, exec (.uncorrectableFault u) s = .next t ∧ (t.lcAt c).fenced = true ∧ t.evPend (1228 + c) = true ∧ t.cmp = { s.cmp with yield := true } ∧
      (∀ j, j / 8 = c.val ∧ j < 32 ∨ j = 32 + c.val → (t.leAt j).st = .fenced ∧ (t.leAt j).cmd = (s.leAt j).cmd.filter (fun e => e.2.released)) ∧
      Frame [.le, .lc, .cmp, .core, .evd, .pwr, .rEVD, .rPWR] s t)) ∧
  (∀ (s : State) (k : Fin 16) (i : BitVec 12) (e : Nat), 5 ≤ k.val → i.toNat < kindCount k → unitSource k i.toNat = some e →
    ∃ t, exec (.uncorrectableFault (.unit k i)) s = .next t ∧ t.fenced k i.toNat = true ∧ t.evPend e = true ∧ Frame [.core, .evd, .pwr, .unit, .rEVD, .rPWR, .rPL] s t)

/-! ## The tick (chapter 04) -/

/-- An edge of a running tick at which no unit action waits, no granted join is due and no amendment is committed. -/
structure Sys2Proof.Machine.State.PlainEdge (s : State) : Prop where
  ticks : s.ticking = true
  lit : s.tick.dark = false
  join : s.cmp.joinAt = none
  act : s.pwr.act = none
  amend : ∀ a, s.img.held = some a → a.committed = false

/-- At loop cluster c no action of LC_LE_CTL waits, and no RELEASE is granted. -/
structure Sys2Proof.Machine.State.LcQuiet (s : State) (c : Nat) : Prop where
  pend : ∀ j, lcOf j = c → j < 36 → (s.leAt j).pend = (false, false, false)
  rel : (s.lcAt c).releaseOk = false

/-- LE j calls for the spare at the edge (R231): its rail has OVERRUN_TAKEOVER, and it overran or faulted, but for ECC, in the tick that ends and not in debug step mode. -/
def Sys2Proof.Machine.State.callsSpare (s : State) (j : Nat) : Prop :=
  ∃ r g, s.leRail j = some (r, g) ∧ s.takeoverOf r = true ∧ (s.leAt j).started = true ∧ ((s.leAt j).overrun = true ∨ (s.leAt j).cause.isSome = true) ∧
    (s.leAt j).cause ≠ some cECC ∧ s.leStepMode j = false

/-- The package starts its LEs at the edge (R303). -/
def Sys2Proof.Machine.State.startsLes (t : State) : Prop := t.cmp.act ≠ .joining ∧ t.cmp.act ≠ .blocked

/-- LE j runs from the start of its program (R202, R207). -/
def Sys2Proof.Machine.LoopEngine.fromZero (x : LoopEngine) : Prop :=
  x.st = .run ∧ x.pc = 0#11 ∧ x.lc0 = 0 ∧ x.lc1 = 0 ∧ x.cyc = 0 ∧ x.cmd = [] ∧ x.wait = none ∧ x.started = true ∧ x.overrun = false ∧ x.cause = none

/-- The tick and its sources (R79, R81, R89, R93, R129 to R132, R137, R138, R202, R207, R231 to R235, R240, R272 to R274, R303, R321, R324, R522). -/
def Obligations.TickEdgesCountAndSourcesAreFollowed : Prop :=
  (∀ (s : State) (err : BitVec 16) (x : EdgeIn), s.ticking = true → s.tick.dark = false → s.cmp.joinAt = none →
    ∃ t, exec (.tickEdge err x) s = .next t ∧ t.tick.count = s.tick.count + 1 ∧ t.tick.tb = max s.tick.tb t.tick.edgeTb ∧
      t.tick.edgeTb = s.tick.edgeTb + (if s.onTickIn ≠ s.tick.wasIn then s.tlen + x.adj.val - 1
        else if s.onTickIn = true ∧ 48 < sgn 16 (s.rd .TICK_PHERR 0).toNat then s.tlen - 1
        else if s.onTickIn = true ∧ sgn 16 (s.rd .TICK_PHERR 0).toNat < -48 then s.tlen + 1 else s.tlen) ∧
      ((s.onTickIn = false ∨ t.onTickIn = false) → t.rd .TICK_PHERR 0 = 0) ∧
      (s.onTickIn = true → t.onTickIn = true → s.img.held = none → s.cmp.dual = false → t.rd .TICK_PHERR 0 = BitVec.ofNat 32 err.toNat) ∧
      t.gb .TICK_STATUS 0 F.TICK_STATUS.RUNNING = true ∧
      (s.onTickIn = true → 48 < err.toInt.natAbs → t.gb .TICK_STATUS 0 F.TICK_STATUS.ALIGNED = false ∧ t.evPend 1226 = true)) ∧
  (∀ (s : State) (err : BitVec 16) (x : EdgeIn), s.gb .TICK_STATUS 0 F.TICK_STATUS.STOPPED = false → s.tick.dark = true → s.tick.lightDue = none →
    let e := s.tick.edgeTb + s.tlen
    (s.tick.refclk = true → exec (.tickEdge err x) s =
      .next { s with tick := { s.tick with count := s.tick.count + 1, tb := s.tick.tb + 48 * ((e - s.tick.tb + 47) / 48), edgeTb := e } }) ∧
    (s.tick.refclk = false → exec (.tickEdge err x) s = .next s)) ∧
  (∀ (s : State) (err : BitVec 16) (x : EdgeIn) (j : Nat), s.PlainEdge → j < 36 → s.LcQuiet (lcOf j) → (∀ k, k < 32 → lcOf k = lcOf j → ¬s.callsSpare k) →
    ∃ t, exec (.tickEdge err x) s = .next t ∧
      (t.startsLes → (s.leServes j).isSome = true → s.leOut j = false → s.leFenced j = false → s.server (s.served j) = j → s.leStepMode j = false → (t.leAt j).fromZero) ∧
      (¬t.startsLes ∨ s.leServes j = none → (t.leAt j).started = false)) ∧
  (∀ (s : State) (err : BitVec 16) (x : EdgeIn) (j : Nat) (rst fnc unf : Bool), s.PlainEdge → j < 36 → (s.leAt j).pend = (rst, fnc, unf) → s.isOut 1 j = false →
    ∃ t, exec (.tickEdge err x) s = .next t ∧ (t.leAt j).pend = (false, false, false) ∧
      t.fenced 1 j = (if unf = true then false else fnc || s.fenced 1 j) ∧
      (fnc = true → unf = false → s.leOut j = false → (t.leAt j).st = .fenced ∧ (t.leAt j).started = false) ∧
      (rst = true → (t.leAt j).k = [] ∧ (t.leAt j).m = [] ∧ (t.leAt j).p = [])) ∧
  (∀ (s : State) (err : BitVec 16) (x : EdgeIn) (j : Nat), s.PlainEdge → j < 32 → s.LcQuiet (lcOf j) → s.callsSpare j → (∀ k, k < j → lcOf k = lcOf j → ¬s.callsSpare k) →
    s.leOut j = false → s.leFenced j = false → (s.lcAt (lcOf j)).spareFor = none → s.leFenced (32 + lcOf j) = false → s.leOut (32 + lcOf j) = false →
    let p := 32 + lcOf j
    ∃ t, exec (.tickEdge err x) s = .next t ∧ (t.lcAt (lcOf j)).spareFor = some j ∧ (t.leAt j).st = .replaced ∧ (t.leAt p).bank = (s.leAt j).bank ∧ (t.leAt p).nq = (s.leAt j).nq ∧
      (t.leAt p).k = [] ∧ (t.leAt p).m = [] ∧ (t.leAt p).p = [] ∧ t.gb .LC_STATUS (lcOf j) F.LC_STATUS.SPARE_BUSY = true ∧ t.gf .LC_STATUS (lcOf j) F.LC_STATUS.SPARE_FOR = j % 8 ∧
      t.getB .LC_EVT (lcOf j) 1 = true ∧ (t.startsLes → s.leStepMode p = false → (t.leAt p).fromZero) ∧
      (∀ r g b n, s.leRail j = some (r, g) → (s.rl r).hrec = some (b, n) → s.paired = false → Memory.wf s.mem = true → (∀ q c m, (s.rl q).hrec = some (c, m) → c.length = 24) →
        t.mread (leLocal j + 0xFFE0) b.length = b ∧ (t.leAt p).hage = BitVec.ofNat 32 ((s.tick.count + 1 - n) % 65536))) ∧
  (∀ (s : State) (err : BitVec 16) (x : EdgeIn) (j : Nat), s.PlainEdge → j < 32 → (s.lcAt (lcOf j)).spareFor = some j → (s.lcAt (lcOf j)).releaseOk = true →
    (∀ k, lcOf k = lcOf j → k < 36 → (s.leAt k).pend = (false, false, false)) → (∀ k, k < 32 → lcOf k = lcOf j → ¬s.callsSpare k) →
    ∃ t, exec (.tickEdge err x) s = .next t ∧ (t.lcAt (lcOf j)).spareFor = none ∧ (t.leAt j).nq = (s.leAt (32 + lcOf j)).nq ∧
      t.gb .LC_STATUS (lcOf j) F.LC_STATUS.SPARE_BUSY = false ∧ t.getB .LC_EVT (lcOf j) 2 = true ∧
      (t.startsLes → (s.leRail j).isSome = true → s.leOut j = false → s.leFenced j = false → s.leStepMode j = false → (t.leAt j).fromZero)) ∧
  (∀ (s : State) (err : BitVec 16) (x : EdgeIn) (r : Nat), s.PlainEdge → s.rails.count r = 1 → s.copies = false → (s.rl r).offNext = false →
    let ramp := u16 (s.seqD (s.stepOf r)) 10
    let rate := u16 (s.railD r) 14
    let sp := (s.rl r).s
    let tg := s.target r
    ∃ t, exec (.tickEdge err x) s = .next t ∧ (t.copies = false →
      ((s.rl r).st = .ramp → (t.rl r).s = min (sp + ramp) tg) ∧
      ((s.rl r).st = .regulate → (t.rl r).s = if sp < tg then min (sp + rate) tg else max (sp - rate) tg) ∧
      ((s.rl r).st = .down → (sp ≤ ramp → (t.rl r).st = .off ∧ (t.rl r).s = 0) ∧ (ramp < sp → (t.rl r).s = sp - ramp)))) ∧
  (∀ (s : State) (err : BitVec 16) (x : EdgeIn) (a : Amend), s.ticking = true → s.tick.dark = false → s.cmp.joinAt = none → s.pwr.act = none →
    s.img.held = some a → a.committed = true → a.n = some (s.tick.count + 1) → a.len ≤ 0x400000 → s.staging + 2 ^ 22 ≤ leLocal 0 →
    let b := s.amdBytes a
    let amd := amdStruc b
    let y := mergeStruc s.img.sec amd
    let h := Config.sha384 (b.take (sigOff b))
    ∃ t, exec (.tickEdge err x) s = .next t ∧ t.img.held = none ∧ t.img.hold = 0 ∧ t.img.sec = y ∧ t.gf .IMG_STATUS 0 F.IMG_STATUS.AMD_STATE = 0 ∧
      t.rd .IMG_AMD_RESULT 0 = 0 ∧ t.evPend 1232 = true ∧ t.rd .IMG_AMD_SEQ 0 = BitVec.ofNat 32 (u32 b 20) ∧
      t.rd .IMG_AMD_APPLIED_LO 0 = BitVec.ofNat 32 (s.tick.count + 1) ∧ t.rd .IMG_AMD_APPLIED_HI 0 = BitVec.ofNat 32 ((s.tick.count + 1) / 2 ^ 32) ∧
      t.keep.mrOf 4 = Config.sha384 (dig384 (s.keep.mrOf 4) ++ dig384 h) ∧
      (∀ r, r < 4 → (y.serves r = true → t.inService r = true) ∧ (y.serves r = false → t.inService r = false) ∧
        (s.inService r = true → y.serves r = false → bit t.img.draining r = true ∧ bit (t.gf .IMG_STATUS 0 F.IMG_STATUS.DRAIN) r = true)) ∧
      (∀ j e, j < 32 → amd.ent tLOOP j = some e → (t.leAt j).bank = s.otherBank j) ∧
      (∀ r j c n, s.movedRails y = [r] → j ∈ railLes (y.d tRAIL r) → (∀ k, k ∈ railLes (y.d tRAIL r) → k < 32) → (s.rl r).hrec = some (c, n) → c.length = 24 → Memory.wf s.mem = true →
        t.mread (leLocal j + 0xFFE0) c.length = c ∧ (t.leAt j).hage = BitVec.ofNat 32 ((s.tick.count + 1 - n) % 65536))) ∧
  (∀ s : State, s.onTickIn = true → exec .tickPllLockLoss s = .next s) ∧
  (∀ s : State, s.gb .TICK_STATUS 0 F.TICK_STATUS.LOCKED = true → s.gb .TICK_STATUS 0 F.TICK_STATUS.STOPPED = false → s.onTickIn = false → s.tick.dark = false →
    ∃ t, exec .tickPllLockLoss s = .next t ∧ t.gb .TICK_STATUS 0 F.TICK_STATUS.LOCKED = false ∧ t.gb .TICK_STATUS 0 F.TICK_STATUS.RUNNING = false ∧
      t.gb .TICK_STATUS 0 F.TICK_STATUS.STOPPED = true ∧ t.ticking = false ∧ t.evPend 1224 = true ∧
      t.pins = { s.pins with railFaultForced := true, tickOut := false, plOn := false } ∧
      (∀ j, t.leAt j = { s.leAt j with st := if (s.leAt j).st = .run ∨ (s.leAt j).st = .wait then .stopped else (s.leAt j).st }) ∧
      Frame [.pins, .le, .core, .evd, .pwr, .rTICK, .rEVD, .rPWR] s t) ∧
  (∀ s : State,
    let drives := s.tick.tickIn = true ∧ s.cmp.role = 2 ∧ s.follow = true ∧ s.cmp.act = .driving ∧ s.ticking = true
    (s.onTickIn = false → ¬drives → exec .tickInLost s = .next { s with tick := { s.tick with tickIn := false } }) ∧
    (s.onTickIn = false → drives → ∃ t, exec .tickInLost s = .next t ∧ t.onTickIn = false ∧ t.gb .TICK_STATUS 0 F.TICK_STATUS.HOLDOVER = true ∧ t.evPend 1225 = true ∧
      t.tick = { s.tick with tickIn := false } ∧ Frame [.tick, .core, .evd, .pwr, .rTICK, .rEVD, .rPWR] s t) ∧
    (s.onTickIn = true → ∃ t, exec .tickInLost s = .next t ∧ t.onTickIn = false ∧ t.gb .TICK_STATUS 0 F.TICK_STATUS.HOLDOVER = true ∧
      t.gb .TICK_STATUS 0 F.TICK_STATUS.ALIGNED = false ∧ t.rd .TICK_PHERR 0 = 0 ∧ t.evPend 1225 = true ∧ t.tick = { s.tick with tickIn := false, alignRun := 0 } ∧
      t.cmp.act = (if s.cmp.role ≠ 0 ∧ s.cmp.act = .shadow then .detached else s.cmp.act) ∧
      (s.cmp.act = .joining → t.cmp.joinAt = none ∧ t.cmp.counted = false ∧ t.cmp.joinRun = 0) ∧ Frame [.tick, .cmp, .core, .evd, .pwr, .rTICK, .rEVD, .rPWR] s t)) ∧
  (∀ s : State,
    (s.cmp.role ≠ 2 → exec .tickInReturn s = .next { s with tick := { s.tick with tickIn := true } }) ∧
    (s.ticking = true → s.cmp.role = 2 → s.follow = true → s.cmp.act ≠ .driving → s.onTickIn = false →
      ∃ t, exec .tickInReturn s = .next t ∧ t.onTickIn = true ∧ t.gb .TICK_STATUS 0 F.TICK_STATUS.HOLDOVER = false ∧
        t.tick = { s.tick with tickIn := true, alignRun := 0 } ∧ Frame [.tick, .rTICK] s t)) ∧
  (∀ s : State, exec .refclkLoss s = .next { s with tick := { s.tick with refclk := false } } ∧
    exec .refclkReturn s = .next { s with tick := { s.tick with refclk := true } })

/-! ## Sense channels and hint ports (chapter 07) -/

/-- The register that holds a channel's saturation bit (R248). -/
def Sys2Proof.Machine.satReg (ch : Nat) : Reg := if ch < 32 then .ADC_SAT_LO else if ch < 64 then .ADC_SAT_HI else .ADC_SAT_AUX

/-- The code of four conversions with the tick that it belongs to (R246, R247). -/
def Sys2Proof.Machine.State.convWord (s : State) (c : Conv) : W32 :=
  BitVec.ofNat 32 (s.tick.count % 2 ^ 8 * 2 ^ 24 + (c.c1.toNat + c.c2.toNat + c.c3.toNat + c.c4.toNat + 2) / 4)

/-- The code of a sample: the rounded mean of four conversions (R246). -/
def Sys2Proof.Conv.code (c : Conv) : Nat := (c.c1.toNat + c.c2.toNat + c.c3.toNat + c.c4.toNat + 2) / 4

/-- Six characters received without an error, TYPE 00 and the CRC matching (R251). -/
def Sys2Proof.HintRx.good (x : HintRx) : Prop :=
  x.bad = false ∧ hintChar x.b 0 < 64 ∧ crc8 ((List.range 5).map (hintChar x.b)) = hintChar x.b 5

/-- Sense channels and hint ports (R246 to R254, R262). -/
def Obligations.SenseChannelsAndHintPortsDeliver : Prop :=
  (∀ (s : State) (rs : List Conv) (aux : Conv), rs.length = 64 → s.tick.dark = true → exec (.senseSampleReady rs aux) s = .next s) ∧
  (∀ (s : State) (rs : List Conv) (aux : Conv), rs.length = 64 → s.tick.dark = false →
    ∃ t, exec (.senseSampleReady rs aux) s = .next t ∧
      (∀ n c, rs[n]? = some c → t.rd .ADC_RS n = if s.fenced 8 n = true then s.rd .ADC_RS n else s.convWord c) ∧
      t.rd .ADC_AUX (s.tick.count % 16) = (if s.fenced 8 (64 + s.tick.count % 16) = true then s.rd .ADC_AUX (s.tick.count % 16) else s.convWord aux) ∧
      (∀ i, i ≠ s.tick.count % 16 → t.rd .ADC_AUX i = s.rd .ADC_AUX i) ∧
      (∀ r i, r ≠ .ADC_RS → r ≠ .ADC_AUX → Reg.block r = .rADC → t.rd r i = s.rd r i) ∧
      Frame [.port, .rail, .seq, .adc, .core, .evd, .pwr, .rRAIL, .rADC, .rEVD, .rPWR] s t) ∧
  (∀ (s : State) (rs : List Conv) (aux c : Conv) (r : Nat), rs.length = 64 → s.tick.dark = false → s.copies = false → r ∈ s.rails → (s.rl r).st.live = true →
    let n := u8 (s.railD r) 2
    let w := s.weirD r
    let code := c.code
    rs[n]? = some c → s.fenced 8 n = false → (∀ q, q ∈ s.rails → u8 (s.railD q) 2 = n → q = r) →
    (u16 w 2 < code → ∃ t, exec (.senseSampleReady rs aux) s = .next t ∧ (t.rl r).st = .fault ∧ (t.rl r).cause = 1 ∧ (t.rl r).pg = false ∧ t.getB .RAIL_EVT r 0 = true) ∧
    (code ≤ u16 w 2 → code < u16 w 4 → (s.rl r).st = .regulate →
      (∀ q d, q ∈ s.rails → q ≠ r → rs[u8 (s.railD q) 2]? = some d → d.code ≤ u16 (s.weirD q) 2 ∧ u16 (s.weirD q) 4 ≤ d.code) →
      ((s.rl r).uvRun + 1 < u8 w 6 → ∃ t, exec (.senseSampleReady rs aux) s = .next t ∧ (t.rl r).uvRun = (s.rl r).uvRun + 1 ∧ (t.rl r).st = .regulate) ∧
      (u8 w 6 ≤ (s.rl r).uvRun + 1 → ∃ t, exec (.senseSampleReady rs aux) s = .next t ∧ t.getB .RAIL_EVT r 3 = true ∧
        (bit (u8 w 1) 0 = true → (t.rl r).st = .fault ∧ (t.rl r).cause = 2) ∧ (bit (u8 w 1) 0 = false → (t.rl r).st = .regulate)))) ∧
  (∀ (s : State) (ch : Fin 80), 8 ≤ tget 0 s.adc.satRun ch → s.getB (satReg ch) 0 (ch % 32) = false →
    ∃ t, exec (.adcSaturation ch) s = .next t ∧ t.rd (satReg ch) 0 = s.rd (satReg ch) 0 ||| BitVec.ofNat 32 (2 ^ (ch.val % 32)) ∧
      t.evPend (if ch.val < 64 then 180 + ch / 8 else 188) = true ∧ Frame [.adc, .core, .evd, .pwr, .rADC, .rEVD, .rPWR] s t) ∧
  (∀ (s : State) (h : Fin 8) (x : HintRx), s.hintOn h = true → s.gb .HINT_CTL h F.HINT_CTL.EN = true → s.fenced 7 h = false → s.tick.dark = false →
    let r := hintChar x.b 0 % 64
    (¬x.good → exec (.hintNotice h x) s = .next (s.inc .HINT_DROP0 h F.HINT_DROP0.CODE 1)) ∧
    (x.good → ((s.railE r).isNone = true ∨ bit (u8 (s.railD r) 17) h = false) →
      ∃ t, exec (.hintNotice h x) s = .next t ∧ t.rd .HINT_DROP1 h = (s.inc .HINT_DROP1 h F.HINT_DROP1.UNBOUND 1).rd .HINT_DROP1 h ∧
        s.EventSet t .HINT_EVT .HINT_EVT_EN h 3 (172 + h) ∧ Frame [.core, .evd, .pwr, .trc, .rRAIL, .rEVD, .rPWR, .rTRC] s t) ∧
    (x.good → (s.railE r).isSome = true → bit (u8 (s.railD r) 17) h = true → (tget Hint.init s.hint h).lastTick = some s.tick.count →
      ∃ t, exec (.hintNotice h x) s = .next t ∧ t.rd .HINT_DROP0 h = (s.inc .HINT_DROP0 h F.HINT_DROP0.RATE 1).rd .HINT_DROP0 h ∧
        s.EventSet t .HINT_EVT .HINT_EVT_EN h 2 (172 + h) ∧ Frame [.core, .evd, .pwr, .trc, .rRAIL, .rEVD, .rPWR, .rTRC] s t) ∧
    (x.good → (s.railE r).isSome = true → bit (u8 (s.railD r) 17) h = true → (tget Hint.init s.hint h).lastTick ≠ some s.tick.count →
      ∃ t n, exec (.hintNotice h x) s = .next t ∧ t.rd .HINT_ACC h = (s.inc .HINT_ACC h F.HINT_ACC.COUNT 1).rd .HINT_ACC h ∧
        (tget Hint.init t.hint h).lastTick = some s.tick.count ∧
        n.step = max (-(u16 (s.weirD r) 20 : Int)) (min (u16 (s.weirD r) 20 : Int) (sgn 16 (hintChar x.b 1 * 256 + hintChar x.b 2))) ∧
        n.lead = min (hintChar x.b 3 * 256 + hintChar x.b 4) (u16 (s.weirD r) 22) ∧ n.tick = s.tick.count ∧ n.ns = x.ns ∧
        (∀ j, j ∈ s.serversOf r → (t.leAt j).nq.getLast? = some n) ∧ (∀ j, j ∉ s.serversOf r → t.leAt j = s.leAt j) ∧
        Frame [.le, .hint, .rRAIL] s t)) ∧
  (∀ (s : State) (h : Fin 8),
    (s.hintOn h = true → s.gb .HINT_STAT h F.HINT_STAT.LINK = false →
      ∃ t, exec (.hintLinkUp h) s = .next t ∧ t.gb .HINT_STAT h F.HINT_STAT.LINK = true ∧ s.EventSet t .HINT_EVT .HINT_EVT_EN h 1 (172 + h) ∧ t.le = s.le) ∧
    (s.gb .HINT_STAT h F.HINT_STAT.LINK = true →
      ∃ t, exec (.hintLinkDown h) s = .next t ∧ t.gb .HINT_STAT h F.HINT_STAT.LINK = false ∧ s.EventSet t .HINT_EVT .HINT_EVT_EN h 0 (172 + h) ∧ t.le = s.le))

/-! ## Loop engines (chapter 06) -/

/-- The format of an LE instruction's word: the engine, the word, what ECC found in the fetch, the bits that R215 shows as 0, and whether R224 forbids it at the end word of an active loop. -/
def Sys2Proof.Instr.leForm : Instr → Option (Fin 36 × BitVec 26 × Ecc × Nat × Bool)
  | .leNop j w f => some (j, w, f, 0x3FFFFFF, false)
  | .leAdd j w f | .leSub j w f | .leAnd j w f | .leOr j w f | .leXor j w f | .leShl j w f | .leShr j w f | .leSra j w f | .leMin j w f | .leMax j w f
  | .leClamp j w f => some (j, w, f, 0x3FFF, false)
  | .leAddi j w f => some (j, w, f, 0, false)
  | .leMovi j w f => some (j, w, f, 0x3C0000, false)
  | .leMovhi j w f => some (j, w, f, 0x3F0000, false)
  | .leMov j w f | .leAbs j w f | .leNeg j w f => some (j, w, f, 0x3FFFF, false)
  | .leShli j w f | .leShri j w f | .leSrai j w f => some (j, w, f, 0x3FFE0, false)
  | .leMulq j w f => some (j, w, f, 0x1FF, false)
  | .leMac j w f | .leMsu j w f => some (j, w, f, 0xC03FFF, false)
  | .leMclr j w f => some (j, w, f, 0xFFFFFF, false)
  | .leMld j w f | .leMrd j w f => some (j, w, f, 0xC3C1FF, false)
  | .leMadd j w f => some (j, w, f, 0x3FFFFF, false)
  | .leLd j w f _ | .leLdh j w f _ | .leSth j w f _ | .leLdp j w f _ | .leSt j w f | .leStp j w f => some (j, w, f, 0x40000, false)
  | .lePset j w f => some (j, w, f, 0x700000, false)
  | .lePadd j w f => some (j, w, f, 0x7C0000, false)
  | .lePmov j w f => some (j, w, f, 0x43FFFF, false)
  | .lePrd j w f => some (j, w, f, 0x7FFFF, false)
  | .leRsr j w f => some (j, w, f, 0x3FFFF0, false)
  | .leWsr j w f | .lePub j w f => some (j, w, f, 0x3C3FFF0, false)
  | .leRdn j w f => some (j, w, f, 0x3FFFFF, false)
  | .leBeq j w f | .leBne j w f | .leBlt j w f | .leBge j w f | .leLoop j w f => some (j, w, f, 0, true)
  | .leB j w f => some (j, w, f, 0x3FC0000, true)
  | .leJal j w f => some (j, w, f, 0x3C0000, true)
  | .leJr j w f => some (j, w, f, 0x3C3FFFF, true)
  | .leWaits j w f => some (j, w, f, 0x1FFF8, false)
  | .leRds j w f => some (j, w, f, 0x18FC0, false)
  | .leSendp j w f => some (j, w, f, 0x3FC0, false)
  | .leCommit j w f | .leEnd j w f => some (j, w, f, 0x3FFFFFF, false)
  | .leEvp j w f => some (j, w, f, 0x3FFFF00, false)
  | _ => none

/-- An access to LE memory that ECC finds as `f`: a corrected error sets LS bit 3 and counts (R198). -/
def Sys2Proof.Machine.State.leSeen (s : State) (j : Nat) (f : Ecc) : State :=
  if f = .one then (s.setLe j { s.leAt j with ls := (s.leAt j).ls ||| 8 }).inc .LC_LE_STATUS (leIdx j) F.LC_LE_STATUS.ECC1 1 else s

/-- LE j executes the instruction i: it runs before the deadline, the word was fetched and is not one that the copy into the loop buffer marked, and its format is right (R142, R195, R198, R215, R224). -/
structure Sys2Proof.Machine.State.LeGoes (s : State) (i : Instr) (j : Fin 36) (w : BitVec 26) (f : Ecc) : Prop where
  form : ∃ m x, i.leForm = some (j, w, f, m, x) ∧ w.toNat &&& m = 0 ∧ (x = true → (s.leAt j).atEnd = false)
  run : (s.leAt j).st = .run
  time : (s.leAt j).cyc + 30 < s.tlen
  mark : (s.leAt j).marked = false
  ecc : f ≠ .two

/-- LE j has completed an instruction in one cycle with these registers: the loop test of R223 gives the next PC. -/
def Sys2Proof.Machine.State.leDone (s : State) (j : Nat) (x : LoopEngine) : Out :=
  .next (s.setLe j { x.fall with cyc := x.cyc + 1 })

/-- LE j has faulted with a cause: R229, and R225 on what is recorded. -/
structure Sys2Proof.Machine.State.LeFaults (s t : State) (j c : Nat) : Prop where
  st : (t.leAt j).st = if c = cECC then .fenced else .stopped
  cause : (t.leAt j).cause = some c
  regs : (t.leAt j).k = (s.leAt j).k ∧ (t.leAt j).m = (s.leAt j).m ∧ (t.leAt j).p = (s.leAt j).p ∧ (t.leAt j).pc = (s.leAt j).pc
  cmd : (t.leAt j).cmd = (s.leAt j).cmd.filter (fun e => e.2.released)
  others : ∀ i, i ≠ j → t.leAt i = s.leAt i
  record : s.gb .LC_LE_FAULT (leIdx j) F.LC_LE_FAULT.VALID = false →
    t.rd .LC_LE_FAULT (leIdx j) = BitVec.ofNat 32 (2 ^ 31 + c * 2 ^ 16 + (s.leAt j).pc.toNat) ∧
    t.rd .LC_LE_FAULT_LC0 (leIdx j) = (s.leAt j).lc0 ∧ t.rd .LC_LE_FAULT_LC1 (leIdx j) = (s.leAt j).lc1 ∧
    t.rd .LC_LE_FAULT_TICK_LO (leIdx j) = BitVec.ofNat 32 s.tick.count ∧ t.rd .LC_LE_FAULT_TICK_HI (leIdx j) = BitVec.ofNat 32 (s.tick.count / 2 ^ 32)
  kept : s.gb .LC_LE_FAULT (leIdx j) F.LC_LE_FAULT.VALID = true → t.rd .LC_LE_FAULT (leIdx j) = s.rd .LC_LE_FAULT (leIdx j)
  count : t.gf .LC_LE_FAULT_CNT (leIdx j) F.LC_LE_FAULT_CNT.COUNT = min F.LC_LE_FAULT_CNT.COUNT.max (s.gf .LC_LE_FAULT_CNT (leIdx j) F.LC_LE_FAULT_CNT.COUNT + 1)
  raised : t.evPend (128 + j) = true ∧ t.evPend (164 + lcOf j) = true
  fence : c = cECC → t.fenced 1 j = true
  frame : Frame [.unit, .le, .cmp, .core, .evd, .pwr, .rLC, .rEVD, .rPWR] s t

/-- The exact result of an LE instruction whose destination is a data register, with the register (R216). -/
def Sys2Proof.Instr.leK (x : LoopEngine) : Instr → Option (Nat × Int)
  | .leAdd _ w _ => some (wD w.toNat, (x.a w.toNat).toInt + (x.b w.toNat).toInt)
  | .leSub _ w _ => some (wD w.toNat, (x.a w.toNat).toInt - (x.b w.toNat).toInt)
  | .leAddi _ w _ => some (wD w.toNat, (x.a w.toNat).toInt + (w.setWidth 18).toInt)
  | .leAnd _ w _ => some (wD w.toNat, (x.a w.toNat &&& x.b w.toNat).toInt)
  | .leOr _ w _ => some (wD w.toNat, (x.a w.toNat ||| x.b w.toNat).toInt)
  | .leXor _ w _ => some (wD w.toNat, (x.a w.toNat ^^^ x.b w.toNat).toInt)
  | .leMovi _ w _ => some (wD w.toNat, (w.setWidth 18).toInt)
  | .leMovhi _ w _ => some (wD w.toNat, (w.setWidth 16 ++ (x.kg (wD w.toNat)).setWidth 16 : BitVec 32).toInt)
  | .leMov _ w _ => some (wD w.toNat, (x.a w.toNat).toInt)
  | .leShl _ w _ => some (wD w.toNat, (x.a w.toNat).toInt * 2 ^ ((x.b w.toNat).toNat % 32))
  | .leShr _ w _ => some (wD w.toNat, (x.a w.toNat >>> ((x.b w.toNat).toNat % 32)).toInt)
  | .leSra _ w _ => some (wD w.toNat, (x.a w.toNat).toInt / 2 ^ ((x.b w.toNat).toNat % 32))
  | .leShli _ w _ => some (wD w.toNat, (x.a w.toNat).toInt * 2 ^ (w.toNat % 32))
  | .leShri _ w _ => some (wD w.toNat, (x.a w.toNat >>> (w.toNat % 32)).toInt)
  | .leSrai _ w _ => some (wD w.toNat, (x.a w.toNat).toInt / 2 ^ (w.toNat % 32))
  | .leMin _ w _ => some (wD w.toNat, Min.min (x.a w.toNat).toInt (x.b w.toNat).toInt)
  | .leMax _ w _ => some (wD w.toNat, Max.max (x.a w.toNat).toInt (x.b w.toNat).toInt)
  | .leClamp _ w _ => some (wD w.toNat, if (x.b w.toNat).toInt < (x.a w.toNat).toInt then (x.a w.toNat).toInt
      else Min.min (Max.max (x.kg (wD w.toNat)).toInt (x.a w.toNat).toInt) (x.b w.toNat).toInt)
  | .leAbs _ w _ => some (wD w.toNat, Max.max (x.a w.toNat).toInt (-(x.a w.toNat).toInt))
  | .leNeg _ w _ => some (wD w.toNat, -(x.a w.toNat).toInt)
  | .leMulq _ w _ => some (wD w.toNat, rndShift ((x.a w.toNat).toInt * (x.b w.toNat).toInt) (wSh w.toNat))
  | .leMrd _ w _ => some (wA w.toNat, rndShift (x.mg (wM w.toNat)).toInt (wSh w.toNat))
  | .lePrd _ w _ => some (wD w.toNat, (x.pg (wP w.toNat)).toNat)
  | _ => none

/-- Instructions with a data-register result (R198, R216, R217, R223, R229). -/
def Obligations.LoopEngineResultsGoToDataRegisters : Prop :=
  ∀ (i : Instr) (s : State) (j : Fin 36) (w : BitVec 26) (f : Ecc) (d : Nat) (v : Int), s.LeGoes i j w f → i.leK (s.leAt j) = some (d, v) →
    let u := s.leSeen j f
    (-2 ^ 31 ≤ v → v < 2 ^ 31 → exec i s = u.leDone j ((u.leAt j).ks d (BitVec.ofInt 32 v))) ∧
    (2 ^ 31 ≤ v → (s.leAt j).sat = true → exec i s = u.leDone j ({ u.leAt j with ls := (u.leAt j).ls ||| 1 }.ks d 0x7FFFFFFF)) ∧
    (v < -2 ^ 31 → (s.leAt j).sat = true → exec i s = u.leDone j ({ u.leAt j with ls := (u.leAt j).ls ||| 1 }.ks d 0x80000000)) ∧
    (¬(-2 ^ 31 ≤ v ∧ v < 2 ^ 31) → (s.leAt j).sat = false → ∃ t, exec i s = .next t ∧ u.LeFaults t j cOVERFLOW)

/-- The exact result of an LE instruction whose destination is an accumulator and that obeys R217, with the accumulator. -/
def Sys2Proof.Instr.leM (x : LoopEngine) : Instr → Option (Nat × Int)
  | .leMac _ w _ => some (wM w.toNat, (x.mg (wM w.toNat)).toInt + (x.a w.toNat).toInt * (x.b w.toNat).toInt)
  | .leMsu _ w _ => some (wM w.toNat, (x.mg (wM w.toNat)).toInt - (x.a w.toNat).toInt * (x.b w.toNat).toInt)
  | .leMadd _ w _ => some (wM w.toNat, (x.mg (wM w.toNat)).toInt + (x.mg (wMb w.toNat)).toInt)
  | _ => none

/-- What an LE instruction that always completes leaves in the engine's registers (R201, R216, R221, R227). -/
def Sys2Proof.Instr.leR (s : State) (j : Nat) (x : LoopEngine) : Instr → Option LoopEngine
  | .leNop .. => some x
  | .leMclr _ w _ => some (x.ms (wM w.toNat) 0)
  | .leMld _ w _ => some (x.ms (wM w.toNat) ((x.a w.toNat).signExtend 72 <<< wSh w.toNat))
  | .lePset _ w _ => some (x.ps (wP2 w.toNat) (w.setWidth 20))
  | .lePadd _ w _ => some (x.ps (wP2 w.toNat) (x.pg (wP2 w.toNat) + (w.setWidth 18).signExtend 20))
  | .lePmov _ w _ => some (x.ps (wP2 w.toNat) ((x.a w.toNat).setWidth 20))
  | .lePub _ w _ => some { x with pubs := tset x.pubs (w.toNat % 16) (x.a w.toNat) }
  | .leRdn _ w _ => match x.nq with
    | n :: r => some ({ x with nq := r, firstNotice := some (x.firstNotice.getD (s.noticeWord n x.cyc)) }.ks (wD w.toNat) (s.noticeWord n x.cyc))
    | [] => some (x.ks (wD w.toNat) 0)
  | .leRsr _ w _ => if w.toNat % 16 = 15 then none else some (x.ks (wD w.toNat) ((s.leSr j x (w.toNat % 16)).getD 0))
  | .leWsr _ w _ => match w.toNat % 16 with
    | 6 => some { x with sat := bit (x.a w.toNat).toNat 0 }
    | 7 => some { x with ls := (x.a w.toNat).setWidth 5 }
    | 8 => some { x with lc0 := x.a w.toNat }
    | 9 => some { x with lc1 := x.a w.toNat }
    | 10 => some { x with le0 := x.a w.toNat &&& 0x07FF07FF }
    | 11 => some { x with le1 := x.a w.toNat &&& 0x07FF07FF }
    | _ => none
  | _ => none

/-- Accumulators, pointers, special registers, notices, publications and codes (R201, R216, R217, R221, R227, R228). -/
def Obligations.LoopEngineAccumulatorsPointersAndSpecialRegisters : Prop :=
  (∀ (i : Instr) (s : State) (j : Fin 36) (w : BitVec 26) (f : Ecc) (d : Nat) (v : Int), s.LeGoes i j w f → i.leM (s.leAt j) = some (d, v) →
    let u := s.leSeen j f
    (-2 ^ 71 ≤ v → v < 2 ^ 71 → exec i s = u.leDone j ((u.leAt j).ms d (BitVec.ofInt 72 v))) ∧
    (¬(-2 ^ 71 ≤ v ∧ v < 2 ^ 71) → (s.leAt j).sat = true →
      exec i s = u.leDone j ({ u.leAt j with ls := (u.leAt j).ls ||| 1 }.ms d (BitVec.ofInt 72 (max (-2 ^ 71) (min (2 ^ 71 - 1) v))))) ∧
    (¬(-2 ^ 71 ≤ v ∧ v < 2 ^ 71) → (s.leAt j).sat = false → ∃ t, exec i s = .next t ∧ u.LeFaults t j cOVERFLOW)) ∧
  (∀ (i : Instr) (s : State) (j : Fin 36) (w : BitVec 26) (f : Ecc) (y : LoopEngine), s.LeGoes i j w f →
    i.leR (s.leSeen j f) j ((s.leSeen j f).leAt j) = some y → exec i s = (s.leSeen j f).leDone j y) ∧
  (∀ (s : State) (j : Fin 36) (x : LoopEngine),
    s.leSr j x 0 = some (BitVec.ofNat 32 x.cyc) ∧ s.leSr j x 1 = some (BitVec.ofNat 32 s.tick.count) ∧ s.leSr j x 2 = some (BitVec.ofNat 32 (s.tick.count / 2 ^ 32)) ∧
    s.leSr j x 5 = some x.hage ∧ s.leSr j x 7 = some (x.ls.setWidth 32) ∧ s.leSr j x 8 = some x.lc0 ∧ s.leSr j x 9 = some x.lc1 ∧
    s.leSr j x 10 = some x.le0 ∧ s.leSr j x 11 = some x.le1 ∧ s.leSr j x 12 = some (BitVec.ofNat 32 x.nq.length) ∧ s.leSr j x 14 = some (BitVec.ofNat 32 s.tlen)) ∧
  (∀ (i : Instr) (s : State) (j : Fin 36) (w : BitVec 26) (f : Ecc), s.LeGoes i j w f →
    (i = .leRsr j w f ∧ w.toNat % 16 = 15 ∨ i = .leWsr j w f ∧ (w.toNat % 16 < 6 ∨ 11 < w.toNat % 16)) →
    ∃ t, exec i s = .next t ∧ (s.leSeen j f).LeFaults t j cILLEGAL) ∧
  (∀ (s : State) (j : Fin 36) (w : BitVec 26) (f : Ecc), s.LeGoes (.leEvp j w f) j w f →
    let u := s.leSeen j f
    ∃ t, exec (.leEvp j w f) s = .next t ∧ t.evPend (128 + j) = true ∧ t.gf .LC_LE_EVT (leIdx j) F.LC_LE_EVT.CODE = w.toNat % 256 ∧
      t.gf .LC_LE_EVT (leIdx j) F.LC_LE_EVT.COUNT = min F.LC_LE_EVT.COUNT.max (s.gf .LC_LE_EVT (leIdx j) F.LC_LE_EVT.COUNT + 1) ∧
      t.leAt j = { (u.leAt j).fall with cyc := (s.leAt j).cyc + 1 } ∧ Frame [.le, .core, .evd, .pwr, .rLC, .rEVD, .rPWR] s t)

/-- Faults of an LE instruction that write nothing (R198, R215, R224, R225, R229). -/
def Obligations.LoopEngineIllFormedWordsFault : Prop :=
  (∀ (i : Instr) (s : State) (j : Fin 36) (w : BitVec 26) (f : Ecc) (m : Nat) (xfer : Bool), i.leForm = some (j, w, f, m, xfer) →
    (s.leRuns j = false → exec i s = .next s) ∧
    (s.leRuns j = true → f = .two ∨ (s.leAt j).marked = true → ∃ t, exec i s = .next t ∧ s.LeFaults t j cECC) ∧
    (s.leRuns j = true → (s.leAt j).marked = false → f ≠ .two → (w.toNat &&& m ≠ 0 ∨ xfer = true ∧ (s.leAt j).atEnd = true) →
      ∃ t, exec i s = .next t ∧ (s.leSeen j f).LeFaults t j cILLEGAL)) ∧
  (∀ (s : State) (j : Fin 36), s.pending = [] →
    let u : State := { s with tick := { s.tick with tb := s.idleTb } }
    let t := u.leIllegal j
    u.leReserved j = true → (u.leAt j).marked = false → (∀ k, k ≠ j → u.leReserved k = false ∧ t.leReserved k = false) → (∀ n, t.coreReserved n = false) →
      step s = .next t ∧ u.LeFaults t j cILLEGAL)

/-- The access of an LE memory instruction: address, store, halfword, data register, pointer step, and what ECC finds in the data word (R216). -/
structure Sys2Proof.LeAcc where
  addr : Nat
  store : Bool
  half : Bool
  d : Nat
  post : Option (Nat × Nat)
  ecc : Ecc

def Sys2Proof.Instr.leAcc (x : LoopEngine) : Instr → Option LeAcc
  | .leLd _ w _ e => some ⟨(x.pg (wP w.toNat) + (w.setWidth 18).signExtend 20).toNat, false, false, wD w.toNat, none, e⟩
  | .leSt _ w _ => some ⟨(x.pg (wP w.toNat) + (w.setWidth 18).signExtend 20).toNat, true, false, wD w.toNat, none, .ok⟩
  | .leLdh _ w _ e => some ⟨(x.pg (wP w.toNat) + (w.setWidth 18).signExtend 20).toNat, false, true, wD w.toNat, none, e⟩
  | .leSth _ w _ e => some ⟨(x.pg (wP w.toNat) + (w.setWidth 18).signExtend 20).toNat, true, true, wD w.toNat, none, e⟩
  | .leLdp _ w _ e => some ⟨(x.pg (wP w.toNat)).toNat, false, false, wD w.toNat, some (wP w.toNat, ((w.setWidth 18).signExtend 20 : BitVec 20).toNat), e⟩
  | .leStp _ w _ => some ⟨(x.pg (wP w.toNat)).toNat, true, false, wD w.toNat, some (wP w.toNat, ((w.setWidth 18).signExtend 20 : BitVec 20).toNat), .ok⟩
  | _ => none

def Sys2Proof.LeAcc.size (a : LeAcc) : Nat := if a.half then 2 else 4
/-- The access reads the word through ECC: all but a word store. -/
def Sys2Proof.LeAcc.reads (a : LeAcc) : Bool := !(a.store && !a.half)
/-- LDP and STP move their pointer after the access. -/
def Sys2Proof.LeAcc.moved (a : LeAcc) (x : LoopEngine) : LoopEngine :=
  match a.post with
  | some (p, i) => x.ps p (x.pg p + BitVec.ofNat 20 i)
  | none => x
/-- The number loaded: a word, or a halfword with its sign. -/
def Sys2Proof.Machine.State.leLoaded (s : State) (pa : Nat) (half : Bool) : W32 :=
  if half then (BitVec.ofNat 16 (s.mnum pa 2)).signExtend 32 else BitVec.ofNat 32 (s.mnum pa 4)
/-- The offset window of shared memory that LE j may store to (R203). -/
def Sys2Proof.Machine.State.leWindow (s : State) (j off n : Nat) : Prop :=
  let w := s.rd .LC_LE_SHWIN (leIdx (s.served j))
  4096 * F.LC_LE_SHWIN.BASE.get w ≤ off ∧ off + n ≤ 4096 * F.LC_LE_SHWIN.BASE.get w + 4096 * F.LC_LE_SHWIN.LEN.get w

/-- Loads and stores of an LE (R196, R198, R203, R216). -/
def Obligations.LoopEngineLoadsAndStores : Prop :=
  (∀ (i : Instr) (s : State) (j : Fin 36) (w : BitVec 26) (f : Ecc) (a : LeAcc), s.LeGoes i j w f → i.leAcc (s.leAt j) = some a →
    let u := s.leSeen j f
    let v := if a.reads = true then u.leSeen j a.ecc else u
    let x := v.leAt j
    let pa := 0x110000000000 + 0x10000 * s.served j + a.addr
    ((a.addr % a.size ≠ 0 ∨ a.addr < 0x4000 ∨ 0x10000 ≤ a.addr ∧ a.addr < 0x80000 ∨ 0x80000 ≤ a.addr ∧ a.store = true ∧ ¬u.leWindow j (a.addr - 0x80000) a.size) →
      ∃ t, exec i s = .next t ∧ u.LeFaults t j cBOUND) ∧
    (a.addr % a.size = 0 → 0x4000 ≤ a.addr → a.addr < 0x10000 →
      (a.reads = true → a.ecc = .two → ∃ t, exec i s = .next t ∧ u.LeFaults t j cECC) ∧
      ((a.reads = true → a.ecc ≠ .two) →
        (a.store = false → exec i s = v.leDone j (a.moved (x.ks a.d (s.leLoaded pa a.half)))) ∧
        (a.store = true → exec i s = (v.mput pa (leBytes a.size (x.kg a.d).toNat)).leDone j (a.moved x) ∧
          (Memory.wf s.mem = true → ∀ t, exec i s = .next t →
            (∀ b, b < pa ∨ pa + a.size ≤ b → t.mget b = s.mget b) ∧ t.mnum pa a.size = (x.kg a.d).toNat % 2 ^ (8 * a.size))))) ∧
    (a.addr % a.size = 0 → 0x80000 ≤ a.addr → (a.store = true → u.leWindow j (a.addr - 0x80000) a.size) →
      exec i s = .next (u.setLe j { u.leAt j with st := .wait, sh := some { store := a.store, half := a.half, d := a.d, addr := 0x110001000000 + 0x80000 * lcOf j + (a.addr - 0x80000), data := (u.leAt j).kg a.d, post := a.post } }))) ∧
  (∀ (s : State) (j : Fin 36) (n : Nat) (e : Ecc) (y : ShAcc), (s.leAt j).sh = some y → (s.leAt j).st = .wait → 0 < n → (s.leAt j).cyc + n + 30 ≤ s.tlen →
    let k : Nat := if y.half then 2 else 4
    let x := match y.post with
      | some (p, i) => (s.leAt j).ps p ((s.leAt j).pg p + BitVec.ofNat 20 i)
      | none => s.leAt j
    (y.store = true → exec (.leSharedAccessDone j n e) s =
      .next ((s.mput y.addr (leBytes k y.data.toNat)).setLe j { x.fall with st := .run, sh := none, cyc := (s.leAt j).cyc + n })) ∧
    (y.store = false → e ≠ .two → exec (.leSharedAccessDone j n e) s =
      .next ((s.setLe j { (x.ks y.d (s.leLoaded y.addr y.half)).fall with st := .run, sh := none, cyc := (s.leAt j).cyc + n }).leSeen j e)) ∧
    (y.store = false → e = .two → ∃ t, exec (.leSharedAccessDone j n e) s = .next t ∧ s.LeFaults t j cECC))

/-- A transfer: whether it is taken, its target, and the registers with the link written (R216). -/
def Sys2Proof.Instr.leJump (x : LoopEngine) : Instr → Option (Bool × Int × LoopEngine)
  | .leBeq _ w _ => some (decide (x.kg (wD w.toNat) = x.a w.toNat), x.pc.toNat + 1 + (w.setWidth 18).toInt, x)
  | .leBne _ w _ => some (decide (x.kg (wD w.toNat) ≠ x.a w.toNat), x.pc.toNat + 1 + (w.setWidth 18).toInt, x)
  | .leBlt _ w _ => some (decide ((x.kg (wD w.toNat)).toInt < (x.a w.toNat).toInt), x.pc.toNat + 1 + (w.setWidth 18).toInt, x)
  | .leBge _ w _ => some (decide ((x.a w.toNat).toInt ≤ (x.kg (wD w.toNat)).toInt), x.pc.toNat + 1 + (w.setWidth 18).toInt, x)
  | .leB _ w _ => some (true, x.pc.toNat + 1 + (w.setWidth 18).toInt, x)
  | .leJal _ w _ => some (true, x.pc.toNat + 1 + (w.setWidth 18).toInt, x.ks (wD w.toNat) (BitVec.ofNat 32 (x.pc.toNat + 1)))
  | .leJr _ w _ => some (true, (x.a w.toNat).toNat, x)
  | _ => none

/-- The fields of a LOOP word are right: an unused field is 0 (R215). -/
def Sys2Proof.loopForm (w : Nat) : Prop := if bit w 24 = true then w / 2 ^ 10 % 2 ^ 10 = 0 else w / 2 ^ 20 % 16 = 0
/-- The iterations that a LOOP word asks for. -/
def Sys2Proof.Machine.LoopEngine.loopCount (x : LoopEngine) (w : Nat) : W32 := if bit w 24 = true then x.kg (w / 2 ^ 20 % 16) else BitVec.ofNat 32 (w / 2 ^ 10 % 2 ^ 10)
/-- LOOP may start its level here: it is not active, the body lies in the bank and, at level 1, inside an active level 0 (R218). -/
def Sys2Proof.Machine.LoopEngine.loopFits (x : LoopEngine) (w : Nat) : Prop :=
  let en := x.pc.toNat + 1 + w % 2 ^ 10
  en ≤ 2047 ∧ (x.loopCount w = 0 → en < 2047) ∧
  (if bit w 25 = true then x.lc1 = 0 ∧ (x.lc0 ≠ 0 → loopStart x.le0 ≤ x.pc.toNat + 1 ∧ en ≤ loopEnd x.le0) else x.lc0 = 0)

/-- Transfers, loops and waits (R215, R216, R218, R219, R223, R224). -/
def Obligations.LoopEngineTransfersLoopsAndWaits : Prop :=
  (∀ (i : Instr) (s : State) (j : Fin 36) (w : BitVec 26) (f : Ecc) (taken : Bool) (dest : Int) (x : LoopEngine), s.LeGoes i j w f →
    i.leJump ((s.leSeen j f).leAt j) = some (taken, dest, x) →
    let u := s.leSeen j f
    (0 ≤ dest → dest < 2048 → taken = true → exec i s = .next (u.setLe j { x with
      pc := pcOf dest.toNat, cyc := x.cyc + 2,
      lc0 := if loopStart x.le0 ≤ dest.toNat ∧ dest.toNat ≤ loopEnd x.le0 then x.lc0 else 0,
      lc1 := if loopStart x.le1 ≤ dest.toNat ∧ dest.toNat ≤ loopEnd x.le1 then x.lc1 else 0 })) ∧
    (0 ≤ dest → dest < 2048 → taken = false → exec i s = u.leDone j x) ∧
    (¬(0 ≤ dest ∧ dest < 2048) → ∃ t, exec i s = .next t ∧ u.LeFaults t j cILLEGAL)) ∧
  (∀ (s : State) (j : Fin 36) (w : BitVec 26) (f : Ecc), s.LeGoes (.leLoop j w f) j w f →
    let u := s.leSeen j f
    let x := u.leAt j
    let st := x.pc.toNat + 1
    let en := st + w.toNat % 2 ^ 10
    let b := BitVec.ofNat 32 (en * 2 ^ 16 + st)
    (loopForm w.toNat → x.loopFits w.toNat → x.loopCount w.toNat ≠ 0 → exec (.leLoop j w f) s = .next (u.setLe j
      (if bit w.toNat 25 = true then { x with lc1 := x.loopCount w.toNat, le1 := b, pc := pcOf st, cyc := x.cyc + 1 }
       else { x with lc0 := x.loopCount w.toNat, le0 := b, pc := pcOf st, cyc := x.cyc + 1 }))) ∧
    (loopForm w.toNat → x.loopFits w.toNat → x.loopCount w.toNat = 0 → x.lc0 = 0 → x.lc1 = 0 → exec (.leLoop j w f) s = .next (u.setLe j
      (if bit w.toNat 25 = true then { x with le1 := b, pc := pcOf (en + 1), cyc := x.cyc + 2 } else { x with le0 := b, pc := pcOf (en + 1), cyc := x.cyc + 2 }))) ∧
    (¬(loopForm w.toNat ∧ x.loopFits w.toNat) → ∃ t, exec (.leLoop j w f) s = .next t ∧ u.LeFaults t j cILLEGAL)) ∧
  (∀ x : LoopEngine,
    (x.atEnd = false → x.fall = { x with pc := x.pc + 1 }) ∧
    (x.lc1 ≠ 0 → x.pc.toNat = loopEnd x.le1 → x.lc1 ≠ 1 → x.fall = { x with lc1 := x.lc1 - 1, pc := pcOf (loopStart x.le1) }) ∧
    (x.lc0 ≠ 0 → x.pc.toNat = loopEnd x.le0 → (x.lc1 = 0 ∨ x.pc.toNat ≠ loopEnd x.le1) → x.fall =
      if x.lc0 = 1 then { x with lc0 := 0, pc := x.pc + 1 } else { x with lc0 := x.lc0 - 1, pc := pcOf (loopStart x.le0) }) ∧
    (x.lc1 = 1 → x.pc.toNat = loopEnd x.le1 → (x.lc0 = 0 ∨ x.pc.toNat ≠ loopEnd x.le0) → x.fall = { x with lc1 := 0, pc := x.pc + 1 })) ∧
  (∀ (s : State) (j : Fin 36) (w : BitVec 26) (f : Ecc), s.LeGoes (.leWaits j w f) j w f →
    let u := s.leSeen j f
    let x := u.leAt j
    let mask := w.toNat % 8
    let bound := if bit w.toNat 17 = true then some (x.a w.toNat) else none
    let met := u.waitMet j x.cyc
    (mask = 0 → ∃ t, exec (.leWaits j w f) s = .next t ∧ u.LeFaults t j cILLEGAL) ∧
    (mask ≠ 0 → (met &&& mask = mask ∨ ∃ b, bound = some b ∧ b.toNat ≤ x.cyc) → exec (.leWaits j w f) s = u.leDone j (x.ks (wD w.toNat) (BitVec.ofNat 32 met))) ∧
    (mask ≠ 0 → ¬(met &&& mask = mask ∨ ∃ b, bound = some b ∧ b.toNat ≤ x.cyc) →
      exec (.leWaits j w f) s = .next (u.setLe j { x with st := .wait, wait := some (wD w.toNat, mask, bound) }))) ∧
  (∀ (s : State) (j : Fin 36) (n d mask : Nat) (bound : Option W32), (s.leAt j).st = .wait → (s.leAt j).wait = some (d, mask, bound) → 0 < n →
    (s.leAt j).cyc + n + 30 < s.tlen → (n = 1 ∨ s.endedBy j mask bound ((s.leAt j).cyc + n - 1) = false) →
    (s.waitMet j ((s.leAt j).cyc + n) &&& mask = mask ∨ ∃ b, bound = some b ∧ b.toNat ≤ (s.leAt j).cyc + n) →
    exec (.leWaitsEnd j n) s = .next (s.setLe j { ((s.leAt j).ks d (BitVec.ofNat 32 (s.waitMet j ((s.leAt j).cyc + n)))).fall with
      st := .run, wait := none, cyc := (s.leAt j).cyc + n }))

/-- The position an RDS or SENDP word names: the immediate, or k[a] (R220). -/
def Sys2Proof.Machine.LoopEngine.idxOf (x : LoopEngine) (w : Nat) : Nat := if bit w 17 = true then (x.a w).toNat % 64 else w % 64
/-- The unused one of the fields index and a is 0 (R215). -/
def Sys2Proof.idxForm (w : Nat) : Prop := if bit w 17 = true then w % 64 = 0 else wA w = 0
/-- LE j owns the position (R213). -/
def Sys2Proof.Machine.State.ownsPos (s : State) (j i : Nat) : Prop := ∃ r g, s.leServes j = some (r, g) ∧ i / 16 = g ∧ i < (s.phasesOf r).length

/-- RDS, SENDP, COMMIT and END (R205, R210, R211, R213, R220, R222, R227, R261). -/
def Obligations.LoopEngineReadsSamplesAndSendsCommands : Prop :=
  (∀ (s : State) (j : Fin 36) (w : BitVec 26) (f : Ecc), s.LeGoes (.leRds j w f) j w f →
    let u := s.leSeen j f
    let x := u.leAt j
    let cls := w.toNat / 2 ^ 12 % 8
    (¬(idxForm w.toNat ∧ cls ≠ 7) → ∃ t, exec (.leRds j w f) s = .next t ∧ u.LeFaults t j cILLEGAL) ∧
    (idxForm w.toNat → cls ≠ 7 → u.leServes j = none → ∃ t, exec (.leRds j w f) s = .next t ∧ u.LeFaults t j cBOUND) ∧
    (∀ r g, idxForm w.toNat → cls ≠ 7 → u.leServes j = some (r, g) →
      (∀ v, u.rds j r cls (x.idxOf w.toNat) = some v → exec (.leRds j w f) s = u.leDone j (x.ks (wD w.toNat) v)) ∧
      (u.rds j r cls (x.idxOf w.toNat) = none → ∃ t, exec (.leRds j w f) s = .next t ∧ u.LeFaults t j cBOUND)) ∧
    (∀ r i set, x.set = some set → i < (s.phasesOf r).length →
      u.rds j r 0 0 = some (BitVec.ofNat 32 set.rs) ∧ u.rds j r 1 i = some (BitVec.ofInt 32 (tget noSamp set.curp i).cur) ∧
      u.rds j r 6 0 = some (BitVec.ofNat 32 (s.rl r).s) ∧ u.rds j r 6 1 = some set.state ∧ u.rds j r 6 3 = some (BitVec.ofNat 32 (s.phasesOf r).length)) ∧
    (∀ r i, (s.phasesOf r).length ≤ i → u.rds j r 1 i = none ∧ u.rds j r 2 i = none ∧ u.rds j r 4 i = none) ∧
    (∀ r i, u.rds j r 5 i = if i < 16 then some (BitVec.ofNat 32 (s.gf .ADC_AUX i F.ADC_AUX.CODE)) else none)) ∧
  (∀ (s : State) (j : Fin 36) (w : BitVec 26) (f : Ecc), s.LeGoes (.leSendp j w f) j w f →
    let u := s.leSeen j f
    let x := u.leAt j
    let ty := w.toNat / 2 ^ 14 % 4
    let i := x.idxOf w.toNat
    let v := (x.kg (wD w.toNat)).toInt
    (¬(idxForm w.toNat ∧ ty ≠ 3) → ∃ t, exec (.leSendp j w f) s = .next t ∧ u.LeFaults t j cILLEGAL) ∧
    (idxForm w.toNat → ty ≠ 3 → ¬s.ownsPos j i → ∃ t, exec (.leSendp j w f) s = .next t ∧ u.LeFaults t j cBOUND) ∧
    (idxForm w.toNat → ty ≠ 3 → s.ownsPos j i →
      ((∃ e, tget? x.cmd i = some e ∧ e.released = true) → exec (.leSendp j w f) s = u.leDone j { x with ls := x.ls ||| 4 }) ∧
      ((∀ e, tget? x.cmd i = some e → e.released = false) → exec (.leSendp j w f) s = u.leDone j { x with
        ls := if ty = 0 ∧ (v < 0 ∨ 65535 < v) then x.ls ||| 2 else x.ls,
        cmd := tset x.cmd i { ty := ty, value := if ty = 0 then (if v < 0 then 0 else if 65535 < v then 65535 else v.toNat) else 0, en := bit w.toNat 16, released := false } }))) ∧
  (∀ (s : State) (j : Fin 36) (w : BitVec 26) (f : Ecc), s.LeGoes (.leCommit j w f) j w f →
    let u := s.leSeen j f
    let x := u.leAt j
    ∃ t, exec (.leCommit j w f) s = .next t ∧ Frame [.port, .le, .rail, .rLC, .rRAIL] u t ∧
      (x.cyc < 2 ^ 16 → t.gf .LC_LE_MAXCYC (leIdx j) F.LC_LE_MAXCYC.COMMIT =
        if x.commitCyc.isSome then s.gf .LC_LE_MAXCYC (leIdx j) F.LC_LE_MAXCYC.COMMIT else max x.cyc (s.gf .LC_LE_MAXCYC (leIdx j) F.LC_LE_MAXCYC.COMMIT)) ∧
      t.leAt j = { x.fall with cyc := x.cyc + 1, commitCyc := some (x.commitCyc.getD x.cyc), cmd := x.cmd.map (fun e => (e.1, { e.2 with released := true })) } ∧
      (∀ k, k ≠ j.val → t.leAt k = u.leAt k) ∧
      (∀ r g i e, u.leServes j = some (r, g) → (u.rl r).st.live = true → x.cmd = [(i, e)] → e.released = false →
        let p := u.phaseAt r i
        let wd := u.weirD r
        let z := u.rl r
        let c1 := if 0 < tget 0 z.pocClamp i then min (u16 wd 16) (u16 wd 10) else u16 wd 16
        let c := if 0 < z.tocClamp then min c1 z.vtoc else c1
        let out := min (min e.value c) (tget 0 (u.prt (p / 8)).val (p % 8) + u16 wd 18)
        let counts (f : Fld) (yes : Prop) [Decidable yes] : Prop := t.gf .RAIL_WCNT0 r f = if e.ty = 0 ∧ yes then min f.max (s.gf .RAIL_WCNT0 r f + 1) else s.gf .RAIL_WCNT0 r f
        let w := if e.ty = 0 then mkFrame (if u.stKind (p / 8) = 1 then 2 else 1) (p % 8) out e.en
          else if e.ty = 1 then mkFrame 3 (p % 8) 0 false else mkFrame 4 (p % 8) 0 (bit (u.prt (p / 8)).en (p % 8))
        counts F.RAIL_WCNT0.CLAMP (out < e.value) ∧ counts F.RAIL_WCNT0.SLEW (out < min e.value c) ∧ tget? (t.rl r).mine i = some w ∧ (u.plSends (p / 8) = true → u.phAvail p = true → tget? (t.prt (p / 8)).pwr (p % 8) = some w) ∧
        (u.plSends (p / 8) = false ∨ u.phAvail p = false → t.port = u.port))) ∧
  (∀ (s : State) (j : Fin 36) (w : BitVec 26) (f : Ecc), s.LeGoes (.leEnd j w f) j w f → (∀ c, (s.leAt j).commitCyc = some c → c < 2 ^ 16) →
    let x := s.leAt j
    ∃ t, exec (.leEnd j w f) s = .next t ∧ (t.leAt j).st = .ended ∧ (t.leAt j).endCyc = some x.cyc ∧ (∀ e, e ∈ (t.leAt j).cmd → e.2.released = true) ∧
      t.gf .LC_LE_CYC (leIdx j) F.LC_LE_CYC.END = x.cyc ∧ t.gf .LC_LE_CYC (leIdx j) F.LC_LE_CYC.COMMIT = x.commitCyc.getD 0xFFFF ∧
      t.gf .LC_LE_MAXCYC (leIdx j) F.LC_LE_MAXCYC.END = max x.cyc (s.gf .LC_LE_MAXCYC (leIdx j) F.LC_LE_MAXCYC.END) ∧
      ((x.pubs.map (·.1)).Nodup → ∀ e, e ∈ x.pubs → tget? t.ldg.pub (s.served j * 16 + e.1) = some (s.tick.count, e.2)) ∧
      (∀ r g, s.leServes j = some (r, g) → (∀ b, (s.rl r).hrec = some (b, s.tick.count) → g ≤ (s.rl r).recPos) →
        ∃ b, (t.rl r).hrec = some (b, s.tick.count) ∧ b.length = 24 ∧ b.drop 8 = s.mread (leLocal (s.served j) + 0xFFE8) 16 ∧ (t.rl r).recPos = g) ∧
      Frame [.mem, .port, .le, .rail, .ldg, .core, .evd, .pwr, .rLC, .rRAIL, .rEVD, .rPWR] s t)

/-- LE j overruns: it was started in this tick and has not ended (R143). -/
def Sys2Proof.Machine.State.leOver (s : State) (j : Nat) : Bool := (s.leAt j).started && ((s.leAt j).st == .run || (s.leAt j).st == .wait)

/-- Sample sets, overrun, and the registers of a loop cluster (R143, R150, R208, R235, R237, R240). -/
def Obligations.LoopClustersDeliverStopAndTakeRequests : Prop :=
  (∀ s : State, ∃ t, exec .sampleSetDelivery s = .next t ∧ Frame [.le] s t ∧ ∀ j, j < 36 →
    (∀ r g, s.leServes j = some (r, g) → s.server (s.served j) = j → s.seqStopped (lcOf j) = false → t.leAt j = { s.leAt j with set := some (s.mkSet r), setNow := true }) ∧
    (s.leServes j = none ∨ s.server (s.served j) ≠ j ∨ s.seqStopped (lcOf j) = true → t.leAt j = s.leAt j)) ∧
  (∀ s : State, ∃ t, exec .overrunDeadline s = .next t ∧ Frame [.mem, .le, .core, .evd, .pwr, .rTICK, .rLC, .rEVD, .rPWR] s t ∧
    (∀ j, j < 36 → t.leAt j = if s.leOver j = true then { s.leAt j with st := .stopped, overrun := true, wait := none, sh := none, cmd := (s.leAt j).cmd.filter (fun e => e.2.released) } else s.leAt j) ∧
    (∀ j, j < 36 → s.leOver j = true → t.evPend (128 + j) = true ∧ t.evPend (168 + lcOf j) = true) ∧
    (∀ j, j < 32 → t.getB .TICK_OVR_MASK_LO 0 j = (s.getB .TICK_OVR_MASK_LO 0 j || s.leOver j)) ∧
    (∀ c, c < 4 → t.getB .TICK_OVR_MASK_HI 0 c = (s.getB .TICK_OVR_MASK_HI 0 c || s.leOver (32 + c))) ∧
    (∀ j, j < 36 → s.leOver j = true → (∀ k, j < k → k < 36 → s.leOver k = false) → t.rd .TICK_OVR_LE 0 = BitVec.ofNat 32 (64 + j) ∧
      t.rd .TICK_OVR_TICK_LO 0 = BitVec.ofNat 32 s.tick.count ∧ t.rd .TICK_OVR_TICK_HI 0 = BitVec.ofNat 32 (s.tick.count / 2 ^ 32)) ∧
    t.gf .TICK_OVR_CNT 0 F.TICK_OVR_CNT.COUNT = min F.TICK_OVR_CNT.COUNT.max (s.gf .TICK_OVR_CNT 0 F.TICK_OVR_CNT.COUNT + ((List.range 36).filter s.leOver).length)) ∧
  (∀ (s : State) (c : Fin 4) (who : Req) (v : W32),
    (s.Admits who .LC_SPARE_CTL c → exec (.lcSpareRelease c who v) s = (s.setLc c { s.lcAt c with release := true }).wrote) ∧
    (s.Admits who .LC_REC_CTL c → exec (.recRingResume c who v) s = ((s.plainWrite .LC_REC_CTL c v).setLc c
      { s.lcAt c with resume := (s.lcAt c).resume ||| F.LC_REC_CTL.FROZEN.get (v &&& s.rd .LC_REC_CTL c) }).wrote)) ∧
  (∀ (s : State) (j : Fin 36) (who : Req) (v : W32), s.Admits who .LC_LE_CTL (leIdx j) →
    let p := (s.leAt j).pend
    exec (.lcLeReset j who v) s = (s.setLe j { s.leAt j with pend := (true, p.2.1 || bit v.toNat 0, p.2.2 || bit v.toNat 1) }).wrote ∧
    exec (.lcLeFence j who v) s = (s.setLe j { s.leAt j with pend := (p.1 || bit v.toNat 2, true, p.2.2 || bit v.toNat 1) }).wrote ∧
    exec (.lcLeUnfence j who v) s = (s.setLe j { s.leAt j with pend := (p.1 || bit v.toNat 2, p.2.1 || bit v.toNat 0, true) }).wrote)

/-! ## Power stages (chapter 05) -/

/-- The line frame that a command carries to the stage of a phase: TYPE, ADDR, VALUE, EN (R161). -/
def Sys2Proof.Instr.lineFrame : Instr → Option (Fin 512 × Nat × Fin 8 × BitVec 16 × Bool)
  | .current p a v en => some (p, 1, a, v, en) | .ontime p a v en => some (p, 2, a, v, en) | .shed p a v en => some (p, 3, a, v, en)
  | .hold p a v en => some (p, 4, a, v, en) | .configure p a v en => some (p, 5, a, v, en) | .auxRead p a v en => some (p, 6, a, v, en)
  | .wake p a v en => some (p, 7, a, v, en) | .ovrCurrent p a v en => some (p, 8, a, v, en) | .ovrShed p a v en => some (p, 9, a, v, en)
  | .ovrShedMask p a v en => some (p, 0xA, a, v, en) | .shedMask p a v en => some (p, 0xB, a, v, en)
  | _ => none

/-- The stage of phase p becomes x; no other stage changes, and nothing else but the value that its port counts as in force, 0 once the stage has left RUN (R261), and what the monitor of a SHADOW or FENCED package hears (R311). -/
structure Sys2Proof.Machine.State.StageBecomes (s t : State) (p : Nat) (x : Stage) : Prop where
  own : t.stg p = x
  others : ∀ q, q ≠ p → t.stg q = s.stg q
  frame : Frame [.stage, .port, .rail, .rPL] s t
  alone : s.copies = false → Frame [.stage, .port] s t
  left : s.copies = false → (s.stg p).st = .run → ¬(x.powered = true ∧ x.st = .run) → tget 0 (t.prt (p / 8)).val (p % 8) = 0
  stays : s.copies = false → ((s.stg p).st ≠ .run ∨ x.powered = true ∧ x.st = .run) → t.port = s.port

/-- The frame addresses the stage whose address is `own`: by ADDR, or by its bit of the mask (R161). -/
def Sys2Proof.Machine.addressed (own ty : Nat) (a : Fin 8) (v : BitVec 16) : Prop := if ty = 0xA ∨ ty = 0xB then bit v.toNat own = true else a.val = own

/-- The stage can take a command: powered, in READY, RUN or SHED (R177). -/
def Sys2Proof.Machine.Stage.takes (x : Stage) : Prop := x.powered = true ∧ (x.st = .ready ∨ x.st = .run ∨ x.st = .shed)

/-- Frames at a stage (R161, R162, R177, R601). -/
def Obligations.StagesActOnTheFramesThatAddressThem : Prop :=
  (∀ (i : Instr) (s : State) (p : Fin 512) (ty : Nat) (a : Fin 8) (v : BitVec 16) (en : Bool), i.lineFrame = some (p, ty, a, v, en) →
    (∃ t x, exec i s = .next t ∧ s.StageBecomes t p x) ∧
    (((s.stg p).powered = false ∨ ¬addressed (p % 8) ty a v ∧ ty ≠ 5 ∧ ty ≠ 6 ∧ ty ≠ 7) → ∃ t, exec i s = .next t ∧ s.StageBecomes t p (s.stg p)) ∧
    ((s.stg p).powered = true → addressed (p % 8) ty a v → ((s.stg p).badFields ty a v.toNat en = true ∨ (ty = 1 ∨ ty = 8) ∧ (s.stg p).get 0x11 = 1 ∨ ty = 2 ∧ (s.stg p).get 0x11 ≠ 1) →
      ∃ t, exec i s = .next t ∧ s.StageBecomes t p (s.stg p))) ∧
  (∀ (s : State) (p : Fin 512) (a : Fin 8) (v : BitVec 16) (en : Bool), (s.stg p).takes → a.val = p % 8 →
    let x := s.stg p
    let on (x : Stage) (ontime : Bool) : Stage := if en then { x with st := .run, enable := true, value := v.toNat, ontime := ontime }
      else { x with st := if x.st = .run then .ready else x.st, enable := false }
    (x.actOvr = false → x.actPwr = false → x.get 0x11 ≠ 1 → ∃ t, exec (.current p a v en) s = .next t ∧ s.StageBecomes t p (on { x with heard := true, actPwr := true } false)) ∧
    (x.actOvr = false → x.actPwr = false → x.get 0x11 = 1 → ∃ t, exec (.ontime p a v en) s = .next t ∧ s.StageBecomes t p (on { x with heard := true, actPwr := true } true)) ∧
    (x.get 0x11 ≠ 1 → ∃ t, exec (.ovrCurrent p a v en) s = .next t ∧ s.StageBecomes t p (on { x with heard := true, actOvr := true } false)) ∧
    (x.actOvr = false → x.actPwr = false → ∃ t, exec (.shed p a v false) s = .next t ∧ s.StageBecomes t p { x with heard := true, actPwr := true, st := .shed, enable := false }) ∧
    (x.actOvr = false → x.actPwr = false → ∃ t, exec (.hold p a v x.enable) s = .next t ∧ s.StageBecomes t p { x with heard := true, actPwr := true }) ∧
    (∃ t, exec (.ovrShed p a v false) s = .next t ∧ s.StageBecomes t p { x with heard := true, actOvr := true, st := .shed, enable := false }) ∧
    (x.actOvr = true ∨ x.actPwr = true → x.get 0x11 ≠ 1 → ∃ t, exec (.current p a v en) s = .next t ∧ s.StageBecomes t p { x with heard := true })) ∧
  (∀ (s : State) (p : Fin 512) (v : BitVec 16), (s.stg p).takes → v.toNat < 256 → bit v.toNat (p % 8) = true →
    let x := s.stg p
    (∃ t, exec (.ovrShedMask p 0 v false) s = .next t ∧ s.StageBecomes t p { x with heard := true, actOvr := true, st := .shed, enable := false }) ∧
    (x.actOvr = false → x.actPwr = false → ∃ t, exec (.shedMask p 0 v false) s = .next t ∧ s.StageBecomes t p { x with heard := true, actPwr := true, st := .shed, enable := false }))

/-- A management frame is taken: the first of the tick at this stage (R161). -/
def Sys2Proof.Machine.Stage.managed (x : Stage) : Stage := { x with sawMgmt := true, actMgmt := true }

/-- CONFIGURE may write d into register i of this stage (R180). -/
def Sys2Proof.Machine.Stage.writable (x : Stage) (i d : Nat) : Prop :=
  (i = 0x10 ∧ 1 ≤ d ∧ d ≤ 8 ∨ i = 0x11 ∧ d ≤ 1 ∧ bit (x.get 5) d = true ∨ i = 0x12 ∨ i = 0x13) ∧ x.switching = false

/-- The stage's own registers and states (R156, R158, R168 to R172, R177 to R181). -/
def Obligations.StagesKeepRegistersAndStates : Prop :=
  (∀ (s : State) (p : Fin 512) (a : Fin 8) (v : BitVec 16), (s.stg p).powered = true → a.val = p % 8 → (s.stg p).actMgmt = false →
    let x := (s.stg p).managed
    let i := v.toNat / 256
    let d := v.toNat % 256
    (x.writable i d → ∃ t, exec (.configure p a v x.enable) s = .next t ∧ s.StageBecomes t p { x.put i d with oweNext := some (i, d, 0) }) ∧
    ((stageRo i = true ∨ 0x10 ≤ i ∧ i ≤ 0x13 ∧ ¬x.writable i d) →
      ∃ t, exec (.configure p a v x.enable) s = .next t ∧ s.StageBecomes t p { x with oweNext := some (i, x.get i, 2) }) ∧
    (i = 0x15 → d = 1 → ∃ t, exec (.configure p a v x.enable) s = .next t ∧
      s.StageBecomes t p { x.put 0x14 0 with st := if x.st = .fault then .safeOff else x.st, oweNext := some (0x15, 0, 0) }) ∧
    (i = 0x16 → d ≤ 3 → ∃ t, exec (.configure p a v x.enable) s = .next t ∧ s.StageBecomes t p { ((x.put 0x16 d).put 0x18 0).put 0x19 0 with oweNext := some (0x16, d, 0) }) ∧
    (x.has i = false →
      (∃ t data, exec (.configure p a v x.enable) s = .next t ∧ s.StageBecomes t p { x with oweNext := some (i, data, 1) }) ∧
      (∃ t data, exec (.auxRead p a v x.enable) s = .next t ∧ s.StageBecomes t p { x with oweNext := some (i, data, 1) })) ∧
    (x.has i = true → i ≠ 0x15 → ¬((i = 0x18 ∨ i = 0x19) ∧ x.get 0x16 = 1) →
      ∃ t, exec (.auxRead p a v x.enable) s = .next t ∧ s.StageBecomes t p { x with oweNext := some (i, x.get i, 0) }) ∧
    ((s.stg p).st = .powerup ∨ (s.stg p).st = .safeOff →
      ∃ t, exec (.wake p a 0xA55A false) s = .next t ∧ s.StageBecomes t p { x.put 0x14 0 with st := .ready, enable := false, missed := 0, oweNext := some (0x14, 0, 0) }) ∧
    ((s.stg p).st = .run → ∃ t, exec (.wake p a 0xA55A false) s = .next t ∧ s.StageBecomes t p { x with st := .ready, enable := false, oweNext := some (0x14, x.get 0x14, 0) })) ∧
  (∀ (s : State) (p : Fin 512) (c : BitVec 8), (s.stg p).powered = true →
    let x := s.stg p
    let quiet := x.marker = .sync ∨ x.marker = .test
    let miss := x.counts = true ∧ ¬quiet ∧ x.heard = false
    let y : Stage := { x with
      missed := if miss then x.missed + 1 else if x.counts = true ∧ quiet then x.missed else 0
      cmderr := decide miss, heard := false, actPwr := false, actOvr := false, actMgmt := false, sawMgmtPrev := x.sawMgmt, sawMgmt := false
      owe := x.oweNext, oweNext := none, txSample := none, txAux := none }
    exec (.stageMarkerRx p c) s = .next (s.setStg p { y with
      marker := if c.toNat / 64 = 1 then .sync else if c.toNat / 64 = 2 then .test else .run, cnt := c.toNat % 64, locked := min 16 (x.locked + 1) }) ∧
    exec (.stageMarkerMissing p) s = .next (s.setStg p { y with marker := .missing, cnt := x.cnt + 1, locked := 0 })) ∧
  (∀ (s : State) (p : Fin 512), (s.stg p).takes →
    let x := s.stg p
    (x.get 0x10 ≤ x.missed → ∃ t, exec (.stageHoldExpiry p) s = .next t ∧ s.StageBecomes t p { x.put 0x14 1 with st := .safeOff, enable := false, missed := 0 } ∧ Frame [.stage, .port] s t) ∧
    (∀ code, ∃ t, exec (.stageInternalFault p code) s = .next t ∧ s.StageBecomes t p { x.put 0x14 code.toNat with st := .fault, enable := false, missed := 0 } ∧ Frame [.stage, .port] s t)) ∧
  (∀ (s : State) (p : Fin 512) (mk : Maker),
    (∃ t, exec (.stagePowerLoss p) s = .next t ∧ s.StageBecomes t p Stage.init ∧ Frame [.stage, .port] s t) ∧ exec (.stageInvalidFrame p) s = .next s ∧
    ∃ t x, exec (.stagePowerOn p mk) s = .next t ∧ s.StageBecomes t p x ∧ Frame [.stage, .port] s t ∧ x.powered = true ∧ x.st = .powerup ∧ x.enable = false ∧ x.locked = 0 ∧ x.get 0x10 = 4 ∧ x.get 0x11 = 0 ∧
      x.get 0x12 = mk.imax.toNat ∧ x.get 0x13 = 0xB4 ∧ x.get 0x14 = 0 ∧ x.get 4 = mk.plrev.toNat ∧ x.get 5 = mk.caps.toNat ∧
      x.get 0 + 256 * x.get 1 = mk.vendor.toNat ∧ x.get 2 + 256 * x.get 3 = mk.model.toNat ∧ ∀ k, k < 8 → x.get (8 + k) = mk.serial.toNat / 256 ^ k % 256) ∧
  (∀ (s : State) (p : Fin 512) (m : StageMeas), (s.stg p).powered = true → (s.stg p).marker ≠ .missing →
    let x := s.stg p
    (16 ≤ x.locked → x.marker ≠ .test → ∃ w, exec (.stageSlotStart p false m) s = .next (s.setStg p { x with txSample := some w }) ∧ crcOk w = true ∧
      w.toNat / 2 ^ 27 = p % 8 ∧ w.toNat / 2 ^ 15 % 2 ^ 12 = m.cur.toNat ∧ w.toNat / 2 ^ 8 % 4 = x.cnt % 4) ∧
    (∀ i data st, x.owe = some (i, data, st) → i < 256 → data < 256 → st < 8 → ∃ w, exec (.stageSlotStart p true m) s = .next (s.setStg p { x with txAux := some w }) ∧ crcOk w = true ∧
      w.toNat / 2 ^ 30 = 2 ∧ w.toNat / 2 ^ 27 % 8 = p % 8 ∧ w.toNat / 2 ^ 19 % 2 ^ 8 = i ∧ w.toNat / 2 ^ 11 % 2 ^ 8 = data ∧ w.toNat / 2 ^ 8 % 8 = st))

/-! ## PL ports (chapter 05) -/

/-- Frame w has been handed to the line of port n; no other port and no other part of the state changes. -/
structure Sys2Proof.Machine.State.Hands (s t : State) (n : Nat) (w : W32) : Prop where
  sent : (t.prt n).sent = (s.prt n).sent ++ [(w, false)]
  others : ∀ m, m ≠ n → t.prt m = s.prt m
  frame : Frame [.port] s t

/-- The port may start a frame at time t: it sends, the frame ends in the tick, and the state is neither OFF, SYNC nor TEST (R140, R164). -/
def Sys2Proof.Machine.State.lineFree (s : State) (n t : Nat) : Prop :=
  s.plSends n = true ∧ t + (if s.plGen n = 1 then 100 else 25) ≤ s.tTick ∧ s.plState n ≠ 0 ∧ s.plState n ≠ 1 ∧ s.plState n ≠ 4

/-- The port listens: it is neither off, in test, disabled nor fenced (R182, R186, R189). -/
def Sys2Proof.Machine.State.listens (s : State) (n : Nat) : Prop := s.plState n ≠ 0 ∧ s.plState n ≠ 4 ∧ s.plState n ≠ 5 ∧ s.fenced 6 n = false

/-- Port n has been disabled with a cause (R186). -/
structure Sys2Proof.Machine.State.Disabled (s t : State) (n cause evt : Nat) : Prop where
  state : t.plState n = 5
  cause : t.gf .PL_STATUS n F.PL_STATUS.DIS_CAUSE = cause
  event : s.EventSet t .PL_EVT .PL_EVT_EN n evt n
  idle : (t.prt n).pwr = [] ∧ (t.prt n).ovr = [] ∧ (t.prt n).enum = none ∧ (t.prt n).acc = none
  shed : (t.prt n).disShed = (decide (s.woken n ≠ 0) && s.plSends n)
  frame : Frame [.port, .core, .evd, .pwr, .trc, .rPL, .rEVD, .rPWR, .rTRC] s t

/-- The valid sample x of address a stands in port n. -/
def Sys2Proof.Machine.State.sampled (s : State) (n a : Nat) (x : Samp) : State :=
  s.setPrt n { s.prt n with cur := tset (s.prt n).cur a x, last := tset (s.prt n).last a x.cur }

/-- PL ports on the line (R140, R164, R166, R173, R174, R182 to R187, R190, R193, R259, R262, R263). -/
def Obligations.PhaseLinkPortsSendAndReceive : Prop :=
  (∀ (s : State) (n : Fin 64) (t : Nat), s.lineFree n t →
    let p := s.prt n
    (p.disShed = true → ∃ u, exec (.plFrameSend n t) s = .next u ∧ s.Hands u n (mkFrame 0xA 0 (s.woken n) false) ∧ (u.prt n).disShed = false) ∧
    (p.disShed = false → s.plState n ≠ 5 →
      (∀ w b r, p.ovr = (w, b) :: r → ∃ u, exec (.plFrameSend n t) s = .next u ∧ s.Hands u n w ∧ (u.prt n).ovr = r) ∧
      (∀ m, p.ovr = [] → p.shed = some m → p.inj = none → ∃ u, exec (.plFrameSend n t) s = .next u ∧ s.Hands u n (mkFrame 0xB 0 m false) ∧ (u.prt n).shed = none) ∧
      (∀ a w r, p.ovr = [] → p.shed = none → p.pwr = (a, w) :: r → p.inj = none →
        ∃ u, exec (.plFrameSend n t) s = .next u ∧ s.Hands u n (if frTy w = 4 then mkFrame 4 (frAddr w) 0 (bit p.en (frAddr w)) else w) ∧ (u.prt n).pwr = r) ∧
      (∀ a w o, p.ovr = [] → p.shed = none → p.pwr = [] → p.mgmtSent = false → s.tTick ≤ t + (if s.plGen n = 1 then 200 else 50) → s.mgmtDue n = some (a, w, o) →
        ∃ u, exec (.plFrameSend n t) s = .next u ∧ s.Hands u n w ∧ (u.prt n).mgmtSent = true ∧ (u.prt n).expect = some a ∧ (u.prt n).await = o))) ∧
  (∀ (s : State) (n : Fin 64), (s.plState n = 2 ∨ s.plState n = 3) → s.plSends n = true → s.shedMask n ≠ 0 →
    exec (.portShedMask n) s = .next (s.setPrt n { s.prt n with shed := some (s.shedMask n) }) ∧
    ∀ a, a < 8 → (bit (s.shedMask n) a = true ↔ bit (s.woken n) a = true ∧
      ((s.railOf (n * 8 + a) = none) ∨ (∃ r i, s.railOf (n * 8 + a) = some (r, i) ∧ (s.rl r).st.live = false) ∨ s.phAvail (n * 8 + a) = false ∧ (s.railOf (n * 8 + a)).isSome = true))) ∧
  (∀ (s : State) (n : Fin 64) (a : Fin 8) (rx : Upstream), s.listens n → (s.prt n).injOn 2 a = false →
    let v := rx.w.toNat
    let whole := s.inWindow n a a rx.arr = true ∧ rx.bad = false ∧ crcOk rx.w = true ∧ (s.prt n).injOn 3 a = false ∧ v / 2 ^ 30 = 0
    (whole → v / 2 ^ 27 % 8 = a → v / 2 ^ 8 % 4 = s.tick.count % 4 → bit (s.expects n) a = true →
      ∃ t, exec (.upstreamSampleFrame n a rx) s = .next t ∧ tget noSamp (t.prt n).cur a = { valid := true, cur := sgn 12 (v / 2 ^ 15 % 2 ^ 12), flags := v / 2 ^ 10 % 2 ^ 5 } ∧
        tget 0 (t.prt n).last a = sgn 12 (v / 2 ^ 15 % 2 ^ 12)) ∧
    (whole → v / 2 ^ 27 % 8 = a → v / 2 ^ 8 % 4 = s.tick.count % 4 → bit (s.expects n) a = false →
      ∃ t, exec (.upstreamSampleFrame n a rx) s = .next t ∧ t.getB .PL_PHASE2 n (8 + a) = true ∧ s.EventSet t .PL_EVT .PL_EVT_EN n 3 n ∧ (t.prt n).cur = (s.prt n).cur) ∧
    (whole → v / 2 ^ 27 % 8 ≠ a → v / 2 ^ 8 % 4 = s.tick.count % 4 →
      ∃ t, exec (.upstreamSampleFrame n a rx) s = .next t ∧ (bit (s.prt n).readmit a = false → t.getB .PL_PHASE n (24 + a) = true) ∧ s.EventSet t .PL_EVT .PL_EVT_EN n 2 n ∧ (t.prt n).cur = (s.prt n).cur) ∧
    (¬whole → ∃ t, exec (.upstreamSampleFrame n a rx) s = .next t ∧ (t.prt n).cur = (s.prt n).cur ∧ (t.prt n).badSlot = true ∧
      t.gf .PL_ERR (n * 8 + a) F.PL_ERR.TOTAL = min F.PL_ERR.TOTAL.max (s.gf .PL_ERR (n * 8 + a) F.PL_ERR.TOTAL + 1))) ∧
  (∀ (s : State) (n : Fin 64) (a : Fin 8) (rx : Upstream) (r i : Nat), s.listens n → (s.prt n).injOn 2 a = false → (s.prt n).injOn 3 a = false →
    let v := rx.w.toNat
    let p := n.val * 8 + a.val
    let cur := sgn 12 (v / 2 ^ 15 % 2 ^ 12)
    let w := s.weirD r
    let x := s.rl r
    let sum := (s.sampled n a { valid := true, cur := cur, flags := v / 2 ^ 10 % 2 ^ 5 }).railSum r
    let lats := ((s.phasesOf r).filter s.phLatched).length
    let vtoc := min (u16 w 16) (32 * u32 w 12 / lats)
    s.inWindow n a a rx.arr = true → rx.bad = false → crcOk rx.w = true → v / 2 ^ 30 = 0 → v / 2 ^ 27 % 8 = a → v / 2 ^ 8 % 4 = s.tick.count % 4 → bit (s.expects n) a = true →
    bit (v / 2 ^ 10) 0 = false → bit (v / 2 ^ 10) 3 = false → s.railOf p = some (r, i) → x.st.live = true → s.phLatched p = true → s.phAvail p = true → s.copies = false →
    (sum ≤ (u32 w 12 : Int) → (u16 w 8 : Int) < cur →
      (tget 0 x.pocRun i = 0 → 1 < u8 w 7 → ∃ t, exec (.upstreamSampleFrame n a rx) s = .next t ∧ tget 0 (t.rl r).pocClamp i = 2 ∧ tget 0 (t.rl r).pocRun i = 1 ∧
        t.gf .RAIL_WCNT1 r F.RAIL_WCNT1.POC = min F.RAIL_WCNT1.POC.max (s.gf .RAIL_WCNT1 r F.RAIL_WCNT1.POC + 1) ∧ s.EventSet t .RAIL_EVT .RAIL_EVT_EN r 5 (64 + r) ∧
        (s.plSends n = true → (if s.railOntime r = true then mkFrame 9 a 0 false
          else mkFrame 8 a (if 0 < x.tocClamp then min (u16 w 10) x.vtoc else u16 w 10) true, false) ∈ (t.prt n).ovr)) ∧
      (u8 w 7 ≤ tget 0 x.pocRun i + 1 → ∃ t, exec (.upstreamSampleFrame n a rx) s = .next t ∧ s.EventSet t .RAIL_EVT .RAIL_EVT_EN r 7 (64 + r) ∧
        (i < 64 → t.getB (if i < 32 then .RAIL_WSHED_LO else .RAIL_WSHED_HI) r (i % 32) = true) ∧ (s.plSends n = true → (mkFrame 9 a 0 false, false) ∈ (t.prt n).ovr))) ∧
    ((u32 w 12 : Int) < sum → x.tocThis = false → cur ≤ (u16 w 8 : Int) →
      (x.tocRun = 0 → 1 < u8 w 7 → ∃ t, exec (.upstreamSampleFrame n a rx) s = .next t ∧ (t.rl r).tocClamp = 2 ∧ (t.rl r).vtoc = vtoc ∧ (t.rl r).tocRun = 1 ∧
        t.gf .RAIL_WCNT1 r F.RAIL_WCNT1.TOC = min F.RAIL_WCNT1.TOC.max (s.gf .RAIL_WCNT1 r F.RAIL_WCNT1.TOC + 1) ∧ s.EventSet t .RAIL_EVT .RAIL_EVT_EN r 6 (64 + r) ∧
        (s.railOntime r = false → ∀ k, k < (s.phasesOf r).length → let q := s.phaseAt r k
          s.phLatched q = true → s.phAvail q = true → vtoc < s.prevVal q → s.plSends (q / 8) = true →
          (mkFrame 8 (q % 8) (if 0 < tget 0 x.pocClamp k then min vtoc (u16 w 10) else vtoc) true, false) ∈ (t.prt (q / 8)).ovr)) ∧
      (u8 w 7 ≤ x.tocRun + 1 → ∃ t, exec (.upstreamSampleFrame n a rx) s = .next t ∧ (t.rl r).st = .fault ∧ (t.rl r).cause = 3 ∧ (t.rl r).pg = false))) ∧
  (∀ (s : State) (n : Fin 64) (rx : Upstream), s.listens n →
    let v := rx.w.toNat
    let a := s.tick.count % 8
    (exec (.registerReply n rx) s = exec (.upstreamAuxFrame n rx) s) ∧
    ((s.prt n).expect = none ∨ (s.prt n).mgmtSent = true → a < s.slotsA n → s.inWindow n (s.slotsA n) a rx.arr = true → rx.bad = false → crcOk rx.w = true → v / 2 ^ 30 = 1 → v / 2 ^ 27 % 8 = a →
      ∃ t, exec (.upstreamAuxFrame n rx) s = .next t ∧ t.gb .PL_AUX (n * 8 + a) F.PL_AUX.VALID = true ∧ t.gf .PL_AUX (n * 8 + a) F.PL_AUX.AGE = 0 ∧
        t.gf .PL_AUX (n * 8 + a) F.PL_AUX.TEMP = v / 2 ^ 19 % 2 ^ 8 ∧ t.gf .PL_AUX (n * 8 + a) F.PL_AUX.VIN = v / 2 ^ 12 % 2 ^ 7 ∧
        t.gf .PL_AUX (n * 8 + a) F.PL_AUX.FAULT = v / 2 ^ 8 % 2 ^ 4 ∧ tget? t.ldg.auxTick (n * 8 + a) = some s.tick.count ∧ Frame [.port, .ldg, .rPL] s t) ∧
    ((s.prt n).expect = none ∨ (s.prt n).mgmtSent = true → a < s.slotsA n → v / 2 ^ 30 ≠ 1 →
      ∃ t, exec (.registerReply n rx) s = .next t ∧ (t.prt n).badSlot = true ∧ t.gf .PL_ERR (n * 8 + a) F.PL_ERR.TOTAL = min F.PL_ERR.TOTAL.max (s.gf .PL_ERR (n * 8 + a) F.PL_ERR.TOTAL + 1)) ∧
    (∀ b, (s.prt n).expect = some b → (s.prt n).mgmtSent = false → (s.prt n).enum = none → v / 2 ^ 30 ≠ 2 →
      ∃ t, exec (.upstreamAuxFrame n rx) s = .next t ∧ (t.prt n).badSlot = true ∧ t.gf .PL_ERR (n * 8 + b) F.PL_ERR.TOTAL = min F.PL_ERR.TOTAL.max (s.gf .PL_ERR (n * 8 + b) F.PL_ERR.TOTAL + 1)) ∧
    (∀ b, (s.prt n).expect = some b → (s.prt n).mgmtSent = false → s.inWindow n (s.slotsA n) b rx.arr = true → rx.bad = false → crcOk rx.w = true → v / 2 ^ 30 = 2 → v / 2 ^ 27 % 8 = b →
      ((s.prt n).await = .acc →
        ∃ t, exec (.registerReply n rx) s = .next t ∧ t.rd .PL_REG_RESULT n = BitVec.ofNat 32 (2 ^ 31 + v / 2 ^ 8 % 8 * 2 ^ 8 + v / 2 ^ 11 % 2 ^ 8) ∧
          (t.prt n).acc = none ∧ (t.prt n).expect = none ∧ s.EventSet t .PL_EVT .PL_EVT_EN n 9 n) ∧
      (∀ e, (s.prt n).enum = some e → e.todo = [b] → e.step = .wake → e.full = true → (s.prt n).await = .enum → bit (s.prt n).readmit b = false →
        ∃ t, exec (.registerReply n rx) s = .next t ∧ t.getB .PL_PHASE n b = true ∧ t.plState n = 3 ∧ s.EventSet t .PL_EVT .PL_EVT_EN n 8 n))) ∧
  (∀ (s : State) (n : Fin 64) (b : Nat), (s.prt n).expect = some b → s.fenced 6 n = false →
    (∀ x, (s.prt n).await = .acc → (s.prt n).acc = some x →
      (x.tries < 2 → exec (.registerReplyMissing n) s = .next (s.setPrt n { s.prt n with expect := none, await := .nobody, acc := some { x with tries := x.tries + 1 } })) ∧
      (2 ≤ x.tries → ∃ t, exec (.registerReplyMissing n) s = .next t ∧ t.rd .PL_REG_RESULT n = 0x80000700 ∧ (t.prt n).acc = none ∧ s.EventSet t .PL_EVT .PL_EVT_EN n 9 n)) ∧
    (∀ e i r, (s.prt n).await = .enum → (s.prt n).enum = some e → e.step = .read i → e.todo = b :: r →
      (e.tries < 2 → exec (.registerReplyMissing n) s = .next (s.setPrt n { s.prt n with expect := none, await := .nobody, enum := some { e with tries := e.tries + 1 } })) ∧
      (2 ≤ e.tries → b < 8 → bit (s.prt n).readmit b = false → ∃ t, exec (.registerReplyMissing n) s = .next t ∧ t.getB .PL_PHASE n (8 + b) = true ∧ s.EventSet t .PL_EVT .PL_EVT_EN n 0 n))) ∧
  (∀ (s : State) (n : Fin 64) (b : Nat), (s.prt n).expect = some b → s.fenced 6 n = true →
    exec (.registerReplyMissing n) s = .next (s.setPrt n { s.prt n with expect := none, await := .nobody })) ∧
  (∀ (s : State) (n : Fin 64) (e : Enum), (s.prt n).enum = some e → e.step = .sync 0 → e.todo ≠ [] → s.fenced 6 n = false →
    exec (.enumSyncDone n) s = .next ((s.setPrt n { s.prt n with enum := some { e with step := .read 0 } }).pf .PL_STATUS n F.PL_STATUS.STATE 2)) ∧
  (∀ (s : State) (n : Fin 64) (a : Fin 8), 3 ≤ tget 0 (s.prt n).silent a → bit (s.woken n) a = true → s.fenced 6 n = false → s.getB .PL_PHASE n (8 + a) = false →
    ∃ t, exec (.stageAbsent n a) s = .next t ∧ t.getB .PL_PHASE n (8 + a) = true ∧ s.EventSet t .PL_EVT .PL_EVT_EN n 0 n ∧ t.woken n = s.woken n) ∧
  (∀ (s : State) (n : Fin 64), s.listens n →
    ((s.prt n).quietPrev = false → exec (.quietWindowViolation n) s = .next (s.setPrt n { s.prt n with quiet := true })) ∧
    ((s.prt n).quietPrev = true → s.plGen n ≠ 0 → ∃ t, exec (.quietWindowViolation n) s = .next t ∧ s.Disabled t n 1 5)) ∧
  (∀ (s : State) (n : Fin 64), 3 ≤ (s.prt n).busTicks → s.fenced 6 n = false →
    (s.plState n ≠ 5 → s.plGen n ≠ 0 → ∃ t, exec (.busfail n) s = .next t ∧ s.Disabled t n 2 6) ∧
    (s.plState n = 5 → ∃ t, exec (.busfail n) s = .next t ∧ s.EventSet t .PL_EVT .PL_EVT_EN n 6 n ∧ (t.prt n).busTicks = 0 ∧ t.plState n = 5)) ∧
  (∀ (s : State) (n : Fin 64) (k : Nat), (s.prt n).eye = true → s.fenced 6 n = false → ∃ t, exec (.eyeDone n k) s = .next t ∧ t.gf .PL_EYE_RES n F.PL_EYE_RES.ERRORS = min 0xFFFF k ∧
    (t.prt n).eye = false ∧ s.EventSet t .PL_EVT .PL_EVT_EN n 10 n) ∧
  (∀ (s : State) (r : Fin 64),
    ((s.rl r).st.live = true → 4 ≤ (s.rl r).outRun → (s.rl r).plaus = false → s.copies = false → bit (u8 (s.weirD r) 1) 1 = false →
      ∃ t, exec (.plausibilityFault r) s = .next t ∧ t.rl r = { s.rl r with plaus := true } ∧ s.EventSet t .RAIL_EVT .RAIL_EVT_EN r 4 (64 + r) ∧
        Frame [.rail, .core, .evd, .pwr, .rRAIL, .rEVD, .rPWR] s t) ∧
    (16 ≤ (s.rl r).inRun → exec (.plausClear r) s = .next (s.setRl r { s.rl r with plaus := false })))

/-- A full enumeration of port n has begun (R182). -/
structure Sys2Proof.Machine.State.EnumStarts (s t : State) (n : Nat) : Prop where
  state : t.plState n = if s.pins.plOn = true then 1 else 3
  todo : (t.prt n).enum = if s.pins.plOn = true then some { full := true, todo := s.expected n, step := .sync 16, tries := 0, got := [] } else none
  cleared : ∀ a, a ∈ s.expected n → (∀ b, b ∈ [a, 8 + a, 16 + a, 24 + a] → t.getB .PL_PHASE n b = false) ∧ t.getB .PL_PHASE2 n a = false ∧ t.getB .PL_PHASE2 n (16 + a) = false ∧
    t.gb .PL_RTD (n * 8 + a) F.PL_RTD.VALID = false ∧ t.gf .PL_ERR (n * 8 + a) F.PL_ERR.BUCKET = 0 ∧ t.gf .PL_ERR (n * 8 + a) F.PL_ERR.TOTAL = s.gf .PL_ERR (n * 8 + a) F.PL_ERR.TOTAL
  unexpected : t.gf .PL_PHASE2 n F.PL_PHASE2.UNEXPECTED = 0

/-- Requests of a PL port (R182, R186, R189 to R191, R193). -/
def Obligations.PhaseLinkPortsTakeRequests : Prop :=
  (∀ (s : State) (n : Fin 64) (who : Req) (v : W32), s.Admits who .PL_CTL n → s.plGen n ≠ 0 →
    (s.plState n ≠ 5 → ∃ t : State, exec (.disable n who v) s = t.wrote ∧ t.plState n = 5 ∧ t.gf .PL_STATUS n F.PL_STATUS.DIS_CAUSE = 3) ∧
    (s.plState n = 5 → bit v.toNat 3 = false → ∃ t : State, exec (.reenable n who v) s = t.wrote ∧ s.EnumStarts t n ∧ t.gf .PL_STATUS n F.PL_STATUS.DIS_CAUSE = 0) ∧
    (s.plState n = 3 → bit v.toNat 3 = false → F.PL_CTL.TEST.get v = s.gf .PL_CTL n F.PL_CTL.TEST → (F.PL_CTL.TEST.get v = 0 ∨ s.inTest n = true) → ∃ t : State, exec (.enumGo n who v) s = t.wrote ∧ s.EnumStarts t n) ∧
    (s.plState n = 4 → bit v.toNat 3 = false → F.PL_CTL.TEST.get v = s.gf .PL_CTL n F.PL_CTL.TEST → (F.PL_CTL.TEST.get v = 1 ∨ F.PL_CTL.TEST.get v = 3 ∨ F.PL_CTL.TEST.get v = 4) →
      ∃ t : State, exec (.eyeGo n who v) s = t.wrote ∧ (t.prt n).eye = true ∧ t.plState n = 4)) ∧
  (∀ (s : State) (n : Fin 64) (who : Req) (v : W32), s.Admits who .PL_CTL n → s.plGen n ≠ 0 → s.plState n ≠ 5 → s.plState n ≠ 0 → v.toNat / 2 % 2 ^ 4 = 0 →
    let old := s.gf .PL_CTL n F.PL_CTL.TEST
    let addr := F.PL_CTL.TEST_ADDR.get v
    let w (a c : Nat) := mkFrame 5 a (0x16 * 256 + c) false
    let one (c : Nat) : List W32 := if s.pins.plOn = true ∧ bit (s.expects n) addr = true then [w addr c] else []
    let all : List W32 := if s.pins.plOn = true then ((List.range 8).filter (fun a => bit (s.woken n) a)).map (fun a => w a 1) else []
    (s.plInUse n = false →
      (old ≠ 1 ∨ s.inTest n = false → ∃ t : State, exec (.testInternalLoopback n who v) s = t.wrote ∧ t.gf .PL_CTL n F.PL_CTL.TEST = 1 ∧ t.plState n = 4 ∧ t.rd .PL_PRBS_ERR n = 0) ∧
      (old ≠ 2 ∨ s.inTest n = false → ∃ t : State, exec (.testDownstreamPrbs31 n who v) s = t.wrote ∧ t.gf .PL_CTL n F.PL_CTL.TEST = 2 ∧
        (t.prt n).testQ = all ∧ t.plState n = if all = [] then 4 else 3) ∧
      (old ≠ 3 ∨ s.inTest n = false → ∃ t : State, exec (.testUpstreamPrbs31 n who v) s = t.wrote ∧ t.gf .PL_CTL n F.PL_CTL.TEST = 3 ∧ t.gf .PL_CTL n F.PL_CTL.TEST_ADDR = addr ∧
        (t.prt n).testQ = one 2 ∧ t.plState n = if one 2 = [] then 4 else 3) ∧
      (old ≠ 4 ∨ s.inTest n = false → ∃ t : State, exec (.testStageLoopback n who v) s = t.wrote ∧ t.gf .PL_CTL n F.PL_CTL.TEST = 4 ∧ t.gf .PL_CTL n F.PL_CTL.TEST_ADDR = addr ∧
        (t.prt n).testQ = one 3 ∧ t.plState n = if one 3 = [] then 4 else 3) ∧
      (s.inTest n = true → ∃ t : State, exec (.testExit n who v) s = t.wrote ∧ t.gf .PL_CTL n F.PL_CTL.TEST = 0 ∧ s.EnumStarts t n) ∧
      (s.inTest n = false → ∃ t : State, exec (.testExit n who v) s = t.wrote ∧ t.gf .PL_CTL n F.PL_CTL.TEST = 0 ∧ t.plState n = s.plState n ∧ t.port = s.port)) ∧
    (s.plInUse n = true → old ≠ 1 ∨ s.inTest n = false →
      ∃ t : State, exec (.testInternalLoopback n who v) s = t.wrote ∧ t.gf .PL_CTL n F.PL_CTL.TEST = old ∧ t.gb .PL_STATUS n F.PL_STATUS.TREFUSED = true ∧ t.plState n = s.plState n ∧ t.port = s.port)) ∧
  (∀ (s : State) (n : Fin 64) (who : Req) (v : W32), s.Admits who .PL_CTL n → s.plGen n = 0 ∨ s.plState n = 5 ∨ s.plState n = 0 → s.plInUse n = false → v.toNat / 2 % 2 ^ 4 = 0 →
    ∃ t : State, exec (.testInternalLoopback n who v) s = t.wrote ∧ t.gf .PL_CTL n F.PL_CTL.TEST = 1 ∧ t.gf .PL_CTL n F.PL_CTL.TEST_ADDR = F.PL_CTL.TEST_ADDR.get v ∧ t.plState n = s.plState n ∧ t.port = s.port) ∧
  (∀ (s : State) (n : Fin 64) (who : Req) (v : W32) (a : Nat), s.Admits who .PL_READMIT n → s.plState n = 3 → (s.prt n).enum = none → (s.prt n).readmit = 0 →
    a < 8 → bit v.toNat a = true → bit (s.expects n) a = true → (∀ b, b < a → bit v.toNat b = false ∨ bit (s.expects n) b = false) →
    ∃ t : State, exec (.readmit n who v) s = t.wrote ∧ (t.prt n).enum = some { full := false, todo := [a], step := .read 0, tries := 0, got := [] } ∧ t.plState n = 3 ∧
      (∀ b, b < 8 → bit v.toNat b = true → t.getB .PL_PHASE2 n (8 + b) = false ∧ t.gf .PL_ERR (n * 8 + b) F.PL_ERR.BUCKET = 0 ∧
        (bit (s.expects n) b = true → t.getB .PL_PHASE n (8 + b) = false ∧ t.getB .PL_PHASE n (16 + b) = false ∧ t.getB .PL_PHASE n (24 + b) = false ∧
          t.getB .PL_PHASE2 n b = false ∧ t.getB .PL_PHASE2 n (16 + b) = false))) ∧
  (∀ (s : State) (n : Fin 64) (who : Req) (v : W32), s.Admits who .PL_REG_CMD n → s.plState n = 3 → (s.prt n).acc = none →
    (bit (s.expects n) (v.toNat / 2 ^ 16 % 8) = false →
      ∃ t : State, exec (.plRegRead n who v) s = t.wrote ∧ t.rd .PL_REG_RESULT n = 0x80000700 ∧ s.EventSet t .PL_EVT .PL_EVT_EN n 9 n ∧ t.port = s.port) ∧
    (bit (s.expects n) (v.toNat / 2 ^ 16 % 8) = true →
    let acc (write : Bool) : RegAcc := { write := write, addr := v.toNat / 2 ^ 16 % 8, reg := v.toNat / 2 ^ 8 % 2 ^ 8, data := v.toNat % 2 ^ 8, tries := 0 }
    (∃ t : State, exec (.plRegRead n who v) s = t.wrote ∧ t.prt n = { s.prt n with acc := some (acc false) }) ∧
    (∃ t : State, exec (.plRegWrite n who v) s = t.wrote ∧ t.prt n = { s.prt n with acc := some (acc true) }))) ∧
  (∀ (s : State) (n : Fin 64) (who : Req) (v : W32), s.Admits who .PL_INJ n → (s.prt n).inj = none →
    let inj (k : Nat) : Inject := { kind := k, addr := F.PL_INJ.ADDR.get v, left := F.PL_INJ.COUNT.get v, armed := false }
    (∃ t : State, exec (.injectCrc n who v) s = t.wrote ∧ t.prt n = { s.prt n with inj := some (inj 1) }) ∧
    (0 < F.PL_INJ.COUNT.get v →
      (∃ t : State, exec (.injectSilentSlot n who v) s = t.wrote ∧ t.prt n = { s.prt n with inj := some (inj 2) }) ∧
      (∃ t : State, exec (.injectSampleCrcFail n who v) s = t.wrote ∧ t.prt n = { s.prt n with inj := some (inj 3) }) ∧
      (∃ t : State, exec (.injectQuietViolation n who v) s = t.wrote ∧ t.prt n = { s.prt n with inj := some (inj 4) })) ∧
    (F.PL_INJ.COUNT.get v = 0 → ∃ t : State, exec (.injectSilentSlot n who v) s = t.wrote ∧ t.prt n = s.prt n))

/-! ## Rails (chapter 07) -/

/-- Rail r has entered FAULT with a cause (R263, R269). -/
structure Sys2Proof.Machine.State.RailFaults (s t : State) (r cause : Nat) : Prop where
  st : (t.rl r).st = .fault
  cause : (t.rl r).cause = cause
  pg : (t.rl r).pg = false
  event : s.EventSet t .RAIL_EVT .RAIL_EVT_EN r 0 (64 + r)
  step : t.gf .SEQ_STATUS 0 F.SEQ_STATUS.FSTEP = s.stepOf r
  shed : ∀ n, n ∈ s.railPorts r → s.plSends n = true → s.railMaskOn r n ≠ 0 → (mkFrame 0xA 0 (s.railMaskOn r n) false, false) ∈ (t.prt n).ovr
  frame : Frame [.port, .rail, .seq, .core, .evd, .pwr, .rRAIL, .rEVD, .rPWR] s t

/-- Rails and steps (R263, R269 to R273, R564). -/
def Obligations.RailsStartReachPowerGoodAndFault : Prop :=
  (∀ (s : State) (r : Fin 64), s.copies = false → (s.rl r).st.live = true → 2 ≤ (s.rl r).nophaseRun → ∃ t, exec (.nophase r) s = .next t ∧ s.RailFaults t r 6) ∧
  (∀ (s : State) (r : Fin 64), s.copies = false → (s.rl r).st.live = true → 2 ≤ (s.rl r).nophaseRun → (∀ d, (s.stepAt d).goingDown = false ∧ (s.stepAt d).immediate = false) →
    let k := s.stepOf r
    let act := u8 (s.seqD k) 13
    let hit (d : Nat) : Prop := d ∈ s.steps ∧ d ≠ k ∧ (act % 4 = 1 ∧ d ∈ s.closure 128 [k] ∨ act % 4 = 2)
    ∃ t, exec (.nophase r) s = .next t ∧
      (∀ d, ¬hit d → act % 4 ≠ 3 → (t.stepAt d).goingDown = false ∧ (act % 4 = 0 → s.stepRail d ≠ some r.val → d ≠ k → t.stepSt d = s.stepSt d)) ∧
      (∀ d q, hit d → s.stepRail d = some q → q ≠ r → (s.rl q).st = .ramp ∨ (s.rl q).st = .regulate → (s.rl q).offNext = false →
        (bit act 7 = true → (t.rl q).offNext = true ∧ (t.rl q).pg = false) ∧
        (bit act 7 = false → ((t.rl q).st = .down ∨ (t.stepAt d).goingDown = true) ∧ ((∀ e, e ∈ s.dependents d → (s.stepSt e).live = false) → (t.rl q).st = .down ∧ (t.rl q).pg = false))) ∧
      (∀ d, hit d → s.stepGpio d = true → s.stepRail d = none → (s.stepAt d).st = .regulate → bit act 7 = true → (t.stepAt d).out = false ∧ (t.stepAt d).pg = false)) ∧
  (∀ (s : State) (k : Fin 128) (r : Nat), s.copies = false → s.stepRail k = some r → (s.rl r).st = .ramp → (s.rl r).pg = false → u16 (s.seqD k) 14 ≤ (s.rl r).since →
    ∃ t, exec (.pgtmo k) s = .next t ∧ s.RailFaults t r 5) ∧
  (∀ (s : State) (k : Fin 128), s.copies = false → s.stepGpio k = true → u16 (s.seqD k) 14 ≤ (s.stepAt k).since →
    ((s.stepAt k).st = .regulate → (s.stepAt k).pg = false → ∃ t, exec (.pgtmo k) s = .next t ∧ (t.stepAt k).st = .fault ∧ (t.stepAt k).cause = 5 ∧ (t.stepAt k).out = false ∧
      t.gf .SEQ_STATUS 0 F.SEQ_STATUS.FSTEP = k) ∧
    ((s.stepAt k).st = .down → exec (.pgtmo k) s = .next (s.setStep k { s.stepAt k with st := .off, cause := 5 }))) ∧
  (∀ (s : State) (r : Fin 64), s.copies = false → 16 ≤ (s.rl r).pgRun → (s.rl r).st = .ramp ∨ (s.rl r).st = .regulate →
    ∃ t, exec (.pgUp r) s = .next t ∧ (t.rl r).st = .regulate ∧ (t.rl r).pg = true ∧ ((s.rl r).pg = false → s.EventSet t .RAIL_EVT .RAIL_EVT_EN r 1 (64 + r)) ∧
      Frame [.rail, .core, .evd, .pwr, .rRAIL, .rEVD, .rPWR] s t) ∧
  (∀ (s : State) (k : Fin 128), s.runsSeq = true → s.stepSt k = .wait → (∀ d, d ∈ seqDeps (s.seqD k) → s.stepPg d = true) → u16 (s.seqD k) 8 ≤ (s.stepAt k).wait →
    (∀ r j, s.stepRail k = some r → (j ∈ railLes (s.railD r) ∨ j ∈ s.serversOf r) → s.leStepMode j = true → exec (.seqStepStart k) s = .next s) ∧
    (∀ r, s.stepRail k = some r → (∀ j, j ∈ railLes (s.railD r) ∨ j ∈ s.serversOf r → s.leStepMode j = false) →
      ∃ t, exec (.seqStepStart k) s = .next t ∧ (t.rl r).st = .ramp ∧ (t.rl r).s = min (s.rl r).code (s.target r) ∧ (t.rl r).pg = false ∧ (t.rl r).since = 0 ∧
        (t.rl r).nrec = u8 (s.railD r) 18 ∧ (t.rl r).pocRun = [] ∧ (∀ q, q ≠ r → t.rl q = s.rl q) ∧ Frame [.rail] s t) ∧
    (s.stepRail k = none → exec (.seqStepStart k) s = .next (s.setStep k { s.stepAt k with
      st := .regulate, out := true, since := 0, pg := decide (u8 (s.seqD k) 3 ≠ 0xFF) && s.gpioIn (u8 (s.seqD k) 3) }))) ∧
  (∀ (s : State) (g : Fin 128) (lvl : Bool), ∃ t, exec (.seqGpioPgChange g lvl) s = .next t ∧ t.gpioIn g = lvl ∧ (∀ h, h < 128 → h ≠ g → t.gpioIn h = s.gpioIn h) ∧
    (s.copies = true → t.seq = s.seq ∧ t.rail = s.rail) ∧
    (∀ k, s.copies = false → k ∈ s.steps → s.stepGpio k = true → u8 (s.seqD k) 3 = g →
      (lvl = true → (s.stepAt k).st = .regulate → (s.stepAt k).goingDown = false → (t.stepAt k).pg = true ∧ (t.stepAt k).st = .regulate) ∧
      (lvl = false → (∀ d, d ∈ s.steps → s.stepGpio d = true → u8 (s.seqD d) 3 = g → d = k) →
        ((s.stepAt k).st = .regulate → (s.stepAt k).pg = true → (t.stepAt k).st = .fault ∧ (t.stepAt k).cause = 7 ∧ (t.stepAt k).pg = false ∧ (t.stepAt k).out = false) ∧
        ((s.stepAt k).st = .down → (t.stepAt k).st = .off))))

/-- A write of 1 to bit b alone of the low three bits. -/
def Sys2Proof.Machine.only (v : W32) (b : Nat) : Prop := ∀ k, k < 3 → k ≠ b → bit v.toNat k = false

/-- Rail r is driven and nothing stands in the way of its shutdown: no dependent is up, and no shutdown with IMMEDIATE is asked for (R269, R272). -/
def Sys2Proof.Machine.State.mayGoDown (s : State) (k r : Nat) : Prop :=
  s.stepRail k = some r ∧ ((s.rl r).st = .ramp ∨ (s.rl r).st = .regulate) ∧ (s.rl r).offNext = false ∧
  (∀ d, d ∈ s.dependents k → (s.stepSt d).live = false) ∧ ∀ d, (s.stepAt d).immediate = false

/-- Requests of SEQ and RAIL registers (R271, R272, R274 to R276). -/
def Obligations.SequencerAndRailsTakeRequests : Prop :=
  (∀ (s : State) (who : Req) (v : W32), s.Admits who .SEQ_CTL 0 →
    (s.runsSeq = true → s.anyDown = false → only v 0 → ∃ t : State, exec (.seqUp who v) s = t.wrote ∧
      (∀ k, k ∈ s.steps → s.stepSt k = .off → (s.stepRail k).isSome = true ∨ s.stepGpio k = true → t.stepSt k = .wait) ∧
      (∀ k, s.stepSt k ≠ .off → t.stepSt k = s.stepSt k) ∧ Frame [.rail, .seq, .pwr] s t) ∧
    (s.runsSeq = true → s.anyDown = true → only v 0 → ∃ t : State, exec (.seqUp who v) s = t.wrote ∧ t.gb .SEQ_STATUS 0 F.SEQ_STATUS.REFUSED = true ∧ t.rail = s.rail ∧ t.seq = s.seq) ∧
    (s.runsSeq = true → only v 1 → ∃ t : State, exec (.seqDown who v) s = t.wrote ∧
      (∀ k, k ∈ s.steps → s.stepSt k = .wait → t.stepSt k = .off) ∧ (∀ k r, k ∈ s.steps → s.mayGoDown k r → (t.rl r).st = .down ∧ (t.rl r).pg = false)) ∧
    (s.copies = false → only v 2 → ∃ t : State, exec (.seqClear who v) s = t.wrote ∧
      (∀ k r, k ∈ s.steps → s.stepRail k = some r → (s.rl r).st = .fault → s.causePresent r = false → (t.rl r).st = .off) ∧
      (∀ r, (s.rl r).st ≠ .fault → t.rl r = s.rl r) ∧
      (∀ k, k ∈ s.steps → s.stepRail k = none → s.stepGpio k = true → (s.stepAt k).st = .fault → (t.stepAt k).st = .off))) ∧
  (∀ (s : State) (r : Fin 64) (who : Req) (v : W32), s.Admits who .RAIL_CTL r → (s.railE r).isSome = true →
    (s.copies = true → ∃ t : State, exec (.railOn r who v) s = t.wrote ∧ t.rail = s.rail ∧ t.seq = s.seq) ∧
    (s.copies = false → s.runsSeq = true → s.stepRail (s.stepOf r) = some r.val →
      (only v 0 → (s.rl r).st = .off → ∃ t : State, exec (.railOn r who v) s = t.wrote ∧ t.rl r = { s.rl r with st := .wait } ∧ Frame [.rail, .seq, .pwr] s t) ∧
      (only v 1 → s.stepOf r ∈ s.steps →
        ((s.rl r).st = .wait → ∃ t : State, exec (.railOff r who v) s = t.wrote ∧ (t.rl r).st = .off) ∧
        (s.mayGoDown (s.stepOf r) r → ∃ t : State, exec (.railOff r who v) s = t.wrote ∧ (t.rl r).st = .down ∧ (t.rl r).pg = false))) ∧
    (s.copies = false → (s.rl r).st = .fault → only v 2 →
      (s.causePresent r = false → ∃ t : State, exec (.railClear r who v) s = t.wrote ∧ (t.rl r).st = .off ∧ (t.rl r).s = 0 ∧ (t.rl r).plaus = false) ∧
      (s.causePresent r = true → ∃ t : State, exec (.railClear r who v) s = t.wrote ∧ t.rail = s.rail ∧ t.gf .SEQ_STATUS 0 F.SEQ_STATUS.FSTEP = s.stepOf r))) ∧
  (∀ (s : State) (r : Fin 64) (who : Req) (v : W32), s.Admits who .RAIL_SETPT r → (s.railE r).isSome = true → s.copies = false →
    (u16 (s.railD r) 8 ≤ v.toNat % 2 ^ 14 → v.toNat % 2 ^ 14 ≤ u16 (s.railD r) 10 →
      ∃ t : State, exec (.railSetptWrite r who v) s = t.wrote ∧ t.target r = v.toNat % 2 ^ 14 ∧ Frame [.rRAIL] s t) ∧
    (v.toNat % 2 ^ 14 < u16 (s.railD r) 8 ∨ u16 (s.railD r) 10 < v.toNat % 2 ^ 14 →
      ∃ t : State, exec (.railSetptWrite r who v) s = t.wrote ∧ t.target r = s.target r ∧ s.EventSet t .RAIL_EVT .RAIL_EVT_EN r 8 (64 + r))) ∧
  (∀ (s : State) (r : Fin 64) (who : Req) (v : W32) (hi : Bool),
    let reg : Reg := if hi = true then .RAIL_WSHED_HI else .RAIL_WSHED_LO
    let other : Reg := if hi = true then .RAIL_WSHED_LO else .RAIL_WSHED_HI
    s.Admits who reg r → (s.railE r).isSome = true →
      ∃ t : State, exec (.railWshedReadmit r hi who v) s = t.wrote ∧ t.rd reg r = s.rd reg r &&& ~~~v ∧ t.rd other r = s.rd other r ∧
        (∀ i, i < 32 → bit v.toNat i = true → s.getB reg r i = true → (if hi = true then 32 + i else i) ∈ (t.rl r).wback) ∧
        (∀ i, i ∈ (s.rl r).wback → i ∈ (t.rl r).wback) ∧ (∀ k, k ≠ r.val → t.rl k = s.rl k) ∧ Frame [.rail, .rRAIL] s t)

/-! ## The ledger (chapter 08) -/

/-- A changed entry of series i stays in the cache: it is cached already, or it is not a slow series with NOALLOC_SLOW (R297). -/
def Sys2Proof.Machine.State.serStays (s : State) (i : Nat) (b : Bytes) : Prop :=
  (tget? s.ldg.cache i).isSome = true ∨ bit (u8 s.ldgD 31) 0 = false ∨ serPeriod b < 65536

/-- The fields of entry c after an update of entry b with value v in tick n (R284 to R286). -/
structure Sys2Proof.Machine.Updated (b c : Bytes) (v : Int) (clamp fresh partner : Bool) (n : Nat) : Prop where
  last : s32 c 20 = v
  tick : u64 c 56 = n
  least : s32 c 24 = if fresh = true ∨ v < s32 b 24 then v else s32 b 24
  most : s32 c 28 = if fresh = true ∨ s32 b 28 < v then v else s32 b 28
  flags : serFl c flVALID = true ∧ serFl c flSTALE = false ∧ serFl c flCLAMP = clamp ∧ serFl c flERROR = (!partner && serFl b flERROR) ∧ serFl c flABSENT = serFl b flABSENT
  sums : if serFl b flSAT = false ∧ -2 ^ 63 ≤ sgn 64 (u64 b 32) + v ∧ sgn 64 (u64 b 32) + v < 2 ^ 63 ∧ u32 b 40 + 1 < 2 ^ 32
    then sgn 64 (u64 c 32) = sgn 64 (u64 b 32) + v ∧ u32 c 40 = u32 b 40 + 1 ∧ serFl c flSAT = false
    else u64 c 32 = u64 b 32 ∧ u32 c 40 = u32 b 40 ∧ serFl c flSAT = true
  hi : serFl c flHI = (bit (u8 b 1) 6 && (decide (v > s32 b 44) || (serFl b flHI && !decide (v < s32 b 44 - (u16 b 54 : Int)))))
  lo : serFl c flLO = (bit (u8 b 1) 7 && (decide (v < s32 b 48) || (serFl b flLO && !decide (v > s32 b 48 + (u16 b 54 : Int)))))
  rest : slice c 0 20 = slice b 0 20 ∧ slice c 44 8 = slice b 44 8 ∧ c.length = 64

/-- What the bus reports with a reply makes it an error (R292): a Completion status, a PLDM code or state, a PEC that FLAGS asks for, the STATUS of a poll frame. -/
def Sys2Proof.Machine.replyFails (d : Bytes) (x : Reply) : Bool :=
  (u8 d 2 == 1 && x.cpl != .ok) || (u8 d 2 == 2 && !(x.success && x.enabled)) || (u8 d 2 == 3 && u8 d 11 % 2 == 1 && !x.pecOk) || (u8 d 2 == 5 && u8 x.bytes 7 != 0)

/-- The ledger (R282 to R286, R291 to R298). -/
def Obligations.LedgerUpdatesSeriesAndKeepsPartners : Prop :=
  (∀ (b : Bytes) (v : Int) (clamp fresh partner : Bool) (n : Nat), b.length = 64 → -2 ^ 31 ≤ v → v < 2 ^ 31 → n < 2 ^ 64 →
    Updated b (serApply b v clamp fresh partner n).1 v clamp fresh partner n) ∧
  (∀ (s : State) (b : Bytes) (r : Int), s.serRange (u8 b 11) = none →
    s.serValue b r 1 = (let v := r * s32 b 12 / 65536 + s32 b 16; let w := max (-2 ^ 31) (min (2 ^ 31 - 1) v); (w, decide (w ≠ v)))) ∧
  (∀ (s : State) (i : BitVec 20), i.toNat < s.seriesCount → s.serOk i.toNat = true → serPeriod (s.ser i.toNat) ≠ 0 →
    let n := i.toNat
    let b := s.ser n
    let u := s.serSeen n
    let after (r : Int) (k : Nat) : Bytes := (serApply b (s.serValue b r 1).1 (s.serValue b r 1).2 (tget false s.ldg.fresh n) false k).1
    let due := (s.tick.count + n) % serPeriod b = 0 ∧ n ∉ s.ldg.done
    (∀ r key, tget? s.ldg.late n = some (r, key) → s.ldg.cursor ≤ n →
      (key ≠ serKey b → exec (.ledgerSeriesDue i) s = .next { u with ldg := { u.ldg with late := tdel u.ldg.late n } }) ∧
      (key = serKey b → s.ldgFull = true → exec (.ledgerSeriesDue i) s = .next u) ∧
      (key = serKey b → s.ldgFull = false → s.serStays n (after r (s.tick.count - 1)) →
        ∃ t, exec (.ledgerSeriesDue i) s = .next t ∧ t.ser n = after r (s.tick.count - 1) ∧ tget? t.ldg.late n = none ∧ tget false t.ldg.fresh n = false ∧ t.ldg.applied = s.ldg.applied + 1)) ∧
    (tget? s.ldg.late n = none ∨ n < s.ldg.cursor →
      (¬due ∨ serKind b ≠ 1 ∧ (2 ^ 20 + n < s.ldg.cursor ∨ s.ldgFull = true ∨ s.serSource b = none) → exec (.ledgerSeriesDue i) s = .next u) ∧
      (due → serKind b ≠ 1 → s.ldg.cursor ≤ 2 ^ 20 + n → s.ldgFull = false →
        (∀ r, s.serSource b = some r → s.serStays n (after r s.tick.count) →
          ∃ t, exec (.ledgerSeriesDue i) s = .next t ∧ t.ser n = after r s.tick.count ∧ tget false t.ldg.fresh n = false ∧ t.ldg.done = n :: s.ldg.done ∧ t.ldg.applied = s.ldg.applied + 1)) ∧
      (∀ p, due → serKind b = 1 → u16 b 2 = p → (s.partE p).isSome = true → (s.prtn p).absent = false → (s.prtn p).throttled = false →
        (∀ q, q ∈ s.ldg.polls → q.series ≠ n) → n ∉ s.ldg.waiting →
        let v : State := { u with ldg := { u.ldg with done := n :: u.ldg.done } }
        let w := if s.partnerFree p = true then v.inc .BSN_POOL_STAT 1 F.BSN_POOL_STAT.REFUSED 1 else v
        (s.mayPoll p = true → exec (.ledgerSeriesDue i) s = .next (v.issuePoll p n false)) ∧
        (s.mayPoll p = false → exec (.ledgerSeriesDue i) s = .next { w with ldg := { w.ldg with waiting := w.ldg.waiting ++ [n] } })))) ∧
  (∀ (s : State) (p i : Nat) (probe : Bool), s.grants 1 = true →
    let t := s.issuePoll p i probe
    let g := s.pickGranule
    t.ldg.polls = s.ldg.polls ++ [{ partner := p, req := pollReq ((s.partE p).getD []) (s.ser i) s.ldg.tag, series := i, tag := s.ldg.tag % 2 ^ 16, issued := s.tick.count, probe := probe, key := serKey (s.ser i), granule := g }] ∧
      t.ldg.tag = s.ldg.tag + 1 ∧ tget? t.basin g = some { pool := 1, stall := none }) ∧
  (∀ (s : State) (i : BitVec 20),
    (∀ r, tget? s.ldg.late i.toNat = some r →
      exec (.ledgerUpdateDiscard i) s = .next ({ s with ldg := { s.ldg with late := tdel s.ldg.late i.toNat } }.inc .LDG_SKIP 0 F.LDG_SKIP.COUNT 1)) ∧
    (tget? s.ldg.late i.toNat = none → exec (.ledgerUpdateDiscard i) s = .next s)) ∧
  (∀ (s : State) (p : BitVec 12) (tag : Nat) (x : Reply),
    let d := (s.partE p.toNat).getD []
    let found := if u8 d 2 = 5 then (if x.bytes.length = 12 ∧ be16 x.bytes 0 = 0x4C45 then s.findPoll p.toNat (be16 x.bytes 2) else none) else s.findPoll p.toNat tag
    (found = none → exec (.ledgerPartnerReply p tag x) s = exec (.ledgerUnsolicited p) s) ∧
    (found ≠ none → s.ldgFull = true → exec (.ledgerPartnerReply p tag x) s = .next s) ∧
    (found ≠ none → s.ldgFull = false → x.lost = true → ∀ k, partPort d = some (6, k) → s.partE p.toNat ≠ none →
      exec (.ledgerPartnerReply p tag x) s = exec (.ledgerPartnerReply p tag { x with lost := false }) (s.inc .PORT_ERR0 (portU 6 k) F.PORT_ERR0.ERRORS 1)) ∧
    (∀ q, found = some q → s.ldgFull = false →
      let b := s.ser q.series
      let y := if u8 d 2 = 5 then slice x.bytes 8 4 else x.bytes
      let ends (t : State) := (t.prtn p.toNat).timeouts = 0 ∧ (s.ldg.waiting = [] → q ∉ t.ldg.polls ∧ tget? t.basin q.granule = none)
      let raw := if replyFails d x = true ∨ lenFits (u8 d 2) (u32 b 4) (serFmt b) y.length = false then none else serRaw (serFmt b) (sgn 8 (u8 d 12)) y
      (∃ t, exec (.ledgerPartnerReply p tag x) s = .next t ∧ ends t) ∧
      (serKey b ≠ q.key ∨ s.polled q.series = false → ∃ t, exec (.ledgerPartnerReply p tag x) s = .next t ∧ ends t ∧ t.ldg.cache = s.ldg.cache ∧ t.mem = s.mem) ∧
      (serKey b = q.key → s.polled q.series = true →
        (∀ num den, raw = some (num, den) → q.probe = false →
          let c := (serApply b (s.serValue b num den).1 (s.serValue b num den).2 (tget false s.ldg.fresh q.series) true s.tick.count).1
          s.serStays q.series c → ∃ t, exec (.ledgerPartnerReply p tag x) s = .next t ∧ ends t ∧ t.ser q.series = c) ∧
        (raw ≠ none → q.probe = true → ∃ t, exec (.ledgerPartnerReply p tag x) s = .next t ∧ ends t ∧ (t.prtn p.toNat).absent = false) ∧
        (raw = none → s.serStays q.series b → b.length = 64 → ∃ t, exec (.ledgerPartnerReply p tag x) s = .next t ∧ ends t ∧
          serFl (t.ser q.series) flERROR = true ∧ (t.prtn p.toNat).cntErrors = min 65535 ((s.prtn p.toNat).cntErrors + 1))))) ∧
  (∀ (s : State) (p : BitVec 12) (d : Bytes), s.partE p.toNat = some d →
    let x := s.prtn p.toNat
    let us := s.tick.count :: x.unsol.filter (fun u => decide (s.tick.count < u + 1024))
    exec (.ledgerUnsolicited p) s = .next (s.setPrtn p.toNat { x with
      unsol := us, throttled := x.throttled || decide (u8 d 13 < us.length), quietFrom := s.tick.count, cntUnsol := min 65535 (x.cntUnsol + 1), skip := x.throttled && x.skip })) ∧
  (∀ (s : State) (p : BitVec 12) (tag : Nat),
    let x := s.prtn p.toNat
    (s.findPoll p.toNat tag = none → exec (.ledgerPollTimeout p tag) s = .next s) ∧
    (∀ q, s.findPoll p.toNat tag = some q →
      (∃ t, exec (.ledgerPollTimeout p tag) s = .next t ∧ (t.prtn p.toNat).timeouts = x.timeouts + 1 ∧ (t.prtn p.toNat).cntTimeouts = min 65535 (x.cntTimeouts + 1) ∧
        (t.prtn p.toNat).absent = (x.absent || decide (2 ≤ x.timeouts)) ∧ (s.ldg.waiting = [] → q ∉ t.ldg.polls)) ∧
      (x.timeouts < 2 ∨ x.absent = true → s.ldg.waiting = [] → exec (.ledgerPollTimeout p tag) s = .next
        ((s.pollEnd q).setPrtn p.toNat { x with timeouts := x.timeouts + 1, cntTimeouts := min 65535 (x.cntTimeouts + 1) })))) ∧
  (∀ (s : State) (p : BitVec 12) (d : Bytes) (i : Nat), s.partE p.toNat = some d → (s.prtn p.toNat).absent = true → (s.prtn p.toNat).probeAt ≤ s.tick.count → s.mayPoll p.toNat = true →
    (s.partSeries p.toNat).find? (fun i => decide (serPeriod (s.ser i) ≠ 0)) = some i →
    exec (.ledgerProbe p) s = .next ((s.setPrtn p.toNat { s.prtn p.toNat with probeAt := (s.prtn p.toNat).probeAt + 64 * u16 d 8 }).issuePoll p.toNat i true)) ∧
  (∀ (s : State) (i : BitVec 20), i.toNat < s.seriesCount → serPeriod (s.ser i.toNat) ≠ 0 → serKind (s.ser i.toNat) ≠ 0 → (s.ser i.toNat).length = 64 → s.serStays i.toNat (s.ser i.toNat) →
    (if serFl (s.ser i.toNat) flVALID = true then u64 (s.ser i.toNat) 56 else (tget (0, []) (s.serSeen i.toNat).ldg.writtenAt i.toNat).1) + 4 * serPeriod (s.ser i.toNat) ≤ s.tick.count →
    ∃ t, exec (.stale i) s = .next t ∧ serFl (t.ser i.toNat) flSTALE = true ∧ s32 (t.ser i.toNat) 20 = s32 (s.ser i.toNat) 20) ∧
  (∀ (s : State) (i : BitVec 20), i.toNat < s.seriesCount → serFl (s.ser i.toNat) flVALID = false → (tget? s.ldg.writtenAt i.toNat).map (·.2) ≠ some (serOwn (s.ser i.toNat)) →
    exec (.stale i) s = .next { s with ldg := { s.ldg with writtenAt := tset s.ldg.writtenAt i.toNat (s.tick.count, serOwn (s.ser i.toNat)) } }) ∧
  (∀ (s : State) (p : BitVec 12), (s.prtn p.toNat).throttled = true → (s.prtn p.toNat).quietFrom + 1024 ≤ s.tick.count →
    ∃ t, exec (.ledgerThrottleEnd p) s = .next t ∧ t.prtn p.toNat = { s.prtn p.toNat with throttled := false, skip := false, unsol := [] } ∧ t.ldg.polls = s.ldg.polls) ∧
  (∀ (s : State) (i : BitVec 20) (e : CacheEnt), Memory.wf s.mem = true → u32 s.ldgD 12 ≠ 0 → tget? s.ldg.cache i.toNat = some e → e.dirty = true → e.bytes.length = 64 →
    s.memOpen ledReq (s.serAddr i.toNat) 64 true = true →
    ∃ t, exec (.ledgerWriteback i) s = .next t ∧ t.mread (s.serAddr i.toNat) 64 = e.bytes ∧ t.ser i.toNat = e.bytes ∧ tget? t.ldg.cache i.toNat = some { e with dirty := false } ∧
      (∀ a, a < s.serAddr i.toNat ∨ s.serAddr i.toNat + 64 ≤ a → t.mget a = s.mget a))

/-- A ledger command has started with a code (R300). -/
def Sys2Proof.Machine.State.ldgRuns (t : State) (code : Nat) : Prop := t.ldg.busy = true ∧ t.ldg.code = code

/-- WRITE has changed series i (R278, R281, R285): firmware's bytes are those of LDG_DATA, the engine keeps its own; no update has come yet, and the next one starts MIN and MAX. -/
structure Sys2Proof.Machine.State.Written (s t : State) (i : Nat) : Prop where
  mine : ∀ k, k < 5 ∨ k = 11 ∨ k = 12 → u32 (t.ser i) (4 * k) = (s.rd .LDG_DATA k).toNat
  hyst : slice (t.ser i) 54 2 = slice s.ldgEntry 54 2
  engine : slice (t.ser i) 20 24 = slice (s.ser i) 20 24 ∧ slice (t.ser i) 56 8 = slice (s.ser i) 56 8
  flags : serFl (t.ser i) flVALID = false ∧ serFl (t.ser i) flSTALE = false ∧ serFl (t.ser i) flSAT = serFl (s.ser i) flSAT
  starts : tget false t.ldg.fresh i = true ∧ tget? t.ldg.writtenAt i = some (s.tick.count, serOwn s.ldgEntry)

/-- The commands of LDG_CMD (R284, R299, R300, R302). -/
def Obligations.LedgerCommandsReadWriteAndFlush : Prop :=
  (∀ (s : State) (who : Req) (v : W32), s.Admits who .LDG_CMD 0 → s.ldg.busy = true → ∃ t : State, exec (.ldgWrite who v) s = t.wrote ∧ Frame [.rLDG] s t) ∧
  (∀ (s : State) (who : Req) (v : W32), s.Admits who .LDG_CMD 0 → s.ldg.busy = false →
    let i := v.toNat % 2 ^ 20
    (s.seriesCount ≤ i → ∀ c, c ∈ [Instr.ldgRead who v, .ldgWrite who v, .resetStats who v, .push who v, .flushOne who v] →
      ∃ t : State, exec c s = t.wrote ∧ t.ldgRuns 1 ∧ t.ldg.cache = s.ldg.cache ∧ t.mem = s.mem) ∧
    (i < s.seriesCount → s.serOk i = false → ∀ c, c ∈ [Instr.ldgRead who v, .ldgWrite who v, .resetStats who v, .push who v] →
      ∃ t : State, exec c s = t.wrote ∧ t.ldgRuns 2 ∧ t.ldg.cache = s.ldg.cache ∧ t.mem = s.mem) ∧
    (i < s.seriesCount → s.serOk i = true →
      (∃ t : State, exec (.ldgRead who v) s = t.wrote ∧ t.ldgRuns 0 ∧ (∀ k, k < 16 → t.rd .LDG_DATA k = BitVec.ofNat 32 (u32 (s.ser i) (4 * k))) ∧ t.ldg.cache = s.ldg.cache) ∧
      (let b := s.ser i
       let c := serSetFl (putAt (putAt b 32 (leBytes 8 0)) 40 (leBytes 4 0)) flSAT false
       s.serStays i b → b.length = 64 → ∃ t : State, exec (.resetStats who v) s = t.wrote ∧ t.ldgRuns 0 ∧ t.ser i = c ∧ tget false t.ldg.fresh i = true ∧
        u64 c 32 = 0 ∧ u32 c 40 = 0 ∧ serFl c flSAT = false ∧ slice c 0 32 = slice b 0 32) ∧
      (serKind (s.ser i) ≠ 8 → ∃ t : State, exec (.push who v) s = t.wrote ∧ t.ldgRuns 3 ∧ t.ldg.cache = s.ldg.cache ∧ t.mem = s.mem) ∧
      (serKind (s.ser i) = 8 → serPeriod (s.ser i) = 0 → ∃ t : State, exec (.push who v) s = t.wrote ∧ t.ldgRuns 0 ∧ t.ldg.cache = s.ldg.cache ∧ t.mem = s.mem) ∧
      (serKind (s.ser i) = 8 → serPeriod (s.ser i) ≠ 0 →
        let x := s.serValue (s.ser i) (s.rd .LDG_DATA 0).toInt 1
        let c := (serApply (s.ser i) x.1 x.2 (tget false s.ldg.fresh i) false s.tick.count).1
        s.serStays i c → ∃ t : State, exec (.push who v) s = t.wrote ∧ t.ldgRuns 0 ∧ t.ser i = c) ∧
      ((s.ser i).length = 64 → s.serStays i s.ldgEntry → ∃ t : State, exec (.ldgWrite who v) s = t.wrote ∧ t.ldgRuns 0 ∧ s.Written t i)) ∧
    (i < s.seriesCount →
      ((∀ e, tget? s.ldg.cache i = some e → e.dirty = true → s.memOpen ledReq (s.serAddr i) e.bytes.length true = true) →
        ∃ t : State, exec (.flushOne who v) s = t.wrote ∧ t.ldgRuns 0 ∧ tget? t.ldg.cache i = none ∧ (∀ k, k ≠ i → tget? t.ldg.cache k = tget? s.ldg.cache k)) ∧
      (∀ e, tget? s.ldg.cache i = some e → e.dirty = true → s.memOpen ledReq (s.serAddr i) e.bytes.length true = false →
        ∃ t : State, exec (.flushOne who v) s = t.wrote ∧ t.ldgRuns 2 ∧ t.ldg.cache = s.ldg.cache ∧ t.mem = s.mem)) ∧
    ((∀ k e, tget? s.ldg.cache k = some e → e.dirty = true → s.memOpen ledReq (s.serAddr k) e.bytes.length true = true) →
      (∃ t : State, exec (.flushAll who v) s = t.wrote ∧ t.ldgRuns 0 ∧ ∀ k, tget? t.ldg.cache k = (tget? s.ldg.cache k).map (fun e => { e with dirty := false })) ∧
      (∃ t : State, exec (.invalAll who v) s = t.wrote ∧ t.ldgRuns 0 ∧ ∀ k, tget? t.ldg.cache k = none))) ∧
  (∀ s : State, s.ldg.busy = false → exec .ldgCmdDone s = .next s) ∧
  (∀ s : State, s.ldg.busy = true → exec .ldgCmdDone s = .next ({ s with ldg := { s.ldg with busy := false } }.wr .LDG_CMD_STAT 0 (BitVec.ofNat 32 (2 ^ 31 + s.ldg.code))))

/-- The fields of a received heartbeat's AT, as the edge it names at or after tick n. -/
def Sys2Proof.Machine.hbAt (b : Bytes) (n : Nat) : Nat := n + (u32 b 4 + 2 ^ 32 - n % 2 ^ 32) % 2 ^ 32

/-- An edge of a running tick of a package of a pair, at which nothing else changes its acting state: no unit action waits, no amendment is committed, and TICK_IN, if it is followed, lies near. -/
structure Sys2Proof.Machine.State.PairEdge (s : State) (err : BitVec 16) : Prop where
  ticks : s.ticking = true
  lit : s.tick.dark = false
  pair : s.paired = true
  act : s.pwr.act = none
  amend : ∀ a, s.img.held = some a → a.committed = false
  near : s.onTickIn = false ∨ err.toInt.natAbs ≤ 48

/-- The package has left DRIVING for a: drivers off, PAIR_OWN_N released. -/
def Sys2Proof.Machine.State.Left (t : State) (a : Act) : Prop := t.cmp.act = a ∧ t.pins.plOn = false ∧ t.pins.ownOut = false ∧ t.cmp.handoff = none

/-- The package has entered DRIVING: drivers on, PAIR_OWN_N pulled low, the tick from REFCLK. -/
def Sys2Proof.Machine.State.Drives (t : State) : Prop :=
  t.cmp.act = .driving ∧ t.pins.plOn = true ∧ t.pins.ownOut = true ∧ t.pins.ownHigh = false ∧ t.cmp.handoff = none ∧ t.onTickIn = false

/-- The tick of the last takeover, yield or handoff is m. -/
def Sys2Proof.Machine.State.Took (t : State) (m : Nat) : Prop :=
  t.rd .CMP_TAKE_TICK_LO 0 = BitVec.ofNat 32 m ∧ t.rd .CMP_TAKE_TICK_HI 0 = BitVec.ofNat 32 (m / 2 ^ 32)

/-- In the tick that ends, what a shadow would have sent for rail r differs from what it heard (R313). -/
def Sys2Proof.Machine.State.mirrorBad (s : State) (r : Nat) : Prop :=
  (∃ i, i < (s.phasesOf r).length ∧ mirrorDiff (u16 s.cmpD 2) (tget? (s.rl r).mine i) (tget? (s.rl r).heard i) = true) ∨ ∃ i ∈ (s.rl r).ovrHeard, i ∉ (s.rl r).ovrMine

/-- The commands that come from the pair's wires and link (R303 to R325). -/
def Obligations.CompanionEventsFollowTheirRules : Prop :=
  (∀ (s : State) (b : Bytes),
    (s.paired = false ∨ s.cmp.link = false ∨ hbWhole b = false → exec (.companionHeartbeat b) s = .next s) ∧
    (s.paired = true → s.cmp.link = true → s.hbValid b = false → hbWhole b = true → u64 b 8 ≠ s.tick.count →
      let eqDig := slice b 24 8 == s.pairDigest
      ∃ t, exec (.companionHeartbeat b) s = .next t ∧ Frame [.cmp] s t ∧ t.cmp.act = s.cmp.act ∧ t.cmp.hb = s.cmp.hb ∧
        (s.cmp.grant = none → t.cmp.grant.isSome = (s.cmp.act == .driving && hbAct b == 2 && s.joinEn && eqDig && !hbFlag b 2)) ∧
        (s.cmp.act = .detached → hbAct b = 0 → hbFlag b 4 = true → eqDig = true → u64 b 8 < hbAt b (u64 b 8) →
          t.cmp.joinAt = some (hbAt b (u64 b 8), hbAt b (u64 b 8) - u64 b 8, u64 b 16 + (hbAt b (u64 b 8) - u64 b 8) * s.tlen)) ∧
        (s.cmp.act ≠ .detached → t.cmp.joinAt = s.cmp.joinAt)) ∧
    (s.paired = true → s.cmp.link = true → s.hbValid b = true →
      let eqDig := slice b 24 8 == s.pairDigest
      let joins := s.cmp.act = .joining ∧ hbAct b = 0 ∨ s.cmp.act = .driving ∧ hbAct b = 3
      ∃ t, exec (.companionHeartbeat b) s = .next t ∧ Frame [.pins, .cmp, .core, .evd, .pwr, .rCMP, .rEVD, .rPWR] s t ∧
        t.cmp.hb = some b ∧ t.cmp.hbTick = s.tick.count ∧ t.cmp.gpio = ofBytes (slice b 40 16) ∧ t.cmp.lost = false ∧ t.cmp.act = s.cmp.act ∧ t.cmp.role = s.cmp.role ∧
        t.pins = { s.pins with fenceLow := s.pins.fenceOut || hbFlag b 1, ownHigh := t.pins.ownHigh } ∧
        (s.pins.ownHigh = false ∨ hbAct b ≠ 0 ∨ (∃ o, s.cmp.hb = some o ∧ hbAct o = 0) → t.pins.ownHigh = s.pins.ownHigh) ∧ t.gb .CMP_STATUS 0 F.CMP_STATUS.DIGEST_OK = eqDig ∧
        (s.cmp.lost = true → s.EventSet t .CMP_EVT .CMP_EVT_EN 0 7 1248) ∧
        (joins → eqDig = false → s.EventSet t .CMP_EVT .CMP_EVT_EN 0 10 1248) ∧
        (hbFlag b 2 = true → hbAct b = 3 → (∃ o, s.cmp.hb = some o ∧ hbFlag o 2 = false) → s.EventSet t .CMP_EVT .CMP_EVT_EN 0 9 1248) ∧
        (s.cmp.role = 1 → hbRole b = 1 → s.gb .CMP_STATUS 0 F.CMP_STATUS.DUALPRI = false →
          t.gb .CMP_STATUS 0 F.CMP_STATUS.DUALPRI = true ∧ s.EventSet t .CMP_EVT .CMP_EVT_EN 0 12 1248 ∧ (u64 b 32 < s.keep.serial.toNat → t.cmp.dual = true)) ∧
        (s.cmp.grant = none → t.cmp.grant.isSome = (s.cmp.act == .driving && s.joinEn && hbAct b == 3 && eqDig && !hbFlag b 2)) ∧
        (∀ j, s.cmp.grant = none → t.cmp.grant = some j → s.tick.count + 5 ≤ j) ∧ (∀ j, s.cmp.grant = some j → t.cmp.grant = some j) ∧
        (s.cmp.act = .joining → hbAct b = 0 → hbFlag b 4 = true → eqDig = true → s.cmp.counted = false → s.gb .TICK_STATUS 0 F.TICK_STATUS.ALIGNED = true → u64 b 8 < hbAt b (u64 b 8) →
          t.cmp.joinAt = some (hbAt b (u64 b 8), hbAt b (u64 b 8) - u64 b 8, u64 b 16 + (hbAt b (u64 b 8) - u64 b 8) * s.tlen)) ∧
        t.cmp.handoff = if s.cmp.act = .shadow ∧ s.cmp.ready = true ∧ hbAct b = 0 ∧ hbFlag b 3 = true ∧ s.cmp.handoff = none ∧ hbAt b s.tick.count = s.tick.count + 2 then some (hbAt b s.tick.count, false) else s.cmp.handoff)) ∧
  (∀ s : State, s.paired = true → s.cmp.lost = false → 3 ≤ s.cmp.hbLost ∨ s.cmp.link = false →
    ∃ t, exec .hbLost s = .next t ∧ t.cmp = { s.cmp with lost := true } ∧ s.EventSet t .CMP_EVT .CMP_EVT_EN 0 6 1248 ∧
      t.gf .CMP_HB_MISS 0 F.CMP_HB_MISS.COUNT = min F.CMP_HB_MISS.COUNT.max (s.gf .CMP_HB_MISS 0 F.CMP_HB_MISS.COUNT + 1) ∧ Frame [.cmp, .core, .evd, .pwr, .rCMP, .rEVD, .rPWR] s t) ∧
  (∀ (s : State) (b : Bytes), s.paired = true → s.cmp.act ≠ .driving → s.cmp.act ≠ .blocked →
    let r := u8 b 0 % 64
    let good := b.length = 24 ∧ crc8 ((b.take 7 ++ b.drop 8).map (·.toNat)) = u8 b 7 ∧ (u16 b 4 + 1) % 65536 = s.tick.count % 65536 ∧
      (∀ h, s.hbIn s.tick.count = some h → slice h 24 8 = s.pairDigest) ∧ (s.hbIn s.tick.count = none → s.gb .CMP_STATUS 0 F.CMP_STATUS.DIGEST_OK = true)
    (¬good → exec (.handoverRecordRx b) s = .next (s.inc .CMP_REC_ERR 0 F.CMP_REC_ERR.COUNT 1)) ∧
    (good → (s.railE r).isSome = true → ∃ t, exec (.handoverRecordRx b) s = .next t ∧ Frame [.rail] s t ∧ (∀ k, k ≠ r → t.rl k = s.rl k) ∧
      (s.copies = false → t.rl r = { s.rl r with recIn := some b, recTick := some s.tick.count }) ∧
      (s.copies = true → t.rl r = { s.rl r with
        recIn := some b, recTick := some s.tick.count, st := RState.ofCode (u8 b 1 % 16), pg := bit (u8 b 1) 4, s := u16 b 2 % 16384, nrec := u8 b 6 % 128 }))) ∧
  (∀ s : State, s.paired = true →
    ∃ t, exec .companionLinkDown s = .next t ∧ t.cmp.link = false ∧ t.cmp.lost = true ∧ t.cmp.joinRun = 0 ∧ t.cmp.hbOut = [] ∧ t.cmp.recOut = [] ∧ t.cmp.ready = false ∧
      t.cmp.act = (if s.cmp.act = .shadow then .detached else s.cmp.act) ∧ t.cmp.mig = s.cmp.mig.map (fun x => (if x.1 = 0 then 2 else x.1, x.2)) ∧ (s.cmp.lost = false → s.EventSet t .CMP_EVT .CMP_EVT_EN 0 6 1248) ∧
      Frame [.cmp, .core, .evd, .pwr, .rCMP, .rEVD, .rPWR] s t) ∧
  (∀ s : State, s.paired = true → u8 s.cmpD 1 ≠ 0 → exec .companionLinkUp s = .next { s with cmp := { s.cmp with link := true } }) ∧
  (∀ s : State, s.paired = true → s.cmp.link = true → 16 ≤ s.cmp.joinRun → (s.cmp.role = 2 → s.gb .TICK_STATUS 0 F.TICK_STATUS.ALIGNED = true) →
    s.cmp.act = .detached ∨ (s.cmp.act = .joining ∧ s.cmp.leave = false ∧ s.joinEn = true ∧ s.cmp.counted = true) →
    ∃ t, exec .joined s = .next t ∧ t.cmp = { s.cmp with act := .shadow, ready := true } ∧ s.EventSet t .CMP_EVT .CMP_EVT_EN 0 8 1248 ∧
      (∀ r, (t.rl r).offNext = false) ∧ Frame [.cmp, .rail, .seq, .core, .evd, .pwr, .rCMP, .rEVD, .rPWR] s t) ∧
  (∀ s : State, exec .ownWatchdog s = .next { s with pins := { s.pins with ownOut := false } }) ∧
  (∀ s : State, s.pins.ownOut = false → s.pins.ownHigh = false → exec .pairOwnHigh s = .next { s with pins := { s.pins with ownHigh := true, ownHighAt := s.tick.tb } }) ∧
  (∀ s : State, (s.paired = false ∨ s.pins.fenceOut = true → exec .pairFenceLow s = .next s) ∧
    (s.paired = true → s.pins.fenceOut = false → ∃ t, exec .pairFenceLow s = .next t ∧ t.cmp.act = .fenced ∧ t.cmp.ready = false ∧ t.cmp.fenceReq = false ∧
      t.pins = { s.pins with fenceLow := true, plOn := false, ownOut := false } ∧ s.EventSet t .CMP_EVT .CMP_EVT_EN 0 3 1248 ∧
      Frame [.pins, .port, .rail, .seq, .cmp, .core, .evd, .pwr, .rPL, .rCMP, .rEVD, .rPWR] s t)) ∧
  (∀ s : State, s.cmp.fenceReq = true →
    (s.pins.fenceLow = false → s.cmp.act = .shadow ∨ s.cmp.act = .driving → ∃ t, exec .fenceAssert s = .next t ∧ t.cmp = { s.cmp with fenceReq := false } ∧
      t.pins = { s.pins with fenceOut := true, fenceLow := true } ∧ s.EventSet t .CMP_EVT .CMP_EVT_EN 0 4 1248) ∧
    (s.pins.fenceLow = true ∨ (s.cmp.act ≠ .shadow ∧ s.cmp.act ≠ .driving) → exec .fenceAssert s = .next { s with cmp := { s.cmp with fenceReq := false } })) ∧
  (∀ (s : State) (code : Fin 5) (k st : Nat) (b : Bytes), s.cmp.mig = some (k, st, b) →
    let ends (c : Nat) (out : Bytes) := ∃ t, exec (.migDone code) s = .next t ∧ t.cmp = { s.cmp with mig := none, migOut := out } ∧
      t.rd .CMP_MIG_STAT 0 = BitVec.ofNat 32 (2 ^ 31 + c) ∧ s.EventSet t .CMP_EVT .CMP_EVT_EN 0 14 1248 ∧ Frame [.cmp, .core, .evd, .pwr, .rCMP, .rEVD, .rPWR] s t
    (k ≠ 0 → ends k s.cmp.migOut) ∧
    (k = 0 → code.val ≤ 1 → s.sendsLink = true → s.cmp.act ≠ .joining → ends code (b ++ leBytes 4 (crc32 b)))) ∧
  (∀ (s : State) (b : Bytes) (st : BitVec 8), b.length = 4096 → s.paired = true → s.cmp.link = true →
    let a := s.addr64 .CMP_MIG_RX_LO .CMP_MIG_RX_HI 0 / 4096 * 4096
    (s.gb .CMP_MIG_RXSTAT 0 F.CMP_MIG_RXSTAT.FULL = true → exec (.migRx b st) s = .next s) ∧
    (s.gb .CMP_MIG_RXSTAT 0 F.CMP_MIG_RXSTAT.FULL = false → s.memOpen cmpReq a 4096 true = true → Memory.wf s.mem = true →
      ∃ t, exec (.migRx b st) s = .next t ∧ t.mread a 4096 = b ∧ (∀ k, k < a ∨ a + 4096 ≤ k → t.mget k = s.mget k) ∧
        t.rd .CMP_MIG_RXSTAT 0 = BitVec.ofNat 32 (2 ^ 31 + s.classOf 0xF0 0 * 256 + st.toNat) ∧ s.EventSet t .CMP_EVT .CMP_EVT_EN 0 13 1248)) ∧
  (∀ (s : State) (err : BitVec 16) (x : EdgeIn), s.PairEdge err →
    let m := s.tick.count + 1
    let c := s.cmp
    let got := (s.hbIn s.tick.count).isSome = true
    ∃ t, exec (.tickEdge err x) s = .next t ∧
      (t.sendsLink = true → t.cmp.hbOut = t.mkHb ∧ t.cmp.recOut = if t.cmp.act = .driving then t.endedRecs else []) ∧ (t.sendsLink = false → t.cmp.hbOut = [] ∧ t.cmp.recOut = []) ∧
      (got → t.cmp.hbLost = 0) ∧ (¬got → t.cmp.hbLost = c.hbLost + 1 ∧ t.cmp.handoff = none) ∧
      (c.act = .fenced → t.cmp.act = .fenced) ∧
      (c.act ≠ .fenced → c.leavePend = true → t.cmp.act = .joining ∧ t.cmp.leavePend = false ∧ t.cmp.ready = false ∧ t.cmp.counted = false ∧ s.EventSet t .CMP_EVT .CMP_EVT_EN 0 9 1248) ∧
      (c.act ≠ .fenced → c.leavePend = false →
        (c.dual = true → t.Left (if s.follow = true then .joining else .blocked) ∧ t.cmp.role = 2 ∧ t.cmp.dual = false) ∧
        (c.dual = false →
          (c.act = .driving → c.yield = true → s.yieldEn = true → s.peerReady s.tick.count = true → t.Left .shadow ∧ t.Took m ∧ s.EventSet t .CMP_EVT .CMP_EVT_EN 0 1 1248) ∧
          (∀ h gives, c.handoff = some (h, gives) → got → c.yield = false → (∀ j, (s.leAt j).badRun = 0) →
            (h ≤ m → gives = true → t.Left .shadow ∧ t.Took m ∧ s.EventSet t .CMP_EVT .CMP_EVT_EN 0 2 1248) ∧
            (h ≤ m → gives = false → t.Drives ∧ t.Took m ∧ s.EventSet t .CMP_EVT .CMP_EVT_EN 0 2 1248) ∧
            (h = m + 1 → gives = false → t.cmp.act = c.act ∧ t.pins.ownOut = true ∧ t.pins.ownHigh = false)) ∧
          (∀ h, c.handoff = some (h, false) → ¬got → c.act ≠ .driving → s.pins.ownHigh = false → t.cmp.act = c.act ∧ t.pins.ownOut = false) ∧
          (c.handoff = none → c.act = .shadow ∨ c.act = .detached → s.cmp.joinAt = none →
            (s.pins.ownHigh = false ∨ t.tick.tb < s.pins.ownHighAt + 12 → t.cmp.act = c.act) ∧
            (s.pins.ownHigh = true → s.pins.ownHighAt + 12 ≤ t.tick.tb →
              (c.link = true → (∃ b, s.hbIn s.tick.count = some b ∧ hbAct b = 0) → t.cmp.act = c.act ∧ t.gb .CMP_STATUS 0 F.CMP_STATUS.WIREFAULT = true ∧ s.EventSet t .CMP_EVT .CMP_EVT_EN 0 11 1248) ∧
              (c.link = false ∨ (∀ b, s.hbIn s.tick.count = some b → hbAct b ≠ 0) → t.Drives ∧ t.Took m ∧ s.EventSet t .CMP_EVT .CMP_EVT_EN 0 0 1248))))) ∧
      (∀ r, r ∈ s.rails → c.act = .shadow → (s.rl r).st.live = true → s.mirrorBad r → u8 s.cmpD 4 ≤ (s.rl r).mismRun + 1 →
        t.gb .CMP_MISMATCH 0 F.CMP_MISMATCH.VALID = true ∧ s.EventSet t .CMP_EVT .CMP_EVT_EN 0 5 1248 ∧ (s.fenceEn = true → t.cmp.fenceReq = true)) ∧
      (∀ r, s.rails.count r = 1 → c.act = .shadow → (s.rl r).st.live = true → t.cmp.act = .shadow →
        (s.mirrorBad r → (t.rl r).mismRun = (s.rl r).mismRun + 1) ∧ (¬s.mirrorBad r → (t.rl r).mismRun = 0)) ∧
      (∀ j left tb, c.joinAt = some (j, left, tb) → c.act = .fenced ∨ c.leavePend = false →
        (left ≤ 1 → t.tick.count = j ∧ t.tick.edgeTb = tb ∧ t.tick.tb = tb ∧ t.cmp.counted = true ∧ t.cmp.joinAt = none) ∧ (1 < left → t.tick.count = m ∧ t.cmp.joinAt = some (j, left - 1, tb)))) ∧
  (∀ s : State, s.cmp.role ≤ 2 → hbWhole s.mkHb = true ∧ hbAct s.mkHb = s.cmp.act.code ∧ hbRole s.mkHb = s.cmp.role ∧ u64 s.mkHb 8 = s.tick.count % 2 ^ 64 ∧ slice s.mkHb 24 8 = s.pairDigest ∧
    hbFlag s.mkHb 0 = (s.cmp.act == .shadow && s.cmp.ready) ∧ hbFlag s.mkHb 1 = s.pins.fenceOut) ∧
  (∀ (s : State) (k : Nat), s.stepGpio k = true → ((s.takeGpio k).stepAt k).out = bit s.cmp.gpio k ∧ ((s.takeGpio k).stepAt k).st = if bit s.cmp.gpio k = true then .regulate else .off)

/-- A CMP_CTL word w, written, is acted on: bit by bit as R316, R318, R319, R321 and R322 say. `net` tells that PAIR_FENCE_N reads low. -/
structure Sys2Proof.Machine.State.CmpCtlDone (s t : State) (w : W32) (net : Bool) : Prop where
  handoff : t.cmp.handoff = if bit w.toNat 0 = true ∧ s.cmp.act = .driving ∧ s.paired = true ∧ (s.peerReady s.tick.count = true ∨ s.peerReady (s.tick.count - 1) = true) ∧ s.cmp.handoff = none
    then some (s.tick.count + 3, true) else s.cmp.handoff
  fence : t.cmp.fenceReq = (s.cmp.fenceReq || (bit w.toNat 1 && s.paired && (s.cmp.act == .shadow || s.cmp.act == .driving)))
  release : t.pins.fenceOut = (s.pins.fenceOut && !bit w.toNat 2)
  act : t.cmp.act = if bit w.toNat 3 = true ∧ s.cmp.act = .fenced ∧ net = false then .detached else s.cmp.act
  leave : t.cmp.leave = if bit w.toNat 5 = true ∧ (s.cmp.act = .shadow ∨ s.cmp.act = .detached) then true else s.cmp.leave && !bit w.toNat 4
  leaving : t.cmp.leavePend = (s.cmp.leavePend || (bit w.toNat 5 && (s.cmp.act == .shadow || s.cmp.act == .detached)))
  rejoin : bit w.toNat 4 = true → s.cmp.act = .joining → t.cmp.joinRun = 0 ∧ t.cmp.joinAt = none ∧ t.cmp.counted = false
  refused : t.gb .CMP_STATUS 0 F.CMP_STATUS.CTLREF = (
    (bit w.toNat 0 && !(s.cmp.act == .driving && s.paired && (s.peerReady s.tick.count || s.peerReady (s.tick.count - 1)) && s.cmp.handoff.isNone)) ||
    (bit w.toNat 1 && !(s.paired && (s.cmp.act == .shadow || s.cmp.act == .driving))) || (bit w.toNat 3 && !(s.cmp.act == .fenced && !net)) ||
    (bit w.toNat 5 && !(s.cmp.act == .shadow || s.cmp.act == .detached)))
  frame : Frame [.pins, .cmp, .rCMP] s t

/-- The requests of the CMP block. The last premise of the first clause leaves out the one case in which the level of PAIR_FENCE_N is free (log entry 98). -/
def Obligations.CompanionRequestsActOrAreRefused : Prop :=
  (∀ (s : State) (who : Req) (v : W32), s.Admits who .CMP_CTL 0 → s.pins.fenceLow = false ∨ s.pins.fenceOut = true ∨ s.cmp.hbLost = 0 →
    ∀ c k, (c, k) ∈ [(Instr.handoff who v, (1 : W32)), (.fence who v, 2), (.fenceRel who v, 4), (.unfence who v, 8), (.join who v, 16), (.leave who v, 32)] →
      ∃ t : State, exec c s = t.wrote ∧ s.CmpCtlDone t (v ||| k) s.pins.fenceLow) ∧
  (∀ (s : State) (who : Req) (v : W32), s.Admits who .CMP_CTL 0 → s.cmp.act ≠ .fenced →
    ∀ c k, (c, k) ∈ [(Instr.handoff who v, (1 : W32)), (.fence who v, 2), (.fenceRel who v, 4), (.unfence who v, 8), (.join who v, 16), (.leave who v, 32)] →
      ∃ t : State, exec c s = t.wrote ∧ s.CmpCtlDone t (v ||| k) true) ∧
  (∀ (s : State) (who : Req) (v : W32), s.Admits who .CMP_MIG_CTL 0 →
    let a := s.addr64 .CMP_MIG_ADDR_LO .CMP_MIG_ADDR_HI 0 / 4096 * 4096
    ∃ t : State, exec (.migSend who v) s = t.wrote ∧
      t.cmp = (if s.cmp.mig.isSome = true then s.cmp else { s.cmp with mig := some (
        if s.paired = false ∨ s.cmp.link = false then (4, v.toNat % 256, []) else if s.memOpen cmpReq a 4096 false = false then (3, v.toNat % 256, []) else (0, v.toNat % 256, s.mread a 4096)) }) ∧ t.gf .CMP_MIG_CTL 0 F.CMP_MIG_CTL.STALL = v.toNat % 256 ∧ Frame [.cmp, .rCMP] s t) ∧
  (∀ (s : State) (who : Req) (v : W32), s.Admits who .CMP_MIG_RXSTAT 0 →
    ∃ t : State, exec (.migRxFree who v) s = t.wrote ∧ t.rd .CMP_MIG_RXSTAT 0 = s.rd .CMP_MIG_RXSTAT 0 &&& 0x7FFFFFFF ∧ Frame [.rCMP] s t)

/-- EVD_ACK and EVD_EOI (R442, R443). The running priority is the lowest PRIO among the sources that the target has acknowledged and not yet ended, or 16 (R438). -/
def Obligations.AcknowledgeAndEndOfInterrupt : Prop :=
  (∀ (s : State) (q : Req) (n : Fin 32), q.agent = .core n → s.Shows q .EVD_ACK 0 →
    (tget? s.evd.pres n = none → exec (.evdAck q) s = s.showed 0x000FFFFF) ∧
    (∀ x, x < 2048 → tget? s.evd.pres n = some x → s.prio x < s.rpr n →
      ∃ t : State, exec (.evdAck q) s = t.showed (BitVec.ofNat 32 (s.prio x * 2 ^ 16 + x)) ∧ t.evPend x = false ∧ t.evAct x = true ∧ tget? t.evd.pres n = none ∧ t.rpr n = s.prio x ∧
        (∀ y, y < 2048 → y ≠ x → t.evPend y = s.evPend y ∧ t.evAct y = s.evAct y) ∧ (∀ y, t.evEn y = s.evEn y ∧ t.route y = s.route y ∧ t.prio y = s.prio y) ∧
        (∀ k : Nat, k ≠ n → tget? t.evd.pres k = tget? s.evd.pres k) ∧ Frame [.evd, .rEVD] s t)) ∧
  (∀ (s : State) (q : Req) (n : Fin 32) (v : W32), q.agent = .core n → s.Admits q .EVD_EOI 0 →
    let x := v.toNat % 2 ^ 16
    (x < 2048 → tget? s.evd.actOn x = some n.val →
      ∃ t : State, exec (.evdEoi q v) s = t.wrote ∧ t.evAct x = false ∧ t.rpr n ≤ 16 ∧ (∀ y, tget? t.evd.actOn y = if y = x then none else tget? s.evd.actOn y) ∧
        (∀ y m, (y, m) ∈ t.evd.actOn → m = n.val → t.rpr n ≤ s.prio y) ∧ (t.rpr n = 16 ∨ ∃ y, (y, n.val) ∈ t.evd.actOn ∧ t.rpr n = s.prio y) ∧
        (∀ y, y < 2048 → y ≠ x → t.evAct y = s.evAct y) ∧ (∀ y, t.evPend y = s.evPend y) ∧ t.evd.pres = s.evd.pres ∧ Frame [.evd, .rEVD] s t) ∧
    (¬(x < 2048 ∧ tget? s.evd.actOn x = some n.val) → exec (.evdEoi q v) s = (s.inc .EVD_TGT_STAT n F.EVD_TGT_STAT.BADEOI 1).wrote))

/-- From s to t every presentation that may no longer stand is withdrawn, and nothing else of the distributor's own changes. -/
structure Sys2Proof.Machine.State.Withdraws (s t : State) : Prop where
  pres : t.evd.pres = s.evd.pres.filter (fun e => t.mayStand e.2 e.1)
  act : t.evd.actOn = s.evd.actOn
  mod : t.evd.modAt = s.evd.modAt

/-- Sources of the distributor that t may take now. -/
def Sys2Proof.Machine.State.mayTake (s : State) (t x : Nat) : Prop := x < 2048 ∧ s.eligible x t = true

/-- The requests and the events of the distributor (R432 to R444). -/
def Obligations.EventDistributorPresentsAndWithdraws : Prop :=
  (∀ (s : State) (t : Fin 32),
    ((∀ x, ¬s.mayTake t x) → exec (.evdPresentation t) s = .next s) ∧
    (∀ x y, s.mayTake t x → tget? s.evd.pres t = some y → (∀ z, s.mayTake t z → s.prio y ≤ s.prio z) → exec (.evdPresentation t) s = .next s) ∧
    (∀ x, s.mayTake t x → (∀ z, s.mayTake t z → s.prio x < s.prio z ∨ s.prio x = s.prio z ∧ x ≤ z) → (∀ y, tget? s.evd.pres t = some y → s.prio x < s.prio y) →
      ∃ u, exec (.evdPresentation t) s = .next u ∧ tget? u.evd.pres t = some x ∧ (∀ k : Nat, k ≠ t → tget? u.evd.pres k = tget? s.evd.pres k) ∧ (s.cor t).st ≠ .c3 ∧
        ((u.cor t).st = .run ∨ (u.cor t).st = (s.cor t).st ∧ (bit s.img.hold (t / 8) = true ∨ u.pwr.abort = true)) ∧ Frame [.core, .evd, .pwr, .rPWR] s u)) ∧
  (∀ (s : State) (t : Fin 32) (a : Nat), tget? s.evd.modAt t = some a →
    (s.tick.count < a + s.gf .EVD_TGT_MOD t F.EVD_TGT_MOD.INTERVAL → exec (.evdModerationRelease t) s = .next s) ∧
    (a + s.gf .EVD_TGT_MOD t F.EVD_TGT_MOD.INTERVAL ≤ s.tick.count →
      exec (.evdModerationRelease t) s = exec (.evdPresentation t) { s with evd := { s.evd with modAt := tdel s.evd.modAt t } })) ∧
  (∀ (s : State) (q : Req) (n : Fin 32) (v : W32), q.agent = .core n → s.Admits q .EVD_PMR 0 →
    ∃ t : State, exec (.evdPmrWrite q v) s = t.wrote ∧ t.gf .EVD_PMR n F.EVD_PMR.PMR = min 16 (v.toNat % 32) ∧ s.Withdraws t ∧
      (∀ y, t.evPend y = s.evPend y) ∧ (∀ k : Nat, k ≠ n → t.rd .EVD_PMR k = s.rd .EVD_PMR k) ∧ Frame [.evd, .rEVD] s t) ∧
  (∀ (s : State) (q : Req) (v : W32), s.Admits q .EVD_SWGEN 0 →
    ∃ t : State, exec (.evdSwgen q v) s = t.wrote ∧ t.evPend (1024 + v.toNat % 64) = true ∧ (∀ y, y < 2048 → y ≠ 1024 + v.toNat % 64 → t.evPend y = s.evPend y) ∧
      (s.evPend (1024 + v.toNat % 64) = true → t = s) ∧ Frame [.core, .evd, .pwr, .rEVD, .rPWR] s t) ∧
  (∀ (s : State) (q : Req) (v : W32), s.Admits q .EVD_FALLBACK 0 →
    (s.inService (v.toNat % 32 / 8) = true → ∃ t : State, exec (.evdFallbackWrite q v) s = t.wrote ∧ t.fallback = v.toNat % 32 ∧ s.Withdraws t ∧ Frame [.evd, .rEVD] s t) ∧
    (s.inService (v.toNat % 32 / 8) = false → exec (.evdFallbackWrite q v) s = (s.pb .EVD_STATUS 0 F.EVD_STATUS.FBREF true).wrote)) ∧
  (∀ (s : State) (q : Req) (k : Fin 64) (v : W32),
    (s.Admits q .EVD_EN_SET k → exec (.evdEnSet k q v) s = (s.wr .EVD_EN_SET k (s.rd .EVD_EN_SET k ||| v)).wrote) ∧
    (s.Admits q .EVD_EN_CLR k → ∃ t : State, exec (.evdEnClr k q v) s = t.wrote ∧ (∀ b, b < 32 → t.evEn (32 * k + b) = (s.evEn (32 * k + b) && !v.getLsbD b)) ∧
      (∀ y, t.evPend y = s.evPend y) ∧ s.Withdraws t ∧ Frame [.evd, .rEVD] s t) ∧
    (s.Admits q .EVD_PEND_SET k → ∃ t : State, exec (.evdPendSet k q v) s = t.wrote ∧ (∀ b, b < 32 → t.evPend (32 * k + b) = (s.evPend (32 * k + b) || (v.getLsbD b && (decide (32 * k + b < 837) || decide (1024 ≤ 32 * k + b))))) ∧
      (∀ y, t.evEn y = s.evEn y ∧ t.evAct y = s.evAct y) ∧ (∀ y, y / 32 ≠ k → t.evPend y = s.evPend y) ∧ Frame [.core, .evd, .pwr, .rEVD, .rPWR] s t) ∧
    (s.Admits q .EVD_PEND_CLR k → ∃ t : State, exec (.evdPendClr k q v) s = t.wrote ∧ (∀ b, b < 32 → t.evPend (32 * k + b) = (s.evPend (32 * k + b) && !v.getLsbD b)) ∧
      (∀ y, t.evEn y = s.evEn y ∧ t.evAct y = s.evAct y) ∧ s.Withdraws t ∧ Frame [.evd, .rEVD] s t)) ∧
  (∀ (s : State) (q : Req) (x : Fin 2048) (v : W32), s.Admits q .EVD_SRC_CFG x →
    ∃ t : State, exec (.evdSrcCfgWrite x q v) s = t.wrote ∧ t.prio x = F.EVD_SRC_CFG.PRIO.get v ∧ t.gf .EVD_SRC_CFG x F.EVD_SRC_CFG.MOD = F.EVD_SRC_CFG.MOD.get v ∧
      t.gf .EVD_SRC_CFG x F.EVD_SRC_CFG.TARGET = (if F.EVD_SRC_CFG.TARGET.get v < 32 then F.EVD_SRC_CFG.TARGET.get v else 63) ∧
      (∀ y, t.evPend y = s.evPend y ∧ t.evAct y = s.evAct y ∧ t.evEn y = s.evEn y) ∧ (∀ k : Nat, k ≠ x → t.rd .EVD_SRC_CFG k = s.rd .EVD_SRC_CFG k) ∧
      (∀ e, e ∈ t.evd.pres → e ∈ s.evd.pres) ∧
      (s.evEn x = true → s.evPend x = true → s.evAct x = false → t.route x ≠ s.route x → bit s.img.hold (t.route x / 8) = false →
        t.pwr.abort = true ∨ ((t.cor (t.route x)).st ≠ .c1 ∧ (t.cor (t.route x)).st ≠ .c2)) ∧ Frame [.core, .evd, .pwr, .rEVD, .rPWR] s t)

/-- The direction of a mailbox. -/
def Sys2Proof.Machine.State.way (s : State) (m : Nat) (ba : Bool) : MbxDir := (s.mb m).dir ba
/-- The count of dropped words of a direction. -/
def Sys2Proof.Machine.mbxErrOf (ba : Bool) : Fld := if ba then F.MBX_ERR.BA else F.MBX_ERR.AB

/-- Pushes (R450, R451). -/
def Obligations.MailboxPushesNumberAndDropWords : Prop :=
  (∀ m ba s, ((State.mbxReset s m).way m ba).seq = 0 ∧ ((State.mbxReset s m).way m ba).q = []) ∧
  (∀ (s : State) (m : Fin 128) (ba : Bool) (who : Req) (v : W32), s.Admits who (if ba then .MBX_BA_TX else .MBX_AB_TX) m → s.frozenOther m ba = false →
    let d := s.way m ba
    let asked : MbxDir := if d.st = 1 then d else { d with st := 1, code := 0, w := s.tick.count }
    (8 ≤ d.q.length → exec (.mbxTx m ba who v) s = ((s.setDir m ba asked).inc .MBX_ERR m (mbxErrOf ba) 1).wrote) ∧
    (d.q.length < 8 → d.seq < 2 ^ 12 → ∃ (t : State) (st : W32), exec (.mbxTx m ba who v) s = t.wrote ∧ (t.way m ba).q = d.q ++ [(st, v)] ∧ st.toNat % 2 ^ 12 = d.seq ∧
      (t.way m ba).seq = (if d.seq = 0xFFF then 0 else d.seq + 1) ∧ t.way m (!ba) = s.way m (!ba) ∧ (∀ k : Nat, k ≠ m → t.mb k = s.mb k) ∧ t.rd .MBX_ERR m = s.rd .MBX_ERR m))

/-- The word that a writer's stamp makes of its fields (R447). -/
def Sys2Proof.Machine.stampWord (cls stall org seq : Nat) : W32 := BitVec.ofNat 32 (cls * 2 ^ 28 + stall * 2 ^ 20 + org * 2 ^ 12 + seq)

/-- Mailbox accesses and the timeout (R447 to R456, R501). -/
def Obligations.MailboxesStampReadAndAcknowledge : Prop :=
  (∀ (s : State) (m : Fin 128) (ba : Bool) (who : Req) (v : W32), s.Admits who (if ba then .MBX_BA_TX else .MBX_AB_TX) m →
    let d := s.way m ba
    (s.frozenOther m ba = true → exec (.mbxTx m ba who v) s =
      ((s.setDir m ba (if d.st = 1 then d else { d with st := 1, code := 0, w := s.tick.count })).inc .MBX_ERR m (mbxErrOf ba) 1).wrote) ∧
    (s.frozenOther m ba = false → d.q.length < 8 → ∃ t : State, exec (.mbxTx m ba who v) s = t.wrote ∧
      (∀ n : Fin 32, who.agent = .core n → (t.way m ba).q = d.q ++ [(stampWord (8 + who.lvl.num) 0 n d.seq, v)]) ∧
      (∀ u o, who.agent = .port u → portOrigin u = some o → (t.way m ba).q = d.q ++ [(stampWord (s.classOf u who.sid.toNat) 0 o d.seq, v)]) ∧
      (∀ st, d.seq < 2 ^ 12 → (t.way m ba).q = d.q ++ [(st, v)] → (∃ n, who.agent = .core n) ∨ (∃ u o, who.agent = .port u ∧ portOrigin u = some o ∧ s.classOf u who.sid.toNat < 8) → st ≠ 0) ∧
      (d.st = 1 → (t.way m ba).st = 1 ∧ (t.way m ba).code = d.code ∧ (t.way m ba).w = d.w) ∧
      (d.st ≠ 1 → (t.way m ba).st = 1 ∧ (t.way m ba).code = 0 ∧ (t.way m ba).w = s.tick.count) ∧
      s.EventSet t .MBX_EVT .MBX_EVT_EN m (if ba then 1 else 0) (256 + m) ∧ Frame [.core, .evd, .mbx, .pwr, .ext, .trc, .rEVD, .rMBX, .rPWR, .rTRC, .rPORT] s t)) ∧
  (∀ (s : State) (m : Fin 128) (ba : Bool) (who : Req), s.Shows who (if ba then .MBX_BA_RX_DATA else .MBX_AB_RX_DATA) m →
    ((s.way m ba).q = [] → exec (.mbxRxData m ba who) s = s.showed 0) ∧
    (∀ st w r, (s.way m ba).q = (st, w) :: r → exec (.mbxRxData m ba who) s = (s.setDir m ba { s.way m ba with q := r }).showed w)) ∧
  (∀ (s : State) (m : Fin 128) (ba : Bool) (who : Req), s.Shows who (if ba then .MBX_BA_RX_STAMP else .MBX_AB_RX_STAMP) m → ∀ a : BitVec 48,
    a.toNat = Reg.addrOf (if ba then .MBX_BA_RX_STAMP else .MBX_AB_RX_STAMP) m → s.rgn a.toNat = .ctl →
    exec (.registerReadClear a who) s = s.showed (match (s.way m ba).q with | [] => 0 | e :: _ => e.1)) ∧
  (∀ (s : State) (m : Fin 128) (ba : Bool) (who : Req) (v : W32), s.Admits who (if ba then .MBX_BA_ACK else .MBX_AB_ACK) m →
    let d := s.way m ba
    let c := v.toNat % 2 ^ 16
    let ok := s.owns m (!ba) (originOf who) = true ∧ d.st = 1 ∧ c ≠ 0xFFFF
    (ok → ∃ t : State, exec (.mbxAckWrite m ba who v) s = t.wrote ∧ t.way m ba = { d with st := 2, code := c } ∧ t.way m (!ba) = s.way m (!ba) ∧
      t.mbxAck m ba = BitVec.ofNat 32 (2 * 2 ^ 16 + c) ∧ s.EventSet t .MBX_EVT .MBX_EVT_EN m (if ba then 3 else 2) (256 + m)) ∧
    (¬ok → exec (.mbxAckWrite m ba who v) s = (s.inc .MBX_ERR2 m (if ba then F.MBX_ERR2.BA else F.MBX_ERR2.AB) 1).wrote)) ∧
  (∀ (s : State) (m : Fin 128) (ba : Bool),
    let d := s.way m ba
    let tmo := (s.rd .MBX_TMO m).toNat
    let due := d.st = 1 ∧ tmo ≠ 0 ∧ d.w + tmo ≤ s.tick.count ∧ s.frozenMbx m = false ∧ s.fenced 9 m = false
    (due → ∃ t, exec (.mbxTimeout m ba) s = .next t ∧ t.way m ba = { d with st := 3, code := 0xFFFF } ∧ t.way m (!ba) = s.way m (!ba) ∧
      s.EventSet t .MBX_EVT .MBX_EVT_EN m (if ba then 5 else 4) (256 + m) ∧ Frame [.core, .evd, .mbx, .pwr, .ext, .trc, .rEVD, .rMBX, .rPWR, .rTRC, .rPORT] s t) ∧
    (¬due → exec (.mbxTimeout m ba) s = .next s)) ∧
  (∀ m : Fin 128, State.reset.rd .MBX_TMO m = 1000000)

/-- The state in which a CH_CTL write of word w finds channel c: the engine's region is back from retention and CONT is stored. -/
def Sys2Proof.Machine.State.ctlAt (s : State) (c : Nat) (w : W32) : State := (s.engineUp (Reg.addrOf .CH_CTL c)).plainWrite .CH_CTL c w

/-- How a channel started with `want` stands once its entry is cached: the next barge and, of a continued one, the position (R486). -/
def Sys2Proof.Machine.Chan.startsAt (x : Chan) (want : Nat) (entry : Bytes) : Nat × Option (Nat × Nat × Nat) :=
  match want with
  | 0 => (u64 entry 0, none)
  | 1 => (x.cur, some x.pos)
  | _ => (x.next, none)

/-- A started channel (R486). -/
structure Sys2Proof.Machine.Chan.Started (y : Chan) (p : Nat × Option (Nat × Nat × Nat)) : Prop where
  st : y.st = if p.1 = 0 then .idle else .active
  next : y.next = p.1
  resumeAt : y.resumeAt = p.2
  cleared : y.code = 0 ∧ y.underrun = false ∧ y.stopped = false ∧ y.part = false ∧ y.wdraw = 0 ∧ y.xfer = 0
  ctx : y.ctx = true ∧ y.barge = none ∧ y.shadow = none ∧ y.shadowErr = none ∧ y.buf = [] ∧ y.fail = none

/-- Channel requests (R470 to R472, R486 to R491, R497). -/
def Obligations.DmaChannelRequestsFollowTheirTables : Prop :=
  (∀ (s : State) (e : Fin 4) (i : Fin 1024) (who : Req) (v : W32), s.Admits who .CH_CTL (chNum e i) →
    (∀ v' : W32, v ||| 2 = v' ||| 4 → exec (.chStart e i who v) s = exec (.chStop e i who v') s) ∧
    (∀ v' : W32, v ||| 2 = v' ||| 8 → exec (.chStart e i who v) s = exec (.chPause e i who v') s) ∧
    (∀ v' : W32, v ||| 2 = v' ||| 16 → exec (.chStart e i who v) s = exec (.chResume e i who v') s) ∧
    (∀ v' : W32, v ||| 2 = v' ||| 32 → exec (.chStart e i who v) s = exec (.chInv e i who v') s) ∧
    (∀ v' : W32, v ||| 2 = v' ||| 64 → exec (.chStart e i who v) s = exec (.chClear e i who v') s) ∧
    (v.toNat % 128 = 4 → exec (.chStart e i who v) s = ((s.ctlAt (chNum e i) (v ||| 2)).pb .CH_STAT (chNum e i) F.CH_STAT.STREF true).wrote) ∧
    (v.toNat % 128 = 8 → exec (.chStop e i who v) s = exec (.chStop e i who (v &&& ~~~8)) s)) ∧
  (∀ (s : State) (e : Fin 4) (i : Fin 1024) (who : Req) (v : W32), s.Admits who .CH_CTL (chNum e i) → v.toNat % 128 = 0 →
    let c := chNum e i
    let x := s.chn c
    let leaves (u : State) : Prop := bit s.img.hold e = true ∨ ∃ k, u.pwr.step = some k ∧ 2 ≤ k
    let want := if v.toNat / 128 % 2 = 0 then 0 else if x.part then 1 else 2
    let u := s.ctlAt c (v ||| 2)
    (x.st ≠ .idle → exec (.chStart e i who v) s = (u.pb .CH_STAT c F.CH_STAT.STREF true).wrote) ∧
    (x.st = .idle → leaves u → exec (.chStart e i who v) s = (u.setChn c { x with code := 7 }).wrote) ∧
    (x.st = .idle → ¬leaves u →
      (x.ctx = true → ∃ t : State, exec (.chStart e i who v) s = t.wrote ∧ (t.chn c).Started (x.startsAt want x.entry) ∧ (t.chn c).entry = x.entry) ∧
      (x.ctx = false → s.ctxCount e < 64 → u.dmaRd c (u.chEntry c) 128 = none →
        ∃ t : State, exec (.chStart e i who v) s = t.wrote ∧ (t.chn c).st = .error ∧ (t.chn c).code = 3 ∧ (t.chn c).ctx = false ∧ t.mem = s.mem) ∧
      (∀ b, x.ctx = false → s.ctxCount e < 64 → u.dmaRd c (u.chEntry c) 128 = some b → ∃ t : State, exec (.chStart e i who v) s = t.wrote ∧
        (t.chn c).Started ({ x with next := u64 b 64, cur := u64 b 72, pos := (u32 b 80, u16 b 84, u16 b 86) }.startsAt want (b.take 64)) ∧
        (t.chn c).entry = b.take 64 ∧ ∀ d, d ≠ c → t.chn d = s.chn d) ∧
      (x.ctx = false → 64 ≤ s.ctxCount e → (∀ p, p ∈ s.dma.ch → engOf p.1 = e.val → p.2.ctx = true → p.2.st ≠ .idle ∧ p.2.st ≠ .error) →
        ∃ t : State, exec (.chStart e i who v) s = t.wrote ∧ (t.chn c).st = .queued ∧ (t.chn c).want = want ∧ ∀ d, d ≠ c → t.chn d = s.chn d))) ∧
  (∀ (s : State) (e : Fin 4) (i : Fin 1024) (who : Req) (v : W32), s.Admits who .CH_CTL (chNum e i) → v.toNat % 128 = 0 →
    let c := chNum e i
    let x := s.chn c
    let u := s.ctlAt c (v ||| 4)
    (x.st = .idle ∨ x.st = .error ∨ x.st = .stopping → exec (.chStop e i who v) s = u.wrote) ∧
    (x.st = .queued → exec (.chStop e i who v) s = (u.setChn c { x with st := .idle, stopped := true }).wrote) ∧
    (x.st = .pausing → x.barge ≠ none → exec (.chStop e i who v) s = (u.setChn c { x with stopNext := true }).wrote) ∧
    (x.st = .active ∨ x.st = .waiting ∨ x.st = .pausing → x.barge = none → ∃ t : State, exec (.chStop e i who v) s = t.wrote ∧ (t.chn c).st = .idle ∧ (t.chn c).stopped = true ∧ (t.chn c).shadow = none ∧
      (x.resumeAt = none → (t.chn c).cur = 0 ∧ (t.chn c).part = x.part) ∧ (∀ p, x.resumeAt = some p → (t.chn c).cur = x.next ∧ (t.chn c).pos = p ∧ (t.chn c).part = true)) ∧
    (∀ a b, x.st = .active ∨ x.st = .waiting → x.barge = some (a, b) → x.wrn < bTotal b → x.fail = none ∨ x.buf ≠ [] → ∃ t : State, exec (.chStop e i who v) s = t.wrote ∧ (t.chn c).st = .stopping ∧
      (t.chn c).shadow = none ∧ (t.chn c).barge = x.barge ∧ (t.chn c).wrn = x.wrn ∧ (t.chn c).buf = x.buf ∧ t.mem = s.mem) ∧
    (∀ a b, x.st = .paused → x.barge = some (a, b) → ∃ t : State, exec (.chStop e i who v) s = t.wrote ∧ (t.chn c).st = .idle ∧ (t.chn c).stopped = true ∧ (t.chn c).part = true ∧
      (t.chn c).cur = a ∧ (t.chn c).pos = bIdx b x.wrn ∧ (t.chn c).xfer = x.bytes ∧ (t.chn c).barge = none ∧ (∀ q, tget? t.dma.held q ≠ some c) ∧
      (Memory.wf s.mem = true → s.memOpen (dmaReq c) (s.chEntry c + 64) 64 true = true →
        t.mread (s.chEntry c + 64) 24 = leBytes 8 x.next ++ leBytes 8 a ++ leBytes 4 (bIdx b x.wrn).1 ++ leBytes 2 (bIdx b x.wrn).2.1 ++ leBytes 2 (bIdx b x.wrn).2.2) ∧
      (∀ k, k < s.chEntry c + 64 ∨ s.chEntry c + 128 ≤ k → t.mget k = s.mget k))) ∧
  (∀ (s : State) (e : Fin 4) (i : Fin 1024) (who : Req) (v : W32), s.Admits who .CH_CTL (chNum e i) → v.toNat % 128 = 0 →
    let c := chNum e i
    let x := s.chn c
    let may := s.prioCh c = true ∧ (x.st = .active ∨ x.st = .waiting)
    (¬may → exec (.chPause e i who v) s = ((s.ctlAt c (v ||| 8)).pb .CH_STAT c F.CH_STAT.PREF true).wrote) ∧
    (may → exec (.chPause e i who v) s = ((s.ctlAt c (v ||| 8)).setChn c
      (if x.barge ≠ none ∧ x.buf = [] ∧ x.burst = none then (if x.stopNext = true then { x.noShadow with st := .stopping, stopNext := false } else { x with st := .paused })
       else { x with st := .pausing })).wrote) ∧
    (x.st ≠ .paused → exec (.chResume e i who v) s = (s.ctlAt c (v ||| 16)).wrote) ∧
    (∀ a b, x.st = .paused → x.barge = some (a, b) → x.wrn < bTotal b → x.fail = none → ∃ t : State, exec (.chResume e i who v) s = t.wrote ∧ ((t.chn c).st = .active ∨ (t.chn c).st = .waiting) ∧ (t.chn c).barge = x.barge ∧
      (t.chn c).wrn = x.wrn ∧ (t.chn c).buf = x.buf ∧ (∀ d, d ≠ c → t.chn d = s.chn d) ∧ t.mem = s.mem) ∧
    (exec (.chClear e i who v) s = (let u := s.ctlAt c (v ||| 64); if x.st = .error then u.setChn c { x.noBarge with st := .idle, xfer := x.bytes } else u).wrote) ∧
    (exec (.chInv e i who v) s = (let u := s.ctlAt c (v ||| 32)
      if x.st = .idle ∨ x.st = .error then u.setChn c { x with ctx := false } else u.pb .CH_STAT c F.CH_STAT.INVREF true).wrote)) ∧
  (∀ (s : State) (e : Fin 4) (i : Fin 1024) (who : Req) (v : W32), s.Admits who .CH_OWN (chNum e i) →
    let c := chNum e i
    let u := s.engineUp (Reg.addrOf .CH_OWN c)
    let st := v.toNat / 2 ^ 8 % 2 ^ 8
    let many := v.toNat / 4 % 2 = 1 ∧ s.dmaMax st ≤ ((s.ownedCh st).filter (fun d => d ≠ c)).length
    (many → exec (.chOwnWrite e i who v) s = (u.pb .STL_MGR_STAT st F.STL_MGR_STAT.LIMIT true).wrote) ∧
    (¬many → exec (.chOwnWrite e i who v) s = (u.plainWrite .CH_OWN c v).wrote))

/-- The channel runs: ACTIVE or WAITING. -/
def Sys2Proof.Machine.Chan.runs (x : Chan) : Prop := x.st = .active ∨ x.st = .waiting

/-- The channel has ended in ERROR with this CODE; its error event is the group bit (R490). -/
structure Sys2Proof.Machine.State.ChanError (s t : State) (c code : Nat) : Prop where
  st : (t.chn c).st = .error
  code : (t.chn c).code = code
  wrn : (t.chn c).wrn = (s.chn c).wrn
  event : bit (u8 (s.chn c).entry 9) 0 = true → t.getB .DMA_GRP_PEND (c / 32) (c % 32) = true
  lines : ∀ p, p ∈ t.dma.held → p.2 ≠ c

/-- The engines' events (R471 to R484, R490). -/
def Obligations.DmaEnginesMoveBarges : Prop :=
  (∀ (s : State) (e : Fin 4) (i : Fin 1024) (q : Fin 64) (d : Bytes), s.engOpen e = false →
    exec (.dmaContextFree e i) s = .next s ∧ exec (.dmaBargeRead e i) s = .next s ∧ exec (.dmaReadComplete e i) s = .next s ∧ exec (.dmaWriteAck e i) s = .next s ∧
    exec (.dmaPortRequest e q) s = .next s ∧ exec (.dmaPortData e q d) s = .next s ∧ exec (.underrun e q) s = .next s) ∧
  (∀ (s : State) (e : Fin 4) (q : Fin 64) (d : Bytes), s.portOn (linePort q) = false → exec (.dmaPortRequest e q) s = .next s ∧ exec (.dmaPortData e q d) s = .next s) ∧
  (∀ (s : State) (e : Fin 4) (i : Fin 1024), s.engOpen e = true →
    let c := chNum e i
    let x := s.chn c
    (x.st ≠ .queued → exec (.dmaContextFree e i) s = .next s) ∧
    (∀ b, x.st = .queued → x.ctx = false → s.ctxCount e < 64 → s.dmaRd c (s.chEntry c) 128 = some b → u64 b 64 ≠ 0 → x.want = 3 →
      ∃ t, exec (.dmaContextFree e i) s = .next t ∧ (t.chn c).st = .active ∧ (t.chn c).next = u64 b 64 ∧ (t.chn c).xfer = u32 b 88 ∧ (t.chn c).ctx = true)) ∧
  (∀ (s : State) (e : Fin 4) (i : Fin 1024), s.engOpen e = true →
    let c := chNum e i
    let x := s.chn c
    x.ctx = true → x.next ≠ 0 → x.shadow = none → x.shadowErr = none → x.runs →
      (x.barge = none →
        (x.next % 64 ≠ 0 → ∃ t, exec (.dmaBargeRead e i) s = .next t ∧ s.ChanError t c 4 ∧ t.mem = s.mem) ∧
        (x.next % 64 = 0 → s.dmaRd c x.next 64 = none → ∃ t, exec (.dmaBargeRead e i) s = .next t ∧ s.ChanError t c 3 ∧ t.mem = s.mem) ∧
        (∀ b, x.next % 64 = 0 → s.dmaRd c x.next 64 = some b → bBad x.next b = true → ∃ t, exec (.dmaBargeRead e i) s = .next t ∧ s.ChanError t c 4 ∧ t.mem = s.mem) ∧
        (∀ b h, x.next % 64 = 0 → s.dmaRd c x.next 64 = some b → bBad x.next b = false → bUsesPort b = true → tget? s.dma.held (bLine b) = some h → h ≠ c →
          ∃ t, exec (.dmaBargeRead e i) s = .next t ∧ s.ChanError t c 8 ∧ t.mem = s.mem) ∧
        (∀ b, x.next % 64 = 0 → s.dmaRd c x.next 64 = some b → bBad x.next b = false → (bUsesPort b = true → ∀ h, tget? s.dma.held (bLine b) = some h → h = c) →
          let k := match x.resumeAt with | none => 0 | some p => bAt b p
          k < bTotal b →
          ∃ t, exec (.dmaBargeRead e i) s = .next t ∧ (t.chn c).barge = some (x.next, b) ∧ (t.chn c).next = bNext b ∧ (t.chn c).wrn = k ∧ (t.chn c).buf = [] ∧ (t.chn c).runs ∧
            (bUsesPort b = true → tget? t.dma.held (bLine b) = some c) ∧ Frame [.dma] s t)) ∧
      (x.barge ≠ none →
        let fails (k : Nat) := exec (.dmaBargeRead e i) s = .next (s.setChn c { x with shadowErr := some k })
        (x.next % 64 ≠ 0 → fails 4) ∧ (x.next % 64 = 0 → s.dmaRd c x.next 64 = none → fails 3) ∧
        (∀ b, x.next % 64 = 0 → s.dmaRd c x.next 64 = some b →
          (bBad x.next b = true → fails 4) ∧ (bBad x.next b = false → bUsesPort b = true → (∃ h, tget? s.dma.held (bLine b) = some h ∧ h ≠ c) → fails 8) ∧
          (bBad x.next b = false → (bUsesPort b = true → ∀ h, tget? s.dma.held (bLine b) = some h → h = c) →
            ∃ t, exec (.dmaBargeRead e i) s = .next t ∧ (t.chn c).shadow = some (x.next, b) ∧ (t.chn c).barge = x.barge ∧ (t.chn c).wrn = x.wrn ∧ (t.chn c).buf = x.buf ∧ Frame [.dma] s t)))) ∧
  (∀ (s : State) (e : Fin 4) (i : Fin 1024) (a : Nat) (b : Bytes), s.engOpen e = true →
    let c := chNum e i
    let x := s.chn c
    let k := x.wrn + x.buf.length / bEs b
    let n := dmaRun b false k (min 256 (bTotal b - k))
    let inside := ∀ j, j < n → s.chWindow c (bAddr b false (k + j)) (bEs b) false = true
    x.barge = some (a, b) → k < bTotal b → bSrcPort b = false → x.runs → x.fail = none →
      (∀ d, inside → s.dmaRd c (bAddr b false k) (n * bEs b) = some d → exec (.dmaReadComplete e i) s = .next (s.setChn c { x with buf := x.buf ++ d })) ∧
      (inside → s.dmaRd c (bAddr b false k) (n * bEs b) = none → x.buf = [] → ∃ t, exec (.dmaReadComplete e i) s = .next t ∧ s.ChanError t c 1 ∧ t.mem = s.mem) ∧
      (¬inside → x.buf = [] → ∃ t, exec (.dmaReadComplete e i) s = .next t ∧ s.ChanError t c 6 ∧ t.mem = s.mem) ∧
      (bDstPort b = true → x.burst = none → x.buf ≠ [] → (¬inside → exec (.dmaReadComplete e i) s = .next (s.setChn c { x with fail := some 6 })) ∧
        (inside → s.dmaRd c (bAddr b false k) (n * bEs b) = none → ∃ t, exec (.dmaReadComplete e i) s = .next t ∧ t.chn c = { x with fail := some 1 } ∧ t.mem = s.mem))) ∧
  (∀ (s : State) (e : Fin 4) (i : Fin 1024) (a a' : Nat) (b b' d : Bytes), s.engOpen e = true →
    let c := chNum e i
    let x := s.chn c
    let k := x.ahead.length / bEs b'
    let n := dmaRun b' false k (min 256 (bTotal b' - k))
    x.barge = some (a, b) → x.fail = none → bTotal b ≤ x.wrn + x.buf.length / bEs b → x.shadow = some (a', b') → x.shadowErr = none → bSrcPort b' = false → bit (bCtl b') 5 = false → k < bTotal b' → x.runs →
      (∀ j, j < n → s.chWindow c (bAddr b' false (k + j)) (bEs b') false = true) → s.dmaRd c (bAddr b' false k) (n * bEs b') = some d →
      exec (.dmaReadComplete e i) s = .next (s.setChn c { x with ahead := x.ahead ++ d })) ∧
  (∀ (s : State) (e : Fin 4) (i : Fin 1024) (a m : Nat) (ba : Bool) (b : Bytes), s.engOpen e = true →
    let c := chNum e i
    let x := s.chn c
    let d := s.way m ba
    let lv := s.gf .CH_OWN c F.CH_OWN.LEVEL
    let st := if s.gb .CH_OWN c F.CH_OWN.STALL_EN = true then s.gf .CH_OWN c F.CH_OWN.STALL else 0
    x.barge = some (a, b) → bDstPort b = false → x.runs → x.fail = none → x.wrn + 1 < bTotal b → 4 ≤ x.buf.length → bEs b = 4 → txReg (bAddr b true x.wrn) = some (m, ba) →
      s.chWindow c (bAddr b true x.wrn) 4 true = true → s.mbxOpen m = true → s.owns m ba (some (0xA0 + e.val)) = true → s.frozenOther m ba = false → d.q.length < 8 →
      ∃ t, exec (.dmaWriteAck e i) s = .next t ∧ (t.chn c).wrn = x.wrn + 1 ∧ (t.chn c).buf = x.buf.drop 4 ∧
        (t.way m ba).q = d.q ++ [(stampWord ((if s.gb .CH_OWN c F.CH_OWN.STALL_EN = true ∧ lv < 2 then 12 else 8) + lv) st (0xA0 + e.val) d.seq, BitVec.ofNat 32 (ofBytes (x.buf.take 4)))]) ∧
  (∀ (s : State) (e : Fin 4) (i : Fin 1024) (a : Nat) (b : Bytes), s.engOpen e = true →
    let c := chNum e i
    let x := s.chn c
    let es := bEs b
    let at_ := bAddr b true x.wrn
    let n := bRun b true x.wrn (min 256 (bTotal b - x.wrn))
    x.barge = some (a, b) → bDstPort b = false → x.runs → x.fail = none → x.wrn < bTotal b → n ≤ x.buf.length / es → txReg at_ = none →
      let inside := ∀ j, j < n → s.chWindow c (bAddr b true (x.wrn + j)) es true = true
      (¬inside → ∃ t, exec (.dmaWriteAck e i) s = .next t ∧ s.ChanError t c 6 ∧ t.mem = s.mem) ∧
      (inside → s.memOpen (dmaReq c) at_ (n * es) true = false → ∃ t, exec (.dmaWriteAck e i) s = .next t ∧ s.ChanError t c 2 ∧ t.mem = s.mem) ∧
      (inside → s.memOpen (dmaReq c) at_ (n * es) true = true → Memory.wf s.mem = true → x.stopNext = false →
        ∃ t, exec (.dmaWriteAck e i) s = .next t ∧
          (x.wrn + n < bTotal b → t.mread at_ (n * es) = x.buf.take (n * es) ∧ (∀ k, k < at_ ∨ at_ + n * es ≤ k → t.mget k = s.mget k) ∧
            (t.chn c).wrn = x.wrn + n ∧ (t.chn c).buf = x.buf.drop (n * es) ∧ (t.chn c).runs ∧ ∀ d, d ≠ c → t.chn d = s.chn d) ∧
          (x.wrn + n = bTotal b → x.next = 0 → t.mread at_ (n * es) = x.buf.take (n * es) ∧ (∀ k, k < at_ ∨ at_ + n * es ≤ k → t.mget k = s.mget k) ∧
            (t.chn c).st = .idle ∧ (t.chn c).xfer = (x.xfer + (bTotal b - x.base) * es) % 2 ^ 32 ∧ (t.chn c).barge = none ∧
            (bit (bCtl b) 4 = true → t.getB .DMA_GRP_PEND (c / 32) (c % 32) = true ∧ (s.rd .DMA_GRP_PEND (c / 32) = 0 → t.evPend (384 + c / 32) = true))) ∧
          (∀ a' b', x.wrn + n = bTotal b → x.next ≠ 0 → x.shadow = some (a', b') → x.shadowErr = none → 0 < bTotal b' → s.displacedNow c = false →
            (t.chn c).barge = some (a', b') ∧ (t.chn c).next = bNext b' ∧ (t.chn c).wrn = 0 ∧ (t.chn c).buf = x.ahead ∧ (t.chn c).xfer = (x.xfer + (bTotal b - x.base) * es) % 2 ^ 32) ∧
          (∀ k, x.wrn + n = bTotal b → x.next ≠ 0 → x.shadow = none → x.shadowErr = some k → k ≠ 5 → s.displacedNow c = false → (t.chn c).st = .error ∧ (t.chn c).code = k))) ∧
  (∀ (s : State) (e : Fin 4) (q : Fin 64) (d : Bytes), s.engOpen e = true → s.portOn (linePort q) = true →
    let uart := 40 ≤ q.val ∧ q.val < 48 ∧ q.val % 2 = 1
    let p := linePort q
    let got := if uart then (s.xp p).fifo ++ d else d
    (s.lineCh e q = none → exec (.dmaPortRequest e q) s = .next { s with dma := { s.dma with req := tset s.dma.req q true } } ∧
      exec (.dmaPortData e q d) s = .next (if uart then s.setXp p { s.xp p with fifo := got.take 64 } else s) ∧ exec (.underrun e q) s = .next s) ∧
    (∀ c a b, s.lineCh e q = some c → (s.chn c).barge = some (a, b) → bUsesPort b = true → bLine b = q → (s.chn c).runs →
      let x := s.chn c
      (x.burst = none → x.burstLen b ≠ 0 → ∃ t, exec (.dmaPortRequest e q) s = .next t ∧ (t.chn c).burst = some (x.burstLen b) ∧ x.burstLen b ≤ 256 ∧ tget false t.dma.req q = false ∧ Frame [.dma] s t) ∧
      (∀ n, x.burst = some n → (∀ k y, x.shadow = some (k, y) → bSrcPort y = false) → ∃ t, exec (.dmaPortRequest e q) s = .next t ∧ (t.chn c).burst = some n ∧ tget false t.dma.req q = true ∧ Frame [.dma] s t) ∧
      (∀ n, x.burst = some n → bSrcPort b = true → ∃ t, exec (.dmaPortData e q d) s = .next t ∧ (t.chn c).buf = x.buf ++ got.take n ∧
        (got.length < n → (t.chn c).burst = some (n - got.length)) ∧ (t.chn c).wrn = x.wrn ∧ (uart → (t.xp p).fifo = (got.drop n).take 64) ∧ Frame [.dma, .ext] s t) ∧
      (∀ n, x.burst = some n → bSrcPort b = true →
        (s.tick.count < x.lastAt + s.gf .DMA_RQ_CFG (e.val * 64 + q.val) F.DMA_RQ_CFG.TIMEOUT → exec (.underrun e q) s = .next s) ∧
        (x.lastAt + s.gf .DMA_RQ_CFG (e.val * 64 + q.val) F.DMA_RQ_CFG.TIMEOUT ≤ s.tick.count → (x.buf.length + n) % bEs b = 0 → x.wrn + (x.buf.length + n) / bEs b ≤ bTotal b →
          ∃ t, exec (.underrun e q) s = .next t ∧ (t.chn c).st = .error ∧ (t.chn c).underrun = true ∧ ((t.chn c).code = 5 ∨ (t.chn c).code = 2 ∨ (t.chn c).code = 6))))) ∧
  (∀ (s : State) (e : Fin 4) (q : Fin 64) (c : Nat), s.lineCh e q = some c → (s.chn c).onLine q = true → (s.chn c).burst.isSome = true →
    exec (.dmaRequestWithdraw e q) s = .next ({ s with dma := { s.dma with req := tset s.dma.req q false } }.setChn c { s.chn c with wdraw := min 255 ((s.chn c).wdraw + 1) }))

/-- The address of element (i0, i1, i2) as R474 gives it, of the source side or the destination side. -/
def Sys2Proof.Machine.elementAddr (b : Bytes) (dst : Bool) (i0 i1 i2 : Nat) : Int :=
  let o := if dst then 4 else 0
  ((u64 b (if dst then 8 else 0) : Nat) + i0 * sgn 32 (u32 b (36 + o)) + i1 * sgn 32 (u32 b (44 + o)) + i2 * sgn 32 (u32 b (52 + o))) % 2 ^ 48

/-- Elements and bursts (R474, R477). -/
def Obligations.DmaBargeElementsAndBursts : Prop :=
  (∀ (b : Bytes) (i0 i1 i2 : Nat), i0 < bC0 b → i1 < bC1 b → i2 < bC2 b →
    let k := bAt b (i0, i1, i2)
    k < bTotal b ∧ bIdx b k = (i0, i1, i2) ∧ (∀ dst, (bAddr b dst k : Int) = elementAddr b dst i0 i1 i2) ∧ (i0 + 1 < bC0 b → bAt b (i0 + 1, i1, i2) = k + 1)) ∧
  (∀ (b : Bytes) (k : Nat), k < bTotal b → bAt b (bIdx b k) = k) ∧
  (∀ (a : Nat) (b : Bytes) (dst : Bool) (k m : Nat), bBad a b = false → (if dst then bDstPort b else bSrcPort b) = false → 0 < m →
    let n := bRun b dst k m
    let x := bAddr b dst k
    1 ≤ n ∧ n ≤ m ∧ n * bEs b ≤ 256 ∧ x / 256 = (x + n * bEs b - 1) / 256 ∧ (∀ j, j < n → bAddr b dst (k + j) = x + j * bEs b) ∧
      (n < m → bAddr b dst (k + n) ≠ x + n * bEs b ∨ (x + n * bEs b) % 256 = 0))

/-- Pools and granules (R463, R466, R467, R494). -/
def Obligations.BasinGrantsAndFreesGranules : Prop :=
  (∀ (s : State) (p : Nat) (e : Bytes), s.ent tBSN p = some e →
    (s.grants p = true ↔ s.heldBy p < u32 e 8 ∧ (s.heldBy p < u32 e 4 ∨ s.heldBy p - u32 e 4 < s.remainder * u8 e 2 / 256 ∧ s.lent < s.remainder))) ∧
  (∀ (s : State) (p : Fin 64) (who : Req), s.Shows who .BSN_POOL_ALLOC p →
    (p.val < 2 → exec (.bsnPoolAlloc p who) s = s.showed 0) ∧
    (2 ≤ p.val → s.grants p = false → exec (.bsnPoolAlloc p who) s = ((s.inc .BSN_POOL_STAT p F.BSN_POOL_STAT.REFUSED 1).wr .BSN_POOL_ALLOC p 0).showed (s.rd .BSN_POOL_ALLOC p)) ∧
    (2 ≤ p.val → s.grants p = true → s.basin.length < 131072 → List.Pairwise (fun a b => a < b) (s.basin.map (·.1)) → (∀ x, x ∈ s.basin → x.1 < 131072) →
      ∃ (t : State) (g : Nat), exec (.bsnPoolAlloc p who) s = t.showed (s.rd .BSN_POOL_ALLOC p) ∧ g < 131072 ∧ tget? s.basin g = none ∧
        (∀ k, tget? t.basin k = if k = g then some { pool := p, stall := none } else tget? s.basin k) ∧ t.heldBy p = s.heldBy p + 1 ∧
        t.rd .BSN_POOL_ALLOC p = BitVec.ofNat 32 (g + 1) ∧ s.heldBy p + 1 ≤ t.gf .BSN_POOL_PEAK p F.BSN_POOL_PEAK.COUNT ∧ t.mem = s.mem ∧ Frame [.basin, .rBSN] s t)) ∧
  (∀ (s : State) (who : Req) (v : W32), s.Admits who .BSN_FREE 0 →
    let p := v.toNat / 2 ^ 18 % 64
    let g := v.toNat % 2 ^ 17
    let its := 2 ≤ p ∧ ∃ x, tget? s.basin g = some x ∧ x.pool = p
    (its → ∃ t : State, exec (.bsnFree who v) s = t.wrote ∧ tget? t.basin g = none ∧ (∀ k, k ≠ g → tget? t.basin k = tget? s.basin k) ∧ Frame [.basin] s t) ∧
    (¬its → exec (.bsnFree who v) s = (s.pb .BSN_STATUS 0 F.BSN_STATUS.BADFREE true).wrote))

/-- Command c of stall i ends with a code (R498), from s to t. -/
structure Sys2Proof.Machine.State.StallEnds (t : State) (i st code : Nat) : Prop where
  state : t.stSt i = st
  code : t.gf .STL_MGR_STAT i F.STL_MGR_STAT.CODE = code
  done : t.gb .STL_MGR_STAT i F.STL_MGR_STAT.DONE = true
  idle : (t.stl i).cmd = none

/-- Stall i runs command c, or none. -/
def Sys2Proof.Machine.State.stlCmd (s : State) (i : Nat) : Option Nat := (s.stl i).cmd
/-- Source of slot k is latched as enabled. -/
def Sys2Proof.Machine.State.latched (s : State) (i k : Nat) : Bool := bit (s.stl i).latch k
/-- Number of the mailbox that slot k maps. -/
def Sys2Proof.Machine.State.slotMbx (s : State) (i k : Nat) : Nat := s.gf .STL_MBX_MAP (i * 8 + k) F.STL_MBX_MAP.MBX
/-- w of a direction of a mailbox that stays in WAIT while it is frozen. -/
def Sys2Proof.Machine.MbxDir.later (d : MbxDir) (dt : Nat) : MbxDir := if d.st = 1 then { d with w := d.w + dt } else d

/-- RESET and REMOVE: what R504 clears of stall i. -/
structure Sys2Proof.Machine.State.StallCleared (s t : State) (i : Nat) : Prop where
  mbx : ∀ k, k ∈ s.mbxSlots i → t.mb (s.slotMbx i k) = Mailbox.init ∧ t.rd .MBX_TMO (s.slotMbx i k) = s.rd .MBX_TMO (s.slotMbx i k)
  pend : ∀ k, k ∈ s.srcSlots i → t.evPend (s.slotSrc i k) = false
  chan : ∀ c, c ∈ s.ownedCh i → (t.chn c).st = .idle ∧ t.rd .CH_STAT c = 0
  gran : t.tagged i = 0
  others : ∀ g x, tget? s.basin g = some x → x.stall ≠ some i → (∀ e, e ∈ s.basin → e.1 = g → e.2 = x) → tget? t.basin g = some x

/-- The stall commands (R498 to R504). -/
def Obligations.StallCommandsFollowTheirTable : Prop :=
  (∀ (s : State) (i : Fin 256) (who : Req) (v : W32), s.Admits who .STL_CTL i →
    ∀ c k ok, (c, k, ok) ∈ [(Instr.bind i who v, 1, [0]), (.quiesce i who v, 2, [1]), (.stallResume i who v, 3, [3]), (.freeze i who v, 4, [3]), (.thaw i who v, 5, [4]),
        (.save i who v, 6, [4]), (.restore i who v, 7, [0]), (.stallReset i who v, 8, [3, 4]), (.remove i who v, 9, [3, 4])] →
      (s.stlCmd i ≠ none → exec c s = s.wrote) ∧
      (s.stlCmd i = none → s.stSt i ∉ ok → exec c s = (s.stDone i (if s.stSt i = 1 ∨ s.stSt i = 2 then 1 else 2)).wrote) ∧
      (s.stlCmd i = none → s.stSt i ∈ ok → k ≠ 2 → exec c s = (s.setStl i { s.stl i with cmd := some k }).wrote)) ∧
  (∀ (s : State) (i : Fin 256) (who : Req) (v : W32), s.Admits who .STL_CTL i → s.stlCmd i = none → s.stSt i = 1 →
    ∃ t : State, exec (.quiesce i who v) s = t.wrote ∧ t.stSt i = 2 ∧ t.stlCmd i = some 2 ∧ (∀ k, k ∈ s.srcSlots i → t.evEn (s.slotSrc i k) = false ∧ t.latched i k = s.evEn (s.slotSrc i k)) ∧
      (∀ y, s.evPend y = true → t.evPend y = true) ∧
      (∀ c, c ∈ s.ownedCh i → (s.ownedCh i).count c = 1 → s.prioCh c = true → (s.chn c).st = .active → (s.chn c).buf ≠ [] → (t.chn c).st = .pausing) ∧
      (∀ c, c ∈ s.ownedCh i → (s.ownedCh i).count c = 1 → s.prioCh c = false → (s.chn c).st = .queued → (t.chn c).st = .idle ∧ (t.chn c).stopped = true)) ∧
  (∀ (s : State) (i : Fin 256),
    (s.stSt i = 2 → s.stlCmd i = some 2 → s.stlDrained i = true → ∃ t, exec (.stallQuiet i) s = .next t ∧ t.StallEnds i 3 0 ∧ t.evPend (512 + i) = true ∧
      Frame [.core, .evd, .stall, .pwr, .rEVD, .rSTL, .rPWR] s t) ∧
    (s.stlDrained i = false → exec (.stallQuiet i) s = .next s) ∧
    (s.stlCmd i = none ∨ s.stlCmd i = some 2 → exec (.stallCmdDone i) s = .next s) ∧
    (s.stlCmd i = some 1 → ∃ t, exec (.stallCmdDone i) s = .next t ∧ t.StallEnds i 1 0 ∧ Frame [.stall, .rSTL] s t) ∧
    (s.stlCmd i = some 3 → ∃ t, exec (.stallCmdDone i) s = .next t ∧ t.StallEnds i 1 0 ∧ 
      (∀ k, k ∈ s.srcSlots i → (∀ j, j ∈ s.srcSlots i → s.slotSrc i j = s.slotSrc i k → s.latched i j = s.latched i k) → t.evEn (s.slotSrc i k) = s.latched i k) ∧
      (∀ y, y < 2048 → (∀ k, k ∈ s.srcSlots i → s.slotSrc i k ≠ y) → t.evEn y = s.evEn y) ∧ Frame [.stall, .evd, .rSTL, .rEVD] s t) ∧
    (s.stlCmd i = some 4 → ∃ t, exec (.stallCmdDone i) s = .next t ∧ t.StallEnds i 4 0 ∧ (t.stl i).frozenAt = s.tick.count ∧ Frame [.stall, .rSTL] s t) ∧
    (s.stlCmd i = some 5 → ∃ t, exec (.stallCmdDone i) s = .next t ∧ t.StallEnds i 3 0 ∧ Frame [.stall, .rSTL, .mbx] s t ∧ ∀ m, m < 128 → ∀ ba,
      t.way m ba = if ∃ k, k ∈ s.mbxSlots i ∧ s.slotMbx i k = m then (s.way m ba).later (s.tick.count - (s.stl i).frozenAt) else s.way m ba)) ∧
  (∀ (s : State) (i : Fin 256), s.stlCmd i = some 6 → (s.recBody i).length = 4092 →
    let a := s.recAddr i
    (a + 4096 ≤ s.dramSize → s.memOpen edReq a 4096 true = true → Memory.wf s.mem = true →
      ∃ t, exec (.stallCmdDone i) s = .next t ∧ t.StallEnds i (s.stSt i) 0 ∧ t.mnum a 4 = 0x53544C52 ∧ t.mnum (a + 4) 2 = 1 ∧ t.mnum (a + 6) 1 = i ∧
        t.mnum (a + 8) 2 = (s.rd .STL_BIND i).toNat % 2 ^ 16 ∧ t.mnum (a + 0x10) 8 = s.tick.count % 2 ^ 64 ∧ t.mnum (a + 0x18) 8 = s.keep.serial.toNat ∧
        t.mnum (a + 0xFFC) 4 = crc32 (t.mread a 0xFFC) % 2 ^ 32 ∧ (∀ k, k < a ∨ a + 4096 ≤ k → t.mget k = s.mget k)) ∧
    (s.dramSize < a + 4096 ∨ s.memOpen edReq a 4096 true = false → ∃ t, exec (.stallCmdDone i) s = .next t ∧ t.StallEnds i (s.stSt i) 5 ∧ t.mem = s.mem)) ∧
  (∀ (s : State) (i : Fin 256), s.stlCmd i = some 7 →
    let a := s.recAddr i
    (s.dramSize < a + 4096 → ∃ t, exec (.stallCmdDone i) s = .next t ∧ t.StallEnds i (s.stSt i) 5 ∧ Frame [.stall, .rSTL] s t) ∧
    (∀ b, a + 4096 ≤ s.dramSize → s.memRd edReq a 4096 = some b →
      (u32 b 0 ≠ 0x53544C52 ∨ u16 b 4 ≠ 1 ∨ u32 b 0xFFC ≠ crc32 (b.take 0xFFC) → ∃ t, exec (.stallCmdDone i) s = .next t ∧ t.StallEnds i (s.stSt i) 4 ∧ Frame [.stall, .rSTL] s t) ∧
      (s.restoreCode i b ≠ 0 → ∃ t, exec (.stallCmdDone i) s = .next t ∧ t.StallEnds i (s.stSt i) (s.restoreCode i b) ∧ Frame [.stall, .rSTL] s t) ∧
      (s.restoreCode i b = 0 → ∃ t, exec (.stallCmdDone i) s = .next t ∧ t.StallEnds i 4 0 ∧ t.rd .STL_BIND i = BitVec.ofNat 32 (u16 b 8) ∧
        (∀ k, k < 8 → t.rd .STL_MBX_MAP (i * 8 + k) = if bit (u32 b (0x200 + 160 * k)) 31 then BitVec.ofNat 32 (u32 b (0x200 + 160 * k)) &&& 0x8000017F else 0) ∧
        (∀ k, k < 4 → t.rd .STL_WIN_A (i * 4 + k) = BitVec.ofNat 32 (u32 b (0x40 + 16 * k)) ∧ t.rd .STL_WIN_B (i * 4 + k) = BitVec.ofNat 32 (u32 b (0x44 + 16 * k)) &&& 0xFC0FFFFF) ∧
        (∀ k, k < 16 → t.rd .STL_VIEW_BASE (i * 16 + k) = BitVec.ofNat 32 (u32 b (0x80 + 16 * k)) &&& 0xFFFFF ∧
          t.rd .STL_VIEW_CNT (i * 16 + k) = BitVec.ofNat 32 (u32 b (0x84 + 16 * k)) &&& 0x801FFFFF) ∧
        (∀ k, k < min 32 (u8 b 0xD) → t.ownStall (u16 b (0x700 + 48 * k)) = some i.val) ∧
        (∀ k, k < 32 → bit (u32 b (0x180 + 4 * k)) 15 = true → bit (u32 b (0x180 + 4 * k)) 14 = true → t.evPend (u32 b (0x180 + 4 * k) % 2 ^ 11) = true)))) ∧
  (∀ (s : State) (i : Fin 256),
    (s.stlCmd i = some 8 → ∃ t, exec (.stallCmdDone i) s = .next t ∧ t.StallEnds i 3 0 ∧ s.StallCleared t i ∧
      (∀ k, t.rd .STL_MBX_MAP k = s.rd .STL_MBX_MAP k ∧ t.rd .STL_SRC k = s.rd .STL_SRC k ∧ t.rd .CH_OWN k = s.rd .CH_OWN k)) ∧
    (s.stlCmd i = some 9 → ∃ t, exec (.stallCmdDone i) s = .next t ∧ t.StallEnds i 0 0 ∧ s.StallCleared t i ∧ t.mbxSlots i = [] ∧ t.srcSlots i = [] ∧ t.viewSlots i = [] ∧
      ∀ c, c ∈ s.ownedCh i → t.rd .CH_OWN c = 3))

/-- R499 accepts an access of q to offset o of stall i's page. -/
def Sys2Proof.Machine.State.pageOpen (s : State) (q : Req) (i o : Nat) : Prop :=
  (∃ n, q.agent = .core n) ∧
  (if 0x800 ≤ o then q.lvl = .h ∨ q.lvl = .m
   else if q.lvl = .u ∨ q.lvl = .s then s.stSt i = 1 ∧ q.sid.toNat = s.gf .STL_BIND i F.STL_BIND.SID else s.stSt i ≠ 0)

/-- The access is answered with a bus error and counted, and has no other effect. -/
def Sys2Proof.Machine.State.deniedAt (s : State) (i : Nat) : Out := .next { s.inc .STL_MGR_STAT i F.STL_MGR_STAT.DENIED 1 with reply := .busError }

/-- The slots of a map register's kind that stall i holds, and their limit (R495). -/
def Sys2Proof.Machine.State.slotsOf (s : State) (i : Nat) (r : Reg) : Nat × Nat :=
  match r with
  | .STL_MBX_MAP => ((s.mbxSlots i).length, s.stlLim i 1)
  | .STL_SRC => ((s.srcSlots i).length, s.stlLim i 3)
  | .STL_VIEW_CNT => ((s.viewSlots i).length, s.stlLim i 2)
  | _ => (0, 0)

/-- Map writes and the page (R495, R497 to R499). -/
def Obligations.StallMapsAndPagesAreChecked : Prop :=
  (∀ (s : State) (i : Fin 256) (o : BitVec 12) (who : Req) (v : W32) (r : Reg) (per k : Nat), (r, per) ∈ stlMaps → k < per →
    0x200000D00000 + i * 0x1000 + o.toNat = r.addrOf (i * per + k) → s.Admits who r (i * per + k) →
    let n := regMerge r.desc (s.rd r (i * per + k)) v
    let t := s.wr r (i * per + k) n
    let full := (s.slotsOf i r).1 < (t.slotsOf i r).1 ∧ (t.slotsOf i r).2 < (t.slotsOf i r).1
    let clash := n.getLsbD 31 = true ∧ (r = .STL_MBX_MAP ∧ s.mbxMapOk i n = false ∨ r = .STL_SRC ∧ s.srcMapOk i n = false)
    (s.stSt i = 1 ∨ s.stSt i = 2 → exec (.stlMapWrite i o who v) s = (s.stCode i 1).wrote) ∧
    (s.stSt i ≠ 1 → s.stSt i ≠ 2 → full → exec (.stlMapWrite i o who v) s = (s.stCode i 6).wrote) ∧
    (s.stSt i ≠ 1 → s.stSt i ≠ 2 → ¬full → clash → exec (.stlMapWrite i o who v) s = (s.stCode i 3).wrote) ∧
    (s.stSt i ≠ 1 → s.stSt i ≠ 2 → ¬full → ¬clash → exec (.stlMapWrite i o who v) s = t.wrote)) ∧
  (∀ (s : State) (i : Nat) (n : W32), ((tget [] s.regs Reg.STL_SRC.ctorIdx).map (·.1)).Nodup → ((tget [] s.regs Reg.STL_MBX_MAP.ctorIdx).map (·.1)).Nodup →
    let src := n.toNat % 2 ^ 11
    let m := n.toNat % 2 ^ 7
    (s.srcMapOk i n = false ↔ (∃ j, j / 32 ≠ i ∧ (s.rd .STL_SRC j).getLsbD 31 = true ∧ (s.rd .STL_SRC j).toNat % 2 ^ 11 = src) ∨ (512 ≤ src ∧ src ≤ 767) ∨ (1216 ≤ src ∧ src ≤ 1279)) ∧
    (s.mbxMapOk i n = false ↔ (∃ j, j / 8 ≠ i ∧ (s.rd .STL_MBX_MAP j).getLsbD 31 = true ∧ (s.rd .STL_MBX_MAP j).toNat % 2 ^ 7 = m ∧ (s.rd .STL_MBX_MAP j).getLsbD 8 = n.getLsbD 8) ∨
      s.gf .MBX_CFG m (if n.getLsbD 8 then F.MBX_CFG.SIDE_B else F.MBX_CFG.SIDE_A) ≠ 0xFF)) ∧
  (∀ (s : State) (i : Fin 256) (who : Req) (v : W32), s.Admits who .STL_BIND i →
    (s.stSt i = 1 ∨ s.stSt i = 2 → exec (.stlBindWrite i who v) s = (s.stCode i 1).wrote) ∧
    (s.stSt i ≠ 1 → s.stSt i ≠ 2 → exec (.stlBindWrite i who v) s = (s.plainWrite .STL_BIND i v).wrote ∧ (s.plainWrite .STL_BIND i v).gf .STL_BIND i F.STL_BIND.SID = v.toNat % 2 ^ 16)) ∧
  (∀ (s : State) (i : Fin 256) (o : BitVec 12) (who : Req) (w : Option W64),
    let a := 0x200000D00000 + i * 0x1000 + o.toNat
    (¬s.pageOpen who i o.toNat → o.toNat % 4 = 0 → exec (.stallPageAccess i o 2 who w) s = s.deniedAt i) ∧
    (¬s.pageOpen who i o.toNat → o.toNat % 8 = 0 → exec (.stallPageAccess i o 3 who w) s = s.deniedAt i) ∧
    (∀ r k, s.pageOpen who i o.toNat → o.toNat % 4 = 0 → o.toNat < 0x100 ∨ 0x300 ≤ o.toNat → Reg.at a = some (r, k) → a = r.addrOf k →
      (∀ x, exec (.stallPageAccess i o 2 who (some x)) s = exec (.registerWrite (BitVec.ofNat 48 a) who (x.setWidth 32)) s) ∧
      (r.desc.rc = 0 → ∃ (t : State) (y : W32), exec (.stallPageAccess i o 2 who none) s = t.showed y)))

/-- The tenant's registers (R505 to R507). -/
def Obligations.StallTenantRegistersAct : Prop :=
  (∀ (s : State) (i : Fin 256) (who : Req) (v : W32), s.Admits who .STL_T_BELL i →
    ∃ t : State, exec (.ring i who v) s = t.wrote ∧ t.evPend (512 + i) = true ∧ t.gb .STL_MGR_STAT i F.STL_MGR_STAT.BELL = true ∧ Frame [.core, .evd, .pwr, .rEVD, .rSTL, .rPWR] s t) ∧
  (∀ (s : State) (i : Fin 256) (who : Req) (v : W32),
    let named (y : Nat) : Prop := ∃ k, k ∈ s.srcSlots i ∧ v.getLsbD k = true ∧ s.slotSrc i k = y
    (s.Admits who .STL_T_EN_SET i → ∃ t : State, exec (.stlTEnSet i who v) s = t.wrote ∧ (∀ y, y < 2048 → (t.evEn y = true ↔ s.evEn y = true ∨ named y)) ∧ Frame [.rEVD] s t) ∧
    (s.Admits who .STL_T_EN_CLR i → ∃ t : State, exec (.stlTEnClr i who v) s = t.wrote ∧ (∀ y, y < 2048 → (t.evEn y = true ↔ s.evEn y = true ∧ ¬named y)) ∧ Frame [.rEVD, .evd] s t) ∧
    (s.Admits who .STL_T_PEND_CLR i → ∃ t : State, exec (.stlTPendClr i who v) s = t.wrote ∧ (∀ y, y < 2048 → (t.evPend y = true ↔ s.evPend y = true ∧ ¬named y)) ∧ Frame [.rEVD, .evd] s t)) ∧
  (∀ (s : State) (i : Fin 256) (who : Req), s.Shows who .STL_T_BSN_ALLOC i →
    let p := s.stlPool i
    (p = 0xFF ∨ u32 (s.entD tSTL i) 8 ≤ s.tagged i → exec (.stlTBsnAlloc i who) s = s.showed 0) ∧
    (p ≠ 0xFF → s.tagged i < u32 (s.entD tSTL i) 8 → s.grants p = false → exec (.stlTBsnAlloc i who) s = (s.inc .BSN_POOL_STAT p F.BSN_POOL_STAT.REFUSED 1).showed 0) ∧
    (p ≠ 0xFF → s.tagged i < u32 (s.entD tSTL i) 8 → s.grants p = true → s.basin.length < 131072 → List.Pairwise (fun a b => a < b) (s.basin.map (·.1)) → (∀ x, x ∈ s.basin → x.1 < 131072) →
      ∃ (t : State) (g : Nat), exec (.stlTBsnAlloc i who) s = t.showed (BitVec.ofNat 32 (g + 1)) ∧ g < 131072 ∧ tget? s.basin g = none ∧
        (∀ k, tget? t.basin k = if k = g then some { pool := p, stall := some i.val } else tget? s.basin k) ∧ t.tagged i = s.tagged i + 1 ∧ Frame [.basin, .rBSN] s t)) ∧
  (∀ (s : State) (i : Fin 256) (who : Req) (v : W32), s.Admits who .STL_T_BSN_FREE i →
    let g := v.toNat % 2 ^ 17
    let its := ∃ x, tget? s.basin g = some x ∧ x.stall = some i.val
    (its → ∃ t : State, exec (.stlTBsnFree i who v) s = t.wrote ∧ tget? t.basin g = none ∧ (∀ k, k ≠ g → tget? t.basin k = tget? s.basin k) ∧ Frame [.basin] s t) ∧
    (¬its → exec (.stlTBsnFree i who v) s = (s.pb .BSN_STATUS 0 F.BSN_STATUS.BADFREE true).wrote)) ∧
  (∀ (s : State) (i : Fin 256) (who : Req) (v : W32), s.Admits who .STL_T_LV_CMD i → ∀ c w, (c, w) ∈ [(Instr.lvRead i who v, (v ||| 0x80000000) &&& ~~~(0x10000000 : W32)), (.setthr i who v, v ||| 0x90000000)] →
    let u := s.plainWrite .STL_T_LV_CMD i w
    ((s.stl i).lv = none → exec c s = (u.setStl i { s.stl i with lv := some w.toNat }).wrote) ∧ ((s.stl i).lv ≠ none → exec c s = u.wrote)) ∧
  (∀ (s : State) (i : Fin 256) (w : W32), (s.stl i).lv = some w.toNat →
    let view := i * 16 + w.toNat / 2 ^ 24 % 16
    let off := w.toNat % 2 ^ 21
    let n := (s.rd .STL_VIEW_CNT view).toNat % 2 ^ 21
    let x := (s.rd .STL_VIEW_BASE view).toNat % 2 ^ 20 + off
    let ends (code : Nat) : State := (s.setStl i { s.stl i with lv := none }).wr .STL_T_LV_STAT i (BitVec.ofNat 32 (2 ^ 31 + code))
    (n = 0 ∨ (w.getLsbD 28 = true ∧ (s.rd .STL_VIEW_CNT view).getLsbD 31 = false) → exec (.lvCmdDone i) s = .next (ends 2)) ∧
    (n ≠ 0 → w.getLsbD 28 = false ∨ (s.rd .STL_VIEW_CNT view).getLsbD 31 = true → n ≤ off ∨ s.seriesCount ≤ x → exec (.lvCmdDone i) s = .next (ends 1)) ∧
    (off < n → x < s.seriesCount → s.serOk x = false → w.getLsbD 28 = false ∨ (s.rd .STL_VIEW_CNT view).getLsbD 31 = true → exec (.lvCmdDone i) s = .next (ends 3)) ∧
    (off < n → x < s.seriesCount → s.serOk x = true → w.getLsbD 28 = false → ∃ t, exec (.lvCmdDone i) s = .next t ∧ (t.stl i).lv = none ∧ t.rd .STL_T_LV_STAT i = 0x80000000 ∧
      (∀ k, k < 16 → t.rd .STL_T_LV_DATA (i * 16 + k) = BitVec.ofNat 32 (u32 (s.ser x) (4 * k))) ∧ t.ldg = s.ldg ∧ t.mem = s.mem) ∧
    (off < n → x < s.seriesCount → s.serOk x = true → w.getLsbD 28 = true → (s.rd .STL_VIEW_CNT view).getLsbD 31 = true → (s.ser x).length = 64 →
      let d (k : Nat) : Nat := (s.rd .STL_T_LV_DATA (i * 16 + k)).toNat
      let b := s.ser x
      let c := putAt (putAt (putAt (putAt b 44 (leBytes 4 (d 11))) 48 (leBytes 4 (d 12))) 54 (leBytes 2 (d 13 / 2 ^ 16))) 1 [BitVec.ofNat 8 (u8 b 1 % 2 ^ 6 + d 0 / 2 ^ 14 % 4 * 2 ^ 6)]
      (s.serStays x c → ∃ t, exec (.lvCmdDone i) s = .next t ∧ t.ser x = c ∧ t.rd .STL_T_LV_STAT i = 0x80000000 ∧ (t.stl i).lv = none) ∧
      u32 c 44 = d 11 ∧ u32 c 48 = d 12 ∧ u16 c 54 = d 13 / 2 ^ 16 ∧ u8 c 1 / 2 ^ 6 = d 0 / 2 ^ 14 % 4 ∧ u8 c 1 % 2 ^ 6 = u8 b 1 % 2 ^ 6 ∧
        (∀ k, k ≠ 1 → (k < 44 ∨ 52 ≤ k) → k ≠ 54 → k ≠ 55 → u8 c k = u8 b k))) ∧
  (∀ (s : State) (i : Fin 256) (k : Fin 8) (n : Fin 32) (who : Req) (v x : W32) (r : List (W32 × W32)) (st w : W32), who.agent = .core n → who.lvl = .u ∨ who.lvl = .s →
    s.stSt i = 1 → who.sid.toNat = s.gf .STL_BIND i F.STL_BIND.SID → s.rd .STL_MBX_MAP (i.val * 8 + k.val) = v → v.getLsbD 31 = true →
    let m := v.toNat % 2 ^ 7
    let b := v.getLsbD 8
    let slot (o : Nat) : BitVec 12 := BitVec.ofNat 12 (0x100 + 0x40 * k.val + o)
    s.fenced 9 m = false →
      ((s.way m (!b)).q = (st, w) :: r → exec (.stallPageAccess i (slot (if b then 0x0C else 0x2C)) 2 who none) s = (s.setDir m (!b) { s.way m (!b) with q := r }).showed w) ∧
      ((s.way m b).q.length < 8 → s.frozenOther m b = false → ∃ t : State, exec (.stallPageAccess i (slot (if b then 0x20 else 0)) 2 who (some (x.setWidth 64))) s = t.wrote ∧
        (t.way m b).q = (s.way m b).q ++ [(stampWord (12 + who.lvl.num) i n (s.way m b).seq, x)]))

/-! ## Parhild-64 cores: what an instruction leaves -/

/-- The instruction at the PC of core n can execute: the core runs and nothing that R398 puts before it is due, DET owes nothing (R353), and the fetch of the instruction faults nowhere. -/
structure Sys2Proof.Machine.State.Issues (s : State) (n : Nat) : Prop where
  runs : s.canRun n = true
  det : (s.cor n).detDue = false
  fetch : ((let u := s.resyncTrace n; u.setCor n { u.cor n with shield := false, evs := [] }).fetch n).2 = none

/-- PC and LCNT once the instruction at PC has completed and falls through (R376): at LEND of a loop with COUNT > 1 the body's start, COUNT less by one while it is not 0. -/
def Sys2Proof.Machine.State.fallsTo (s : State) (n : Nat) : W64 × W64 :=
  let l := (s.sr n srLCNT).toNat
  if l % 2 ^ 32 ≠ 0 ∧ s.pcOf n = s.sr n srLEND then
    (if 1 < l % 2 ^ 32 then s.sr n srLEND - BitVec.ofNat 64 (4 * (l / 2 ^ 32)) else s.pcOf n + 4, BitVec.ofNat 64 (l - 1))
  else (s.pcOf n + 4, s.sr n srLCNT)

/-- LCNT after a taken jump to `target`: a target outside the loop's body sets COUNT to 0 (R376). -/
def Sys2Proof.Machine.State.jumpCnt (s : State) (n : Nat) (target : W64) : W64 :=
  let l := (s.sr n srLCNT).toNat
  let start := s.sr n srLEND - BitVec.ofNat 64 (4 * (l / 2 ^ 32))
  if l % 2 ^ 32 ≠ 0 ∧ ¬(start.toNat ≤ target.toNat ∧ target.toNat ≤ (s.sr n srLEND).toNat) then BitVec.ofNat 64 (l / 2 ^ 32 * 2 ^ 32) else s.sr n srLCNT

/-- What an instruction of core n leaves beside its result in g[d]: every other general register, the stack pointers of the other levels, STATUS and every system register but LCNT, LEND and the PMU's, every byte of memory, and the registers of the other cores. -/
structure Sys2Proof.Machine.State.Leaves (s t : State) (n d : Nat) : Prop where
  regs : ∀ i, i ≠ d → t.gr n i = s.gr n i
  sps : ∀ l, (d = 31 → l ≠ (s.lvl n).num) → (t.cor n).spAt l = (s.cor n).spAt l
  srs : ∀ k, k ≠ srLCNT → k ≠ srLEND → isPmu k = false → t.sr n k = s.sr n k
  mem : ∀ a, t.mget a = s.mget a
  others : ∀ m, m ≠ n → t.pcOf m = s.pcOf m ∧ ∀ i, t.gr m i = s.gr m i

/-- The instruction completes with v in g[d] (g0 stays 0) and falls through. -/
structure Sys2Proof.Machine.State.Retires (s t : State) (n d : Nat) (v : W64) : Prop where
  leaves : s.Leaves t n d
  result : t.gr n d = if d = 0 then 0 else v
  pc : t.pcOf n = (s.fallsTo n).1
  lcnt : t.sr n srLCNT = (s.fallsTo n).2
  lend : t.sr n srLEND = s.sr n srLEND
  buffer : (t.cor n).sb = (s.cor n).sb

/-- The instruction completes with v in g[d] and jumps to `target`. -/
structure Sys2Proof.Machine.State.Jumps (s t : State) (n d : Nat) (v target : W64) : Prop where
  leaves : s.Leaves t n d
  result : t.gr n d = if d = 0 then 0 else v
  pc : t.pcOf n = target
  lcnt : t.sr n srLCNT = s.jumpCnt n target
  lend : t.sr n srLEND = s.sr n srLEND
  buffer : (t.cor n).sb = (s.cor n).sb

/-- The instruction writes no register and takes the exception e (R393, R399): t is the state after entry, from a state with the registers and the memory of s. -/
def Sys2Proof.Machine.State.TrapsBy (s t : State) (n : Nat) (e : Exc) : Prop :=
  ∃ u, s.Leaves u n 0 ∧ u.pcOf n = s.pcOf n ∧ u.sr n srLCNT = s.sr n srLCNT ∧ u.sr n srLEND = s.sr n srLEND ∧ t = u.trap n e

/-- As TrapsBy, by cause code and FADDR, SYND 0. -/
def Sys2Proof.Machine.State.Traps (s t : State) (n code : Nat) (faddr : W64) : Prop := s.TrapsBy t n { code := code, faddr := faddr, synd := 0 }

/-- The state in which an instruction that issues does its own work. -/
def Sys2Proof.Machine.State.issued (s : State) (n : Nat) : State := ((let u := s.resyncTrace n; u.setCor n { u.cor n with shield := false, evs := [] }).fetch n).1

/-- DRAM or basin stands at the address. -/
def Sys2Proof.Machine.State.isRam (s : State) (a : Nat) : Prop := s.rgn a = .basin ∨ ∃ k, s.rgn a = .dram k

/-- An integer instruction: its core, destination, whether its reserved bits are 0, its width, its exact result, and whether the column Ovf marks it. -/
structure Sys2Proof.Machine.P64Op where
  n : Fin 32
  d : Fin 32
  legal : Bool
  w : Nat
  val : Int
  ovf : Bool

/-- The tables of R365, R366, R367 and R374, but the divides. -/
def Sys2Proof.Machine.p64Op (s : State) (i : Instr) : Option P64Op :=
  let rr (n d a b : Fin 32) (z : BitVec 8) (w : Nat) (ovf : Bool) (f : W64 → W64 → Int) : Option P64Op :=
    some { n := n, d := d, legal := z == 0, w := w, val := f (s.gr n a) (s.gr n b), ovf := ovf }
  let rk (n d a : Fin 32) (legal : Bool) (w : Nat) (ovf : Bool) (f : W64 → Int) : Option P64Op :=
    some { n := n, d := d, legal := legal, w := w, val := f (s.gr n a), ovf := ovf }
  let lo (x : W64) : Int := (x.setWidth 32).toInt
  let lou (x : W64) : Int := (x.toNat % 2 ^ 32 : Nat)
  let one (p : Bool) : Int := if p then 1 else 0
  match i with
  | .add n d a b z => rr n d a b z 64 true (fun x y => x.toInt + y.toInt)
  | .sub n d a b z => rr n d a b z 64 true (fun x y => x.toInt - y.toInt)
  | .addm n d a b z => rr n d a b z 64 false (fun x y => x.toInt + y.toInt)
  | .subm n d a b z => rr n d a b z 64 false (fun x y => x.toInt - y.toInt)
  | .and n d a b z => rr n d a b z 64 false (fun x y => (x &&& y).toInt)
  | .or n d a b z => rr n d a b z 64 false (fun x y => (x ||| y).toInt)
  | .xor n d a b z => rr n d a b z 64 false (fun x y => (x ^^^ y).toInt)
  | .andn n d a b z => rr n d a b z 64 false (fun x y => (x &&& ~~~y).toInt)
  | .shl n d a b z => rr n d a b z 64 false (fun x y => x.toInt * 2 ^ (y.toNat % 2 ^ 6))
  | .shr n d a b z => rr n d a b z 64 false (fun x y => (x.toNat : Int) / 2 ^ (y.toNat % 2 ^ 6))
  | .sar n d a b z => rr n d a b z 64 false (fun x y => x.toInt / 2 ^ (y.toNat % 2 ^ 6))
  | .clt n d a b z => rr n d a b z 64 false (fun x y => one (decide (x.toInt < y.toInt)))
  | .cltu n d a b z => rr n d a b z 64 false (fun x y => one (decide (x.toNat < y.toNat)))
  | .min n d a b z => rr n d a b z 64 false (fun x y => min x.toInt y.toInt)
  | .max n d a b z => rr n d a b z 64 false (fun x y => max x.toInt y.toInt)
  | .minu n d a b z => rr n d a b z 64 false (fun x y => (min x.toNat y.toNat : Nat))
  | .maxu n d a b z => rr n d a b z 64 false (fun x y => (max x.toNat y.toNat : Nat))
  | .add32 n d a b z => rr n d a b z 32 true (fun x y => lo x + lo y)
  | .sub32 n d a b z => rr n d a b z 32 true (fun x y => lo x - lo y)
  | .shl32 n d a b z => rr n d a b z 32 false (fun x y => lo x * 2 ^ (y.toNat % 2 ^ 5))
  | .shr32 n d a b z => rr n d a b z 32 false (fun x y => lou x / 2 ^ (y.toNat % 2 ^ 5))
  | .sar32 n d a b z => rr n d a b z 32 false (fun x y => lo x / 2 ^ (y.toNat % 2 ^ 5))
  | .addk n d a k => rk n d a true 64 true (fun x => x.toInt + k.toInt)
  | .addkm n d a k => rk n d a true 64 false (fun x => x.toInt + k.toInt)
  | .andk n d a k => rk n d a true 64 false (fun x => (x &&& k.setWidth 64).toInt)
  | .ork n d a k => rk n d a true 64 false (fun x => (x ||| k.setWidth 64).toInt)
  | .xork n d a k => rk n d a true 64 false (fun x => (x ^^^ k.setWidth 64).toInt)
  | .cltk n d a k => rk n d a true 64 false (fun x => one (decide (x.toInt < k.toInt)))
  | .cltuk n d a k => rk n d a true 64 false (fun x => one (decide ((x.toNat : Int) < k.toInt % 2 ^ 64)))
  | .shlk n d a k => rk n d a (decide (k.toNat < 64)) 64 false (fun x => x.toInt * 2 ^ k.toNat)
  | .shrk n d a k => rk n d a (decide (k.toNat < 64)) 64 false (fun x => (x.toNat : Int) / 2 ^ k.toNat)
  | .sark n d a k => rk n d a (decide (k.toNat < 64)) 64 false (fun x => x.toInt / 2 ^ k.toNat)
  | .addk32 n d a k => rk n d a true 32 true (fun x => lo x + k.toInt)
  | .shlk32 n d a k => rk n d a (decide (k.toNat < 32)) 32 false (fun x => lo x * 2 ^ k.toNat)
  | .shrk32 n d a k => rk n d a (decide (k.toNat < 32)) 32 false (fun x => lou x / 2 ^ k.toNat)
  | .sark32 n d a k => rk n d a (decide (k.toNat < 32)) 32 false (fun x => lo x / 2 ^ k.toNat)
  | .mul n d a b z => rr n d a b z 64 true (fun x y => x.toInt * y.toInt)
  | .mulhi n d a b z => rr n d a b z 64 false (fun x y => x.toInt * y.toInt / 2 ^ 64)
  | .mulhiu n d a b z => rr n d a b z 64 false (fun x y => (x.toNat * y.toNat / 2 ^ 64 : Nat))
  | .mul32 n d a b z => rr n d a b z 32 true (fun x y => lo x * lo y)
  | .mkhi n d k => rk n d 0 true 64 false (fun _ => k.toInt * 2 ^ 13)
  | .pchi n d k => rk n d 0 true 64 false (fun _ => (s.pcOf n).toNat + k.toInt * 2 ^ 13)
  | _ => none

/-- Results of the integer instructions (R365 to R367, R369, R374). -/
def Obligations.P64IntegerResults : Prop :=
  ∀ (s : State) (i : Instr) (p : P64Op), p64Op s i = some p → s.Issues p.n →
    let outside := p.ovf = true ∧ (p.val < -2 ^ (p.w - 1) ∨ 2 ^ (p.w - 1) ≤ p.val)
    (p.legal = false → ∃ t, exec i s = .next t ∧ s.Traps t p.n 0x01 (s.pcOf p.n)) ∧
    (p.legal = true → ¬(outside ∧ s.stBit p.n 7 = true) → ∃ t, exec i s = .next t ∧ s.Retires t p.n p.d ((BitVec.ofInt p.w p.val).signExtend 64)) ∧
    (p.legal = true → outside → s.stBit p.n 7 = true → ∃ t, exec i s = .next t ∧ s.Traps t p.n 0x13 (s.pcOf p.n))

/-- A divide instruction: core, destination, reserved bits, width, and the dividend and divisor as the instruction reads them; whether it is signed and gives the quotient. -/
structure Sys2Proof.Machine.P64Div where
  n : Fin 32
  d : Fin 32
  legal : Bool
  w : Nat
  x : Int
  y : Int
  signed : Bool
  quo : Bool

/-- The divides of R367. -/
def Sys2Proof.Machine.p64Div (s : State) (i : Instr) : Option P64Div :=
  let mk (n d a b : Fin 32) (z : BitVec 8) (w : Nat) (signed quo : Bool) : Option P64Div :=
    let rd (v : W64) : Int := if signed then (v.setWidth w).toInt else (v.toNat % 2 ^ w : Nat)
    some { n := n, d := d, legal := z == 0, w := w, x := rd (s.gr n a), y := rd (s.gr n b), signed := signed, quo := quo }
  match i with
  | .div n d a b z => mk n d a b z 64 true true
  | .divu n d a b z => mk n d a b z 64 false true
  | .mod n d a b z => mk n d a b z 64 true false
  | .modu n d a b z => mk n d a b z 64 false false
  | .div32 n d a b z => mk n d a b z 32 true true
  | .divu32 n d a b z => mk n d a b z 32 false true
  | .mod32 n d a b z => mk n d a b z 32 true false
  | .modu32 n d a b z => mk n d a b z 32 false false
  | _ => none

/-- Divides (R367 to R369). -/
def Obligations.P64DivideResults : Prop :=
  ∀ (s : State) (i : Instr) (p : P64Div), p64Div s i = some p → s.Issues p.n →
    let out (v : Int) : W64 := (BitVec.ofInt p.w v).signExtend 64
    let corner := p.signed = true ∧ p.quo = true ∧ p.x = -2 ^ (p.w - 1) ∧ p.y = -1
    (p.legal = false → ∃ t, exec i s = .next t ∧ s.Traps t p.n 0x01 (s.pcOf p.n)) ∧
    (p.legal = true →
      (p.y = 0 → s.stBit p.n 6 = true → ∃ t, exec i s = .next t ∧ s.Traps t p.n 0x12 (s.pcOf p.n)) ∧
      (p.y = 0 → s.stBit p.n 6 = false → ∃ t, exec i s = .next t ∧ s.Retires t p.n p.d (out (if p.quo then 0 else p.x))) ∧
      (corner → s.stBit p.n 7 = true → ∃ t, exec i s = .next t ∧ s.Traps t p.n 0x13 (s.pcOf p.n)) ∧
      (corner → s.stBit p.n 7 = false → ∃ t, exec i s = .next t ∧ s.Retires t p.n p.d (out p.x)) ∧
      (p.y ≠ 0 → ¬corner → ∃ (t : State) (v : Int), exec i s = .next t ∧ s.Retires t p.n p.d (out v) ∧
        (p.quo = true → (p.x - v * p.y).natAbs < p.y.natAbs ∧ (0 ≤ p.x → 0 ≤ p.x - v * p.y) ∧ (p.x ≤ 0 → p.x - v * p.y ≤ 0)) ∧
        (p.quo = false → v.natAbs < p.y.natAbs ∧ (p.x - v) % p.y = 0 ∧ (0 ≤ p.x → 0 ≤ v) ∧ (p.x ≤ 0 → v ≤ 0))))

/-- A branch or jump: its core, link register, whether its reserved bits are 0, whether it is taken, its target, and the return stack that it leaves. -/
structure Sys2Proof.Machine.P64Jump where
  n : Fin 32
  d : Fin 32
  legal : Bool
  taken : Bool
  target : W64
  ret : List W64

/-- The table of R372, with the classes of R373. -/
def Sys2Proof.Machine.p64Jump (s : State) (i : Instr) : Option P64Jump :=
  let cb (n a b : Fin 32) (off : BitVec 13) (c : W64 → W64 → Bool) : Option P64Jump :=
    some { n := n, d := 0, legal := true, taken := c (s.gr n a) (s.gr n b), target := s.pcOf n + 4 * off.signExtend 64, ret := (s.cor n).ret }
  let stack (n d a : Fin 32) (k : Option (BitVec 13)) : List W64 :=
    if s.noPred n = true then (s.cor n).ret
    else if d = 30 then ((s.pcOf n + 4) :: (s.cor n).ret).take 16
    else if d = 0 ∧ a = 30 ∧ k = some 0 then (s.cor n).ret.drop 1
    else (s.cor n).ret
  match i with
  | .cbeq n a b off => cb n a b off (fun x y => decide (x = y))
  | .cbne n a b off => cb n a b off (fun x y => decide (x ≠ y))
  | .cblt n a b off => cb n a b off (fun x y => decide (x.toInt < y.toInt))
  | .cbge n a b off => cb n a b off (fun x y => decide (y.toInt ≤ x.toInt))
  | .cbltu n a b off => cb n a b off (fun x y => decide (x.toNat < y.toNat))
  | .cbgeu n a b off => cb n a b off (fun x y => decide (y.toNat ≤ x.toNat))
  | .jlink n d k => some { n := n, d := d, legal := true, taken := true, target := s.pcOf n + 4 * k.signExtend 64, ret := stack n d 0 none }
  | .jlinkr n d a minor k => some { n := n, d := d, legal := minor == 0, taken := true, target := (s.gr n a + k.signExtend 64) &&& ~~~3, ret := stack n d a (some k) }
  | _ => none

/-- Branches, jumps, LOOP and NOP (R372, R373, R375 to R377). -/
def Obligations.P64ControlFlow : Prop :=
  (∀ (s : State) (i : Instr) (p : P64Jump), p64Jump s i = some p → s.Issues p.n →
    (p.legal = true → s.atLoopEnd p.n = false → ∃ t, exec i s = .next t ∧ (t.cor p.n).ret = p.ret ∧
      if p.taken = true then s.Jumps t p.n p.d (s.pcOf p.n + 4) p.target else s.Retires t p.n 0 0) ∧
    (p.legal = false ∨ s.atLoopEnd p.n = true → ∃ t, exec i s = .next t ∧ s.Traps t p.n 0x01 (s.pcOf p.n))) ∧
  (∀ (s : State) (n a : Fin 32) (e : BitVec 13) (z1 z2 : BitVec 5), s.Issues n →
    let c := (s.gr n a).toNat % 2 ^ 32
    let last := s.pcOf n + 4 + 4 * e.setWidth 64
    let ok := z1 = 0 ∧ z2 = 0 ∧ (s.sr n srLCNT).toNat % 2 ^ 32 = 0
    (ok → ∃ t, exec (.loop n a e z1 z2) s = .next t ∧ s.Leaves t n 0 ∧ (t.cor n).sb = (s.cor n).sb ∧
      (t.sr n srLCNT).toNat = e.toNat * 2 ^ 32 + c ∧ t.sr n srLEND = last ∧
      t.pcOf n = if c = 0 then last + 4 else s.pcOf n + 4) ∧
    (¬ok → ∃ t, exec (.loop n a e z1 z2) s = .next t ∧ s.Traps t n 0x01 (s.pcOf n))) ∧
  (∀ (s : State) (n : Fin 32) (d a : BitVec 5) (k : BitVec 13), s.Issues n →
    (d = 0 ∧ a = 0 ∧ k = 0 → ∃ t, exec (.nop n d a k) s = .next t ∧ s.Retires t n 0 0) ∧
    (¬(d = 0 ∧ a = 0 ∧ k = 0) → ∃ t, exec (.nop n d a k) s = .next t ∧ s.Traps t n 0x01 (s.pcOf n))) ∧
  (∀ (s : State) (n : Fin 32), s.pending = [] →
    let u : State := { s with tick := { s.tick with tb := s.idleTb } }
    let t := u.coreIllegal n
    u.coreReserved n = true → (∀ j, u.leReserved j = false) → (∀ k, k ≠ n → u.coreReserved k = false ∧ t.coreReserved k = false) →
      step s = .next t ∧ (u.Issues n → u.Traps t n 0x01 (u.pcOf n)))

/-- A load instruction: core, destination, base, offset, size, extension, and whether L1D holds its lines. -/
structure Sys2Proof.Machine.P64Load where
  n : Fin 32
  d : Fin 32
  a : Fin 32
  off : BitVec 13
  k : Nat
  signed : Bool
  hit : Bool

/-- The loads of R370. -/
def Sys2Proof.Machine.p64Load (i : Instr) : Option P64Load :=
  match i with
  | .ld8 n d a off hit => some ⟨n, d, a, off, 1, true, hit⟩
  | .ld8u n d a off hit => some ⟨n, d, a, off, 1, false, hit⟩
  | .ld16 n d a off hit => some ⟨n, d, a, off, 2, true, hit⟩
  | .ld16u n d a off hit => some ⟨n, d, a, off, 2, false, hit⟩
  | .ld32 n d a off hit => some ⟨n, d, a, off, 4, true, hit⟩
  | .ld32u n d a off hit => some ⟨n, d, a, off, 4, false, hit⟩
  | .ld64 n d a off hit => some ⟨n, d, a, off, 8, false, hit⟩
  | _ => none

/-- The value of `k` loaded bytes, the lowest address first. -/
def Sys2Proof.Machine.loaded (k : Nat) (signed : Bool) (b : Bytes) : W64 :=
  let v : BitVec 64 := BitVec.ofNat 64 (ofBytes b)
  if signed = true ∧ v.getLsbD (8 * k - 1) = true then v - BitVec.ofNat 64 (2 ^ (8 * k)) else v

/-- What the memory answers to the parts of a load, each its address and length. -/
def Sys2Proof.Machine.State.partBytes (s : State) (l : List (Nat × Nat)) : Bytes := l.flatMap (fun p => s.mread p.1 p.2)

/-- The load of core n keeps its PC and waits for its data. -/
structure Sys2Proof.Machine.State.Waits (s t : State) (n : Nat) (w : LoadWait) : Prop where
  leaves : s.Leaves t n 0
  pc : t.pcOf n = s.pcOf n
  lcnt : t.sr n srLCNT = s.sr n srLCNT
  lend : t.sr n srLEND = s.sr n srLEND
  buffer : (t.cor n).sb = (s.cor n).sb
  load : (t.cor n).load = some w

/-- Loads and LOAD_DATA_RETURN (R345, R370, R371, R461, R546). -/
def Obligations.P64Loads : Prop :=
  (∀ (s : State) (i : Instr) (p : P64Load), p64Load i = some p → s.Issues p.n →
    let va := s.gr p.n p.a + p.off.signExtend 64
    let r := ((s.issued p.n).access p.n .load va p.k).2
    let held := (((s.issued p.n).access p.n .load va p.k).1.cor p.n).l1t
    let sb := (s.cor p.n).sb
    (∀ e, r = .error e → ∃ t, exec i s = .next t ∧ s.TrapsBy t p.n e) ∧
    (∀ l, r = .ok l → p.hit = true → s.stBit p.n 8 = false → (∀ e ∈ sb, e.ty ≠ .strict) →
      (∀ q ∈ l, q.ty = .wb ∧ q.pa / 64 * 64 ∈ held ∧ (∀ e ∈ sb, e.overlaps q.pa q.len = false) ∧ ((s.issued p.n).access p.n .load va p.k).1.memOpen (coreReq s p.n) q.pa q.len false = true) →
      ∃ t, exec i s = .next t ∧ s.Retires t p.n p.d (loaded p.k p.signed (s.partBytes (l.map (fun q => (q.pa, q.len)))))) ∧
    (∀ l e older younger, r = .ok l → (∀ q ∈ l, q.ty.device = false) → (∀ x ∈ sb, x.ty ≠ .strict) →
      sb = older ++ e :: younger → (∀ x ∈ younger, ∀ q ∈ l, x.overlaps q.pa q.len = false) → (∃ q ∈ l, e.overlaps q.pa q.len = true) →
      ((∀ q ∈ l, e.pa ≤ q.pa ∧ q.pa + q.len ≤ e.pa + e.bytes.length) →
        ∃ t, exec i s = .next t ∧ s.Retires t p.n p.d (loaded p.k p.signed (l.flatMap (fun q => (e.bytes.drop (q.pa - e.pa)).take q.len)))) ∧
      ((∃ q ∈ l, q.pa < e.pa ∨ e.pa + e.bytes.length < q.pa + q.len) →
        ∃ t, exec i s = .next t ∧ s.Waits t p.n { d := p.d, parts := l.map (fun q => (q.pa, q.len)), size := p.k, signed := p.signed, va := va, wb := s.wbLines p.n l, ovlp := true })) ∧
    (∀ l, r = .ok l → (∀ e ∈ sb, e.ty.device = false) →
      (∀ q ∈ l, (q.ty = .strict → sb = []) ∧ (∀ e ∈ sb, e.overlaps q.pa q.len = false)) →
      (∃ q ∈ l, p.hit = false ∨ s.stBit p.n 8 = true ∨ q.ty ≠ .wb ∨ q.pa / 64 * 64 ∉ held) →
      ∃ t, exec i s = .next t ∧ s.Waits t p.n { d := p.d, parts := l.map (fun q => (q.pa, q.len)), size := p.k, signed := p.signed, va := va, wb := s.wbLines p.n l, ovlp := false })) ∧
  (∀ (s : State) (n : Fin 32) (e : Ecc),
    ((s.cor n).load = none → exec (.loadDataReturn n e) s = .next s) ∧
    (∀ w, (s.cor n).load = some w → s.fenced 0 n = false → 1 ≤ w.size → (w.parts.map (·.2)).sum = w.size →
      let waits := ∃ p ∈ w.parts, ∃ x ∈ (s.cor n).sb, x.overlaps p.1 p.2 = true
      let answers (p : Nat × Nat) : Prop := s.memOpen (coreReq s n) p.1 p.2 false = true
      let lost := e = .two ∧ ∃ p ∈ w.parts, p.1 < s.dramSize ∨ (basinBase ≤ p.1 ∧ p.1 < basinBase + 0x2000000)
      (waits → exec (.loadDataReturn n e) s = .next s) ∧
      ((∀ p ∈ w.parts, (s.rgn p.1).device = false) → ¬waits →
        ((∀ p ∈ w.parts, answers p) ∧ ¬lost →
          ∃ t, exec (.loadDataReturn n e) s = .next t ∧ s.Retires t n w.d (loaded w.size w.signed (s.partBytes w.parts)) ∧ (t.cor n).load = none) ∧
        ((∃ p ∈ w.parts, ¬answers p) ∨ lost → ∃ t, exec (.loadDataReturn n e) s = .next t ∧ s.Traps t n 0x10 w.va))))

/-- What an instruction of core n that falls through leaves beside g[d], memory and its store buffer. -/
structure Sys2Proof.Machine.State.Falls (s t : State) (n d : Nat) : Prop where
  regs : ∀ i, i ≠ d → t.gr n i = s.gr n i
  sps : ∀ l, (d = 31 → l ≠ (s.lvl n).num) → (t.cor n).spAt l = (s.cor n).spAt l
  srs : ∀ k, k ≠ srLCNT → isPmu k = false → t.sr n k = s.sr n k
  others : ∀ m, m ≠ n → t.pcOf m = s.pcOf m ∧ ∀ i, t.gr m i = s.gr m i
  pc : t.pcOf n = (s.fallsTo n).1
  lcnt : t.sr n srLCNT = (s.fallsTo n).2

/-- Exactly the bytes b, from address a upward, are new. -/
def Sys2Proof.Machine.State.WroteBytes (s t : State) (a : Nat) (b : Bytes) : Prop :=
  ∀ x, t.mget x = if a ≤ x ∧ x < a + b.length then b.getD (x - a) 0 else s.mget x

/-- A store instruction (R370): core, source, base, offset, size. -/
def Sys2Proof.Machine.p64Store (i : Instr) : Option (Fin 32 × Fin 32 × Fin 32 × BitVec 13 × Nat) :=
  match i with
  | .st8 n r a off => some (n, r, a, off, 1)
  | .st16 n r a off => some (n, r, a, off, 2)
  | .st32 n r a off => some (n, r, a, off, 4)
  | .st64 n r a off => some (n, r, a, off, 8)
  | _ => none

/-- The entries of a store's parts: the part at the lower address takes the lower bytes. -/
def Sys2Proof.Machine.sbEnts (sid : BitVec 16) (lvl : Lvl) : List Part → Bytes → List SbEnt
  | [], _ => []
  | p :: r, b => { pa := p.pa, bytes := b.take p.len, ty := p.ty, sid := sid, lvl := lvl } :: sbEnts sid lvl r (b.drop p.len)

/-- Stores and STORE_DRAIN (R344, R347, R353, R370, R371, R406). -/
def Obligations.P64Stores : Prop :=
  (∀ (s : State) (i : Instr) (n r a : Fin 32) (off : BitVec 13) (k : Nat), p64Store i = some (n, r, a, off, k) → s.Issues n →
    let va := s.gr n a + off.signExtend 64
    let x := ((s.issued n).access n .store va k).2
    let b := leBytes k (s.gr n r).toNat
    let sb := (s.cor n).sb
    (∀ e, x = .error e → ∃ t, exec i s = .next t ∧ s.TrapsBy t n e) ∧
    (∀ l, x = .ok l → s.stBit n 8 = false → sb.length + l.length ≤ 16 →
      ∃ t, exec i s = .next t ∧ s.Falls t n 0 ∧ (∀ x, t.mget x = s.mget x) ∧ (t.cor n).sb = sb ++ sbEnts (s.sid n) (s.lvl n) l b) ∧
    (∀ p, x = .ok [p] → s.stBit n 8 = true → sb = [] → Memory.wf s.mem = true → s.isRam p.pa → ((s.issued n).access n .store va k).1.memOpen (coreReq s n) p.pa k true = true →
      ∃ t, exec i s = .next t ∧ s.Falls t n 0 ∧ s.WroteBytes t p.pa b ∧ (t.cor n).sb = [])) ∧
  (∀ (s : State) (n : Fin 32), s.fenced 0 n = true ∨ (s.cor n).sb = [] → exec (.storeDrain n) s = .next s) ∧
  (∀ (s : State) (n : Fin 32) (e : SbEnt) (r : List SbEnt), s.fenced 0 n = false → (s.cor n).sb = e :: r → (s.rgn e.pa).device = false → Memory.wf s.mem = true →
    let q : Req := { agent := .core n, lvl := e.lvl, sid := e.sid, cls := 0 }
    let f := s.sr n srSTERR_FLAGS
    ∃ t, exec (.storeDrain n) s = .next t ∧ (t.cor n).sb = r ∧ t.pcOf n = s.pcOf n ∧
      (∀ m i, t.gr m i = s.gr m i) ∧ (∀ l, (t.cor n).spAt l = (s.cor n).spAt l) ∧
      (∀ k, k ≠ srSTERR_FLAGS → k ≠ srSTERR_ADDR → isPmu k = false → t.sr n k = s.sr n k) ∧
      (s.memOpen q e.pa e.bytes.length true = true → s.WroteBytes t e.pa e.bytes ∧ t.sr n srSTERR_FLAGS = f ∧ t.sr n srSTERR_ADDR = s.sr n srSTERR_ADDR) ∧
      (s.memOpen q e.pa e.bytes.length true = false → (∀ x, t.mget x = s.mget x) ∧
        (f.getLsbD 0 = true → t.sr n srSTERR_FLAGS = f ||| 6 ∧ t.sr n srSTERR_ADDR = s.sr n srSTERR_ADDR ∧ ∀ x, t.evPend x = s.evPend x) ∧
        (f.getLsbD 0 = false → t.evPend (1088 + 4 * n + 1) = true ∧ (t.sr n srSTERR_ADDR).toNat = e.pa % 2 ^ 48 ∧
          (t.sr n srSTERR_FLAGS).toNat = e.sid.toNat * 2 ^ 16 + e.lvl.num * 16 + 5 + (if f.getLsbD 1 = true then 2 else 0))))

/-- An atomic operation: core, destination, address register, size, whether its reserved bits are 0; by the old value and whether the reservation holds, what it writes, if anything, and the result that it returns; whether it sets or ends the reservation. -/
structure Sys2Proof.Machine.P64Atomic where
  n : Fin 32
  d : Fin 32
  a : Fin 32
  k : Nat
  legal : Bool
  new : Nat → Bool → Option Nat
  res : Nat → Bool → W64
  sets : Bool
  ends : Bool

/-- The table of R378. -/
def Sys2Proof.Machine.p64Atomic (s : State) (i : Instr) : Option P64Atomic :=
  let old (k v : Nat) : W64 := if k = 4 then (BitVec.ofNat 32 v).signExtend 64 else BitVec.ofNat 64 v
  let rmw (n d a b : Fin 32) (z : BitVec 8) (k : Nat) (f : Nat → Nat → Nat) : Option P64Atomic :=
    some ⟨n, d, a, k, z == 0, fun v _ => some (f v (s.gr n b).toNat), fun v _ => old k v, false, false⟩
  let rsv (n d a b : Fin 32) (z : BitVec 8) (k : Nat) : Option P64Atomic :=
    some ⟨n, d, a, k, z == 0 && b == 0, fun _ _ => none, fun v _ => old k v, true, false⟩
  let cmt (n d a b : Fin 32) (z : BitVec 8) (k : Nat) : Option P64Atomic :=
    some ⟨n, d, a, k, z == 0, fun _ h => if h then some (s.gr n b).toNat else none, fun _ h => if h then 1 else 0, false, true⟩
  let cas (n d a b : Fin 32) (z : BitVec 8) (k : Nat) : Option P64Atomic :=
    some ⟨n, d, a, k, z == 0, fun v _ => if v = (s.gr n d).toNat % 2 ^ (8 * k) then some (s.gr n b).toNat else none, fun v _ => old k v, false, false⟩
  match i with
  | .rsv32 n d a b z => rsv n d a b z 4
  | .rsv64 n d a b z => rsv n d a b z 8
  | .cmt32 n d a b z => cmt n d a b z 4
  | .cmt64 n d a b z => cmt n d a b z 8
  | .atswap32 n d a b z => rmw n d a b z 4 (fun _ y => y)
  | .atswap64 n d a b z => rmw n d a b z 8 (fun _ y => y)
  | .atadd32 n d a b z => rmw n d a b z 4 (fun x y => x + y)
  | .atadd64 n d a b z => rmw n d a b z 8 (fun x y => x + y)
  | .atand32 n d a b z => rmw n d a b z 4 (fun x y => x &&& y)
  | .atand64 n d a b z => rmw n d a b z 8 (fun x y => x &&& y)
  | .ator32 n d a b z => rmw n d a b z 4 (fun x y => x ||| y)
  | .ator64 n d a b z => rmw n d a b z 8 (fun x y => x ||| y)
  | .atcas32 n d a b z => cas n d a b z 4
  | .atcas64 n d a b z => cas n d a b z 8
  | _ => none

/-- Atomic operations (R378 to R380). -/
def Obligations.P64Atomics : Prop :=
  ∀ (s : State) (i : Instr) (p : P64Atomic), p64Atomic s i = some p → s.Issues p.n → (s.cor p.n).sb = [] →
    let va := s.gr p.n p.a
    let x := ((s.issued p.n).translate p.n (s.lvl p.n) .atomic va.toNat).2
    let u := ((s.issued p.n).translate p.n (s.lvl p.n) .atomic va.toNat).1
    let held := (u.cor p.n).rsv
    (p.legal = false → ∃ t, exec i s = .next t ∧ s.Traps t p.n 0x01 (s.pcOf p.n)) ∧
    (p.legal = true → va.toNat % p.k ≠ 0 → ∃ t, exec i s = .next t ∧ s.Traps t p.n 0x03 va) ∧
    (p.legal = true → va.toNat % p.k = 0 →
      (∀ f, x = .fault f → ∃ t, exec i s = .next t ∧ s.TrapsBy t p.n (Exc.ofFault f va)) ∧
      (∀ pa ty, x = .ok pa ty → ty ≠ .wb → ∃ t, exec i s = .next t ∧ s.Traps t p.n 0x04 va) ∧
      (∀ pa, x = .ok pa .wb → s.isRam pa → u.memOpen (coreReq s p.n) pa p.k false = false → ∃ t, exec i s = .next t ∧ s.Traps t p.n 0x10 va) ∧
      (∀ pa, x = .ok pa .wb → s.isRam pa → u.memOpen (coreReq s p.n) pa p.k false = true → Memory.wf s.mem = true →
        let v := s.mnum pa p.k
        let h := decide (held = some (pa, p.k))
        ∃ t, exec i s = .next t ∧ s.Falls t p.n p.d ∧ t.gr p.n p.d = (if p.d = 0 then 0 else p.res v h) ∧ (t.cor p.n).sb = [] ∧
          s.WroteBytes t pa (match p.new v h with | some w => leBytes p.k w | none => []) ∧
          (p.sets = true → (t.cor p.n).rsv = some (pa, p.k)) ∧
          (p.ends = true → (t.cor p.n).rsv = none) ∧
          (p.sets = false → p.ends = false → ∀ a m, held = some (a, m) → a / 64 = pa / 64 → a % 64 + m ≤ 64 → (t.cor p.n).rsv = some (a, m))))

/-- A system register by R388: the lowest level that reads it, the lowest that writes it (4: none), and the bits that a write stores. -/
def Sys2Proof.Machine.srRule (k : Nat) : Option (Nat × Nat × Nat) :=
  let own (base mask : Nat) : Option (Nat × Nat × Nat) := some (k - base + 1, k - base + 1, mask)
  let all : Nat := 2 ^ 64 - 1
  match k with
  | 0x000 => some (1, 1, 0)
  | 0x001 | 0x002 | 0x003 => own 1 (0xFFFF * 2 ^ 48 + 0x3F * 2 ^ 16 + 3 * 2 ^ 10 + 2 ^ 9 + 0x3F)
  | 0x004 | 0x005 | 0x006 => own 4 all
  | 0x008 => some (1, 1, 0xFFFF)
  | 0x009 => some (1, 2, 2 ^ 32 - 1)
  | 0x00C | 0x00D | 0x00E => own 0xC (all - 0xF * 2 ^ 48 - 7)
  | 0x010 => some (1, 1, all)
  | 0x011 | 0x012 | 0x013 => own 0x11 all
  | 0x018 | 0x019 | 0x01A => own 0x18 (all - 0x1FF)
  | 0x020 => some (1, 1, 2 ^ 45 - 1)
  | 0x021 => some (1, 1, all - 3)
  | 0x028 | 0x029 | 0x02A => own 0x28 all
  | 0x040 => some (1, 1, 2 ^ 48 - 2 ^ 12)
  | 0x041 => some (1, 1, 0xFFFFFF07)
  | 0x048 => some (2, 2, 2 ^ 48 - 2 ^ 12)
  | 0x049 => some (2, 2, 7)
  | 0x060 | 0x061 | 0x0B2 => some (1, 1, 0)
  | 0x070 => some (1, 1, 1)
  | 0x071 => some (1, 1, all)
  | 0x078 | 0x079 => some (0, 4, 0)
  | 0x07F => some (1, 4, 0)
  | 0x0B0 => some (1, 1, 0xF)
  | 0x0B1 => some (1, 1, 1)
  | 0x0C0 => some (1, 1, 0x3FF)
  | 0x0C1 => some (1, 1, 0)
  | 0x0C8 | 0x0C9 | 0x0CA | 0x0CB | 0x0CC | 0x0CD | 0x0CE | 0x0CF => some (1, 1, 0xFFF)
  | 0x0D0 | 0x0D1 | 0x0D2 | 0x0D3 | 0x0D4 | 0x0D5 | 0x0D6 | 0x0D7 => some (1, 1, 2 ^ 48 - 1)
  | _ => none

/-- A system-register instruction: core, destination, register, whether its unnamed operands are 0, whether it reads, and what it writes from the old value. -/
structure Sys2Proof.Machine.P64Sr where
  n : Fin 32
  d : Fin 32
  k : Nat
  legal : Bool
  read : Bool
  wr : Option (W64 → W64)

/-- MFSR, MTSR, MSSET and MSCLR (R381). -/
def Sys2Proof.Machine.p64Sr (s : State) (i : Instr) : Option P64Sr :=
  match i with
  | .mfsr n d a k => some ⟨n, d, k.toNat, a == 0, true, none⟩
  | .mtsr n d a k => some ⟨n, 0, k.toNat, d == 0, false, some (fun _ => s.gr n a)⟩
  | .msset n d a k => some ⟨n, d, k.toNat, true, true, some (fun old => old ||| s.gr n a)⟩
  | .msclr n d a k => some ⟨n, d, k.toNat, true, true, some (fun old => old &&& ~~~(s.gr n a))⟩
  | _ => none

/-- What a read of system register k finds. -/
def Sys2Proof.Machine.State.srShown (s : State) (n k : Nat) : W64 :=
  match k with
  | 0x078 => BitVec.ofNat 64 s.tick.tb
  | 0x079 => BitVec.ofNat 64 s.tick.count
  | 0x010 | 0x011 | 0x012 | 0x013 => (s.cor n).spAt (k - 0x010)
  | _ => s.sr n k

/-- The bits of `m` from v, the others from `old`. -/
def Sys2Proof.Machine.bitsFrom (m : Nat) (old v : W64) : W64 := (old &&& ~~~(BitVec.ofNat 64 m)) ||| (v &&& BitVec.ofNat 64 m)

/-- What system register k holds after a write of v at level l, `old` before it. -/
def Sys2Proof.Machine.State.srAfter (s : State) (n l k m : Nat) (old v : W64) : W64 :=
  let fires (ctl cmp : W64) : Bool := ctl.getLsbD 0 && decide (cmp.toNat ≤ s.tick.tb)
  match k with
  | 0x000 =>
    let x := bitsFrom ((if 1 ≤ l then 0x1E4 else 0) + (if 2 ≤ l then 0x008 else 0) + (if 3 ≤ l then 0x610 else 0)) old v
    if x.getLsbD 9 = false ∧ x.getLsbD 10 = false then x ||| 0x200 else x
  | 0x061 => old &&& ~~~(BitVec.ofNat 64 ((if v.getLsbD 0 = true then 7 else 0) ||| (if v.getLsbD 1 = true then 2 else 0)))
  | 0x070 =>
    let x := bitsFrom 1 old v &&& ~~~(v &&& 2)
    if fires x (s.sr n srTMCMP) = true then x ||| 2 else x
  | 0x0B0 => bitsFrom (if l = 1 then 3 else 0xF) old v
  | _ => bitsFrom m old v

/-- System-register instructions (R357, R381, R385 to R389, R392, R405). -/
def Obligations.P64SystemRegisters : Prop :=
  ∀ (s : State) (i : Instr) (p : P64Sr), p64Sr s i = some p → s.Issues p.n →
    let n := p.n; let k := p.k
    let l := (s.lvl n).num
    let old := s.srShown n k
    (p.legal = false ∨ srRule k = none → ∃ t, exec i s = .next t ∧ s.Traps t n 0x01 (s.pcOf n)) ∧
    (∀ r w m, p.legal = true → srRule k = some (r, w, m) →
      let reads := r ≤ l ∨ (0x0D0 ≤ k ∧ k ≤ 0x0D7 ∧ (s.sr n srPMU_CTL).getLsbD 8 = true)
      let may := (p.read = true → reads) ∧ (p.wr.isSome = true → w ≤ l)
      (¬may → ∃ t, exec i s = .next t ∧ s.Traps t n 0x02 (s.pcOf n)) ∧
      (may → p.wr.isNone = true → isPmu k = false → k ≠ srCACHE_ERR → ∃ t, exec i s = .next t ∧ s.Retires t n p.d old) ∧
      (may → p.wr.isSome = true ∨ k = srCACHE_ERR → isPmu k = false →
        let v := (p.wr.map (fun f => f old)).getD old
        let lim := (s.sr n srSIDLIM).toNat
        let refused := k = srSID ∧ l = 1 ∧ ¬(lim % 2 ^ 16 ≤ v.toNat % 2 ^ 16 ∧ v.toNat % 2 ^ 16 < lim % 2 ^ 16 + lim / 2 ^ 16 % 2 ^ 16)
        let new := if k = srCACHE_ERR ∧ p.read = true then 0 else s.srAfter n l k m old v
        let isSp := 0x010 ≤ k ∧ k ≤ 0x013
        (refused → ∃ t, exec i s = .next t ∧ s.Traps t n 0x02 (s.pcOf n)) ∧
        (¬refused → (k = srSTATUS → (s.cor n).sb = []) → (isSp → p.read = true → p.d ≠ 31) →
          (k = srLCNT ∨ k = srLEND → s.pcOf n ≠ s.sr n srLEND ∧ (k = srLEND → s.pcOf n ≠ new)) →
          ∃ t, exec i s = .next t ∧
            (∀ i, i ≠ 31 → i ≠ p.d → t.gr n i = s.gr n i) ∧
            (p.read = true → t.gr n p.d = if p.d = 0 then 0 else old) ∧
            (∀ j, (isSp → k = 0x010 + j → (t.cor n).spAt j = v) ∧ (¬(isSp ∧ k = 0x010 + j) → (p.read = true → p.d = 31 → j ≠ l) → (t.cor n).spAt j = (s.cor n).spAt j)) ∧
            (¬isSp → t.sr n k = new) ∧
            (∀ j, j ≠ k → j ≠ srLCNT → isPmu j = false → (k = srTMCMP → j ≠ srTMCTL) → t.sr n j = s.sr n j) ∧
            (k = srTMCMP → t.sr n srTMCTL = if (s.sr n srTMCTL).getLsbD 0 = true ∧ v.toNat ≤ s.tick.tb then s.sr n srTMCTL ||| 2 else s.sr n srTMCTL) ∧
            (k ≠ srLCNT → t.sr n srLCNT = (s.fallsTo n).2) ∧ t.pcOf n = (s.fallsTo n).1 ∧
            (k = srSTATUS → (t.cor n).shield = true) ∧ (t.cor n).sb = (s.cor n).sb ∧
            (∀ a, t.mget a = s.mget a) ∧ (∀ m, m ≠ n.val → t.pcOf m = s.pcOf m ∧ ∀ i, t.gr m i = s.gr m i))) ∧
      (may → isPmu k = true →
        let v := (p.wr.map (fun f => f old)).getD old
        let held := l = 1 ∧ (s.sr n srPMU_CTL).getLsbD 9 = true
        ∃ t, exec i s = .next t ∧ s.Leaves t n p.d ∧ (t.cor n).sb = (s.cor n).sb ∧ t.pcOf n = (s.fallsTo n).1 ∧ t.sr n srLCNT = (s.fallsTo n).2 ∧
          (k = srPMU_CTL ∨ (0x0C8 ≤ k ∧ k ≤ 0x0CF) →
            (p.read = true → t.gr n p.d = if p.d = 0 then 0 else old) ∧
            t.sr n k = if p.wr.isNone = true ∨ held then old else bitsFrom (if k = srPMU_CTL ∧ l = 1 then 0x1FF else m) old v)))

/-- The rows of R381 without a named operand, or with a VA, SID or address in a: core, whether the unnamed operands are 0, and the lowest level. -/
def Sys2Proof.Machine.p64Sys (i : Instr) : Option (Fin 32 × Bool × Nat) :=
  let z (d a : BitVec 5) (k : BitVec 13) : Bool := d == 0 && a == 0 && k == 0
  match i with
  | .sync n d a k => some (n, z d a k, 0)
  | .isync n d a k => some (n, z d a k, 0)
  | .icinv n d _ k => some (n, d == 0 && k == 0, 0)
  | .dcwb n d _ k => some (n, d == 0 && k == 0, 0)
  | .dcwbi n d _ k => some (n, d == 0 && k == 0, 0)
  | .tinvVa n _ _ z => some (n, z == 0, 1)
  | .tinvSid n d _ k => some (n, d == 0 && k == 0, 1)
  | .tinvIpa n d _ k => some (n, d == 0 && k == 0, 2)
  | .tinvAll n d a k => some (n, z d a k, 2)
  | .pflush n d a k => some (n, z d a k, 0)
  | .pbar n d a k => some (n, d == 0 && a == 0 && decide (k.toNat < 2), 0)
  | .wait n d a k => some (n, z d a k, 1)
  | _ => none

/-- ICINV, DCWB and DCWBI: core, register of VA, and what the row does to the line l, from the state u that has translated. -/
def Sys2Proof.Machine.p64Line (i : Instr) : Option (Fin 32 × Fin 32 × (State → State → Nat → Prop)) :=
  match i with
  | .icinv n _ a _ => some (n, a, fun u t l => tget? (t.cor n).l1i l = none ∧ (∀ x, x ≠ l → tget? (t.cor n).l1i x = tget? (u.cor n).l1i x) ∧
      ∀ m, m ≠ n.val → (t.cor m).l1i = (u.cor m).l1i)
  | .dcwb n _ a _ => some (n, a, fun u t l => (∀ m, tget? (t.cor m).l1d l = none ∧ (t.cor m).l1t = (u.cor m).l1t ∧ (∀ x, x ≠ l → tget? (t.cor m).l1d x = tget? (u.cor m).l1d x)) ∧
      ∀ c, tget? (t.l2Of c) l = if tget? (u.l2Of c) l = some .modified then some .exclusive else tget? (u.l2Of c) l)
  | .dcwbi n _ a _ => some (n, a, fun u t l => (∀ m, tget? (t.cor m).l1d l = none ∧ l ∉ (t.cor m).l1t ∧ (∀ x, x ≠ l → tget? (t.cor m).l1d x = tget? (u.cor m).l1d x) ∧
      ∀ b k, (t.cor m).rsv = some (b, k) → l ∉ linesOf b k) ∧ ∀ c, tget? (t.l2Of c) l = none)
  | _ => none

/-- The TINV forms: core, whether SIDLIM refuses the form at S, and the entries that stay in the TLBs and in the walk cache (R381, R426). -/
def Sys2Proof.Machine.p64Tinv (s : State) (i : Instr) : Option (Fin 32 × Bool × (TlbEnt → Bool) × (WcEnt → Bool)) :=
  let stage1 (d : BitVec 16) (w : WcEnt) : Bool := match w with | .tab1 e _ _ _ => decide (e = d) | _ => false
  let refused (n : Fin 32) (d : BitVec 16) : Bool :=
    let lim := (s.sr n srSIDLIM).toNat
    decide ((s.lvl n).num = 1) && !(decide (lim % 2 ^ 16 ≤ d.toNat) && decide (d.toNat < lim % 2 ^ 16 + lim / 2 ^ 16 % 2 ^ 16))
  match i with
  | .tinvVa n a b _ =>
    let va := (s.gr n a).toNat
    let d : BitVec 16 := (s.gr n b).setWidth 16
    some (n, refused n d, fun e => !(decide (e.sid = d) && e.s1 && decide (va / 2 ^ e.size1 = e.va / 2 ^ e.size1)), fun w => !stage1 d w)
  | .tinvSid n _ a _ =>
    let d : BitVec 16 := (s.gr n a).setWidth 16
    some (n, refused n d, fun e => decide (e.sid ≠ d), fun w => !stage1 d w)
  | .tinvIpa n _ a _ =>
    let ia := (s.gr n a).toNat
    some (n, false, fun e => !e.s2, fun w => match w with
      | .tab1 _ _ _ _ => false
      | .tab2 l p _ => decide (ia / 2 ^ (3 + 9 * l) ≠ p)
      | .trans page _ size => decide (ia / 2 ^ size ≠ page / 2 ^ size))
  | .tinvAll n _ _ _ => some (n, false, fun _ => false, fun _ => false)
  | _ => none

/-- System instructions without a result, and WAIT (R341, R342, R348, R381 to R384, R426, R510, R511). -/
def Obligations.P64SystemInstructions : Prop :=
  (∀ (s : State) (i : Instr) (n : Fin 32) (legal : Bool) (l : Nat), p64Sys i = some (n, legal, l) → s.Issues n →
    (legal = false → ∃ t, exec i s = .next t ∧ s.Traps t n 0x01 (s.pcOf n)) ∧
    (legal = true → (s.lvl n).num < l → ∃ t, exec i s = .next t ∧ s.Traps t n 0x02 (s.pcOf n))) ∧
  (∀ (s : State) (n : Fin 32), s.Issues n →
    ((∀ e ∈ (s.cor n).sb, (s.rgn e.pa).device = false) → Memory.wf s.mem = true →
      ∃ t, exec (.sync n 0 0 0) s = .next t ∧ (t.cor n).sb = [] ∧ (∀ i, t.gr n i = s.gr n i) ∧ t.pcOf n = (s.fallsTo n).1 ∧ t.sr n srLCNT = (s.fallsTo n).2 ∧
        ∀ a, (∀ e ∈ (s.cor n).sb, ¬(e.pa ≤ a ∧ a < e.pa + e.bytes.length)) → t.mget a = s.mget a) ∧
    (∃ t, exec (.isync n 0 0 0) s = .next t ∧ s.Retires t n 0 0 ∧ (t.cor n).fsid = s.sid n ∧ (t.cor n).fttb1 = s.sr n srTTB1 ∧
      (t.cor n).ftctl1 = s.sr n srTCTL1 ∧ (t.cor n).fttb2 = s.sr n srTTB2 ∧ (t.cor n).ftctl2 = s.sr n srTCTL2 ∧ (t.cor n).stale = []) ∧
    (∃ t, exec (.pflush n 0 0 0) s = .next t ∧ s.Retires t n 0 0 ∧ (t.cor n).hist = 0 ∧ (t.cor n).ret = [] ∧ ∀ x, tget 1 (t.cor n).bp x = 1) ∧
    (∀ k : BitVec 13, k.toNat < 2 → ∃ t, exec (.pbar n 0 0 k) s = .next t ∧ (∀ i, t.gr n i = s.gr n i) ∧ (∀ a, t.mget a = s.mget a) ∧
      t.pcOf n = (s.fallsTo n).1 ∧ t.sr n srLCNT = (s.fallsTo n).2 ∧ (∀ j, j ≠ srPREDCTL → j ≠ srLCNT → isPmu j = false → t.sr n j = s.sr n j) ∧
      (t.sr n srPREDCTL).getLsbD 0 = (if (s.lvl n).num < 2 ∧ (s.sr n srPREDCTL).getLsbD 3 = true then (s.sr n srPREDCTL).getLsbD 0 else decide (k = 1)) ∧
      ∀ b, 1 ≤ b → (t.sr n srPREDCTL).getLsbD b = (s.sr n srPREDCTL).getLsbD b)) ∧
  (∀ (s : State) (i : Instr) (n a : Fin 32) (f : State → State → Nat → Prop) (l : Nat), p64Line i = some (n, a, f) → p64Sys i = some (n, true, l) → s.Issues n →
    let va := s.gr n a
    let r := (s.issued n).translate n (s.lvl n) .cache va.toNat
    (∀ x, r.2 = .fault x → ∃ t, exec i s = .next t ∧ s.TrapsBy t n (Exc.ofFault x va)) ∧
    (∀ pa ty, r.2 = .ok pa ty →
      let lost := (ty.device = true ∨ ∀ e ∈ (s.cor n).sb, e.overlaps pa 1 = false) ∧ (r.1.busRd (coreReq s n) pa 1).2 = none
      let open_ := (r.1.busRd (coreReq s n) pa 1).2 ≠ none
      (lost → ∃ t, exec i s = .next t ∧ s.Traps t n 0x10 va) ∧
      (open_ → ∃ t, exec i s = .next t ∧ s.Retires t n 0 0 ∧
        (ty = .wb → f r.1 t (pa / 64 * 64)) ∧
        (ty ≠ .wb → ∀ m, (t.cor m).l1i = (r.1.cor m).l1i ∧ (t.cor m).l1d = (r.1.cor m).l1d)))) ∧
  (∀ (s : State) (i : Instr) (n : Fin 32) (refused : Bool) (p : TlbEnt → Bool) (w : WcEnt → Bool) (l : Nat),
    p64Tinv s i = some (n, refused, p, w) → p64Sys i = some (n, true, l) → s.Issues n → l ≤ (s.lvl n).num →
    let c := (s.issued n).cor n
    (refused = true → ∃ t, exec i s = .next t ∧ s.Traps t n 0x02 (s.pcOf n)) ∧
    (refused = false → ∃ t, exec i s = .next t ∧ s.Retires t n 0 0 ∧ (t.cor n).itlb = c.itlb.filter p ∧ (t.cor n).stale = c.itlb.filter (fun e => !p e) ++ c.stale ∧ (t.cor n).dtlb = c.dtlb.filter p ∧
      (t.cor n).l2tlb = c.l2tlb.filter (fun x => p x.2) ∧ (t.cor n).wc = c.wc.filter w)) ∧
  (∀ (s : State) (n : Fin 32), s.Issues n → 1 ≤ (s.lvl n).num → (s.cor n).stepping = false → (s.cor n).haltReq = false →
    let stands := ((s.issued n).retire n).wakeStands n
    let k := s.gf .PWR_CORE_CTL n F.PWR_CORE_CTL.WAITSTATE
    (stands = true → ∃ t, exec (.wait n 0 0 0) s = .next t ∧ s.Retires t n 0 0 ∧ (t.cor n).st = .run) ∧
    (stands = false → s.pwr.writer ≠ some n.val →
      (k ≠ 2 → k ≠ 3 → ∃ t, exec (.wait n 0 0 0) s = .next t ∧ s.Retires t n 0 0 ∧ (t.cor n).st = .c1) ∧
      (k = 2 → (s.cor n).sb = [] → s.traced n = false → ∃ t, exec (.wait n 0 0 0) s = .next t ∧ s.Retires t n 0 0 ∧ (t.cor n).st = .c2 ∧ (t.cor n).l1d = []) ∧
      (k = 3 → (s.cor n).sb = [] → ∃ t, exec (.wait n 0 0 0) s = .next t ∧ (t.cor n).st = .c3)))

/-- No translation acts on an access of core n at level T: H and M (R407), or both stages off. -/
def Sys2Proof.Machine.State.flatAt (s : State) (n T : Nat) : Prop := 2 ≤ T ∨ ((s.sr n srTCTL1).getLsbD 2 = false ∧ (s.sr n srTCTL2).getLsbD 2 = false)

/-- Frame and vector of an entry to level T with this code lie in memory that answers; the vector reads as vec. -/
structure Sys2Proof.Machine.State.EntryOk (s : State) (n T code : Nat) (vec : W64) : Prop where
  lvl : 1 ≤ T ∧ T ≤ 3
  flat : s.flatAt n T
  det : s.stBit n 8 = false
  room : (s.cor n).sb.length ≤ 8
  lax : ∀ x ∈ (s.cor n).sb, x.ty ≠ .strict
  aligned : ((s.cor n).spAt T).toNat % 8 = 0 ∧ 64 ≤ ((s.cor n).spAt T).toNat
  frame : ∀ j, j < 8 → s.isRam (((s.cor n).spAt T).toNat - 64 + 8 * j)
  vbase : s.isRam ((s.sr n (0x017 + T)).toNat + 8 * code) ∧ (∀ x ∈ (s.cor n).sb, x.overlaps ((s.sr n (0x017 + T)).toNat + 8 * code) 8 = false)
  answers : s.memOpen { agent := .core (Fin.ofNat 32 n), lvl := lvlOf T, sid := s.sid n, cls := 0 } ((s.sr n (0x017 + T)).toNat + 8 * code) 8 false = true
  clean : ∀ l ∈ linesOf ((s.sr n (0x017 + T)).toNat + 8 * code) 8, l ∉ s.poison
  vector : vec = BitVec.ofNat 64 (s.mnum ((s.sr n (0x017 + T)).toNat + 8 * code) 8)

/-- What entry to level T leaves (R399, R400): e is the exception, ret the return PC, orig the code of a failed entry, loopend the bit LOOPEND. -/
structure Sys2Proof.Machine.State.Enters (s t : State) (n T : Nat) (e : Exc) (ret : W64) (orig : Nat) (loopend : Bool) (vec : W64) : Prop where
  regs : ∀ i, i ≠ 31 → t.gr n i = s.gr n i
  sps : ∀ l, (t.cor n).spAt l = if l = T then (s.cor n).spAt T - 64 else (s.cor n).spAt l
  cause : (t.sr n T).toNat = (s.sid n).toNat * 2 ^ 48 + orig * 2 ^ 16 + (s.lvl n).num * 2 ^ 10 + (if loopend then 2 ^ 9 else 0) + e.code
  faddr : t.sr n (0x003 + T) = e.faddr
  synd : t.sr n (0x00B + T) = if 0x05 ≤ e.code ∧ e.code ≤ 0x0E then e.synd else 0
  status : ∀ b, b < 64 → (t.sr n srSTATUS).getLsbD b =
    if b < 2 then T.testBit b else if b = T + 1 then false else if b = 5 then true else (s.sr n srSTATUS).getLsbD b
  loop : t.sr n srLCNT = 0
  srs : ∀ k, k ≠ srSTATUS → k ≠ srLCNT → k ≠ T → k ≠ 0x003 + T → k ≠ 0x00B + T → isPmu k = false → t.sr n k = s.sr n k
  rsv : (t.cor n).rsv = none
  pc : t.pcOf n = vec &&& ~~~3
  shield : (t.cor n).shield = true
  flush : (s.sr n srPREDCTL).getLsbD 2 = true → T ≠ (s.lvl n).num → (t.cor n).ret = [] ∧ (t.cor n).hist = 0
  frame : (t.cor n).sb = (s.cor n).sb ++ ([ret, s.sr n srSTATUS, t.sr n T, e.faddr, s.sr n srLCNT, s.sr n srLEND, 0, 0].zipIdx.map (fun (w, j) =>
    ({ pa := ((s.cor n).spAt T).toNat - 64 + 8 * j, bytes := leBytes 8 w.toNat, ty := .wb, sid := s.sid n, lvl := lvlOf T } : SbEnt)))
  mem : ∀ a, t.mget a = s.mget a
  fetches : (t.cor n).fsid = (s.cor n).fsid ∧ (t.cor n).fttb1 = (s.cor n).fttb1 ∧ (t.cor n).ftctl1 = (s.cor n).ftctl1 ∧ (t.cor n).fttb2 = (s.cor n).fttb2 ∧ (t.cor n).ftctl2 = (s.cor n).ftctl2
  others : ∀ m, m ≠ n → t.pcOf m = s.pcOf m ∧ ∀ i, t.gr m i = s.gr m i

/-- CALLS, CALLH, CALLM and BRK: core, whether the unnamed operands are 0, the levels that execute it, its cause code, and the 13-bit code. -/
def Sys2Proof.Machine.p64Call (i : Instr) : Option (Fin 32 × Bool × List Nat × Nat × BitVec 13) :=
  match i with
  | .calls n d a k => some (n, d == 0 && a == 0, [0], 0x15, k)
  | .callh n d a k => some (n, d == 0 && a == 0, [1], 0x16, k)
  | .callm n d a k => some (n, d == 0 && a == 0, [1, 2], 0x17, k)
  | .brk n d a k => some (n, d == 0 && a == 0, [0, 1, 2, 3], 0x14, k)
  | _ => none

/-- Exceptions, boundaries, return, timer and cache errors (R330, R381, R389, R394 to R404). -/
def Obligations.P64ExceptionsEnterAndReturn : Prop :=
  (∀ (s : State) (n : Fin 32) (e : Exc),
    let T := max (s.lvl n).num (if (0x0A ≤ e.code ∧ e.code ≤ 0x0E) ∨ e.code = 0x16 then 2 else if e.code = 0x17 then 3 else 1)
    let ret := if 0x15 ≤ e.code ∧ e.code ≤ 0x17 then s.pcOf n + 4 else s.pcOf n
    let sp := (s.cor n).spAt T
    e.code < 64 →
    (∀ vec, s.EntryOk n T e.code vec → s.Enters (s.trap n e) n T e ret 0 (s.atLoopEnd n) vec) ∧
    (∀ vec, sp.toNat % 8 ≠ 0 → s.EntryOk n (T + 1) 0x19 vec →
      s.Enters (s.trap n e) n (T + 1) { code := 0x19, faddr := sp - 64, synd := 0 } ret e.code (s.atLoopEnd n) vec) ∧
    (sp.toNat % 8 ≠ 0 → T = 3 → (s.trap n e).fenced 0 n = true ∧ (s.trap n e).evPend (1216 + n / 8) = true ∧ ∀ i, (s.trap n e).gr n i = s.gr n i)) ∧
  (∀ (s : State) (i : Instr) (n : Fin 32) (legal : Bool) (ls : List Nat) (code : Nat) (k : BitVec 13), p64Call i = some (n, legal, ls, code, k) → s.Issues n →
    let claimed := code = 0x14 ∧ s.gb .DBG_CORE_CTL n F.DBG_CORE_CTL.BRK_CLAIM = true
    (legal = false ∨ s.atLoopEnd n = true → ∃ t, exec i s = .next t ∧ s.Traps t n 0x01 (s.pcOf n)) ∧
    (legal = true → s.atLoopEnd n = false →
      ((s.lvl n).num ∉ ls → ∃ t, exec i s = .next t ∧ s.Traps t n 0x02 (s.pcOf n)) ∧
      ((s.lvl n).num ∈ ls → ¬claimed → ∃ t, exec i s = .next t ∧ s.Traps t n code (k.setWidth 64)) ∧
      (claimed → ∃ t, exec i s = .next t ∧ s.Leaves t n 0 ∧ t.pcOf n = s.pcOf n ∧ (t.cor n).halted = true))) ∧
  (∀ (s : State) (n : Fin 32),
    let l := (s.lvl n).num
    let quiet := s.atBoundary n = true ∧ (s.cor n).shield = false ∧ (s.cor n).stepping = false ∧ (s.cor n).haltReq = false
    let f := (s.sr n srSTERR_FLAGS).toNat
    let E := max 1 (f / 16 % 4)
    let error := f / 4 % 2 = 1 ∧ (l < E ∨ (l = E ∧ s.stBit n 5 = false))
    let T := max 1 ((s.sr n srSTATUS).toNat / 2 ^ 9 % 4)
    let irq := (tget? s.evd.pres n).isSome = true ∧ (l < T ∨ (l = T ∧ s.stBit n (T + 1) = true))
    (¬(quiet ∧ irq ∧ ¬error) → exec (.irqEntry n) s = .next s) ∧
    (∀ vec, quiet → irq → ¬error → s.EntryOk n T 0x20 vec →
      ∃ t, exec (.irqEntry n) s = .next t ∧ s.Enters t n T { code := 0x20, faddr := 0, synd := 0 } (s.pcOf n) 0 false vec) ∧
    (¬(quiet ∧ error) → exec (.storeErrorEntry n) s = .next s) ∧
    (∀ vec, quiet → error → s.EntryOk n E 0x11 vec →
      ∃ t, exec (.storeErrorEntry n) s = .next t ∧
        (s.setSr n srSTERR_FLAGS (s.sr n srSTERR_FLAGS &&& ~~~4)).Enters t n E
          { code := 0x11, faddr := if (s.cor n).sterrOwn = true then s.sr n srSTERR_ADDR else 0, synd := 0 } (s.pcOf n) 0 false vec)) ∧
  (∀ (s : State) (n : Fin 32) (d a : BitVec 5) (k : BitVec 13), s.Issues n →
    let ok := d = 0 ∧ a = 0 ∧ k = 0 ∧ s.atLoopEnd n = false
    let l := (s.lvl n).num
    let sp := (s.cor n).spAt l
    let q : Req := { agent := .core n, lvl := s.lvl n, sid := s.sid n, cls := 0 }
    let w (j : Nat) : Nat := s.mnum (sp.toNat + 8 * j) 8
    let lim := (s.sr n srSIDLIM).toNat
    let refused := l < w 1 % 4 ∨ (l = 1 ∧ ¬(lim % 2 ^ 16 ≤ w 2 / 2 ^ 48 ∧ w 2 / 2 ^ 48 < lim % 2 ^ 16 + lim / 2 ^ 16 % 2 ^ 16))
    (¬ok → ∃ t, exec (.eret n d a k) s = .next t ∧ s.Traps t n 0x01 (s.pcOf n)) ∧
    (ok → l = 0 → ∃ t, exec (.eret n d a k) s = .next t ∧ s.Traps t n 0x02 (s.pcOf n)) ∧
    (ok → 1 ≤ l → s.flatAt n l → sp.toNat % 8 = 0 → (s.cor n).sb = [] →
      (∀ j, j < 8 → s.isRam (sp.toNat + 8 * j) ∧ s.memOpen q (sp.toNat + 8 * j) 8 false = true ∧ ∀ l ∈ linesOf (sp.toNat + 8 * j) 8, l ∉ s.poison) →
      (refused → ∃ t, exec (.eret n d a k) s = .next t ∧ s.Traps t n 0x18 sp) ∧
      (¬refused → ∃ t, exec (.eret n d a k) s = .next t ∧
        t.pcOf n = BitVec.ofNat 64 (w 0) &&& ~~~3 ∧
        (let x := bitsFrom ((if 1 ≤ l then 0x1E7 else 0) + (if 2 ≤ l then 0x008 else 0) + (if 3 ≤ l then 0x610 else 0)) (s.sr n srSTATUS) (BitVec.ofNat 64 (w 1))
         t.sr n srSTATUS = if x.getLsbD 9 = false ∧ x.getLsbD 10 = false then x ||| 0x200 else x) ∧
        (t.sr n srSID).toNat = w 2 / 2 ^ 48 ∧ (t.sr n srLCNT).toNat = w 4 % 2 ^ 45 ∧ t.sr n srLEND = BitVec.ofNat 64 (w 5) &&& ~~~3 ∧
        (∀ m, (t.cor n).spAt m = if m = l then sp + 64 else (s.cor n).spAt m) ∧ (∀ i, i ≠ 31 → t.gr n i = s.gr n i) ∧
        (∀ j, j ≠ srSTATUS → j ≠ srSID → j ≠ srLCNT → j ≠ srLEND → isPmu j = false → t.sr n j = s.sr n j) ∧
        ((t.cor n).fsid.toNat = w 2 / 2 ^ 48 ∧ (t.cor n).fttb1 = (s.cor n).fttb1 ∧ (t.cor n).ftctl1 = (s.cor n).ftctl1) ∧
        (t.cor n).rsv = none ∧ (t.cor n).shield = true ∧ ∀ b, t.mget b = s.mget b))) ∧
  (∀ (s : State) (n : Fin 32),
    let due := (s.cor n).armed = true ∧ (s.sr n srTMCTL).getLsbD 0 = true ∧ (s.sr n srTMCMP).toNat ≤ s.tick.tb
    (¬due → exec (.coreTimerFire n) s = .next s) ∧
    (due → ∃ t, exec (.coreTimerFire n) s = .next t ∧ t.sr n srTMCTL = s.sr n srTMCTL ||| 2 ∧ t.evPend (1088 + 4 * n + 3) = true ∧ (t.cor n).armed = false ∧
      (∀ i, t.gr n i = s.gr n i) ∧ t.pcOf n = s.pcOf n ∧ (∀ k, k ≠ srTMCTL → t.sr n k = s.sr n k) ∧ ∀ b, t.mget b = s.mget b)) ∧
  (∀ (s : State) (n : Fin 32) (k : Fin 8) (a : Nat),
    let counts (x : CacheErr) (lo : Nat) : Prop :=
      ((s.cor n).st = .c3 → exec (.cacheError x) s = .next s) ∧
      ((s.cor n).st ≠ .c3 → ∃ t, exec (.cacheError x) s = .next t ∧
        (∀ j, t.sr n j = if j = srCACHE_ERR then
          (if (s.sr n j).toNat / 2 ^ lo % 2 ^ 16 = 2 ^ 16 - 1 then s.sr n j else s.sr n j + BitVec.ofNat 64 (2 ^ lo)) else s.sr n j) ∧
        (∀ i, t.gr n i = s.gr n i) ∧ ∀ b, t.mget b = s.mget b)
    counts (.l1i n a) 0 ∧ counts (.l1dFixed n) 16 ∧ counts (.l2Fixed n) 32 ∧
    ((s.cor n).st ≠ .c3 → ∃ t, exec (.cacheError (.l1dLost n)) s = .next t ∧ t.fenced 0 n = true ∧ t.evPend (1216 + n / 8) = true) ∧
    (∃ t, exec (.cacheError (.l2Lost k)) s = .next t ∧ (∀ j, j < 4 → t.fenced 0 (4 * k + j) = true) ∧ t.evPend (1216 + k / 2) = true) ∧
    exec (.cacheError .sysFixed) s = .next s ∧
    ∃ t, exec (.cacheError (.sysLost a)) s = .next t ∧ a / 64 * 64 ∈ t.poison ∧ ∀ l ∈ t.poison, l ∈ s.poison ∨ l = a / 64 * 64)

/-- A mailbox access frame by the table of R535: MAGIC, OP 1 to 4, COUNT, and the length that they fix. -/
def Sys2Proof.Machine.frameFits (b : Bytes) : Prop :=
  let op := u8 b 2
  let c := u8 b 4
  8 ≤ b.length ∧ u8 b 0 = 0x4D ∧ u8 b 1 = 0x42 ∧ 1 ≤ op ∧ op ≤ 4 ∧ c ≤ 8 ∧ (op = 4 → c = 1) ∧ b.length = if op = 1 ∨ op = 4 then 8 + 4 * c else 8

/-- A reply of R535: OP, MBX and TAG of the request. -/
def Sys2Proof.Machine.frameReply (b : Bytes) (count status : Nat) (d : Bytes) : Bytes :=
  [0x4D, 0x42, b.getD 2 0, b.getD 3 0, BitVec.ofNat 8 count, BitVec.ofNat 8 status] ++ (BitVec.ofNat 16 (u8 b 6 * 256 + u8 b 7) |> fun t => [BitVec.ofNat 8 (t.toNat / 256), BitVec.ofNat 8 t.toNat]) ++ d

/-- The frame inside what port u receives (R535): a Block Write 0xD0 to a two-wire target, with the PEC of address and data where MODE asks for it; 0x7E, length, frame and CRC-32 on a UART; the bytes themselves elsewhere. The PEC's and the CRC's form is the model's reading (log entry 214). -/
def Sys2Proof.Machine.State.frameIn (s : State) (u sub : Nat) (b : Bytes) : Option Bytes :=
  let n := u8 b 1
  let f := (b.drop 2).take n
  if 14 ≤ u ∧ u < 30 then
    (if u8 b 0 = 0xD0 ∧ (if s.portMode u / 2 % 2 = 1 then b.length = n + 3 ∧ smbPec (BitVec.ofNat 8 (2 * sub) :: b) = 0 else b.length = n + 2) then some f else none)
  else if 42 ≤ u ∧ u < 46 then (if u8 b 0 = 0x7E ∧ b.length = n + 6 ∧ (crc32 f) = u32 b (n + 2) then some f else none)
  else some b

/-- A reply as port u returns it (R535). -/
def Sys2Proof.Machine.State.frameOut (s : State) (u sub : Nat) (r : Bytes) : PortOut :=
  let n : Byte := BitVec.ofNat 8 r.length
  .reply (if 14 ≤ u ∧ u < 30 then
      [n] ++ r ++ (if s.portMode u / 2 % 2 = 1 then [smbPec ([BitVec.ofNat 8 (2 * sub), 0xD1, BitVec.ofNat 8 (2 * sub + 1), n] ++ r)] else [])
    else if 42 ≤ u ∧ u < 46 then [0x7E, n] ++ r ++ leBytes 4 (crc32 r) else r)

/-- The EID that the host's bus owner sets on HP0 or HP1 (R538; the layout of the request is PRESUMED, log entry 215). -/
def Sys2Proof.Machine.State.eidSet (s : State) (u : Nat) (b : Bytes) : State :=
  let e := u8 b 8
  if u < 2 ∧ u8 b 4 % 128 = 0 ∧ (u8 b 5).testBit 7 = true ∧ u8 b 6 = 1 ∧ u8 b 7 % 4 ≤ 1 ∧ 8 ≤ e ∧ e < 255 then s.setXp u { s.xp u with eid := e } else s

/-- No line of the basin is poisoned. -/
def Sys2Proof.Machine.State.basinClean (s : State) : Prop := ∀ l ∈ s.poison, l < 0x100000000000 ∨ 0x100002000000 ≤ l

/-- The rate and width that a link of port u may come up with, by its PORT entry e (R529, R531, R533). -/
def Sys2Proof.Machine.linkMay (u : Nat) (e : Bytes) (rate width : Nat) : Prop :=
  if u < 3 then (if u = 2 then 3 else 1) ≤ rate ∧ rate ≤ 5 ∧ rate ≤ u8 e 2 ∧ (width = 1 ∨ width = 2 ∨ width = 4 ∨ (width = 8 ∧ u < 2)) ∧ width ≤ u8 e 3
  else if u < 13 then rate = u8 e 2 % 16 ∧ width = 1
  else True

/-- Four bytes, the most significant first. -/
def Sys2Proof.Machine.be4 (w : W32) : Bytes := [(w >>> 24).setWidth 8, (w >>> 16).setWidth 8, (w >>> 8).setWidth 8, w.setWidth 8]

/-- The frame that a command delivers: controller, VLAN or address, source, bytes, and the OP of its row. -/
def Sys2Proof.Machine.mbxFrameOf (i : Instr) : Option (Fin 52 × Nat × W32 × Bytes × Nat) :=
  match i with
  | .mbxFramePush u sub src b => some (u, sub.toNat, src, b, 1)
  | .readAck u sub src b => some (u, sub.toNat, src, b, 2)
  | .readRx u sub src b => some (u, sub.toNat, src, b, 3)
  | .writeAck u sub src b => some (u, sub.toNat, src, b, 4)
  | _ => none

/-- Packets (R537). -/
def Sys2Proof.Machine.portPackets : Prop :=
  (∀ (s : State) (u : Fin 52) (sub src : BitVec 16) (b : Bytes),
    let takes := s.portOn u = true ∧ (portKind u).1 ∈ [1, 2, 5, 6, 7]
    let p := s.portPool u
    let s' := s.eidSet u b
    (¬takes → exec (.packetRx u sub src b) s = .next s) ∧
    (takes → 64 ≤ (s.xp u).rxq.length →
      exec (.packetRx u sub src b) s = .next ((s'.inc .PORT_ERR0 u F.PORT_ERR0.NOBUF 1).portEvt u 2)) ∧
    (takes → s.grants p = false →
      ∃ t, exec (.packetRx u sub src b) s = .next t ∧ t.xp u = s'.xp u ∧ t.basin = s.basin ∧ t.mem = s.mem ∧ s.EventSet t .PORT_EVT .PORT_EVT_EN u 2 (768 + u) ∧
        t.gf .PORT_ERR0 u F.PORT_ERR0.NOBUF = min F.PORT_ERR0.NOBUF.max (s.gf .PORT_ERR0 u F.PORT_ERR0.NOBUF + 1)) ∧
    (takes → (s.xp u).rxq.length < 64 → s.grants p = true → b.length ≤ 236 → Memory.wf s.mem = true → s.basinClean → s.basin.length < 131072 →
      List.Pairwise (fun x y => x < y) (s.basin.map (·.1)) → (∀ x, x ∈ s.basin → x.1 < 131072) →
      ∃ (t : State) (g : Nat), exec (.packetRx u sub src b) s = .next t ∧ g < 131072 ∧ tget? s.basin g = none ∧
        (∀ k, tget? t.basin k = if k = g then some { pool := p, stall := none } else tget? s.basin k) ∧
        (t.xp u).rxq = (s.xp u).rxq ++ [g + 1] ∧ (t.xp u).eid = (s'.xp u).eid ∧ (∀ w, w ≠ u.val → t.xp w = s.xp w) ∧
        (let a := 0x100000000000 + g * 256
         t.mnum a 4 = 0 ∧ t.mread (a + 4) 16 = leBytes 2 b.length ++ [BitVec.ofNat 8 (s.classOf u sub.toNat), BitVec.ofNat 8 ((portOrigin u).getD 0)] ++
            leBytes 2 src.toNat ++ [0, 0] ++ leBytes 8 s.tick.count ∧
          t.mread (a + 20) b.length = b ∧ ∀ x, ¬(a ≤ x ∧ x < a + 256) → t.mget x = s.mget x) ∧
        s.EventSet t .PORT_EVT .PORT_EVT_EN u 3 (768 + u))) ∧
  (∀ (s : State) (u : Fin 52) (who : Req), s.Shows who .PORT_RXQ u →
    ((s.xp u).rxq = [] → exec (.portRxq u who) s = s.showed 0) ∧
    (∀ x r, (s.xp u).rxq = x :: r → exec (.portRxq u who) s = (s.setXp u { s.xp u with rxq := r }).showed (BitVec.ofNat 32 x))) ∧
  (∀ (s : State) (u : Fin 52) (who : Req) (v : W32), s.Admits who .PORT_TXQ u →
    let g := v.toNat % 2 ^ 18
    (g = 0 → exec (.portTxq u who v) s = s.wrote) ∧ (g ≠ 0 → exec (.portTxq u who v) s = (s.setXp u { s.xp u with txq := (s.xp u).txq ++ [g] }).wrote)) ∧
  (∀ (s : State) (u : Fin 52),
    ((s.xp u).txq = [] ∨ s.portOn u = false → exec (.packetSent u) s = .next s) ∧
    (∀ g r, (s.xp u).txq = (g + 1) :: r → s.portOn u = true → g < 131072 → s.basinClean → List.Pairwise (fun x y => x < y) (s.basin.map (·.1)) →
      let a := basinBase + g * 256
      let yours := ∃ x, tget? s.basin g = some x ∧ 2 ≤ x.pool ∧ (s.rd .BSN_POOL_ALLOC x.pool).toNat ≠ g + 1
      s.mnum a 4 % 2 ^ 18 = 0 → s.mnum (a + 4) 2 ≤ 236 →
      ∃ t, exec (.packetSent u) s = .next t ∧ (t.xp u).txq = r ∧ (t.xp u).out = .packet (s.mread (a + 20) (s.mnum (a + 4) 2)) ∧
        (yours → tget? t.basin g = none) ∧ (∀ k, k ≠ g ∨ ¬yours → tget? t.basin k = tget? s.basin k) ∧
        Frame [.basin, .ext, .sw, .rPORT] s t ∧ (u.val < 3 ∨ 13 ≤ u.val → Frame [.basin, .ext] s t)))

/-- Mailbox access frames (R535). -/
def Sys2Proof.Machine.portFrames : Prop :=
  ∀ (s : State) (i : Instr) (u : Fin 52) (sub : Nat) (src : W32) (b : Bytes) (op : Nat), mbxFrameOf i = some (u, sub, src, b, op) →
    ∀ f, (s.frameIn u sub b = some f ∨ (s.frameIn u sub b = none ∧ f = b.drop 2)) →
    let m := u8 f 3 % 128
    let ba := decide (128 ≤ u8 f 3)
    let wrapped := s.frameIn u sub b ≠ none
    let reply (count status : Nat) (d : Bytes) : PortOut := s.frameOut u sub (frameReply f count status d)
    let d := s.way m ba
    let w : W32 := BitVec.ofNat 32 (u8 f 8 * 2 ^ 24 + u8 f 9 * 2 ^ 16 + u8 f 10 * 2 ^ 8 + u8 f 11)
    let noted := s.setXp u { s.xp u with src := tset (s.xp u).src m src }
    let answered (x : State) (r : PortOut) : State := x.setXp u { x.xp u with out := r }
    let free := s.fenced 9 m = false
    (s.carries u sub = false ∨ (wrapped ∧ frameFits f ∧ u8 f 2 ≠ op) → exec i s = .next s) ∧
    (s.carries u sub = true →
      (¬(wrapped ∧ frameFits f) → exec i s = .next (answered (s.inc .PORT_ERR0 u F.PORT_ERR0.ERRORS 1) (reply 0 3 []))) ∧
      (wrapped → frameFits f → u8 f 2 = op →
        (op = 1 → ¬(free ∧ s.owns m ba (portOrigin u) = true) → exec i s = .next (answered noted (reply 0 1 []))) ∧
        (op = 1 → free → s.owns m ba (portOrigin u) = true → u8 f 4 = 1 → d.q.length < 8 → s.frozenOther m ba = false →
          ∃ t, exec i s = .next t ∧ (t.xp u).out = reply 0 0 [] ∧
            (t.way m ba).q = d.q ++ [(stampWord (s.classOf u sub) 0 ((portOrigin u).getD 0) d.seq, w)] ∧ t.way m (!ba) = s.way m (!ba) ∧
            s.EventSet t .MBX_EVT .MBX_EVT_EN m (if ba then 1 else 0) (256 + m)) ∧
        (op = 2 → free → exec i s = .next (answered noted (reply 1 0 (be4 (BitVec.ofNat 32 (d.st * 2 ^ 16 + d.code)))))) ∧
        ((op = 2 ∨ op = 4) → ¬free → exec i s = .next (answered noted (reply 0 1 []))) ∧
        (op = 3 → ¬(free ∧ s.owns m (!ba) (portOrigin u) = true) → exec i s = .next (answered noted (reply 0 1 []))) ∧
        (op = 3 → free → s.owns m (!ba) (portOrigin u) = true →
          let k := min (u8 f 4) d.q.length
          (k = 0 → exec i s = .next (answered noted (reply 0 2 []))) ∧
          (1 ≤ k → ∃ t, exec i s = .next t ∧ (t.xp u).out = reply k 0 ((d.q.take k).flatMap (fun e => be4 e.1 ++ be4 e.2)) ∧
            t.way m ba = { d with q := d.q.drop k } ∧ t.way m (!ba) = s.way m (!ba) ∧ Frame [.mbx, .ext] s t)) ∧
        (op = 4 → free → s.owns m (!ba) (portOrigin u) = true → d.st = 1 → w.toNat % 2 ^ 16 ≠ 0xFFFF →
          ∃ t, exec i s = .next t ∧ (t.xp u).out = reply 0 0 [] ∧ t.way m ba = { d with st := 2, code := w.toNat % 2 ^ 16 } ∧ t.way m (!ba) = s.way m (!ba) ∧
            s.EventSet t .MBX_EVT .MBX_EVT_EN m (if ba then 3 else 2) (256 + m))))

/-- Ports: packets, frames, and events of partners (R532, R535, R537, R539, R542, R547, R549). -/
def Obligations.PortTraffic : Prop :=
  portPackets ∧ portFrames ∧
  (∀ (s : State) (u : Fin 2) (o : BitVec 15) (k : Fin 4) (w : Option W64),
    let q : Req := { agent := .port (Fin.ofNat 64 u), lvl := .m, sid := 0, cls := 0 }
    let a := 0x200000B00000 + o.toNat
    let refused (x : State) : State := (x.inc .PORT_ERR0 u F.PORT_ERR0.ERRORS 1)
    (s.portOn u = false → ∀ p, exec (.bar0Access u o p w) s = .next s) ∧
    (s.portOn u = true →
      exec (.bar0Access u o .malformed w) s = .next ((refused s).setXp u { s.xp u with aer := true }) ∧
      (w = none → (s.busRd q a (2 ^ k.val)).2 = none → ∃ t, exec (.bar0Access u o (.size k) w) s = .next t ∧ (t.xp u).out = .unsupported ∧
        ∀ r i, t.rd r i = (refused (s.busRd q a (2 ^ k.val)).1).rd r i) ∧
      (∀ b, w = none → (s.busRd q a (2 ^ k.val)).2 = some b → b.length = 2 ^ k.val → ∃ t, exec (.bar0Access u o (.size k) w) s = .next t ∧ (t.xp u).out = .reply b ∧
        ∀ r i, t.rd r i = (s.busRd q a (2 ^ k.val)).1.rd r i) ∧
      (∀ v, w = some v → (s.busWr q a (leBytes (2 ^ k.val) v.toNat)).2 = false → ∃ t, exec (.bar0Access u o (.size k) w) s = .next t ∧ (t.xp u).out = .unsupported ∧
        ∀ r i, t.rd r i = (refused (s.busWr q a (leBytes (2 ^ k.val) v.toNat)).1).rd r i) ∧
      (∀ v, w = some v → (s.busWr q a (leBytes (2 ^ k.val) v.toNat)).2 = true → ∃ t, exec (.bar0Access u o (.size k) w) s = .next t ∧ (t.xp u).out = .none ∧
        ∀ r i, t.rd r i = (s.busWr q a (leBytes (2 ^ k.val) v.toNat)).1.rd r i))) ∧
  (∀ (s : State) (msi : Bool),
    (s.portOn 2 = true → msi = false → ∃ t, exec (.rp0InboundRequest msi) s = .next t ∧ (t.xp 2).out = .unsupported ∧ t.regs = (s.inc .PORT_ERR0 2 F.PORT_ERR0.ERRORS 1).regs ∧ Frame [.ext, .rPORT] s t) ∧
    (¬(s.portOn 2 = true ∧ msi = false) → exec (.rp0InboundRequest msi) s = .next s)) ∧
  (∀ (s : State) (n : Fin 32) (p : BitVec 12) (g : Nat),
    (∀ w, (s.cor n).load = some w → (∃ x ∈ w.parts, s.rgn x.1 = .rp0) → ∃ t, exec (.completionTimeout (.core n)) s = .next t ∧ s.Traps t n 0x10 w.va) ∧
    ((∀ w, (s.cor n).load = some w → ∀ x ∈ w.parts, s.rgn x.1 ≠ .rp0) → exec (.completionTimeout (.core n)) s = .next s) ∧
    (∀ q e, s.findPoll p.toNat g = some q → s.partE p.toNat = some e →
      (partPort e = some (2, 0) → exec (.completionTimeout (.poll p g)) s = .next ((s.inc .PORT_ERR1 2 F.PORT_ERR1.TIMEOUTS 1).pollTimeout q)) ∧
      (partPort e ≠ some (2, 0) → exec (.completionTimeout (.poll p g)) s = .next s)) ∧
    (s.findPoll p.toNat g = none → exec (.completionTimeout (.poll p g)) s = .next s)) ∧
  (∀ (s : State) (u : Fin 52) (rate width : BitVec 4),
    let word : W32 := rate.setWidth 32 <<< 8 ||| width.setWidth 32 <<< 4 ||| 1
    let may := s.portOn u = true ∧ linkMay u ((s.portE u).getD []) rate.toNat width.toNat
    (¬may → exec (.linkUp u rate width) s = .next s) ∧
    (may → s.linkUp u = true → exec (.linkUp u rate width) s = .next (s.wr .PORT_STAT u word)) ∧
    (may → s.linkUp u = false → ∃ t, exec (.linkUp u rate width) s = .next t ∧ t.rd .PORT_STAT u = word ∧ s.EventSet t .PORT_EVT .PORT_EVT_EN u 0 (768 + u) ∧
      Frame [.core, .evd, .pwr, .trc, .rEVD, .rPWR, .rTRC, .rPORT] s t) ∧
    (s.linkUp u = false → exec (.linkDown u) s = .next s) ∧
    (s.linkUp u = true → ∃ t, exec (.linkDown u) s = .next t ∧ t.rd .PORT_STAT u = 0 ∧ s.EventSet t .PORT_EVT .PORT_EVT_EN u 1 (768 + u) ∧
      (∀ p, s.partOn u p = true → (s.prtn p).cntTimeouts ≤ 65535 →
        (t.prtn p).cntTimeouts = min 65535 ((s.prtn p).cntTimeouts + (s.ldg.polls.filter (fun q => decide (q.partner = p))).length)) ∧
      ((∀ q, q ∈ s.ldg.polls → s.partOn u q.partner = false) → Frame [.core, .evd, .pwr, .trc, .rEVD, .rPWR, .rTRC, .rPORT] s t))) ∧
  (∀ (s : State) (c : Fin 16),
    let u := 14 + c.val
    let smb := s.portOn u = true ∧ s.portMode u / 4 % 2 = 1
    let late := (s.inc .PORT_ERR1 u F.PORT_ERR1.TIMEOUTS 1).setXp u { s.xp u with out := .stop }
    let runs (v : W32) : Prop := (s.xp u).raw = some v ∧ (s.xp u).rawHeld = false
    (¬smb → exec (.clockLowTimeout c) s = .next s ∧ exec (.stuck c) s = .next s) ∧
    (smb → (runs autoRec ∨ ((∀ v, ¬runs v) ∧ ∀ q ∈ s.ldg.polls, s.partOn u q.partner = false) → exec (.clockLowTimeout c) s = .next late) ∧
      (∀ q, (∀ v, ¬runs v) → s.ldg.polls.find? (fun q => s.partOn u q.partner) = some q → exec (.clockLowTimeout c) s = .next (late.pollTimeout q)) ∧
      (∀ v, runs v → v ≠ autoRec → ∃ t, exec (.clockLowTimeout c) s = .next t ∧ (t.xp u).raw = none ∧ (t.xp u).out = .stop ∧ t.rd .PORT_RAW_RES u = 0x80000002 ∧
        s.EventSet t .PORT_EVT .PORT_EVT_EN u 6 (768 + u)) ∧
      ∃ t, exec (.stuck c) s = .next t ∧ s.EventSet t .PORT_EVT .PORT_EVT_EN u 4 (768 + u) ∧
        (t.xp u).raw = if s.gb .PORT_CTL u F.PORT_CTL.AUTO_REC = true ∧ (s.xp u).raw = none then some autoRec else (s.xp u).raw)) ∧
  (∀ (s : State) (i : Fin 4) (a : BitVec 7) (chars : Nat),
    let u := 30 + i.val
    let n := tget 0 (s.xp u).ibi a.toNat
    (s.portOn u = false → ∀ x, exec (.i3cIbi i x) s = .next s) ∧
    (s.portOn u = true → exec (.i3cIbi i .bad) s = .next (s.inc .PORT_ERR0 u F.PORT_ERR0.ERRORS 1)) ∧
    (s.portOn u = true → n < 64 → exec (.i3cIbi i (.ibi a)) s = .next (s.setXp u { s.xp u with ibi := tset (s.xp u).ibi a.toNat (n + 1) })) ∧
    (s.portOn u = true → 64 ≤ n → exec (.i3cIbi i (.ibi a)) s = .next (s.inc .PORT_ERR0 u F.PORT_ERR0.ERRORS 1)) ∧
    (s.portOn (42 + i.val) = true → 2 < chars → exec (.breakReceived ⟨i, chars⟩) s = .next (s.inc .PORT_ERR0 (42 + i.val) F.PORT_ERR0.ERRORS 1)) ∧
    (s.portOn (42 + i.val) = false ∨ chars ≤ 2 → exec (.breakReceived ⟨i, chars⟩) s = .next s))

/-- A raw operation of R548: the kinds of controller that have it, its OP, the controller, requester and word. -/
def Sys2Proof.Machine.rawOf (i : Instr) : Option (List Nat × Nat × Fin 52 × Req × W32) :=
  match i with
  | .pcieRetrain u who v => some ([1, 2], 1, u, who, v)
  | .pcieForceRate u who v => some ([1, 2], 2, u, who, v)
  | .laneMargining u who v => some ([1, 2], 3, u, who, v)
  | .prbs31Lanes u who v => some ([1, 2, 3, 4], 4, u, who, v)
  | .pcsLoopbackNear u who v => some ([3, 4], 5, u, who, v)
  | .pcsLoopbackFar u who v => some ([3, 4], 6, u, who, v)
  | .busRecovery u who v => some ([6], 1, u, who, v)
  | .rawTransfer u who v => some ([6], 2, u, who, v)
  | .i3cTargetReset u who v => some ([7], 1, u, who, v)
  | .avsbusFrame u who v => some ([8], 2, u, who, v)
  | .uartBreak u who v => some ([9], 1, u, who, v)
  | .xspiProgram u who v => some ([0xA], 2, u, who, v)
  | .xspiErase u who v => some ([0xA], 3, u, who, v)
  | .tapReset u who v => some ([0xB], 1, u, who, v)
  | .shiftIr u who v => some ([0xB], 2, u, who, v)
  | .shiftDr u who v => some ([0xB], 3, u, who, v)
  | _ => none

/-- The request lines of port u (R544): data to it, and data from it; none where the table has no row for it. -/
def Sys2Proof.Machine.rawLines (u : Nat) : Option (Nat × Nat) :=
  if u < 14 then none
  else if u < 30 then some (2 * (u - 14), 2 * (u - 14) + 1)
  else if u < 34 then some (32 + 2 * (u - 30), 33 + 2 * (u - 30))
  else if u < 42 then none
  else if u < 46 then some (40 + 2 * (u - 42), 41 + 2 * (u - 42))
  else if u < 48 then some (56 + (u - 46), 56 + (u - 46))
  else some (48 + 2 * (u - 48), 49 + 2 * (u - 48))

/-- Raw operations and their end (R539, R540, R544, R548, R549). -/
def Sys2Proof.Machine.portRaw : Prop :=
  (∀ (s : State) (i : Instr) (ks : List Nat) (op : Nat) (u : Fin 52) (who : Req) (v : W32), rawOf i = some (ks, op, u, who, v) →
    let w : W32 := F.PORT_RAW_CMD.OP.put v op ||| 0x80000000
    let p := s.plainWrite .PORT_RAW_CMD u w
    let shut := s.rawEn u = false ∨ s.avsBusy u = true ∨ s.portOn u = false
    ((portKind u).1 ∉ ks → exec i s = .next s) ∧
    ((portKind u).1 ∈ ks → s.Admits who .PORT_RAW_CMD u →
      ((s.xp u).raw.isSome = true → exec i s = p.wrote) ∧
      ((s.xp u).raw = none → shut → ∃ t : State, exec i s = t.wrote ∧ (t.xp u).raw = none ∧ t.rd .PORT_RAW_RES u = 0x80000003 ∧ (t.xp u).out = (s.xp u).out ∧
        s.EventSet t .PORT_EVT .PORT_EVT_EN u 6 (768 + u)) ∧
      ((s.xp u).raw = none → ¬shut → (∃ q ∈ s.ldg.polls, s.partOn u q.partner = true) → exec i s = (p.setXp u { s.xp u with raw := some w, rawHeld := true }).wrote) ∧
      ((s.xp u).raw = none → ¬shut → (∀ q ∈ s.ldg.polls, s.partOn u q.partner = false) →
        let data := match rawLines u with
          | some (l, _) => if v.getLsbD 30 = true then BitVec.ofNat 32 (u32 (tget [] s.dma.out l) 0) else s.rd .PORT_RAW_DATA u
          | none => s.rd .PORT_RAW_DATA u
        exec i s = (p.setXp u { s.xp u with raw := some w, rawHeld := false, out := .raw w data }).wrote))) ∧
  (∀ (s : State) (u : Fin 52) (e : RawEnd) (data : W32) (lanes : List (BitVec 16)),
    let k := (portKind u).1
    ((s.xp u).raw = none ∨ (s.xp u).rawHeld = true ∨ (e = .lost ∧ k ≠ 6) → exec (.rawDone u e data lanes) s = .next s) ∧
    (∀ v, (s.xp u).raw = some v → (s.xp u).rawHeld = false → e = .lost → k = 6 → (s.xp u).rawTried = false →
      exec (.rawDone u e data lanes) s = .next ((s.inc .PORT_ERR0 u F.PORT_ERR0.ERRORS 1).setXp u { s.xp u with rawTried := true })) ∧
    (∀ v, (s.xp u).raw = some v → (s.xp u).rawHeld = false → (e = .lost → k = 6 ∧ (s.xp u).rawTried = true) →
      let op := v.toNat / 2 ^ 24 % 16
      let len := v.toNat / 2 ^ 12 % 2 ^ 12
      let bytes := if k = 6 then len else (len + 7) / 8
      let returns := e = .ok ∧ (((k = 1 ∨ k = 2) ∧ op = 3) ∨ (k = 6 ∧ op = 2) ∨ (k = 8 ∧ op = 2) ∨ (k = 0xB ∧ 2 ≤ op))
      let line := if v.getLsbD 30 = true then (rawLines u).map (·.2) else none
      let a := if e = .lost then s.inc .PORT_ERR0 u F.PORT_ERR0.ERRORS 1 else s
      -- with DMA = 1 the bytes go to the line, at every engine that is not fenced; more than four come by DMA_PORT_DATA
      ∀ x : State, (returns → line = none → x = a.wr .PORT_RAW_DATA u data) → (¬returns → x = a) →
        (∀ l, returns → line = some l → x = if 4 < bytes then a else (List.range 4).foldl (fun y j => if y.engOpen j = true then y.lineData j l ((leBytes 4 data.toNat).take bytes) else y) a) →
        ∃ t, exec (.rawDone u e data lanes) s = .next t ∧ (t.xp u).raw = none ∧ (t.xp u).rawTried = false ∧ (∀ y, y ≠ u.val → t.xp y = x.xp y) ∧
          t.rd .PORT_RAW_DATA u = x.rd .PORT_RAW_DATA u ∧
          (∀ l, l < 8 → t.gf .PORT_LANE_ERR (u * 8 + l) F.PORT_LANE_ERR.ERRORS =
            match lanes[l]? with
            | some n => if e = .ok ∧ op = 4 ∧ k ≤ 4 then min F.PORT_LANE_ERR.ERRORS.max (s.gf .PORT_LANE_ERR (u * 8 + l) F.PORT_LANE_ERR.ERRORS + n.toNat)
                else s.gf .PORT_LANE_ERR (u * 8 + l) F.PORT_LANE_ERR.ERRORS
            | none => s.gf .PORT_LANE_ERR (u * 8 + l) F.PORT_LANE_ERR.ERRORS) ∧
          t.gf .PORT_ERR0 u F.PORT_ERR0.ERRORS = a.gf .PORT_ERR0 u F.PORT_ERR0.ERRORS ∧
          (e = .ok → k = 6 → op = 1 → x.EventSet t .PORT_EVT .PORT_EVT_EN u 5 (768 + u)) ∧
          (v = 0x01000000 → t.rd .PORT_RAW_RES u = s.rd .PORT_RAW_RES u) ∧
          (v ≠ 0x01000000 → t.rd .PORT_RAW_RES u = (if e = .ok then 0x80000000 else 0x80000002) ∧ x.EventSet t .PORT_EVT .PORT_EVT_EN u 6 (768 + u)) ∧
          Frame [.core, .evd, .pwr, .ext, .trc, .rEVD, .rPWR, .rTRC, .rPORT] x t))

/-- The switch (R529, R533, R547, R549). A tagged frame belongs to the VLAN of its tag, an untagged one to a VLAN that its port leaves untagged (log entry 147). -/
def Sys2Proof.Machine.portSwitch : Prop :=
  (∀ (s : State) (i : Fin 11) (ok : Bool) (b : Bytes),
    let u := i.val + 3
    let opt := (s.portE u).getD []
    let to_ := be48 b 0
    let from_ := be48 b 6
    let bad := ok = false ∨ b.length < 14 ∨ 9216 < b.length
    let obeyed := u8 opt 5 % 2 = 1 ∧ be16 b 12 = 0x8808 ∧ be16 b 14 = 1
    let tagged := be16 b 12 = 0x8100 ∧ be16 b 14 % 4096 ≠ 0
    (s.portOn u = false → exec (.ethFrameRx i ok b) s = .next s) ∧
    (s.portOn u = true → bad → exec (.ethFrameRx i ok b) s = .next (s.inc .PORT_ERR0 u F.PORT_ERR0.ERRORS 1)) ∧
    (s.portOn u = true → ¬bad → to_ = 0x0180C2000001 → ¬obeyed → exec (.ethFrameRx i ok b) s = .next s) ∧
    (s.portOn u = true → ¬bad → to_ = 0x0180C2000001 → obeyed →
      ∃ (r : Nat) (t : State), (u < 5 → r = if u8 opt 2 = 0x19 then 25000 else 10000) ∧ (5 ≤ u → u8 opt 2 = 2 → r = 1000) ∧ (5 ≤ u → u8 opt 2 = 3 → r = 2500) ∧
        r ∈ [10, 100, 1000, 2500, 10000, 25000] ∧ exec (.ethFrameRx i ok b) s = .next t ∧
        (t.xp u).pauseTo = s.tick.tb + min 3960000 (be16 b 16 * 512 * 1200 / r) ∧ (∀ p, p ≠ u → t.xp p = s.xp p) ∧ Frame [.ext] s t) ∧
    (s.portOn u = true → ¬bad → to_ ≠ 0x0180C2000001 → ¬tagged → s.untagVlan i = none → exec (.ethFrameRx i ok b) s = .next s) ∧
    (∀ v o, s.portOn u = true → ¬bad → to_ ≠ 0x0180C2000001 →
      (tagged ∧ v = be16 b 14 % 4096 ∧ o = 16) ∨ (¬tagged ∧ s.untagVlan i = some v ∧ o = if be16 b 12 = 0x8100 then 16 else 12) →
      let member (p : Nat) : Bool := s.gb .SW_VLAN v F.SW_VLAN.VALID && bit (s.gf .SW_VLAN v F.SW_VLAN.MEMBER) p
      let key (a : Nat) : Nat := v * 2 ^ 48 + a
      let learns := bit from_ 40 = false ∧ ((tget? s.sw.mac (key from_)).isSome = true ∨ s.sw.mac.length < 8192)
      let mac := if learns then tset s.sw.mac (key from_) { port := i.val, at_ := s.tick.tb } else s.sw.mac
      let others := (List.range 11).filter (fun p => p != i.val && member p && !s.fenced 10 (p + 3))
      let cpu := (s.rd .SW_CPU_MAC_LO 0).toNat + 2 ^ 32 * ((s.rd .SW_CPU_MAC_HI 0).toNat % 2 ^ 16)
      -- the frame as port p sends it: without a tag where p leaves the VLAN untagged, else with the VLAN's
      let out (p : Nat) : Bytes := b.take 12 ++ (if bit (s.gf .SW_VLAN v F.SW_VLAN.UNTAG) p = true then []
        else beBytes 2 0x8100 ++ beBytes 2 ((if be16 b 12 = 0x8100 then be16 b 14 / 4096 else 0) * 4096 + v)) ++ b.drop o
      let sends (dests : List Nat) : Prop :=
        ∃ t, exec (.ethFrameRx i ok b) s = .next t ∧ t.sw.mac = mac ∧ t.sw.storm = s.sw.storm ∧ Frame [.ext, .sw] s t ∧
          (be16 b o = 0x88F7 → u8 b (o + 2) % 16 ≤ 3 → (t.xp u).ptpRx = some s.tick.tb) ∧
          ∀ p, p < 11 →
            let x := s.xp (p + 3)
            let paused := s.tick.tb < x.pauseTo
            (p ∈ dests → ¬paused → tget? t.sw.fwd p = some (out p)) ∧ (p ∈ dests → paused → (t.xp (p + 3)).wait = x.wait ++ [out p]) ∧
            (p ∉ dests ∨ paused → tget? t.sw.fwd p = tget? s.sw.fwd p) ∧ (p ∉ dests ∨ ¬paused → (t.xp (p + 3)).wait = x.wait)
      (member i = false → exec (.ethFrameRx i ok b) s = .next s) ∧
      (member i = true → bit to_ 40 = false → to_ ≠ cpu →
        (∀ e, tget? mac (key to_) = some e → e.port ≠ 11 → sends (if e.port ∈ others then [e.port] else [])) ∧
        (tget? mac (key to_) = none → sends others)) ∧
      (member i = true → bit to_ 40 = false → to_ = cpu → member 11 = true →
        let n := tget 0 s.sw.storm i
        let lim := (s.rd .SW_STORM 0).toNat
        1522 < (out 11).length ∨ (lim ≠ 0 ∧ lim ≤ n) →
          ∃ t, exec (.ethFrameRx i ok b) s = .next t ∧ t.sw.mac = mac ∧ t.sw.fwd = s.sw.fwd ∧
            t.gf .PORT_ERR1 u F.PORT_ERR1.DROPPED = min F.PORT_ERR1.DROPPED.max (s.gf .PORT_ERR1 u F.PORT_ERR1.DROPPED + 1) ∧ Frame [.ext, .sw, .rPORT] s t))) ∧
  (∀ (s : State) (v : BitVec 12) (a : BitVec 48),
    let k := v.toNat * 2 ^ 48 + a.toNat
    (∀ e, tget? s.sw.mac k = some e → e.at_ + 300 * 1200000000 ≤ s.tick.tb → ∃ t, exec (.macAgeing v a) s = .next t ∧ tget? t.sw.mac k = none ∧
      (∀ x, x ≠ k → tget? t.sw.mac x = tget? s.sw.mac x) ∧ Frame [.sw] s t) ∧
    (∀ e, tget? s.sw.mac k = some e → s.tick.tb < e.at_ + 300 * 1200000000 → exec (.macAgeing v a) s = .next s) ∧
    (tget? s.sw.mac k = none → exec (.macAgeing v a) s = .next s))

/-- Raw operations, switch, fans, GPIO and scrubbing (R432, R533, R543, R546 to R549). -/
def Obligations.PortOperations : Prop :=
  portRaw ∧ portSwitch ∧
  (∀ (s : State) (f : Fin 16) (rpm : BitVec 16),
    (s.fanE f = none → exec (.fanTachWindow f rpm) s = .next s) ∧
    (∀ e, s.fanE f = some e →
      let n := if rpm.toNat < 10 * u16 e 6 then tget 0 s.fans.slow f + 1 else 0
      ∃ t, exec (.fanTachWindow f rpm) s = .next t ∧ t.gf .FAN_STAT f F.FAN_STAT.RPM = rpm.toNat ∧ tget 0 t.fans.slow f = min 3 n ∧
        (t.gb .FAN_STAT f F.FAN_STAT.FAULT = if 3 ≤ n then true else s.gb .FAN_STAT f F.FAN_STAT.FAULT) ∧
        (t.fans.own = if 3 ≤ n ∧ u8 e 3 / 2 % 2 = 1 then setBit s.fans.own f true else s.fans.own) ∧
        (3 ≤ n → s.gb .FAN_STAT f F.FAN_STAT.FAULT = false → t.evPend (820 + f) = true) ∧
        Frame [.core, .evd, .pwr, .fans, .rEVD, .rPWR, .rGF] s t)) ∧
  (∀ s : State,
    let n := s.gf .FAN_WDT 0 F.FAN_WDT.SECONDS
    let due := n ≠ 0 ∧ s.fans.kickAt + n * 1200000000 ≤ s.tick.tb
    (due → exec .fanWdtExpiry s = .next { s with fans := { s.fans with all := true } }) ∧ (¬due → exec .fanWdtExpiry s = .next s)) ∧
  (∀ (s : State) (f : Fin 16) (who : Req) (v : W32),
    (s.Admits who .FAN_WDT 0 → exec (.kick who v) s = { s.plainWrite .FAN_WDT 0 (v ||| 0x80000000) with fans := { s.fans with kickAt := s.tick.tb } }.wrote) ∧
    (s.Admits who .FAN_PWM f → exec (.fanPwmWrite f who v) s =
      { s.plainWrite .FAN_PWM f v with fans := { s.fans with all := s.fans.all && !(s.keep.boot == Boot.applied || s.keep.boot == Boot.running), own := setBit s.fans.own f false } }.wrote)) ∧
  (∀ (s : State) (g : Fin 128) (lvl : Bool),
    let off := (s.keep.boot = Boot.applied ∨ s.keep.boot = Boot.running) ∧ s.ent tPORT (portKey 0x0C g) = none
    (s.gpioIn g = lvl ∨ off → exec (.gpioInputChange g lvl) s = .next s) ∧
    (s.gpioIn g ≠ lvl → ¬off → ∃ t, exec (.gpioInputChange g lvl) s = .next t ∧ t.gpioIn g = lvl ∧ (∀ h : Fin 128, h ≠ g → t.gpioIn h = s.gpioIn h) ∧
      t.evPend (1280 + g) = true ∧ Frame [.core, .evd, .pwr, .rEVD, .rPWR, .rGF] s t)) ∧
  (∀ (s : State) (a : BitVec 38) (e : Ecc),
    let k := s.chanOf a.toNat
    let reached := a.toNat < s.dramSize ∧ s.fenced 5 k = false
    (¬reached ∨ e = .ok → exec (.patrolScrub a e) s = .next s) ∧
    (reached → e = .one → exec (.patrolScrub a e) s = .next (s.inc .MC_ECC k F.MC_ECC.CORR 1)) ∧
    (reached → e = .two → exec (.patrolScrub a e) s =
      .next ((((s.poisonLine a.toNat).inc .MC_ECC k F.MC_ECC.UNCORR 1).wr .MC_ERR_ADDR_LO k (a.setWidth 32)).wr .MC_ERR_ADDR_HI k ((a >>> 32).setWidth 32))))

/-- Debug of the cores (R562, R563). -/
def Sys2Proof.Machine.debugCores : Prop :=
  (∀ (s : State) (n : Fin 32) (who : Req) (v : W32), s.Admits who .DBG_CORE_CTL n →
    let c := s.cor n
    let h := s.plainWrite .DBG_CORE_CTL n (v ||| 1)
    let r := s.plainWrite .DBG_CORE_CTL n (v ||| 2)
    let p := s.plainWrite .DBG_CORE_CTL n (v ||| 4)
    let goes := c.halted = true ∧ s.fenced 0 n = false
    (v &&& 6 = 0 → c.halted = true → exec (.halt n who v) s = h.wrote) ∧
    (v &&& 6 = 0 → c.halted = false → s.atBoundary n = true → c.shield = false →
      ∃ t : State, exec (.halt n who v) s = t.wrote ∧ t.cor n = { c with halted := true, haltReq := false, stepping := false, resync := true } ∧
        (∀ m, m ≠ n.val → t.cor m = s.cor m) ∧ t.gf .DBG_CORE_STAT n F.DBG_CORE_STAT.REASON = 1 ∧ t.gb .DBG_CORE_STAT n F.DBG_CORE_STAT.HALTED = true) ∧
    (v &&& 6 = 0 → c.halted = false → (c.st = .run ∨ c.st = .c3) → ¬(s.atBoundary n = true ∧ c.shield = false) →
      exec (.halt n who v) s = (h.setCor n { c with haltReq := true }).wrote) ∧
    (v &&& 6 = 0 → c.halted = false → (c.st = .c1 ∨ c.st = .c2) → bit s.img.hold (n / 8) = false → s.pwr.writer ≠ some n.val →
      ∃ t : State, exec (.halt n who v) s = t.wrote ∧ (t.cor n).st = .run ∧ t.pcOf n = s.pcOf n ∧ ((t.cor n).halted = true ∨ (t.cor n).haltReq = true)) ∧
    (v &&& 5 = 0 → goes → exec (.dbgResume n who v) s = ((r.setCor n { c with halted := false }).wr .DBG_CORE_STAT n 0).wrote) ∧
    (v &&& 5 = 0 → ¬goes → exec (.dbgResume n who v) s = r.wrote) ∧
    (v &&& 3 = 0 → goes → exec (.step n who v) s = ((p.setCor n { c with halted := false, stepping := true }).wr .DBG_CORE_STAT n 0).wrote) ∧
    (v &&& 3 = 0 → ¬goes → exec (.step n who v) s = p.wrote)) ∧
  (∀ (s : State) (n : Fin 32), s.Issues n → (s.cor n).stepping = true →
    ∃ t, exec (.nop n 0 0 0) s = .next t ∧ s.Retires t n 0 0 ∧ (t.cor n).halted = true ∧ (t.cor n).stepping = false ∧ t.gf .DBG_CORE_STAT n F.DBG_CORE_STAT.REASON = 2) ∧
  (∀ (s : State) (q : Req) (n : Fin 32) (hi : Bool), s.gf .DBG_CORE_SEL n F.DBG_CORE_SEL.REG < 32 →
    s.regView q (if hi then .DBG_CORE_DATA_HI else .DBG_CORE_DATA_LO) n =
      if (s.cor n).halted = true ∨ s.fenced 0 n = true then
        (let x := s.gr n (s.gf .DBG_CORE_SEL n F.DBG_CORE_SEL.REG)
         if hi then (x >>> 32).setWidth 32 else x.setWidth 32) else 0) ∧
  (∀ (s : State) (n : Fin 32) (hi : Bool) (who : Req) (v : W32), s.Admits who (if hi then .DBG_CORE_DATA_HI else .DBG_CORE_DATA_LO) n →
    let k := s.gf .DBG_CORE_SEL n F.DBG_CORE_SEL.REG
    let whole (old : W64) : W64 := if hi then v ++ old.setWidth 32 else (old >>> 32).setWidth 32 ++ v
    ((s.cor n).halted = false → exec (.dbgCoreDataWrite n hi who v) s = s.wrote) ∧
    ((s.cor n).halted = true →
      (k < 32 → ∃ t : State, exec (.dbgCoreDataWrite n hi who v) s = t.wrote ∧ (∀ i, t.gr n i = if i = 0 then 0 else if i = k then whole (s.gr n k) else s.gr n i) ∧
        t.pcOf n = s.pcOf n ∧ (∀ m, m ≠ n.val → t.cor m = s.cor m) ∧ Frame [.core] s t) ∧
      (k = 32 → exec (.dbgCoreDataWrite n hi who v) s = (s.setPc n (whole (s.pcOf n) &&& ~~~3)).wrote) ∧
      (∀ j, k = 0x400 + j → (j ∈ [0x004, 0x005, 0x006, 0x028, 0x029, 0x02A]) →
        exec (.dbgCoreDataWrite n hi who v) s = (s.setSr n j (whole (s.sr n j))).wrote)))

/-- Debug of the loop engines (R564). -/
def Sys2Proof.Machine.debugLes : Prop :=
  (∀ (s : State) (j : Fin 36) (who : Req) (v : W32), s.Admits who .DBG_LE_CTL j →
    let free := ∀ r x, s.leServes j = some (r, x) → (s.rl r).st.live = false
    let w := v ||| 4
    (v.getLsbD 1 = true → ¬free → exec (.stepEn j who v) s = (s.pb .DBG_LE_STAT j F.DBG_LE_STAT.STEPREF true).wrote ∧
      exec (.go j who v) s = (s.pb .DBG_LE_STAT j F.DBG_LE_STAT.STEPREF true).wrote) ∧
    (v.getLsbD 1 = false ∨ free →
      (v.getLsbD 2 = false → exec (.stepEn j who v) s = (s.plainWrite .DBG_LE_CTL j v).wrote) ∧
      exec (.go j who v) s = ((s.plainWrite .DBG_LE_CTL j w).setLe j { s.leAt j with go := true }).wrote)) ∧
  (∀ (s : State) (j : Fin 36) (who : Req) (v : W32), s.Admits who .DBG_LE_DATA j →
    let x := s.leAt j
    let k := s.gf .DBG_LE_SEL j F.DBG_LE_SEL.REG
    (s.leHeld j = false → exec (.dbgLeDataWrite j who v) s = s.wrote) ∧
    (s.leHeld j = true →
      ∃ t : State, exec (.dbgLeDataWrite j who v) s = t.wrote ∧ Frame [.le] s t ∧ (∀ i : Fin 36, i ≠ j → t.leAt i = s.leAt i) ∧
        let y := t.leAt j
        (∀ i, y.kg i = if i = k ∧ k < 0x10 then v else x.kg i) ∧
        (∀ i, y.pg i = if k = 0x10 + i ∧ k < 0x18 then v.setWidth 20 else x.pg i) ∧
        (∀ i b, b < 72 → (y.mg i).getLsbD b =
          if 0x18 ≤ k ∧ k < 0x24 ∧ i = (k - 0x18) / 3 ∧ b / 32 = (k - 0x18) % 3 then v.getLsbD (b % 32) else (x.mg i).getLsbD b) ∧
        y.pc = (if k = 0x24 then v.setWidth 11 else x.pc) ∧ y.lc0 = (if k = 0x25 then v else x.lc0) ∧ y.lc1 = (if k = 0x26 then v else x.lc1) ∧
        y.st = x.st ∧ y.ls = x.ls))

/-- Debug (R561 to R568). -/
def Obligations.DebugHaltsStepsAndUnlocks : Prop :=
  debugCores ∧ debugLes ∧
  (∀ (s : State) (a : BitVec 48) (k : Fin 4) (w : Option W64),
    let n := 2 ^ k.val
    let open_ := s.keep.lcInForce ≠ 7 ∨ s.trc.unlocked = true
    let reaches := (n = 4 ∨ n = 8) ∧ a.toNat % n = 0 ∧ s.pins.porst = false ∧ (open_ ∨ a.toNat = Reg.TRC_DBG_STATUS.desc.addr)
    let q : Req := { agent := .debug, lvl := .m, sid := 0, cls := 0 }
    (¬reaches → exec (.debugAccess a k w) s = .next { s with reply := .busError }) ∧
    (reaches → w = none →
      (∀ b, (s.busRd q a.toNat n).2 = some b → exec (.debugAccess a k w) s = .next { (s.busRd q a.toNat n).1 with reply := .value (BitVec.ofNat 64 (ofBytes b)) }) ∧
      ((s.busRd q a.toNat n).2 = none → exec (.debugAccess a k w) s = .next { (s.busRd q a.toNat n).1 with reply := .busError })) ∧
    (∀ x, reaches → w = some x →
      exec (.debugAccess a k w) s = .next { (s.busWr q a.toNat (leBytes n x.toNat)).1 with reply := if (s.busWr q a.toNat (leBytes n x.toNat)).2 then .none else .busError })) ∧
  (∀ (s : State) (n : Fin 32) (who : Req) (v : W32), s.Admits who .TRC_DBG_UNLOCK 0 → who.agent = .core n →
    let g := s.plainWrite .TRC_DBG_UNLOCK 0 (v ||| 0x80000000)
    let l := s.plainWrite .TRC_DBG_UNLOCK 0 (v ||| 1)
    let b := s.plainWrite .TRC_DBG_UNLOCK 0 (v ||| 2)
    (v &&& 3 = 0 → F.TRC_DBG_UNLOCK.CLASS.get (v ||| 0x80000000) ≤ 1 →
      exec (.debugUnlock who v) s = { g with trc := { s.trc with unlocked := true } }.wrote) ∧
    (v &&& 3 = 0 → 1 < F.TRC_DBG_UNLOCK.CLASS.get (v ||| 0x80000000) →
      exec (.debugUnlock who v) s = (g.pb .TRC_DBG_STATUS 0 F.TRC_DBG_STATUS.REFUSED true).wrote) ∧
    (v &&& 0x80000002 = 0 → exec (.debugLock who v) s = { l with trc := { s.trc with unlocked := false } }.wrote) ∧
    (v &&& 0x80000001 = 0 → s.keep.lcInForce ≠ 1 → exec (.debugBoot who v) s = b.wrote) ∧
    (v &&& 0x80000001 = 0 → s.keep.lcInForce = 1 →
      let o := s.mread basinBase (min (s.mnum (basinBase + 24) 4) 0x2000000)
      let holds := s.objHead 1 0 o = true ∧ u32 o 16 + (u32 o 24 - 32) ≤ 0x2000000
      (¬holds → exec (.debugBoot who v) s = b.wrote) ∧
      (holds → Memory.wf s.mem = true → ∃ t : State, exec (.debugBoot who v) s = t.wrote ∧ t.trc.bootObj = o ∧ t.keep.loaderRun = o ∧ t.keep.boot ≠ .waitLoader ∧
        tget 0 t.keep.mr 1 = Config.sha384 (dig384 (tget 0 s.keep.mr 1) ++ dig384 (Config.sha384 o)) ∧ t.regs = b.regs ∧ s.WroteBytes t (basinBase + u32 o 16) (o.drop 32)))) ∧
  (∀ (s : State) (who : Req) (v : W32), s.Admits who .TRC_DBG_UNLOCK 0 → (∀ n, who.agent ≠ .core n) →
    exec (.debugUnlock who v) s = s.wrote ∧ exec (.debugLock who v) s = s.wrote ∧ exec (.debugBoot who v) s = s.wrote)

/-- The TS packet. -/
def Sys2Proof.Machine.State.tsBytes (s : State) : Bytes := 0x05 :: leBytes 8 s.tick.tb

/-- The SYNC packet of core n. -/
def Sys2Proof.Machine.State.syncBytes (s : State) (n : Nat) : Bytes :=
  [0x01, 0xA5, 0xA5, 0xA5] ++ leBytes 8 (s.pcOf n).toNat ++ [BitVec.ofNat 8 ((s.lvl n).num + if s.stBit n 8 then 4 else 0)] ++ leBytes 2 (s.sid n).toNat

/-- Trace (R551 to R560). -/
def Obligations.TraceEmitsAndFunnels : Prop :=
  (∀ (s : State) (n : Fin 32),
    let x := s.tsrc n
    let on := (tget UnitSt.init s.unit (unitKey 0 n)).trace = true ∧ s.gb .TRC_CTL 0 F.TRC_CTL.EN = true
    let counts := (s.cor n).st = .run ∨ (s.cor n).st = .c1
    (¬(on ∧ counts) → exec (.ts n) s = .next s) ∧
    (on → counts → x.atoms = [] → x.lost = 0 → x.held = [] → x.since < 4000 →
      (x.fifo.length + 9 ≤ 2048 → exec (.ts n) s = .next (s.setTsrc n { x with fifo := x.fifo ++ s.tsBytes, since := x.since + 9 })) ∧
      (2048 < x.fifo.length + 9 → s.gb .TRC_CTL 0 F.TRC_CTL.STALL = true → exec (.ts n) s = .next (s.setTsrc n { x with held := [s.tsBytes] })) ∧
      (2048 < x.fifo.length + 9 → s.gb .TRC_CTL 0 F.TRC_CTL.STALL = false → ∃ t, exec (.ts n) s = .next t ∧ t.tsrc n = { x with lost := 1 } ∧
        t.gf .TRC_LOST 0 F.TRC_LOST.COUNT = min F.TRC_LOST.COUNT.max (s.gf .TRC_LOST 0 F.TRC_LOST.COUNT + 1) ∧ t.evPend (1088 + 4 * n + 2) = true ∧
        Frame [.core, .evd, .pwr, .trc, .rEVD, .rPWR, .rTRC] s t)) ∧
    (on → counts → x.lost = 0 → x.held = [] → x.since < 4000 → x.fifo.length + 10 ≤ 2048 → s.gb .TRC_CTL 0 F.TRC_CTL.CYC = false →
      ∀ a b c, x.atoms = [a, b, c] →
        ∃ t, exec (.ts n) s = .next t ∧ (t.tsrc n).atoms = [] ∧
          (t.tsrc n).fifo = x.fifo ++ [BitVec.ofNat 8 (0x88 + (if a then 1 else 0) + (if b then 2 else 0) + (if c then 4 else 0))] ++ s.tsBytes)) ∧
  (∀ (s : State) (id : BitVec 16),
    let x := s.tsrc id.toNat
    let room := if id.toNat < 32 then 2048 else 256
    let noHalt := id.toNat < 32 → (s.cor id.toNat).haltReq = false
    (x.held = [] → x.lost = 0 → noHalt → exec (.traceFifoRoom id) s = .next s) ∧
    (∀ p, x.held = [p] → x.lost = 0 → x.fifo.length + p.length ≤ room → noHalt →
      ∃ t, exec (.traceFifoRoom id) s = .next t ∧ t.tsrc id.toNat = { x with fifo := x.fifo ++ p, since := x.since + p.length, held := [] } ∧
        (∀ k, k ≠ id.toNat → t.tsrc k = s.tsrc k) ∧ Frame [.trc] s t) ∧
    (∀ p, x.held = [p] → x.lost = 0 → x.fifo.length + p.length ≤ room → id.toNat < 32 → (s.cor id.toNat).haltReq = true →
      (s.setTsrc id.toNat { x with held := [] }).atBoundary id.toNat = true → (s.cor id.toNat).shield = false → (s.cor id.toNat).stepping = false →
      ∃ t, exec (.traceFifoRoom id) s = .next t ∧ (t.cor id.toNat).halted = true ∧ t.pcOf id.toNat = s.pcOf id.toNat ∧ (t.tsrc id.toNat).fifo = x.fifo ++ p) ∧
    (x.held = [] → 0 < x.lost → noHalt →
      let o : Bytes := (match x.atoms with | [b] => ([if b then 0x83 else 0x82] : Bytes) | _ => []) ++ [0x08] ++ leBytes 2 (min 65535 x.lost) ++ (if id.toNat < 32 then s.syncBytes id.toNat ++ s.tsBytes else [])
      (x.atoms = [] ∨ ∃ b, x.atoms = [b]) → s.gb .TRC_CTL 0 F.TRC_CTL.CYC = false →
      (x.fifo.length + o.length ≤ room → ∃ t, exec (.traceFifoRoom id) s = .next t ∧ (t.tsrc id.toNat).fifo = x.fifo ++ o ∧ (t.tsrc id.toNat).lost = 0 ∧ (t.tsrc id.toNat).atoms = [] ∧
        (∀ k, k ≠ id.toNat → t.tsrc k = s.tsrc k) ∧ Frame [.trc] s t) ∧
      (room < x.fifo.length + o.length → exec (.traceFifoRoom id) s = .next s))) ∧
  (∀ (s : State) (id : BitVec 16),
    let x := s.tsrc id.toNat
    let sink := s.gf .TRC_CTL 0 F.TRC_CTL.SINK
    let ring := s.gb .TRC_CTL 0 F.TRC_CTL.RING
    let base := (s.rd .TRC_BUF_BASE_LO 0).toNat / 4096 * 4096 + 2 ^ 32 * ((s.rd .TRC_BUF_BASE_HI 0).toNat % 2 ^ 16)
    let size := 4096 * ((s.rd .TRC_BUF_SIZE 0).toNat % 2 ^ 20)
    let w := (s.rd .TRC_BUF_WPTR 0).toNat
    let q : Req := { agent := .ledger, lvl := .m, sid := 0, cls := 0 }
    let f := leBytes 2 id.toNat ++ x.fifo.take 14 ++ List.replicate (14 - x.fifo.length) 0
    let d := s.setTsrc id.toNat { x with fifo := x.fifo.drop 14 }
    let lane := s.trc.lane
    let k := match s.gf .TRC_CTL 0 F.TRC_CTL.LANES with | 1 => 1 | 2 => 2 | 3 => 4 | _ => 0
    (x.fifo = [] → exec (.funnelFrame id) s = .next { s with trc := { s.trc with out := tdel s.trc.out (lane % max 1 k) } }) ∧
    (x.fifo ≠ [] → sink = 1 →
      (s.gb .TRC_STATUS 0 F.TRC_STATUS.FULL = true → exec (.funnelFrame id) s = .next (d.inc .TRC_LOST 0 F.TRC_LOST.COUNT 1)) ∧
      (s.gb .TRC_STATUS 0 F.TRC_STATUS.FULL = false → w + 16 ≤ size → s.memOpen q (base + w) 16 true = true → Memory.wf s.mem = true →
        ∃ t, exec (.funnelFrame id) s = .next t ∧ s.WroteBytes t (base + w) f ∧ t.tsrc id.toNat = { x with fifo := x.fifo.drop 14 } ∧
          (t.rd .TRC_BUF_WPTR 0).toNat = (if w + 16 < size then w + 16 else if ring then 0 else w + 16) ∧
          t.gb .TRC_STATUS 0 F.TRC_STATUS.FULL = (!ring && decide (w + 16 = size)) ∧ Frame [.mem, .core, .poison, .trc, .rTRC] s t)) ∧
    (x.fifo ≠ [] → sink = 2 → 0 < k →
      ∃ t, exec (.funnelFrame id) s = .next t ∧ t.laneSends (lane % k) = .k27_7 :: f.map .data ∧ t.trc.lane = (lane % k + 1) % k ∧
        t.tsrc id.toNat = { x with fifo := x.fifo.drop 14 } ∧ Frame [.trc] s t) ∧
    (x.fifo ≠ [] → sink ≠ 1 → sink ≠ 2 → exec (.funnelFrame id) s = .next d)) ∧
  (∀ (s : State) (who : Req) (v : W32), s.Admits who .TRC_CTL 0 →
    let u := s.plainWrite .TRC_CTL 0 v
    let rises := s.gb .TRC_CTL 0 F.TRC_CTL.EN = false ∧ u.gb .TRC_CTL 0 F.TRC_CTL.EN = true
    (¬rises → exec (.trcCtlWrite who v) s = u.wrote) ∧
    (rises → ∃ t : State, exec (.trcCtlWrite who v) s = t.wrote ∧ t.rd .TRC_CTL 0 = u.rd .TRC_CTL 0 ∧
      ∀ n, n < 32 →
        ((tget UnitSt.init s.unit (unitKey 0 n)).trace = true → s.tsrc n = TraceSrc.init → (t.tsrc n).fifo = s.syncBytes n ++ s.tsBytes) ∧
        ((tget UnitSt.init s.unit (unitKey 0 n)).trace = false → t.tsrc n = s.tsrc n)))

/-! ## Power (chapter 17) -/

/-- Nothing stands in the way of a sluice request for region r (R518). -/
def Sys2Proof.Machine.State.sluiceFree (s : State) (r : Nat) : Prop :=
  (∀ x, (r, x) ∉ s.pwr.sluice) ∧ s.gf .PWR_REG_STAT r F.PWR_REG_STAT.STATE ≠ 2 ∧ s.pwr.step = none ∧
  (∀ a, s.img.held = some a → a.verified = true → a.staged = false → r ∉ a.ins)

/-- The AVSBus port that the REG section names for region r. -/
def Sys2Proof.Machine.State.voutPort (s : State) (r : Nat) : Nat := 34 + u8 (s.entD tREG r) 6

/-- The request of region r has ended with a code, and source 1220 is raised (R517, R518). -/
structure Sys2Proof.Machine.State.SluiceEnds (s t : State) (r code : Nat) : Prop where
  code : t.gf .PWR_REG_STAT r F.PWR_REG_STAT.CODE = code
  raised : t.evPend 1220 = true
  frame : Frame [.core, .evd, .pwr, .rEVD, .rPWR] s t

/-- The request of region r runs in phase p: BUSY reads 1, and in step 2 the VOUT write of the voltage has left its port (R516). -/
structure Sys2Proof.Machine.State.SluiceRuns (s t : State) (r v f0 f1 : Nat) (p : SlPhase) : Prop where
  runs : ∃ k, tget? t.pwr.sluice r = some { v := v, f0 := f0, f1 := f1, phase := p, keeps := k }
  busy : t.gb .PWR_REG_STAT r F.PWR_REG_STAT.BUSY = true
  vout : ∀ y, (t.xp y).out = if p = .ack ∧ y = s.voutPort r ∧ s.portOn y = true then .vout v else (s.xp y).out
  frame : Frame [.reply, .pwr, .ext, .rPWR] s t

/-- The sluice (R515 to R518). -/
def Obligations.SluiceRequestsRunInOrder : Prop :=
  (∀ f, 12 ≤ f → f ≤ 40 → vMin f % 5 = 0 ∧ 1200 + 25 * (f - 12) ≤ 2 * vMin f ∧ 2 * vMin f < 1200 + 25 * (f - 12) + 10) ∧
  (∀ (s : State) (r : Fin 4) (who : Req) (w : W32), s.Admits who .PWR_REG_CTL r →
    let v := w.toNat % 2 ^ 10
    let f0 := w.toNat / 2 ^ 18 % 2 ^ 6
    let f1 := w.toNat / 2 ^ 24 % 2 ^ 6
    let c0 := s.fCur (2 * r)
    let c1 := s.fCur (2 * r + 1)
    (s.sluiceFree r → 600 ≤ v → v ≤ 950 → v % 5 = 0 → 12 ≤ f0 → f0 ≤ 40 → 12 ≤ f1 → f1 ≤ 40 → vMin f0 ≤ v → vMin f1 ≤ v → (bit s.pwr.vbad r = true → f0 ≤ c0 ∧ f1 ≤ c1) →
      ((f0 < c0 ∨ f1 < c1) → ∃ t, exec (.sluiceGo r who w) s = .next t ∧ s.SluiceRuns t r v f0 f1 .lower) ∧
      (¬(f0 < c0 ∨ f1 < c1) → v ≠ s.vCur r → ∃ t, exec (.sluiceGo r who w) s = .next t ∧ s.SluiceRuns t r v f0 f1 .ack) ∧
      (¬(f0 < c0 ∨ f1 < c1) → v = s.vCur r → (c0 < f0 ∨ c1 < f1) → ∃ t, exec (.sluiceGo r who w) s = .next t ∧ s.SluiceRuns t r v f0 f1 .rise)) ∧
    (s.sluiceFree r → (v < vMin f0 ∨ v < vMin f1) →
      ∃ t, exec (.sluiceGo r who w) s = t.wrote ∧ s.SluiceEnds t r 1 ∧ t.rd .PWR_REG_CTL r = s.rd .PWR_REG_CTL r) ∧
    ((∃ x, (r.val, x) ∈ s.pwr.sluice) →
      ∃ t, exec (.sluiceGo r who w) s = t.wrote ∧ s.SluiceEnds t r 2 ∧ t.rd .PWR_REG_CTL r = s.rd .PWR_REG_CTL r ∧ t.pwr.sluice = s.pwr.sluice) ∧
    (s.sluiceFree r → w.getLsbD 31 = false → 600 ≤ v → v ≤ 950 → v % 5 = 0 → 12 ≤ c0 → c0 ≤ 40 → 12 ≤ c1 → c1 ≤ 40 → vMin c0 ≤ v → vMin c1 ≤ v →
      (v ≠ s.vCur r → ∃ t, exec (.vtgtWrite r who w) s = .next t ∧ s.SluiceRuns t r v c0 c1 .ack ∧ t.gf .PWR_REG_CTL r F.PWR_REG_CTL.VTGT = v) ∧
      (v = s.vCur r → ∃ t, exec (.vtgtWrite r who w) s = t.wrote ∧ s.SluiceEnds t r 0 ∧ t.gf .PWR_REG_CTL r F.PWR_REG_CTL.VTGT = v))) ∧
  (∀ (s : State) (k : Fin 8) (who : Req) (w : W32), s.Admits who .PWR_CC_FREQ k → s.sluiceFree (k / 2) →
    let r := k.val / 2
    let f := w.toNat % 2 ^ 6
    let o := s.fCur (if k.val % 2 = 0 then k + 1 else k - 1)
    12 ≤ f → f < s.fCur k → s.fCur k ≤ 40 → 12 ≤ o → o ≤ 40 → 600 ≤ s.vCur r → s.vCur r ≤ 950 → s.vCur r % 5 = 0 → vMin f ≤ s.vCur r →
      ∃ t, exec (.ccFreqWrite k who w) s = .next t ∧ s.SluiceRuns t r (s.vCur r) (if k.val % 2 = 0 then f else o) (if k.val % 2 = 0 then o else f) .lower ∧
        t.gf .PWR_CC_FREQ k F.PWR_CC_FREQ.TGT = f) ∧
  (∀ (s : State) (r : Fin 4) (x : Sluice), tget? s.pwr.sluice r = some x → s.gf .PWR_REG_STAT r F.PWR_REG_STAT.STATE ≠ 2 →
    let c0 := s.fCur (2 * r)
    let c1 := s.fCur (2 * r + 1)
    let u := s.voutPort r
    let sent (t : State) : State := if s.portOn u = true then t.setXp u { s.xp u with out := .vout x.v } else t
    (x.phase = .lower → x.f0 < c0 → x.f1 < c1 → x.v ≠ s.vCur r →
      exec (.sluiceClockChangeDone r) s =
        .next (sent (((s.pf .PWR_CC_FREQ (2 * r) F.PWR_CC_FREQ.CUR x.f0).pf .PWR_CC_FREQ (2 * r + 1) F.PWR_CC_FREQ.CUR x.f1).setSl r { x with phase := .ack }))) ∧
    (x.phase = .rise → c0 < x.f0 → c1 < x.f1 → x.f0 < 64 → x.f1 < 64 →
      ∃ t, exec (.sluiceClockChangeDone r) s = .next t ∧ s.SluiceEnds t r 0 ∧ t.fCur (2 * r) = x.f0 ∧ t.fCur (2 * r + 1) = x.f1 ∧ tget? t.pwr.sluice r = none) ∧
    (x.phase = .ack → s.portOn u = false → exec (.avsbusAck r) s = .next s) ∧
    (x.phase = .ack → s.portOn u = true → s.vCur r < x.v → exec (.avsbusAck r) s = .next ((s.pf .PWR_REG_STAT r F.PWR_REG_STAT.VCUR x.v).setSl r { x with phase := .settle })) ∧
    (x.phase = .ack → s.portOn u = true → x.v ≤ s.vCur r → (c0 < x.f0 ∨ c1 < x.f1) →
      exec (.avsbusAck r) s = .next ((s.pf .PWR_REG_STAT r F.PWR_REG_STAT.VCUR x.v).setSl r { x with phase := .rise })) ∧
    (x.phase = .ack → s.portOn u = true → x.v ≤ s.vCur r → ¬(c0 < x.f0 ∨ c1 < x.f1) → x.v < 1024 →
      ∃ t, exec (.avsbusAck r) s = .next t ∧ s.SluiceEnds t r 0 ∧ t.vCur r = x.v ∧ tget? t.pwr.sluice r = none) ∧
    (x.phase = .ack → ∃ t, exec (.noack r) s = .next t ∧ s.SluiceEnds t r 3 ∧ bit t.pwr.vbad r = true ∧ tget? t.pwr.sluice r = none) ∧
    (∀ mv, x.phase = .settle → x.v ≤ mv + 15 → (c0 < x.f0 ∨ c1 < x.f1) → exec (.settle r mv) s = .next (s.setSl r { x with phase := .rise })) ∧
    (∀ mv, x.phase = .settle → x.v ≤ mv + 15 → ¬(c0 < x.f0 ∨ c1 < x.f1) → ∃ t, exec (.settle r mv) s = .next t ∧ s.SluiceEnds t r 0 ∧ tget? t.pwr.sluice r = none) ∧
    (∀ mv, x.phase = .settle → mv + 15 < x.v → x.v * 97 ≤ mv * 100 →
      ∃ t, exec (.settle r mv) s = .next t ∧ s.SluiceEnds t r 4 ∧ bit t.pwr.vbad r = true ∧ tget? t.pwr.sluice r = none) ∧
    (∀ mv, x.phase = .settle → mv + 15 < x.v → mv * 100 < x.v * 97 →
      ∃ t, exec (.settle r mv) s = .next t ∧ t.gf .PWR_REG_STAT r F.PWR_REG_STAT.CODE = 4 ∧ tget? t.pwr.sluice r = none ∧ t.evPend (1216 + r) = true ∧
        ∀ j, j < 8 → t.fenced 0 (8 * r + j) = true))

/-- Core starts, retention and package states (R391, R509, R512 to R514, R519, R520). -/
def Obligations.CoresRegionsAndPackageChangePowerState : Prop :=
  (∀ (s : State) (n : Fin 32) (who : Req) (v : W32), s.Admits who .PWR_CORE_CTL n →
    let w := v ||| 4
    let u := s.plainWrite .PWR_CORE_CTL n (if w.toNat % 4 = 0 then w ||| 1 else w)
    let rvec := BitVec.ofNat 64 ((s.rd .PWR_CORE_RVEC_LO n).toNat / 4 * 4 + 2 ^ 32 * (s.rd .PWR_CORE_RVEC_HI n).toNat)
    ((s.cor n).st = .c3 → bit s.img.hold (n / 8) = false → s.inService (n / 8) = true → s.isOut 0 n = false → s.pins.sysrst = false → (s.cor n).halted = false → (s.cor n).haltReq = false →
      ∃ t : State, exec (.coreOn n who v) s = t.wrote ∧ t.cor n = { Core.init with st := .run, pc := rvec, resync := true } ∧ (∀ m, m ≠ n.val → t.cor m = s.cor m) ∧
        t.rd .PWR_CORE_CTL n = u.rd .PWR_CORE_CTL n ∧ Frame [.core, .evd, .rPWR] s t ∧
        (s.gf .PWR_REG_STAT (n / 8) F.PWR_REG_STAT.STATE ≠ 2 → ∀ r i, r ≠ .PWR_CORE_CTL → t.rd r i = s.rd r i) ∧
        (∀ v0 f0 f1, s.gf .PWR_REG_STAT (n / 8) F.PWR_REG_STAT.STATE = 2 → tget? s.pwr.before (n / 8) = some (v0, f0, f1) → v0 < 1024 → f0 < 64 → f1 < 64 →
          t.gf .PWR_REG_STAT (n / 8) F.PWR_REG_STAT.STATE = 1 ∧ t.vCur (n / 8) = v0 ∧ t.fCur (2 * (n / 8)) = f0 ∧ t.fCur (2 * (n / 8) + 1) = f1)) ∧
    (¬((s.cor n).st = .c3 ∧ bit s.img.hold (n / 8) = false ∧ s.inService (n / 8) = true ∧ s.isOut 0 n = false) →
      exec (.coreOn n who v) s = (u.pb .PWR_CORE_STAT n F.PWR_CORE_STAT.ONREF true).wrote)) ∧
  (∀ (s : State) (n : Fin 32) (who : Req) (v : W32), s.Admits who .PWR_PKG_CTL 0 → who.agent = .core n → (v.toNat / 2 % 4 = 1 ∨ v.toNat / 2 % 4 = 2) →
    let u := s.plainWrite .PWR_PKG_CTL 0 (v ||| 1)
    let code := s.pkgCode (v.toNat / 2 % 4) n
    (s.pwr.step = none → code = 0 →
      exec (.pkgGo who v) s = { (u.pf .PWR_PKG_STAT 0 F.PWR_PKG_STAT.CODE 0).pb .PWR_PKG_STAT 0 F.PWR_PKG_STAT.PENDING true with
        pwr := { s.pwr with writer := some n.val, target := v.toNat / 2 % 4 } }.wrote) ∧
    (s.pwr.step = none → code ≠ 0 → exec (.pkgGo who v) s = ((u.pf .PWR_PKG_STAT 0 F.PWR_PKG_STAT.CODE code).raise 1221).wrote) ∧
    (s.pwr.step.isSome = true → exec (.pkgGo who v) s = ((u.pf .PWR_PKG_STAT 0 F.PWR_PKG_STAT.CODE 7).raise 1221).wrote)) ∧
  (∀ (s : State) (k : Nat), s.pwr.step = some k →
    (s.pwr.abort = false → (k = 3 ∨ k = 5) →
      exec .pkgEntryStepDone s = .next { s.pf .PWR_PKG_STAT 0 F.PWR_PKG_STAT.AP k with pwr := { s.pwr with step := some (k + 1) } }) ∧
    (s.pwr.abort = false → k = 1 → s.pkgCode s.pwr.target (s.pwr.writer.getD 0) = 0 →
      exec .pkgEntryStepDone s = .next { s.pf .PWR_PKG_STAT 0 F.PWR_PKG_STAT.AP 1 with pwr := { s.pwr with step := some 2 } }) ∧
    (s.pwr.abort = false → k = 2 → s.trcDrained = true →
      ∃ t, exec .pkgEntryStepDone s = .next t ∧ t.pwr.step = some 3 ∧ t.tick.dark = true ∧ t.pins.plOn = false ∧ t.pins.tickOut = false ∧
        (s.pwr.target = 1 → ∃ y, t.pwr.stby = some y ∧ y.sec = s.img.sec)) ∧
    (s.pwr.abort = true → (k = 3 ∨ k = 5) →
      ∃ t, exec .pkgEntryStepDone s = .next t ∧ t.pwr.step = none ∧ t.pwr.writer = none ∧ t.gf .PWR_LAST 0 F.PWR_LAST.AP = k ∧
        t.gb .PWR_LAST 0 F.PWR_LAST.ABANDONED = true ∧ t.tick.lightDue = some false ∧ t.evPend 1221 = true ∧
        (∀ n, s.pwr.writer = some n → (s.cor n).st = .c2 → (t.cor n).st = .run)) ∧
    (k = 6 → ∃ t, exec .pkgEntryStepDone s = .next t ∧ t.pwr.step = none ∧ t.pwr.asleep = s.pwr.target ∧ ∀ n, n < 32 → (t.cor n).st = .c3)) ∧
  (∀ (s : State) (r : Fin 4),
    (s.retains r = true →
      exec (.regionRetentionEntry r) s =
        .next ((({ s with pwr := { s.pwr with before := tset s.pwr.before r (s.vCur r, s.fCur (2 * r), s.fCur (2 * r + 1)) }, l2 := tdel (tdel s.l2 (2 * r)) (2 * r + 1) }).pf .PWR_REG_STAT r F.PWR_REG_STAT.STATE 2).pf .PWR_REG_STAT r F.PWR_REG_STAT.VCUR 600)) ∧
    (∀ v f0 f1, s.gf .PWR_REG_STAT r F.PWR_REG_STAT.STATE = 2 → tget? s.pwr.before r = some (v, f0, f1) → v < 1024 → f0 < 64 → f1 < 64 →
      ∃ t, exec (.regionRetentionExit r) s = .next t ∧ t.gf .PWR_REG_STAT r F.PWR_REG_STAT.STATE = 1 ∧ t.vCur r = v ∧ t.fCur (2 * r) = f0 ∧ t.fCur (2 * r + 1) = f1 ∧
        Frame [.rPWR] s t) ∧
    (s.gf .PWR_REG_STAT r F.PWR_REG_STAT.STATE ≠ 2 → exec (.regionRetentionExit r) s = .next s))

/-- The bit of the action in PWR_UNIT_CTL.ACT (R526). -/
def Sys2Proof.Instr.unitAction : Instr → Option (Req × W32 × Nat)
  | .unitReset who v => some (who, v, 0)
  | .unitFence who v => some (who, v, 1)
  | .unitUnfence who v => some (who, v, 2)
  | .unitOut who v => some (who, v, 3)
  | .traceOn who v => some (who, v, 4)
  | .traceOff who v => some (who, v, 5)
  | _ => none

/-- An action has ended with a code: none is in progress, PWR_UNIT_STAT shows it, source 1222 is raised (R525, R526). -/
structure Sys2Proof.Machine.State.ActionEnds (t : State) (code : Nat) : Prop where
  idle : t.pwr.act = none
  stat : t.rd .PWR_UNIT_STAT 0 = BitVec.ofNat 32 (2 ^ 31 + code)
  raised : t.evPend 1222 = true

/-- The action in progress on a unit of the kind leaves P: carried out by the tick edge for a loop cluster, an LE, a PL port, a hint input or an ADC channel, and ended by UNIT_ACTION_DONE after it; else by UNIT_ACTION_DONE (R525). -/
def Sys2Proof.Machine.State.Leads (s : State) (kind : Nat) (P : State → Prop) : Prop :=
  if kind = 1 ∨ kind = 2 ∨ kind = 6 ∨ kind = 7 ∨ kind = 8 then
    exec .unitActionDone s = .next s ∧ (s.unitEdge (kind == 1)).pwr.acted = some 0 ∧ P (s.unitEdge (kind == 1)) ∧
      ∃ t, exec .unitActionDone (s.unitEdge (kind == 1)) = .next t ∧ t.ActionEnds 0 ∧ Frame [.core, .evd, .pwr, .rEVD, .rPWR] (s.unitEdge (kind == 1)) t
  else ∃ t, exec .unitActionDone s = .next t ∧ t.ActionEnds 0 ∧ P t

/-- Unit actions (R12, R14, R240, R525). -/
def Obligations.UnitActionsTakeEffect : Prop :=
  (∀ (c : Instr) (s : State) (who : Req) (v : W32) (b : Nat), c.unitAction = some (who, v, b) → s.Admits who .PWR_UNIT_CTL 0 → s.pwr.act = none →
    let w := v ||| BitVec.ofNat 32 (2 ^ (16 + b))
    let acts := w.toNat / 2 ^ 16 % 2 ^ 6
    let kind := w.toNat / 2 ^ 12 % 2 ^ 4
    let idx := w.toNat % 2 ^ 12
    let u : State := { s.plainWrite .PWR_UNIT_CTL 0 w with pwr := { s.pwr with act := some (acts, kind, idx), acted := none } }
    bit acts b = true ∧
    (kind ≠ 1 → exec c s = u.wrote) ∧
    (kind = 1 → s.unitCode acts 1 idx = 0 →
      exec c s = (u.setLe idx { s.leAt idx with
        pend := ((s.leAt idx).pend.1 || bit acts 0, (s.leAt idx).pend.2.1 || bit acts 1, (s.leAt idx).pend.2.2 || bit acts 2) }).wrote)) ∧
  (∀ (s : State) (acts kind idx : Nat), s.pwr.act = some (acts, kind, idx) →
    (∀ code, s.pwr.acted = some code → ∃ t, exec .unitActionDone s = .next t ∧ t.ActionEnds code ∧ Frame [.core, .evd, .pwr, .rEVD, .rPWR] s t) ∧
    (∀ code, s.pwr.acted = none → s.unitCode acts kind idx = code → code ≠ 0 → ∃ t, exec .unitActionDone s = .next t ∧ t.ActionEnds code ∧ Frame [.core, .evd, .pwr, .rEVD, .rPWR] s t) ∧
    (kindCount kind ≤ idx → s.unitCode acts kind idx = 2) ∧
    (idx < kindCount kind → bit acts 3 = true → s.railUses kind idx = true → s.unitCode acts kind idx = 1) ∧
    (idx < 4 → kind = 5 → (bit acts 0 = true ∨ bit acts 3 = true) → s.unitCode acts kind idx = 1) ∧
    (∀ (err : BitVec 16) (x : EdgeIn), s.pwr.acted = none → kind = 1 ∨ kind = 2 ∨ kind = 6 ∨ kind = 7 ∨ kind = 8 → s.ticking = true → s.tick.dark = false →
      ∃ t, exec (.tickEdge err x) s = .next t ∧ t.pwr.acted.isSome = true ∧ t.pwr.act = s.pwr.act) ∧
    let waits := s.plState idx = 5 ∨ s.gb .TICK_STATUS 0 F.TICK_STATUS.RUNNING = false ∨ s.tick.dark = true
    (s.pwr.acted = none → s.unitCode acts kind idx = 0 →
      (acts = 4 → kind = 6 → (s.unitAt 6 idx).out = false → s.fenced 6 idx = true → ¬waits → s.plGen idx ≠ 0 →
        s.Leads kind (fun t => t.fenced 6 idx = false ∧ s.EnumStarts t idx)) ∧
      (acts = 2 → kind ≠ 1 → s.Leads kind (fun t => t.unitAt kind idx = { s.unitAt kind idx with fenced := true } ∧
        Frame [.unit, .core, .evd, .pwr, .rPL, .rEVD, .rPWR] s t ∧ (kind ≠ 6 → Frame [.unit, .core, .evd, .pwr, .rEVD, .rPWR] s t))) ∧
      (acts = 4 → kind ≠ 1 → kind ≠ 2 → (kind ≠ 6 ∨ waits ∨ s.fenced 6 idx = false) → (s.unitAt kind idx).out = false →
        s.Leads kind (fun t => t.unitAt kind idx = { s.unitAt kind idx with fenced := false } ∧
          Frame [.unit, .core, .evd, .pwr, .rEVD, .rPWR, .rTRC] s t ∧ (kind ≠ 0 → Frame [.unit, .core, .evd, .pwr, .rEVD, .rPWR] s t))) ∧
      (acts = 4 → kind = 2 → (s.unitAt 2 idx).out = false →
        s.Leads kind (fun t => t.fenced 2 idx = false ∧ (t.lcAt idx).fenced = false ∧ Frame [.unit, .lc, .core, .evd, .pwr, .rEVD, .rPWR] s t)) ∧
      (acts = 8 → s.Leads kind (fun t => t.isOut kind idx = true ∧ t.fenced kind idx = true)) ∧
      (acts = 1 → kind ≠ 1 → s.isOut kind idx = true → s.Leads kind (fun t => t.isOut kind idx = false ∧ t.fenced kind idx = true)) ∧
      (acts = 16 → s.Leads kind (fun t => t.unitAt kind idx = { s.unitAt kind idx with trace := true } ∧ Frame [.unit, .core, .evd, .pwr, .rEVD, .rPWR] s t)) ∧
      (acts = 32 → s.Leads kind (fun t => t.unitAt kind idx = { s.unitAt kind idx with trace := false } ∧ Frame [.unit, .core, .evd, .pwr, .rEVD, .rPWR] s t)) ∧
      (acts = 8 → kind = 1 → s.Leads kind (fun t =>
        t.leAt idx = { LoopEngine.init with codeLen := (s.leAt idx).codeLen, initMode := (s.leAt idx).initMode, bank := (s.leAt idx).bank, st := .out })) ∧
      (acts = 1 → kind = 8 → idx < 64 → s.isOut 8 idx = false → s.Leads kind (fun t => t.rd .ADC_RS idx = 0 ∧ tget? t.adc.satRun idx = none)) ∧
      (acts = 1 → kind = 6 → s.isOut 6 idx = false → s.Leads kind (fun t =>
        t.prt idx = { Port.init with startDue := !s.fenced 6 idx } ∧ t.rd .PL_STATUS idx = BitVec.ofNat 32 Reg.PL_STATUS.desc.reset ∧ (∀ a, a < 8 → t.rd .PL_ERR (idx * 8 + a) = 0) ∧
          (∀ m, m ≠ idx → t.prt m = s.prt m) ∧ Frame [.port, .core, .evd, .pwr, .rPL, .rEVD, .rPWR] s t ∧
          (s.fenced 6 idx = false → s.gb .TICK_STATUS 0 F.TICK_STATUS.RUNNING = true → s.tick.dark = false → s.plGen idx ≠ 0 →
            (t.portEdge idx).plState idx = (if s.pins.plOn = true then 1 else 3) ∧ ((t.portEdge idx).prt idx).enum.isSome = s.pins.plOn))) ∧
      (acts = 1 → kind = 0 → s.isOut 0 idx = false → s.pins.sysrst = false → (s.cor idx).st ≠ .c3 → (s.cor idx).halted = false → (s.cor idx).haltReq = false → (s.cor idx).l1d = [] →
        s.Leads kind (fun t => (t.cor idx).pc = s.rvec idx ∧ (t.cor idx).g = [] ∧ (t.cor idx).sr = []))))
end

