-- ==== Sys2Proof/Laws/Crc.lean ====
section
/-!
SUPPORT. The CRC-32 is a 32-bit number.
-/
namespace Sys2Proof.Machine

theorem crc32Bit_lt {c : Nat} (h : c < 2 ^ 32) : crc32Bit c < 2 ^ 32 := by
  unfold crc32Bit
  split
  · exact Nat.xor_lt_two_pow (by omega) (by decide)
  · omega

theorem crc32Byte_lt {c : Nat} (b : Byte) (h : c < 2 ^ 32) : crc32Byte c b < 2 ^ 32 := by
  unfold crc32Byte
  repeat' apply crc32Bit_lt
  exact Nat.xor_lt_two_pow h (by omega)

theorem crc32_lt (b : Bytes) : crc32 b < 2 ^ 32 := by
  have go : ∀ (l : Bytes) (c : Nat), c < 2 ^ 32 → l.foldl crc32Byte c < 2 ^ 32 := by
    intro l
    induction l with
    | nil => exact fun _ h => h
    | cons x r ih => exact fun c h => ih _ (crc32Byte_lt x h)
  exact Nat.xor_lt_two_pow (go b _ (by decide)) (by decide)

end Sys2Proof.Machine
end

