-- ==== Sys2Proof/Laws/RegBlocks.lean ====
section
/-!
SUPPORT. The block of each register.
-/
namespace Sys2Proof.Machine

theorem Reg.rIMG_blocks : Reg.block .IMG_ID = .rIMG ∧ Reg.block .IMG_AMD_SEQ = .rIMG ∧ Reg.block .IMG_STATUS = .rIMG ∧ Reg.block .IMG_AMD_ADDR_LO = .rIMG ∧ Reg.block .IMG_AMD_ADDR_HI = .rIMG ∧ Reg.block .IMG_AMD_LEN = .rIMG ∧ Reg.block .IMG_AMD_CTL = .rIMG ∧ Reg.block .IMG_AMD_RESULT = .rIMG ∧ Reg.block .IMG_AMD_APPLIED_LO = .rIMG ∧ Reg.block .IMG_AMD_APPLIED_HI = .rIMG ∧ Reg.block .IMG_FLOOR = .rIMG ∧ Reg.block .IMG_HASH = .rIMG ∧ Reg.block .IMG_AMD_HASH = .rIMG := by decide +kernel
theorem Reg.IMG_ID_block : Reg.block .IMG_ID = .rIMG := Reg.rIMG_blocks.1
theorem Reg.IMG_AMD_SEQ_block : Reg.block .IMG_AMD_SEQ = .rIMG := Reg.rIMG_blocks.2.1
theorem Reg.IMG_STATUS_block : Reg.block .IMG_STATUS = .rIMG := Reg.rIMG_blocks.2.2.1
theorem Reg.IMG_AMD_ADDR_LO_block : Reg.block .IMG_AMD_ADDR_LO = .rIMG := Reg.rIMG_blocks.2.2.2.1
theorem Reg.IMG_AMD_ADDR_HI_block : Reg.block .IMG_AMD_ADDR_HI = .rIMG := Reg.rIMG_blocks.2.2.2.2.1
theorem Reg.IMG_AMD_LEN_block : Reg.block .IMG_AMD_LEN = .rIMG := Reg.rIMG_blocks.2.2.2.2.2.1
theorem Reg.IMG_AMD_CTL_block : Reg.block .IMG_AMD_CTL = .rIMG := Reg.rIMG_blocks.2.2.2.2.2.2.1
theorem Reg.IMG_AMD_RESULT_block : Reg.block .IMG_AMD_RESULT = .rIMG := Reg.rIMG_blocks.2.2.2.2.2.2.2.1
theorem Reg.IMG_AMD_APPLIED_LO_block : Reg.block .IMG_AMD_APPLIED_LO = .rIMG := Reg.rIMG_blocks.2.2.2.2.2.2.2.2.1
theorem Reg.IMG_AMD_APPLIED_HI_block : Reg.block .IMG_AMD_APPLIED_HI = .rIMG := Reg.rIMG_blocks.2.2.2.2.2.2.2.2.2.1
theorem Reg.IMG_FLOOR_block : Reg.block .IMG_FLOOR = .rIMG := Reg.rIMG_blocks.2.2.2.2.2.2.2.2.2.2.1
theorem Reg.IMG_HASH_block : Reg.block .IMG_HASH = .rIMG := Reg.rIMG_blocks.2.2.2.2.2.2.2.2.2.2.2.1
theorem Reg.IMG_AMD_HASH_block : Reg.block .IMG_AMD_HASH = .rIMG := Reg.rIMG_blocks.2.2.2.2.2.2.2.2.2.2.2.2
theorem Reg.rKEEP_blocks : Reg.block .KEEP_STATUS = .rKEEP ∧ Reg.block .KEEP_CNT_CTL = .rKEEP ∧ Reg.block .KEEP_CNT_VAL = .rKEEP ∧ Reg.block .KEEP_CNT_STAT = .rKEEP ∧ Reg.block .KEEP_LC_CTL = .rKEEP ∧ Reg.block .KEEP_JOB_ADDR_LO = .rKEEP ∧ Reg.block .KEEP_JOB_ADDR_HI = .rKEEP ∧ Reg.block .KEEP_JOB_CTL = .rKEEP ∧ Reg.block .KEEP_JOB_STAT = .rKEEP := by decide +kernel
theorem Reg.KEEP_STATUS_block : Reg.block .KEEP_STATUS = .rKEEP := Reg.rKEEP_blocks.1
theorem Reg.KEEP_CNT_CTL_block : Reg.block .KEEP_CNT_CTL = .rKEEP := Reg.rKEEP_blocks.2.1
theorem Reg.KEEP_CNT_VAL_block : Reg.block .KEEP_CNT_VAL = .rKEEP := Reg.rKEEP_blocks.2.2.1
theorem Reg.KEEP_CNT_STAT_block : Reg.block .KEEP_CNT_STAT = .rKEEP := Reg.rKEEP_blocks.2.2.2.1
theorem Reg.KEEP_LC_CTL_block : Reg.block .KEEP_LC_CTL = .rKEEP := Reg.rKEEP_blocks.2.2.2.2.1
theorem Reg.KEEP_JOB_ADDR_LO_block : Reg.block .KEEP_JOB_ADDR_LO = .rKEEP := Reg.rKEEP_blocks.2.2.2.2.2.1
theorem Reg.KEEP_JOB_ADDR_HI_block : Reg.block .KEEP_JOB_ADDR_HI = .rKEEP := Reg.rKEEP_blocks.2.2.2.2.2.2.1
theorem Reg.KEEP_JOB_CTL_block : Reg.block .KEEP_JOB_CTL = .rKEEP := Reg.rKEEP_blocks.2.2.2.2.2.2.2.1
theorem Reg.KEEP_JOB_STAT_block : Reg.block .KEEP_JOB_STAT = .rKEEP := Reg.rKEEP_blocks.2.2.2.2.2.2.2.2
theorem Reg.rTICK_blocks : Reg.block .TICK_CTL = .rTICK ∧ Reg.block .TICK_CFG = .rTICK ∧ Reg.block .TICK_STATUS = .rTICK ∧ Reg.block .TICK_TB_LO = .rTICK ∧ Reg.block .TICK_TB_HI = .rTICK ∧ Reg.block .TICK_COUNT_LO = .rTICK ∧ Reg.block .TICK_COUNT_HI = .rTICK ∧ Reg.block .TICK_EDGE_TB_LO = .rTICK ∧ Reg.block .TICK_EDGE_TB_HI = .rTICK ∧ Reg.block .TICK_PHERR = .rTICK ∧ Reg.block .TICK_OVR_MASK_LO = .rTICK ∧ Reg.block .TICK_OVR_MASK_HI = .rTICK ∧ Reg.block .TICK_OVR_CNT = .rTICK ∧ Reg.block .TICK_OVR_LE = .rTICK ∧ Reg.block .TICK_OVR_TICK_LO = .rTICK ∧ Reg.block .TICK_OVR_TICK_HI = .rTICK := by decide +kernel
theorem Reg.TICK_CTL_block : Reg.block .TICK_CTL = .rTICK := Reg.rTICK_blocks.1
theorem Reg.TICK_CFG_block : Reg.block .TICK_CFG = .rTICK := Reg.rTICK_blocks.2.1
theorem Reg.TICK_STATUS_block : Reg.block .TICK_STATUS = .rTICK := Reg.rTICK_blocks.2.2.1
theorem Reg.TICK_TB_LO_block : Reg.block .TICK_TB_LO = .rTICK := Reg.rTICK_blocks.2.2.2.1
theorem Reg.TICK_TB_HI_block : Reg.block .TICK_TB_HI = .rTICK := Reg.rTICK_blocks.2.2.2.2.1
theorem Reg.TICK_COUNT_LO_block : Reg.block .TICK_COUNT_LO = .rTICK := Reg.rTICK_blocks.2.2.2.2.2.1
theorem Reg.TICK_COUNT_HI_block : Reg.block .TICK_COUNT_HI = .rTICK := Reg.rTICK_blocks.2.2.2.2.2.2.1
theorem Reg.TICK_EDGE_TB_LO_block : Reg.block .TICK_EDGE_TB_LO = .rTICK := Reg.rTICK_blocks.2.2.2.2.2.2.2.1
theorem Reg.TICK_EDGE_TB_HI_block : Reg.block .TICK_EDGE_TB_HI = .rTICK := Reg.rTICK_blocks.2.2.2.2.2.2.2.2.1
theorem Reg.TICK_PHERR_block : Reg.block .TICK_PHERR = .rTICK := Reg.rTICK_blocks.2.2.2.2.2.2.2.2.2.1
theorem Reg.TICK_OVR_MASK_LO_block : Reg.block .TICK_OVR_MASK_LO = .rTICK := Reg.rTICK_blocks.2.2.2.2.2.2.2.2.2.2.1
theorem Reg.TICK_OVR_MASK_HI_block : Reg.block .TICK_OVR_MASK_HI = .rTICK := Reg.rTICK_blocks.2.2.2.2.2.2.2.2.2.2.2.1
theorem Reg.TICK_OVR_CNT_block : Reg.block .TICK_OVR_CNT = .rTICK := Reg.rTICK_blocks.2.2.2.2.2.2.2.2.2.2.2.2.1
theorem Reg.TICK_OVR_LE_block : Reg.block .TICK_OVR_LE = .rTICK := Reg.rTICK_blocks.2.2.2.2.2.2.2.2.2.2.2.2.2.1
theorem Reg.TICK_OVR_TICK_LO_block : Reg.block .TICK_OVR_TICK_LO = .rTICK := Reg.rTICK_blocks.2.2.2.2.2.2.2.2.2.2.2.2.2.2.1
theorem Reg.TICK_OVR_TICK_HI_block : Reg.block .TICK_OVR_TICK_HI = .rTICK := Reg.rTICK_blocks.2.2.2.2.2.2.2.2.2.2.2.2.2.2.2
theorem Reg.rPL_blocks : Reg.block .PL_CTL = .rPL ∧ Reg.block .PL_STATUS = .rPL ∧ Reg.block .PL_PHASE = .rPL ∧ Reg.block .PL_PHASE2 = .rPL ∧ Reg.block .PL_READMIT = .rPL ∧ Reg.block .PL_EVT = .rPL ∧ Reg.block .PL_EVT_EN = .rPL ∧ Reg.block .PL_RTD = .rPL ∧ Reg.block .PL_ERR = .rPL ∧ Reg.block .PL_AUX = .rPL ∧ Reg.block .PL_REG_CMD = .rPL ∧ Reg.block .PL_REG_RESULT = .rPL ∧ Reg.block .PL_EYE_CTL = .rPL ∧ Reg.block .PL_EYE_RES = .rPL ∧ Reg.block .PL_PRBS_ERR = .rPL ∧ Reg.block .PL_INJ = .rPL := by decide +kernel
theorem Reg.PL_CTL_block : Reg.block .PL_CTL = .rPL := Reg.rPL_blocks.1
theorem Reg.PL_STATUS_block : Reg.block .PL_STATUS = .rPL := Reg.rPL_blocks.2.1
theorem Reg.PL_PHASE_block : Reg.block .PL_PHASE = .rPL := Reg.rPL_blocks.2.2.1
theorem Reg.PL_PHASE2_block : Reg.block .PL_PHASE2 = .rPL := Reg.rPL_blocks.2.2.2.1
theorem Reg.PL_READMIT_block : Reg.block .PL_READMIT = .rPL := Reg.rPL_blocks.2.2.2.2.1
theorem Reg.PL_EVT_block : Reg.block .PL_EVT = .rPL := Reg.rPL_blocks.2.2.2.2.2.1
theorem Reg.PL_EVT_EN_block : Reg.block .PL_EVT_EN = .rPL := Reg.rPL_blocks.2.2.2.2.2.2.1
theorem Reg.PL_RTD_block : Reg.block .PL_RTD = .rPL := Reg.rPL_blocks.2.2.2.2.2.2.2.1
theorem Reg.PL_ERR_block : Reg.block .PL_ERR = .rPL := Reg.rPL_blocks.2.2.2.2.2.2.2.2.1
theorem Reg.PL_AUX_block : Reg.block .PL_AUX = .rPL := Reg.rPL_blocks.2.2.2.2.2.2.2.2.2.1
theorem Reg.PL_REG_CMD_block : Reg.block .PL_REG_CMD = .rPL := Reg.rPL_blocks.2.2.2.2.2.2.2.2.2.2.1
theorem Reg.PL_REG_RESULT_block : Reg.block .PL_REG_RESULT = .rPL := Reg.rPL_blocks.2.2.2.2.2.2.2.2.2.2.2.1
theorem Reg.PL_EYE_CTL_block : Reg.block .PL_EYE_CTL = .rPL := Reg.rPL_blocks.2.2.2.2.2.2.2.2.2.2.2.2.1
theorem Reg.PL_EYE_RES_block : Reg.block .PL_EYE_RES = .rPL := Reg.rPL_blocks.2.2.2.2.2.2.2.2.2.2.2.2.2.1
theorem Reg.PL_PRBS_ERR_block : Reg.block .PL_PRBS_ERR = .rPL := Reg.rPL_blocks.2.2.2.2.2.2.2.2.2.2.2.2.2.2.1
theorem Reg.PL_INJ_block : Reg.block .PL_INJ = .rPL := Reg.rPL_blocks.2.2.2.2.2.2.2.2.2.2.2.2.2.2.2
theorem Reg.rLC_blocks : Reg.block .LC_STATUS = .rLC ∧ Reg.block .LC_SPARE_CTL = .rLC ∧ Reg.block .LC_REC_CTL = .rLC ∧ Reg.block .LC_EVT = .rLC ∧ Reg.block .LC_EVT_EN = .rLC ∧ Reg.block .LC_LE_STATUS = .rLC ∧ Reg.block .LC_LE_CTL = .rLC ∧ Reg.block .LC_LE_FAULT = .rLC ∧ Reg.block .LC_LE_FAULT_LC0 = .rLC ∧ Reg.block .LC_LE_FAULT_LC1 = .rLC ∧ Reg.block .LC_LE_FAULT_TICK_LO = .rLC ∧ Reg.block .LC_LE_FAULT_TICK_HI = .rLC ∧ Reg.block .LC_LE_FAULT_CNT = .rLC ∧ Reg.block .LC_LE_SHWIN = .rLC ∧ Reg.block .LC_LE_EVT = .rLC ∧ Reg.block .LC_LE_CYC = .rLC ∧ Reg.block .LC_LE_MAXCYC = .rLC := by decide +kernel
theorem Reg.LC_STATUS_block : Reg.block .LC_STATUS = .rLC := Reg.rLC_blocks.1
theorem Reg.LC_SPARE_CTL_block : Reg.block .LC_SPARE_CTL = .rLC := Reg.rLC_blocks.2.1
theorem Reg.LC_REC_CTL_block : Reg.block .LC_REC_CTL = .rLC := Reg.rLC_blocks.2.2.1
theorem Reg.LC_EVT_block : Reg.block .LC_EVT = .rLC := Reg.rLC_blocks.2.2.2.1
theorem Reg.LC_EVT_EN_block : Reg.block .LC_EVT_EN = .rLC := Reg.rLC_blocks.2.2.2.2.1
theorem Reg.LC_LE_STATUS_block : Reg.block .LC_LE_STATUS = .rLC := Reg.rLC_blocks.2.2.2.2.2.1
theorem Reg.LC_LE_CTL_block : Reg.block .LC_LE_CTL = .rLC := Reg.rLC_blocks.2.2.2.2.2.2.1
theorem Reg.LC_LE_FAULT_block : Reg.block .LC_LE_FAULT = .rLC := Reg.rLC_blocks.2.2.2.2.2.2.2.1
theorem Reg.LC_LE_FAULT_LC0_block : Reg.block .LC_LE_FAULT_LC0 = .rLC := Reg.rLC_blocks.2.2.2.2.2.2.2.2.1
theorem Reg.LC_LE_FAULT_LC1_block : Reg.block .LC_LE_FAULT_LC1 = .rLC := Reg.rLC_blocks.2.2.2.2.2.2.2.2.2.1
theorem Reg.LC_LE_FAULT_TICK_LO_block : Reg.block .LC_LE_FAULT_TICK_LO = .rLC := Reg.rLC_blocks.2.2.2.2.2.2.2.2.2.2.1
theorem Reg.LC_LE_FAULT_TICK_HI_block : Reg.block .LC_LE_FAULT_TICK_HI = .rLC := Reg.rLC_blocks.2.2.2.2.2.2.2.2.2.2.2.1
theorem Reg.LC_LE_FAULT_CNT_block : Reg.block .LC_LE_FAULT_CNT = .rLC := Reg.rLC_blocks.2.2.2.2.2.2.2.2.2.2.2.2.1
theorem Reg.LC_LE_SHWIN_block : Reg.block .LC_LE_SHWIN = .rLC := Reg.rLC_blocks.2.2.2.2.2.2.2.2.2.2.2.2.2.1
theorem Reg.LC_LE_EVT_block : Reg.block .LC_LE_EVT = .rLC := Reg.rLC_blocks.2.2.2.2.2.2.2.2.2.2.2.2.2.2.1
theorem Reg.LC_LE_CYC_block : Reg.block .LC_LE_CYC = .rLC := Reg.rLC_blocks.2.2.2.2.2.2.2.2.2.2.2.2.2.2.2.1
theorem Reg.LC_LE_MAXCYC_block : Reg.block .LC_LE_MAXCYC = .rLC := Reg.rLC_blocks.2.2.2.2.2.2.2.2.2.2.2.2.2.2.2.2
theorem Reg.rRAIL_blocks : Reg.block .RAIL_FAULT_LO = .rRAIL ∧ Reg.block .RAIL_FAULT_HI = .rRAIL ∧ Reg.block .SEQ_CTL = .rRAIL ∧ Reg.block .SEQ_STATUS = .rRAIL ∧ Reg.block .SEQ_STEP = .rRAIL ∧ Reg.block .HINT_CTL = .rRAIL ∧ Reg.block .HINT_STAT = .rRAIL ∧ Reg.block .HINT_ACC = .rRAIL ∧ Reg.block .HINT_DROP0 = .rRAIL ∧ Reg.block .HINT_DROP1 = .rRAIL ∧ Reg.block .HINT_EVT = .rRAIL ∧ Reg.block .HINT_EVT_EN = .rRAIL ∧ Reg.block .RAIL_STATE = .rRAIL ∧ Reg.block .RAIL_SETPT = .rRAIL ∧ Reg.block .RAIL_CTL = .rRAIL ∧ Reg.block .RAIL_EVT = .rRAIL ∧ Reg.block .RAIL_EVT_EN = .rRAIL ∧ Reg.block .RAIL_SENSE = .rRAIL ∧ Reg.block .RAIL_IEST = .rRAIL ∧ Reg.block .RAIL_IMEAS = .rRAIL ∧ Reg.block .RAIL_WSHED_LO = .rRAIL ∧ Reg.block .RAIL_WSHED_HI = .rRAIL ∧ Reg.block .RAIL_WCNT0 = .rRAIL ∧ Reg.block .RAIL_WCNT1 = .rRAIL := by decide +kernel
theorem Reg.RAIL_FAULT_LO_block : Reg.block .RAIL_FAULT_LO = .rRAIL := Reg.rRAIL_blocks.1
theorem Reg.RAIL_FAULT_HI_block : Reg.block .RAIL_FAULT_HI = .rRAIL := Reg.rRAIL_blocks.2.1
theorem Reg.SEQ_CTL_block : Reg.block .SEQ_CTL = .rRAIL := Reg.rRAIL_blocks.2.2.1
theorem Reg.SEQ_STATUS_block : Reg.block .SEQ_STATUS = .rRAIL := Reg.rRAIL_blocks.2.2.2.1
theorem Reg.SEQ_STEP_block : Reg.block .SEQ_STEP = .rRAIL := Reg.rRAIL_blocks.2.2.2.2.1
theorem Reg.HINT_CTL_block : Reg.block .HINT_CTL = .rRAIL := Reg.rRAIL_blocks.2.2.2.2.2.1
theorem Reg.HINT_STAT_block : Reg.block .HINT_STAT = .rRAIL := Reg.rRAIL_blocks.2.2.2.2.2.2.1
theorem Reg.HINT_ACC_block : Reg.block .HINT_ACC = .rRAIL := Reg.rRAIL_blocks.2.2.2.2.2.2.2.1
theorem Reg.HINT_DROP0_block : Reg.block .HINT_DROP0 = .rRAIL := Reg.rRAIL_blocks.2.2.2.2.2.2.2.2.1
theorem Reg.HINT_DROP1_block : Reg.block .HINT_DROP1 = .rRAIL := Reg.rRAIL_blocks.2.2.2.2.2.2.2.2.2.1
theorem Reg.HINT_EVT_block : Reg.block .HINT_EVT = .rRAIL := Reg.rRAIL_blocks.2.2.2.2.2.2.2.2.2.2.1
theorem Reg.HINT_EVT_EN_block : Reg.block .HINT_EVT_EN = .rRAIL := Reg.rRAIL_blocks.2.2.2.2.2.2.2.2.2.2.2.1
theorem Reg.RAIL_STATE_block : Reg.block .RAIL_STATE = .rRAIL := Reg.rRAIL_blocks.2.2.2.2.2.2.2.2.2.2.2.2.1
theorem Reg.RAIL_SETPT_block : Reg.block .RAIL_SETPT = .rRAIL := Reg.rRAIL_blocks.2.2.2.2.2.2.2.2.2.2.2.2.2.1
theorem Reg.RAIL_CTL_block : Reg.block .RAIL_CTL = .rRAIL := Reg.rRAIL_blocks.2.2.2.2.2.2.2.2.2.2.2.2.2.2.1
theorem Reg.RAIL_EVT_block : Reg.block .RAIL_EVT = .rRAIL := Reg.rRAIL_blocks.2.2.2.2.2.2.2.2.2.2.2.2.2.2.2.1
theorem Reg.RAIL_EVT_EN_block : Reg.block .RAIL_EVT_EN = .rRAIL := Reg.rRAIL_blocks.2.2.2.2.2.2.2.2.2.2.2.2.2.2.2.2.1
theorem Reg.RAIL_SENSE_block : Reg.block .RAIL_SENSE = .rRAIL := Reg.rRAIL_blocks.2.2.2.2.2.2.2.2.2.2.2.2.2.2.2.2.2.1
theorem Reg.RAIL_IEST_block : Reg.block .RAIL_IEST = .rRAIL := Reg.rRAIL_blocks.2.2.2.2.2.2.2.2.2.2.2.2.2.2.2.2.2.2.1
theorem Reg.RAIL_IMEAS_block : Reg.block .RAIL_IMEAS = .rRAIL := Reg.rRAIL_blocks.2.2.2.2.2.2.2.2.2.2.2.2.2.2.2.2.2.2.2.1
theorem Reg.RAIL_WSHED_LO_block : Reg.block .RAIL_WSHED_LO = .rRAIL := Reg.rRAIL_blocks.2.2.2.2.2.2.2.2.2.2.2.2.2.2.2.2.2.2.2.2.1
theorem Reg.RAIL_WSHED_HI_block : Reg.block .RAIL_WSHED_HI = .rRAIL := Reg.rRAIL_blocks.2.2.2.2.2.2.2.2.2.2.2.2.2.2.2.2.2.2.2.2.2.1
theorem Reg.RAIL_WCNT0_block : Reg.block .RAIL_WCNT0 = .rRAIL := Reg.rRAIL_blocks.2.2.2.2.2.2.2.2.2.2.2.2.2.2.2.2.2.2.2.2.2.2.1
theorem Reg.RAIL_WCNT1_block : Reg.block .RAIL_WCNT1 = .rRAIL := Reg.rRAIL_blocks.2.2.2.2.2.2.2.2.2.2.2.2.2.2.2.2.2.2.2.2.2.2.2
theorem Reg.rADC_blocks : Reg.block .ADC_SAT_LO = .rADC ∧ Reg.block .ADC_SAT_HI = .rADC ∧ Reg.block .ADC_SAT_AUX = .rADC ∧ Reg.block .ADC_RS = .rADC ∧ Reg.block .ADC_AUX = .rADC := by decide +kernel
theorem Reg.ADC_SAT_LO_block : Reg.block .ADC_SAT_LO = .rADC := Reg.rADC_blocks.1
theorem Reg.ADC_SAT_HI_block : Reg.block .ADC_SAT_HI = .rADC := Reg.rADC_blocks.2.1
theorem Reg.ADC_SAT_AUX_block : Reg.block .ADC_SAT_AUX = .rADC := Reg.rADC_blocks.2.2.1
theorem Reg.ADC_RS_block : Reg.block .ADC_RS = .rADC := Reg.rADC_blocks.2.2.2.1
theorem Reg.ADC_AUX_block : Reg.block .ADC_AUX = .rADC := Reg.rADC_blocks.2.2.2.2
theorem Reg.rLDG_blocks : Reg.block .LDG_CMD = .rLDG ∧ Reg.block .LDG_CMD_STAT = .rLDG ∧ Reg.block .LDG_DATA = .rLDG ∧ Reg.block .LDG_RING_HEAD = .rLDG ∧ Reg.block .LDG_RING_TAIL = .rLDG ∧ Reg.block .LDG_RING_LOST = .rLDG ∧ Reg.block .LDG_GRP_PEND_LO = .rLDG ∧ Reg.block .LDG_GRP_PEND_HI = .rLDG ∧ Reg.block .LDG_SKIP = .rLDG ∧ Reg.block .LDG_OUT = .rLDG ∧ Reg.block .LDG_PART_SEL = .rLDG ∧ Reg.block .LDG_PART_STAT0 = .rLDG ∧ Reg.block .LDG_PART_STAT1 = .rLDG := by decide +kernel
theorem Reg.LDG_CMD_block : Reg.block .LDG_CMD = .rLDG := Reg.rLDG_blocks.1
theorem Reg.LDG_CMD_STAT_block : Reg.block .LDG_CMD_STAT = .rLDG := Reg.rLDG_blocks.2.1
theorem Reg.LDG_DATA_block : Reg.block .LDG_DATA = .rLDG := Reg.rLDG_blocks.2.2.1
theorem Reg.LDG_RING_HEAD_block : Reg.block .LDG_RING_HEAD = .rLDG := Reg.rLDG_blocks.2.2.2.1
theorem Reg.LDG_RING_TAIL_block : Reg.block .LDG_RING_TAIL = .rLDG := Reg.rLDG_blocks.2.2.2.2.1
theorem Reg.LDG_RING_LOST_block : Reg.block .LDG_RING_LOST = .rLDG := Reg.rLDG_blocks.2.2.2.2.2.1
theorem Reg.LDG_GRP_PEND_LO_block : Reg.block .LDG_GRP_PEND_LO = .rLDG := Reg.rLDG_blocks.2.2.2.2.2.2.1
theorem Reg.LDG_GRP_PEND_HI_block : Reg.block .LDG_GRP_PEND_HI = .rLDG := Reg.rLDG_blocks.2.2.2.2.2.2.2.1
theorem Reg.LDG_SKIP_block : Reg.block .LDG_SKIP = .rLDG := Reg.rLDG_blocks.2.2.2.2.2.2.2.2.1
theorem Reg.LDG_OUT_block : Reg.block .LDG_OUT = .rLDG := Reg.rLDG_blocks.2.2.2.2.2.2.2.2.2.1
theorem Reg.LDG_PART_SEL_block : Reg.block .LDG_PART_SEL = .rLDG := Reg.rLDG_blocks.2.2.2.2.2.2.2.2.2.2.1
theorem Reg.LDG_PART_STAT0_block : Reg.block .LDG_PART_STAT0 = .rLDG := Reg.rLDG_blocks.2.2.2.2.2.2.2.2.2.2.2.1
theorem Reg.LDG_PART_STAT1_block : Reg.block .LDG_PART_STAT1 = .rLDG := Reg.rLDG_blocks.2.2.2.2.2.2.2.2.2.2.2.2
theorem Reg.rCMP_blocks : Reg.block .CMP_STATUS = .rCMP ∧ Reg.block .CMP_CTL = .rCMP ∧ Reg.block .CMP_EVT = .rCMP ∧ Reg.block .CMP_EVT_EN = .rCMP ∧ Reg.block .CMP_HB_MISS = .rCMP ∧ Reg.block .CMP_REC_ERR = .rCMP ∧ Reg.block .CMP_MISMATCH = .rCMP ∧ Reg.block .CMP_TAKE_TICK_LO = .rCMP ∧ Reg.block .CMP_TAKE_TICK_HI = .rCMP ∧ Reg.block .CMP_DIGEST_LO = .rCMP ∧ Reg.block .CMP_DIGEST_HI = .rCMP ∧ Reg.block .CMP_PEER_DIGEST_LO = .rCMP ∧ Reg.block .CMP_PEER_DIGEST_HI = .rCMP ∧ Reg.block .CMP_MIG_ADDR_LO = .rCMP ∧ Reg.block .CMP_MIG_ADDR_HI = .rCMP ∧ Reg.block .CMP_MIG_CTL = .rCMP ∧ Reg.block .CMP_MIG_STAT = .rCMP ∧ Reg.block .CMP_MIG_RX_LO = .rCMP ∧ Reg.block .CMP_MIG_RX_HI = .rCMP ∧ Reg.block .CMP_MIG_RXSTAT = .rCMP := by decide +kernel
theorem Reg.CMP_STATUS_block : Reg.block .CMP_STATUS = .rCMP := Reg.rCMP_blocks.1
theorem Reg.CMP_CTL_block : Reg.block .CMP_CTL = .rCMP := Reg.rCMP_blocks.2.1
theorem Reg.CMP_EVT_block : Reg.block .CMP_EVT = .rCMP := Reg.rCMP_blocks.2.2.1
theorem Reg.CMP_EVT_EN_block : Reg.block .CMP_EVT_EN = .rCMP := Reg.rCMP_blocks.2.2.2.1
theorem Reg.CMP_HB_MISS_block : Reg.block .CMP_HB_MISS = .rCMP := Reg.rCMP_blocks.2.2.2.2.1
theorem Reg.CMP_REC_ERR_block : Reg.block .CMP_REC_ERR = .rCMP := Reg.rCMP_blocks.2.2.2.2.2.1
theorem Reg.CMP_MISMATCH_block : Reg.block .CMP_MISMATCH = .rCMP := Reg.rCMP_blocks.2.2.2.2.2.2.1
theorem Reg.CMP_TAKE_TICK_LO_block : Reg.block .CMP_TAKE_TICK_LO = .rCMP := Reg.rCMP_blocks.2.2.2.2.2.2.2.1
theorem Reg.CMP_TAKE_TICK_HI_block : Reg.block .CMP_TAKE_TICK_HI = .rCMP := Reg.rCMP_blocks.2.2.2.2.2.2.2.2.1
theorem Reg.CMP_DIGEST_LO_block : Reg.block .CMP_DIGEST_LO = .rCMP := Reg.rCMP_blocks.2.2.2.2.2.2.2.2.2.1
theorem Reg.CMP_DIGEST_HI_block : Reg.block .CMP_DIGEST_HI = .rCMP := Reg.rCMP_blocks.2.2.2.2.2.2.2.2.2.2.1
theorem Reg.CMP_PEER_DIGEST_LO_block : Reg.block .CMP_PEER_DIGEST_LO = .rCMP := Reg.rCMP_blocks.2.2.2.2.2.2.2.2.2.2.2.1
theorem Reg.CMP_PEER_DIGEST_HI_block : Reg.block .CMP_PEER_DIGEST_HI = .rCMP := Reg.rCMP_blocks.2.2.2.2.2.2.2.2.2.2.2.2.1
theorem Reg.CMP_MIG_ADDR_LO_block : Reg.block .CMP_MIG_ADDR_LO = .rCMP := Reg.rCMP_blocks.2.2.2.2.2.2.2.2.2.2.2.2.2.1
theorem Reg.CMP_MIG_ADDR_HI_block : Reg.block .CMP_MIG_ADDR_HI = .rCMP := Reg.rCMP_blocks.2.2.2.2.2.2.2.2.2.2.2.2.2.2.1
theorem Reg.CMP_MIG_CTL_block : Reg.block .CMP_MIG_CTL = .rCMP := Reg.rCMP_blocks.2.2.2.2.2.2.2.2.2.2.2.2.2.2.2.1
theorem Reg.CMP_MIG_STAT_block : Reg.block .CMP_MIG_STAT = .rCMP := Reg.rCMP_blocks.2.2.2.2.2.2.2.2.2.2.2.2.2.2.2.2.1
theorem Reg.CMP_MIG_RX_LO_block : Reg.block .CMP_MIG_RX_LO = .rCMP := Reg.rCMP_blocks.2.2.2.2.2.2.2.2.2.2.2.2.2.2.2.2.2.1
theorem Reg.CMP_MIG_RX_HI_block : Reg.block .CMP_MIG_RX_HI = .rCMP := Reg.rCMP_blocks.2.2.2.2.2.2.2.2.2.2.2.2.2.2.2.2.2.2.1
theorem Reg.CMP_MIG_RXSTAT_block : Reg.block .CMP_MIG_RXSTAT = .rCMP := Reg.rCMP_blocks.2.2.2.2.2.2.2.2.2.2.2.2.2.2.2.2.2.2.2
theorem Reg.rEVD_blocks : Reg.block .EVD_ACK = .rEVD ∧ Reg.block .EVD_EOI = .rEVD ∧ Reg.block .EVD_PMR = .rEVD ∧ Reg.block .EVD_RPR = .rEVD ∧ Reg.block .EVD_SWGEN = .rEVD ∧ Reg.block .EVD_FALLBACK = .rEVD ∧ Reg.block .EVD_STATUS = .rEVD ∧ Reg.block .EVD_EN_SET = .rEVD ∧ Reg.block .EVD_EN_CLR = .rEVD ∧ Reg.block .EVD_PEND_SET = .rEVD ∧ Reg.block .EVD_PEND_CLR = .rEVD ∧ Reg.block .EVD_ACTIVE = .rEVD ∧ Reg.block .EVD_SRC_CFG = .rEVD ∧ Reg.block .EVD_TGT_MOD = .rEVD ∧ Reg.block .EVD_TGT_STAT = .rEVD := by decide +kernel
theorem Reg.EVD_ACK_block : Reg.block .EVD_ACK = .rEVD := Reg.rEVD_blocks.1
theorem Reg.EVD_EOI_block : Reg.block .EVD_EOI = .rEVD := Reg.rEVD_blocks.2.1
theorem Reg.EVD_PMR_block : Reg.block .EVD_PMR = .rEVD := Reg.rEVD_blocks.2.2.1
theorem Reg.EVD_RPR_block : Reg.block .EVD_RPR = .rEVD := Reg.rEVD_blocks.2.2.2.1
theorem Reg.EVD_SWGEN_block : Reg.block .EVD_SWGEN = .rEVD := Reg.rEVD_blocks.2.2.2.2.1
theorem Reg.EVD_FALLBACK_block : Reg.block .EVD_FALLBACK = .rEVD := Reg.rEVD_blocks.2.2.2.2.2.1
theorem Reg.EVD_STATUS_block : Reg.block .EVD_STATUS = .rEVD := Reg.rEVD_blocks.2.2.2.2.2.2.1
theorem Reg.EVD_EN_SET_block : Reg.block .EVD_EN_SET = .rEVD := Reg.rEVD_blocks.2.2.2.2.2.2.2.1
theorem Reg.EVD_EN_CLR_block : Reg.block .EVD_EN_CLR = .rEVD := Reg.rEVD_blocks.2.2.2.2.2.2.2.2.1
theorem Reg.EVD_PEND_SET_block : Reg.block .EVD_PEND_SET = .rEVD := Reg.rEVD_blocks.2.2.2.2.2.2.2.2.2.1
theorem Reg.EVD_PEND_CLR_block : Reg.block .EVD_PEND_CLR = .rEVD := Reg.rEVD_blocks.2.2.2.2.2.2.2.2.2.2.1
theorem Reg.EVD_ACTIVE_block : Reg.block .EVD_ACTIVE = .rEVD := Reg.rEVD_blocks.2.2.2.2.2.2.2.2.2.2.2.1
theorem Reg.EVD_SRC_CFG_block : Reg.block .EVD_SRC_CFG = .rEVD := Reg.rEVD_blocks.2.2.2.2.2.2.2.2.2.2.2.2.1
theorem Reg.EVD_TGT_MOD_block : Reg.block .EVD_TGT_MOD = .rEVD := Reg.rEVD_blocks.2.2.2.2.2.2.2.2.2.2.2.2.2.1
theorem Reg.EVD_TGT_STAT_block : Reg.block .EVD_TGT_STAT = .rEVD := Reg.rEVD_blocks.2.2.2.2.2.2.2.2.2.2.2.2.2.2
theorem Reg.rMBX_blocks : Reg.block .MBX_CFG = .rMBX ∧ Reg.block .MBX_TMO = .rMBX ∧ Reg.block .MBX_EVT = .rMBX ∧ Reg.block .MBX_EVT_EN = .rMBX ∧ Reg.block .MBX_STATUS = .rMBX ∧ Reg.block .MBX_ERR = .rMBX ∧ Reg.block .MBX_ERR2 = .rMBX ∧ Reg.block .MBX_AB_TX = .rMBX ∧ Reg.block .MBX_AB_ACK = .rMBX ∧ Reg.block .MBX_AB_RX_STAMP = .rMBX ∧ Reg.block .MBX_AB_RX_DATA = .rMBX ∧ Reg.block .MBX_BA_TX = .rMBX ∧ Reg.block .MBX_BA_ACK = .rMBX ∧ Reg.block .MBX_BA_RX_STAMP = .rMBX ∧ Reg.block .MBX_BA_RX_DATA = .rMBX := by decide +kernel
theorem Reg.MBX_CFG_block : Reg.block .MBX_CFG = .rMBX := Reg.rMBX_blocks.1
theorem Reg.MBX_TMO_block : Reg.block .MBX_TMO = .rMBX := Reg.rMBX_blocks.2.1
theorem Reg.MBX_EVT_block : Reg.block .MBX_EVT = .rMBX := Reg.rMBX_blocks.2.2.1
theorem Reg.MBX_EVT_EN_block : Reg.block .MBX_EVT_EN = .rMBX := Reg.rMBX_blocks.2.2.2.1
theorem Reg.MBX_STATUS_block : Reg.block .MBX_STATUS = .rMBX := Reg.rMBX_blocks.2.2.2.2.1
theorem Reg.MBX_ERR_block : Reg.block .MBX_ERR = .rMBX := Reg.rMBX_blocks.2.2.2.2.2.1
theorem Reg.MBX_ERR2_block : Reg.block .MBX_ERR2 = .rMBX := Reg.rMBX_blocks.2.2.2.2.2.2.1
theorem Reg.MBX_AB_TX_block : Reg.block .MBX_AB_TX = .rMBX := Reg.rMBX_blocks.2.2.2.2.2.2.2.1
theorem Reg.MBX_AB_ACK_block : Reg.block .MBX_AB_ACK = .rMBX := Reg.rMBX_blocks.2.2.2.2.2.2.2.2.1
theorem Reg.MBX_AB_RX_STAMP_block : Reg.block .MBX_AB_RX_STAMP = .rMBX := Reg.rMBX_blocks.2.2.2.2.2.2.2.2.2.1
theorem Reg.MBX_AB_RX_DATA_block : Reg.block .MBX_AB_RX_DATA = .rMBX := Reg.rMBX_blocks.2.2.2.2.2.2.2.2.2.2.1
theorem Reg.MBX_BA_TX_block : Reg.block .MBX_BA_TX = .rMBX := Reg.rMBX_blocks.2.2.2.2.2.2.2.2.2.2.2.1
theorem Reg.MBX_BA_ACK_block : Reg.block .MBX_BA_ACK = .rMBX := Reg.rMBX_blocks.2.2.2.2.2.2.2.2.2.2.2.2.1
theorem Reg.MBX_BA_RX_STAMP_block : Reg.block .MBX_BA_RX_STAMP = .rMBX := Reg.rMBX_blocks.2.2.2.2.2.2.2.2.2.2.2.2.2.1
theorem Reg.MBX_BA_RX_DATA_block : Reg.block .MBX_BA_RX_DATA = .rMBX := Reg.rMBX_blocks.2.2.2.2.2.2.2.2.2.2.2.2.2.2
theorem Reg.rDMA_blocks : Reg.block .DMA_ENG_STATUS = .rDMA ∧ Reg.block .DMA_GRP_PEND = .rDMA ∧ Reg.block .DMA_RQ_CFG = .rDMA ∧ Reg.block .CH_CTL = .rDMA ∧ Reg.block .CH_STAT = .rDMA ∧ Reg.block .CH_OWN = .rDMA ∧ Reg.block .CH_REM0 = .rDMA ∧ Reg.block .CH_REM12 = .rDMA ∧ Reg.block .CH_BARGE_LO = .rDMA ∧ Reg.block .CH_BARGE_HI = .rDMA ∧ Reg.block .CH_XFER = .rDMA := by decide +kernel
theorem Reg.DMA_ENG_STATUS_block : Reg.block .DMA_ENG_STATUS = .rDMA := Reg.rDMA_blocks.1
theorem Reg.DMA_GRP_PEND_block : Reg.block .DMA_GRP_PEND = .rDMA := Reg.rDMA_blocks.2.1
theorem Reg.DMA_RQ_CFG_block : Reg.block .DMA_RQ_CFG = .rDMA := Reg.rDMA_blocks.2.2.1
theorem Reg.CH_CTL_block : Reg.block .CH_CTL = .rDMA := Reg.rDMA_blocks.2.2.2.1
theorem Reg.CH_STAT_block : Reg.block .CH_STAT = .rDMA := Reg.rDMA_blocks.2.2.2.2.1
theorem Reg.CH_OWN_block : Reg.block .CH_OWN = .rDMA := Reg.rDMA_blocks.2.2.2.2.2.1
theorem Reg.CH_REM0_block : Reg.block .CH_REM0 = .rDMA := Reg.rDMA_blocks.2.2.2.2.2.2.1
theorem Reg.CH_REM12_block : Reg.block .CH_REM12 = .rDMA := Reg.rDMA_blocks.2.2.2.2.2.2.2.1
theorem Reg.CH_BARGE_LO_block : Reg.block .CH_BARGE_LO = .rDMA := Reg.rDMA_blocks.2.2.2.2.2.2.2.2.1
theorem Reg.CH_BARGE_HI_block : Reg.block .CH_BARGE_HI = .rDMA := Reg.rDMA_blocks.2.2.2.2.2.2.2.2.2.1
theorem Reg.CH_XFER_block : Reg.block .CH_XFER = .rDMA := Reg.rDMA_blocks.2.2.2.2.2.2.2.2.2.2
theorem Reg.rBSN_blocks : Reg.block .BSN_STATUS = .rBSN ∧ Reg.block .BSN_FREE = .rBSN ∧ Reg.block .BSN_POOL_ALLOC = .rBSN ∧ Reg.block .BSN_POOL_HELD = .rBSN ∧ Reg.block .BSN_POOL_STAT = .rBSN ∧ Reg.block .BSN_POOL_PEAK = .rBSN := by decide +kernel
theorem Reg.BSN_STATUS_block : Reg.block .BSN_STATUS = .rBSN := Reg.rBSN_blocks.1
theorem Reg.BSN_FREE_block : Reg.block .BSN_FREE = .rBSN := Reg.rBSN_blocks.2.1
theorem Reg.BSN_POOL_ALLOC_block : Reg.block .BSN_POOL_ALLOC = .rBSN := Reg.rBSN_blocks.2.2.1
theorem Reg.BSN_POOL_HELD_block : Reg.block .BSN_POOL_HELD = .rBSN := Reg.rBSN_blocks.2.2.2.1
theorem Reg.BSN_POOL_STAT_block : Reg.block .BSN_POOL_STAT = .rBSN := Reg.rBSN_blocks.2.2.2.2.1
theorem Reg.BSN_POOL_PEAK_block : Reg.block .BSN_POOL_PEAK = .rBSN := Reg.rBSN_blocks.2.2.2.2.2
theorem Reg.rSTL_blocks : Reg.block .STL_BIND = .rSTL ∧ Reg.block .STL_CTL = .rSTL ∧ Reg.block .STL_MGR_STAT = .rSTL ∧ Reg.block .STL_REC_ADDR_LO = .rSTL ∧ Reg.block .STL_REC_ADDR_HI = .rSTL ∧ Reg.block .STL_CNT = .rSTL ∧ Reg.block .STL_MBX_MAP = .rSTL ∧ Reg.block .STL_VIEW_BASE = .rSTL ∧ Reg.block .STL_VIEW_CNT = .rSTL ∧ Reg.block .STL_SRC = .rSTL ∧ Reg.block .STL_WIN_A = .rSTL ∧ Reg.block .STL_WIN_B = .rSTL ∧ Reg.block .STL_T_ID = .rSTL ∧ Reg.block .STL_T_BELL = .rSTL ∧ Reg.block .STL_T_EN_SET = .rSTL ∧ Reg.block .STL_T_EN_CLR = .rSTL ∧ Reg.block .STL_T_PEND = .rSTL ∧ Reg.block .STL_T_PEND_CLR = .rSTL ∧ Reg.block .STL_T_BSN_ALLOC = .rSTL ∧ Reg.block .STL_T_BSN_FREE = .rSTL ∧ Reg.block .STL_T_BSN_HELD = .rSTL ∧ Reg.block .STL_T_LV_CMD = .rSTL ∧ Reg.block .STL_T_LV_STAT = .rSTL ∧ Reg.block .STL_T_LV_DATA = .rSTL := by decide +kernel
theorem Reg.STL_BIND_block : Reg.block .STL_BIND = .rSTL := Reg.rSTL_blocks.1
theorem Reg.STL_CTL_block : Reg.block .STL_CTL = .rSTL := Reg.rSTL_blocks.2.1
theorem Reg.STL_MGR_STAT_block : Reg.block .STL_MGR_STAT = .rSTL := Reg.rSTL_blocks.2.2.1
theorem Reg.STL_REC_ADDR_LO_block : Reg.block .STL_REC_ADDR_LO = .rSTL := Reg.rSTL_blocks.2.2.2.1
theorem Reg.STL_REC_ADDR_HI_block : Reg.block .STL_REC_ADDR_HI = .rSTL := Reg.rSTL_blocks.2.2.2.2.1
theorem Reg.STL_CNT_block : Reg.block .STL_CNT = .rSTL := Reg.rSTL_blocks.2.2.2.2.2.1
theorem Reg.STL_MBX_MAP_block : Reg.block .STL_MBX_MAP = .rSTL := Reg.rSTL_blocks.2.2.2.2.2.2.1
theorem Reg.STL_VIEW_BASE_block : Reg.block .STL_VIEW_BASE = .rSTL := Reg.rSTL_blocks.2.2.2.2.2.2.2.1
theorem Reg.STL_VIEW_CNT_block : Reg.block .STL_VIEW_CNT = .rSTL := Reg.rSTL_blocks.2.2.2.2.2.2.2.2.1
theorem Reg.STL_SRC_block : Reg.block .STL_SRC = .rSTL := Reg.rSTL_blocks.2.2.2.2.2.2.2.2.2.1
theorem Reg.STL_WIN_A_block : Reg.block .STL_WIN_A = .rSTL := Reg.rSTL_blocks.2.2.2.2.2.2.2.2.2.2.1
theorem Reg.STL_WIN_B_block : Reg.block .STL_WIN_B = .rSTL := Reg.rSTL_blocks.2.2.2.2.2.2.2.2.2.2.2.1
theorem Reg.STL_T_ID_block : Reg.block .STL_T_ID = .rSTL := Reg.rSTL_blocks.2.2.2.2.2.2.2.2.2.2.2.2.1
theorem Reg.STL_T_BELL_block : Reg.block .STL_T_BELL = .rSTL := Reg.rSTL_blocks.2.2.2.2.2.2.2.2.2.2.2.2.2.1
theorem Reg.STL_T_EN_SET_block : Reg.block .STL_T_EN_SET = .rSTL := Reg.rSTL_blocks.2.2.2.2.2.2.2.2.2.2.2.2.2.2.1
theorem Reg.STL_T_EN_CLR_block : Reg.block .STL_T_EN_CLR = .rSTL := Reg.rSTL_blocks.2.2.2.2.2.2.2.2.2.2.2.2.2.2.2.1
theorem Reg.STL_T_PEND_block : Reg.block .STL_T_PEND = .rSTL := Reg.rSTL_blocks.2.2.2.2.2.2.2.2.2.2.2.2.2.2.2.2.1
theorem Reg.STL_T_PEND_CLR_block : Reg.block .STL_T_PEND_CLR = .rSTL := Reg.rSTL_blocks.2.2.2.2.2.2.2.2.2.2.2.2.2.2.2.2.2.1
theorem Reg.STL_T_BSN_ALLOC_block : Reg.block .STL_T_BSN_ALLOC = .rSTL := Reg.rSTL_blocks.2.2.2.2.2.2.2.2.2.2.2.2.2.2.2.2.2.2.1
theorem Reg.STL_T_BSN_FREE_block : Reg.block .STL_T_BSN_FREE = .rSTL := Reg.rSTL_blocks.2.2.2.2.2.2.2.2.2.2.2.2.2.2.2.2.2.2.2.1
theorem Reg.STL_T_BSN_HELD_block : Reg.block .STL_T_BSN_HELD = .rSTL := Reg.rSTL_blocks.2.2.2.2.2.2.2.2.2.2.2.2.2.2.2.2.2.2.2.2.1
theorem Reg.STL_T_LV_CMD_block : Reg.block .STL_T_LV_CMD = .rSTL := Reg.rSTL_blocks.2.2.2.2.2.2.2.2.2.2.2.2.2.2.2.2.2.2.2.2.2.1
theorem Reg.STL_T_LV_STAT_block : Reg.block .STL_T_LV_STAT = .rSTL := Reg.rSTL_blocks.2.2.2.2.2.2.2.2.2.2.2.2.2.2.2.2.2.2.2.2.2.2.1
theorem Reg.STL_T_LV_DATA_block : Reg.block .STL_T_LV_DATA = .rSTL := Reg.rSTL_blocks.2.2.2.2.2.2.2.2.2.2.2.2.2.2.2.2.2.2.2.2.2.2.2
theorem Reg.rPWR_blocks : Reg.block .PWR_PKG_CTL = .rPWR ∧ Reg.block .PWR_PKG_STAT = .rPWR ∧ Reg.block .PWR_WAKE_EN = .rPWR ∧ Reg.block .PWR_WAKE_CAUSE = .rPWR ∧ Reg.block .PWR_STBY_CFG = .rPWR ∧ Reg.block .PWR_LAST = .rPWR ∧ Reg.block .PWR_STICKY = .rPWR ∧ Reg.block .PWR_SLUICE_CFG = .rPWR ∧ Reg.block .PWR_UNIT_CTL = .rPWR ∧ Reg.block .PWR_UNIT_STAT = .rPWR ∧ Reg.block .PWR_CORE_CTL = .rPWR ∧ Reg.block .PWR_CORE_STAT = .rPWR ∧ Reg.block .PWR_CORE_RVEC_LO = .rPWR ∧ Reg.block .PWR_CORE_RVEC_HI = .rPWR ∧ Reg.block .PWR_CC_FREQ = .rPWR ∧ Reg.block .PWR_REG_CTL = .rPWR ∧ Reg.block .PWR_REG_STAT = .rPWR := by decide +kernel
theorem Reg.PWR_PKG_CTL_block : Reg.block .PWR_PKG_CTL = .rPWR := Reg.rPWR_blocks.1
theorem Reg.PWR_PKG_STAT_block : Reg.block .PWR_PKG_STAT = .rPWR := Reg.rPWR_blocks.2.1
theorem Reg.PWR_WAKE_EN_block : Reg.block .PWR_WAKE_EN = .rPWR := Reg.rPWR_blocks.2.2.1
theorem Reg.PWR_WAKE_CAUSE_block : Reg.block .PWR_WAKE_CAUSE = .rPWR := Reg.rPWR_blocks.2.2.2.1
theorem Reg.PWR_STBY_CFG_block : Reg.block .PWR_STBY_CFG = .rPWR := Reg.rPWR_blocks.2.2.2.2.1
theorem Reg.PWR_LAST_block : Reg.block .PWR_LAST = .rPWR := Reg.rPWR_blocks.2.2.2.2.2.1
theorem Reg.PWR_STICKY_block : Reg.block .PWR_STICKY = .rPWR := Reg.rPWR_blocks.2.2.2.2.2.2.1
theorem Reg.PWR_SLUICE_CFG_block : Reg.block .PWR_SLUICE_CFG = .rPWR := Reg.rPWR_blocks.2.2.2.2.2.2.2.1
theorem Reg.PWR_UNIT_CTL_block : Reg.block .PWR_UNIT_CTL = .rPWR := Reg.rPWR_blocks.2.2.2.2.2.2.2.2.1
theorem Reg.PWR_UNIT_STAT_block : Reg.block .PWR_UNIT_STAT = .rPWR := Reg.rPWR_blocks.2.2.2.2.2.2.2.2.2.1
theorem Reg.PWR_CORE_CTL_block : Reg.block .PWR_CORE_CTL = .rPWR := Reg.rPWR_blocks.2.2.2.2.2.2.2.2.2.2.1
theorem Reg.PWR_CORE_STAT_block : Reg.block .PWR_CORE_STAT = .rPWR := Reg.rPWR_blocks.2.2.2.2.2.2.2.2.2.2.2.1
theorem Reg.PWR_CORE_RVEC_LO_block : Reg.block .PWR_CORE_RVEC_LO = .rPWR := Reg.rPWR_blocks.2.2.2.2.2.2.2.2.2.2.2.2.1
theorem Reg.PWR_CORE_RVEC_HI_block : Reg.block .PWR_CORE_RVEC_HI = .rPWR := Reg.rPWR_blocks.2.2.2.2.2.2.2.2.2.2.2.2.2.1
theorem Reg.PWR_CC_FREQ_block : Reg.block .PWR_CC_FREQ = .rPWR := Reg.rPWR_blocks.2.2.2.2.2.2.2.2.2.2.2.2.2.2.1
theorem Reg.PWR_REG_CTL_block : Reg.block .PWR_REG_CTL = .rPWR := Reg.rPWR_blocks.2.2.2.2.2.2.2.2.2.2.2.2.2.2.2.1
theorem Reg.PWR_REG_STAT_block : Reg.block .PWR_REG_STAT = .rPWR := Reg.rPWR_blocks.2.2.2.2.2.2.2.2.2.2.2.2.2.2.2.2
theorem Reg.rPORT_blocks : Reg.block .PORT_CTL = .rPORT ∧ Reg.block .PORT_STAT = .rPORT ∧ Reg.block .PORT_EVT = .rPORT ∧ Reg.block .PORT_EVT_EN = .rPORT ∧ Reg.block .PORT_ERR0 = .rPORT ∧ Reg.block .PORT_ERR1 = .rPORT ∧ Reg.block .PORT_RXQ = .rPORT ∧ Reg.block .PORT_TXQ = .rPORT ∧ Reg.block .PORT_LANE_ERR = .rPORT ∧ Reg.block .PORT_RAW_CMD = .rPORT ∧ Reg.block .PORT_RAW_DATA = .rPORT ∧ Reg.block .PORT_RAW_RES = .rPORT := by decide +kernel
theorem Reg.PORT_CTL_block : Reg.block .PORT_CTL = .rPORT := Reg.rPORT_blocks.1
theorem Reg.PORT_STAT_block : Reg.block .PORT_STAT = .rPORT := Reg.rPORT_blocks.2.1
theorem Reg.PORT_EVT_block : Reg.block .PORT_EVT = .rPORT := Reg.rPORT_blocks.2.2.1
theorem Reg.PORT_EVT_EN_block : Reg.block .PORT_EVT_EN = .rPORT := Reg.rPORT_blocks.2.2.2.1
theorem Reg.PORT_ERR0_block : Reg.block .PORT_ERR0 = .rPORT := Reg.rPORT_blocks.2.2.2.2.1
theorem Reg.PORT_ERR1_block : Reg.block .PORT_ERR1 = .rPORT := Reg.rPORT_blocks.2.2.2.2.2.1
theorem Reg.PORT_RXQ_block : Reg.block .PORT_RXQ = .rPORT := Reg.rPORT_blocks.2.2.2.2.2.2.1
theorem Reg.PORT_TXQ_block : Reg.block .PORT_TXQ = .rPORT := Reg.rPORT_blocks.2.2.2.2.2.2.2.1
theorem Reg.PORT_LANE_ERR_block : Reg.block .PORT_LANE_ERR = .rPORT := Reg.rPORT_blocks.2.2.2.2.2.2.2.2.1
theorem Reg.PORT_RAW_CMD_block : Reg.block .PORT_RAW_CMD = .rPORT := Reg.rPORT_blocks.2.2.2.2.2.2.2.2.2.1
theorem Reg.PORT_RAW_DATA_block : Reg.block .PORT_RAW_DATA = .rPORT := Reg.rPORT_blocks.2.2.2.2.2.2.2.2.2.2.1
theorem Reg.PORT_RAW_RES_block : Reg.block .PORT_RAW_RES = .rPORT := Reg.rPORT_blocks.2.2.2.2.2.2.2.2.2.2.2
theorem Reg.rSW_blocks : Reg.block .SW_VLAN = .rSW ∧ Reg.block .SW_CPU_MAC_LO = .rSW ∧ Reg.block .SW_CPU_MAC_HI = .rSW ∧ Reg.block .SW_CPU_IP = .rSW ∧ Reg.block .SW_STORM = .rSW := by decide +kernel
theorem Reg.SW_VLAN_block : Reg.block .SW_VLAN = .rSW := Reg.rSW_blocks.1
theorem Reg.SW_CPU_MAC_LO_block : Reg.block .SW_CPU_MAC_LO = .rSW := Reg.rSW_blocks.2.1
theorem Reg.SW_CPU_MAC_HI_block : Reg.block .SW_CPU_MAC_HI = .rSW := Reg.rSW_blocks.2.2.1
theorem Reg.SW_CPU_IP_block : Reg.block .SW_CPU_IP = .rSW := Reg.rSW_blocks.2.2.2.1
theorem Reg.SW_STORM_block : Reg.block .SW_STORM = .rSW := Reg.rSW_blocks.2.2.2.2
theorem Reg.rGF_blocks : Reg.block .GPIO_IN = .rGF ∧ Reg.block .GPIO_OUT = .rGF ∧ Reg.block .FAN_PWM = .rGF ∧ Reg.block .FAN_STAT = .rGF ∧ Reg.block .FAN_WDT = .rGF := by decide +kernel
theorem Reg.GPIO_IN_block : Reg.block .GPIO_IN = .rGF := Reg.rGF_blocks.1
theorem Reg.GPIO_OUT_block : Reg.block .GPIO_OUT = .rGF := Reg.rGF_blocks.2.1
theorem Reg.FAN_PWM_block : Reg.block .FAN_PWM = .rGF := Reg.rGF_blocks.2.2.1
theorem Reg.FAN_STAT_block : Reg.block .FAN_STAT = .rGF := Reg.rGF_blocks.2.2.2.1
theorem Reg.FAN_WDT_block : Reg.block .FAN_WDT = .rGF := Reg.rGF_blocks.2.2.2.2
theorem Reg.rMC_blocks : Reg.block .MC_STATUS = .rMC ∧ Reg.block .MC_ECC = .rMC ∧ Reg.block .MC_ERR_ADDR_LO = .rMC ∧ Reg.block .MC_ERR_ADDR_HI = .rMC := by decide +kernel
theorem Reg.MC_STATUS_block : Reg.block .MC_STATUS = .rMC := Reg.rMC_blocks.1
theorem Reg.MC_ECC_block : Reg.block .MC_ECC = .rMC := Reg.rMC_blocks.2.1
theorem Reg.MC_ERR_ADDR_LO_block : Reg.block .MC_ERR_ADDR_LO = .rMC := Reg.rMC_blocks.2.2.1
theorem Reg.MC_ERR_ADDR_HI_block : Reg.block .MC_ERR_ADDR_HI = .rMC := Reg.rMC_blocks.2.2.2
theorem Reg.rTRC_blocks : Reg.block .TRC_CTL = .rTRC ∧ Reg.block .TRC_STATUS = .rTRC ∧ Reg.block .TRC_LOST = .rTRC ∧ Reg.block .TRC_BUF_BASE_LO = .rTRC ∧ Reg.block .TRC_BUF_BASE_HI = .rTRC ∧ Reg.block .TRC_BUF_SIZE = .rTRC ∧ Reg.block .TRC_BUF_WPTR = .rTRC ∧ Reg.block .TRC_DBG_UNLOCK = .rTRC ∧ Reg.block .TRC_DBG_STATUS = .rTRC ∧ Reg.block .DBG_CORE_CTL = .rTRC ∧ Reg.block .DBG_CORE_STAT = .rTRC ∧ Reg.block .DBG_CORE_SEL = .rTRC ∧ Reg.block .DBG_CORE_DATA_LO = .rTRC ∧ Reg.block .DBG_CORE_DATA_HI = .rTRC ∧ Reg.block .DBG_LE_CTL = .rTRC ∧ Reg.block .DBG_LE_STAT = .rTRC ∧ Reg.block .DBG_LE_SEL = .rTRC ∧ Reg.block .DBG_LE_DATA = .rTRC := by decide +kernel
theorem Reg.TRC_CTL_block : Reg.block .TRC_CTL = .rTRC := Reg.rTRC_blocks.1
theorem Reg.TRC_STATUS_block : Reg.block .TRC_STATUS = .rTRC := Reg.rTRC_blocks.2.1
theorem Reg.TRC_LOST_block : Reg.block .TRC_LOST = .rTRC := Reg.rTRC_blocks.2.2.1
theorem Reg.TRC_BUF_BASE_LO_block : Reg.block .TRC_BUF_BASE_LO = .rTRC := Reg.rTRC_blocks.2.2.2.1
theorem Reg.TRC_BUF_BASE_HI_block : Reg.block .TRC_BUF_BASE_HI = .rTRC := Reg.rTRC_blocks.2.2.2.2.1
theorem Reg.TRC_BUF_SIZE_block : Reg.block .TRC_BUF_SIZE = .rTRC := Reg.rTRC_blocks.2.2.2.2.2.1
theorem Reg.TRC_BUF_WPTR_block : Reg.block .TRC_BUF_WPTR = .rTRC := Reg.rTRC_blocks.2.2.2.2.2.2.1
theorem Reg.TRC_DBG_UNLOCK_block : Reg.block .TRC_DBG_UNLOCK = .rTRC := Reg.rTRC_blocks.2.2.2.2.2.2.2.1
theorem Reg.TRC_DBG_STATUS_block : Reg.block .TRC_DBG_STATUS = .rTRC := Reg.rTRC_blocks.2.2.2.2.2.2.2.2.1
theorem Reg.DBG_CORE_CTL_block : Reg.block .DBG_CORE_CTL = .rTRC := Reg.rTRC_blocks.2.2.2.2.2.2.2.2.2.1
theorem Reg.DBG_CORE_STAT_block : Reg.block .DBG_CORE_STAT = .rTRC := Reg.rTRC_blocks.2.2.2.2.2.2.2.2.2.2.1
theorem Reg.DBG_CORE_SEL_block : Reg.block .DBG_CORE_SEL = .rTRC := Reg.rTRC_blocks.2.2.2.2.2.2.2.2.2.2.2.1
theorem Reg.DBG_CORE_DATA_LO_block : Reg.block .DBG_CORE_DATA_LO = .rTRC := Reg.rTRC_blocks.2.2.2.2.2.2.2.2.2.2.2.2.1
theorem Reg.DBG_CORE_DATA_HI_block : Reg.block .DBG_CORE_DATA_HI = .rTRC := Reg.rTRC_blocks.2.2.2.2.2.2.2.2.2.2.2.2.2.1
theorem Reg.DBG_LE_CTL_block : Reg.block .DBG_LE_CTL = .rTRC := Reg.rTRC_blocks.2.2.2.2.2.2.2.2.2.2.2.2.2.2.1
theorem Reg.DBG_LE_STAT_block : Reg.block .DBG_LE_STAT = .rTRC := Reg.rTRC_blocks.2.2.2.2.2.2.2.2.2.2.2.2.2.2.2.1
theorem Reg.DBG_LE_SEL_block : Reg.block .DBG_LE_SEL = .rTRC := Reg.rTRC_blocks.2.2.2.2.2.2.2.2.2.2.2.2.2.2.2.2.1
theorem Reg.DBG_LE_DATA_block : Reg.block .DBG_LE_DATA = .rTRC := Reg.rTRC_blocks.2.2.2.2.2.2.2.2.2.2.2.2.2.2.2.2.2

end Sys2Proof.Machine
end

