-- ==== Sys2Proof/Laws/Tables.lean ====
section
/-!
SUPPORT. Sparse tables and the memory list: reading after writing, and the canonical form.
-/
namespace Sys2Proof

@[simp] theorem tget_nil {α : Type} (d : α) (i : Nat) : tget d [] i = d := rfl

theorem tget_tset {α : Type} (d v : α) (t : Tab α) (i k : Nat) : tget d (tset t i v) k = if i = k then v else tget d t k := by
  induction t with
  | nil => simp [tset, tget]
  | cons e r ih =>
    obtain ⟨j, w⟩ := e
    simp only [tset]
    by_cases hj : j = i
    · subst hj; by_cases hk : j = k <;> simp [tget, hk]
    · by_cases hlt : i < j
      · simp only [hj, hlt, if_false, if_true, tget]
      · simp only [hj, hlt, if_false, tget, ih]
        by_cases hjk : j = k
        · subst hjk; simp [Ne.symm hj]
        · simp [hjk]

@[simp] theorem tget_tset_same {α : Type} (d v : α) (t : Tab α) (i : Nat) : tget d (tset t i v) i = v := by simp [tget_tset]

theorem tget_tset_ne {α : Type} (d v : α) (t : Tab α) {i k : Nat} (h : i ≠ k) : tget d (tset t i v) k = tget d t k := by simp [tget_tset, h]

theorem tget_of_tget? {α : Type} (d : α) (t : Tab α) (i : Nat) : tget d t i = (tget? t i).getD d := by
  induction t with
  | nil => rfl
  | cons e r ih => obtain ⟨k, v⟩ := e; simp only [tget, tget?]; split <;> simp_all

theorem tget_mem {α : Type} (d : α) (t : Tab α) (i : Nat) : tget d t i = d ∨ (i, tget d t i) ∈ t := by
  induction t with
  | nil => simp
  | cons e r ih =>
    obtain ⟨k, v⟩ := e
    simp only [tget]
    split
    · next h => subst h; simp
    · rcases ih with h | h <;> simp [h]

/-- What holds of the default and of every entry holds of every reading. -/
theorem tget_all {α : Type} {P : α → Prop} {d : α} (hd : P d) {t : Tab α} (h : ∀ e ∈ t, P e.2) (i : Nat) : P (tget d t i) := by
  rcases tget_mem d t i with e | e
  · rw [e]; exact hd
  · exact h _ e

theorem tget_filter {α : Type} (d : α) (t : Tab α) (p : Nat → Bool) (i : Nat) :
    tget d (t.filter (fun e => p e.1)) i = if p i then tget d t i else d := by
  induction t with
  | nil => simp
  | cons e r ih =>
    obtain ⟨k, v⟩ := e
    simp only [List.filter_cons, tget]
    by_cases hk : k = i
    · subst hk; by_cases hp : p k <;> simp [hp, tget, ih]
    · by_cases hp : p k <;> simp [hp, tget, hk, ih]

theorem tget_tdel {α : Type} (d : α) (t : Tab α) (i k : Nat) : tget d (tdel t i) k = if i = k then d else tget d t k := by
  have := tget_filter d t (fun x => decide (x ≠ i)) k
  simp only [tdel]
  rw [this]
  by_cases h : i = k
  · subst h; simp
  · have h' : k ≠ i := fun e => h e.symm
    simp [h, h']

namespace Machine

/-! ### Memory -/

theorem memWf_mono {lo lo' : Nat} (h : lo' ≤ lo) : ∀ {m : List Host.Cell}, memWfFrom lo m = true → memWfFrom lo' m = true
  | [], _ => rfl
  | (k, v) :: r, hm => by
    simp only [memWfFrom, Bool.and_eq_true, decide_eq_true_eq] at *
    exact ⟨⟨by omega, hm.1.2⟩, hm.2⟩

theorem memSet_wf (a : Nat) (v : Byte) : ∀ {lo : Nat} {m : List Host.Cell}, lo ≤ a → memWfFrom lo m = true → memWfFrom lo (memSet m a v) = true
  | lo, [], ha, _ => by by_cases hv : v = 0#8 <;> simp [memSet, hv, memWfFrom, ha]
  | lo, (k, w) :: r, ha, hm => by
    simp only [memWfFrom, Bool.and_eq_true, decide_eq_true_eq] at hm
    obtain ⟨⟨h1, h2⟩, h3⟩ := hm
    simp only [memSet]
    by_cases hk : k = a
    · subst hk
      by_cases hv : v = 0#8
      · simp [hv]; exact memWf_mono (by omega) h3
      · simp [hv, memWfFrom, h1, h3]
    · by_cases hl : a < k
      · by_cases hv : v = 0#8
        · simp [hk, hl, hv, memWfFrom, h1, h3]; simpa using h2
        · have hv' : ¬(v = 0) := hv
          simp only [hk, hl, if_true, if_false, if_neg hv', memWfFrom, Bool.and_eq_true, decide_eq_true_eq]
          exact ⟨⟨ha, by simpa using hv⟩, ⟨hl, h2⟩, h3⟩
      · simp only [hk, hl, if_false, memWfFrom, Bool.and_eq_true, decide_eq_true_eq]
        exact ⟨⟨h1, h2⟩, memSet_wf a v (by omega) h3⟩

/-- A write of bytes keeps the canonical form. -/
theorem memPut_wf : ∀ (b : Bytes) (a : Nat) {m : List Host.Cell}, Memory.wf m = true → Memory.wf (memPut m a b) = true
  | [], _, _, h => h
  | v :: r, a, _, h => memPut_wf r (a + 1) (memSet_wf a v (Nat.zero_le a) h)

theorem memFilter_wf (p : Host.Cell → Bool) : ∀ {lo : Nat} {m : List Host.Cell}, memWfFrom lo m = true → memWfFrom lo (m.filter p) = true
  | _, [], _ => rfl
  | lo, (k, v) :: r, h => by
    simp only [memWfFrom, Bool.and_eq_true, decide_eq_true_eq] at h
    simp only [List.filter_cons]
    split
    · simp only [memWfFrom, Bool.and_eq_true, decide_eq_true_eq]
      exact ⟨h.1, memFilter_wf p h.2⟩
    · exact memWf_mono (by omega) (memFilter_wf p h.2)

/-- Below its lower bound a canonical memory reads 0. -/
theorem memGet_below {lo : Nat} : ∀ {m : List Host.Cell}, memWfFrom lo m = true → ∀ {a : Nat}, a < lo → memGet m a = 0
  | [], _, _, _ => rfl
  | (k, v) :: r, h, a, ha => by
    simp only [memWfFrom, Bool.and_eq_true, decide_eq_true_eq] at h
    have hk : k ≠ a := by omega
    simp only [memGet, hk, if_false]
    exact memGet_below h.2 (by omega)

/-- Reading after writing one byte. -/
theorem memGet_memSet (a : Nat) (v : Byte) : ∀ {lo : Nat} {m : List Host.Cell}, memWfFrom lo m = true → ∀ k, memGet (memSet m a v) k = if a = k then v else memGet m k
  | lo, [], _, k => by
    by_cases hv : v = 0#8
    · subst hv; by_cases h : a = k <;> simp [memSet, memGet, h]
    · by_cases h : a = k <;> simp [memSet, memGet, hv, h]
  | lo, (j, w) :: r, hm, k => by
    simp only [memWfFrom, Bool.and_eq_true, decide_eq_true_eq] at hm
    obtain ⟨⟨h1, h2⟩, h3⟩ := hm
    simp only [memSet]
    by_cases hj : j = a
    · subst hj
      by_cases hv : v = 0#8
      · subst hv
        by_cases h : j = k
        · subst h; simp; exact memGet_below h3 (by omega)
        · simp [memGet, h]
      · by_cases h : j = k <;> simp [hv, memGet, h]
    · by_cases hl : a < j
      · by_cases hv : v = 0#8
        · subst hv
          by_cases h : a = k
          · subst h
            have : memGet r a = 0 := memGet_below h3 (by omega)
            simp [hj, hl, memGet, this]
          · simp [hj, hl, h]
        · simp only [hj, hl, if_false, if_true]
          have hv' : ¬(v = 0) := hv
          by_cases h : a = k <;> simp [memGet, hv, h]
      · simp only [hj, hl, if_false, memGet, memGet_memSet a v h3 k]
        by_cases hjk : j = k
        · subst hjk; simp [Ne.symm hj]
        · simp [hjk]

/-- Reading after writing bytes: the byte written, or the byte before. -/
theorem memGet_memPut : ∀ (b : Bytes) (a : Nat) {m : List Host.Cell}, Memory.wf m = true → ∀ k,
    memGet (memPut m a b) k = if a ≤ k ∧ k < a + b.length then b.getD (k - a) 0 else memGet m k
  | [], a, m, _, k => by rw [if_neg (by simp only [List.length_nil]; omega)]; rfl
  | v :: r, a, m, h, k => by
    have h' := memSet_wf a v (Nat.zero_le a) h
    simp only [memPut]
    rw [memGet_memPut r (a + 1) h' k, memGet_memSet a v h k]
    by_cases hk : a = k
    · subst hk
      have : ¬(a + 1 ≤ a ∧ a < a + 1 + r.length) := by omega
      simp only [this, if_false, if_true, Nat.sub_self]
      simp
    · by_cases hr : a + 1 ≤ k ∧ k < a + 1 + r.length
      · have e : k - a = (k - (a + 1)) + 1 := by omega
        have : a ≤ k ∧ k < a + (v :: r).length := by simp; omega
        simp only [hr, and_self, if_true, this, e, List.getD_cons_succ]
      · have : ¬(a ≤ k ∧ k < a + (v :: r).length) := by simp; omega
        simp only [hr, hk, this, if_false]

end Machine
end Sys2Proof
end

