-- ==== Sys2Proof/Laws/Kept.lean ====
section
/-!
SUPPORT. What every operation keeps: the relation Kept of a state and a later one, and its rules for the record updates and loops that the operations are built from.
-/
namespace Sys2Proof.Machine

/-- Fuses stay, and counters never fall. -/
structure KeepOk (k k' : Keep) : Prop where
  fuses : k'.fuses = k.fuses
  ctr : ∀ i, k.ctr i ≤ k'.ctr i

/-- Every core stays within its capacities. -/
def CoreOk (c c' : Tab Core) : Prop := (∀ n, (tget Core.init c n).inCap) → ∀ n, (tget Core.init c' n).inCap

/-- Every mailbox direction stays within 8 words. -/
def Mailbox.inCap (x : Mailbox) : Prop := x.ab.q.length ≤ 8 ∧ x.ba.q.length ≤ 8
def MbxOk (x x' : Tab Mailbox) : Prop := (∀ m, (tget Mailbox.init x m).inCap) → ∀ m, (tget Mailbox.init x' m).inCap

/-- From s to t: the queue stays, only pieces of the mask m differ, and every invariant of Safety.lean is kept. -/
structure Kept (m : Nat) (s t : State) : Prop where
  queue : t.pending = s.pending
  free : s.free ≤ t.free
  frame : ∀ p : Piece, m.testBit p.ctorIdx = false → p.same s t
  mem : Memory.wf s.mem = true → Memory.wf t.mem = true
  keep : KeepOk s.keep t.keep
  core : CoreOk s.core t.core
  mbx : MbxOk s.mbx t.mbx

/-- One mask lies within another. -/
abbrev Sub (a b : Nat) : Prop := a &&& b = a

theorem Sub.bit {a b k : Nat} (h : Sub a b) (hk : a.testBit k = true) : b.testBit k = true := by
  have := congrArg (fun x => x.testBit k) h
  simp only [Nat.testBit_and, hk, Bool.true_and] at this
  exact this

theorem Sub.trans {a b c : Nat} (h : Sub a b) (k : Sub b c) : Sub a c := by
  apply Nat.eq_of_testBit_eq
  intro i
  by_cases hi : a.testBit i = true
  · simp [Nat.testBit_and, hi, k.bit (h.bit hi)]
  · simp [Nat.testBit_and, Bool.eq_false_iff.mpr hi]

theorem KeepOk.refl (k : Keep) : KeepOk k k := ⟨rfl, fun _ => Nat.le_refl _⟩
theorem KeepOk.trans {a b c : Keep} (h : KeepOk a b) (k : KeepOk b c) : KeepOk a c := ⟨k.fuses.trans h.fuses, fun i => Nat.le_trans (h.ctr i) (k.ctr i)⟩

/-- An update of other fields of the keep. -/
theorem KeepOk.same {k k' : Keep} (h : k'.fuses = k.fuses) (h2 : k'.cnt = k.cnt) : KeepOk k k' := ⟨h, fun i => by simp [Keep.ctr, h2]⟩

theorem KeepOk.setCtr {k : Keep} {i v : Nat} (h : k.ctr i ≤ v) : KeepOk k (k.setCtr i v) :=
  ⟨rfl, fun j => by
    show tget 0 k.cnt j ≤ tget 0 (tset k.cnt i v) j
    rw [tget_tset]
    split
    · next e => subst e; exact h
    · exact Nat.le_refl _⟩

theorem Piece.same_refl (p : Piece) (s : State) : p.same s s := by cases p <;> simp [Piece.same]
theorem Piece.same_trans {p : Piece} {s t u : State} (h : p.same s t) (k : p.same t u) : p.same s u := by
  cases p <;> simp only [Piece.same] at * <;> first | exact k.trans h | exact ⟨k.1.trans h.1, k.2.trans h.2⟩ | exact fun r i e => (k r i e).trans (h r i e)

theorem Kept.refl (m : Nat) (s : State) : Kept m s s :=
  ⟨rfl, Nat.le_refl _, fun p _ => p.same_refl s, id, KeepOk.refl _, id, id⟩

theorem Kept.trans {m : Nat} {s t u : State} (h : Kept m s t) (k : Kept m t u) : Kept m s u :=
  ⟨k.queue.trans h.queue, Nat.le_trans h.free k.free, fun p hp => Piece.same_trans (h.frame p hp) (k.frame p hp), k.mem ∘ h.mem, h.keep.trans k.keep,
    k.core ∘ h.core, k.mbx ∘ h.mbx⟩

theorem Kept.inv {m : Nat} {s t : State} (h : Kept m s t) (hs : s.Inv) : t.Inv where
  mem := h.mem hs.mem
  core := h.core hs.core
  mbx := fun i ba => by
    have := h.mbx (fun k => ⟨by simpa [State.mbxWords] using hs.mbx k false, by simpa [State.mbxWords] using hs.mbx k true⟩) i
    cases ba <;> simp [State.mbxWords, this.1, this.2]

theorem Kept.cond {m : Nat} {s0 a b : State} {c : Prop} {d : Decidable c} (h : c → Kept m s0 a) (k : ¬c → Kept m s0 b) : Kept m s0 (@ite State c d a b) := by
  by_cases hc : c
  · simp only [hc, if_true]; exact h hc
  · simp only [hc, if_false]; exact k hc

theorem Kept.forEach {α : Type} {m : Nat} {s0 : State} {f : State → α → State} (hf : ∀ s a, Kept m s0 s → Kept m s0 (f s a)) :
    ∀ {l : List α} {s : State}, Kept m s0 s → Kept m s0 (forEach l f s)
  | [], _, h => h
  | a :: r, s, h => Kept.forEach hf (l := r) (hf s a h)

/-- A record update of the state: each field stays, or its piece is in the mask. -/
theorem Kept.upd {m : Nat} {s0 s : State} (h : Kept m s0 s) {pending' : List Instr} {free' : Nat} {regs' : Tab (Tab W32)} {mem' : List Host.Cell} {reply' : Reply1} {unit' : Tab UnitSt} {img' : Img} {keep' : Keep} {tick' : Tick} {pins' : Pins} {port' : Tab Port} {stage' : Tab Stage} {le' : Tab LoopEngine} {copyEcc' : CopyEcc} {lc' : Tab LoopCluster} {rail' : Tab Rail} {seq' : Tab SeqStep} {adc' : Adc} {hint' : Tab Hint} {ldg' : Ledger} {cmp' : Companion} {core' : Tab Core} {l2' : Tab (Tab Mesi)} {poison' : List Nat} {evd' : Evd} {mbx' : Tab Mailbox} {dma' : Dma} {basin' : Tab Granule} {stall' : Tab Stall} {pwr' : Pwr} {ext' : Tab ExtPort} {sw' : Switch} {fans' : Fans} {trc' : Trace}
    (hpending : pending' = s.pending)
    (hfree : s.free ≤ free')
    (hregs : ∀ r : Reg, m.testBit r.block.ctorIdx = false → tget [] regs' r.ctorIdx = tget [] s.regs r.ctorIdx)
    (hmem : (m.testBit 1 = true ∧ (Memory.wf s.mem = true → Memory.wf mem' = true)) ∨ mem' = s.mem)
    (hreply : m.testBit 0 = true ∨ reply' = s.reply)
    (hunit : m.testBit 2 = true ∨ unit' = s.unit)
    (himg : m.testBit 3 = true ∨ img' = s.img)
    (hkeep : (m.testBit 4 = true ∧ KeepOk s.keep keep') ∨ keep' = s.keep)
    (htick : m.testBit 5 = true ∨ tick' = s.tick)
    (hpins : m.testBit 6 = true ∨ pins' = s.pins)
    (hport : m.testBit 7 = true ∨ port' = s.port)
    (hstage : m.testBit 8 = true ∨ stage' = s.stage)
    (hle : m.testBit 9 = true ∨ le' = s.le)
    (hcopyEcc : m.testBit 9 = true ∨ copyEcc' = s.copyEcc)
    (hlc : m.testBit 10 = true ∨ lc' = s.lc)
    (hrail : m.testBit 11 = true ∨ rail' = s.rail)
    (hseq : m.testBit 12 = true ∨ seq' = s.seq)
    (hadc : m.testBit 13 = true ∨ adc' = s.adc)
    (hhint : m.testBit 14 = true ∨ hint' = s.hint)
    (hldg : m.testBit 15 = true ∨ ldg' = s.ldg)
    (hcmp : m.testBit 16 = true ∨ cmp' = s.cmp)
    (hcore : (m.testBit 17 = true ∧ CoreOk s.core core') ∨ core' = s.core)
    (hl2 : m.testBit 17 = true ∨ l2' = s.l2)
    (hpoison : m.testBit 18 = true ∨ poison' = s.poison)
    (hevd : m.testBit 19 = true ∨ evd' = s.evd)
    (hmbx : (m.testBit 20 = true ∧ MbxOk s.mbx mbx') ∨ mbx' = s.mbx)
    (hdma : m.testBit 21 = true ∨ dma' = s.dma)
    (hbasin : m.testBit 22 = true ∨ basin' = s.basin)
    (hstall : m.testBit 23 = true ∨ stall' = s.stall)
    (hpwr : m.testBit 24 = true ∨ pwr' = s.pwr)
    (hext : m.testBit 25 = true ∨ ext' = s.ext)
    (hsw : m.testBit 26 = true ∨ sw' = s.sw)
    (hfans : m.testBit 27 = true ∨ fans' = s.fans)
    (htrc : m.testBit 28 = true ∨ trc' = s.trc)
    : Kept m s0 { pending := pending', free := free', regs := regs', mem := mem', reply := reply', unit := unit', img := img', keep := keep', tick := tick', pins := pins', port := port', stage := stage', le := le', copyEcc := copyEcc', lc := lc', rail := rail', seq := seq', adc := adc', hint := hint', ldg := ldg', cmp := cmp', core := core', l2 := l2', poison := poison', evd := evd', mbx := mbx', dma := dma', basin := basin', stall := stall', pwr := pwr', ext := ext', sw := sw', fans := fans', trc := trc' } := by
  refine h.trans ⟨hpending, hfree, fun p hp => ?_, ?_, ?_, ?_, ?_⟩
  · cases p
    · exact hreply.resolve_left (fun e => by simp [Piece.ctorIdx] at hp; simp [hp] at e)
    · exact hmem.resolve_left (fun e => by simp [Piece.ctorIdx] at hp; simp [hp] at e)
    · exact hunit.resolve_left (fun e => by simp [Piece.ctorIdx] at hp; simp [hp] at e)
    · exact himg.resolve_left (fun e => by simp [Piece.ctorIdx] at hp; simp [hp] at e)
    · exact hkeep.resolve_left (fun e => by simp [Piece.ctorIdx] at hp; simp [hp] at e)
    · exact htick.resolve_left (fun e => by simp [Piece.ctorIdx] at hp; simp [hp] at e)
    · exact hpins.resolve_left (fun e => by simp [Piece.ctorIdx] at hp; simp [hp] at e)
    · exact hport.resolve_left (fun e => by simp [Piece.ctorIdx] at hp; simp [hp] at e)
    · exact hstage.resolve_left (fun e => by simp [Piece.ctorIdx] at hp; simp [hp] at e)
    · exact ⟨hle.resolve_left (fun e => by simp [Piece.ctorIdx] at hp; simp [hp] at e), hcopyEcc.resolve_left (fun e => by simp [Piece.ctorIdx] at hp; simp [hp] at e)⟩
    · exact hlc.resolve_left (fun e => by simp [Piece.ctorIdx] at hp; simp [hp] at e)
    · exact hrail.resolve_left (fun e => by simp [Piece.ctorIdx] at hp; simp [hp] at e)
    · exact hseq.resolve_left (fun e => by simp [Piece.ctorIdx] at hp; simp [hp] at e)
    · exact hadc.resolve_left (fun e => by simp [Piece.ctorIdx] at hp; simp [hp] at e)
    · exact hhint.resolve_left (fun e => by simp [Piece.ctorIdx] at hp; simp [hp] at e)
    · exact hldg.resolve_left (fun e => by simp [Piece.ctorIdx] at hp; simp [hp] at e)
    · exact hcmp.resolve_left (fun e => by simp [Piece.ctorIdx] at hp; simp [hp] at e)
    · exact ⟨hcore.resolve_left (fun e => by simp [Piece.ctorIdx] at hp; simp [hp] at e), hl2.resolve_left (fun e => by simp [Piece.ctorIdx] at hp; simp [hp] at e)⟩
    · exact hpoison.resolve_left (fun e => by simp [Piece.ctorIdx] at hp; simp [hp] at e)
    · exact hevd.resolve_left (fun e => by simp [Piece.ctorIdx] at hp; simp [hp] at e)
    · exact hmbx.resolve_left (fun e => by simp [Piece.ctorIdx] at hp; simp [hp] at e)
    · exact hdma.resolve_left (fun e => by simp [Piece.ctorIdx] at hp; simp [hp] at e)
    · exact hbasin.resolve_left (fun e => by simp [Piece.ctorIdx] at hp; simp [hp] at e)
    · exact hstall.resolve_left (fun e => by simp [Piece.ctorIdx] at hp; simp [hp] at e)
    · exact hpwr.resolve_left (fun e => by simp [Piece.ctorIdx] at hp; simp [hp] at e)
    · exact hext.resolve_left (fun e => by simp [Piece.ctorIdx] at hp; simp [hp] at e)
    · exact hsw.resolve_left (fun e => by simp [Piece.ctorIdx] at hp; simp [hp] at e)
    · exact hfans.resolve_left (fun e => by simp [Piece.ctorIdx] at hp; simp [hp] at e)
    · exact htrc.resolve_left (fun e => by simp [Piece.ctorIdx] at hp; simp [hp] at e)
    · intro r i e; simp only [State.rd, hregs r (by rw [e]; exact hp)]
    · intro r i e; simp only [State.rd, hregs r (by rw [e]; exact hp)]
    · intro r i e; simp only [State.rd, hregs r (by rw [e]; exact hp)]
    · intro r i e; simp only [State.rd, hregs r (by rw [e]; exact hp)]
    · intro r i e; simp only [State.rd, hregs r (by rw [e]; exact hp)]
    · intro r i e; simp only [State.rd, hregs r (by rw [e]; exact hp)]
    · intro r i e; simp only [State.rd, hregs r (by rw [e]; exact hp)]
    · intro r i e; simp only [State.rd, hregs r (by rw [e]; exact hp)]
    · intro r i e; simp only [State.rd, hregs r (by rw [e]; exact hp)]
    · intro r i e; simp only [State.rd, hregs r (by rw [e]; exact hp)]
    · intro r i e; simp only [State.rd, hregs r (by rw [e]; exact hp)]
    · intro r i e; simp only [State.rd, hregs r (by rw [e]; exact hp)]
    · intro r i e; simp only [State.rd, hregs r (by rw [e]; exact hp)]
    · intro r i e; simp only [State.rd, hregs r (by rw [e]; exact hp)]
    · intro r i e; simp only [State.rd, hregs r (by rw [e]; exact hp)]
    · intro r i e; simp only [State.rd, hregs r (by rw [e]; exact hp)]
    · intro r i e; simp only [State.rd, hregs r (by rw [e]; exact hp)]
    · intro r i e; simp only [State.rd, hregs r (by rw [e]; exact hp)]
    · intro r i e; simp only [State.rd, hregs r (by rw [e]; exact hp)]
    · intro r i e; simp only [State.rd, hregs r (by rw [e]; exact hp)]
  · rcases hmem with e | e
    · exact e.2
    · intro w; rw [e]; exact w
  · rcases hkeep with e | e
    · exact e.2
    · show KeepOk s.keep keep'; rw [e]; exact KeepOk.refl _
  · rcases hcore with e | e
    · exact e.2
    · show CoreOk s.core core'; rw [e]; exact id
  · rcases hmbx with e | e
    · exact e.2
    · show MbxOk s.mbx mbx'; rw [e]; exact id

/-! ### The rules for the named updates of Ops.lean -/

/-! One field changes. -/
theorem Kept.upd_mem {m : Nat} {s0 s : State} {v : List Host.Cell} (hp : m.testBit 1 = true ∧ (Memory.wf s.mem = true → Memory.wf v = true)) (h : Kept m s0 s) : Kept m s0 { s with mem := v } :=
  h.upd rfl (Nat.le_refl _) (fun _ _ => rfl) (.inl hp) (.inr rfl) (.inr rfl) (.inr rfl) (.inr rfl) (.inr rfl) (.inr rfl) (.inr rfl) (.inr rfl) (.inr rfl) (.inr rfl) (.inr rfl) (.inr rfl) (.inr rfl) (.inr rfl) (.inr rfl) (.inr rfl) (.inr rfl) (.inr rfl) (.inr rfl) (.inr rfl) (.inr rfl) (.inr rfl) (.inr rfl) (.inr rfl) (.inr rfl) (.inr rfl) (.inr rfl) (.inr rfl) (.inr rfl) (.inr rfl)
theorem Kept.upd_reply {m : Nat} {s0 s : State} {v : Reply1} (hp : m.testBit 0 = true) (h : Kept m s0 s) : Kept m s0 { s with reply := v } :=
  h.upd rfl (Nat.le_refl _) (fun _ _ => rfl) (.inr rfl) (.inl hp) (.inr rfl) (.inr rfl) (.inr rfl) (.inr rfl) (.inr rfl) (.inr rfl) (.inr rfl) (.inr rfl) (.inr rfl) (.inr rfl) (.inr rfl) (.inr rfl) (.inr rfl) (.inr rfl) (.inr rfl) (.inr rfl) (.inr rfl) (.inr rfl) (.inr rfl) (.inr rfl) (.inr rfl) (.inr rfl) (.inr rfl) (.inr rfl) (.inr rfl) (.inr rfl) (.inr rfl) (.inr rfl) (.inr rfl)
theorem Kept.upd_unit {m : Nat} {s0 s : State} {v : Tab UnitSt} (hp : m.testBit 2 = true) (h : Kept m s0 s) : Kept m s0 { s with unit := v } :=
  h.upd rfl (Nat.le_refl _) (fun _ _ => rfl) (.inr rfl) (.inr rfl) (.inl hp) (.inr rfl) (.inr rfl) (.inr rfl) (.inr rfl) (.inr rfl) (.inr rfl) (.inr rfl) (.inr rfl) (.inr rfl) (.inr rfl) (.inr rfl) (.inr rfl) (.inr rfl) (.inr rfl) (.inr rfl) (.inr rfl) (.inr rfl) (.inr rfl) (.inr rfl) (.inr rfl) (.inr rfl) (.inr rfl) (.inr rfl) (.inr rfl) (.inr rfl) (.inr rfl) (.inr rfl) (.inr rfl)
theorem Kept.upd_img {m : Nat} {s0 s : State} {v : Img} (hp : m.testBit 3 = true) (h : Kept m s0 s) : Kept m s0 { s with img := v } :=
  h.upd rfl (Nat.le_refl _) (fun _ _ => rfl) (.inr rfl) (.inr rfl) (.inr rfl) (.inl hp) (.inr rfl) (.inr rfl) (.inr rfl) (.inr rfl) (.inr rfl) (.inr rfl) (.inr rfl) (.inr rfl) (.inr rfl) (.inr rfl) (.inr rfl) (.inr rfl) (.inr rfl) (.inr rfl) (.inr rfl) (.inr rfl) (.inr rfl) (.inr rfl) (.inr rfl) (.inr rfl) (.inr rfl) (.inr rfl) (.inr rfl) (.inr rfl) (.inr rfl) (.inr rfl) (.inr rfl)
theorem Kept.upd_keep {m : Nat} {s0 s : State} {v : Keep} (hp : m.testBit 4 = true ∧ KeepOk s.keep v) (h : Kept m s0 s) : Kept m s0 { s with keep := v } :=
  h.upd rfl (Nat.le_refl _) (fun _ _ => rfl) (.inr rfl) (.inr rfl) (.inr rfl) (.inr rfl) (.inl hp) (.inr rfl) (.inr rfl) (.inr rfl) (.inr rfl) (.inr rfl) (.inr rfl) (.inr rfl) (.inr rfl) (.inr rfl) (.inr rfl) (.inr rfl) (.inr rfl) (.inr rfl) (.inr rfl) (.inr rfl) (.inr rfl) (.inr rfl) (.inr rfl) (.inr rfl) (.inr rfl) (.inr rfl) (.inr rfl) (.inr rfl) (.inr rfl) (.inr rfl) (.inr rfl)
theorem Kept.upd_tick {m : Nat} {s0 s : State} {v : Tick} (hp : m.testBit 5 = true) (h : Kept m s0 s) : Kept m s0 { s with tick := v } :=
  h.upd rfl (Nat.le_refl _) (fun _ _ => rfl) (.inr rfl) (.inr rfl) (.inr rfl) (.inr rfl) (.inr rfl) (.inl hp) (.inr rfl) (.inr rfl) (.inr rfl) (.inr rfl) (.inr rfl) (.inr rfl) (.inr rfl) (.inr rfl) (.inr rfl) (.inr rfl) (.inr rfl) (.inr rfl) (.inr rfl) (.inr rfl) (.inr rfl) (.inr rfl) (.inr rfl) (.inr rfl) (.inr rfl) (.inr rfl) (.inr rfl) (.inr rfl) (.inr rfl) (.inr rfl) (.inr rfl)
theorem Kept.upd_pins {m : Nat} {s0 s : State} {v : Pins} (hp : m.testBit 6 = true) (h : Kept m s0 s) : Kept m s0 { s with pins := v } :=
  h.upd rfl (Nat.le_refl _) (fun _ _ => rfl) (.inr rfl) (.inr rfl) (.inr rfl) (.inr rfl) (.inr rfl) (.inr rfl) (.inl hp) (.inr rfl) (.inr rfl) (.inr rfl) (.inr rfl) (.inr rfl) (.inr rfl) (.inr rfl) (.inr rfl) (.inr rfl) (.inr rfl) (.inr rfl) (.inr rfl) (.inr rfl) (.inr rfl) (.inr rfl) (.inr rfl) (.inr rfl) (.inr rfl) (.inr rfl) (.inr rfl) (.inr rfl) (.inr rfl) (.inr rfl) (.inr rfl)
theorem Kept.upd_port {m : Nat} {s0 s : State} {v : Tab Port} (hp : m.testBit 7 = true) (h : Kept m s0 s) : Kept m s0 { s with port := v } :=
  h.upd rfl (Nat.le_refl _) (fun _ _ => rfl) (.inr rfl) (.inr rfl) (.inr rfl) (.inr rfl) (.inr rfl) (.inr rfl) (.inr rfl) (.inl hp) (.inr rfl) (.inr rfl) (.inr rfl) (.inr rfl) (.inr rfl) (.inr rfl) (.inr rfl) (.inr rfl) (.inr rfl) (.inr rfl) (.inr rfl) (.inr rfl) (.inr rfl) (.inr rfl) (.inr rfl) (.inr rfl) (.inr rfl) (.inr rfl) (.inr rfl) (.inr rfl) (.inr rfl) (.inr rfl) (.inr rfl)
theorem Kept.upd_stage {m : Nat} {s0 s : State} {v : Tab Stage} (hp : m.testBit 8 = true) (h : Kept m s0 s) : Kept m s0 { s with stage := v } :=
  h.upd rfl (Nat.le_refl _) (fun _ _ => rfl) (.inr rfl) (.inr rfl) (.inr rfl) (.inr rfl) (.inr rfl) (.inr rfl) (.inr rfl) (.inr rfl) (.inl hp) (.inr rfl) (.inr rfl) (.inr rfl) (.inr rfl) (.inr rfl) (.inr rfl) (.inr rfl) (.inr rfl) (.inr rfl) (.inr rfl) (.inr rfl) (.inr rfl) (.inr rfl) (.inr rfl) (.inr rfl) (.inr rfl) (.inr rfl) (.inr rfl) (.inr rfl) (.inr rfl) (.inr rfl) (.inr rfl)
theorem Kept.upd_le {m : Nat} {s0 s : State} {v : Tab LoopEngine} (hp : m.testBit 9 = true) (h : Kept m s0 s) : Kept m s0 { s with le := v } :=
  h.upd rfl (Nat.le_refl _) (fun _ _ => rfl) (.inr rfl) (.inr rfl) (.inr rfl) (.inr rfl) (.inr rfl) (.inr rfl) (.inr rfl) (.inr rfl) (.inr rfl) (.inl hp) (.inr rfl) (.inr rfl) (.inr rfl) (.inr rfl) (.inr rfl) (.inr rfl) (.inr rfl) (.inr rfl) (.inr rfl) (.inr rfl) (.inr rfl) (.inr rfl) (.inr rfl) (.inr rfl) (.inr rfl) (.inr rfl) (.inr rfl) (.inr rfl) (.inr rfl) (.inr rfl) (.inr rfl)
theorem Kept.upd_copyEcc {m : Nat} {s0 s : State} {v : CopyEcc} (hp : m.testBit 9 = true) (h : Kept m s0 s) : Kept m s0 { s with copyEcc := v } :=
  h.upd rfl (Nat.le_refl _) (fun _ _ => rfl) (.inr rfl) (.inr rfl) (.inr rfl) (.inr rfl) (.inr rfl) (.inr rfl) (.inr rfl) (.inr rfl) (.inr rfl) (.inr rfl) (.inl hp) (.inr rfl) (.inr rfl) (.inr rfl) (.inr rfl) (.inr rfl) (.inr rfl) (.inr rfl) (.inr rfl) (.inr rfl) (.inr rfl) (.inr rfl) (.inr rfl) (.inr rfl) (.inr rfl) (.inr rfl) (.inr rfl) (.inr rfl) (.inr rfl) (.inr rfl) (.inr rfl)
theorem Kept.upd_lc {m : Nat} {s0 s : State} {v : Tab LoopCluster} (hp : m.testBit 10 = true) (h : Kept m s0 s) : Kept m s0 { s with lc := v } :=
  h.upd rfl (Nat.le_refl _) (fun _ _ => rfl) (.inr rfl) (.inr rfl) (.inr rfl) (.inr rfl) (.inr rfl) (.inr rfl) (.inr rfl) (.inr rfl) (.inr rfl) (.inr rfl) (.inr rfl) (.inl hp) (.inr rfl) (.inr rfl) (.inr rfl) (.inr rfl) (.inr rfl) (.inr rfl) (.inr rfl) (.inr rfl) (.inr rfl) (.inr rfl) (.inr rfl) (.inr rfl) (.inr rfl) (.inr rfl) (.inr rfl) (.inr rfl) (.inr rfl) (.inr rfl) (.inr rfl)
theorem Kept.upd_rail {m : Nat} {s0 s : State} {v : Tab Rail} (hp : m.testBit 11 = true) (h : Kept m s0 s) : Kept m s0 { s with rail := v } :=
  h.upd rfl (Nat.le_refl _) (fun _ _ => rfl) (.inr rfl) (.inr rfl) (.inr rfl) (.inr rfl) (.inr rfl) (.inr rfl) (.inr rfl) (.inr rfl) (.inr rfl) (.inr rfl) (.inr rfl) (.inr rfl) (.inl hp) (.inr rfl) (.inr rfl) (.inr rfl) (.inr rfl) (.inr rfl) (.inr rfl) (.inr rfl) (.inr rfl) (.inr rfl) (.inr rfl) (.inr rfl) (.inr rfl) (.inr rfl) (.inr rfl) (.inr rfl) (.inr rfl) (.inr rfl) (.inr rfl)
theorem Kept.upd_seq {m : Nat} {s0 s : State} {v : Tab SeqStep} (hp : m.testBit 12 = true) (h : Kept m s0 s) : Kept m s0 { s with seq := v } :=
  h.upd rfl (Nat.le_refl _) (fun _ _ => rfl) (.inr rfl) (.inr rfl) (.inr rfl) (.inr rfl) (.inr rfl) (.inr rfl) (.inr rfl) (.inr rfl) (.inr rfl) (.inr rfl) (.inr rfl) (.inr rfl) (.inr rfl) (.inl hp) (.inr rfl) (.inr rfl) (.inr rfl) (.inr rfl) (.inr rfl) (.inr rfl) (.inr rfl) (.inr rfl) (.inr rfl) (.inr rfl) (.inr rfl) (.inr rfl) (.inr rfl) (.inr rfl) (.inr rfl) (.inr rfl) (.inr rfl)
theorem Kept.upd_adc {m : Nat} {s0 s : State} {v : Adc} (hp : m.testBit 13 = true) (h : Kept m s0 s) : Kept m s0 { s with adc := v } :=
  h.upd rfl (Nat.le_refl _) (fun _ _ => rfl) (.inr rfl) (.inr rfl) (.inr rfl) (.inr rfl) (.inr rfl) (.inr rfl) (.inr rfl) (.inr rfl) (.inr rfl) (.inr rfl) (.inr rfl) (.inr rfl) (.inr rfl) (.inr rfl) (.inl hp) (.inr rfl) (.inr rfl) (.inr rfl) (.inr rfl) (.inr rfl) (.inr rfl) (.inr rfl) (.inr rfl) (.inr rfl) (.inr rfl) (.inr rfl) (.inr rfl) (.inr rfl) (.inr rfl) (.inr rfl) (.inr rfl)
theorem Kept.upd_hint {m : Nat} {s0 s : State} {v : Tab Hint} (hp : m.testBit 14 = true) (h : Kept m s0 s) : Kept m s0 { s with hint := v } :=
  h.upd rfl (Nat.le_refl _) (fun _ _ => rfl) (.inr rfl) (.inr rfl) (.inr rfl) (.inr rfl) (.inr rfl) (.inr rfl) (.inr rfl) (.inr rfl) (.inr rfl) (.inr rfl) (.inr rfl) (.inr rfl) (.inr rfl) (.inr rfl) (.inr rfl) (.inl hp) (.inr rfl) (.inr rfl) (.inr rfl) (.inr rfl) (.inr rfl) (.inr rfl) (.inr rfl) (.inr rfl) (.inr rfl) (.inr rfl) (.inr rfl) (.inr rfl) (.inr rfl) (.inr rfl) (.inr rfl)
theorem Kept.upd_ldg {m : Nat} {s0 s : State} {v : Ledger} (hp : m.testBit 15 = true) (h : Kept m s0 s) : Kept m s0 { s with ldg := v } :=
  h.upd rfl (Nat.le_refl _) (fun _ _ => rfl) (.inr rfl) (.inr rfl) (.inr rfl) (.inr rfl) (.inr rfl) (.inr rfl) (.inr rfl) (.inr rfl) (.inr rfl) (.inr rfl) (.inr rfl) (.inr rfl) (.inr rfl) (.inr rfl) (.inr rfl) (.inr rfl) (.inl hp) (.inr rfl) (.inr rfl) (.inr rfl) (.inr rfl) (.inr rfl) (.inr rfl) (.inr rfl) (.inr rfl) (.inr rfl) (.inr rfl) (.inr rfl) (.inr rfl) (.inr rfl) (.inr rfl)
theorem Kept.upd_cmp {m : Nat} {s0 s : State} {v : Companion} (hp : m.testBit 16 = true) (h : Kept m s0 s) : Kept m s0 { s with cmp := v } :=
  h.upd rfl (Nat.le_refl _) (fun _ _ => rfl) (.inr rfl) (.inr rfl) (.inr rfl) (.inr rfl) (.inr rfl) (.inr rfl) (.inr rfl) (.inr rfl) (.inr rfl) (.inr rfl) (.inr rfl) (.inr rfl) (.inr rfl) (.inr rfl) (.inr rfl) (.inr rfl) (.inr rfl) (.inl hp) (.inr rfl) (.inr rfl) (.inr rfl) (.inr rfl) (.inr rfl) (.inr rfl) (.inr rfl) (.inr rfl) (.inr rfl) (.inr rfl) (.inr rfl) (.inr rfl) (.inr rfl)
theorem Kept.upd_core {m : Nat} {s0 s : State} {v : Tab Core} (hp : m.testBit 17 = true ∧ CoreOk s.core v) (h : Kept m s0 s) : Kept m s0 { s with core := v } :=
  h.upd rfl (Nat.le_refl _) (fun _ _ => rfl) (.inr rfl) (.inr rfl) (.inr rfl) (.inr rfl) (.inr rfl) (.inr rfl) (.inr rfl) (.inr rfl) (.inr rfl) (.inr rfl) (.inr rfl) (.inr rfl) (.inr rfl) (.inr rfl) (.inr rfl) (.inr rfl) (.inr rfl) (.inr rfl) (.inl hp) (.inr rfl) (.inr rfl) (.inr rfl) (.inr rfl) (.inr rfl) (.inr rfl) (.inr rfl) (.inr rfl) (.inr rfl) (.inr rfl) (.inr rfl) (.inr rfl)
theorem Kept.upd_l2 {m : Nat} {s0 s : State} {v : Tab (Tab Mesi)} (hp : m.testBit 17 = true) (h : Kept m s0 s) : Kept m s0 { s with l2 := v } :=
  h.upd rfl (Nat.le_refl _) (fun _ _ => rfl) (.inr rfl) (.inr rfl) (.inr rfl) (.inr rfl) (.inr rfl) (.inr rfl) (.inr rfl) (.inr rfl) (.inr rfl) (.inr rfl) (.inr rfl) (.inr rfl) (.inr rfl) (.inr rfl) (.inr rfl) (.inr rfl) (.inr rfl) (.inr rfl) (.inr rfl) (.inl hp) (.inr rfl) (.inr rfl) (.inr rfl) (.inr rfl) (.inr rfl) (.inr rfl) (.inr rfl) (.inr rfl) (.inr rfl) (.inr rfl) (.inr rfl)
theorem Kept.upd_poison {m : Nat} {s0 s : State} {v : List Nat} (hp : m.testBit 18 = true) (h : Kept m s0 s) : Kept m s0 { s with poison := v } :=
  h.upd rfl (Nat.le_refl _) (fun _ _ => rfl) (.inr rfl) (.inr rfl) (.inr rfl) (.inr rfl) (.inr rfl) (.inr rfl) (.inr rfl) (.inr rfl) (.inr rfl) (.inr rfl) (.inr rfl) (.inr rfl) (.inr rfl) (.inr rfl) (.inr rfl) (.inr rfl) (.inr rfl) (.inr rfl) (.inr rfl) (.inr rfl) (.inl hp) (.inr rfl) (.inr rfl) (.inr rfl) (.inr rfl) (.inr rfl) (.inr rfl) (.inr rfl) (.inr rfl) (.inr rfl) (.inr rfl)
theorem Kept.upd_evd {m : Nat} {s0 s : State} {v : Evd} (hp : m.testBit 19 = true) (h : Kept m s0 s) : Kept m s0 { s with evd := v } :=
  h.upd rfl (Nat.le_refl _) (fun _ _ => rfl) (.inr rfl) (.inr rfl) (.inr rfl) (.inr rfl) (.inr rfl) (.inr rfl) (.inr rfl) (.inr rfl) (.inr rfl) (.inr rfl) (.inr rfl) (.inr rfl) (.inr rfl) (.inr rfl) (.inr rfl) (.inr rfl) (.inr rfl) (.inr rfl) (.inr rfl) (.inr rfl) (.inr rfl) (.inl hp) (.inr rfl) (.inr rfl) (.inr rfl) (.inr rfl) (.inr rfl) (.inr rfl) (.inr rfl) (.inr rfl) (.inr rfl)
theorem Kept.upd_mbx {m : Nat} {s0 s : State} {v : Tab Mailbox} (hp : m.testBit 20 = true ∧ MbxOk s.mbx v) (h : Kept m s0 s) : Kept m s0 { s with mbx := v } :=
  h.upd rfl (Nat.le_refl _) (fun _ _ => rfl) (.inr rfl) (.inr rfl) (.inr rfl) (.inr rfl) (.inr rfl) (.inr rfl) (.inr rfl) (.inr rfl) (.inr rfl) (.inr rfl) (.inr rfl) (.inr rfl) (.inr rfl) (.inr rfl) (.inr rfl) (.inr rfl) (.inr rfl) (.inr rfl) (.inr rfl) (.inr rfl) (.inr rfl) (.inr rfl) (.inl hp) (.inr rfl) (.inr rfl) (.inr rfl) (.inr rfl) (.inr rfl) (.inr rfl) (.inr rfl) (.inr rfl)
theorem Kept.upd_dma {m : Nat} {s0 s : State} {v : Dma} (hp : m.testBit 21 = true) (h : Kept m s0 s) : Kept m s0 { s with dma := v } :=
  h.upd rfl (Nat.le_refl _) (fun _ _ => rfl) (.inr rfl) (.inr rfl) (.inr rfl) (.inr rfl) (.inr rfl) (.inr rfl) (.inr rfl) (.inr rfl) (.inr rfl) (.inr rfl) (.inr rfl) (.inr rfl) (.inr rfl) (.inr rfl) (.inr rfl) (.inr rfl) (.inr rfl) (.inr rfl) (.inr rfl) (.inr rfl) (.inr rfl) (.inr rfl) (.inr rfl) (.inl hp) (.inr rfl) (.inr rfl) (.inr rfl) (.inr rfl) (.inr rfl) (.inr rfl) (.inr rfl)
theorem Kept.upd_basin {m : Nat} {s0 s : State} {v : Tab Granule} (hp : m.testBit 22 = true) (h : Kept m s0 s) : Kept m s0 { s with basin := v } :=
  h.upd rfl (Nat.le_refl _) (fun _ _ => rfl) (.inr rfl) (.inr rfl) (.inr rfl) (.inr rfl) (.inr rfl) (.inr rfl) (.inr rfl) (.inr rfl) (.inr rfl) (.inr rfl) (.inr rfl) (.inr rfl) (.inr rfl) (.inr rfl) (.inr rfl) (.inr rfl) (.inr rfl) (.inr rfl) (.inr rfl) (.inr rfl) (.inr rfl) (.inr rfl) (.inr rfl) (.inr rfl) (.inl hp) (.inr rfl) (.inr rfl) (.inr rfl) (.inr rfl) (.inr rfl) (.inr rfl)
theorem Kept.upd_stall {m : Nat} {s0 s : State} {v : Tab Stall} (hp : m.testBit 23 = true) (h : Kept m s0 s) : Kept m s0 { s with stall := v } :=
  h.upd rfl (Nat.le_refl _) (fun _ _ => rfl) (.inr rfl) (.inr rfl) (.inr rfl) (.inr rfl) (.inr rfl) (.inr rfl) (.inr rfl) (.inr rfl) (.inr rfl) (.inr rfl) (.inr rfl) (.inr rfl) (.inr rfl) (.inr rfl) (.inr rfl) (.inr rfl) (.inr rfl) (.inr rfl) (.inr rfl) (.inr rfl) (.inr rfl) (.inr rfl) (.inr rfl) (.inr rfl) (.inr rfl) (.inl hp) (.inr rfl) (.inr rfl) (.inr rfl) (.inr rfl) (.inr rfl)
theorem Kept.upd_pwr {m : Nat} {s0 s : State} {v : Pwr} (hp : m.testBit 24 = true) (h : Kept m s0 s) : Kept m s0 { s with pwr := v } :=
  h.upd rfl (Nat.le_refl _) (fun _ _ => rfl) (.inr rfl) (.inr rfl) (.inr rfl) (.inr rfl) (.inr rfl) (.inr rfl) (.inr rfl) (.inr rfl) (.inr rfl) (.inr rfl) (.inr rfl) (.inr rfl) (.inr rfl) (.inr rfl) (.inr rfl) (.inr rfl) (.inr rfl) (.inr rfl) (.inr rfl) (.inr rfl) (.inr rfl) (.inr rfl) (.inr rfl) (.inr rfl) (.inr rfl) (.inr rfl) (.inl hp) (.inr rfl) (.inr rfl) (.inr rfl) (.inr rfl)
theorem Kept.upd_ext {m : Nat} {s0 s : State} {v : Tab ExtPort} (hp : m.testBit 25 = true) (h : Kept m s0 s) : Kept m s0 { s with ext := v } :=
  h.upd rfl (Nat.le_refl _) (fun _ _ => rfl) (.inr rfl) (.inr rfl) (.inr rfl) (.inr rfl) (.inr rfl) (.inr rfl) (.inr rfl) (.inr rfl) (.inr rfl) (.inr rfl) (.inr rfl) (.inr rfl) (.inr rfl) (.inr rfl) (.inr rfl) (.inr rfl) (.inr rfl) (.inr rfl) (.inr rfl) (.inr rfl) (.inr rfl) (.inr rfl) (.inr rfl) (.inr rfl) (.inr rfl) (.inr rfl) (.inr rfl) (.inl hp) (.inr rfl) (.inr rfl) (.inr rfl)
theorem Kept.upd_sw {m : Nat} {s0 s : State} {v : Switch} (hp : m.testBit 26 = true) (h : Kept m s0 s) : Kept m s0 { s with sw := v } :=
  h.upd rfl (Nat.le_refl _) (fun _ _ => rfl) (.inr rfl) (.inr rfl) (.inr rfl) (.inr rfl) (.inr rfl) (.inr rfl) (.inr rfl) (.inr rfl) (.inr rfl) (.inr rfl) (.inr rfl) (.inr rfl) (.inr rfl) (.inr rfl) (.inr rfl) (.inr rfl) (.inr rfl) (.inr rfl) (.inr rfl) (.inr rfl) (.inr rfl) (.inr rfl) (.inr rfl) (.inr rfl) (.inr rfl) (.inr rfl) (.inr rfl) (.inr rfl) (.inl hp) (.inr rfl) (.inr rfl)
theorem Kept.upd_fans {m : Nat} {s0 s : State} {v : Fans} (hp : m.testBit 27 = true) (h : Kept m s0 s) : Kept m s0 { s with fans := v } :=
  h.upd rfl (Nat.le_refl _) (fun _ _ => rfl) (.inr rfl) (.inr rfl) (.inr rfl) (.inr rfl) (.inr rfl) (.inr rfl) (.inr rfl) (.inr rfl) (.inr rfl) (.inr rfl) (.inr rfl) (.inr rfl) (.inr rfl) (.inr rfl) (.inr rfl) (.inr rfl) (.inr rfl) (.inr rfl) (.inr rfl) (.inr rfl) (.inr rfl) (.inr rfl) (.inr rfl) (.inr rfl) (.inr rfl) (.inr rfl) (.inr rfl) (.inr rfl) (.inr rfl) (.inl hp) (.inr rfl)
theorem Kept.upd_trc {m : Nat} {s0 s : State} {v : Trace} (hp : m.testBit 28 = true) (h : Kept m s0 s) : Kept m s0 { s with trc := v } :=
  h.upd rfl (Nat.le_refl _) (fun _ _ => rfl) (.inr rfl) (.inr rfl) (.inr rfl) (.inr rfl) (.inr rfl) (.inr rfl) (.inr rfl) (.inr rfl) (.inr rfl) (.inr rfl) (.inr rfl) (.inr rfl) (.inr rfl) (.inr rfl) (.inr rfl) (.inr rfl) (.inr rfl) (.inr rfl) (.inr rfl) (.inr rfl) (.inr rfl) (.inr rfl) (.inr rfl) (.inr rfl) (.inr rfl) (.inr rfl) (.inr rfl) (.inr rfl) (.inr rfl) (.inr rfl) (.inl hp)
theorem State.setUnit_kept {m : Nat} {s0 s : State} (hp : Sub 4 m) {k i : Nat} {u : UnitSt} (h : Kept m s0 s) : Kept m s0 (s.setUnit k i u) :=
  h.upd rfl (Nat.le_refl _) (fun _ _ => rfl) (.inr rfl) (.inr rfl) (.inl (hp.bit (by decide))) (.inr rfl) (.inr rfl) (.inr rfl) (.inr rfl) (.inr rfl) (.inr rfl) (.inr rfl) (.inr rfl) (.inr rfl) (.inr rfl) (.inr rfl) (.inr rfl) (.inr rfl) (.inr rfl) (.inr rfl) (.inr rfl) (.inr rfl) (.inr rfl) (.inr rfl) (.inr rfl) (.inr rfl) (.inr rfl) (.inr rfl) (.inr rfl) (.inr rfl) (.inr rfl) (.inr rfl) (.inr rfl)
theorem State.setPrt_kept {m : Nat} {s0 s : State} (hp : Sub 128 m) {n : Nat} {p : Port} (h : Kept m s0 s) : Kept m s0 (s.setPrt n p) :=
  h.upd rfl (Nat.le_refl _) (fun _ _ => rfl) (.inr rfl) (.inr rfl) (.inr rfl) (.inr rfl) (.inr rfl) (.inr rfl) (.inr rfl) (.inl (hp.bit (by decide))) (.inr rfl) (.inr rfl) (.inr rfl) (.inr rfl) (.inr rfl) (.inr rfl) (.inr rfl) (.inr rfl) (.inr rfl) (.inr rfl) (.inr rfl) (.inr rfl) (.inr rfl) (.inr rfl) (.inr rfl) (.inr rfl) (.inr rfl) (.inr rfl) (.inr rfl) (.inr rfl) (.inr rfl) (.inr rfl) (.inr rfl)
theorem State.setStg_kept {m : Nat} {s0 s : State} (hp : Sub 256 m) {n : Nat} {p : Stage} (h : Kept m s0 s) : Kept m s0 (s.setStg n p) :=
  h.upd rfl (Nat.le_refl _) (fun _ _ => rfl) (.inr rfl) (.inr rfl) (.inr rfl) (.inr rfl) (.inr rfl) (.inr rfl) (.inr rfl) (.inr rfl) (.inl (hp.bit (by decide))) (.inr rfl) (.inr rfl) (.inr rfl) (.inr rfl) (.inr rfl) (.inr rfl) (.inr rfl) (.inr rfl) (.inr rfl) (.inr rfl) (.inr rfl) (.inr rfl) (.inr rfl) (.inr rfl) (.inr rfl) (.inr rfl) (.inr rfl) (.inr rfl) (.inr rfl) (.inr rfl) (.inr rfl) (.inr rfl)
theorem State.setLe_kept {m : Nat} {s0 s : State} (hp : Sub 512 m) {n : Nat} {p : LoopEngine} (h : Kept m s0 s) : Kept m s0 (s.setLe n p) :=
  h.upd rfl (Nat.le_refl _) (fun _ _ => rfl) (.inr rfl) (.inr rfl) (.inr rfl) (.inr rfl) (.inr rfl) (.inr rfl) (.inr rfl) (.inr rfl) (.inr rfl) (.inl (hp.bit (by decide))) (.inr rfl) (.inr rfl) (.inr rfl) (.inr rfl) (.inr rfl) (.inr rfl) (.inr rfl) (.inr rfl) (.inr rfl) (.inr rfl) (.inr rfl) (.inr rfl) (.inr rfl) (.inr rfl) (.inr rfl) (.inr rfl) (.inr rfl) (.inr rfl) (.inr rfl) (.inr rfl) (.inr rfl)
theorem State.setLc_kept {m : Nat} {s0 s : State} (hp : Sub 1024 m) {n : Nat} {p : LoopCluster} (h : Kept m s0 s) : Kept m s0 (s.setLc n p) :=
  h.upd rfl (Nat.le_refl _) (fun _ _ => rfl) (.inr rfl) (.inr rfl) (.inr rfl) (.inr rfl) (.inr rfl) (.inr rfl) (.inr rfl) (.inr rfl) (.inr rfl) (.inr rfl) (.inr rfl) (.inl (hp.bit (by decide))) (.inr rfl) (.inr rfl) (.inr rfl) (.inr rfl) (.inr rfl) (.inr rfl) (.inr rfl) (.inr rfl) (.inr rfl) (.inr rfl) (.inr rfl) (.inr rfl) (.inr rfl) (.inr rfl) (.inr rfl) (.inr rfl) (.inr rfl) (.inr rfl) (.inr rfl)
theorem State.setRl_kept {m : Nat} {s0 s : State} (hp : Sub 2048 m) {n : Nat} {p : Rail} (h : Kept m s0 s) : Kept m s0 (s.setRl n p) :=
  h.upd rfl (Nat.le_refl _) (fun _ _ => rfl) (.inr rfl) (.inr rfl) (.inr rfl) (.inr rfl) (.inr rfl) (.inr rfl) (.inr rfl) (.inr rfl) (.inr rfl) (.inr rfl) (.inr rfl) (.inr rfl) (.inl (hp.bit (by decide))) (.inr rfl) (.inr rfl) (.inr rfl) (.inr rfl) (.inr rfl) (.inr rfl) (.inr rfl) (.inr rfl) (.inr rfl) (.inr rfl) (.inr rfl) (.inr rfl) (.inr rfl) (.inr rfl) (.inr rfl) (.inr rfl) (.inr rfl) (.inr rfl)
theorem State.setStep_kept {m : Nat} {s0 s : State} (hp : Sub 4096 m) {n : Nat} {p : SeqStep} (h : Kept m s0 s) : Kept m s0 (s.setStep n p) :=
  h.upd rfl (Nat.le_refl _) (fun _ _ => rfl) (.inr rfl) (.inr rfl) (.inr rfl) (.inr rfl) (.inr rfl) (.inr rfl) (.inr rfl) (.inr rfl) (.inr rfl) (.inr rfl) (.inr rfl) (.inr rfl) (.inr rfl) (.inl (hp.bit (by decide))) (.inr rfl) (.inr rfl) (.inr rfl) (.inr rfl) (.inr rfl) (.inr rfl) (.inr rfl) (.inr rfl) (.inr rfl) (.inr rfl) (.inr rfl) (.inr rfl) (.inr rfl) (.inr rfl) (.inr rfl) (.inr rfl) (.inr rfl)
theorem State.tick1_kept {m : Nat} {s0 s : State} (_ : Sub 0 m) (h : Kept m s0 s) : Kept m s0 s.tick1 :=
  h.upd rfl (Nat.le_succ _) (fun _ _ => rfl) (.inr rfl) (.inr rfl) (.inr rfl) (.inr rfl) (.inr rfl) (.inr rfl) (.inr rfl) (.inr rfl) (.inr rfl) (.inr rfl) (.inr rfl) (.inr rfl) (.inr rfl) (.inr rfl) (.inr rfl) (.inr rfl) (.inr rfl) (.inr rfl) (.inr rfl) (.inr rfl) (.inr rfl) (.inr rfl) (.inr rfl) (.inr rfl) (.inr rfl) (.inr rfl) (.inr rfl) (.inr rfl) (.inr rfl) (.inr rfl) (.inr rfl)
theorem State.mput_kept {m : Nat} {s0 s : State} (hp : Sub 2 m) {a : Nat} {b : Bytes} (h : Kept m s0 s) : Kept m s0 (s.mput a b) :=
  h.upd rfl (Nat.le_refl _) (fun _ _ => rfl) (.inl ⟨hp.bit (by decide), memPut_wf b a⟩) (.inr rfl) (.inr rfl) (.inr rfl) (.inr rfl) (.inr rfl) (.inr rfl) (.inr rfl) (.inr rfl) (.inr rfl) (.inr rfl) (.inr rfl) (.inr rfl) (.inr rfl) (.inr rfl) (.inr rfl) (.inr rfl) (.inr rfl) (.inr rfl) (.inr rfl) (.inr rfl) (.inr rfl) (.inr rfl) (.inr rfl) (.inr rfl) (.inr rfl) (.inr rfl) (.inr rfl) (.inr rfl) (.inr rfl) (.inr rfl)

theorem Reg.ctorIdx_inj {r q : Reg} (h : r.ctorIdx = q.ctorIdx) : r = q := by
  have hr := Reg.ofNat_ctorIdx r
  have hq := Reg.ofNat_ctorIdx q
  rw [← hr, ← hq, h]

theorem State.wr_kept' {m : Nat} {s0 s : State} {r : Reg} {p : Piece} (hr : r.block = p) (hp : m.testBit p.ctorIdx = true) {i : Nat} {v : W32} (h : Kept m s0 s) : Kept m s0 (s.wr r i v) :=
  h.upd rfl (Nat.le_refl _) (fun q hq => tget_tset_ne _ _ _ (fun e => by rw [← hr, Reg.ctorIdx_inj e] at hp; simp [hp] at hq)) (.inr rfl) (.inr rfl) (.inr rfl) (.inr rfl) (.inr rfl) (.inr rfl) (.inr rfl) (.inr rfl) (.inr rfl) (.inr rfl) (.inr rfl) (.inr rfl) (.inr rfl) (.inr rfl) (.inr rfl) (.inr rfl) (.inr rfl) (.inr rfl) (.inr rfl) (.inr rfl) (.inr rfl) (.inr rfl) (.inr rfl) (.inr rfl) (.inr rfl) (.inr rfl) (.inr rfl) (.inr rfl) (.inr rfl) (.inr rfl) (.inr rfl)
theorem State.pf_kept' {m : Nat} {s0 s : State} {r : Reg} {p : Piece} (hr : r.block = p) (hp : m.testBit p.ctorIdx = true) {i : Nat} {f : Fld} {k : Nat} (h : Kept m s0 s) : Kept m s0 (s.pf r i f k) := State.wr_kept' hr hp h
theorem State.pb_kept' {m : Nat} {s0 s : State} {r : Reg} {p : Piece} (hr : r.block = p) (hp : m.testBit p.ctorIdx = true) {i : Nat} {f : Fld} {k : Bool} (h : Kept m s0 s) : Kept m s0 (s.pb r i f k) := State.wr_kept' hr hp h
theorem State.inc_kept' {m : Nat} {s0 s : State} {r : Reg} {p : Piece} (hr : r.block = p) (hp : m.testBit p.ctorIdx = true) {i : Nat} {f : Fld} {k : Nat} (h : Kept m s0 s) : Kept m s0 (s.inc r i f k) := State.wr_kept' hr hp h
theorem State.setB_kept' {m : Nat} {s0 s : State} {r : Reg} {p : Piece} (hr : r.block = p) (hp : m.testBit p.ctorIdx = true) {i : Nat} {k : Nat} (h : Kept m s0 s) : Kept m s0 (s.setB r i k) := State.wr_kept' hr hp h
theorem State.clrB_kept' {m : Nat} {s0 s : State} {r : Reg} {p : Piece} (hr : r.block = p) (hp : m.testBit p.ctorIdx = true) {i : Nat} {k : Nat} (h : Kept m s0 s) : Kept m s0 (s.clrB r i k) := State.wr_kept' hr hp h
theorem State.plainWrite_kept' {m : Nat} {s0 s : State} {r : Reg} {p : Piece} (hr : r.block = p) (hp : m.testBit p.ctorIdx = true) {i : Nat} {v : W32} (h : Kept m s0 s) : Kept m s0 (s.plainWrite r i v) := State.wr_kept' hr hp h

/-- The registers of a list are cleared. -/
theorem State.clearRegs_kept' {m : Nat} {s0 s : State} {rs : List Reg} (hp : ∀ r ∈ rs, m.testBit r.block.ctorIdx = true) (h : Kept m s0 s) : Kept m s0 (s.clearRegs rs) :=
  h.upd rfl (Nat.le_refl _) (fun q hq => by
    have := tget_filter [] s.regs (fun k => !(rs.map Reg.ctorIdx).contains k) q.ctorIdx
    simp only [this]
    split
    · rfl
    · next e =>
      simp only [Bool.not_eq_true', Bool.not_eq_false, List.contains_iff_mem, List.mem_map] at e
      obtain ⟨r, hr, hrq⟩ := e
      have := hp r hr
      rw [Reg.ctorIdx_inj hrq, hq] at this
      cases this) (.inr rfl) (.inr rfl) (.inr rfl) (.inr rfl) (.inr rfl) (.inr rfl) (.inr rfl) (.inr rfl) (.inr rfl) (.inr rfl) (.inr rfl) (.inr rfl) (.inr rfl) (.inr rfl) (.inr rfl) (.inr rfl) (.inr rfl) (.inr rfl) (.inr rfl) (.inr rfl) (.inr rfl) (.inr rfl) (.inr rfl) (.inr rfl) (.inr rfl) (.inr rfl) (.inr rfl) (.inr rfl) (.inr rfl) (.inr rfl) (.inr rfl)

/-! ### Cores and mailboxes -/

theorem CoreOk.set {c : Tab Core} {n : Nat} {x : Core} (h : (tget Core.init c n).inCap → x.inCap) : CoreOk c (tset c n x) := fun hc k => by
  rw [tget_tset]
  split
  · exact h (hc n)
  · exact hc k

theorem CoreOk.mapKey {c : Tab Core} {f : Nat × Core → Nat × Core} (hk : ∀ e, (f e).1 = e.1) (h : ∀ e, e.2.inCap → (f e).2.inCap) : CoreOk c (c.map f) := by
  intro hc n
  have key : ∀ t : Tab Core, (tget Core.init t n).inCap → (tget Core.init (t.map f) n).inCap := by
    intro t
    induction t with
    | nil => exact id
    | cons e r ih =>
      intro ht
      have he := hk e
      have hi := h e
      rw [List.map_cons]
      generalize f e = g at he hi ⊢
      obtain ⟨k, v⟩ := e
      obtain ⟨k', v'⟩ := g
      simp only [tget] at ht ⊢
      cases he
      by_cases hq : k = n
      · simp only [hq, if_true] at ht ⊢
        exact hi ht
      · simp only [hq, if_false] at ht ⊢
        exact ih ht
  exact key c (hc n)
theorem CoreOk.map {c : Tab Core} {f : Nat × Core → Core} (h : ∀ e, e.2.inCap → (f e).inCap) : CoreOk c (c.map (fun e => (e.1, f e))) :=
  CoreOk.mapKey (fun _ => rfl) h

theorem CoreOk.nil {c : Tab Core} : CoreOk c [] := fun _ _ => ⟨Nat.zero_le _, Nat.zero_le _, Nat.zero_le _⟩

theorem State.setCor_kept {m : Nat} {s0 s : State} (hp : Sub 131072 m) {n : Nat} {x : Core} (hx : (s.cor n).inCap → x.inCap) (h : Kept m s0 s) : Kept m s0 (s.setCor n x) :=
  h.upd rfl (Nat.le_refl _) (fun _ _ => rfl) (.inr rfl) (.inr rfl) (.inr rfl) (.inr rfl) (.inr rfl) (.inr rfl) (.inr rfl) (.inr rfl) (.inr rfl) (.inr rfl) (.inr rfl) (.inr rfl) (.inr rfl) (.inr rfl) (.inr rfl) (.inr rfl) (.inr rfl) (.inr rfl) (.inl ⟨hp.bit (by decide), CoreOk.set hx⟩) (.inr rfl) (.inr rfl) (.inr rfl) (.inr rfl) (.inr rfl) (.inr rfl) (.inr rfl) (.inr rfl) (.inr rfl) (.inr rfl) (.inr rfl) (.inr rfl)

/-- The new core comes from a core of an earlier state. -/
theorem State.setCor_keptOf {m : Nat} {s0 s s' : State} (hp : Sub 131072 m) {n k : Nat} {x : Core} (hs : Kept m s0 s') (hx : (s'.cor k).inCap → x.inCap) (h : Kept m s0 s) : Kept m s0 (s.setCor n x) :=
  ⟨h.queue, h.free, fun p q => by
    cases p
    case core => exact absurd (hp.bit (k := 17) (by decide)) (by simpa [Piece.ctorIdx] using q)
    all_goals exact h.frame _ q, h.mem, h.keep, fun hz => CoreOk.set (fun _ => hx (hs.core hz k)) (h.core hz), h.mbx⟩

theorem MbxOk.set {c : Tab Mailbox} {n : Nat} {x : Mailbox} (h : (tget Mailbox.init c n).inCap → x.inCap) : MbxOk c (tset c n x) := fun hc k => by
  rw [tget_tset]
  split
  · exact h (hc n)
  · exact hc k

theorem MbxOk.nil {c : Tab Mailbox} : MbxOk c [] := fun _ _ => ⟨Nat.zero_le _, Nat.zero_le _⟩

/-! ### Results of other kinds -/

def OutKept (m : Nat) (s : State) (o : Out) : Prop := ∀ t, o = .next t → Kept m s t
def OptKept (m : Nat) (s : State) (o : Option State) : Prop := ∀ t, o = some t → Kept m s t
def FlowKept (m : Nat) (s : State) : Flow → Prop
  | .next t => Kept m s t
  | .jump t _ => Kept m s t
  | .exc t _ => Kept m s t
  | .done t => Kept m s t
  | .hold t => Kept m s t

theorem OutKept.next {m : Nat} {s t : State} (h : Kept m s t) : OutKept m s (.next t) := fun _ e => by cases e; exact h
theorem OutKept.stop {m : Nat} {s : State} {o : Out} (h : ∀ t, o = .next t → False) : OutKept m s o := fun t e => (h t e).elim
theorem OutKept.cond {m : Nat} {s : State} {a b : Out} {c : Prop} {d : Decidable c} (h : c → OutKept m s a) (k : ¬c → OutKept m s b) : OutKept m s (@ite Out c d a b) := by
  by_cases hc : c
  · simp only [hc, if_true]; exact h hc
  · simp only [hc, if_false]; exact k hc
theorem OptKept.ofNone {m : Nat} {s : State} : OptKept m s none := fun _ e => by cases e
theorem OptKept.ofSome {m : Nat} {s t : State} (h : Kept m s t) : OptKept m s (some t) := fun _ e => by cases e; exact h
theorem OptKept.get {m : Nat} {s t : State} {o : Option State} (e : o = some t) (h : OptKept m s o) : Kept m s t := h t e
theorem OptKept.cond {m : Nat} {s : State} {a b : Option State} {c : Prop} {d : Decidable c} (h : c → OptKept m s a) (k : ¬c → OptKept m s b) : OptKept m s (@ite (Option State) c d a b) := by
  by_cases hc : c
  · simp only [hc, if_true]; exact h hc
  · simp only [hc, if_false]; exact k hc
theorem FlowKept.cond {m : Nat} {s : State} {a b : Flow} {c : Prop} {d : Decidable c} (h : c → FlowKept m s a) (k : ¬c → FlowKept m s b) : FlowKept m s (@ite Flow c d a b) := by
  by_cases hc : c
  · simp only [hc, if_true]; exact h hc
  · simp only [hc, if_false]; exact k hc
theorem Flow.next_kept {m : Nat} {s t : State} (h : Kept m s t) : FlowKept m s (.next t) := h
theorem Flow.jump_kept {m : Nat} {s t : State} {a : W64} (h : Kept m s t) : FlowKept m s (.jump t a) := h
theorem Flow.exc_kept {m : Nat} {s t : State} {a : Exc} (h : Kept m s t) : FlowKept m s (.exc t a) := h
theorem Flow.done_kept {m : Nat} {s t : State} (h : Kept m s t) : FlowKept m s (.done t) := h
theorem OptKept.map {m : Nat} {s0 : State} {o : Option State} {f : State → State} (hf : ∀ y, Kept m s0 y → Kept m s0 (f y)) (ho : OptKept m s0 o) : OptKept m s0 (o.map f) := fun t e => by
  cases o with
  | none => cases e
  | some y => cases e; exact hf y (ho y rfl)
theorem OptKept.mapv {α : Type} {m : Nat} {s0 : State} {o : Option α} {f : α → State} (hf : ∀ y, Kept m s0 (f y)) : OptKept m s0 (o.map f) := fun t e => by
  cases o with
  | none => cases e
  | some y => cases e; exact hf y
theorem Kept.foldl {α : Type} {m : Nat} {s0 : State} {f : State → α → State} (hf : ∀ s a, Kept m s0 s → Kept m s0 (f s a)) :
    ∀ {l : List α} {s : State}, Kept m s0 s → Kept m s0 (l.foldl f s)
  | [], _, h => h
  | a :: r, s, h => Kept.foldl hf (l := r) (hf s a h)

/-- Every register's block is a register block. -/
theorem Reg.block_ge (r : Reg) : (562949416550400).testBit r.block.ctorIdx = true := by
  have key : ∀ (c : Prop) [Decidable c] (a b : Piece), (562949416550400).testBit a.ctorIdx = true → (562949416550400).testBit b.ctorIdx = true →
      (562949416550400).testBit (if c then a else b).ctorIdx = true := fun c _ a b ha hb => by split <;> assumption
  unfold Reg.block
  dsimp only
  repeat refine key _ _ _ (by decide) ?_
  decide
theorem Sub.reg {m : Nat} (h : Sub 562949416550400 m) (r : Reg) : m.testBit r.block.ctorIdx = true := h.bit r.block_ge
/-- A result of a loop engine's operation. -/
def LeKept (m : Nat) (s : State) : LeRes → Prop
  | .fault _ => True
  | .next t => Kept m s t
  | .jump t _ => Kept m s t
  | .own t => Kept m s t
theorem LeKept.cond {m : Nat} {s : State} {a b : LeRes} {c : Prop} {d : Decidable c} (h : c → LeKept m s a) (k : ¬c → LeKept m s b) : LeKept m s (@ite LeRes c d a b) := by
  by_cases hc : c
  · simp only [hc, if_true]; exact h hc
  · simp only [hc, if_false]; exact k hc
theorem LeRes.next_kept {m : Nat} {s t : State} (h : Kept m s t) : LeKept m s (.next t) := h
theorem LeRes.jump_kept {m : Nat} {s t : State} {a : Nat} (h : Kept m s t) : LeKept m s (.jump t a) := h
theorem LeRes.own_kept {m : Nat} {s t : State} (h : Kept m s t) : LeKept m s (.own t) := h
theorem LeKept.of {m : Nat} {s : State} {r r' : LeRes} (e : r = r') (h : LeKept m s r) : LeKept m s r' := e ▸ h
theorem FlowKept.of {m : Nat} {s : State} {r r' : Flow} (e : r = r') (h : FlowKept m s r) : FlowKept m s r' := e ▸ h
theorem OutKept.fault {m : Nat} {s : State} {f : Fault} : OutKept m s (.fault f) := fun _ e => by cases e
theorem State.clearRegs_keptM {m k : Nat} {s0 s : State} {rs : List Reg} (hp : Sub k m) (h : rs.all (fun r => k.testBit r.block.ctorIdx) = true) (hk : Kept m s0 s) : Kept m s0 (s.clearRegs rs) :=
  State.clearRegs_kept' (fun r hr => hp.bit (List.all_eq_true.mp h r hr)) hk
/-- A state that may differ in every piece. -/
theorem Kept.all {m : Nat} {s0 s t : State} (hp : Sub 562949953421311 m) (h : Kept m s0 s) (hq : t.pending = s.pending) (hf : s.free ≤ t.free)
    (hm : Memory.wf s.mem = true → Memory.wf t.mem = true) (hk : KeepOk s.keep t.keep) (hc : CoreOk s.core t.core) (hx : MbxOk s.mbx t.mbx) : Kept m s0 t :=
  h.trans ⟨hq, hf, fun p hn =>
    have this : m.testBit p.ctorIdx = true := hp.bit (by cases p <;> decide)
    absurd (this.symm.trans hn) (by decide), hm, hk, hc, hx⟩
theorem Flow.hold_kept {m : Nat} {s t : State} (h : Kept m s t) : FlowKept m s (.hold t) := h
theorem Kept.fst {α : Type} {m : Nat} {s t : State} {p : State × α} {a : α} (e : p = (t, a)) (h : Kept m s p.1) : Kept m s t := by rw [e] at h; exact h
theorem Kept.cond1 {α : Type} {m : Nat} {s0 : State} {a b : State × α} {c : Prop} {d : Decidable c} (h : c → Kept m s0 a.1) (k : ¬c → Kept m s0 b.1) : Kept m s0 (@ite (State × α) c d a b).1 := by
  by_cases hc : c
  · simp only [hc, if_true]; exact h hc
  · simp only [hc, if_false]; exact k hc

end Sys2Proof.Machine
end

