-- ==== Sys2Proof/Laws/KeptRoute.lean ====
section
/-!
SUPPORT. What the definitions of Machine/Route.lean keep: one lemma each.
-/
namespace Sys2Proof.Machine

theorem State.regionUp_kept {m : Nat} {s0 : State} (hp : Sub 2199023255552 m) {s : State} {r : Nat} (hk : Kept m s0 s) : Kept m s0 (State.regionUp s r) := by
  unfold State.regionUp
  refine Kept.cond (fun _ => ?_) (fun _ => ?_)
  · assumption
  · split
    · extract_lets +onlyGivenNames x0
      have h1 : Kept m s0 x0 := by
        unfold x0
        refine State.pf_kept' Reg.PWR_REG_STAT_block (hp.bit (by decide)) ?_
        refine State.pf_kept' Reg.PWR_REG_STAT_block (hp.bit (by decide)) ?_
        assumption
      try (generalize x0 = y0 at h1 ⊢; try clear x0)
      refine State.pf_kept' Reg.PWR_CC_FREQ_block (hp.bit (by decide)) ?_
      refine State.pf_kept' Reg.PWR_CC_FREQ_block (hp.bit (by decide)) ?_
      assumption

theorem State.wake_kept {m : Nat} {s0 : State} (hp : Sub 2199040163840 m) {s : State} {n : Nat} (hk : Kept m s0 s) : Kept m s0 (State.wake s n) := by
  unfold State.wake
  extract_lets +onlyGivenNames x0
  refine Kept.cond (fun _ => ?_) (fun _ => ?_)
  · assumption
  · refine Kept.cond (fun _ => ?_) (fun _ => ?_)
    · refine Kept.upd_pwr (hp.bit (by decide)) ?_
      assumption
    · first | refine State.setCor_keptOf (Sub.trans (b := 2199040163840) (by decide) hp) (by assumption) (fun h => h) ?_ | refine State.setCor_kept (Sub.trans (b := 2199040163840) (by decide) hp) (by first | exact fun h => h | exact fun _ => ⟨Nat.zero_le _, Nat.zero_le _, Nat.zero_le _⟩ | exact fun h => ⟨Nat.zero_le _, h.2⟩ | exact fun h => ⟨List.length_take_le _ _, h.2⟩ | (intro h; simp +zetaDelta only [Core.inCap] at h ⊢; exact h) | exact fun h => ⟨h.1, Nat.le_trans (List.length_filter_le _ _) h.2.1, Nat.le_trans (List.length_filter_le _ _) h.2.2⟩) ?_
      refine State.regionUp_kept (Sub.trans (b := 2199040163840) (by decide) hp) ?_
      assumption

theorem State.setPres_kept {m : Nat} {s0 : State} (hp : Sub 524288 m) {s : State} {p : Tab Nat} (hk : Kept m s0 s) : Kept m s0 (State.setPres s p) := by
  unfold State.setPres
  refine Kept.upd_evd (hp.bit (by decide)) ?_
  assumption

theorem State.present_kept {m : Nat} {s0 : State} (hp : Sub 2199040688128 m) {s : State} {t : Nat} (hk : Kept m s0 s) : Kept m s0 (State.present s t) := by
  unfold State.present
  split
  · assumption
  · refine State.wake_kept (Sub.trans (b := 2199040688128) (by decide) hp) ?_
    refine State.setPres_kept (Sub.trans (b := 2199040688128) (by decide) hp) ?_
    assumption

theorem State.raise_kept {m : Nat} {s0 : State} (hp : Sub 2336479641600 m) {s : State} {src : Nat} (hk : Kept m s0 s) : Kept m s0 (State.raise s src) := by
  unfold State.raise
  refine Kept.cond (fun _ => ?_) (fun _ => ?_)
  · assumption
  · extract_lets +onlyGivenNames x0
    have h1 : Kept m s0 x0 := by
      unfold x0
      refine State.setB_kept' Reg.EVD_PEND_SET_block (hp.bit (by decide)) ?_
      assumption
    try (generalize x0 = y0 at h1 ⊢; try clear x0)
    extract_lets +onlyGivenNames x2
    refine Kept.cond (fun _ => ?_) (fun _ => ?_)
    · assumption
    · refine Kept.cond (fun _ => ?_) (fun _ => ?_)
      · refine State.wake_kept (Sub.trans (b := 2336479641600) (by decide) hp) ?_
        refine State.present_kept (Sub.trans (b := 2336479641600) (by decide) hp) ?_
        assumption
      · refine State.wake_kept (Sub.trans (b := 2336479641600) (by decide) hp) ?_
        assumption

end Sys2Proof.Machine
end

