-- ==== Sys2Proof/Laws/KeptTrace.lean ====
section
/-!
SUPPORT. What the definitions of Machine/Trace.lean keep: one lemma each.
-/
namespace Sys2Proof.Machine

theorem State.setSr_kept {m : Nat} {s0 : State} (hp : Sub 131072 m) {s : State} {n : Nat} {num : Nat} {v : W64} (hk : Kept m s0 s) : Kept m s0 (State.setSr s n num v) := by
  unfold State.setSr
  first | refine State.setCor_keptOf hp (by assumption) (fun h => h) ?_ | refine State.setCor_kept hp (by first | exact fun h => h | exact fun _ => ⟨Nat.zero_le _, Nat.zero_le _, Nat.zero_le _⟩ | exact fun h => ⟨Nat.zero_le _, h.2⟩ | exact fun h => ⟨List.length_take_le _ _, h.2⟩ | (intro h; simp +zetaDelta only [Core.inCap] at h ⊢; exact h) | exact fun h => ⟨h.1, Nat.le_trans (List.length_filter_le _ _) h.2.1, Nat.le_trans (List.length_filter_le _ _) h.2.2⟩) ?_
  assumption

theorem State.setTsrc_kept {m : Nat} {s0 : State} (hp : Sub 268435456 m) {s : State} {id : Nat} {x : TraceSrc} (hk : Kept m s0 s) : Kept m s0 (State.setTsrc s id x) := by
  unfold State.setTsrc
  refine Kept.upd_trc (hp.bit (by decide)) ?_
  assumption

theorem State.ovfTry_kept {m : Nat} {s0 : State} (hp : Sub 268435456 m) {s : State} {id : Nat} (hk : Kept m s0 s) : Kept m s0 (State.ovfTry s id) := by
  unfold State.ovfTry
  extract_lets +onlyGivenNames x0
  extract_lets +onlyGivenNames x1
  refine Kept.cond (fun _ => ?_) (fun _ => ?_)
  · assumption
  · refine State.tick1_kept (Sub.trans (b := 268435456) (by decide) hp) ?_
    refine State.setTsrc_kept hp ?_
    assumption

theorem State.putRaw_kept {m : Nat} {s0 : State} (hp : Sub 6734794588160 m) {s : State} {id : Nat} {p : Bytes} (hk : Kept m s0 s) : Kept m s0 (State.putRaw s id p) := by
  unfold State.putRaw
  extract_lets +onlyGivenNames x0
  refine Kept.cond (fun _ => ?_) (fun _ => ?_)
  · refine State.setTsrc_kept (Sub.trans (b := 6734794588160) (by decide) hp) ?_
    assumption
  · refine Kept.cond (fun _ => ?_) (fun _ => ?_)
    · refine State.setTsrc_kept (Sub.trans (b := 6734794588160) (by decide) hp) ?_
      assumption
    · extract_lets +onlyGivenNames x1
      have h2 : Kept m s0 x1 := by
        unfold x1
        refine State.setTsrc_kept (Sub.trans (b := 6734794588160) (by decide) hp) ?_
        assumption
      try (generalize x1 = y1 at h2 ⊢; try clear x1)
      extract_lets +onlyGivenNames x3
      have h4 : Kept m s0 x3 := by
        unfold x3
        refine State.inc_kept' Reg.TRC_LOST_block (hp.bit (by decide)) ?_
        assumption
      try (generalize x3 = y3 at h4 ⊢; try clear x3)
      refine Kept.cond (fun _ => ?_) (fun _ => ?_)
      · refine State.raise_kept (Sub.trans (b := 6734794588160) (by decide) hp) ?_
        assumption
      · assumption

theorem State.emitRaw_kept {m : Nat} {s0 : State} (hp : Sub 6734794588160 m) {s : State} {id : Nat} {p : Bytes} (hk : Kept m s0 s) : Kept m s0 (State.emitRaw s id p) := by
  unfold State.emitRaw
  refine State.putRaw_kept hp ?_
  refine State.ovfTry_kept (Sub.trans (b := 6734794588160) (by decide) hp) ?_
  assumption

theorem State.syncRaw_kept {m : Nat} {s0 : State} (hp : Sub 6734794588160 m) {s : State} {n : Nat} (hk : Kept m s0 s) : Kept m s0 (State.syncRaw s n) := by
  unfold State.syncRaw
  extract_lets +onlyGivenNames x0
  have h1 : Kept m s0 x0 := by
    unfold x0
    refine State.emitRaw_kept hp ?_
    assumption
  try (generalize x0 = y0 at h1 ⊢; try clear x0)
  refine State.emitRaw_kept hp ?_
  refine State.setTsrc_kept (Sub.trans (b := 6734794588160) (by decide) hp) ?_
  assumption

theorem State.syncDue_kept {m : Nat} {s0 : State} (hp : Sub 6734794588160 m) {s : State} {n : Nat} (hk : Kept m s0 s) : Kept m s0 (State.syncDue s n) := by
  unfold State.syncDue
  refine Kept.cond (fun _ => ?_) (fun _ => ?_)
  · assumption
  · refine State.syncRaw_kept hp ?_
    assumption

theorem State.flushAtoms_kept {m : Nat} {s0 : State} (hp : Sub 6734794588160 m) {s : State} {n : Nat} (hk : Kept m s0 s) : Kept m s0 (State.flushAtoms s n) := by
  unfold State.flushAtoms
  extract_lets +onlyGivenNames x0
  have h1 : Kept m s0 x0 := by
    unfold x0
    refine State.ovfTry_kept (Sub.trans (b := 6734794588160) (by decide) hp) ?_
    assumption
  try (generalize x0 = y0 at h1 ⊢; try clear x0)
  extract_lets +onlyGivenNames x2
  refine Kept.cond (fun _ => ?_) (fun _ => ?_)
  · assumption
  · refine State.syncDue_kept hp ?_
    refine State.tick1_kept (Sub.trans (b := 6734794588160) (by decide) hp) ?_
    refine State.putRaw_kept hp ?_
    refine State.setTsrc_kept (Sub.trans (b := 6734794588160) (by decide) hp) ?_
    assumption

theorem State.emitCore_kept {m : Nat} {s0 : State} (hp : Sub 6734794588160 m) {s : State} {n : Nat} {p : Bytes} (hk : Kept m s0 s) : Kept m s0 (State.emitCore s n p) := by
  unfold State.emitCore
  refine Kept.cond (fun _ => ?_) (fun _ => ?_)
  · assumption
  · refine State.syncDue_kept hp ?_
    refine State.emitRaw_kept hp ?_
    refine State.flushAtoms_kept hp ?_
    assumption

theorem State.emitCC_kept {m : Nat} {s0 : State} (hp : Sub 6734794588160 m) {s : State} {n : Nat} {hd : Byte} {rest : Bytes} (hk : Kept m s0 s) : Kept m s0 (State.emitCC s n hd rest) := by
  unfold State.emitCC
  extract_lets +onlyGivenNames x0
  have h1 : Kept m s0 x0 := by
    unfold x0
    refine Kept.cond (fun _ => ?_) (fun _ => ?_)
    · refine State.flushAtoms_kept hp ?_
      assumption
    · assumption
  try (generalize x0 = y0 at h1 ⊢; try clear x0)
  refine State.tick1_kept (Sub.trans (b := 6734794588160) (by decide) hp) ?_
  refine State.emitCore_kept hp ?_
  assumption

theorem State.atom_kept {m : Nat} {s0 : State} (hp : Sub 6734794588160 m) {s : State} {n : Nat} {taken : Bool} (hk : Kept m s0 s) : Kept m s0 (State.atom s n taken) := by
  unfold State.atom
  refine Kept.cond (fun _ => ?_) (fun _ => ?_)
  · assumption
  · extract_lets +onlyGivenNames x0
    extract_lets +onlyGivenNames x1
    have h2 : Kept m s0 x1 := by
      unfold x1
      refine State.setTsrc_kept (Sub.trans (b := 6734794588160) (by decide) hp) ?_
      assumption
    try (generalize x1 = y1 at h2 ⊢; try clear x1)
    refine Kept.cond (fun _ => ?_) (fun _ => ?_)
    · refine State.flushAtoms_kept hp ?_
      assumption
    · assumption

theorem State.emitSync_kept {m : Nat} {s0 : State} (hp : Sub 6734794588160 m) {s : State} {n : Nat} (hk : Kept m s0 s) : Kept m s0 (State.emitSync s n) := by
  unfold State.emitSync
  refine Kept.cond (fun _ => ?_) (fun _ => ?_)
  · refine State.syncRaw_kept hp ?_
    refine State.flushAtoms_kept hp ?_
    assumption
  · assumption

theorem State.uevt_kept {m : Nat} {s0 : State} (hp : Sub 6734794588160 m) {s : State} {kind : Nat} {idx : Nat} {off : Nat} {b : Nat} (hk : Kept m s0 s) : Kept m s0 (State.uevt s kind idx off b) := by
  unfold State.uevt
  refine Kept.cond (fun _ => ?_) (fun _ => ?_)
  · refine State.emitRaw_kept hp ?_
    assumption
  · assumption

theorem State.release1_kept {m : Nat} {s0 : State} (hp : Sub 268435456 m) {s : State} {id : Nat} (hk : Kept m s0 s) : Kept m s0 (State.release1 s id) := by
  unfold State.release1
  extract_lets +onlyGivenNames x0
  split
  · refine Kept.cond (fun _ => ?_) (fun _ => ?_)
    · refine State.setTsrc_kept hp ?_
      assumption
    · assumption
  · assumption

end Sys2Proof.Machine
end

