-- ==== Sys2Proof/Laws/KeptEvent.lean ====
section
/-!
SUPPORT. What the definitions of Machine/Event.lean keep: one lemma each.
-/
namespace Sys2Proof.Machine

theorem State.setEvt_kept {m : Nat} {s0 : State} (hp : Sub 2336479641600 m) {s : State} {r : Reg} {en : Reg} {i : Nat} {b : Nat} {src : Nat} (hr_r : m.testBit r.block.ctorIdx = true) (hk : Kept m s0 s) : Kept m s0 (State.setEvt s r en i b src) := by
  unfold State.setEvt
  refine Kept.cond (fun _ => ?_) (fun _ => ?_)
  · assumption
  · extract_lets +onlyGivenNames x0
    have h1 : Kept m s0 x0 := by
      unfold x0
      refine State.setB_kept' rfl hr_r ?_
      assumption
    try (generalize x0 = y0 at h1 ⊢; try clear x0)
    refine Kept.cond (fun _ => ?_) (fun _ => ?_)
    · refine State.raise_kept hp ?_
      assumption
    · assumption

theorem State.unitEvt_kept {m : Nat} {s0 : State} (hp : Sub 6734794588160 m) {s : State} {r : Reg} {en : Reg} {i : Nat} {b : Nat} {src : Nat} {kind : Nat} {off : Nat} (hr_r : m.testBit r.block.ctorIdx = true) (hk : Kept m s0 s) : Kept m s0 (State.unitEvt s r en i b src kind off) := by
  unfold State.unitEvt
  refine State.uevt_kept hp ?_
  refine State.setEvt_kept (Sub.trans (b := 6734794588160) (by decide) hp) hr_r ?_
  assumption

theorem State.plEvt_kept {m : Nat} {s0 : State} (hp : Sub 6736942071808 m) {s : State} {n : Nat} {b : Nat} (hk : Kept m s0 s) : Kept m s0 (State.plEvt s n b) := by
  unfold State.plEvt
  refine State.unitEvt_kept (Sub.trans (b := 6736942071808) (by decide) hp) (by rw [Reg.PL_EVT_block]; exact hp.bit (by decide)) ?_
  assumption

theorem State.lcEvt_kept {m : Nat} {s0 : State} (hp : Sub 2340774608896 m) {s : State} {c : Nat} {b : Nat} (hk : Kept m s0 s) : Kept m s0 (State.lcEvt s c b) := by
  unfold State.lcEvt
  refine State.setEvt_kept (Sub.trans (b := 2340774608896) (by decide) hp) (by rw [Reg.LC_EVT_block]; exact hp.bit (by decide)) ?_
  assumption

theorem State.railEvt_kept {m : Nat} {s0 : State} (hp : Sub 2345069576192 m) {s : State} {r : Nat} {b : Nat} (hk : Kept m s0 s) : Kept m s0 (State.railEvt s r b) := by
  unfold State.railEvt
  refine State.setEvt_kept (Sub.trans (b := 2345069576192) (by decide) hp) (by rw [Reg.RAIL_EVT_block]; exact hp.bit (by decide)) ?_
  assumption

theorem State.hintEvt_kept {m : Nat} {s0 : State} (hp : Sub 6743384522752 m) {s : State} {h_ : Nat} {b : Nat} (hk : Kept m s0 s) : Kept m s0 (State.hintEvt s h_ b) := by
  unfold State.hintEvt
  refine State.unitEvt_kept (Sub.trans (b := 6743384522752) (by decide) hp) (by rw [Reg.HINT_EVT_block]; exact hp.bit (by decide)) ?_
  assumption

theorem State.cmpEvt_kept {m : Nat} {s0 : State} (hp : Sub 2405199118336 m) {s : State} {b : Nat} (hk : Kept m s0 s) : Kept m s0 (State.cmpEvt s b) := by
  unfold State.cmpEvt
  refine State.setEvt_kept (Sub.trans (b := 2405199118336) (by decide) hp) (by rw [Reg.CMP_EVT_block]; exact hp.bit (by decide)) ?_
  assumption

theorem State.mbxEvt_kept {m : Nat} {s0 : State} (hp : Sub 7009672495104 m) {s : State} {m_ : Nat} {b : Nat} (hk : Kept m s0 s) : Kept m s0 (State.mbxEvt s m_ b) := by
  unfold State.mbxEvt
  refine State.unitEvt_kept (Sub.trans (b := 7009672495104) (by decide) hp) (by rw [Reg.MBX_EVT_block]; exact hp.bit (by decide)) ?_
  assumption

theorem State.portEvt_kept {m : Nat} {s0 : State} (hp : Sub 15530887610368 m) {s : State} {u : Nat} {b : Nat} (hk : Kept m s0 s) : Kept m s0 (State.portEvt s u b) := by
  unfold State.portEvt
  refine State.unitEvt_kept (Sub.trans (b := 15530887610368) (by decide) hp) (by rw [Reg.PORT_EVT_block]; exact hp.bit (by decide)) ?_
  assumption

end Sys2Proof.Machine
end

