-- ==== Sys2Proof/Laws/KeptAddrMap.lean ====
section
/-!
SUPPORT. What the definitions of Machine/AddrMap.lean keep: one lemma each.
-/
namespace Sys2Proof.Machine

theorem State.denied_kept {m : Nat} {s0 : State} (hp : Sub 1099511627776 m) {s : State} {x : Option Nat} (hk : Kept m s0 s) : Kept m s0 (State.denied s x) := by
  unfold State.denied
  split
  · refine State.inc_kept' Reg.STL_MGR_STAT_block (hp.bit (by decide)) ?_
    assumption
  · assumption

theorem State.lineWhole_kept {m : Nat} {s0 : State} (hp : Sub 262144 m) {s : State} {l : Nat} (hk : Kept m s0 s) : Kept m s0 (State.lineWhole s l) := by
  unfold State.lineWhole
  refine Kept.upd_poison (hp.bit (by decide)) ?_
  assumption

theorem Core.lose_inCap {c : Core} {ls : List Nat} (h : c.inCap) : (c.lose ls).inCap := h
theorem State.snoop_kept {m : Nat} {s0 : State} (hp : Sub 131072 m) {s : State} {q : Req} {a n : Nat} (hk : Kept m s0 s) : Kept m s0 (s.snoop q a n) := by
  unfold State.snoop
  refine Kept.upd hk rfl (Nat.le_refl _) (fun _ _ => rfl) (.inr rfl) (.inr rfl) (.inr rfl) (.inr rfl) (.inr rfl) (.inr rfl) (.inr rfl) (.inr rfl) (.inr rfl) (.inr rfl) (.inr rfl) (.inr rfl) (.inr rfl) (.inr rfl) (.inr rfl) (.inr rfl) (.inr rfl) (.inr rfl) (.inl ⟨hp.bit (by decide), ?_⟩) (.inl (hp.bit (by decide))) (.inr rfl) (.inr rfl) (.inr rfl) (.inr rfl) (.inr rfl) (.inr rfl) (.inr rfl) (.inr rfl) (.inr rfl) (.inr rfl) (.inr rfl)
  refine CoreOk.mapKey (fun e => ?_) (fun e he => ?_)
  · split <;> rfl
  · split
    · exact he
    · exact Core.lose_inCap he

theorem State.l2Back_kept {m : Nat} {s0 : State} (hp : Sub 262144 m) {s : State} {k : Nat} {l : Nat} (hk : Kept m s0 s) : Kept m s0 (State.l2Back s k l) := by
  unfold State.l2Back
  refine Kept.cond (fun _ => ?_) (fun _ => ?_)
  · refine State.lineWhole_kept hp ?_
    assumption
  · assumption

theorem State.l2Evict_kept {m : Nat} {s0 : State} (hp : Sub 393216 m) {s : State} {k : Nat} {l : Nat} (hk : Kept m s0 s) : Kept m s0 (State.l2Evict s k l) := by
  unfold State.l2Evict
  extract_lets +onlyGivenNames x0
  have h1 : Kept m s0 x0 := by
    unfold x0
    refine State.l2Back_kept (Sub.trans (b := 393216) (by decide) hp) ?_
    assumption
  try (generalize x0 = y0 at h1 ⊢; try clear x0)
  refine Kept.upd ?_ rfl (Nat.le_refl _) (fun _ _ => rfl) (.inr rfl) (.inr rfl) (.inr rfl) (.inr rfl) (.inr rfl) (.inr rfl) (.inr rfl) (.inr rfl) (.inr rfl) (.inr rfl) (.inr rfl) (.inr rfl) (.inr rfl) (.inr rfl) (.inr rfl) (.inr rfl) (.inr rfl) (.inr rfl) (.inl ⟨hp.bit (by decide), by first | exact fun h => h | exact CoreOk.nil | exact CoreOk.map (fun _ h => h) | exact CoreOk.set (fun h => h) | exact CoreOk.mapKey (fun e => by split <;> rfl) (fun e he => by split <;> exact he)⟩) (.inl (hp.bit (by decide))) (.inr rfl) (.inr rfl) (.inr rfl) (.inr rfl) (.inr rfl) (.inr rfl) (.inr rfl) (.inr rfl) (.inr rfl) (.inr rfl) (.inr rfl)
  assumption

theorem State.l2Fill_kept {m : Nat} {s0 : State} (hp : Sub 393216 m) {s : State} {k : Nat} {l : Nat} (hk : Kept m s0 s) : Kept m s0 (State.l2Fill s k l) := by
  unfold State.l2Fill
  split
  · refine Kept.upd_l2 (hp.bit (by decide)) ?_
    assumption
  · extract_lets +onlyGivenNames x0
    have h1 : Kept m s0 x0 := by
      unfold x0
      refine Kept.forEach (fun z2 a3 h4 => ?_) ?_
      · refine State.l2Back_kept (Sub.trans (b := 393216) (by decide) hp) ?_
        assumption
      · assumption
    try (generalize x0 = y0 at h1 ⊢; try clear x0)
    extract_lets +onlyGivenNames x5
    have h6 : Kept m s0 x5 := by
      unfold x5
      split
      · refine State.tick1_kept (Sub.trans (b := 393216) (by decide) hp) ?_
        refine State.l2Evict_kept hp ?_
        assumption
      · assumption
    try (generalize x5 = y5 at h6 ⊢; try clear x5)
    extract_lets +onlyGivenNames x7
    extract_lets +onlyGivenNames x8
    refine Kept.upd_l2 (hp.bit (by decide)) ?_
    assumption

theorem State.l1dFill_kept {m : Nat} {s0 : State} (hp : Sub 393216 m) {s : State} {n : Nat} {l : Nat} (hk : Kept m s0 s) : Kept m s0 (State.l1dFill s n l) := by
  unfold State.l1dFill
  refine Kept.cond (fun _ => ?_) (fun _ => ?_)
  · assumption
  · extract_lets +onlyGivenNames x0
    have h1 : Kept m s0 x0 := by
      unfold x0
      refine State.l2Fill_kept hp ?_
      assumption
    try (generalize x0 = y0 at h1 ⊢; try clear x0)
    extract_lets +onlyGivenNames x2
    have h3 : Kept m s0 x2 := by
      unfold x2
      refine Kept.upd_core ⟨hp.bit (by decide), by first | exact fun h => h | exact CoreOk.nil | exact CoreOk.map (fun _ h => h) | exact CoreOk.set (fun h => h) | exact CoreOk.mapKey (fun e => by split <;> rfl) (fun e he => by split <;> exact he)⟩ ?_
      assumption
    try (generalize x2 = y2 at h3 ⊢; try clear x2)
    extract_lets +onlyGivenNames x4
    have h5 : Kept m s0 x4 := by
      unfold x4
      split
      · refine State.tick1_kept (Sub.trans (b := 393216) (by decide) hp) ?_
        first | refine State.setCor_keptOf (Sub.trans (b := 393216) (by decide) hp) (by assumption) (fun h => h) ?_ | refine State.setCor_kept (Sub.trans (b := 393216) (by decide) hp) (by first | exact fun h => h | exact fun _ => ⟨Nat.zero_le _, Nat.zero_le _, Nat.zero_le _⟩ | exact fun h => ⟨Nat.zero_le _, h.2⟩ | exact fun h => ⟨List.length_take_le _ _, h.2⟩ | (intro h; simp +zetaDelta only [Core.inCap] at h ⊢; exact h) | exact fun h => ⟨h.1, Nat.le_trans (List.length_filter_le _ _) h.2.1, Nat.le_trans (List.length_filter_le _ _) h.2.2⟩) ?_
        assumption
      · assumption
    try (generalize x4 = y4 at h5 ⊢; try clear x4)
    first | refine State.setCor_keptOf (Sub.trans (b := 393216) (by decide) hp) (by assumption) (fun h => h) ?_ | refine State.setCor_kept (Sub.trans (b := 393216) (by decide) hp) (by first | exact fun h => h | exact fun _ => ⟨Nat.zero_le _, Nat.zero_le _, Nat.zero_le _⟩ | exact fun h => ⟨Nat.zero_le _, h.2⟩ | exact fun h => ⟨List.length_take_le _ _, h.2⟩ | (intro h; simp +zetaDelta only [Core.inCap] at h ⊢; exact h) | exact fun h => ⟨h.1, Nat.le_trans (List.length_filter_le _ _) h.2.1, Nat.le_trans (List.length_filter_le _ _) h.2.2⟩) ?_
    assumption

theorem State.memWr_kept {m : Nat} {s0 : State} (hp : Sub 393218 m) {s : State} {q : Req} {a : Nat} {b : Bytes} (hk : Kept m s0 s) : Kept m s0 (State.memWr s q a b).1 := by
  unfold State.memWr
  refine Kept.cond1 (fun _ => ?_) (fun _ => ?_)
  · extract_lets +onlyGivenNames x0
    have h1 : Kept m s0 x0 := by
      unfold x0
      refine State.snoop_kept (Sub.trans (b := 393218) (by decide) hp) ?_
      refine State.mput_kept (Sub.trans (b := 393218) (by decide) hp) ?_
      assumption
    try (generalize x0 = y0 at h1 ⊢; try clear x0)
    show Kept m s0 _
    refine Kept.upd_poison (hp.bit (by decide)) ?_
    assumption
  · show Kept m s0 _
    assumption

theorem State.poisonLine_kept {m : Nat} {s0 : State} (hp : Sub 262144 m) {s : State} {a : Nat} (hk : Kept m s0 s) : Kept m s0 (State.poisonLine s a) := by
  unfold State.poisonLine
  extract_lets +onlyGivenNames x0
  refine Kept.cond (fun _ => ?_) (fun _ => ?_)
  · assumption
  · refine Kept.upd_poison (hp.bit (by decide)) ?_
    assumption

end Sys2Proof.Machine
end

