-- ==== Sys2Proof/Laws/KeptEvd.lean ====
section
/-!
SUPPORT. What the definitions of Machine/Evd.lean keep: one lemma each.
-/
namespace Sys2Proof.Machine

theorem State.withdraw_kept {m : Nat} {s0 : State} (hp : Sub 524288 m) {s : State} (hk : Kept m s0 s) : Kept m s0 (State.withdraw s) := by
  unfold State.withdraw
  refine State.setPres_kept hp ?_
  assumption

theorem State.evdAck_kept {m : Nat} {s0 : State} (hp : Sub 137439477760 m) {s : State} {t : Nat} (hk : Kept m s0 s) : Kept m s0 (State.evdAck s t).1 := by
  unfold State.evdAck
  split
  · show Kept m s0 _
    assumption
  · extract_lets +onlyGivenNames x0
    extract_lets +onlyGivenNames x1
    extract_lets +onlyGivenNames x2
    have h3 : Kept m s0 x2 := by
      unfold x2
      refine State.setB_kept' Reg.EVD_ACTIVE_block (hp.bit (by decide)) ?_
      refine State.clrB_kept' Reg.EVD_PEND_SET_block (hp.bit (by decide)) ?_
      assumption
    try (generalize x2 = y2 at h3 ⊢; try clear x2)
    extract_lets +onlyGivenNames x4
    extract_lets +onlyGivenNames x5
    have h6 : Kept m s0 x5 := by
      unfold x5
      refine Kept.upd_evd (hp.bit (by decide)) ?_
      assumption
    try (generalize x5 = y5 at h6 ⊢; try clear x5)
    show Kept m s0 _
    assumption

theorem State.evdEoi_kept {m : Nat} {s0 : State} (hp : Sub 137439477760 m) {s : State} {t : Nat} {v : W32} (hk : Kept m s0 s) : Kept m s0 (State.evdEoi s t v) := by
  unfold State.evdEoi
  extract_lets +onlyGivenNames x0
  refine Kept.cond (fun _ => ?_) (fun _ => ?_)
  · extract_lets +onlyGivenNames x1
    have h2 : Kept m s0 x1 := by
      unfold x1
      refine State.clrB_kept' Reg.EVD_ACTIVE_block (hp.bit (by decide)) ?_
      assumption
    try (generalize x1 = y1 at h2 ⊢; try clear x1)
    refine Kept.upd_evd (hp.bit (by decide)) ?_
    assumption
  · refine State.inc_kept' Reg.EVD_TGT_STAT_block (hp.bit (by decide)) ?_
    assumption

theorem State.evdPmr_kept {m : Nat} {s0 : State} (hp : Sub 137439477760 m) {s : State} {t : Nat} {v : W32} (hk : Kept m s0 s) : Kept m s0 (State.evdPmr s t v) := by
  unfold State.evdPmr
  refine State.withdraw_kept (Sub.trans (b := 137439477760) (by decide) hp) ?_
  refine State.pf_kept' Reg.EVD_PMR_block (hp.bit (by decide)) ?_
  assumption

theorem State.evdSwgen_kept {m : Nat} {s0 : State} (hp : Sub 2336479641600 m) {s : State} {v : W32} (hk : Kept m s0 s) : Kept m s0 (State.evdSwgen s v) := by
  unfold State.evdSwgen
  refine State.raise_kept hp ?_
  assumption

theorem State.evdFallback_kept {m : Nat} {s0 : State} (hp : Sub 137439477760 m) {s : State} {v : W32} (hk : Kept m s0 s) : Kept m s0 (State.evdFallback s v) := by
  unfold State.evdFallback
  refine Kept.cond (fun _ => ?_) (fun _ => ?_)
  · refine State.withdraw_kept (Sub.trans (b := 137439477760) (by decide) hp) ?_
    refine State.pf_kept' Reg.EVD_FALLBACK_block (hp.bit (by decide)) ?_
    assumption
  · refine State.pb_kept' Reg.EVD_STATUS_block (hp.bit (by decide)) ?_
    assumption

theorem State.evdEnSet_kept {m : Nat} {s0 : State} (hp : Sub 137438953472 m) {s : State} {k : Nat} {v : W32} (hk : Kept m s0 s) : Kept m s0 (State.evdEnSet s k v) := by
  unfold State.evdEnSet
  refine State.wr_kept' Reg.EVD_EN_SET_block (hp.bit (by decide)) ?_
  assumption

theorem State.evdEnClr_kept {m : Nat} {s0 : State} (hp : Sub 137439477760 m) {s : State} {k : Nat} {v : W32} (hk : Kept m s0 s) : Kept m s0 (State.evdEnClr s k v) := by
  unfold State.evdEnClr
  refine State.withdraw_kept (Sub.trans (b := 137439477760) (by decide) hp) ?_
  refine State.wr_kept' Reg.EVD_EN_SET_block (hp.bit (by decide)) ?_
  assumption

theorem State.evdPendSet_kept {m : Nat} {s0 : State} (hp : Sub 2336479641600 m) {s : State} {k : Nat} {v : W32} (hk : Kept m s0 s) : Kept m s0 (State.evdPendSet s k v) := by
  unfold State.evdPendSet
  refine Kept.forEach (fun z0 a1 h2 => ?_) ?_
  · refine State.raise_kept hp ?_
    assumption
  · assumption

theorem State.evdPendClr_kept {m : Nat} {s0 : State} (hp : Sub 137439477760 m) {s : State} {k : Nat} {v : W32} (hk : Kept m s0 s) : Kept m s0 (State.evdPendClr s k v) := by
  unfold State.evdPendClr
  refine State.withdraw_kept (Sub.trans (b := 137439477760) (by decide) hp) ?_
  refine State.wr_kept' Reg.EVD_PEND_SET_block (hp.bit (by decide)) ?_
  assumption

theorem State.evdSrcCfg_kept {m : Nat} {s0 : State} (hp : Sub 2336479641600 m) {s : State} {x : Nat} {v : W32} (hk : Kept m s0 s) : Kept m s0 (State.evdSrcCfg s x v) := by
  unfold State.evdSrcCfg
  extract_lets +onlyGivenNames x0
  extract_lets +onlyGivenNames x1
  extract_lets +onlyGivenNames x2
  extract_lets +onlyGivenNames x3
  have h4 : Kept m s0 x3 := by
    unfold x3
    refine State.withdraw_kept (Sub.trans (b := 2336479641600) (by decide) hp) ?_
    refine State.plainWrite_kept' Reg.EVD_SRC_CFG_block (hp.bit (by decide)) ?_
    assumption
  try (generalize x3 = y3 at h4 ⊢; try clear x3)
  refine Kept.cond (fun _ => ?_) (fun _ => ?_)
  · refine State.wake_kept (Sub.trans (b := 2336479641600) (by decide) hp) ?_
    assumption
  · assumption

theorem State.evdLoad_kept {m : Nat} {s0 : State} (hp : Sub 137439477760 m) {s : State} (hk : Kept m s0 s) : Kept m s0 (State.evdLoad s) := by
  unfold State.evdLoad
  extract_lets +onlyGivenNames x0
  have h1 : Kept m s0 x0 := by
    unfold x0
    refine State.clearRegs_keptM hp (by decide +kernel) ?_
    assumption
  try (generalize x0 = y0 at h1 ⊢; try clear x0)
  extract_lets +onlyGivenNames x2
  have h3 : Kept m s0 x2 := by
    unfold x2
    refine Kept.upd_evd (hp.bit (by decide)) ?_
    assumption
  try (generalize x2 = y2 at h3 ⊢; try clear x2)
  refine Kept.forEach (fun z4 a5 h6 => ?_) ?_
  · extract_lets +onlyGivenNames x7
    have h8 : Kept m s0 x7 := by
      unfold x7
      refine State.wr_kept' Reg.EVD_SRC_CFG_block (hp.bit (by decide)) ?_
      assumption
    try (generalize x7 = y7 at h8 ⊢; try clear x7)
    refine Kept.cond (fun _ => ?_) (fun _ => ?_)
    · refine State.setB_kept' Reg.EVD_EN_SET_block (hp.bit (by decide)) ?_
      assumption
    · assumption
  · assumption

theorem execEvdPresentation_kept {m : Nat} {s0 : State} (hp : Sub 2199040688128 m) {t : Fin 32} {s : State} (hk : Kept m s0 s) : OutKept m s0 (execEvdPresentation t s) := by
  unfold execEvdPresentation
  refine OutKept.next ?_
  refine State.present_kept hp ?_
  assumption

theorem execEvdModerationRelease_kept {m : Nat} {s0 : State} (hp : Sub 2199040688128 m) {t : Fin 32} {s : State} (hk : Kept m s0 s) : OutKept m s0 (execEvdModerationRelease t s) := by
  unfold execEvdModerationRelease
  refine OutKept.next ?_
  split
  · refine Kept.cond (fun _ => ?_) (fun _ => ?_)
    · refine State.present_kept hp ?_
      refine Kept.upd_evd (hp.bit (by decide)) ?_
      assumption
    · assumption
  · assumption

end Sys2Proof.Machine
end

