-- ==== Sys2Proof/Laws/KeptMbx.lean ====
section
/-!
SUPPORT. What the definitions of Machine/Mbx.lean keep: one lemma each.
-/
namespace Sys2Proof.Machine

theorem State.setMb_kept {m : Nat} {s0 : State} (hp : Sub 1048576 m) {s : State} {m_ : Nat} {x : Mailbox} (hx : (tget Mailbox.init s.mbx m_).inCap → x.inCap) (hk : Kept m s0 s) : Kept m s0 (State.setMb s m_ x) := by
  unfold State.setMb
  refine Kept.upd_mbx ⟨hp.bit (by decide), MbxOk.set hx⟩ ?_
  assumption
theorem Mailbox.setDir_inCap {x : Mailbox} {ba : Bool} {d : MbxDir} (h : x.inCap) (hq : (x.dir ba).q.length ≤ 8 → d.q.length ≤ 8) : (x.setDir ba d).inCap := by
  cases ba
  · exact ⟨hq h.1, h.2⟩
  · exact ⟨h.1, hq h.2⟩

theorem State.setDir_kept {m : Nat} {s0 : State} (hp : Sub 1048576 m) {s : State} {m_ : Nat} {ba : Bool} {d : MbxDir} (hq : ((s.mb m_).dir ba).q.length ≤ 8 → d.q.length ≤ 8) (hk : Kept m s0 s) : Kept m s0 (State.setDir s m_ ba d) := by
  unfold State.setDir
  refine State.setMb_kept hp (fun h => Mailbox.setDir_inCap h hq) ?_
  assumption

theorem State.setXp_kept {m : Nat} {s0 : State} (hp : Sub 33554432 m) {s : State} {u : Nat} {x : ExtPort} (hk : Kept m s0 s) : Kept m s0 (State.setXp s u x) := by
  unfold State.setXp
  refine Kept.upd_ext (hp.bit (by decide)) ?_
  assumption

theorem State.notifyPort_kept {m : Nat} {s0 : State} (hp : Sub 8796126576640 m) {s : State} {m_ : Nat} {b : Nat} (hk : Kept m s0 s) : Kept m s0 (State.notifyPort s m_ b) := by
  unfold State.notifyPort
  split
  · assumption
  · split
    · refine State.setXp_kept (Sub.trans (b := 8796126576640) (by decide) hp) ?_
      assumption
    · refine State.inc_kept' Reg.PORT_ERR1_block (hp.bit (by decide)) ?_
      assumption

theorem State.mEvt_kept {m : Nat} {s0 : State} (hp : Sub 15805799071744 m) {s : State} {m_ : Nat} {b : Nat} (hk : Kept m s0 s) : Kept m s0 (State.mEvt s m_ b) := by
  unfold State.mEvt
  refine Kept.cond (fun _ => ?_) (fun _ => ?_)
  · assumption
  · extract_lets +onlyGivenNames x0
    have h1 : Kept m s0 x0 := by
      unfold x0
      refine State.mbxEvt_kept (Sub.trans (b := 15805799071744) (by decide) hp) ?_
      assumption
    try (generalize x0 = y0 at h1 ⊢; try clear x0)
    refine Kept.cond (fun _ => ?_) (fun _ => ?_)
    · refine State.notifyPort_kept (Sub.trans (b := 15805799071744) (by decide) hp) ?_
      assumption
    · assumption

theorem State.mbxPush_kept {m : Nat} {s0 : State} (hp : Sub 15805800120320 m) {s : State} {m_ : Nat} {ba : Bool} {cls : Nat} {stall : Nat} {org : Nat} {w : W32} (hk : Kept m s0 s) : Kept m s0 (State.mbxPush s m_ ba cls stall org w) := by
  unfold State.mbxPush
  refine Kept.cond (fun _ => ?_) (fun hn => ?_)
  · exact State.inc_kept' Reg.MBX_ERR_block (hp.bit (by decide)) (State.setDir_kept (Sub.trans (b := 15805800120320) (by decide) hp) (fun h => by unfold MbxDir.wait; split <;> exact h) hk)
  · refine State.mEvt_kept (Sub.trans (b := 15805800120320) (by decide) hp) (State.setDir_kept (Sub.trans (b := 15805800120320) (by decide) hp) (fun _ => ?_) hk)
    have h : (((s.mb m_).dir ba).q ++ [(BitVec.ofNat 32 (cls * 2 ^ 28 + stall * 2 ^ 20 + org * 2 ^ 12 + ((s.mb m_).dir ba).seq), w)]).length ≤ 8 := by
      have : ¬ ((s.mb m_).dir ba).q.length ≥ 8 := fun e => hn (.inl e)
      simp only [List.length_append, List.length_cons, List.length_nil]
      omega
    unfold MbxDir.wait; split <;> exact h

theorem State.mbxPop_kept {m : Nat} {s0 : State} (hp : Sub 1048576 m) {s : State} {m_ : Nat} {ba : Bool} (hk : Kept m s0 s) : Kept m s0 (State.mbxPop s m_ ba).1 := by
  unfold State.mbxPop
  extract_lets +onlyGivenNames x0
  split
  · exact hk
  · next st w r e => exact State.setDir_kept hp (fun h => Nat.le_trans (Nat.le_succ _) (by have h' : x0.q.length ≤ 8 := h; rw [e] at h'; exact h')) hk

theorem State.mbxCode_kept {m : Nat} {s0 : State} (hp : Sub 15805800120320 m) {s : State} {m_ : Nat} {ba : Bool} {ok : Bool} {v : W32} (hk : Kept m s0 s) : Kept m s0 (State.mbxCode s m_ ba ok v) := by
  unfold State.mbxCode
  extract_lets +onlyGivenNames x0
  extract_lets +onlyGivenNames x1
  refine Kept.cond (fun _ => ?_) (fun _ => ?_)
  · refine State.mEvt_kept (Sub.trans (b := 15805800120320) (by decide) hp) ?_
    refine State.setDir_kept (Sub.trans (b := 15805800120320) (by decide) hp) (by first | exact fun h => h | exact fun _ => recDirOf_length _ _ _) ?_
    assumption
  · refine State.inc_kept' Reg.MBX_ERR2_block (hp.bit (by decide)) ?_
    assumption

theorem State.mbxReset_kept {m : Nat} {s0 : State} (hp : Sub 274878955520 m) {s : State} {m_ : Nat} (hk : Kept m s0 s) : Kept m s0 (State.mbxReset s m_) := by
  unfold State.mbxReset
  extract_lets +onlyGivenNames x0
  have h1 : Kept m s0 x0 := by
    unfold x0
    refine State.wr_kept' Reg.MBX_EVT_EN_block (hp.bit (by decide)) ?_
    refine State.wr_kept' Reg.MBX_EVT_block (hp.bit (by decide)) ?_
    refine State.setMb_kept (Sub.trans (b := 274878955520) (by decide) hp) (by first | exact fun h => h | exact fun _ => ⟨Nat.zero_le _, Nat.zero_le _⟩) ?_
    assumption
  try (generalize x0 = y0 at h1 ⊢; try clear x0)
  refine State.wr_kept' Reg.MBX_ERR2_block (hp.bit (by decide)) ?_
  refine State.wr_kept' Reg.MBX_ERR_block (hp.bit (by decide)) ?_
  assumption

theorem State.mbxTmo_kept {m : Nat} {s0 : State} (hp : Sub 15805800120320 m) {s : State} {m_ : Nat} {ba : Bool} (hk : Kept m s0 s) : Kept m s0 (State.mbxTmo s m_ ba) := by
  unfold State.mbxTmo
  extract_lets +onlyGivenNames x0
  extract_lets +onlyGivenNames x1
  refine Kept.cond (fun _ => ?_) (fun _ => ?_)
  · refine State.mEvt_kept (Sub.trans (b := 15805800120320) (by decide) hp) ?_
    refine State.setDir_kept (Sub.trans (b := 15805800120320) (by decide) hp) (by first | exact fun h => h | exact fun _ => recDirOf_length _ _ _) ?_
    assumption
  · assumption

theorem execMbxTimeout_kept {m : Nat} {s0 : State} (hp : Sub 15805800120320 m) {m_ : Fin 128} {ba : Bool} {s : State} (hk : Kept m s0 s) : OutKept m s0 (execMbxTimeout m_ ba s) := by
  unfold execMbxTimeout
  refine OutKept.next ?_
  refine State.mbxTmo_kept hp ?_
  assumption

end Sys2Proof.Machine
end

