-- ==== Sys2Proof/Laws/KeptDma.lean ====
section
/-!
SUPPORT. What the definitions of Machine/Dma.lean keep: one lemma each.
-/
namespace Sys2Proof.Machine

theorem State.setChn_kept {m : Nat} {s0 : State} (hp : Sub 2097152 m) {s : State} {c : Nat} {x : Chan} (hk : Kept m s0 s) : Kept m s0 (State.setChn s c x) := by
  unfold State.setChn
  refine Kept.upd_dma (hp.bit (by decide)) ?_
  assumption

theorem State.dmaWr_kept {m : Nat} {s0 : State} (hp : Sub 16905312010242 m) {s : State} {c : Nat} {a : Nat} {es : Nat} {b : Bytes} (hk : Kept m s0 s) : Kept m s0 (State.dmaWr s c a es b).1 := by
  unfold State.dmaWr
  split
  · extract_lets +onlyGivenNames x0
    refine Kept.cond1 (fun _ => ?_) (fun _ => ?_)
    · extract_lets +onlyGivenNames x1
      extract_lets +onlyGivenNames x2
      show Kept m s0 _
      refine State.mbxPush_kept (Sub.trans (b := 16905312010242) (by decide) hp) ?_
      assumption
    · show Kept m s0 _
      assumption
  · split
    · next e4 =>
        have h5 : Kept m s0 _ := Kept.fst e4 (by
            refine State.memWr_kept (Sub.trans (b := 16905312010242) (by decide) hp) ?_
            assumption
          )
        show Kept m s0 _
        assumption
    · next e7 =>
        have h8 : Kept m s0 _ := Kept.fst e7 (by
            refine State.memWr_kept (Sub.trans (b := 16905312010242) (by decide) hp) ?_
            assumption
          )
        show Kept m s0 _
        refine State.denied_kept (Sub.trans (b := 16905312010242) (by decide) hp) ?_
        assumption

theorem State.dmaGrp_kept {m : Nat} {s0 : State} (hp : Sub 2886235455488 m) {s : State} {c : Nat} (hk : Kept m s0 s) : Kept m s0 (State.dmaGrp s c) := by
  unfold State.dmaGrp
  extract_lets +onlyGivenNames x0
  extract_lets +onlyGivenNames x1
  have h2 : Kept m s0 x1 := by
    unfold x1
    refine State.setB_kept' Reg.DMA_GRP_PEND_block (hp.bit (by decide)) ?_
    assumption
  try (generalize x1 = y1 at h2 ⊢; try clear x1)
  refine Kept.cond (fun _ => ?_) (fun _ => ?_)
  · refine State.raise_kept (Sub.trans (b := 2886235455488) (by decide) hp) ?_
    assumption
  · assumption

theorem State.freeLines_kept {m : Nat} {s0 : State} (hp : Sub 2097152 m) {s : State} {c : Nat} (hk : Kept m s0 s) : Kept m s0 (State.freeLines s c) := by
  unfold State.freeLines
  refine Kept.upd_dma (hp.bit (by decide)) ?_
  assumption

theorem State.chSave_kept {m : Nat} {s0 : State} (hp : Sub 393218 m) {s : State} {c : Nat} (hk : Kept m s0 s) : Kept m s0 (State.chSave s c) := by
  unfold State.chSave
  extract_lets +onlyGivenNames x0
  refine State.memWr_kept hp ?_
  assumption

theorem State.chErr_kept {m : Nat} {s0 : State} (hp : Sub 2886237552640 m) {s : State} {c : Nat} {code : Nat} (hk : Kept m s0 s) : Kept m s0 (State.chErr s c code) := by
  unfold State.chErr
  extract_lets +onlyGivenNames x0
  extract_lets +onlyGivenNames x1
  extract_lets +onlyGivenNames x2
  have h3 : Kept m s0 x2 := by
    unfold x2
    refine State.setChn_kept (Sub.trans (b := 2886237552640) (by decide) hp) ?_
    refine State.freeLines_kept (Sub.trans (b := 2886237552640) (by decide) hp) ?_
    assumption
  try (generalize x2 = y2 at h3 ⊢; try clear x2)
  refine Kept.cond (fun _ => ?_) (fun _ => ?_)
  · refine State.dmaGrp_kept (Sub.trans (b := 2886237552640) (by decide) hp) ?_
    assumption
  · assumption

theorem State.ctxGet_kept {m : Nat} {s0 : State} (hp : Sub 2097152 m) {s : State} {c : Nat} (hk : Kept m s0 s) : Kept m s0 (State.ctxGet s c).1 := by
  unfold State.ctxGet
  refine Kept.cond1 (fun _ => ?_) (fun _ => ?_)
  · show Kept m s0 _
    assumption
  · split
    · show Kept m s0 _
      refine State.setChn_kept hp ?_
      assumption
    · show Kept m s0 _
      assumption

theorem State.chLoad_kept {m : Nat} {s0 : State} (hp : Sub 2886237552640 m) {s : State} {c : Nat} (hk : Kept m s0 s) : Kept m s0 (State.chLoad s c) := by
  unfold State.chLoad
  extract_lets +onlyGivenNames x0
  extract_lets +onlyGivenNames x1
  extract_lets +onlyGivenNames x2
  have h3 : Kept m s0 x2 := by
    unfold x2
    refine Kept.upd_dma (hp.bit (by decide)) ?_
    assumption
  try (generalize x2 = y2 at h3 ⊢; try clear x2)
  extract_lets +onlyGivenNames x4
  try clear_value x4
  split
  · refine State.chErr_kept hp ?_
    refine State.setChn_kept (Sub.trans (b := 2886237552640) (by decide) hp) ?_
    assumption
  · extract_lets +onlyGivenNames x5
    extract_lets +onlyGivenNames x6
    extract_lets +onlyGivenNames x7
    refine State.setChn_kept (Sub.trans (b := 2886237552640) (by decide) hp) ?_
    assumption

theorem State.chGo_kept {m : Nat} {s0 : State} (hp : Sub 2886237552640 m) {s : State} {c : Nat} (hk : Kept m s0 s) : Kept m s0 (State.chGo s c) := by
  unfold State.chGo
  split
  · next e2 =>
      have h3 : Kept m s0 _ := Kept.fst e2 (by
          refine State.ctxGet_kept (Sub.trans (b := 2886237552640) (by decide) hp) ?_
          assumption
        )
      refine Kept.cond (fun _ => ?_) (fun _ => ?_)
      · refine State.chLoad_kept hp ?_
        assumption
      · refine State.setChn_kept (Sub.trans (b := 2886237552640) (by decide) hp) ?_
        assumption

theorem State.aheadTry_kept {m : Nat} {s0 : State} (hp : Sub 2097152 m) {s : State} {c : Nat} (hk : Kept m s0 s) : Kept m s0 (State.aheadTry s c) := by
  unfold State.aheadTry
  extract_lets +onlyGivenNames x0
  split
  · refine Kept.cond (fun _ => ?_) (fun _ => ?_)
    · refine State.setChn_kept hp ?_
      refine Kept.upd_dma (hp.bit (by decide)) ?_
      assumption
    · assumption
  · assumption

theorem State.burstTry_kept {m : Nat} {s0 : State} (hp : Sub 2097152 m) {s : State} {c : Nat} (hk : Kept m s0 s) : Kept m s0 (State.burstTry s c) := by
  unfold State.burstTry
  extract_lets +onlyGivenNames x0
  split
  · refine Kept.cond (fun _ => ?_) (fun _ => ?_)
    · refine State.setChn_kept hp ?_
      refine Kept.upd_dma (hp.bit (by decide)) ?_
      assumption
    · refine State.aheadTry_kept hp ?_
      assumption
  · assumption

theorem State.chFlow_kept {m : Nat} {s0 : State} (hp : Sub 2097152 m) {s : State} {c : Nat} (hk : Kept m s0 s) : Kept m s0 (State.chFlow s c) := by
  unfold State.chFlow
  extract_lets +onlyGivenNames x0
  have h1 : Kept m s0 x0 := by
    unfold x0
    refine State.burstTry_kept hp ?_
    assumption
  try (generalize x0 = y0 at h1 ⊢; try clear x0)
  extract_lets +onlyGivenNames x2
  split
  · refine Kept.cond (fun _ => ?_) (fun _ => ?_)
    · refine State.setChn_kept hp ?_
      assumption
    · assumption
  · assumption

theorem State.displace_kept {m : Nat} {s0 : State} (hp : Sub 2490370 m) {s : State} {c : Nat} (hk : Kept m s0 s) : Kept m s0 (State.displace s c) := by
  unfold State.displace
  extract_lets +onlyGivenNames x0
  extract_lets +onlyGivenNames x1
  extract_lets +onlyGivenNames x2
  have h3 : Kept m s0 x2 := by
    unfold x2
    refine State.chSave_kept (Sub.trans (b := 2490370) (by decide) hp) ?_
    refine State.setChn_kept (Sub.trans (b := 2490370) (by decide) hp) ?_
    assumption
  try (generalize x2 = y2 at h3 ⊢; try clear x2)
  refine State.setChn_kept (Sub.trans (b := 2490370) (by decide) hp) ?_
  refine State.freeLines_kept (Sub.trans (b := 2490370) (by decide) hp) ?_
  assumption

theorem State.writeBurst_kept {m : Nat} {s0 : State} (hp : Sub 17455069921282 m) {s : State} {c : Nat} {all : Bool} {last : Bool} (hk : Kept m s0 s) : Kept m s0 (State.writeBurst s c all last).1 := by
  unfold State.writeBurst
  extract_lets +onlyGivenNames x0
  split
  · show Kept m s0 _
    assumption
  · extract_lets +onlyGivenNames x1
    extract_lets +onlyGivenNames x2
    refine Kept.cond1 (fun _ => ?_) (fun _ => ?_)
    · show Kept m s0 _
      assumption
    · refine Kept.cond1 (fun _ => ?_) (fun _ => ?_)
      · extract_lets +onlyGivenNames x3
        refine Kept.cond1 (fun _ => ?_) (fun _ => ?_)
        · show Kept m s0 _
          assumption
        · extract_lets +onlyGivenNames x4
          extract_lets +onlyGivenNames x5
          have h6 : Kept m s0 x5 := by
            unfold x5
            refine Kept.cond (fun _ => ?_) (fun _ => ?_)
            · refine Kept.upd_dma (hp.bit (by decide)) ?_
              assumption
            · assumption
          try (generalize x5 = y5 at h6 ⊢; try clear x5)
          show Kept m s0 _
          refine State.setChn_kept (Sub.trans (b := 17455069921282) (by decide) hp) ?_
          assumption
      · extract_lets +onlyGivenNames x7
        extract_lets +onlyGivenNames x8
        extract_lets +onlyGivenNames x9
        refine Kept.cond1 (fun _ => ?_) (fun _ => ?_)
        · show Kept m s0 _
          assumption
        · refine Kept.cond1 (fun _ => ?_) (fun _ => ?_)
          · show Kept m s0 _
            refine State.chErr_kept (Sub.trans (b := 17455069921282) (by decide) hp) ?_
            assumption
          · split
            · next e12 =>
                have h13 : Kept m s0 _ := Kept.fst e12 (by
                    refine State.dmaWr_kept (Sub.trans (b := 17455069921282) (by decide) hp) ?_
                    assumption
                  )
                refine Kept.cond1 (fun _ => ?_) (fun _ => ?_)
                · show Kept m s0 _
                  refine State.setChn_kept (Sub.trans (b := 17455069921282) (by decide) hp) ?_
                  assumption
                · show Kept m s0 _
                  refine State.chErr_kept (Sub.trans (b := 17455069921282) (by decide) hp) ?_
                  assumption

theorem State.flushBuf_kept {m : Nat} {s0 : State} (hp : Sub 17455069921282 m) {s : State} {c : Nat} {x2_ : Nat} (hk : Kept m s0 s) : Kept m s0 (State.flushBuf s c x2_).1 := by
  unfold State.flushBuf
  split
  · show Kept m s0 _
    assumption
  · refine Kept.cond1 (fun _ => ?_) (fun _ => ?_)
    · show Kept m s0 _
      assumption
    · split
      · next e2 =>
          have h3 : Kept m s0 _ := Kept.fst e2 (by
              refine State.writeBurst_kept hp ?_
              assumption
            )
          refine Kept.cond1 (fun _ => ?_) (fun _ => ?_)
          · refine State.flushBuf_kept hp ?_
            assumption
          · show Kept m s0 _
            assumption

theorem State.errAfterFlush_kept {m : Nat} {s0 : State} (hp : Sub 17455069921282 m) {s : State} {c : Nat} {code : Nat} (hk : Kept m s0 s) : Kept m s0 (State.errAfterFlush s c code) := by
  unfold State.errAfterFlush
  split
  · next e2 =>
      have h3 : Kept m s0 _ := Kept.fst e2 (by
          refine State.flushBuf_kept hp ?_
          assumption
        )
      refine Kept.cond (fun _ => ?_) (fun _ => ?_)
      · assumption
      · refine Kept.cond (fun _ => ?_) (fun _ => ?_)
        · refine State.chErr_kept (Sub.trans (b := 17455069921282) (by decide) hp) ?_
          assumption
        · refine State.setChn_kept (Sub.trans (b := 17455069921282) (by decide) hp) ?_
          assumption

theorem State.drained_kept {m : Nat} {s0 : State} (hp : Sub 2097152 m) {s : State} {c : Nat} (hk : Kept m s0 s) : Kept m s0 (State.drained s c) := by
  unfold State.drained
  extract_lets +onlyGivenNames x0
  refine Kept.cond (fun _ => ?_) (fun _ => ?_)
  · refine Kept.cond (fun _ => ?_) (fun _ => ?_)
    · refine State.setChn_kept hp ?_
      assumption
    · refine State.setChn_kept hp ?_
      assumption
  · assumption

theorem State.nextBarge_kept {m : Nat} {s0 : State} (hp : Sub 17455069921282 m) {s : State} {c : Nat} {st : ChSt} (hk : Kept m s0 s) : Kept m s0 (State.nextBarge s c st) := by
  unfold State.nextBarge
  extract_lets +onlyGivenNames x0
  extract_lets +onlyGivenNames x1
  extract_lets +onlyGivenNames x2
  have h3 : Kept m s0 x2 := by
    unfold x2
    refine State.setChn_kept (Sub.trans (b := 17455069921282) (by decide) hp) ?_
    assumption
  try (generalize x2 = y2 at h3 ⊢; try clear x2)
  split
  · refine Kept.cond (fun _ => ?_) (fun _ => ?_)
    · refine State.errAfterFlush_kept hp ?_
      assumption
    · refine State.chErr_kept (Sub.trans (b := 17455069921282) (by decide) hp) ?_
      assumption
  · assumption

theorem State.bargeEnd1_kept {m : Nat} {s0 : State} (hp : Sub 17455069921282 m) {s : State} {c : Nat} (hk : Kept m s0 s) : Kept m s0 (State.bargeEnd1 s c) := by
  unfold State.bargeEnd1
  extract_lets +onlyGivenNames x0
  split
  · assumption
  · extract_lets +onlyGivenNames x1
    have h2 : Kept m s0 x1 := by
      unfold x1
      refine State.setChn_kept (Sub.trans (b := 17455069921282) (by decide) hp) ?_
      assumption
    try (generalize x1 = y1 at h2 ⊢; try clear x1)
    extract_lets +onlyGivenNames x3
    extract_lets +onlyGivenNames x4
    extract_lets +onlyGivenNames x5
    have h6 : Kept m s0 x5 := by
      unfold x5
      refine Kept.cond (fun _ => ?_) (fun _ => ?_)
      · refine Kept.upd_dma (hp.bit (by decide)) ?_
        assumption
      · assumption
    try (generalize x5 = y5 at h6 ⊢; try clear x5)
    extract_lets +onlyGivenNames x7
    have h8 : Kept m s0 x7 := by
      unfold x7
      refine Kept.cond (fun _ => ?_) (fun _ => ?_)
      · refine State.dmaGrp_kept (Sub.trans (b := 17455069921282) (by decide) hp) ?_
        assumption
      · assumption
    try (generalize x7 = y7 at h8 ⊢; try clear x7)
    extract_lets +onlyGivenNames x9
    refine Kept.cond (fun _ => ?_) (fun _ => ?_)
    · refine State.chSave_kept (Sub.trans (b := 17455069921282) (by decide) hp) ?_
      refine State.setChn_kept (Sub.trans (b := 17455069921282) (by decide) hp) ?_
      refine State.freeLines_kept (Sub.trans (b := 17455069921282) (by decide) hp) ?_
      assumption
    · refine Kept.cond (fun _ => ?_) (fun _ => ?_)
      · refine State.setChn_kept (Sub.trans (b := 17455069921282) (by decide) hp) ?_
        assumption
      · refine Kept.cond (fun _ => ?_) (fun _ => ?_)
        · refine State.drained_kept (Sub.trans (b := 17455069921282) (by decide) hp) ?_
          refine State.nextBarge_kept hp ?_
          assumption
        · refine Kept.cond (fun _ => ?_) (fun _ => ?_)
          · refine State.displace_kept (Sub.trans (b := 17455069921282) (by decide) hp) ?_
            assumption
          · refine State.chFlow_kept (Sub.trans (b := 17455069921282) (by decide) hp) ?_
            refine State.nextBarge_kept hp ?_
            assumption

theorem State.bargeEnd_kept {m : Nat} {s0 : State} (hp : Sub 17455069921282 m) {s : State} {c : Nat} (hk : Kept m s0 s) : Kept m s0 (State.bargeEnd s c) := by
  unfold State.bargeEnd
  extract_lets +onlyGivenNames x0
  have h1 : Kept m s0 x0 := by
    unfold x0
    refine State.bargeEnd1_kept hp ?_
    assumption
  try (generalize x0 = y0 at h1 ⊢; try clear x0)
  extract_lets +onlyGivenNames x2
  split
  · refine Kept.cond (fun _ => ?_) (fun _ => ?_)
    · refine State.bargeEnd1_kept hp ?_
      refine State.setChn_kept (Sub.trans (b := 17455069921282) (by decide) hp) ?_
      assumption
    · assumption
  · assumption

theorem State.chAfter_kept {m : Nat} {s0 : State} (hp : Sub 17455069921282 m) {s : State} {c : Nat} (hk : Kept m s0 s) : Kept m s0 (State.chAfter s c) := by
  unfold State.chAfter
  extract_lets +onlyGivenNames x0
  split
  · split
    · refine Kept.cond (fun _ => ?_) (fun _ => ?_)
      · refine State.chErr_kept (Sub.trans (b := 17455069921282) (by decide) hp) ?_
        assumption
      · refine State.chFlow_kept (Sub.trans (b := 17455069921282) (by decide) hp) ?_
        assumption
    · refine Kept.cond (fun _ => ?_) (fun _ => ?_)
      · refine State.bargeEnd_kept hp ?_
        assumption
      · refine State.chFlow_kept (Sub.trans (b := 17455069921282) (by decide) hp) ?_
        refine State.drained_kept (Sub.trans (b := 17455069921282) (by decide) hp) ?_
        assumption
  · assumption

theorem State.readAhead_kept {m : Nat} {s0 : State} (hp : Sub 2097152 m) {s : State} {c : Nat} (hk : Kept m s0 s) : Kept m s0 (State.readAhead s c) := by
  unfold State.readAhead
  extract_lets +onlyGivenNames x0
  split
  · assumption
  · extract_lets +onlyGivenNames x1
    extract_lets +onlyGivenNames x2
    refine Kept.cond (fun _ => ?_) (fun _ => ?_)
    · assumption
    · extract_lets +onlyGivenNames x3
      refine Kept.cond (fun _ => ?_) (fun _ => ?_)
      · assumption
      · split
        · refine State.setChn_kept hp ?_
          assumption
        · assumption

theorem State.readBurst_kept {m : Nat} {s0 : State} (hp : Sub 17455069921282 m) {s : State} {c : Nat} (hk : Kept m s0 s) : Kept m s0 (State.readBurst s c) := by
  unfold State.readBurst
  extract_lets +onlyGivenNames x0
  split
  · assumption
  · extract_lets +onlyGivenNames x1
    extract_lets +onlyGivenNames x2
    refine Kept.cond (fun _ => ?_) (fun _ => ?_)
    · assumption
    · refine Kept.cond (fun _ => ?_) (fun _ => ?_)
      · refine State.readAhead_kept (Sub.trans (b := 17455069921282) (by decide) hp) ?_
        assumption
      · refine Kept.cond (fun _ => ?_) (fun _ => ?_)
        · assumption
        · extract_lets +onlyGivenNames x3
          refine Kept.cond (fun _ => ?_) (fun _ => ?_)
          · refine State.errAfterFlush_kept hp ?_
            assumption
          · split
            · refine State.setChn_kept (Sub.trans (b := 17455069921282) (by decide) hp) ?_
              assumption
            · refine State.errAfterFlush_kept hp ?_
              refine State.denied_kept (Sub.trans (b := 17455069921282) (by decide) hp) ?_
              assumption

theorem State.bargeRead_kept {m : Nat} {s0 : State} (hp : Sub 17455069921282 m) {s : State} {c : Nat} (hk : Kept m s0 s) : Kept m s0 (State.bargeRead s c) := by
  unfold State.bargeRead
  extract_lets +onlyGivenNames x0
  extract_lets +onlyGivenNames x1
  refine Kept.cond (fun _ => ?_) (fun _ => ?_)
  · assumption
  · extract_lets +onlyGivenNames x2
    unfold x2
    try clear x2
    refine Kept.cond (fun _ => ?_) (fun _ => ?_)
    · refine Kept.cond (fun _ => ?_) (fun _ => ?_)
      · refine State.setChn_kept (Sub.trans (b := 17455069921282) (by decide) hp) ?_
        assumption
      · refine State.chErr_kept (Sub.trans (b := 17455069921282) (by decide) hp) ?_
        assumption
    · split
      · refine Kept.cond (fun _ => ?_) (fun _ => ?_)
        · refine State.setChn_kept (Sub.trans (b := 17455069921282) (by decide) hp) ?_
          assumption
        · refine State.chErr_kept (Sub.trans (b := 17455069921282) (by decide) hp) ?_
          assumption
      · refine Kept.cond (fun _ => ?_) (fun _ => ?_)
        · refine Kept.cond (fun _ => ?_) (fun _ => ?_)
          · refine State.setChn_kept (Sub.trans (b := 17455069921282) (by decide) hp) ?_
            assumption
          · refine State.chErr_kept (Sub.trans (b := 17455069921282) (by decide) hp) ?_
            assumption
        · refine Kept.cond (fun _ => ?_) (fun _ => ?_)
          · refine Kept.cond (fun _ => ?_) (fun _ => ?_)
            · refine State.setChn_kept (Sub.trans (b := 17455069921282) (by decide) hp) ?_
              assumption
            · refine State.chErr_kept (Sub.trans (b := 17455069921282) (by decide) hp) ?_
              assumption
          · extract_lets +onlyGivenNames x3
            extract_lets +onlyGivenNames x4
            have h5 : Kept m s0 x4 := by
              unfold x4
              refine Kept.cond (fun _ => ?_) (fun _ => ?_)
              · refine Kept.upd_dma (hp.bit (by decide)) ?_
                assumption
              · assumption
            try (generalize x4 = y4 at h5 ⊢; try clear x4)
            refine Kept.cond (fun _ => ?_) (fun _ => ?_)
            · refine State.chFlow_kept (Sub.trans (b := 17455069921282) (by decide) hp) ?_
              refine State.setChn_kept (Sub.trans (b := 17455069921282) (by decide) hp) ?_
              assumption
            · extract_lets +onlyGivenNames x6
              extract_lets +onlyGivenNames x7
              extract_lets +onlyGivenNames x8
              have h9 : Kept m s0 x8 := by
                unfold x8
                refine State.setChn_kept (Sub.trans (b := 17455069921282) (by decide) hp) ?_
                assumption
              try (generalize x8 = y8 at h9 ⊢; try clear x8)
              refine Kept.cond (fun _ => ?_) (fun _ => ?_)
              · refine State.bargeEnd_kept hp ?_
                assumption
              · refine State.chFlow_kept (Sub.trans (b := 17455069921282) (by decide) hp) ?_
                refine State.drained_kept (Sub.trans (b := 17455069921282) (by decide) hp) ?_
                assumption

theorem State.portReq_kept {m : Nat} {s0 : State} (hp : Sub 2097152 m) {s : State} {e : Nat} {q : Nat} (hk : Kept m s0 s) : Kept m s0 (State.portReq s e q) := by
  unfold State.portReq
  extract_lets +onlyGivenNames x0
  extract_lets +onlyGivenNames x1
  have h2 : Kept m s0 x1 := by
    unfold x1
    refine Kept.upd_dma (hp.bit (by decide)) ?_
    assumption
  try (generalize x1 = y1 at h2 ⊢; try clear x1)
  split
  · assumption
  · refine State.chFlow_kept hp ?_
    assumption

theorem State.portData_kept {m : Nat} {s0 : State} (hp : Sub 2097152 m) {s : State} {e : Nat} {q : Nat} {d : Bytes} (hk : Kept m s0 s) : Kept m s0 (State.portData s e q d) := by
  unfold State.portData
  split
  · assumption
  · extract_lets +onlyGivenNames x0
    extract_lets +onlyGivenNames x1
    split
    · refine State.chFlow_kept hp ?_
      refine State.setChn_kept hp ?_
      assumption
    · refine State.chFlow_kept hp ?_
      refine State.setChn_kept hp ?_
      assumption
    · assumption

theorem State.lineData_kept {m : Nat} {s0 : State} (hp : Sub 35651584 m) {s : State} {e : Nat} {q : Nat} {d : Bytes} (hk : Kept m s0 s) : Kept m s0 (State.lineData s e q d) := by
  unfold State.lineData
  refine Kept.cond (fun _ => ?_) (fun _ => ?_)
  · extract_lets +onlyGivenNames x0
    extract_lets +onlyGivenNames x1
    extract_lets +onlyGivenNames x2
    refine State.portData_kept (Sub.trans (b := 35651584) (by decide) hp) ?_
    refine State.setXp_kept (Sub.trans (b := 35651584) (by decide) hp) ?_
    assumption
  · refine State.portData_kept (Sub.trans (b := 35651584) (by decide) hp) ?_
    assumption

theorem State.underrun_kept {m : Nat} {s0 : State} (hp : Sub 17455069921282 m) {s : State} {e : Nat} {q : Nat} (hk : Kept m s0 s) : Kept m s0 (State.underrun s e q) := by
  unfold State.underrun
  split
  · assumption
  · extract_lets +onlyGivenNames x0
    extract_lets +onlyGivenNames x1
    refine Kept.cond (fun _ => ?_) (fun _ => ?_)
    · assumption
    · split
      · refine State.errAfterFlush_kept hp ?_
        refine State.setChn_kept (Sub.trans (b := 17455069921282) (by decide) hp) ?_
        assumption
      · refine State.setChn_kept (Sub.trans (b := 17455069921282) (by decide) hp) ?_
        assumption
      · assumption

theorem State.strefCh_kept {m : Nat} {s0 : State} (hp : Sub 549755813888 m) {s : State} {c : Nat} (hk : Kept m s0 s) : Kept m s0 (State.strefCh s c) := by
  unfold State.strefCh
  refine State.pb_kept' Reg.CH_STAT_block (hp.bit (by decide)) ?_
  assumption

theorem State.chStart_kept {m : Nat} {s0 : State} (hp : Sub 2886237552640 m) {s : State} {c : Nat} {cont : Bool} (hk : Kept m s0 s) : Kept m s0 (State.chStart s c cont) := by
  unfold State.chStart
  extract_lets +onlyGivenNames x0
  extract_lets +onlyGivenNames x1
  refine Kept.cond (fun _ => ?_) (fun _ => ?_)
  · refine State.strefCh_kept (Sub.trans (b := 2886237552640) (by decide) hp) ?_
    assumption
  · refine Kept.cond (fun _ => ?_) (fun _ => ?_)
    · refine State.setChn_kept (Sub.trans (b := 2886237552640) (by decide) hp) ?_
      assumption
    · extract_lets +onlyGivenNames x2
      have h3 : Kept m s0 x2 := by
        unfold x2
        refine State.regionUp_kept (Sub.trans (b := 2886237552640) (by decide) hp) ?_
        assumption
      try (generalize x2 = y2 at h3 ⊢; try clear x2)
      extract_lets +onlyGivenNames x4
      refine State.chGo_kept hp ?_
      refine State.setChn_kept (Sub.trans (b := 2886237552640) (by decide) hp) ?_
      assumption

theorem State.chStopRun_kept {m : Nat} {s0 : State} (hp : Sub 17455069921282 m) {s : State} {c : Nat} (hk : Kept m s0 s) : Kept m s0 (State.chStopRun s c) := by
  unfold State.chStopRun
  extract_lets +onlyGivenNames x0
  refine Kept.cond (fun _ => ?_) (fun _ => ?_)
  · extract_lets +onlyGivenNames x1
    extract_lets +onlyGivenNames x2
    have h3 : Kept m s0 x2 := by
      unfold x2
      refine Kept.upd_dma (hp.bit (by decide)) ?_
      assumption
    try (generalize x2 = y2 at h3 ⊢; try clear x2)
    refine State.chAfter_kept hp ?_
    refine State.setChn_kept (Sub.trans (b := 17455069921282) (by decide) hp) ?_
    assumption
  · refine State.chSave_kept (Sub.trans (b := 17455069921282) (by decide) hp) ?_
    refine State.setChn_kept (Sub.trans (b := 17455069921282) (by decide) hp) ?_
    refine State.freeLines_kept (Sub.trans (b := 17455069921282) (by decide) hp) ?_
    assumption

theorem State.chStop_kept {m : Nat} {s0 : State} (hp : Sub 17455069921282 m) {s : State} {c : Nat} (hk : Kept m s0 s) : Kept m s0 (State.chStop s c) := by
  unfold State.chStop
  extract_lets +onlyGivenNames x0
  split
  · refine State.chStopRun_kept hp ?_
    assumption
  · refine State.chStopRun_kept hp ?_
    assumption
  · refine State.setChn_kept (Sub.trans (b := 17455069921282) (by decide) hp) ?_
    assumption
  · extract_lets +onlyGivenNames x1
    refine State.chSave_kept (Sub.trans (b := 17455069921282) (by decide) hp) ?_
    refine State.setChn_kept (Sub.trans (b := 17455069921282) (by decide) hp) ?_
    refine State.freeLines_kept (Sub.trans (b := 17455069921282) (by decide) hp) ?_
    assumption
  · refine Kept.cond (fun _ => ?_) (fun _ => ?_)
    · refine State.setChn_kept (Sub.trans (b := 17455069921282) (by decide) hp) ?_
      assumption
    · refine State.chStopRun_kept hp ?_
      assumption
  · assumption

theorem State.chPause_kept {m : Nat} {s0 : State} (hp : Sub 549757911040 m) {s : State} {c : Nat} (hk : Kept m s0 s) : Kept m s0 (State.chPause s c) := by
  unfold State.chPause
  extract_lets +onlyGivenNames x0
  refine Kept.cond (fun _ => ?_) (fun _ => ?_)
  · refine State.drained_kept (Sub.trans (b := 549757911040) (by decide) hp) ?_
    refine State.setChn_kept (Sub.trans (b := 549757911040) (by decide) hp) ?_
    assumption
  · refine State.pb_kept' Reg.CH_STAT_block (hp.bit (by decide)) ?_
    assumption

theorem State.chResume_kept {m : Nat} {s0 : State} (hp : Sub 17455069921282 m) {s : State} {c : Nat} (hk : Kept m s0 s) : Kept m s0 (State.chResume s c) := by
  unfold State.chResume
  extract_lets +onlyGivenNames x0
  refine Kept.cond (fun _ => ?_) (fun _ => ?_)
  · refine State.chAfter_kept hp ?_
    refine State.setChn_kept (Sub.trans (b := 17455069921282) (by decide) hp) ?_
    assumption
  · assumption

theorem State.chClear_kept {m : Nat} {s0 : State} (hp : Sub 2097152 m) {s : State} {c : Nat} (hk : Kept m s0 s) : Kept m s0 (State.chClear s c) := by
  unfold State.chClear
  extract_lets +onlyGivenNames x0
  refine Kept.cond (fun _ => ?_) (fun _ => ?_)
  · refine State.setChn_kept hp ?_
    assumption
  · assumption

theorem State.chInv_kept {m : Nat} {s0 : State} (hp : Sub 549757911040 m) {s : State} {c : Nat} (hk : Kept m s0 s) : Kept m s0 (State.chInv s c) := by
  unfold State.chInv
  extract_lets +onlyGivenNames x0
  refine Kept.cond (fun _ => ?_) (fun _ => ?_)
  · refine State.setChn_kept (Sub.trans (b := 549757911040) (by decide) hp) ?_
    assumption
  · refine State.pb_kept' Reg.CH_STAT_block (hp.bit (by decide)) ?_
    assumption

theorem State.chCtl_kept {m : Nat} {s0 : State} (hp : Sub 17455069921282 m) {s : State} {c : Nat} {v : W32} (hk : Kept m s0 s) : Kept m s0 (State.chCtl s c v) := by
  unfold State.chCtl
  extract_lets +onlyGivenNames x0
  extract_lets +onlyGivenNames x1
  have h2 : Kept m s0 x1 := by
    unfold x1
    refine State.plainWrite_kept' Reg.CH_CTL_block (hp.bit (by decide)) ?_
    assumption
  try (generalize x1 = y1 at h2 ⊢; try clear x1)
  extract_lets +onlyGivenNames x3
  have h4 : Kept m s0 x3 := by
    unfold x3
    refine Kept.cond (fun _ => ?_) (fun _ => ?_)
    · refine State.chClear_kept (Sub.trans (b := 17455069921282) (by decide) hp) ?_
      assumption
    · assumption
  try (generalize x3 = y3 at h4 ⊢; try clear x3)
  extract_lets +onlyGivenNames x5
  have h6 : Kept m s0 x5 := by
    unfold x5
    refine Kept.cond (fun _ => ?_) (fun _ => ?_)
    · refine State.chInv_kept (Sub.trans (b := 17455069921282) (by decide) hp) ?_
      assumption
    · assumption
  try (generalize x5 = y5 at h6 ⊢; try clear x5)
  extract_lets +onlyGivenNames x7
  have h8 : Kept m s0 x7 := by
    unfold x7
    refine Kept.cond (fun _ => ?_) (fun _ => ?_)
    · refine State.chResume_kept hp ?_
      assumption
    · assumption
  try (generalize x7 = y7 at h8 ⊢; try clear x7)
  refine Kept.cond (fun _ => ?_) (fun _ => ?_)
  · refine State.strefCh_kept (Sub.trans (b := 17455069921282) (by decide) hp) ?_
    assumption
  · refine Kept.cond (fun _ => ?_) (fun _ => ?_)
    · refine State.chStop_kept hp ?_
      assumption
    · extract_lets +onlyGivenNames x9
      have h10 : Kept m s0 x9 := by
        unfold x9
        refine Kept.cond (fun _ => ?_) (fun _ => ?_)
        · refine State.chPause_kept (Sub.trans (b := 17455069921282) (by decide) hp) ?_
          assumption
        · assumption
      try (generalize x9 = y9 at h10 ⊢; try clear x9)
      refine Kept.cond (fun _ => ?_) (fun _ => ?_)
      · refine State.chStart_kept (Sub.trans (b := 17455069921282) (by decide) hp) ?_
        assumption
      · assumption

theorem State.chOwn_kept {m : Nat} {s0 : State} (hp : Sub 1649267441664 m) {s : State} {c : Nat} {v : W32} (hk : Kept m s0 s) : Kept m s0 (State.chOwn s c v) := by
  unfold State.chOwn
  extract_lets +onlyGivenNames x0
  refine Kept.cond (fun _ => ?_) (fun _ => ?_)
  · refine State.pb_kept' Reg.STL_MGR_STAT_block (hp.bit (by decide)) ?_
    assumption
  · refine State.plainWrite_kept' Reg.CH_OWN_block (hp.bit (by decide)) ?_
    assumption

theorem execDmaContextFree_kept {m : Nat} {s0 : State} (hp : Sub 2886237552640 m) {e : Fin 4} {i : Fin 1024} {s : State} (hk : Kept m s0 s) : OutKept m s0 (execDmaContextFree e i s) := by
  unfold execDmaContextFree
  refine OutKept.next ?_
  refine Kept.cond (fun _ => ?_) (fun _ => ?_)
  · refine State.chGo_kept hp ?_
    assumption
  · assumption

theorem execDmaBargeRead_kept {m : Nat} {s0 : State} (hp : Sub 17455069921282 m) {e : Fin 4} {i : Fin 1024} {s : State} (hk : Kept m s0 s) : OutKept m s0 (execDmaBargeRead e i s) := by
  unfold execDmaBargeRead
  refine OutKept.next ?_
  refine Kept.cond (fun _ => ?_) (fun _ => ?_)
  · refine State.bargeRead_kept hp ?_
    assumption
  · assumption

theorem execDmaReadComplete_kept {m : Nat} {s0 : State} (hp : Sub 17455069921282 m) {e : Fin 4} {i : Fin 1024} {s : State} (hk : Kept m s0 s) : OutKept m s0 (execDmaReadComplete e i s) := by
  unfold execDmaReadComplete
  refine OutKept.next ?_
  refine Kept.cond (fun _ => ?_) (fun _ => ?_)
  · refine State.readBurst_kept hp ?_
    assumption
  · assumption

theorem execDmaWriteAck_kept {m : Nat} {s0 : State} (hp : Sub 17455069921282 m) {e : Fin 4} {i : Fin 1024} {s : State} (hk : Kept m s0 s) : OutKept m s0 (execDmaWriteAck e i s) := by
  unfold execDmaWriteAck
  refine OutKept.next ?_
  extract_lets +onlyGivenNames x0
  extract_lets +onlyGivenNames x1
  refine Kept.cond (fun _ => ?_) (fun _ => ?_)
  · assumption
  · extract_lets +onlyGivenNames x2
    split
    · next e5 =>
        have h6 : Kept m s0 _ := Kept.fst e5 (by
            refine State.writeBurst_kept hp ?_
            assumption
          )
        refine Kept.cond (fun _ => ?_) (fun _ => ?_)
        · refine State.chAfter_kept hp ?_
          assumption
        · assumption

theorem execDmaPortRequest_kept {m : Nat} {s0 : State} (hp : Sub 2097152 m) {e : Fin 4} {q : Fin 64} {s : State} (hk : Kept m s0 s) : OutKept m s0 (execDmaPortRequest e q s) := by
  unfold execDmaPortRequest
  refine OutKept.next ?_
  refine Kept.cond (fun _ => ?_) (fun _ => ?_)
  · refine State.portReq_kept hp ?_
    assumption
  · assumption

theorem execDmaPortData_kept {m : Nat} {s0 : State} (hp : Sub 35651584 m) {e : Fin 4} {q : Fin 64} {d : Bytes} {s : State} (hk : Kept m s0 s) : OutKept m s0 (execDmaPortData e q d s) := by
  unfold execDmaPortData
  refine OutKept.next ?_
  refine Kept.cond (fun _ => ?_) (fun _ => ?_)
  · refine State.lineData_kept hp ?_
    assumption
  · assumption

theorem execUnderrun_kept {m : Nat} {s0 : State} (hp : Sub 17455069921282 m) {e : Fin 4} {q : Fin 64} {s : State} (hk : Kept m s0 s) : OutKept m s0 (execUnderrun e q s) := by
  unfold execUnderrun
  refine OutKept.next ?_
  refine Kept.cond (fun _ => ?_) (fun _ => ?_)
  · refine State.underrun_kept hp ?_
    assumption
  · assumption

theorem execDmaRequestWithdraw_kept {m : Nat} {s0 : State} (hp : Sub 2097152 m) {e : Fin 4} {q : Fin 64} {s : State} (hk : Kept m s0 s) : OutKept m s0 (execDmaRequestWithdraw e q s) := by
  unfold execDmaRequestWithdraw
  refine OutKept.next ?_
  extract_lets +onlyGivenNames x0
  extract_lets +onlyGivenNames x1
  have h2 : Kept m s0 x1 := by
    unfold x1
    refine Kept.upd_dma (hp.bit (by decide)) ?_
    assumption
  try (generalize x1 = y1 at h2 ⊢; try clear x1)
  split
  · assumption
  · extract_lets +onlyGivenNames x3
    refine Kept.cond (fun _ => ?_) (fun _ => ?_)
    · refine State.setChn_kept hp ?_
      assumption
    · refine State.chFlow_kept hp ?_
      assumption

end Sys2Proof.Machine
end

