-- ==== Sys2Proof/Laws/KeptBasin.lean ====
section
/-!
SUPPORT. What the definitions of Machine/Basin.lean keep: one lemma each.
-/
namespace Sys2Proof.Machine

theorem State.allocGranule_kept {m : Nat} {s0 : State} (hp : Sub 70368748371968 m) {s : State} {p : Nat} {st : Option Nat} (hk : Kept m s0 s) : Kept m s0 (State.allocGranule s p st).1 := by
  unfold State.allocGranule
  refine Kept.cond1 (fun _ => ?_) (fun _ => ?_)
  · extract_lets +onlyGivenNames x0
    extract_lets +onlyGivenNames x1
    have h2 : Kept m s0 x1 := by
      unfold x1
      refine State.tick1_kept (Sub.trans (b := 70368748371968) (by decide) hp) ?_
      refine Kept.upd_basin (hp.bit (by decide)) ?_
      assumption
    try (generalize x1 = y1 at h2 ⊢; try clear x1)
    show Kept m s0 _
    refine State.pf_kept' Reg.BSN_POOL_PEAK_block (hp.bit (by decide)) ?_
    assumption
  · show Kept m s0 _
    refine State.inc_kept' Reg.BSN_POOL_STAT_block (hp.bit (by decide)) ?_
    assumption

theorem State.bsnAlloc_kept {m : Nat} {s0 : State} (hp : Sub 70368748371968 m) {s : State} {p : Nat} (hk : Kept m s0 s) : Kept m s0 (State.bsnAlloc s p).1 := by
  unfold State.bsnAlloc
  refine Kept.cond1 (fun _ => ?_) (fun _ => ?_)
  · show Kept m s0 _
    assumption
  · extract_lets +onlyGivenNames x0
    split
    · next e3 =>
        have h4 : Kept m s0 _ := Kept.fst e3 (by
            refine State.allocGranule_kept hp ?_
            assumption
          )
        show Kept m s0 _
        refine State.wr_kept' Reg.BSN_POOL_ALLOC_block (hp.bit (by decide)) ?_
        assumption

theorem State.badFree_kept {m : Nat} {s0 : State} (hp : Sub 70368744177664 m) {s : State} (hk : Kept m s0 s) : Kept m s0 (State.badFree s) := by
  unfold State.badFree
  refine State.pb_kept' Reg.BSN_STATUS_block (hp.bit (by decide)) ?_
  assumption

theorem State.bsnFree_kept {m : Nat} {s0 : State} (hp : Sub 70368748371968 m) {s : State} {v : W32} (hk : Kept m s0 s) : Kept m s0 (State.bsnFree s v) := by
  unfold State.bsnFree
  extract_lets +onlyGivenNames x0
  extract_lets +onlyGivenNames x1
  split
  · refine Kept.cond (fun _ => ?_) (fun _ => ?_)
    · refine Kept.upd_basin (hp.bit (by decide)) ?_
      assumption
    · refine State.badFree_kept (Sub.trans (b := 70368748371968) (by decide) hp) ?_
      assumption
  · refine State.badFree_kept (Sub.trans (b := 70368748371968) (by decide) hp) ?_
    assumption

theorem State.plGranules_kept {m : Nat} {s0 : State} (hp : Sub 70368748371968 m) {s : State} (hk : Kept m s0 s) : Kept m s0 (State.plGranules s) := by
  unfold State.plGranules
  refine Kept.forEach (fun z0 a1 h2 => ?_) ?_
  · refine Kept.cond (fun _ => ?_) (fun _ => ?_)
    · assumption
    · refine Kept.forEach (fun z3 a4 h5 => ?_) ?_
      · refine State.allocGranule_kept hp ?_
        assumption
      · assumption
  · assumption

theorem State.dropGranules_kept {m : Nat} {s0 : State} (hp : Sub 4194304 m) {s : State} {gs : List Nat} (hk : Kept m s0 s) : Kept m s0 (State.dropGranules s gs) := by
  unfold State.dropGranules
  refine Kept.upd_basin (hp.bit (by decide)) ?_
  assumption

end Sys2Proof.Machine
end

