-- ==== Sys2Proof/Laws/KeptRail.lean ====
section
/-!
SUPPORT. What the definitions of Machine/Rail.lean keep: one lemma each.
-/
namespace Sys2Proof.Machine

theorem State.pushOvr_kept {m : Nat} {s0 : State} (hp : Sub 2176 m) {s : State} {n : Nat} {w : W32} (hk : Kept m s0 s) : Kept m s0 (State.pushOvr s n w) := by
  unfold State.pushOvr
  refine Kept.cond (fun _ => ?_) (fun _ => ?_)
  · extract_lets +onlyGivenNames x0
    refine State.setPrt_kept (Sub.trans (b := 2176) (by decide) hp) ?_
    assumption
  · refine Kept.cond (fun _ => ?_) (fun _ => ?_)
    · refine Kept.forEach (fun z1 a2 h3 => ?_) ?_
      · refine Kept.cond (fun _ => ?_) (fun _ => ?_)
        · assumption
        · split
          · refine State.setRl_kept (Sub.trans (b := 2176) (by decide) hp) ?_
            assumption
          · assumption
      · assumption
    · assumption

theorem State.shedRail_kept {m : Nat} {s0 : State} (hp : Sub 2176 m) {s : State} {r : Nat} (hk : Kept m s0 s) : Kept m s0 (State.shedRail s r) := by
  unfold State.shedRail
  refine Kept.forEach (fun z0 a1 h2 => ?_) ?_
  · extract_lets +onlyGivenNames x3
    refine Kept.cond (fun _ => ?_) (fun _ => ?_)
    · assumption
    · refine State.pushOvr_kept hp ?_
      assumption
  · assumption

theorem State.setPg_kept {m : Nat} {s0 : State} (hp : Sub 2345069578240 m) {s : State} {r : Nat} {b : Bool} (hk : Kept m s0 s) : Kept m s0 (State.setPg s r b) := by
  unfold State.setPg
  extract_lets +onlyGivenNames x0
  refine Kept.cond (fun _ => ?_) (fun _ => ?_)
  · assumption
  · refine State.railEvt_kept (Sub.trans (b := 2345069578240) (by decide) hp) ?_
    refine State.setRl_kept (Sub.trans (b := 2345069578240) (by decide) hp) ?_
    assumption

theorem State.railOff_kept {m : Nat} {s0 : State} (hp : Sub 2345069578240 m) {s : State} {r : Nat} (hk : Kept m s0 s) : Kept m s0 (State.railOff s r) := by
  unfold State.railOff
  extract_lets +onlyGivenNames x0
  have h1 : Kept m s0 x0 := by
    unfold x0
    refine State.setPg_kept hp ?_
    assumption
  try (generalize x0 = y0 at h1 ⊢; try clear x0)
  extract_lets +onlyGivenNames x2
  refine State.setRl_kept (Sub.trans (b := 2345069578240) (by decide) hp) ?_
  assumption

theorem State.gpioDown_kept {m : Nat} {s0 : State} (hp : Sub 4096 m) {s : State} {k : Nat} (hk : Kept m s0 s) : Kept m s0 (State.gpioDown s k) := by
  unfold State.gpioDown
  extract_lets +onlyGivenNames x0
  extract_lets +onlyGivenNames x1
  refine Kept.cond (fun _ => ?_) (fun _ => ?_)
  · refine State.setStep_kept hp ?_
    assumption
  · refine State.setStep_kept hp ?_
    assumption

theorem State.goDown_kept {m : Nat} {s0 : State} (hp : Sub 2345069582464 m) {s : State} {k : Nat} (hk : Kept m s0 s) : Kept m s0 (State.goDown s k) := by
  unfold State.goDown
  extract_lets +onlyGivenNames x0
  refine Kept.cond (fun _ => ?_) (fun _ => ?_)
  · extract_lets +onlyGivenNames x1
    have h2 : Kept m s0 x1 := by
      unfold x1
      refine State.setStep_kept (Sub.trans (b := 2345069582464) (by decide) hp) ?_
      assumption
    try (generalize x1 = y1 at h2 ⊢; try clear x1)
    split
    · extract_lets +onlyGivenNames x3
      refine Kept.cond (fun _ => ?_) (fun _ => ?_)
      · assumption
      · extract_lets +onlyGivenNames x4
        have h5 : Kept m s0 x4 := by
          unfold x4
          refine State.setPg_kept (Sub.trans (b := 2345069582464) (by decide) hp) ?_
          assumption
        try (generalize x4 = y4 at h5 ⊢; try clear x4)
        refine Kept.cond (fun _ => ?_) (fun _ => ?_)
        · refine State.setRl_kept (Sub.trans (b := 2345069582464) (by decide) hp) ?_
          refine State.shedRail_kept (Sub.trans (b := 2345069582464) (by decide) hp) ?_
          assumption
        · refine State.setRl_kept (Sub.trans (b := 2345069582464) (by decide) hp) ?_
          assumption
    · refine Kept.cond (fun _ => ?_) (fun _ => ?_)
      · refine State.gpioDown_kept (Sub.trans (b := 2345069582464) (by decide) hp) ?_
        assumption
      · assumption
  · assumption

theorem State.dropPlans_kept {m : Nat} {s0 : State} (hp : Sub 6144 m) {s : State} (hk : Kept m s0 s) : Kept m s0 (State.dropPlans s) := by
  unfold State.dropPlans
  refine Kept.upd ?_ rfl (Nat.le_refl _) (fun _ _ => rfl) (.inr rfl) (.inr rfl) (.inr rfl) (.inr rfl) (.inr rfl) (.inr rfl) (.inr rfl) (.inr rfl) (.inr rfl) (.inr rfl) (.inr rfl) (.inr rfl) (.inl (hp.bit (by decide))) (.inl (hp.bit (by decide))) (.inr rfl) (.inr rfl) (.inr rfl) (.inr rfl) (.inr rfl) (.inr rfl) (.inr rfl) (.inr rfl) (.inr rfl) (.inr rfl) (.inr rfl) (.inr rfl) (.inr rfl) (.inr rfl) (.inr rfl) (.inr rfl) (.inr rfl)
  assumption

theorem State.settleDown_kept {m : Nat} {s0 : State} (hp : Sub 2345069582464 m) {s : State} (hk : Kept m s0 s) : Kept m s0 (State.settleDown s) := by
  unfold State.settleDown
  refine Kept.cond (fun _ => ?_) (fun _ => ?_)
  · assumption
  · refine Kept.foldl (fun z0 a1 h2 => ?_) ?_
    · refine Kept.forEach (fun z3 a4 h5 => ?_) ?_
      · refine State.goDown_kept hp ?_
        assumption
      · assumption
    · assumption

theorem State.takeDown_kept {m : Nat} {s0 : State} (hp : Sub 2345069582464 m) {s : State} {ks : List Nat} {stay : List Nat} {immediate : Bool} (hk : Kept m s0 s) : Kept m s0 (State.takeDown s ks stay immediate) := by
  unfold State.takeDown
  extract_lets +onlyGivenNames x0
  have h1 : Kept m s0 x0 := by
    unfold x0
    refine Kept.forEach (fun z2 a3 h4 => ?_) ?_
    · split
      · assumption
      · assumption
      · refine Kept.cond (fun _ => ?_) (fun _ => ?_)
        · assumption
        · split
          · refine State.setRl_kept (Sub.trans (b := 2345069582464) (by decide) hp) ?_
            assumption
          · refine State.setStep_kept (Sub.trans (b := 2345069582464) (by decide) hp) ?_
            assumption
      · refine Kept.cond (fun _ => ?_) (fun _ => ?_)
        · refine State.setStep_kept (Sub.trans (b := 2345069582464) (by decide) hp) ?_
          assumption
        · assumption
      · refine State.setStep_kept (Sub.trans (b := 2345069582464) (by decide) hp) ?_
        assumption
    · assumption
  try (generalize x0 = y0 at h1 ⊢; try clear x0)
  refine State.settleDown_kept hp ?_
  assumption

theorem State.faultAction_kept {m : Nat} {s0 : State} (hp : Sub 2345069582464 m) {s : State} {k : Nat} {hurry : Bool} (hk : Kept m s0 s) : Kept m s0 (State.faultAction s k hurry) := by
  unfold State.faultAction
  extract_lets +onlyGivenNames x0
  extract_lets +onlyGivenNames x1
  extract_lets +onlyGivenNames x2
  have h3 : Kept m s0 x2 := by
    unfold x2
    refine State.pf_kept' Reg.SEQ_STATUS_block (hp.bit (by decide)) ?_
    assumption
  try (generalize x2 = y2 at h3 ⊢; try clear x2)
  extract_lets +onlyGivenNames x4
  have h5 : Kept m s0 x4 := by
    unfold x4
    refine Kept.cond (fun _ => ?_) (fun _ => ?_)
    · refine State.takeDown_kept hp ?_
      assumption
    · assumption
  try (generalize x4 = y4 at h5 ⊢; try clear x4)
  extract_lets +onlyGivenNames x6
  split
  · refine State.takeDown_kept hp ?_
    assumption
  · refine State.takeDown_kept hp ?_
    assumption
  · refine State.settleDown_kept hp ?_
    assumption

theorem State.railFault_kept {m : Nat} {s0 : State} (hp : Sub 2345069582464 m) {s : State} {r : Nat} {cause : Nat} (hk : Kept m s0 s) : Kept m s0 (State.railFault s r cause) := by
  unfold State.railFault
  extract_lets +onlyGivenNames x0
  refine Kept.cond (fun _ => ?_) (fun _ => ?_)
  · assumption
  · refine Kept.cond (fun _ => ?_) (fun _ => ?_)
    · refine State.shedRail_kept (Sub.trans (b := 2345069582464) (by decide) hp) ?_
      assumption
    · extract_lets +onlyGivenNames x1
      extract_lets +onlyGivenNames x2
      extract_lets +onlyGivenNames x3
      have h4 : Kept m s0 x3 := by
        unfold x3
        refine State.setPg_kept (Sub.trans (b := 2345069582464) (by decide) hp) ?_
        refine State.shedRail_kept (Sub.trans (b := 2345069582464) (by decide) hp) ?_
        assumption
      try (generalize x3 = y3 at h4 ⊢; try clear x3)
      extract_lets +onlyGivenNames x5
      extract_lets +onlyGivenNames x6
      have h7 : Kept m s0 x6 := by
        unfold x6
        refine State.setRl_kept (Sub.trans (b := 2345069582464) (by decide) hp) ?_
        assumption
      try (generalize x6 = y6 at h7 ⊢; try clear x6)
      extract_lets +onlyGivenNames x8
      extract_lets +onlyGivenNames x9
      have h10 : Kept m s0 x9 := by
        unfold x9
        refine State.setStep_kept (Sub.trans (b := 2345069582464) (by decide) hp) ?_
        assumption
      try (generalize x9 = y9 at h10 ⊢; try clear x9)
      refine State.faultAction_kept hp ?_
      refine State.railEvt_kept (Sub.trans (b := 2345069582464) (by decide) hp) ?_
      assumption

theorem State.gpioFault_kept {m : Nat} {s0 : State} (hp : Sub 2345069582464 m) {s : State} {k : Nat} {cause : Nat} (hk : Kept m s0 s) : Kept m s0 (State.gpioFault s k cause) := by
  unfold State.gpioFault
  refine State.faultAction_kept hp ?_
  refine State.setStep_kept (Sub.trans (b := 2345069582464) (by decide) hp) ?_
  assumption

theorem State.stepWait_kept {m : Nat} {s0 : State} (hp : Sub 6144 m) {s : State} {k : Nat} (hk : Kept m s0 s) : Kept m s0 (State.stepWait s k) := by
  unfold State.stepWait
  refine Kept.cond (fun _ => ?_) (fun _ => ?_)
  · extract_lets +onlyGivenNames x0
    extract_lets +onlyGivenNames x1
    split
    · refine State.setStep_kept (Sub.trans (b := 6144) (by decide) hp) ?_
      refine State.setRl_kept (Sub.trans (b := 6144) (by decide) hp) ?_
      assumption
    · refine Kept.cond (fun _ => ?_) (fun _ => ?_)
      · refine State.setStep_kept (Sub.trans (b := 6144) (by decide) hp) ?_
        assumption
      · assumption
  · assumption

theorem State.seqUp_kept {m : Nat} {s0 : State} (hp : Sub 8589940736 m) {s : State} (hk : Kept m s0 s) : Kept m s0 (State.seqUp s) := by
  unfold State.seqUp
  refine Kept.cond (fun _ => ?_) (fun _ => ?_)
  · assumption
  · refine Kept.cond (fun _ => ?_) (fun _ => ?_)
    · refine State.pb_kept' Reg.SEQ_STATUS_block (hp.bit (by decide)) ?_
      assumption
    · refine Kept.forEach (fun z0 a1 h2 => ?_) ?_
      · refine State.stepWait_kept (Sub.trans (b := 8589940736) (by decide) hp) ?_
        assumption
      · assumption

theorem State.railRamp_kept {m : Nat} {s0 : State} (hp : Sub 2048 m) {s : State} {r : Nat} (hk : Kept m s0 s) : Kept m s0 (State.railRamp s r) := by
  unfold State.railRamp
  extract_lets +onlyGivenNames x0
  refine State.setRl_kept hp ?_
  assumption

theorem State.stepStart_kept {m : Nat} {s0 : State} (hp : Sub 6144 m) {s : State} {k : Nat} (hk : Kept m s0 s) : Kept m s0 (State.stepStart s k) := by
  unfold State.stepStart
  refine Kept.cond (fun _ => ?_) (fun _ => ?_)
  · assumption
  · split
    · refine Kept.cond (fun _ => ?_) (fun _ => ?_)
      · assumption
      · refine State.railRamp_kept (Sub.trans (b := 6144) (by decide) hp) ?_
        assumption
    · extract_lets +onlyGivenNames x0
      refine State.setStep_kept (Sub.trans (b := 6144) (by decide) hp) ?_
      assumption

theorem State.railClear_kept {m : Nat} {s0 : State} (hp : Sub 2345069578240 m) {s : State} {r : Nat} (hk : Kept m s0 s) : Kept m s0 (State.railClear s r) := by
  unfold State.railClear
  refine Kept.cond (fun _ => ?_) (fun _ => ?_)
  · refine State.railOff_kept hp ?_
    assumption
  · assumption

theorem State.railClearAgain_kept {m : Nat} {s0 : State} (hp : Sub 2345069578240 m) {s : State} {r : Nat} (hk : Kept m s0 s) : Kept m s0 (State.railClearAgain s r) := by
  unfold State.railClearAgain
  refine Kept.cond (fun _ => ?_) (fun _ => ?_)
  · refine State.pf_kept' Reg.SEQ_STATUS_block (hp.bit (by decide)) ?_
    assumption
  · refine State.railClear_kept hp ?_
    assumption

theorem State.seqClear_kept {m : Nat} {s0 : State} (hp : Sub 2345069582336 m) {s : State} (hk : Kept m s0 s) : Kept m s0 (State.seqClear s) := by
  unfold State.seqClear
  refine Kept.cond (fun _ => ?_) (fun _ => ?_)
  · assumption
  · refine Kept.forEach (fun z0 a1 h2 => ?_) ?_
    · split
      · refine State.railClear_kept (Sub.trans (b := 2345069582336) (by decide) hp) ?_
        assumption
      · refine Kept.cond (fun _ => ?_) (fun _ => ?_)
        · refine State.setStep_kept (Sub.trans (b := 2345069582336) (by decide) hp) ?_
          assumption
        · assumption
    · assumption

theorem State.seqDown_kept {m : Nat} {s0 : State} (hp : Sub 2345069582464 m) {s : State} (hk : Kept m s0 s) : Kept m s0 (State.seqDown s) := by
  unfold State.seqDown
  refine Kept.cond (fun _ => ?_) (fun _ => ?_)
  · assumption
  · refine State.takeDown_kept hp ?_
    assumption

theorem State.seqCtl_kept {m : Nat} {s0 : State} (hp : Sub 2345069582464 m) {s : State} {v : W32} (hk : Kept m s0 s) : Kept m s0 (State.seqCtl s v) := by
  unfold State.seqCtl
  extract_lets +onlyGivenNames x0
  have h1 : Kept m s0 x0 := by
    unfold x0
    refine Kept.cond (fun _ => ?_) (fun _ => ?_)
    · refine State.seqClear_kept (Sub.trans (b := 2345069582464) (by decide) hp) ?_
      assumption
    · assumption
  try (generalize x0 = y0 at h1 ⊢; try clear x0)
  extract_lets +onlyGivenNames x2
  have h3 : Kept m s0 x2 := by
    unfold x2
    refine Kept.cond (fun _ => ?_) (fun _ => ?_)
    · refine State.seqDown_kept hp ?_
      assumption
    · assumption
  try (generalize x2 = y2 at h3 ⊢; try clear x2)
  refine Kept.cond (fun _ => ?_) (fun _ => ?_)
  · refine State.seqUp_kept (Sub.trans (b := 2345069582464) (by decide) hp) ?_
    assumption
  · assumption

theorem State.railCtl_kept {m : Nat} {s0 : State} (hp : Sub 2345069582464 m) {s : State} {r : Nat} {v : W32} (hk : Kept m s0 s) : Kept m s0 (State.railCtl s r v) := by
  unfold State.railCtl
  refine Kept.cond (fun _ => ?_) (fun _ => ?_)
  · assumption
  · extract_lets +onlyGivenNames x0
    have h1 : Kept m s0 x0 := by
      unfold x0
      refine Kept.cond (fun _ => ?_) (fun _ => ?_)
      · refine State.railClearAgain_kept (Sub.trans (b := 2345069582464) (by decide) hp) ?_
        assumption
      · assumption
    try (generalize x0 = y0 at h1 ⊢; try clear x0)
    refine Kept.cond (fun _ => ?_) (fun _ => ?_)
    · assumption
    · refine Kept.cond (fun _ => ?_) (fun _ => ?_)
      · refine State.takeDown_kept hp ?_
        assumption
      · refine Kept.cond (fun _ => ?_) (fun _ => ?_)
        · refine State.stepWait_kept (Sub.trans (b := 2345069582464) (by decide) hp) ?_
          assumption
        · assumption

theorem State.railSetpt_kept {m : Nat} {s0 : State} (hp : Sub 2345069576192 m) {s : State} {r : Nat} {v : W32} (hk : Kept m s0 s) : Kept m s0 (State.railSetpt s r v) := by
  unfold State.railSetpt
  refine Kept.cond (fun _ => ?_) (fun _ => ?_)
  · assumption
  · extract_lets +onlyGivenNames x0
    refine Kept.cond (fun _ => ?_) (fun _ => ?_)
    · refine State.pf_kept' Reg.RAIL_SETPT_block (hp.bit (by decide)) ?_
      assumption
    · refine State.railEvt_kept hp ?_
      assumption

theorem State.weirDrive_kept {m : Nat} {s0 : State} (hp : Sub 8589934592 m) {s : State} {r : Nat} {pos : Nat} {p : Nat} {v : Nat} (hk : Kept m s0 s) : Kept m s0 (State.weirDrive s r pos p v).1 := by
  unfold State.weirDrive
  extract_lets +onlyGivenNames x0
  extract_lets +onlyGivenNames x1
  extract_lets +onlyGivenNames x2
  extract_lets +onlyGivenNames x3
  extract_lets +onlyGivenNames x4
  extract_lets +onlyGivenNames x5
  extract_lets +onlyGivenNames x6
  have h7 : Kept m s0 x6 := by
    unfold x6
    refine Kept.cond (fun _ => ?_) (fun _ => ?_)
    · refine State.inc_kept' Reg.RAIL_WCNT0_block (hp.bit (by decide)) ?_
      assumption
    · assumption
  try (generalize x6 = y6 at h7 ⊢; try clear x6)
  extract_lets +onlyGivenNames x8
  have h9 : Kept m s0 x8 := by
    unfold x8
    refine Kept.cond (fun _ => ?_) (fun _ => ?_)
    · refine State.inc_kept' Reg.RAIL_WCNT0_block (hp.bit (by decide)) ?_
      assumption
    · assumption
  try (generalize x8 = y8 at h9 ⊢; try clear x8)
  show Kept m s0 _
  assumption

theorem State.ovrCurrent_kept {m : Nat} {s0 : State} (hp : Sub 2176 m) {s : State} {r : Nat} {p : Nat} {v : Nat} (hk : Kept m s0 s) : Kept m s0 (State.ovrCurrent s r p v) := by
  unfold State.ovrCurrent
  refine Kept.cond (fun _ => ?_) (fun _ => ?_)
  · refine State.pushOvr_kept hp ?_
    assumption
  · refine State.pushOvr_kept hp ?_
    assumption

theorem State.countPoc_kept {m : Nat} {s0 : State} (hp : Sub 2345069576192 m) {s : State} {r : Nat} (hk : Kept m s0 s) : Kept m s0 (State.countPoc s r) := by
  unfold State.countPoc
  refine State.railEvt_kept hp ?_
  refine State.inc_kept' Reg.RAIL_WCNT1_block (hp.bit (by decide)) ?_
  assumption

theorem State.phaseClamp_kept {m : Nat} {s0 : State} (hp : Sub 2345069578368 m) {s : State} {r : Nat} {pos : Nat} {p : Nat} (hk : Kept m s0 s) : Kept m s0 (State.phaseClamp s r pos p) := by
  unfold State.phaseClamp
  extract_lets +onlyGivenNames x0
  extract_lets +onlyGivenNames x1
  have h2 : Kept m s0 x1 := by
    unfold x1
    refine State.setRl_kept (Sub.trans (b := 2345069578368) (by decide) hp) ?_
    assumption
  try (generalize x1 = y1 at h2 ⊢; try clear x1)
  refine State.ovrCurrent_kept (Sub.trans (b := 2345069578368) (by decide) hp) ?_
  refine State.countPoc_kept (Sub.trans (b := 2345069578368) (by decide) hp) ?_
  assumption

theorem State.markWshed_kept {m : Nat} {s0 : State} (hp : Sub 2345069578240 m) {s : State} {r : Nat} {pos : Nat} (hk : Kept m s0 s) : Kept m s0 (State.markWshed s r pos) := by
  unfold State.markWshed
  extract_lets +onlyGivenNames x0
  extract_lets +onlyGivenNames x1
  have h2 : Kept m s0 x1 := by
    unfold x1
    refine State.setRl_kept (Sub.trans (b := 2345069578240) (by decide) hp) ?_
    assumption
  try (generalize x1 = y1 at h2 ⊢; try clear x1)
  extract_lets +onlyGivenNames x3
  have h4 : Kept m s0 x3 := by
    unfold x3
    refine Kept.cond (fun _ => ?_) (fun _ => ?_)
    · refine State.setB_kept' Reg.RAIL_WSHED_LO_block (hp.bit (by decide)) ?_
      assumption
    · refine State.setB_kept' Reg.RAIL_WSHED_HI_block (hp.bit (by decide)) ?_
      assumption
  try (generalize x3 = y3 at h4 ⊢; try clear x3)
  refine State.railEvt_kept (Sub.trans (b := 2345069578240) (by decide) hp) ?_
  assumption

theorem State.wshedWrite_kept {m : Nat} {s0 : State} (hp : Sub 2048 m) {s : State} {reg : Reg} {base : Nat} {r : Nat} {v : W32} (hr_reg : m.testBit reg.block.ctorIdx = true) (hk : Kept m s0 s) : Kept m s0 (State.wshedWrite s reg base r v) := by
  unfold State.wshedWrite
  extract_lets +onlyGivenNames x0
  refine State.setRl_kept hp ?_
  refine State.plainWrite_kept' rfl hr_reg ?_
  assumption

theorem State.phaseShed_kept {m : Nat} {s0 : State} (hp : Sub 2345069578368 m) {s : State} {r : Nat} {pos : Nat} {p : Nat} (hk : Kept m s0 s) : Kept m s0 (State.phaseShed s r pos p) := by
  unfold State.phaseShed
  refine State.markWshed_kept (Sub.trans (b := 2345069578368) (by decide) hp) ?_
  refine State.pushOvr_kept (Sub.trans (b := 2345069578368) (by decide) hp) ?_
  assumption

theorem State.totalClamp_kept {m : Nat} {s0 : State} (hp : Sub 2345069578368 m) {s : State} {r : Nat} {own : Option Nat} (hk : Kept m s0 s) : Kept m s0 (State.totalClamp s r own) := by
  unfold State.totalClamp
  extract_lets +onlyGivenNames x0
  extract_lets +onlyGivenNames x1
  refine Kept.cond (fun _ => ?_) (fun _ => ?_)
  · assumption
  · extract_lets +onlyGivenNames x2
    extract_lets +onlyGivenNames x3
    extract_lets +onlyGivenNames x4
    have h5 : Kept m s0 x4 := by
      unfold x4
      refine State.setRl_kept (Sub.trans (b := 2345069578368) (by decide) hp) ?_
      assumption
    try (generalize x4 = y4 at h5 ⊢; try clear x4)
    extract_lets +onlyGivenNames x6
    have h7 : Kept m s0 x6 := by
      unfold x6
      refine State.railEvt_kept (Sub.trans (b := 2345069578368) (by decide) hp) ?_
      refine State.inc_kept' Reg.RAIL_WCNT1_block (hp.bit (by decide)) ?_
      assumption
    try (generalize x6 = y6 at h7 ⊢; try clear x6)
    refine Kept.forEach (fun z8 a9 h10 => ?_) ?_
    · extract_lets +onlyGivenNames x11
      refine Kept.cond (fun _ => ?_) (fun _ => ?_)
      · refine State.ovrCurrent_kept (Sub.trans (b := 2345069578368) (by decide) hp) ?_
        assumption
      · assumption
    · assumption

theorem State.weirSample_kept {m : Nat} {s0 : State} (hp : Sub 2345069582464 m) {s : State} {r : Nat} {pos : Nat} {p : Nat} {cur : Int} (hk : Kept m s0 s) : Kept m s0 (State.weirSample s r pos p cur) := by
  unfold State.weirSample
  extract_lets +onlyGivenNames x0
  extract_lets +onlyGivenNames x1
  refine Kept.cond (fun _ => ?_) (fun _ => ?_)
  · assumption
  · extract_lets +onlyGivenNames x2
    extract_lets +onlyGivenNames x3
    extract_lets +onlyGivenNames x4
    have h5 : Kept m s0 x4 := by
      unfold x4
      refine State.setRl_kept (Sub.trans (b := 2345069582464) (by decide) hp) ?_
      assumption
    try (generalize x4 = y4 at h5 ⊢; try clear x4)
    refine Kept.cond (fun _ => ?_) (fun _ => ?_)
    · extract_lets +onlyGivenNames x6
      have h7 : Kept m s0 x6 := by
        unfold x6
        refine Kept.cond (fun _ => ?_) (fun _ => ?_)
        · refine State.markWshed_kept (Sub.trans (b := 2345069582464) (by decide) hp) ?_
          assumption
        · refine Kept.cond (fun _ => ?_) (fun _ => ?_)
          · refine State.countPoc_kept (Sub.trans (b := 2345069582464) (by decide) hp) ?_
            assumption
          · assumption
      try (generalize x6 = y6 at h7 ⊢; try clear x6)
      refine State.railFault_kept hp ?_
      assumption
    · extract_lets +onlyGivenNames x8
      extract_lets +onlyGivenNames x9
      have h10 : Kept m s0 x9 := by
        unfold x9
        refine Kept.cond (fun _ => ?_) (fun _ => ?_)
        · refine State.totalClamp_kept (Sub.trans (b := 2345069582464) (by decide) hp) ?_
          assumption
        · assumption
      try (generalize x9 = y9 at h10 ⊢; try clear x9)
      refine Kept.cond (fun _ => ?_) (fun _ => ?_)
      · assumption
      · refine Kept.cond (fun _ => ?_) (fun _ => ?_)
        · refine State.phaseShed_kept (Sub.trans (b := 2345069582464) (by decide) hp) ?_
          assumption
        · refine Kept.cond (fun _ => ?_) (fun _ => ?_)
          · refine State.phaseClamp_kept (Sub.trans (b := 2345069582464) (by decide) hp) ?_
            assumption
          · assumption

theorem State.senseRail_kept {m : Nat} {s0 : State} (hp : Sub 2345069582464 m) {s : State} {r : Nat} {code : Nat} (hk : Kept m s0 s) : Kept m s0 (State.senseRail s r code) := by
  unfold State.senseRail
  extract_lets +onlyGivenNames x0
  extract_lets +onlyGivenNames x1
  have h2 : Kept m s0 x1 := by
    unfold x1
    refine State.setRl_kept (Sub.trans (b := 2345069582464) (by decide) hp) ?_
    assumption
  try (generalize x1 = y1 at h2 ⊢; try clear x1)
  extract_lets +onlyGivenNames x3
  extract_lets +onlyGivenNames x4
  refine Kept.cond (fun _ => ?_) (fun _ => ?_)
  · assumption
  · refine Kept.cond (fun _ => ?_) (fun _ => ?_)
    · refine State.railFault_kept hp ?_
      assumption
    · extract_lets +onlyGivenNames x5
      extract_lets +onlyGivenNames x6
      extract_lets +onlyGivenNames x7
      extract_lets +onlyGivenNames x8
      extract_lets +onlyGivenNames x9
      extract_lets +onlyGivenNames x10
      have h11 : Kept m s0 x10 := by
        unfold x10
        refine State.setRl_kept (Sub.trans (b := 2345069582464) (by decide) hp) ?_
        assumption
      try (generalize x10 = y10 at h11 ⊢; try clear x10)
      extract_lets +onlyGivenNames x12
      have h13 : Kept m s0 x12 := by
        unfold x12
        refine Kept.cond (fun _ => ?_) (fun _ => ?_)
        · refine State.setPg_kept (Sub.trans (b := 2345069582464) (by decide) hp) ?_
          assumption
        · assumption
      try (generalize x12 = y12 at h13 ⊢; try clear x12)
      refine Kept.cond (fun _ => ?_) (fun _ => ?_)
      · extract_lets +onlyGivenNames x14
        have h15 : Kept m s0 x14 := by
          unfold x14
          refine State.railEvt_kept (Sub.trans (b := 2345069582464) (by decide) hp) ?_
          assumption
        try (generalize x14 = y14 at h15 ⊢; try clear x14)
        refine Kept.cond (fun _ => ?_) (fun _ => ?_)
        · refine State.railFault_kept hp ?_
          assumption
        · assumption
      · assumption

theorem State.nrecOf_kept {m : Nat} {s0 : State} (hp : Sub 2048 m) {s : State} {r : Nat} {notices : List Notice} (hk : Kept m s0 s) : Kept m s0 (State.nrecOf s r notices) := by
  unfold State.nrecOf
  extract_lets +onlyGivenNames x0
  extract_lets +onlyGivenNames x1
  refine Kept.cond (fun _ => ?_) (fun _ => ?_)
  · assumption
  · extract_lets +onlyGivenNames x2
    extract_lets +onlyGivenNames x3
    extract_lets +onlyGivenNames x4
    extract_lets +onlyGivenNames x5
    extract_lets +onlyGivenNames x6
    extract_lets +onlyGivenNames x7
    extract_lets +onlyGivenNames x8
    extract_lets +onlyGivenNames x9
    split
    · extract_lets +onlyGivenNames x10
      extract_lets +onlyGivenNames x11
      refine State.setRl_kept hp ?_
      assumption

theorem State.plausTick_kept {m : Nat} {s0 : State} (hp : Sub 2048 m) {s : State} {r : Nat} (hk : Kept m s0 s) : Kept m s0 (State.plausTick s r) := by
  unfold State.plausTick
  extract_lets +onlyGivenNames x0
  refine Kept.cond (fun _ => ?_) (fun _ => ?_)
  · assumption
  · extract_lets +onlyGivenNames x1
    extract_lets +onlyGivenNames x2
    refine Kept.cond (fun _ => ?_) (fun _ => ?_)
    · assumption
    · extract_lets +onlyGivenNames x3
      extract_lets +onlyGivenNames x4
      refine Kept.cond (fun _ => ?_) (fun _ => ?_)
      · refine State.setRl_kept hp ?_
        assumption
      · refine State.setRl_kept hp ?_
        assumption

theorem State.imeasTick_kept {m : Nat} {s0 : State} (hp : Sub 2048 m) {s : State} {r : Nat} (hk : Kept m s0 s) : Kept m s0 (State.imeasTick s r) := by
  unfold State.imeasTick
  extract_lets +onlyGivenNames x0
  refine State.setRl_kept hp ?_
  assumption

theorem State.iestOver_kept {m : Nat} {s0 : State} (hp : Sub 2048 m) {s : State} {r : Nat} {ok : Nat → Bool} (hk : Kept m s0 s) : Kept m s0 (State.iestOver s r ok) := by
  unfold State.iestOver
  extract_lets +onlyGivenNames x0
  extract_lets +onlyGivenNames x1
  refine State.setRl_kept hp ?_
  assumption

theorem State.iestLatch_kept {m : Nat} {s0 : State} (hp : Sub 2048 m) {s : State} {r : Nat} (hk : Kept m s0 s) : Kept m s0 (State.iestLatch s r) := by
  unfold State.iestLatch
  refine Kept.cond (fun _ => ?_) (fun _ => ?_)
  · assumption
  · refine State.iestOver_kept hp ?_
    assumption

theorem State.iestTick_kept {m : Nat} {s0 : State} (hp : Sub 2048 m) {s : State} {r : Nat} (hk : Kept m s0 s) : Kept m s0 (State.iestTick s r) := by
  unfold State.iestTick
  extract_lets +onlyGivenNames x0
  refine Kept.cond (fun _ => ?_) (fun _ => ?_)
  · split
    · split
      · refine Kept.cond (fun _ => ?_) (fun _ => ?_)
        · refine State.setRl_kept hp ?_
          assumption
        · refine State.setRl_kept hp ?_
          assumption
      · refine State.setRl_kept hp ?_
        assumption
    · assumption
  · extract_lets +onlyGivenNames x1
    extract_lets +onlyGivenNames x2
    extract_lets +onlyGivenNames x3
    have h4 : Kept m s0 x3 := by
      unfold x3
      refine State.setRl_kept hp ?_
      assumption
    try (generalize x3 = y3 at h4 ⊢; try clear x3)
    refine State.iestOver_kept hp ?_
    assumption

theorem State.hearEdge_kept {m : Nat} {s0 : State} (hp : Sub 128 m) {s : State} {r : Nat} (hk : Kept m s0 s) : Kept m s0 (State.hearEdge s r) := by
  unfold State.hearEdge
  refine Kept.cond (fun _ => ?_) (fun _ => ?_)
  · assumption
  · refine Kept.forEach (fun z0 a1 h2 => ?_) ?_
    · extract_lets +onlyGivenNames x3
      refine State.setPrt_kept hp ?_
      assumption
    · assumption

theorem State.railEdge_kept {m : Nat} {s0 : State} (hp : Sub 2345069578240 m) {s : State} {r : Nat} (hk : Kept m s0 s) : Kept m s0 (State.railEdge s r) := by
  unfold State.railEdge
  extract_lets +onlyGivenNames x0
  extract_lets +onlyGivenNames x1
  extract_lets +onlyGivenNames x2
  extract_lets +onlyGivenNames x3
  refine Kept.cond (fun _ => ?_) (fun _ => ?_)
  · refine State.setRl_kept (Sub.trans (b := 2345069578240) (by decide) hp) ?_
    assumption
  · refine Kept.cond (fun _ => ?_) (fun _ => ?_)
    · refine State.railOff_kept hp ?_
      refine State.setRl_kept (Sub.trans (b := 2345069578240) (by decide) hp) ?_
      assumption
    · split
      · refine State.setRl_kept (Sub.trans (b := 2345069578240) (by decide) hp) ?_
        assumption
      · extract_lets +onlyGivenNames x4
        refine State.setRl_kept (Sub.trans (b := 2345069578240) (by decide) hp) ?_
        assumption
      · refine Kept.cond (fun _ => ?_) (fun _ => ?_)
        · refine State.railOff_kept hp ?_
          refine State.setRl_kept (Sub.trans (b := 2345069578240) (by decide) hp) ?_
          assumption
        · refine State.setRl_kept (Sub.trans (b := 2345069578240) (by decide) hp) ?_
          assumption
      · refine State.setRl_kept (Sub.trans (b := 2345069578240) (by decide) hp) ?_
        assumption

theorem State.stepTimer_kept {m : Nat} {s0 : State} (hp : Sub 4096 m) {s : State} {k : Nat} (hk : Kept m s0 s) : Kept m s0 (State.stepTimer s k) := by
  unfold State.stepTimer
  extract_lets +onlyGivenNames x0
  extract_lets +onlyGivenNames x1
  extract_lets +onlyGivenNames x2
  refine State.setStep_kept hp ?_
  assumption

theorem State.stepGpioEdge_kept {m : Nat} {s0 : State} (hp : Sub 4096 m) {s : State} {k : Nat} (hk : Kept m s0 s) : Kept m s0 (State.stepGpioEdge s k) := by
  unfold State.stepGpioEdge
  extract_lets +onlyGivenNames x0
  refine Kept.cond (fun _ => ?_) (fun _ => ?_)
  · assumption
  · split
    · refine State.setStep_kept hp ?_
      assumption
    · refine State.setStep_kept hp ?_
      assumption
    · assumption

theorem State.stepsEdge_kept {m : Nat} {s0 : State} (hp : Sub 4096 m) {s : State} (hk : Kept m s0 s) : Kept m s0 (State.stepsEdge s) := by
  unfold State.stepsEdge
  refine Kept.forEach (fun z3 a4 h5 => ?_) ?_
  · refine State.stepGpioEdge_kept hp ?_
    assumption
  · refine Kept.forEach (fun z0 a1 h2 => ?_) ?_
    · refine State.stepTimer_kept hp ?_
      assumption
    · assumption

theorem execNophase_kept {m : Nat} {s0 : State} (hp : Sub 2345069582464 m) {r : Fin 64} {s : State} (hk : Kept m s0 s) : OutKept m s0 (execNophase r s) := by
  unfold execNophase
  refine OutKept.next ?_
  refine Kept.cond (fun _ => ?_) (fun _ => ?_)
  · refine State.railFault_kept hp ?_
    assumption
  · assumption

theorem execPgtmo_kept {m : Nat} {s0 : State} (hp : Sub 2345069582464 m) {st : Fin 128} {s : State} (hk : Kept m s0 s) : OutKept m s0 (execPgtmo st s) := by
  unfold execPgtmo
  refine OutKept.next ?_
  extract_lets +onlyGivenNames x0
  split
  · refine Kept.cond (fun _ => ?_) (fun _ => ?_)
    · refine State.railFault_kept hp ?_
      assumption
    · assumption
  · extract_lets +onlyGivenNames x1
    refine Kept.cond (fun _ => ?_) (fun _ => ?_)
    · assumption
    · refine Kept.cond (fun _ => ?_) (fun _ => ?_)
      · refine State.gpioFault_kept hp ?_
        assumption
      · refine Kept.cond (fun _ => ?_) (fun _ => ?_)
        · refine State.setStep_kept (Sub.trans (b := 2345069582464) (by decide) hp) ?_
          assumption
        · assumption

theorem execPgUp_kept {m : Nat} {s0 : State} (hp : Sub 2345069578240 m) {r : Fin 64} {s : State} (hk : Kept m s0 s) : OutKept m s0 (execPgUp r s) := by
  unfold execPgUp
  refine OutKept.next ?_
  extract_lets +onlyGivenNames x0
  refine Kept.cond (fun _ => ?_) (fun _ => ?_)
  · extract_lets +onlyGivenNames x1
    have h2 : Kept m s0 x1 := by
      unfold x1
      refine State.setPg_kept hp ?_
      assumption
    try (generalize x1 = y1 at h2 ⊢; try clear x1)
    refine State.setRl_kept (Sub.trans (b := 2345069578240) (by decide) hp) ?_
    assumption
  · assumption

theorem execSeqStepStart_kept {m : Nat} {s0 : State} (hp : Sub 6144 m) {st : Fin 128} {s : State} (hk : Kept m s0 s) : OutKept m s0 (execSeqStepStart st s) := by
  unfold execSeqStepStart
  refine OutKept.next ?_
  refine State.stepStart_kept hp ?_
  assumption

theorem execSeqGpioPgChange_kept {m : Nat} {s0 : State} (hp : Sub 37529441671296 m) {g : Fin 128} {lvl : Bool} {s : State} (hk : Kept m s0 s) : OutKept m s0 (execSeqGpioPgChange g lvl s) := by
  unfold execSeqGpioPgChange
  refine OutKept.next ?_
  extract_lets +onlyGivenNames x0
  have h1 : Kept m s0 x0 := by
    unfold x0
    refine Kept.cond (fun _ => ?_) (fun _ => ?_)
    · refine State.setB_kept' Reg.GPIO_IN_block (hp.bit (by decide)) ?_
      assumption
    · refine State.clrB_kept' Reg.GPIO_IN_block (hp.bit (by decide)) ?_
      assumption
  try (generalize x0 = y0 at h1 ⊢; try clear x0)
  extract_lets +onlyGivenNames x2
  refine Kept.cond (fun _ => ?_) (fun _ => ?_)
  · assumption
  · extract_lets +onlyGivenNames x3
    have h4 : Kept m s0 x3 := by
      unfold x3
      refine Kept.forEach (fun z5 a6 h7 => ?_) ?_
      · extract_lets +onlyGivenNames x8
        split
        · refine State.setStep_kept (Sub.trans (b := 37529441671296) (by decide) hp) ?_
          assumption
        · refine Kept.cond (fun _ => ?_) (fun _ => ?_)
          · refine State.gpioFault_kept (Sub.trans (b := 37529441671296) (by decide) hp) ?_
            assumption
          · assumption
        · refine State.setStep_kept (Sub.trans (b := 37529441671296) (by decide) hp) ?_
          assumption
        · assumption
      · assumption
    try (generalize x3 = y3 at h4 ⊢; try clear x3)
    refine State.settleDown_kept (Sub.trans (b := 37529441671296) (by decide) hp) ?_
    assumption

end Sys2Proof.Machine
end

