-- ==== Sys2Proof/Laws/KeptLink.lean ====
section
/-!
SUPPORT. What the definitions of Machine/Link.lean keep: one lemma each.
-/
namespace Sys2Proof.Machine

theorem State.setPlState_kept {m : Nat} {s0 : State} (hp : Sub 2147483648 m) {s : State} {n : Nat} {k : Nat} (hk : Kept m s0 s) : Kept m s0 (State.setPlState s n k) := by
  unfold State.setPlState
  refine State.pf_kept' Reg.PL_STATUS_block (hp.bit (by decide)) ?_
  assumption

theorem State.shedLost_kept {m : Nat} {s0 : State} (hp : Sub 128 m) {s : State} {n : Nat} {a : Nat} {was : Bool} (hk : Kept m s0 s) : Kept m s0 (State.shedLost s n a was) := by
  unfold State.shedLost
  refine Kept.cond (fun _ => ?_) (fun _ => ?_)
  · refine State.setPrt_kept hp ?_
    assumption
  · assumption

theorem State.mark_kept {m : Nat} {s0 : State} (hp : Sub 6736942071936 m) {s : State} {n : Nat} {a : Nat} {r : Reg} {off : Nat} {evt : Nat} (hr_r : m.testBit r.block.ctorIdx = true) (hk : Kept m s0 s) : Kept m s0 (State.mark s n a r off evt) := by
  unfold State.mark
  refine State.shedLost_kept (Sub.trans (b := 6736942071936) (by decide) hp) ?_
  refine State.plEvt_kept (Sub.trans (b := 6736942071936) (by decide) hp) ?_
  refine State.setB_kept' rfl hr_r ?_
  assumption

theorem State.markAbsent_kept {m : Nat} {s0 : State} (hp : Sub 6736942071936 m) {s : State} {n : Nat} {a : Nat} (hk : Kept m s0 s) : Kept m s0 (State.markAbsent s n a) := by
  unfold State.markAbsent
  refine State.mark_kept hp (by rw [Reg.PL_PHASE_block]; exact hp.bit (by decide)) ?_
  assumption

theorem State.markErrshed_kept {m : Nat} {s0 : State} (hp : Sub 6736942071936 m) {s : State} {n : Nat} {a : Nat} (hk : Kept m s0 s) : Kept m s0 (State.markErrshed s n a) := by
  unfold State.markErrshed
  refine State.mark_kept hp (by rw [Reg.PL_PHASE_block]; exact hp.bit (by decide)) ?_
  assumption

theorem State.markConflict_kept {m : Nat} {s0 : State} (hp : Sub 6736942071936 m) {s : State} {n : Nat} {a : Nat} (hk : Kept m s0 s) : Kept m s0 (State.markConflict s n a) := by
  unfold State.markConflict
  refine State.mark_kept hp (by rw [Reg.PL_PHASE_block]; exact hp.bit (by decide)) ?_
  assumption

theorem State.markMismatch_kept {m : Nat} {s0 : State} (hp : Sub 6736942071936 m) {s : State} {n : Nat} {a : Nat} (hk : Kept m s0 s) : Kept m s0 (State.markMismatch s n a) := by
  unfold State.markMismatch
  refine State.mark_kept hp (by rw [Reg.PL_PHASE2_block]; exact hp.bit (by decide)) ?_
  assumption

theorem State.markUnexpected_kept {m : Nat} {s0 : State} (hp : Sub 6736942071936 m) {s : State} {n : Nat} {a : Nat} (hk : Kept m s0 s) : Kept m s0 (State.markUnexpected s n a) := by
  unfold State.markUnexpected
  refine State.mark_kept hp (by rw [Reg.PL_PHASE2_block]; exact hp.bit (by decide)) ?_
  assumption

theorem State.markFlt_kept {m : Nat} {s0 : State} (hp : Sub 6736942071936 m) {s : State} {n : Nat} {a : Nat} (hk : Kept m s0 s) : Kept m s0 (State.markFlt s n a) := by
  unfold State.markFlt
  refine State.mark_kept hp (by rw [Reg.PL_PHASE2_block]; exact hp.bit (by decide)) ?_
  assumption

theorem State.clearMarks_kept {m : Nat} {s0 : State} (hp : Sub 2147483776 m) {s : State} {n : Nat} {a : Nat} (hk : Kept m s0 s) : Kept m s0 (State.clearMarks s n a) := by
  unfold State.clearMarks
  extract_lets +onlyGivenNames x0
  have h1 : Kept m s0 x0 := by
    unfold x0
    refine State.clrB_kept' Reg.PL_PHASE_block (hp.bit (by decide)) ?_
    refine State.clrB_kept' Reg.PL_PHASE_block (hp.bit (by decide)) ?_
    refine State.clrB_kept' Reg.PL_PHASE_block (hp.bit (by decide)) ?_
    assumption
  try (generalize x0 = y0 at h1 ⊢; try clear x0)
  extract_lets +onlyGivenNames x2
  have h3 : Kept m s0 x2 := by
    unfold x2
    refine State.pf_kept' Reg.PL_ERR_block (hp.bit (by decide)) ?_
    refine State.clrB_kept' Reg.PL_PHASE2_block (hp.bit (by decide)) ?_
    refine State.clrB_kept' Reg.PL_PHASE2_block (hp.bit (by decide)) ?_
    assumption
  try (generalize x2 = y2 at h3 ⊢; try clear x2)
  refine State.setPrt_kept (Sub.trans (b := 2147483776) (by decide) hp) ?_
  assumption

theorem State.clearAddr_kept {m : Nat} {s0 : State} (hp : Sub 2147483776 m) {s : State} {n : Nat} {a : Nat} (hk : Kept m s0 s) : Kept m s0 (State.clearAddr s n a) := by
  unfold State.clearAddr
  extract_lets +onlyGivenNames x0
  have h1 : Kept m s0 x0 := by
    unfold x0
    refine State.pf_kept' Reg.PL_RTD_block (hp.bit (by decide)) ?_
    refine State.clrB_kept' Reg.PL_PHASE_block (hp.bit (by decide)) ?_
    refine State.clearMarks_kept hp ?_
    assumption
  try (generalize x0 = y0 at h1 ⊢; try clear x0)
  refine State.setPrt_kept (Sub.trans (b := 2147483776) (by decide) hp) ?_
  assumption

theorem State.enumFull_kept {m : Nat} {s0 : State} (hp : Sub 2147483776 m) {s : State} {n : Nat} (hk : Kept m s0 s) : Kept m s0 (State.enumFull s n) := by
  unfold State.enumFull
  refine Kept.cond (fun _ => ?_) (fun _ => ?_)
  · assumption
  · extract_lets +onlyGivenNames x0
    have h1 : Kept m s0 x0 := by
      unfold x0
      refine Kept.forEach (fun z2 a3 h4 => ?_) ?_
      · refine State.clearAddr_kept hp ?_
        assumption
      · assumption
    try (generalize x0 = y0 at h1 ⊢; try clear x0)
    extract_lets +onlyGivenNames x5
    have h6 : Kept m s0 x5 := by
      unfold x5
      refine State.pf_kept' Reg.PL_PHASE2_block (hp.bit (by decide)) ?_
      assumption
    try (generalize x5 = y5 at h6 ⊢; try clear x5)
    extract_lets +onlyGivenNames x7
    extract_lets +onlyGivenNames x8
    have h9 : Kept m s0 x8 := by
      unfold x8
      refine State.setPrt_kept (Sub.trans (b := 2147483776) (by decide) hp) ?_
      assumption
    try (generalize x8 = y8 at h9 ⊢; try clear x8)
    refine State.setPlState_kept (Sub.trans (b := 2147483776) (by decide) hp) ?_
    assumption

theorem State.plFollow_kept {m : Nat} {s0 : State} (hp : Sub 2147483776 m) {s : State} {n : Nat} (hk : Kept m s0 s) : Kept m s0 (State.plFollow s n) := by
  unfold State.plFollow
  extract_lets +onlyGivenNames x0
  extract_lets +onlyGivenNames x1
  have h2 : Kept m s0 x1 := by
    unfold x1
    refine Kept.cond (fun _ => ?_) (fun _ => ?_)
    · refine State.setPrt_kept (Sub.trans (b := 2147483776) (by decide) hp) ?_
      assumption
    · assumption
  try (generalize x1 = y1 at h2 ⊢; try clear x1)
  refine Kept.cond (fun _ => ?_) (fun _ => ?_)
  · refine State.setPlState_kept (Sub.trans (b := 2147483776) (by decide) hp) ?_
    assumption
  · assumption

theorem State.enumNext_kept {m : Nat} {s0 : State} (hp : Sub 2147483776 m) {s : State} {n : Nat} (hk : Kept m s0 s) : Kept m s0 (State.enumNext s n) := by
  unfold State.enumNext
  extract_lets +onlyGivenNames x0
  split
  · extract_lets +onlyGivenNames x1
    have h2 : Kept m s0 x1 := by
      unfold x1
      refine State.clearAddr_kept hp ?_
      assumption
    try (generalize x1 = y1 at h2 ⊢; try clear x1)
    extract_lets +onlyGivenNames x3
    refine State.setPrt_kept (Sub.trans (b := 2147483776) (by decide) hp) ?_
    assumption
  · assumption

theorem State.enumAdvance_kept {m : Nat} {s0 : State} (hp : Sub 6736942071936 m) {s : State} {n : Nat} (hk : Kept m s0 s) : Kept m s0 (State.enumAdvance s n) := by
  unfold State.enumAdvance
  extract_lets +onlyGivenNames x0
  split
  · assumption
  · split
    · refine State.setPrt_kept (Sub.trans (b := 6736942071936) (by decide) hp) ?_
      assumption
    · extract_lets +onlyGivenNames x1
      have h2 : Kept m s0 x1 := by
        unfold x1
        refine State.setPrt_kept (Sub.trans (b := 6736942071936) (by decide) hp) ?_
        assumption
      try (generalize x1 = y1 at h2 ⊢; try clear x1)
      extract_lets +onlyGivenNames x3
      have h4 : Kept m s0 x3 := by
        unfold x3
        refine Kept.cond (fun _ => ?_) (fun _ => ?_)
        · refine State.setPlState_kept (Sub.trans (b := 6736942071936) (by decide) hp) ?_
          assumption
        · assumption
      try (generalize x3 = y3 at h4 ⊢; try clear x3)
      refine State.enumNext_kept (Sub.trans (b := 6736942071936) (by decide) hp) ?_
      refine State.plEvt_kept (Sub.trans (b := 6736942071936) (by decide) hp) ?_
      assumption

theorem State.enumStop_kept {m : Nat} {s0 : State} (hp : Sub 6736942071936 m) {s : State} {n : Nat} (hk : Kept m s0 s) : Kept m s0 (State.enumStop s n) := by
  unfold State.enumStop
  extract_lets +onlyGivenNames x0
  split
  · split
    · refine Kept.cond (fun _ => ?_) (fun _ => ?_)
      · refine State.enumAdvance_kept hp ?_
        assumption
      · assumption
    · assumption
  · assumption

theorem State.enumSynced_kept {m : Nat} {s0 : State} (hp : Sub 6736942071936 m) {s : State} {n : Nat} (hk : Kept m s0 s) : Kept m s0 (State.enumSynced s n) := by
  unfold State.enumSynced
  extract_lets +onlyGivenNames x0
  split
  · split
    · extract_lets +onlyGivenNames x1
      have h2 : Kept m s0 x1 := by
        unfold x1
        refine State.setPlState_kept (Sub.trans (b := 6736942071936) (by decide) hp) ?_
        refine State.setPrt_kept (Sub.trans (b := 6736942071936) (by decide) hp) ?_
        assumption
      try (generalize x1 = y1 at h2 ⊢; try clear x1)
      refine Kept.cond (fun _ => ?_) (fun _ => ?_)
      · refine State.enumAdvance_kept hp ?_
        assumption
      · assumption
    · assumption
  · assumption

theorem State.enumReply_kept {m : Nat} {s0 : State} (hp : Sub 6736942071936 m) {s : State} {n : Nat} {a : Nat} {data : Nat} {status : Nat} (hk : Kept m s0 s) : Kept m s0 (State.enumReply s n a data status) := by
  unfold State.enumReply
  extract_lets +onlyGivenNames x0
  split
  · assumption
  · split
    · assumption
    · extract_lets +onlyGivenNames x1
      extract_lets +onlyGivenNames x2
      have h3 : Kept m s0 x2 := by
        unfold x2
        refine State.setPrt_kept (Sub.trans (b := 6736942071936) (by decide) hp) ?_
        assumption
      try (generalize x2 = y2 at h3 ⊢; try clear x2)
      refine Kept.cond (fun _ => ?_) (fun _ => ?_)
      · assumption
      · refine Kept.cond (fun _ => ?_) (fun _ => ?_)
        · refine State.enumAdvance_kept hp ?_
          refine State.markConflict_kept hp ?_
          assumption
        · refine Kept.cond (fun _ => ?_) (fun _ => ?_)
          · refine State.enumAdvance_kept hp ?_
            refine State.markMismatch_kept hp ?_
            assumption
          · refine State.setPrt_kept (Sub.trans (b := 6736942071936) (by decide) hp) ?_
            assumption
    · refine Kept.cond (fun _ => ?_) (fun _ => ?_)
      · refine State.enumAdvance_kept hp ?_
        refine State.markMismatch_kept hp ?_
        assumption
      · refine State.setPrt_kept (Sub.trans (b := 6736942071936) (by decide) hp) ?_
        assumption
    · refine Kept.cond (fun _ => ?_) (fun _ => ?_)
      · refine State.enumAdvance_kept hp ?_
        refine State.markMismatch_kept hp ?_
        assumption
      · refine State.enumStop_kept hp ?_
        refine State.setPrt_kept (Sub.trans (b := 6736942071936) (by decide) hp) ?_
        assumption
    · refine State.enumAdvance_kept hp ?_
      refine State.setB_kept' Reg.PL_PHASE_block (hp.bit (by decide)) ?_
      assumption

theorem State.prbsEnd_kept {m : Nat} {s0 : State} (hp : Sub 2147483648 m) {s : State} {n : Nat} {t : Nat} (hk : Kept m s0 s) : Kept m s0 (State.prbsEnd s n t) := by
  unfold State.prbsEnd
  refine Kept.cond (fun _ => ?_) (fun _ => ?_)
  · refine State.tick1_kept (Sub.trans (b := 2147483648) (by decide) hp) ?_
    refine State.wr_kept' Reg.PL_PRBS_ERR_block (hp.bit (by decide)) ?_
    assumption
  · assumption

theorem State.plDisable_kept {m : Nat} {s0 : State} (hp : Sub 6736942071936 m) {s : State} {n : Nat} {cause : Nat} {evt : Nat} (hk : Kept m s0 s) : Kept m s0 (State.plDisable s n cause evt) := by
  unfold State.plDisable
  refine Kept.cond (fun _ => ?_) (fun _ => ?_)
  · assumption
  · extract_lets +onlyGivenNames x0
    have h1 : Kept m s0 x0 := by
      unfold x0
      refine Kept.cond (fun _ => ?_) (fun _ => ?_)
      · refine State.plEvt_kept (Sub.trans (b := 6736942071936) (by decide) hp) ?_
        assumption
      · assumption
    try (generalize x0 = y0 at h1 ⊢; try clear x0)
    extract_lets +onlyGivenNames x2
    have h3 : Kept m s0 x2 := by
      unfold x2
      refine State.pf_kept' Reg.PL_STATUS_block (hp.bit (by decide)) ?_
      refine State.setPlState_kept (Sub.trans (b := 6736942071936) (by decide) hp) ?_
      refine State.prbsEnd_kept (Sub.trans (b := 6736942071936) (by decide) hp) ?_
      assumption
    try (generalize x2 = y2 at h3 ⊢; try clear x2)
    refine State.setPrt_kept (Sub.trans (b := 6736942071936) (by decide) hp) ?_
    assumption

theorem State.quietViolation_kept {m : Nat} {s0 : State} (hp : Sub 6736942071936 m) {s : State} {n : Nat} (hk : Kept m s0 s) : Kept m s0 (State.quietViolation s n) := by
  unfold State.quietViolation
  extract_lets +onlyGivenNames x0
  refine Kept.cond (fun _ => ?_) (fun _ => ?_)
  · assumption
  · extract_lets +onlyGivenNames x1
    have h2 : Kept m s0 x1 := by
      unfold x1
      refine State.setPrt_kept (Sub.trans (b := 6736942071936) (by decide) hp) ?_
      assumption
    try (generalize x1 = y1 at h2 ⊢; try clear x1)
    refine Kept.cond (fun _ => ?_) (fun _ => ?_)
    · refine State.plDisable_kept hp ?_
      assumption
    · assumption

theorem State.plSend_kept {m : Nat} {s0 : State} (hp : Sub 128 m) {s : State} {n : Nat} {t : Nat} (hk : Kept m s0 s) : Kept m s0 (State.plSend s n t) := by
  unfold State.plSend
  extract_lets +onlyGivenNames x0
  extract_lets +onlyGivenNames x1
  extract_lets +onlyGivenNames x2
  refine Kept.cond (fun _ => ?_) (fun _ => ?_)
  · assumption
  · refine Kept.cond (fun _ => ?_) (fun _ => ?_)
    · extract_lets +onlyGivenNames x3
      refine State.setPrt_kept hp ?_
      assumption
    · refine Kept.cond (fun _ => ?_) (fun _ => ?_)
      · assumption
      · split
        · refine State.setPrt_kept hp ?_
          assumption
        · split
          · split
            · refine State.setPrt_kept hp ?_
              assumption
          · split
            · extract_lets +onlyGivenNames x4
              split
              · refine State.setPrt_kept hp ?_
                assumption
            · refine Kept.cond (fun _ => ?_) (fun _ => ?_)
              · assumption
              · split
                · refine State.setPrt_kept hp ?_
                  assumption
                · assumption

theorem State.bucketUp_kept {m : Nat} {s0 : State} (hp : Sub 6736942071936 m) {s : State} {n : Nat} {a : Nat} (hk : Kept m s0 s) : Kept m s0 (State.bucketUp s n a) := by
  unfold State.bucketUp
  extract_lets +onlyGivenNames x0
  extract_lets +onlyGivenNames x1
  have h2 : Kept m s0 x1 := by
    unfold x1
    refine State.inc_kept' Reg.PL_ERR_block (hp.bit (by decide)) ?_
    refine State.inc_kept' Reg.PL_ERR_block (hp.bit (by decide)) ?_
    assumption
  try (generalize x1 = y1 at h2 ⊢; try clear x1)
  refine Kept.cond (fun _ => ?_) (fun _ => ?_)
  · refine State.markErrshed_kept hp ?_
    assumption
  · assumption

theorem State.goodFrame_kept {m : Nat} {s0 : State} (hp : Sub 2147483776 m) {s : State} {n : Nat} {a : Nat} (hk : Kept m s0 s) : Kept m s0 (State.goodFrame s n a) := by
  unfold State.goodFrame
  extract_lets +onlyGivenNames x0
  extract_lets +onlyGivenNames x1
  refine Kept.cond (fun _ => ?_) (fun _ => ?_)
  · extract_lets +onlyGivenNames x2
    have h3 : Kept m s0 x2 := by
      unfold x2
      refine State.setPrt_kept (Sub.trans (b := 2147483776) (by decide) hp) ?_
      assumption
    try (generalize x2 = y2 at h3 ⊢; try clear x2)
    refine State.pf_kept' Reg.PL_ERR_block (hp.bit (by decide)) ?_
    assumption
  · refine State.setPrt_kept (Sub.trans (b := 2147483776) (by decide) hp) ?_
    assumption

theorem State.badFrame_kept {m : Nat} {s0 : State} (hp : Sub 6736942071936 m) {s : State} {n : Nat} {a : Nat} (hk : Kept m s0 s) : Kept m s0 (State.badFrame s n a) := by
  unfold State.badFrame
  extract_lets +onlyGivenNames x0
  refine State.bucketUp_kept hp ?_
  refine State.setPrt_kept (Sub.trans (b := 6736942071936) (by decide) hp) ?_
  assumption

theorem State.rxSample_kept {m : Nat} {s0 : State} (hp : Sub 6745532012672 m) {s : State} {n : Nat} {a : Nat} {rx : Upstream} (hk : Kept m s0 s) : Kept m s0 (State.rxSample s n a rx) := by
  unfold State.rxSample
  extract_lets +onlyGivenNames x0
  refine Kept.cond (fun _ => ?_) (fun _ => ?_)
  · assumption
  · extract_lets +onlyGivenNames x1
    have h2 : Kept m s0 x1 := by
      unfold x1
      refine State.setPrt_kept (Sub.trans (b := 6745532012672) (by decide) hp) ?_
      assumption
    try (generalize x1 = y1 at h2 ⊢; try clear x1)
    extract_lets +onlyGivenNames x3
    extract_lets +onlyGivenNames x4
    extract_lets +onlyGivenNames x5
    extract_lets +onlyGivenNames x6
    extract_lets +onlyGivenNames x7
    extract_lets +onlyGivenNames x8
    refine Kept.cond (fun _ => ?_) (fun _ => ?_)
    · refine Kept.cond (fun _ => ?_) (fun _ => ?_)
      · refine State.markUnexpected_kept (Sub.trans (b := 6745532012672) (by decide) hp) ?_
        assumption
      · extract_lets +onlyGivenNames x9
        extract_lets +onlyGivenNames x10
        extract_lets +onlyGivenNames x11
        have h12 : Kept m s0 x11 := by
          unfold x11
          refine State.goodFrame_kept (Sub.trans (b := 6745532012672) (by decide) hp) ?_
          assumption
        try (generalize x11 = y11 at h12 ⊢; try clear x11)
        extract_lets +onlyGivenNames x13
        extract_lets +onlyGivenNames x14
        extract_lets +onlyGivenNames x15
        have h16 : Kept m s0 x15 := by
          unfold x15
          refine State.setPrt_kept (Sub.trans (b := 6745532012672) (by decide) hp) ?_
          assumption
        try (generalize x15 = y15 at h16 ⊢; try clear x15)
        extract_lets +onlyGivenNames x17
        have h18 : Kept m s0 x17 := by
          unfold x17
          refine Kept.cond (fun _ => ?_) (fun _ => ?_)
          · refine State.bucketUp_kept (Sub.trans (b := 6745532012672) (by decide) hp) ?_
            assumption
          · assumption
        try (generalize x17 = y17 at h18 ⊢; try clear x17)
        extract_lets +onlyGivenNames x19
        extract_lets +onlyGivenNames x20
        have h21 : Kept m s0 x20 := by
          unfold x20
          refine Kept.cond (fun _ => ?_) (fun _ => ?_)
          · refine State.markFlt_kept (Sub.trans (b := 6745532012672) (by decide) hp) ?_
            assumption
          · assumption
        try (generalize x20 = y20 at h21 ⊢; try clear x20)
        split
        · refine State.weirSample_kept (Sub.trans (b := 6745532012672) (by decide) hp) ?_
          assumption
        · assumption
    · extract_lets +onlyGivenNames x22
      have h23 : Kept m s0 x22 := by
        unfold x22
        refine State.badFrame_kept (Sub.trans (b := 6745532012672) (by decide) hp) ?_
        assumption
      try (generalize x22 = y22 at h23 ⊢; try clear x22)
      refine Kept.cond (fun _ => ?_) (fun _ => ?_)
      · refine State.enumStop_kept (Sub.trans (b := 6745532012672) (by decide) hp) ?_
        refine State.markConflict_kept (Sub.trans (b := 6745532012672) (by decide) hp) ?_
        assumption
      · assumption

theorem State.rxAux_kept {m : Nat} {s0 : State} (hp : Sub 6736942104704 m) {s : State} {n : Nat} {rx : Upstream} (hk : Kept m s0 s) : Kept m s0 (State.rxAux s n rx) := by
  unfold State.rxAux
  extract_lets +onlyGivenNames x0
  refine Kept.cond (fun _ => ?_) (fun _ => ?_)
  · assumption
  · extract_lets +onlyGivenNames x1
    refine Kept.cond (fun _ => ?_) (fun _ => ?_)
    · extract_lets +onlyGivenNames x2
      have h3 : Kept m s0 x2 := by
        unfold x2
        refine State.goodFrame_kept (Sub.trans (b := 6736942104704) (by decide) hp) ?_
        assumption
      try (generalize x2 = y2 at h3 ⊢; try clear x2)
      extract_lets +onlyGivenNames x4
      extract_lets +onlyGivenNames x5
      have h6 : Kept m s0 x5 := by
        unfold x5
        refine State.wr_kept' Reg.PL_AUX_block (hp.bit (by decide)) ?_
        assumption
      try (generalize x5 = y5 at h6 ⊢; try clear x5)
      refine Kept.upd_ldg (hp.bit (by decide)) ?_
      assumption
    · refine State.badFrame_kept (Sub.trans (b := 6736942104704) (by decide) hp) ?_
      assumption

theorem State.accDone_kept {m : Nat} {s0 : State} (hp : Sub 6736942071936 m) {s : State} {n : Nat} {status : Nat} {data : Nat} (hk : Kept m s0 s) : Kept m s0 (State.accDone s n status data) := by
  unfold State.accDone
  extract_lets +onlyGivenNames x0
  extract_lets +onlyGivenNames x1
  have h2 : Kept m s0 x1 := by
    unfold x1
    refine State.setPrt_kept (Sub.trans (b := 6736942071936) (by decide) hp) ?_
    assumption
  try (generalize x1 = y1 at h2 ⊢; try clear x1)
  extract_lets +onlyGivenNames x3
  have h4 : Kept m s0 x3 := by
    unfold x3
    refine State.wr_kept' Reg.PL_REG_RESULT_block (hp.bit (by decide)) ?_
    assumption
  try (generalize x3 = y3 at h4 ⊢; try clear x3)
  refine State.plEvt_kept (Sub.trans (b := 6736942071936) (by decide) hp) ?_
  assumption

theorem State.heardWoken_kept {m : Nat} {s0 : State} (hp : Sub 2147483648 m) {s : State} {n : Nat} {a : Nat} (hk : Kept m s0 s) : Kept m s0 (State.heardWoken s n a) := by
  unfold State.heardWoken
  split
  · refine Kept.cond (fun _ => ?_) (fun _ => ?_)
    · refine State.setB_kept' Reg.PL_PHASE_block (hp.bit (by decide)) ?_
      assumption
    · assumption
  · assumption

theorem State.testNext_kept {m : Nat} {s0 : State} (hp : Sub 2147483776 m) {s : State} {n : Nat} (hk : Kept m s0 s) : Kept m s0 (State.testNext s n) := by
  unfold State.testNext
  split
  · extract_lets +onlyGivenNames x0
    extract_lets +onlyGivenNames x1
    have h2 : Kept m s0 x1 := by
      unfold x1
      refine State.setPrt_kept (Sub.trans (b := 2147483776) (by decide) hp) ?_
      assumption
    try (generalize x1 = y1 at h2 ⊢; try clear x1)
    refine Kept.cond (fun _ => ?_) (fun _ => ?_)
    · refine State.setPlState_kept (Sub.trans (b := 2147483776) (by decide) hp) ?_
      assumption
    · assumption
  · assumption

theorem State.rxReply_kept {m : Nat} {s0 : State} (hp : Sub 6736942071936 m) {s : State} {n : Nat} {a : Nat} {rx : Upstream} (hk : Kept m s0 s) : Kept m s0 (State.rxReply s n a rx) := by
  unfold State.rxReply
  extract_lets +onlyGivenNames x0
  extract_lets +onlyGivenNames x1
  extract_lets +onlyGivenNames x2
  extract_lets +onlyGivenNames x3
  extract_lets +onlyGivenNames x4
  extract_lets +onlyGivenNames x5
  extract_lets +onlyGivenNames x6
  extract_lets +onlyGivenNames x7
  refine Kept.cond (fun _ => ?_) (fun _ => ?_)
  · extract_lets +onlyGivenNames x8
    extract_lets +onlyGivenNames x9
    extract_lets +onlyGivenNames x10
    have h11 : Kept m s0 x10 := by
      unfold x10
      refine State.goodFrame_kept (Sub.trans (b := 6736942071936) (by decide) hp) ?_
      assumption
    try (generalize x10 = y10 at h11 ⊢; try clear x10)
    extract_lets +onlyGivenNames x12
    extract_lets +onlyGivenNames x13
    have h14 : Kept m s0 x13 := by
      unfold x13
      refine Kept.cond (fun _ => ?_) (fun _ => ?_)
      · refine State.wr_kept' Reg.PL_RTD_block (hp.bit (by decide)) ?_
        assumption
      · assumption
    try (generalize x13 = y13 at h14 ⊢; try clear x13)
    extract_lets +onlyGivenNames x15
    extract_lets +onlyGivenNames x16
    have h17 : Kept m s0 x16 := by
      unfold x16
      refine State.setPrt_kept (Sub.trans (b := 6736942071936) (by decide) hp) ?_
      assumption
    try (generalize x16 = y16 at h17 ⊢; try clear x16)
    split
    · refine State.enumReply_kept hp ?_
      assumption
    · refine State.testNext_kept (Sub.trans (b := 6736942071936) (by decide) hp) ?_
      assumption
    · refine State.accDone_kept hp ?_
      assumption
    · refine State.heardWoken_kept (Sub.trans (b := 6736942071936) (by decide) hp) ?_
      assumption
  · extract_lets +onlyGivenNames x18
    have h19 : Kept m s0 x18 := by
      unfold x18
      refine State.badFrame_kept hp ?_
      assumption
    try (generalize x18 = y18 at h19 ⊢; try clear x18)
    refine Kept.cond (fun _ => ?_) (fun _ => ?_)
    · extract_lets +onlyGivenNames x20
      extract_lets +onlyGivenNames x21
      have h22 : Kept m s0 x21 := by
        unfold x21
        refine State.setPrt_kept (Sub.trans (b := 6736942071936) (by decide) hp) ?_
        assumption
      try (generalize x21 = y21 at h22 ⊢; try clear x21)
      refine State.enumAdvance_kept hp ?_
      refine State.markConflict_kept hp ?_
      assumption
    · assumption

theorem State.rxSlotA_kept {m : Nat} {s0 : State} (hp : Sub 6736942104704 m) {s : State} {n : Nat} {rx : Upstream} (hk : Kept m s0 s) : Kept m s0 (State.rxSlotA s n rx) := by
  unfold State.rxSlotA
  refine Kept.cond (fun _ => ?_) (fun _ => ?_)
  · assumption
  · split
    · refine State.rxReply_kept (Sub.trans (b := 6736942104704) (by decide) hp) ?_
      assumption
    · refine State.rxAux_kept hp ?_
      assumption

theorem State.replyMissing_kept {m : Nat} {s0 : State} (hp : Sub 6736942071936 m) {s : State} {n : Nat} (hk : Kept m s0 s) : Kept m s0 (State.replyMissing s n) := by
  unfold State.replyMissing
  extract_lets +onlyGivenNames x0
  split
  · extract_lets +onlyGivenNames x1
    split
    · split
      · refine Kept.cond (fun _ => ?_) (fun _ => ?_)
        · refine State.enumAdvance_kept hp ?_
          refine State.markAbsent_kept hp ?_
          refine State.setPrt_kept (Sub.trans (b := 6736942071936) (by decide) hp) ?_
          assumption
        · refine State.enumStop_kept hp ?_
          refine State.setPrt_kept (Sub.trans (b := 6736942071936) (by decide) hp) ?_
          assumption
      · refine State.setPrt_kept (Sub.trans (b := 6736942071936) (by decide) hp) ?_
        assumption
    · refine State.testNext_kept (Sub.trans (b := 6736942071936) (by decide) hp) ?_
      refine State.setPrt_kept (Sub.trans (b := 6736942071936) (by decide) hp) ?_
      assumption
    · split
      · refine Kept.cond (fun _ => ?_) (fun _ => ?_)
        · refine State.accDone_kept hp ?_
          refine State.setPrt_kept (Sub.trans (b := 6736942071936) (by decide) hp) ?_
          assumption
        · refine State.setPrt_kept (Sub.trans (b := 6736942071936) (by decide) hp) ?_
          assumption
      · refine State.setPrt_kept (Sub.trans (b := 6736942071936) (by decide) hp) ?_
        assumption
    · refine State.setPrt_kept (Sub.trans (b := 6736942071936) (by decide) hp) ?_
      assumption
  · refine State.setPrt_kept (Sub.trans (b := 6736942071936) (by decide) hp) ?_
    assumption
  · assumption

theorem State.plTest_kept {m : Nat} {s0 : State} (hp : Sub 2147483776 m) {s : State} {n : Nat} {t : Nat} {addr : Nat} (hk : Kept m s0 s) : Kept m s0 (State.plTest s n t addr) := by
  unfold State.plTest
  extract_lets +onlyGivenNames x0
  extract_lets +onlyGivenNames x1
  refine Kept.cond (fun _ => ?_) (fun _ => ?_)
  · assumption
  · refine Kept.cond (fun _ => ?_) (fun _ => ?_)
    · refine State.pb_kept' Reg.PL_STATUS_block (hp.bit (by decide)) ?_
      assumption
    · extract_lets +onlyGivenNames x2
      have h3 : Kept m s0 x2 := by
        unfold x2
        refine State.pf_kept' Reg.PL_CTL_block (hp.bit (by decide)) ?_
        refine State.pb_kept' Reg.PL_STATUS_block (hp.bit (by decide)) ?_
        assumption
      try (generalize x2 = y2 at h3 ⊢; try clear x2)
      refine Kept.cond (fun _ => ?_) (fun _ => ?_)
      · assumption
      · refine Kept.cond (fun _ => ?_) (fun _ => ?_)
        · refine Kept.cond (fun _ => ?_) (fun _ => ?_)
          · refine State.enumFull_kept hp ?_
            refine State.prbsEnd_kept (Sub.trans (b := 2147483776) (by decide) hp) ?_
            assumption
          · assumption
        · extract_lets +onlyGivenNames x4
          have h5 : Kept m s0 x4 := by
            unfold x4
            refine State.wr_kept' Reg.PL_PRBS_ERR_block (hp.bit (by decide)) ?_
            assumption
          try (generalize x4 = y4 at h5 ⊢; try clear x4)
          extract_lets +onlyGivenNames x6
          extract_lets +onlyGivenNames x7
          extract_lets +onlyGivenNames x8
          have h9 : Kept m s0 x8 := by
            unfold x8
            refine State.setPrt_kept (Sub.trans (b := 2147483776) (by decide) hp) ?_
            assumption
          try (generalize x8 = y8 at h9 ⊢; try clear x8)
          refine State.setPlState_kept (Sub.trans (b := 2147483776) (by decide) hp) ?_
          assumption

theorem State.plCtl_kept {m : Nat} {s0 : State} (hp : Sub 6736942071936 m) {s : State} {n : Nat} {v : W32} (hk : Kept m s0 s) : Kept m s0 (State.plCtl s n v) := by
  unfold State.plCtl
  extract_lets +onlyGivenNames x0
  extract_lets +onlyGivenNames x1
  have h2 : Kept m s0 x1 := by
    unfold x1
    refine State.plTest_kept (Sub.trans (b := 6736942071936) (by decide) hp) ?_
    refine State.pf_kept' Reg.PL_CTL_block (hp.bit (by decide)) ?_
    assumption
  try (generalize x1 = y1 at h2 ⊢; try clear x1)
  extract_lets +onlyGivenNames x3
  extract_lets +onlyGivenNames x4
  have h5 : Kept m s0 x4 := by
    unfold x4
    refine Kept.cond (fun _ => ?_) (fun _ => ?_)
    · refine State.setPrt_kept (Sub.trans (b := 6736942071936) (by decide) hp) ?_
      assumption
    · assumption
  try (generalize x4 = y4 at h5 ⊢; try clear x4)
  extract_lets +onlyGivenNames x6
  have h7 : Kept m s0 x6 := by
    unfold x6
    refine Kept.cond (fun _ => ?_) (fun _ => ?_)
    · refine State.enumFull_kept (Sub.trans (b := 6736942071936) (by decide) hp) ?_
      assumption
    · assumption
  try (generalize x6 = y6 at h7 ⊢; try clear x6)
  extract_lets +onlyGivenNames x8
  have h9 : Kept m s0 x8 := by
    unfold x8
    refine Kept.cond (fun _ => ?_) (fun _ => ?_)
    · refine State.enumFull_kept (Sub.trans (b := 6736942071936) (by decide) hp) ?_
      refine State.pf_kept' Reg.PL_STATUS_block (hp.bit (by decide)) ?_
      assumption
    · assumption
  try (generalize x8 = y8 at h9 ⊢; try clear x8)
  refine Kept.cond (fun _ => ?_) (fun _ => ?_)
  · refine State.plDisable_kept hp ?_
    assumption
  · assumption

theorem State.plReadmit_kept {m : Nat} {s0 : State} (hp : Sub 2147483776 m) {s : State} {n : Nat} {v : W32} (hk : Kept m s0 s) : Kept m s0 (State.plReadmit s n v) := by
  unfold State.plReadmit
  refine Kept.cond (fun _ => ?_) (fun _ => ?_)
  · assumption
  · extract_lets +onlyGivenNames x0
    have h1 : Kept m s0 x0 := by
      unfold x0
      refine Kept.forEach (fun z2 a3 h4 => ?_) ?_
      · refine Kept.cond (fun _ => ?_) (fun _ => ?_)
        · assumption
        · extract_lets +onlyGivenNames x5
          have h6 : Kept m s0 x5 := by
            unfold x5
            refine State.clrB_kept' Reg.PL_PHASE2_block (hp.bit (by decide)) ?_
            assumption
          try (generalize x5 = y5 at h6 ⊢; try clear x5)
          refine Kept.cond (fun _ => ?_) (fun _ => ?_)
          · extract_lets +onlyGivenNames x7
            extract_lets +onlyGivenNames x8
            have h9 : Kept m s0 x8 := by
              unfold x8
              refine State.clearMarks_kept hp ?_
              assumption
            try (generalize x8 = y8 at h9 ⊢; try clear x8)
            refine State.shedLost_kept (Sub.trans (b := 2147483776) (by decide) hp) ?_
            refine State.setPrt_kept (Sub.trans (b := 2147483776) (by decide) hp) ?_
            assumption
          · refine State.pf_kept' Reg.PL_ERR_block (hp.bit (by decide)) ?_
            assumption
      · assumption
    try (generalize x0 = y0 at h1 ⊢; try clear x0)
    refine State.enumNext_kept hp ?_
    assumption

theorem State.plRegCmd_kept {m : Nat} {s0 : State} (hp : Sub 6736942071936 m) {s : State} {n : Nat} {v : W32} (hk : Kept m s0 s) : Kept m s0 (State.plRegCmd s n v) := by
  unfold State.plRegCmd
  extract_lets +onlyGivenNames x0
  extract_lets +onlyGivenNames x1
  have h2 : Kept m s0 x1 := by
    unfold x1
    refine State.plainWrite_kept' Reg.PL_REG_CMD_block (hp.bit (by decide)) ?_
    assumption
  try (generalize x1 = y1 at h2 ⊢; try clear x1)
  refine Kept.cond (fun _ => ?_) (fun _ => ?_)
  · refine Kept.cond (fun _ => ?_) (fun _ => ?_)
    · refine State.plEvt_kept (Sub.trans (b := 6736942071936) (by decide) hp) ?_
      refine State.wr_kept' Reg.PL_REG_RESULT_block (hp.bit (by decide)) ?_
      assumption
    · refine State.setPrt_kept (Sub.trans (b := 6736942071936) (by decide) hp) ?_
      assumption
  · assumption

theorem State.plInj_kept {m : Nat} {s0 : State} (hp : Sub 2147483776 m) {s : State} {n : Nat} {v : W32} (hk : Kept m s0 s) : Kept m s0 (State.plInj s n v) := by
  unfold State.plInj
  extract_lets +onlyGivenNames x0
  have h1 : Kept m s0 x0 := by
    unfold x0
    refine State.plainWrite_kept' Reg.PL_INJ_block (hp.bit (by decide)) ?_
    assumption
  try (generalize x0 = y0 at h1 ⊢; try clear x0)
  extract_lets +onlyGivenNames x2
  extract_lets +onlyGivenNames x3
  refine Kept.cond (fun _ => ?_) (fun _ => ?_)
  · refine State.setPrt_kept (Sub.trans (b := 2147483776) (by decide) hp) ?_
    assumption
  · assumption

theorem State.sendMarker_kept {m : Nat} {s0 : State} (hp : Sub 128 m) {s : State} {n : Nat} (hk : Kept m s0 s) : Kept m s0 (State.sendMarker s n) := by
  unfold State.sendMarker
  extract_lets +onlyGivenNames x0
  extract_lets +onlyGivenNames x1
  extract_lets +onlyGivenNames x2
  refine State.setPrt_kept hp ?_
  assumption

theorem State.portEdge_kept {m : Nat} {s0 : State} (hp : Sub 6736942071936 m) {s : State} {n : Nat} (hk : Kept m s0 s) : Kept m s0 (State.portEdge s n) := by
  unfold State.portEdge
  refine Kept.cond (fun _ => ?_) (fun _ => ?_)
  · assumption
  · extract_lets +onlyGivenNames x0
    extract_lets +onlyGivenNames x1
    extract_lets +onlyGivenNames x2
    extract_lets +onlyGivenNames x3
    extract_lets +onlyGivenNames x4
    extract_lets +onlyGivenNames x5
    extract_lets +onlyGivenNames x6
    extract_lets +onlyGivenNames x7
    extract_lets +onlyGivenNames x8
    unfold x8
    try clear x8
    extract_lets +onlyGivenNames x9
    have h10 : Kept m s0 x9 := by
      unfold x9
      refine Kept.forEach (fun z11 a12 h13 => ?_) ?_
      · refine Kept.cond (fun _ => ?_) (fun _ => ?_)
        · refine State.inc_kept' Reg.PL_AUX_block (hp.bit (by decide)) ?_
          assumption
        · assumption
      · assumption
    try (generalize x9 = y9 at h10 ⊢; try clear x9)
    extract_lets +onlyGivenNames x14
    have h15 : Kept m s0 x14 := by
      unfold x14
      refine State.setPrt_kept (Sub.trans (b := 6736942071936) (by decide) hp) ?_
      assumption
    try (generalize x14 = y14 at h15 ⊢; try clear x14)
    extract_lets +onlyGivenNames x16
    have h17 : Kept m s0 x16 := by
      unfold x16
      refine Kept.cond (fun _ => ?_) (fun _ => ?_)
      · refine State.enumFull_kept (Sub.trans (b := 6736942071936) (by decide) hp) ?_
        assumption
      · assumption
    try (generalize x16 = y16 at h17 ⊢; try clear x16)
    extract_lets +onlyGivenNames x18
    have h19 : Kept m s0 x18 := by
      unfold x18
      refine State.sendMarker_kept (Sub.trans (b := 6736942071936) (by decide) hp) ?_
      assumption
    try (generalize x18 = y18 at h19 ⊢; try clear x18)
    refine Kept.cond (fun _ => ?_) (fun _ => ?_)
    · refine State.quietViolation_kept hp ?_
      assumption
    · assumption

theorem execPlFrameSend_kept {m : Nat} {s0 : State} (hp : Sub 128 m) {n : Fin 64} {t : Nat} {s : State} (hk : Kept m s0 s) : OutKept m s0 (execPlFrameSend n t s) := by
  unfold execPlFrameSend
  refine OutKept.next ?_
  refine State.plSend_kept hp ?_
  assumption

theorem execPortShedMask_kept {m : Nat} {s0 : State} (hp : Sub 128 m) {n : Fin 64} {s : State} (hk : Kept m s0 s) : OutKept m s0 (execPortShedMask n s) := by
  unfold execPortShedMask
  refine OutKept.next ?_
  refine Kept.cond (fun _ => ?_) (fun _ => ?_)
  · refine State.setPrt_kept hp ?_
    assumption
  · assumption

theorem execUpstreamSampleFrame_kept {m : Nat} {s0 : State} (hp : Sub 6745532012672 m) {n : Fin 64} {a : Fin 8} {rx : Upstream} {s : State} (hk : Kept m s0 s) : OutKept m s0 (execUpstreamSampleFrame n a rx s) := by
  unfold execUpstreamSampleFrame
  refine OutKept.next ?_
  refine State.rxSample_kept hp ?_
  assumption

theorem execUpstreamAuxFrame_kept {m : Nat} {s0 : State} (hp : Sub 6736942104704 m) {n : Fin 64} {rx : Upstream} {s : State} (hk : Kept m s0 s) : OutKept m s0 (execUpstreamAuxFrame n rx s) := by
  unfold execUpstreamAuxFrame
  refine OutKept.next ?_
  refine State.rxSlotA_kept hp ?_
  assumption

theorem execRegisterReply_kept {m : Nat} {s0 : State} (hp : Sub 6736942104704 m) {n : Fin 64} {rx : Upstream} {s : State} (hk : Kept m s0 s) : OutKept m s0 (execRegisterReply n rx s) := by
  unfold execRegisterReply
  refine OutKept.next ?_
  refine State.rxSlotA_kept hp ?_
  assumption

theorem execRegisterReplyMissing_kept {m : Nat} {s0 : State} (hp : Sub 6736942071936 m) {n : Fin 64} {s : State} (hk : Kept m s0 s) : OutKept m s0 (execRegisterReplyMissing n s) := by
  unfold execRegisterReplyMissing
  refine OutKept.next ?_
  refine State.replyMissing_kept hp ?_
  assumption

theorem execEnumSyncDone_kept {m : Nat} {s0 : State} (hp : Sub 6736942071936 m) {n : Fin 64} {s : State} (hk : Kept m s0 s) : OutKept m s0 (execEnumSyncDone n s) := by
  unfold execEnumSyncDone
  refine OutKept.next ?_
  refine State.enumSynced_kept hp ?_
  assumption

theorem execStageAbsent_kept {m : Nat} {s0 : State} (hp : Sub 6736942071936 m) {n : Fin 64} {a : Fin 8} {s : State} (hk : Kept m s0 s) : OutKept m s0 (execStageAbsent n a s) := by
  unfold execStageAbsent
  refine OutKept.next ?_
  refine Kept.cond (fun _ => ?_) (fun _ => ?_)
  · refine State.markAbsent_kept hp ?_
    assumption
  · assumption

theorem execQuietWindowViolation_kept {m : Nat} {s0 : State} (hp : Sub 6736942071936 m) {n : Fin 64} {s : State} (hk : Kept m s0 s) : OutKept m s0 (execQuietWindowViolation n s) := by
  unfold execQuietWindowViolation
  refine OutKept.next ?_
  refine State.quietViolation_kept hp ?_
  assumption

theorem execBusfail_kept {m : Nat} {s0 : State} (hp : Sub 6736942071936 m) {n : Fin 64} {s : State} (hk : Kept m s0 s) : OutKept m s0 (execBusfail n s) := by
  unfold execBusfail
  refine OutKept.next ?_
  refine Kept.cond (fun _ => ?_) (fun _ => ?_)
  · assumption
  · extract_lets +onlyGivenNames x0
    have h1 : Kept m s0 x0 := by
      unfold x0
      refine Kept.cond (fun _ => ?_) (fun _ => ?_)
      · refine State.plEvt_kept (Sub.trans (b := 6736942071936) (by decide) hp) ?_
        assumption
      · refine State.plDisable_kept hp ?_
        assumption
    try (generalize x0 = y0 at h1 ⊢; try clear x0)
    refine State.setPrt_kept (Sub.trans (b := 6736942071936) (by decide) hp) ?_
    assumption

theorem execEyeDone_kept {m : Nat} {s0 : State} (hp : Sub 6736942071936 m) {n : Fin 64} {errors : Nat} {s : State} (hk : Kept m s0 s) : OutKept m s0 (execEyeDone n errors s) := by
  unfold execEyeDone
  refine OutKept.next ?_
  refine Kept.cond (fun _ => ?_) (fun _ => ?_)
  · refine State.plEvt_kept (Sub.trans (b := 6736942071936) (by decide) hp) ?_
    refine State.pf_kept' Reg.PL_EYE_RES_block (hp.bit (by decide)) ?_
    refine State.setPrt_kept (Sub.trans (b := 6736942071936) (by decide) hp) ?_
    assumption
  · assumption

theorem execPlausibilityFault_kept {m : Nat} {s0 : State} (hp : Sub 2345069582464 m) {r : Fin 64} {s : State} (hk : Kept m s0 s) : OutKept m s0 (execPlausibilityFault r s) := by
  unfold execPlausibilityFault
  refine OutKept.next ?_
  extract_lets +onlyGivenNames x0
  refine Kept.cond (fun _ => ?_) (fun _ => ?_)
  · extract_lets +onlyGivenNames x1
    have h2 : Kept m s0 x1 := by
      unfold x1
      refine State.railEvt_kept (Sub.trans (b := 2345069582464) (by decide) hp) ?_
      refine State.setRl_kept (Sub.trans (b := 2345069582464) (by decide) hp) ?_
      assumption
    try (generalize x1 = y1 at h2 ⊢; try clear x1)
    refine Kept.cond (fun _ => ?_) (fun _ => ?_)
    · refine State.railFault_kept hp ?_
      assumption
    · assumption
  · assumption

theorem execPlausClear_kept {m : Nat} {s0 : State} (hp : Sub 2048 m) {r : Fin 64} {s : State} (hk : Kept m s0 s) : OutKept m s0 (execPlausClear r s) := by
  unfold execPlausClear
  refine OutKept.next ?_
  refine Kept.cond (fun _ => ?_) (fun _ => ?_)
  · refine State.setRl_kept hp ?_
    assumption
  · assumption

end Sys2Proof.Machine
end

