-- ==== Sys2Proof/Laws/KeptLoopEngine.lean ====
section
/-!
SUPPORT. What the definitions of Machine/LoopEngine.lean keep: one lemma each.
-/
namespace Sys2Proof.Machine

theorem State.leRecordFault_kept {m : Nat} {s0 : State} (hp : Sub 4294967296 m) {s : State} {j : Nat} {cause : Nat} (hk : Kept m s0 s) : Kept m s0 (State.leRecordFault s j cause) := by
  unfold State.leRecordFault
  extract_lets +onlyGivenNames x0
  extract_lets +onlyGivenNames x1
  refine Kept.cond (fun _ => ?_) (fun _ => ?_)
  · assumption
  · extract_lets +onlyGivenNames x2
    have h3 : Kept m s0 x2 := by
      unfold x2
      refine State.wr_kept' Reg.LC_LE_FAULT_block (hp.bit (by decide)) ?_
      assumption
    try (generalize x2 = y2 at h3 ⊢; try clear x2)
    extract_lets +onlyGivenNames x4
    have h5 : Kept m s0 x4 := by
      unfold x4
      refine State.wr_kept' Reg.LC_LE_FAULT_LC1_block (hp.bit (by decide)) ?_
      refine State.wr_kept' Reg.LC_LE_FAULT_LC0_block (hp.bit (by decide)) ?_
      assumption
    try (generalize x4 = y4 at h5 ⊢; try clear x4)
    refine State.wr_kept' Reg.LC_LE_FAULT_TICK_HI_block (hp.bit (by decide)) ?_
    refine State.wr_kept' Reg.LC_LE_FAULT_TICK_LO_block (hp.bit (by decide)) ?_
    assumption

theorem State.leFault_kept {m : Nat} {s0 : State} (hp : Sub 2340774674948 m) {s : State} {j : Nat} {cause : Nat} (hk : Kept m s0 s) : Kept m s0 (State.leFault s j cause) := by
  unfold State.leFault
  extract_lets +onlyGivenNames x0
  extract_lets +onlyGivenNames x1
  extract_lets +onlyGivenNames x2
  extract_lets +onlyGivenNames x3
  have h4 : Kept m s0 x3 := by
    unfold x3
    refine State.leRecordFault_kept (Sub.trans (b := 2340774674948) (by decide) hp) ?_
    assumption
  try (generalize x3 = y3 at h4 ⊢; try clear x3)
  extract_lets +onlyGivenNames x5
  have h6 : Kept m s0 x5 := by
    unfold x5
    refine State.inc_kept' Reg.LC_LE_FAULT_CNT_block (hp.bit (by decide)) ?_
    assumption
  try (generalize x5 = y5 at h6 ⊢; try clear x5)
  extract_lets +onlyGivenNames x7
  have h8 : Kept m s0 x7 := by
    unfold x7
    refine State.setLe_kept (Sub.trans (b := 2340774674948) (by decide) hp) ?_
    assumption
  try (generalize x7 = y7 at h8 ⊢; try clear x7)
  extract_lets +onlyGivenNames x9
  extract_lets +onlyGivenNames x10
  have h11 : Kept m s0 x10 := by
    unfold x10
    refine Kept.cond (fun _ => ?_) (fun _ => ?_)
    · refine State.setUnit_kept (Sub.trans (b := 2340774674948) (by decide) hp) ?_
      assumption
    · assumption
  try (generalize x10 = y10 at h11 ⊢; try clear x10)
  extract_lets +onlyGivenNames x12
  extract_lets +onlyGivenNames x13
  have h14 : Kept m s0 x13 := by
    unfold x13
    refine Kept.cond (fun _ => ?_) (fun _ => ?_)
    · refine Kept.upd_cmp (hp.bit (by decide)) ?_
      assumption
    · assumption
  try (generalize x13 = y13 at h14 ⊢; try clear x13)
  refine State.raise_kept (Sub.trans (b := 2340774674948) (by decide) hp) ?_
  refine State.raise_kept (Sub.trans (b := 2340774674948) (by decide) hp) ?_
  refine State.lcEvt_kept (Sub.trans (b := 2340774674948) (by decide) hp) ?_
  assumption

theorem State.leEcc1_kept {m : Nat} {s0 : State} (hp : Sub 4294967808 m) {s : State} {j : Nat} (hk : Kept m s0 s) : Kept m s0 (State.leEcc1 s j) := by
  unfold State.leEcc1
  refine State.inc_kept' Reg.LC_LE_STATUS_block (hp.bit (by decide)) ?_
  refine State.setLe_kept (Sub.trans (b := 4294967808) (by decide) hp) ?_
  assumption

theorem State.leExec_kept {m : Nat} {s0 : State} (hp : Sub 2340774674948 m) {s : State} {j : Nat} {w : BitVec 26} {f : Ecc} {resv : Nat} {xfer : Bool} {op : State → LoopEngine → Nat → LeRes} (hfn_op : ∀ y0 y1 y2, Kept m s0 y0 → LeKept m s0 (op y0 y1 y2)) (hk : Kept m s0 s) : Kept m s0 (State.leExec s j w f resv xfer op) := by
  unfold State.leExec
  refine Kept.cond (fun _ => ?_) (fun _ => ?_)
  · assumption
  · refine Kept.cond (fun _ => ?_) (fun _ => ?_)
    · refine State.leFault_kept hp ?_
      assumption
    · extract_lets +onlyGivenNames x0
      have h1 : Kept m s0 x0 := by
        unfold x0
        refine Kept.cond (fun _ => ?_) (fun _ => ?_)
        · refine State.leEcc1_kept (Sub.trans (b := 2340774674948) (by decide) hp) ?_
          assumption
        · assumption
      try (generalize x0 = y0 at h1 ⊢; try clear x0)
      extract_lets +onlyGivenNames x2
      refine Kept.cond (fun _ => ?_) (fun _ => ?_)
      · refine State.leFault_kept hp ?_
        assumption
      · split
        · refine State.leFault_kept hp ?_
          assumption
        · next e6 =>
            have h7 : Kept m s0 _ := LeKept.of e6 (by
                refine hfn_op _ _ _ ?_
                assumption
              )
            refine State.setLe_kept (Sub.trans (b := 2340774674948) (by decide) hp) ?_
            assumption
        · next e10 =>
            have h11 : Kept m s0 _ := LeKept.of e10 (by
                refine hfn_op _ _ _ ?_
                assumption
              )
            refine State.setLe_kept (Sub.trans (b := 2340774674948) (by decide) hp) ?_
            assumption
        · next e13 =>
            have h14 : Kept m s0 _ := LeKept.of e13 (by
                refine hfn_op _ _ _ ?_
                assumption
              )
            assumption

theorem setKOvf_kept {m : Nat} {s0 : State} (hp : Sub 512 m) {j : Nat} {d : Nat} {v : LoopEngine → Int} {s : State} {x : LoopEngine} (hk : Kept m s0 s) : LeKept m s0 (setKOvf j d v s x) := by
  unfold setKOvf
  split
  · trivial
  · refine LeRes.next_kept ?_
    refine State.setLe_kept hp ?_
    assumption

theorem setMOvf_kept {m : Nat} {s0 : State} (hp : Sub 512 m) {j : Nat} {d : Nat} {v : LoopEngine → Int} {s : State} {x : LoopEngine} (hk : Kept m s0 s) : LeKept m s0 (setMOvf j d v s x) := by
  unfold setMOvf
  split
  · trivial
  · refine LeRes.next_kept ?_
    refine State.setLe_kept hp ?_
    assumption

theorem setK_kept {m : Nat} {s0 : State} (hp : Sub 512 m) {j : Nat} {d : Nat} {v : W32} {s : State} {x : LoopEngine} (hk : Kept m s0 s) : LeKept m s0 (setK j d v s x) := by
  unfold setK
  refine LeRes.next_kept ?_
  refine State.setLe_kept hp ?_
  assumption

theorem leAccess_kept {m : Nat} {s0 : State} (hp : Sub 4294967810 m) {j : Nat} {d : Nat} {a : Nat} {store : Bool} {half : Bool} {post : Option (Nat × Nat)} {e : Ecc} {s : State} {x : LoopEngine} (hk : Kept m s0 s) : LeKept m s0 (leAccess j d a store half post e s x) := by
  unfold leAccess
  extract_lets +onlyGivenNames x0
  extract_lets +onlyGivenNames x1
  split
  · trivial
  · refine LeRes.own_kept ?_
    refine State.setLe_kept (Sub.trans (b := 4294967810) (by decide) hp) ?_
    assumption
  · refine LeKept.cond (fun _ => ?_) (fun _ => ?_)
    · trivial
    · extract_lets +onlyGivenNames x2
      have h3 : Kept m s0 x2 := by
        unfold x2
        refine Kept.cond (fun _ => ?_) (fun _ => ?_)
        · refine State.leEcc1_kept (Sub.trans (b := 4294967810) (by decide) hp) ?_
          assumption
        · assumption
      try (generalize x2 = y2 at h3 ⊢; try clear x2)
      extract_lets +onlyGivenNames x4
      refine LeKept.cond (fun _ => ?_) (fun _ => ?_)
      · refine LeRes.next_kept ?_
        refine State.setLe_kept (Sub.trans (b := 4294967810) (by decide) hp) ?_
        refine State.mput_kept (Sub.trans (b := 4294967810) (by decide) hp) ?_
        assumption
      · refine LeRes.next_kept ?_
        refine State.setLe_kept (Sub.trans (b := 4294967810) (by decide) hp) ?_
        assumption

theorem State.relCmd_kept {m : Nat} {s0 : State} (hp : Sub 8589936768 m) {s : State} {r : Nat} {i : Nat} {e : CmdEnt} (hk : Kept m s0 s) : Kept m s0 (State.relCmd s r i e) := by
  unfold State.relCmd
  refine Kept.cond (fun _ => ?_) (fun _ => ?_)
  · assumption
  · extract_lets +onlyGivenNames x0
    extract_lets +onlyGivenNames x1
    extract_lets +onlyGivenNames x2
    split
    · next e5 =>
        have h13 : Kept m s0 _ := Kept.fst e5 (by
            refine Kept.cond1 (fun _ => ?_) (fun _ => ?_)
            · split
              · next e8 =>
                  have h9 : Kept m s0 _ := Kept.fst e8 (by
                      refine State.weirDrive_kept (Sub.trans (b := 8589936768) (by decide) hp) ?_
                      assumption
                    )
                  show Kept m s0 _
                  assumption
            · refine Kept.cond1 (fun _ => ?_) (fun _ => ?_)
              · show Kept m s0 _
                assumption
              · show Kept m s0 _
                assumption
          )
        extract_lets +onlyGivenNames x10
        extract_lets +onlyGivenNames x11
        have h12 : Kept m s0 x11 := by
          unfold x11
          refine State.setRl_kept (Sub.trans (b := 8589936768) (by decide) hp) ?_
          assumption
        try (generalize x11 = y11 at h12 ⊢; try clear x11)
        refine Kept.cond (fun _ => ?_) (fun _ => ?_)
        · refine State.setPrt_kept (Sub.trans (b := 8589936768) (by decide) hp) ?_
          assumption
        · assumption

theorem State.leCommit_kept {m : Nat} {s0 : State} (hp : Sub 8589937280 m) {s : State} {j : Nat} (hk : Kept m s0 s) : Kept m s0 (State.leCommit s j) := by
  unfold State.leCommit
  extract_lets +onlyGivenNames x0
  extract_lets +onlyGivenNames x1
  have h2 : Kept m s0 x1 := by
    unfold x1
    refine State.setLe_kept (Sub.trans (b := 8589937280) (by decide) hp) ?_
    assumption
  try (generalize x1 = y1 at h2 ⊢; try clear x1)
  split
  · refine Kept.forEach (fun z3 a4 h5 => ?_) ?_
    · refine State.relCmd_kept (Sub.trans (b := 8589937280) (by decide) hp) ?_
      assumption
    · assumption
  · assumption

theorem State.takeRecord_kept {m : Nat} {s0 : State} (hp : Sub 2048 m) {s : State} {j : Nat} (hk : Kept m s0 s) : Kept m s0 (State.takeRecord s j) := by
  unfold State.takeRecord
  split
  · assumption
  · extract_lets +onlyGivenNames x0
    extract_lets +onlyGivenNames x1
    refine Kept.cond (fun _ => ?_) (fun _ => ?_)
    · assumption
    · extract_lets +onlyGivenNames x2
      refine State.setRl_kept hp ?_
      assumption

theorem State.deliverRec_kept {m : Nat} {s0 : State} (hp : Sub 514 m) {s : State} {j : Nat} {r : Nat} (hk : Kept m s0 s) : Kept m s0 (State.deliverRec s j r) := by
  unfold State.deliverRec
  split
  · refine State.setLe_kept (Sub.trans (b := 514) (by decide) hp) ?_
    refine State.mput_kept (Sub.trans (b := 514) (by decide) hp) ?_
    assumption
  · refine State.setLe_kept (Sub.trans (b := 514) (by decide) hp) ?_
    assumption

theorem State.latchPubs_kept {m : Nat} {s0 : State} (hp : Sub 32768 m) {s : State} {j : Nat} (hk : Kept m s0 s) : Kept m s0 (State.latchPubs s j) := by
  unfold State.latchPubs
  extract_lets +onlyGivenNames x0
  refine Kept.upd_ldg (hp.bit (by decide)) ?_
  assumption

theorem State.snapshot_kept {m : Nat} {s0 : State} (hp : Sub 2340774608898 m) {s : State} {j : Nat} (hk : Kept m s0 s) : Kept m s0 (State.snapshot s j) := by
  unfold State.snapshot
  extract_lets +onlyGivenNames x0
  extract_lets +onlyGivenNames x1
  split
  · assumption
  · refine Kept.cond (fun _ => ?_) (fun _ => ?_)
    · assumption
    · extract_lets +onlyGivenNames x2
      have h3 : Kept m s0 x2 := by
        unfold x2
        refine State.mput_kept (Sub.trans (b := 2340774608898) (by decide) hp) ?_
        assumption
      try (generalize x2 = y2 at h3 ⊢; try clear x2)
      refine Kept.cond (fun _ => ?_) (fun _ => ?_)
      · refine State.lcEvt_kept (Sub.trans (b := 2340774608898) (by decide) hp) ?_
        refine State.setB_kept' Reg.LC_REC_CTL_block (hp.bit (by decide)) ?_
        assumption
      · assumption

theorem State.leOverrun_kept {m : Nat} {s0 : State} (hp : Sub 2341848351234 m) {s : State} {j : Nat} (hk : Kept m s0 s) : Kept m s0 (State.leOverrun s j) := by
  unfold State.leOverrun
  extract_lets +onlyGivenNames x0
  extract_lets +onlyGivenNames x1
  extract_lets +onlyGivenNames x2
  have h3 : Kept m s0 x2 := by
    unfold x2
    split
    · refine Kept.cond (fun _ => ?_) (fun _ => ?_)
      · refine State.mput_kept (Sub.trans (b := 2341848351234) (by decide) hp) ?_
        assumption
      · assumption
    · assumption
  try (generalize x2 = y2 at h3 ⊢; try clear x2)
  extract_lets +onlyGivenNames x4
  have h5 : Kept m s0 x4 := by
    unfold x4
    refine State.leRecordFault_kept (Sub.trans (b := 2341848351234) (by decide) hp) ?_
    assumption
  try (generalize x4 = y4 at h5 ⊢; try clear x4)
  extract_lets +onlyGivenNames x6
  have h7 : Kept m s0 x6 := by
    unfold x6
    refine State.setLe_kept (Sub.trans (b := 2341848351234) (by decide) hp) ?_
    assumption
  try (generalize x6 = y6 at h7 ⊢; try clear x6)
  extract_lets +onlyGivenNames x8
  have h9 : Kept m s0 x8 := by
    unfold x8
    refine Kept.cond (fun _ => ?_) (fun _ => ?_)
    · refine State.setB_kept' Reg.TICK_OVR_MASK_LO_block (hp.bit (by decide)) ?_
      assumption
    · refine State.setB_kept' Reg.TICK_OVR_MASK_HI_block (hp.bit (by decide)) ?_
      assumption
  try (generalize x8 = y8 at h9 ⊢; try clear x8)
  extract_lets +onlyGivenNames x10
  have h11 : Kept m s0 x10 := by
    unfold x10
    refine State.wr_kept' Reg.TICK_OVR_LE_block (hp.bit (by decide)) ?_
    assumption
  try (generalize x10 = y10 at h11 ⊢; try clear x10)
  extract_lets +onlyGivenNames x12
  have h13 : Kept m s0 x12 := by
    unfold x12
    refine State.wr_kept' Reg.TICK_OVR_TICK_HI_block (hp.bit (by decide)) ?_
    refine State.wr_kept' Reg.TICK_OVR_TICK_LO_block (hp.bit (by decide)) ?_
    assumption
  try (generalize x12 = y12 at h13 ⊢; try clear x12)
  refine State.raise_kept (Sub.trans (b := 2341848351234) (by decide) hp) ?_
  refine State.raise_kept (Sub.trans (b := 2341848351234) (by decide) hp) ?_
  refine State.inc_kept' Reg.TICK_OVR_CNT_block (hp.bit (by decide)) ?_
  assumption

theorem execOverrunDeadline_kept {m : Nat} {s0 : State} (hp : Sub 2341848351234 m) {s : State} (hk : Kept m s0 s) : OutKept m s0 (execOverrunDeadline s) := by
  unfold execOverrunDeadline
  refine OutKept.next ?_
  refine Kept.forEach (fun z0 a1 h2 => ?_) ?_
  · extract_lets +onlyGivenNames x3
    refine Kept.cond (fun _ => ?_) (fun _ => ?_)
    · assumption
    · refine Kept.cond (fun _ => ?_) (fun _ => ?_)
      · refine State.snapshot_kept (Sub.trans (b := 2341848351234) (by decide) hp) ?_
        refine State.leOverrun_kept hp ?_
        assumption
      · refine Kept.cond (fun _ => ?_) (fun _ => ?_)
        · refine State.snapshot_kept (Sub.trans (b := 2341848351234) (by decide) hp) ?_
          assumption
        · assumption
  · assumption

theorem State.copyCode_kept {m : Nat} {s0 : State} (hp : Sub 4294967808 m) {s : State} {j : Nat} {k : Nat} {bank : Nat} (hk : Kept m s0 s) : Kept m s0 (State.copyCode s j k bank) := by
  unfold State.copyCode
  split
  · refine State.setLe_kept (Sub.trans (b := 4294967808) (by decide) hp) ?_
    assumption
  · extract_lets +onlyGivenNames x0
    extract_lets +onlyGivenNames x1
    refine State.inc_kept' Reg.LC_LE_STATUS_block (hp.bit (by decide)) ?_
    refine State.setLe_kept (Sub.trans (b := 4294967808) (by decide) hp) ?_
    assumption

theorem State.useBank_kept {m : Nat} {s0 : State} (hp : Sub 4294967808 m) {s : State} {j : Nat} {bank : Nat} (hk : Kept m s0 s) : Kept m s0 (State.useBank s j bank) := by
  unfold State.useBank
  refine State.copyCode_kept hp ?_
  refine State.setLe_kept (Sub.trans (b := 4294967808) (by decide) hp) ?_
  assumption

theorem State.bootMode_kept {m : Nat} {s0 : State} (hp : Sub 512 m) {s : State} {j : Nat} (hk : Kept m s0 s) : Kept m s0 (State.bootMode s j) := by
  unfold State.bootMode
  extract_lets +onlyGivenNames x0
  refine State.setLe_kept hp ?_
  assumption

theorem State.leReset_kept {m : Nat} {s0 : State} (hp : Sub 4294967808 m) {s : State} {j : Nat} (hk : Kept m s0 s) : Kept m s0 (State.leReset s j) := by
  unfold State.leReset
  extract_lets +onlyGivenNames x0
  extract_lets +onlyGivenNames x1
  extract_lets +onlyGivenNames x2
  extract_lets +onlyGivenNames x3
  have h4 : Kept m s0 x3 := by
    unfold x3
    refine State.bootMode_kept (Sub.trans (b := 4294967808) (by decide) hp) ?_
    refine State.setLe_kept (Sub.trans (b := 4294967808) (by decide) hp) ?_
    assumption
  try (generalize x3 = y3 at h4 ⊢; try clear x3)
  refine Kept.cond (fun _ => ?_) (fun _ => ?_)
  · refine State.copyCode_kept hp ?_
    assumption
  · assumption

theorem State.leUnits_kept {m : Nat} {s0 : State} (hp : Sub 4295033348 m) {s : State} {j : Nat} (hk : Kept m s0 s) : Kept m s0 (State.leUnits s j) := by
  unfold State.leUnits
  extract_lets +onlyGivenNames x0
  split
  · extract_lets +onlyGivenNames x1
    have h2 : Kept m s0 x1 := by
      unfold x1
      refine State.setLe_kept (Sub.trans (b := 4295033348) (by decide) hp) ?_
      assumption
    try (generalize x1 = y1 at h2 ⊢; try clear x1)
    extract_lets +onlyGivenNames x3
    extract_lets +onlyGivenNames x4
    have h5 : Kept m s0 x4 := by
      unfold x4
      refine State.leReset_kept (Sub.trans (b := 4295033348) (by decide) hp) ?_
      assumption
    try (generalize x4 = y4 at h5 ⊢; try clear x4)
    extract_lets +onlyGivenNames x6
    have h7 : Kept m s0 x6 := by
      unfold x6
      refine Kept.cond (fun _ => ?_) (fun _ => ?_)
      · refine Kept.cond (fun _ => ?_) (fun _ => ?_)
        · refine State.setUnit_kept (Sub.trans (b := 4295033348) (by decide) hp) ?_
          assumption
        · assumption
      · assumption
    try (generalize x6 = y6 at h7 ⊢; try clear x6)
    extract_lets +onlyGivenNames x8
    extract_lets +onlyGivenNames x9
    have h10 : Kept m s0 x9 := by
      unfold x9
      refine State.setUnit_kept (Sub.trans (b := 4295033348) (by decide) hp) ?_
      assumption
    try (generalize x9 = y9 at h10 ⊢; try clear x9)
    extract_lets +onlyGivenNames x11
    extract_lets +onlyGivenNames x12
    have h13 : Kept m s0 x12 := by
      unfold x12
      refine Kept.cond (fun _ => ?_) (fun _ => ?_)
      · split
        · refine Kept.cond (fun _ => ?_) (fun _ => ?_)
          · refine Kept.upd_cmp (hp.bit (by decide)) ?_
            assumption
          · assumption
        · assumption
      · assumption
    try (generalize x12 = y12 at h13 ⊢; try clear x12)
    refine Kept.cond (fun _ => ?_) (fun _ => ?_)
    · refine State.setUnit_kept (Sub.trans (b := 4295033348) (by decide) hp) ?_
      assumption
    · assumption

theorem State.takeOver_kept {m : Nat} {s0 : State} (hp : Sub 2340774610434 m) {s : State} {j : Nat} (hk : Kept m s0 s) : Kept m s0 (State.takeOver s j) := by
  unfold State.takeOver
  extract_lets +onlyGivenNames x0
  extract_lets +onlyGivenNames x1
  extract_lets +onlyGivenNames x2
  extract_lets +onlyGivenNames x3
  extract_lets +onlyGivenNames x4
  have h5 : Kept m s0 x4 := by
    unfold x4
    refine State.setLc_kept (Sub.trans (b := 2340774610434) (by decide) hp) ?_
    assumption
  try (generalize x4 = y4 at h5 ⊢; try clear x4)
  extract_lets +onlyGivenNames x6
  have h7 : Kept m s0 x6 := by
    unfold x6
    refine State.setLe_kept (Sub.trans (b := 2340774610434) (by decide) hp) ?_
    assumption
  try (generalize x6 = y6 at h7 ⊢; try clear x6)
  extract_lets +onlyGivenNames x8
  have h9 : Kept m s0 x8 := by
    unfold x8
    refine State.setLe_kept (Sub.trans (b := 2340774610434) (by decide) hp) ?_
    assumption
  try (generalize x8 = y8 at h9 ⊢; try clear x8)
  extract_lets +onlyGivenNames x10
  have h11 : Kept m s0 x10 := by
    unfold x10
    refine State.copyCode_kept (Sub.trans (b := 2340774610434) (by decide) hp) ?_
    assumption
  try (generalize x10 = y10 at h11 ⊢; try clear x10)
  extract_lets +onlyGivenNames x12
  have h13 : Kept m s0 x12 := by
    unfold x12
    refine State.wr_kept' Reg.LC_STATUS_block (hp.bit (by decide)) ?_
    assumption
  try (generalize x12 = y12 at h13 ⊢; try clear x12)
  extract_lets +onlyGivenNames x14
  have h15 : Kept m s0 x14 := by
    unfold x14
    split
    · refine State.deliverRec_kept (Sub.trans (b := 2340774610434) (by decide) hp) ?_
      assumption
    · assumption
  try (generalize x14 = y14 at h15 ⊢; try clear x14)
  refine State.lcEvt_kept (Sub.trans (b := 2340774610434) (by decide) hp) ?_
  assumption

theorem State.spareBack_kept {m : Nat} {s0 : State} (hp : Sub 2340774610434 m) {s : State} {c : Nat} (hk : Kept m s0 s) : Kept m s0 (State.spareBack s c) := by
  unfold State.spareBack
  split
  · assumption
  · extract_lets +onlyGivenNames x0
    extract_lets +onlyGivenNames x1
    extract_lets +onlyGivenNames x2
    have h3 : Kept m s0 x2 := by
      unfold x2
      refine State.setLc_kept (Sub.trans (b := 2340774610434) (by decide) hp) ?_
      assumption
    try (generalize x2 = y2 at h3 ⊢; try clear x2)
    extract_lets +onlyGivenNames x4
    have h5 : Kept m s0 x4 := by
      unfold x4
      refine State.setLe_kept (Sub.trans (b := 2340774610434) (by decide) hp) ?_
      assumption
    try (generalize x4 = y4 at h5 ⊢; try clear x4)
    extract_lets +onlyGivenNames x6
    extract_lets +onlyGivenNames x7
    have h8 : Kept m s0 x7 := by
      unfold x7
      refine State.setLe_kept (Sub.trans (b := 2340774610434) (by decide) hp) ?_
      assumption
    try (generalize x7 = y7 at h8 ⊢; try clear x7)
    extract_lets +onlyGivenNames x9
    have h10 : Kept m s0 x9 := by
      unfold x9
      refine State.pf_kept' Reg.LC_STATUS_block (hp.bit (by decide)) ?_
      assumption
    try (generalize x9 = y9 at h10 ⊢; try clear x9)
    extract_lets +onlyGivenNames x11
    have h12 : Kept m s0 x11 := by
      unfold x11
      split
      · refine State.deliverRec_kept (Sub.trans (b := 2340774610434) (by decide) hp) ?_
        assumption
      · assumption
    try (generalize x11 = y11 at h12 ⊢; try clear x11)
    refine State.lcEvt_kept (Sub.trans (b := 2340774610434) (by decide) hp) ?_
    assumption

theorem State.leStart_kept {m : Nat} {s0 : State} (hp : Sub 512 m) {s : State} {j : Nat} (hk : Kept m s0 s) : Kept m s0 (State.leStart s j) := by
  unfold State.leStart
  extract_lets +onlyGivenNames x0
  extract_lets +onlyGivenNames x1
  extract_lets +onlyGivenNames x2
  refine State.setLe_kept hp ?_
  assumption

theorem State.leRest_kept {m : Nat} {s0 : State} (hp : Sub 512 m) {s : State} {j : Nat} (hk : Kept m s0 s) : Kept m s0 (State.leRest s j) := by
  unfold State.leRest
  extract_lets +onlyGivenNames x0
  extract_lets +onlyGivenNames x1
  refine State.setLe_kept hp ?_
  assumption

theorem State.clearAge_kept {m : Nat} {s0 : State} (hp : Sub 512 m) {s : State} (hk : Kept m s0 s) : Kept m s0 (State.clearAge s) := by
  unfold State.clearAge
  refine Kept.upd_le (hp.bit (by decide)) ?_
  assumption

theorem State.lcEdge_kept {m : Nat} {s0 : State} (hp : Sub 2340774675974 m) {s : State} {c : Nat} (hk : Kept m s0 s) : Kept m s0 (State.lcEdge s c) := by
  unfold State.lcEdge
  extract_lets +onlyGivenNames x0
  extract_lets +onlyGivenNames x1
  extract_lets +onlyGivenNames x2
  extract_lets +onlyGivenNames x3
  have h4 : Kept m s0 x3 := by
    unfold x3
    refine Kept.forEach (fun z5 a6 h7 => ?_) ?_
    · refine State.leUnits_kept (Sub.trans (b := 2340774675974) (by decide) hp) ?_
      assumption
    · assumption
  try (generalize x3 = y3 at h4 ⊢; try clear x3)
  extract_lets +onlyGivenNames x8
  extract_lets +onlyGivenNames x9
  have h10 : Kept m s0 x9 := by
    unfold x9
    refine Kept.cond (fun _ => ?_) (fun _ => ?_)
    · refine State.spareBack_kept (Sub.trans (b := 2340774675974) (by decide) hp) ?_
      refine State.setLc_kept (Sub.trans (b := 2340774675974) (by decide) hp) ?_
      assumption
    · refine State.setLc_kept (Sub.trans (b := 2340774675974) (by decide) hp) ?_
      assumption
  try (generalize x9 = y9 at h10 ⊢; try clear x9)
  extract_lets +onlyGivenNames x11
  have h12 : Kept m s0 x11 := by
    unfold x11
    split
    · refine Kept.cond (fun _ => ?_) (fun _ => ?_)
      · refine State.takeOver_kept (Sub.trans (b := 2340774675974) (by decide) hp) ?_
        assumption
      · assumption
    · assumption
  try (generalize x11 = y11 at h12 ⊢; try clear x11)
  refine Kept.forEach (fun z13 a14 h15 => ?_) ?_
  · extract_lets +onlyGivenNames x16
    extract_lets +onlyGivenNames x17
    extract_lets +onlyGivenNames x18
    have h19 : Kept m s0 x18 := by
      unfold x18
      refine State.setLe_kept (Sub.trans (b := 2340774675974) (by decide) hp) ?_
      assumption
    try (generalize x18 = y18 at h19 ⊢; try clear x18)
    refine Kept.cond (fun _ => ?_) (fun _ => ?_)
    · refine Kept.upd_cmp (hp.bit (by decide)) ?_
      assumption
    · assumption
  · assumption

theorem State.lcStart_kept {m : Nat} {s0 : State} (hp : Sub 512 m) {s : State} {c : Nat} (hk : Kept m s0 s) : Kept m s0 (State.lcStart s c) := by
  unfold State.lcStart
  refine Kept.forEach (fun z0 a1 h2 => ?_) ?_
  · refine Kept.cond (fun _ => ?_) (fun _ => ?_)
    · refine State.leStart_kept hp ?_
      assumption
    · refine State.leRest_kept hp ?_
      assumption
  · assumption

theorem State.releaseCheck_kept {m : Nat} {s0 : State} (hp : Sub 4294968320 m) {s : State} {c : Nat} {amending : Bool} (hk : Kept m s0 s) : Kept m s0 (State.releaseCheck s c amending) := by
  unfold State.releaseCheck
  extract_lets +onlyGivenNames x0
  refine Kept.cond (fun _ => ?_) (fun _ => ?_)
  · assumption
  · extract_lets +onlyGivenNames x1
    have h2 : Kept m s0 x1 := by
      unfold x1
      refine State.setLc_kept (Sub.trans (b := 4294968320) (by decide) hp) ?_
      assumption
    try (generalize x1 = y1 at h2 ⊢; try clear x1)
    extract_lets +onlyGivenNames x3
    refine Kept.cond (fun _ => ?_) (fun _ => ?_)
    · refine State.pf_kept' Reg.LC_STATUS_block (hp.bit (by decide)) ?_
      refine State.setLc_kept (Sub.trans (b := 4294968320) (by decide) hp) ?_
      assumption
    · refine State.pf_kept' Reg.LC_STATUS_block (hp.bit (by decide)) ?_
      assumption

theorem execSampleSetDelivery_kept {m : Nat} {s0 : State} (hp : Sub 512 m) {s : State} (hk : Kept m s0 s) : OutKept m s0 (execSampleSetDelivery s) := by
  unfold execSampleSetDelivery
  refine OutKept.next ?_
  refine Kept.cond (fun _ => ?_) (fun _ => ?_)
  · assumption
  · refine Kept.forEach (fun z0 a1 h2 => ?_) ?_
    · split
      · refine Kept.cond (fun _ => ?_) (fun _ => ?_)
        · refine State.setLe_kept hp ?_
          assumption
        · assumption
      · assumption
    · assumption

theorem State.queueNotice_kept {m : Nat} {s0 : State} (hp : Sub 512 m) {s : State} {j : Nat} {n : Notice} (hk : Kept m s0 s) : Kept m s0 (State.queueNotice s j n) := by
  unfold State.queueNotice
  extract_lets +onlyGivenNames x0
  refine State.setLe_kept hp ?_
  assumption

theorem leSendp_kept {m : Nat} {s0 : State} (hp : Sub 512 m) {j : Nat} {s : State} {x : LoopEngine} {w : Nat} (hk : Kept m s0 s) : LeKept m s0 (leSendp j s x w) := by
  unfold leSendp
  extract_lets +onlyGivenNames x0
  extract_lets +onlyGivenNames x1
  extract_lets +onlyGivenNames x2
  refine LeKept.cond (fun _ => ?_) (fun _ => ?_)
  · trivial
  · extract_lets +onlyGivenNames x3
    refine LeKept.cond (fun _ => ?_) (fun _ => ?_)
    · trivial
    · split
      · refine LeRes.next_kept ?_
        refine State.setLe_kept hp ?_
        assumption
      · extract_lets +onlyGivenNames x4
        extract_lets +onlyGivenNames x5
        extract_lets +onlyGivenNames x6
        refine LeRes.next_kept ?_
        refine State.setLe_kept hp ?_
        assumption

theorem leLoop_kept {m : Nat} {s0 : State} (hp : Sub 512 m) {j : Nat} {s : State} {x : LoopEngine} {w : Nat} (hk : Kept m s0 s) : LeKept m s0 (leLoop j s x w) := by
  unfold leLoop
  extract_lets +onlyGivenNames x0
  extract_lets +onlyGivenNames x1
  extract_lets +onlyGivenNames x2
  extract_lets +onlyGivenNames x3
  extract_lets +onlyGivenNames x4
  refine LeKept.cond (fun _ => ?_) (fun _ => ?_)
  · trivial
  · extract_lets +onlyGivenNames x5
    extract_lets +onlyGivenNames x6
    extract_lets +onlyGivenNames x7
    extract_lets +onlyGivenNames x8
    extract_lets +onlyGivenNames x9
    refine LeKept.cond (fun _ => ?_) (fun _ => ?_)
    · trivial
    · extract_lets +onlyGivenNames x10
      extract_lets +onlyGivenNames x11
      refine LeKept.cond (fun _ => ?_) (fun _ => ?_)
      · refine LeRes.next_kept ?_
        refine State.setLe_kept hp ?_
        assumption
      · extract_lets +onlyGivenNames x12
        extract_lets +onlyGivenNames x13
        extract_lets +onlyGivenNames x14
        extract_lets +onlyGivenNames x15
        refine LeRes.own_kept ?_
        refine State.setLe_kept hp ?_
        assumption

theorem leBranch_kept {m : Nat} {s0 : State} (hp : Sub 512 m) {j : Nat} {s : State} {x : LoopEngine} {w : Nat} {taken : Bool} (hk : Kept m s0 s) : LeKept m s0 (leBranch j s x w taken) := by
  unfold leBranch
  extract_lets +onlyGivenNames x0
  refine LeKept.cond (fun _ => ?_) (fun _ => ?_)
  · trivial
  · refine LeKept.cond (fun _ => ?_) (fun _ => ?_)
    · refine LeRes.jump_kept ?_
      refine State.setLe_kept hp ?_
      assumption
    · refine LeRes.next_kept ?_
      refine State.setLe_kept hp ?_
      assumption

theorem execLeNop_kept {m : Nat} {s0 : State} (hp : Sub 2340774674948 m) {j : Fin 36} {w : BitVec 26} {f : Ecc} {s : State} (hk : Kept m s0 s) : OutKept m s0 (execLeNop j w f s) := by
  unfold execLeNop
  refine OutKept.next ?_
  refine State.leExec_kept hp (fun a0 a1 a2 h3 => ?_) ?_
  · refine LeRes.next_kept ?_
    assumption
  · assumption

theorem execLeAdd_kept {m : Nat} {s0 : State} (hp : Sub 2340774674948 m) {j : Fin 36} {w : BitVec 26} {f : Ecc} {s : State} (hk : Kept m s0 s) : OutKept m s0 (execLeAdd j w f s) := by
  unfold execLeAdd
  refine OutKept.next ?_
  refine State.leExec_kept hp (fun a0 a1 a2 h3 => ?_) ?_
  · refine setKOvf_kept (Sub.trans (b := 2340774674948) (by decide) hp) ?_
    assumption
  · assumption

theorem execLeSub_kept {m : Nat} {s0 : State} (hp : Sub 2340774674948 m) {j : Fin 36} {w : BitVec 26} {f : Ecc} {s : State} (hk : Kept m s0 s) : OutKept m s0 (execLeSub j w f s) := by
  unfold execLeSub
  refine OutKept.next ?_
  refine State.leExec_kept hp (fun a0 a1 a2 h3 => ?_) ?_
  · refine setKOvf_kept (Sub.trans (b := 2340774674948) (by decide) hp) ?_
    assumption
  · assumption

theorem execLeAddi_kept {m : Nat} {s0 : State} (hp : Sub 2340774674948 m) {j : Fin 36} {w : BitVec 26} {f : Ecc} {s : State} (hk : Kept m s0 s) : OutKept m s0 (execLeAddi j w f s) := by
  unfold execLeAddi
  refine OutKept.next ?_
  refine State.leExec_kept hp (fun a0 a1 a2 h3 => ?_) ?_
  · refine setKOvf_kept (Sub.trans (b := 2340774674948) (by decide) hp) ?_
    assumption
  · assumption

theorem execLeAnd_kept {m : Nat} {s0 : State} (hp : Sub 2340774674948 m) {j : Fin 36} {w : BitVec 26} {f : Ecc} {s : State} (hk : Kept m s0 s) : OutKept m s0 (execLeAnd j w f s) := by
  unfold execLeAnd
  refine OutKept.next ?_
  refine State.leExec_kept hp (fun a0 a1 a2 h3 => ?_) ?_
  · refine setK_kept (Sub.trans (b := 2340774674948) (by decide) hp) ?_
    assumption
  · assumption

theorem execLeOr_kept {m : Nat} {s0 : State} (hp : Sub 2340774674948 m) {j : Fin 36} {w : BitVec 26} {f : Ecc} {s : State} (hk : Kept m s0 s) : OutKept m s0 (execLeOr j w f s) := by
  unfold execLeOr
  refine OutKept.next ?_
  refine State.leExec_kept hp (fun a0 a1 a2 h3 => ?_) ?_
  · refine setK_kept (Sub.trans (b := 2340774674948) (by decide) hp) ?_
    assumption
  · assumption

theorem execLeXor_kept {m : Nat} {s0 : State} (hp : Sub 2340774674948 m) {j : Fin 36} {w : BitVec 26} {f : Ecc} {s : State} (hk : Kept m s0 s) : OutKept m s0 (execLeXor j w f s) := by
  unfold execLeXor
  refine OutKept.next ?_
  refine State.leExec_kept hp (fun a0 a1 a2 h3 => ?_) ?_
  · refine setK_kept (Sub.trans (b := 2340774674948) (by decide) hp) ?_
    assumption
  · assumption

theorem execLeMovi_kept {m : Nat} {s0 : State} (hp : Sub 2340774674948 m) {j : Fin 36} {w : BitVec 26} {f : Ecc} {s : State} (hk : Kept m s0 s) : OutKept m s0 (execLeMovi j w f s) := by
  unfold execLeMovi
  refine OutKept.next ?_
  refine State.leExec_kept hp (fun a0 a1 a2 h3 => ?_) ?_
  · refine setK_kept (Sub.trans (b := 2340774674948) (by decide) hp) ?_
    assumption
  · assumption

theorem execLeMovhi_kept {m : Nat} {s0 : State} (hp : Sub 2340774674948 m) {j : Fin 36} {w : BitVec 26} {f : Ecc} {s : State} (hk : Kept m s0 s) : OutKept m s0 (execLeMovhi j w f s) := by
  unfold execLeMovhi
  refine OutKept.next ?_
  refine State.leExec_kept hp (fun a0 a1 a2 h3 => ?_) ?_
  · refine setK_kept (Sub.trans (b := 2340774674948) (by decide) hp) ?_
    assumption
  · assumption

theorem execLeMov_kept {m : Nat} {s0 : State} (hp : Sub 2340774674948 m) {j : Fin 36} {w : BitVec 26} {f : Ecc} {s : State} (hk : Kept m s0 s) : OutKept m s0 (execLeMov j w f s) := by
  unfold execLeMov
  refine OutKept.next ?_
  refine State.leExec_kept hp (fun a0 a1 a2 h3 => ?_) ?_
  · refine setK_kept (Sub.trans (b := 2340774674948) (by decide) hp) ?_
    assumption
  · assumption

theorem execLeShl_kept {m : Nat} {s0 : State} (hp : Sub 2340774674948 m) {j : Fin 36} {w : BitVec 26} {f : Ecc} {s : State} (hk : Kept m s0 s) : OutKept m s0 (execLeShl j w f s) := by
  unfold execLeShl
  refine OutKept.next ?_
  refine State.leExec_kept hp (fun a0 a1 a2 h3 => ?_) ?_
  · refine setKOvf_kept (Sub.trans (b := 2340774674948) (by decide) hp) ?_
    assumption
  · assumption

theorem execLeShr_kept {m : Nat} {s0 : State} (hp : Sub 2340774674948 m) {j : Fin 36} {w : BitVec 26} {f : Ecc} {s : State} (hk : Kept m s0 s) : OutKept m s0 (execLeShr j w f s) := by
  unfold execLeShr
  refine OutKept.next ?_
  refine State.leExec_kept hp (fun a0 a1 a2 h3 => ?_) ?_
  · refine setK_kept (Sub.trans (b := 2340774674948) (by decide) hp) ?_
    assumption
  · assumption

theorem execLeSra_kept {m : Nat} {s0 : State} (hp : Sub 2340774674948 m) {j : Fin 36} {w : BitVec 26} {f : Ecc} {s : State} (hk : Kept m s0 s) : OutKept m s0 (execLeSra j w f s) := by
  unfold execLeSra
  refine OutKept.next ?_
  refine State.leExec_kept hp (fun a0 a1 a2 h3 => ?_) ?_
  · refine setK_kept (Sub.trans (b := 2340774674948) (by decide) hp) ?_
    assumption
  · assumption

theorem execLeShli_kept {m : Nat} {s0 : State} (hp : Sub 2340774674948 m) {j : Fin 36} {w : BitVec 26} {f : Ecc} {s : State} (hk : Kept m s0 s) : OutKept m s0 (execLeShli j w f s) := by
  unfold execLeShli
  refine OutKept.next ?_
  refine State.leExec_kept hp (fun a0 a1 a2 h3 => ?_) ?_
  · refine setKOvf_kept (Sub.trans (b := 2340774674948) (by decide) hp) ?_
    assumption
  · assumption

theorem execLeShri_kept {m : Nat} {s0 : State} (hp : Sub 2340774674948 m) {j : Fin 36} {w : BitVec 26} {f : Ecc} {s : State} (hk : Kept m s0 s) : OutKept m s0 (execLeShri j w f s) := by
  unfold execLeShri
  refine OutKept.next ?_
  refine State.leExec_kept hp (fun a0 a1 a2 h3 => ?_) ?_
  · refine setK_kept (Sub.trans (b := 2340774674948) (by decide) hp) ?_
    assumption
  · assumption

theorem execLeSrai_kept {m : Nat} {s0 : State} (hp : Sub 2340774674948 m) {j : Fin 36} {w : BitVec 26} {f : Ecc} {s : State} (hk : Kept m s0 s) : OutKept m s0 (execLeSrai j w f s) := by
  unfold execLeSrai
  refine OutKept.next ?_
  refine State.leExec_kept hp (fun a0 a1 a2 h3 => ?_) ?_
  · refine setK_kept (Sub.trans (b := 2340774674948) (by decide) hp) ?_
    assumption
  · assumption

theorem execLeMin_kept {m : Nat} {s0 : State} (hp : Sub 2340774674948 m) {j : Fin 36} {w : BitVec 26} {f : Ecc} {s : State} (hk : Kept m s0 s) : OutKept m s0 (execLeMin j w f s) := by
  unfold execLeMin
  refine OutKept.next ?_
  refine State.leExec_kept hp (fun a0 a1 a2 h3 => ?_) ?_
  · refine setK_kept (Sub.trans (b := 2340774674948) (by decide) hp) ?_
    assumption
  · assumption

theorem execLeMax_kept {m : Nat} {s0 : State} (hp : Sub 2340774674948 m) {j : Fin 36} {w : BitVec 26} {f : Ecc} {s : State} (hk : Kept m s0 s) : OutKept m s0 (execLeMax j w f s) := by
  unfold execLeMax
  refine OutKept.next ?_
  refine State.leExec_kept hp (fun a0 a1 a2 h3 => ?_) ?_
  · refine setK_kept (Sub.trans (b := 2340774674948) (by decide) hp) ?_
    assumption
  · assumption

theorem execLeClamp_kept {m : Nat} {s0 : State} (hp : Sub 2340774674948 m) {j : Fin 36} {w : BitVec 26} {f : Ecc} {s : State} (hk : Kept m s0 s) : OutKept m s0 (execLeClamp j w f s) := by
  unfold execLeClamp
  refine OutKept.next ?_
  refine State.leExec_kept hp (fun a0 a1 a2 h3 => ?_) ?_
  · extract_lets +onlyGivenNames x4
    extract_lets +onlyGivenNames x5
    extract_lets +onlyGivenNames x6
    extract_lets +onlyGivenNames x7
    refine setK_kept (Sub.trans (b := 2340774674948) (by decide) hp) ?_
    assumption
  · assumption

theorem execLeAbs_kept {m : Nat} {s0 : State} (hp : Sub 2340774674948 m) {j : Fin 36} {w : BitVec 26} {f : Ecc} {s : State} (hk : Kept m s0 s) : OutKept m s0 (execLeAbs j w f s) := by
  unfold execLeAbs
  refine OutKept.next ?_
  refine State.leExec_kept hp (fun a0 a1 a2 h3 => ?_) ?_
  · refine setKOvf_kept (Sub.trans (b := 2340774674948) (by decide) hp) ?_
    assumption
  · assumption

theorem execLeNeg_kept {m : Nat} {s0 : State} (hp : Sub 2340774674948 m) {j : Fin 36} {w : BitVec 26} {f : Ecc} {s : State} (hk : Kept m s0 s) : OutKept m s0 (execLeNeg j w f s) := by
  unfold execLeNeg
  refine OutKept.next ?_
  refine State.leExec_kept hp (fun a0 a1 a2 h3 => ?_) ?_
  · refine setKOvf_kept (Sub.trans (b := 2340774674948) (by decide) hp) ?_
    assumption
  · assumption

theorem execLeMulq_kept {m : Nat} {s0 : State} (hp : Sub 2340774674948 m) {j : Fin 36} {w : BitVec 26} {f : Ecc} {s : State} (hk : Kept m s0 s) : OutKept m s0 (execLeMulq j w f s) := by
  unfold execLeMulq
  refine OutKept.next ?_
  refine State.leExec_kept hp (fun a0 a1 a2 h3 => ?_) ?_
  · refine setKOvf_kept (Sub.trans (b := 2340774674948) (by decide) hp) ?_
    assumption
  · assumption

theorem execLeMac_kept {m : Nat} {s0 : State} (hp : Sub 2340774674948 m) {j : Fin 36} {w : BitVec 26} {f : Ecc} {s : State} (hk : Kept m s0 s) : OutKept m s0 (execLeMac j w f s) := by
  unfold execLeMac
  refine OutKept.next ?_
  refine State.leExec_kept hp (fun a0 a1 a2 h3 => ?_) ?_
  · refine setMOvf_kept (Sub.trans (b := 2340774674948) (by decide) hp) ?_
    assumption
  · assumption

theorem execLeMsu_kept {m : Nat} {s0 : State} (hp : Sub 2340774674948 m) {j : Fin 36} {w : BitVec 26} {f : Ecc} {s : State} (hk : Kept m s0 s) : OutKept m s0 (execLeMsu j w f s) := by
  unfold execLeMsu
  refine OutKept.next ?_
  refine State.leExec_kept hp (fun a0 a1 a2 h3 => ?_) ?_
  · refine setMOvf_kept (Sub.trans (b := 2340774674948) (by decide) hp) ?_
    assumption
  · assumption

theorem execLeMclr_kept {m : Nat} {s0 : State} (hp : Sub 2340774674948 m) {j : Fin 36} {w : BitVec 26} {f : Ecc} {s : State} (hk : Kept m s0 s) : OutKept m s0 (execLeMclr j w f s) := by
  unfold execLeMclr
  refine OutKept.next ?_
  refine State.leExec_kept hp (fun a0 a1 a2 h3 => ?_) ?_
  · refine LeRes.next_kept ?_
    refine State.setLe_kept (Sub.trans (b := 2340774674948) (by decide) hp) ?_
    assumption
  · assumption

theorem execLeMld_kept {m : Nat} {s0 : State} (hp : Sub 2340774674948 m) {j : Fin 36} {w : BitVec 26} {f : Ecc} {s : State} (hk : Kept m s0 s) : OutKept m s0 (execLeMld j w f s) := by
  unfold execLeMld
  refine OutKept.next ?_
  refine State.leExec_kept hp (fun a0 a1 a2 h3 => ?_) ?_
  · refine LeRes.next_kept ?_
    refine State.setLe_kept (Sub.trans (b := 2340774674948) (by decide) hp) ?_
    assumption
  · assumption

theorem execLeMrd_kept {m : Nat} {s0 : State} (hp : Sub 2340774674948 m) {j : Fin 36} {w : BitVec 26} {f : Ecc} {s : State} (hk : Kept m s0 s) : OutKept m s0 (execLeMrd j w f s) := by
  unfold execLeMrd
  refine OutKept.next ?_
  refine State.leExec_kept hp (fun a0 a1 a2 h3 => ?_) ?_
  · refine setKOvf_kept (Sub.trans (b := 2340774674948) (by decide) hp) ?_
    assumption
  · assumption

theorem execLeMadd_kept {m : Nat} {s0 : State} (hp : Sub 2340774674948 m) {j : Fin 36} {w : BitVec 26} {f : Ecc} {s : State} (hk : Kept m s0 s) : OutKept m s0 (execLeMadd j w f s) := by
  unfold execLeMadd
  refine OutKept.next ?_
  refine State.leExec_kept hp (fun a0 a1 a2 h3 => ?_) ?_
  · refine setMOvf_kept (Sub.trans (b := 2340774674948) (by decide) hp) ?_
    assumption
  · assumption

theorem execLeLd_kept {m : Nat} {s0 : State} (hp : Sub 2340774674950 m) {j : Fin 36} {w : BitVec 26} {f : Ecc} {e : Ecc} {s : State} (hk : Kept m s0 s) : OutKept m s0 (execLeLd j w f e s) := by
  unfold execLeLd
  refine OutKept.next ?_
  refine State.leExec_kept (Sub.trans (b := 2340774674950) (by decide) hp) (fun a0 a1 a2 h3 => ?_) ?_
  · refine leAccess_kept (Sub.trans (b := 2340774674950) (by decide) hp) ?_
    assumption
  · assumption

theorem execLeSt_kept {m : Nat} {s0 : State} (hp : Sub 2340774674950 m) {j : Fin 36} {w : BitVec 26} {f : Ecc} {s : State} (hk : Kept m s0 s) : OutKept m s0 (execLeSt j w f s) := by
  unfold execLeSt
  refine OutKept.next ?_
  refine State.leExec_kept (Sub.trans (b := 2340774674950) (by decide) hp) (fun a0 a1 a2 h3 => ?_) ?_
  · refine leAccess_kept (Sub.trans (b := 2340774674950) (by decide) hp) ?_
    assumption
  · assumption

theorem execLeLdh_kept {m : Nat} {s0 : State} (hp : Sub 2340774674950 m) {j : Fin 36} {w : BitVec 26} {f : Ecc} {e : Ecc} {s : State} (hk : Kept m s0 s) : OutKept m s0 (execLeLdh j w f e s) := by
  unfold execLeLdh
  refine OutKept.next ?_
  refine State.leExec_kept (Sub.trans (b := 2340774674950) (by decide) hp) (fun a0 a1 a2 h3 => ?_) ?_
  · refine leAccess_kept (Sub.trans (b := 2340774674950) (by decide) hp) ?_
    assumption
  · assumption

theorem execLeSth_kept {m : Nat} {s0 : State} (hp : Sub 2340774674950 m) {j : Fin 36} {w : BitVec 26} {f : Ecc} {e : Ecc} {s : State} (hk : Kept m s0 s) : OutKept m s0 (execLeSth j w f e s) := by
  unfold execLeSth
  refine OutKept.next ?_
  refine State.leExec_kept (Sub.trans (b := 2340774674950) (by decide) hp) (fun a0 a1 a2 h3 => ?_) ?_
  · refine leAccess_kept (Sub.trans (b := 2340774674950) (by decide) hp) ?_
    assumption
  · assumption

theorem execLeLdp_kept {m : Nat} {s0 : State} (hp : Sub 2340774674950 m) {j : Fin 36} {w : BitVec 26} {f : Ecc} {e : Ecc} {s : State} (hk : Kept m s0 s) : OutKept m s0 (execLeLdp j w f e s) := by
  unfold execLeLdp
  refine OutKept.next ?_
  refine State.leExec_kept (Sub.trans (b := 2340774674950) (by decide) hp) (fun a0 a1 a2 h3 => ?_) ?_
  · refine leAccess_kept (Sub.trans (b := 2340774674950) (by decide) hp) ?_
    assumption
  · assumption

theorem execLeStp_kept {m : Nat} {s0 : State} (hp : Sub 2340774674950 m) {j : Fin 36} {w : BitVec 26} {f : Ecc} {s : State} (hk : Kept m s0 s) : OutKept m s0 (execLeStp j w f s) := by
  unfold execLeStp
  refine OutKept.next ?_
  refine State.leExec_kept (Sub.trans (b := 2340774674950) (by decide) hp) (fun a0 a1 a2 h3 => ?_) ?_
  · refine leAccess_kept (Sub.trans (b := 2340774674950) (by decide) hp) ?_
    assumption
  · assumption

theorem execLePset_kept {m : Nat} {s0 : State} (hp : Sub 2340774674948 m) {j : Fin 36} {w : BitVec 26} {f : Ecc} {s : State} (hk : Kept m s0 s) : OutKept m s0 (execLePset j w f s) := by
  unfold execLePset
  refine OutKept.next ?_
  refine State.leExec_kept hp (fun a0 a1 a2 h3 => ?_) ?_
  · refine LeRes.next_kept ?_
    refine State.setLe_kept (Sub.trans (b := 2340774674948) (by decide) hp) ?_
    assumption
  · assumption

theorem execLePadd_kept {m : Nat} {s0 : State} (hp : Sub 2340774674948 m) {j : Fin 36} {w : BitVec 26} {f : Ecc} {s : State} (hk : Kept m s0 s) : OutKept m s0 (execLePadd j w f s) := by
  unfold execLePadd
  refine OutKept.next ?_
  refine State.leExec_kept hp (fun a0 a1 a2 h3 => ?_) ?_
  · refine LeRes.next_kept ?_
    refine State.setLe_kept (Sub.trans (b := 2340774674948) (by decide) hp) ?_
    assumption
  · assumption

theorem execLePmov_kept {m : Nat} {s0 : State} (hp : Sub 2340774674948 m) {j : Fin 36} {w : BitVec 26} {f : Ecc} {s : State} (hk : Kept m s0 s) : OutKept m s0 (execLePmov j w f s) := by
  unfold execLePmov
  refine OutKept.next ?_
  refine State.leExec_kept hp (fun a0 a1 a2 h3 => ?_) ?_
  · refine LeRes.next_kept ?_
    refine State.setLe_kept (Sub.trans (b := 2340774674948) (by decide) hp) ?_
    assumption
  · assumption

theorem execLePrd_kept {m : Nat} {s0 : State} (hp : Sub 2340774674948 m) {j : Fin 36} {w : BitVec 26} {f : Ecc} {s : State} (hk : Kept m s0 s) : OutKept m s0 (execLePrd j w f s) := by
  unfold execLePrd
  refine OutKept.next ?_
  refine State.leExec_kept hp (fun a0 a1 a2 h3 => ?_) ?_
  · refine setK_kept (Sub.trans (b := 2340774674948) (by decide) hp) ?_
    assumption
  · assumption

theorem execLeRsr_kept {m : Nat} {s0 : State} (hp : Sub 2340774674948 m) {j : Fin 36} {w : BitVec 26} {f : Ecc} {s : State} (hk : Kept m s0 s) : OutKept m s0 (execLeRsr j w f s) := by
  unfold execLeRsr
  refine OutKept.next ?_
  refine State.leExec_kept hp (fun a0 a1 a2 h3 => ?_) ?_
  · split
    · refine setK_kept (Sub.trans (b := 2340774674948) (by decide) hp) ?_
      assumption
    · trivial
  · assumption

theorem execLeWsr_kept {m : Nat} {s0 : State} (hp : Sub 2340774674948 m) {j : Fin 36} {w : BitVec 26} {f : Ecc} {s : State} (hk : Kept m s0 s) : OutKept m s0 (execLeWsr j w f s) := by
  unfold execLeWsr
  refine OutKept.next ?_
  refine State.leExec_kept hp (fun a0 a1 a2 h3 => ?_) ?_
  · split
    · refine LeRes.next_kept ?_
      refine State.setLe_kept (Sub.trans (b := 2340774674948) (by decide) hp) ?_
      assumption
    · trivial
  · assumption

theorem execLeRdn_kept {m : Nat} {s0 : State} (hp : Sub 2340774674948 m) {j : Fin 36} {w : BitVec 26} {f : Ecc} {s : State} (hk : Kept m s0 s) : OutKept m s0 (execLeRdn j w f s) := by
  unfold execLeRdn
  refine OutKept.next ?_
  refine State.leExec_kept hp (fun a0 a1 a2 h3 => ?_) ?_
  · split
    · extract_lets +onlyGivenNames x4
      refine setK_kept (Sub.trans (b := 2340774674948) (by decide) hp) ?_
      assumption
    · refine setK_kept (Sub.trans (b := 2340774674948) (by decide) hp) ?_
      assumption
  · assumption

theorem execLeBeq_kept {m : Nat} {s0 : State} (hp : Sub 2340774674948 m) {j : Fin 36} {w : BitVec 26} {f : Ecc} {s : State} (hk : Kept m s0 s) : OutKept m s0 (execLeBeq j w f s) := by
  unfold execLeBeq
  refine OutKept.next ?_
  refine State.leExec_kept hp (fun a0 a1 a2 h3 => ?_) ?_
  · refine leBranch_kept (Sub.trans (b := 2340774674948) (by decide) hp) ?_
    assumption
  · assumption

theorem execLeBne_kept {m : Nat} {s0 : State} (hp : Sub 2340774674948 m) {j : Fin 36} {w : BitVec 26} {f : Ecc} {s : State} (hk : Kept m s0 s) : OutKept m s0 (execLeBne j w f s) := by
  unfold execLeBne
  refine OutKept.next ?_
  refine State.leExec_kept hp (fun a0 a1 a2 h3 => ?_) ?_
  · refine leBranch_kept (Sub.trans (b := 2340774674948) (by decide) hp) ?_
    assumption
  · assumption

theorem execLeBlt_kept {m : Nat} {s0 : State} (hp : Sub 2340774674948 m) {j : Fin 36} {w : BitVec 26} {f : Ecc} {s : State} (hk : Kept m s0 s) : OutKept m s0 (execLeBlt j w f s) := by
  unfold execLeBlt
  refine OutKept.next ?_
  refine State.leExec_kept hp (fun a0 a1 a2 h3 => ?_) ?_
  · refine leBranch_kept (Sub.trans (b := 2340774674948) (by decide) hp) ?_
    assumption
  · assumption

theorem execLeBge_kept {m : Nat} {s0 : State} (hp : Sub 2340774674948 m) {j : Fin 36} {w : BitVec 26} {f : Ecc} {s : State} (hk : Kept m s0 s) : OutKept m s0 (execLeBge j w f s) := by
  unfold execLeBge
  refine OutKept.next ?_
  refine State.leExec_kept hp (fun a0 a1 a2 h3 => ?_) ?_
  · refine leBranch_kept (Sub.trans (b := 2340774674948) (by decide) hp) ?_
    assumption
  · assumption

theorem execLeB_kept {m : Nat} {s0 : State} (hp : Sub 2340774674948 m) {j : Fin 36} {w : BitVec 26} {f : Ecc} {s : State} (hk : Kept m s0 s) : OutKept m s0 (execLeB j w f s) := by
  unfold execLeB
  refine OutKept.next ?_
  refine State.leExec_kept hp (fun a0 a1 a2 h3 => ?_) ?_
  · refine leBranch_kept (Sub.trans (b := 2340774674948) (by decide) hp) ?_
    assumption
  · assumption

theorem execLeJal_kept {m : Nat} {s0 : State} (hp : Sub 2340774674948 m) {j : Fin 36} {w : BitVec 26} {f : Ecc} {s : State} (hk : Kept m s0 s) : OutKept m s0 (execLeJal j w f s) := by
  unfold execLeJal
  refine OutKept.next ?_
  refine State.leExec_kept hp (fun a0 a1 a2 h3 => ?_) ?_
  · refine leBranch_kept (Sub.trans (b := 2340774674948) (by decide) hp) ?_
    assumption
  · assumption

theorem execLeJr_kept {m : Nat} {s0 : State} (hp : Sub 2340774674948 m) {j : Fin 36} {w : BitVec 26} {f : Ecc} {s : State} (hk : Kept m s0 s) : OutKept m s0 (execLeJr j w f s) := by
  unfold execLeJr
  refine OutKept.next ?_
  refine State.leExec_kept hp (fun a0 a1 a2 h3 => ?_) ?_
  · refine LeKept.cond (fun _ => ?_) (fun _ => ?_)
    · trivial
    · refine LeRes.jump_kept ?_
      assumption
  · assumption

theorem execLeLoop_kept {m : Nat} {s0 : State} (hp : Sub 2340774674948 m) {j : Fin 36} {w : BitVec 26} {f : Ecc} {s : State} (hk : Kept m s0 s) : OutKept m s0 (execLeLoop j w f s) := by
  unfold execLeLoop
  refine OutKept.next ?_
  refine State.leExec_kept hp (fun a0 a1 a2 h3 => ?_) ?_
  · refine leLoop_kept (Sub.trans (b := 2340774674948) (by decide) hp) ?_
    assumption
  · assumption

theorem execLeWaits_kept {m : Nat} {s0 : State} (hp : Sub 2340774674948 m) {j : Fin 36} {w : BitVec 26} {f : Ecc} {s : State} (hk : Kept m s0 s) : OutKept m s0 (execLeWaits j w f s) := by
  unfold execLeWaits
  refine OutKept.next ?_
  refine State.leExec_kept hp (fun a0 a1 a2 h3 => ?_) ?_
  · extract_lets +onlyGivenNames x4
    extract_lets +onlyGivenNames x5
    extract_lets +onlyGivenNames x6
    refine LeKept.cond (fun _ => ?_) (fun _ => ?_)
    · trivial
    · refine LeKept.cond (fun _ => ?_) (fun _ => ?_)
      · refine setK_kept (Sub.trans (b := 2340774674948) (by decide) hp) ?_
        assumption
      · refine LeRes.own_kept ?_
        refine State.setLe_kept (Sub.trans (b := 2340774674948) (by decide) hp) ?_
        assumption
  · assumption

theorem execLeRds_kept {m : Nat} {s0 : State} (hp : Sub 2340774674948 m) {j : Fin 36} {w : BitVec 26} {f : Ecc} {s : State} (hk : Kept m s0 s) : OutKept m s0 (execLeRds j w f s) := by
  unfold execLeRds
  refine OutKept.next ?_
  refine State.leExec_kept hp (fun a0 a1 a2 h3 => ?_) ?_
  · extract_lets +onlyGivenNames x4
    extract_lets +onlyGivenNames x5
    extract_lets +onlyGivenNames x6
    refine LeKept.cond (fun _ => ?_) (fun _ => ?_)
    · trivial
    · split
      · trivial
      · split
        · refine setK_kept (Sub.trans (b := 2340774674948) (by decide) hp) ?_
          assumption
        · trivial
  · assumption

theorem execLeSendp_kept {m : Nat} {s0 : State} (hp : Sub 2340774674948 m) {j : Fin 36} {w : BitVec 26} {f : Ecc} {s : State} (hk : Kept m s0 s) : OutKept m s0 (execLeSendp j w f s) := by
  unfold execLeSendp
  refine OutKept.next ?_
  refine State.leExec_kept hp (fun a0 a1 a2 h3 => ?_) ?_
  · refine leSendp_kept (Sub.trans (b := 2340774674948) (by decide) hp) ?_
    assumption
  · assumption

theorem State.firstCommit_kept {m : Nat} {s0 : State} (hp : Sub 4294967808 m) {s : State} {j : Nat} (hk : Kept m s0 s) : Kept m s0 (State.firstCommit s j) := by
  unfold State.firstCommit
  extract_lets +onlyGivenNames x0
  extract_lets +onlyGivenNames x1
  refine Kept.cond (fun _ => ?_) (fun _ => ?_)
  · assumption
  · refine State.pf_kept' Reg.LC_LE_MAXCYC_block (hp.bit (by decide)) ?_
    refine State.setLe_kept (Sub.trans (b := 4294967808) (by decide) hp) ?_
    assumption

theorem execLeCommit_kept {m : Nat} {s0 : State} (hp : Sub 2349364611716 m) {j : Fin 36} {w : BitVec 26} {f : Ecc} {s : State} (hk : Kept m s0 s) : OutKept m s0 (execLeCommit j w f s) := by
  unfold execLeCommit
  refine OutKept.next ?_
  refine State.leExec_kept (Sub.trans (b := 2349364611716) (by decide) hp) (fun a0 a1 a2 h3 => ?_) ?_
  · refine LeRes.next_kept ?_
    refine State.leCommit_kept (Sub.trans (b := 2349364611716) (by decide) hp) ?_
    refine State.firstCommit_kept (Sub.trans (b := 2349364611716) (by decide) hp) ?_
    assumption
  · assumption

theorem execLeEnd_kept {m : Nat} {s0 : State} (hp : Sub 2349364644486 m) {j : Fin 36} {w : BitVec 26} {f : Ecc} {s : State} (hk : Kept m s0 s) : OutKept m s0 (execLeEnd j w f s) := by
  unfold execLeEnd
  refine OutKept.next ?_
  refine State.leExec_kept (Sub.trans (b := 2349364644486) (by decide) hp) (fun a0 a1 a2 h3 => ?_) ?_
  · extract_lets +onlyGivenNames x4
    extract_lets +onlyGivenNames x5
    have h6 : Kept m s0 x5 := by
      unfold x5
      refine State.leCommit_kept (Sub.trans (b := 2349364644486) (by decide) hp) ?_
      refine State.setLe_kept (Sub.trans (b := 2349364644486) (by decide) hp) ?_
      assumption
    try (generalize x5 = y5 at h6 ⊢; try clear x5)
    extract_lets +onlyGivenNames x7
    have h8 : Kept m s0 x7 := by
      unfold x7
      refine State.wr_kept' Reg.LC_LE_CYC_block (hp.bit (by decide)) ?_
      assumption
    try (generalize x7 = y7 at h8 ⊢; try clear x7)
    extract_lets +onlyGivenNames x9
    have h10 : Kept m s0 x9 := by
      unfold x9
      refine State.pf_kept' Reg.LC_LE_MAXCYC_block (hp.bit (by decide)) ?_
      assumption
    try (generalize x9 = y9 at h10 ⊢; try clear x9)
    refine LeRes.own_kept ?_
    refine State.snapshot_kept (Sub.trans (b := 2349364644486) (by decide) hp) ?_
    refine State.latchPubs_kept (Sub.trans (b := 2349364644486) (by decide) hp) ?_
    refine State.takeRecord_kept (Sub.trans (b := 2349364644486) (by decide) hp) ?_
    assumption
  · assumption

theorem execLePub_kept {m : Nat} {s0 : State} (hp : Sub 2340774674948 m) {j : Fin 36} {w : BitVec 26} {f : Ecc} {s : State} (hk : Kept m s0 s) : OutKept m s0 (execLePub j w f s) := by
  unfold execLePub
  refine OutKept.next ?_
  refine State.leExec_kept hp (fun a0 a1 a2 h3 => ?_) ?_
  · refine LeRes.next_kept ?_
    refine State.setLe_kept (Sub.trans (b := 2340774674948) (by decide) hp) ?_
    assumption
  · assumption

theorem execLeEvp_kept {m : Nat} {s0 : State} (hp : Sub 2340774674948 m) {j : Fin 36} {w : BitVec 26} {f : Ecc} {s : State} (hk : Kept m s0 s) : OutKept m s0 (execLeEvp j w f s) := by
  unfold execLeEvp
  refine OutKept.next ?_
  refine State.leExec_kept hp (fun a0 a1 a2 h3 => ?_) ?_
  · refine LeRes.next_kept ?_
    refine State.raise_kept (Sub.trans (b := 2340774674948) (by decide) hp) ?_
    refine State.pf_kept' Reg.LC_LE_EVT_block (hp.bit (by decide)) ?_
    refine State.inc_kept' Reg.LC_LE_EVT_block (hp.bit (by decide)) ?_
    assumption
  · assumption

theorem execLeSharedAccessDone_kept {m : Nat} {s0 : State} (hp : Sub 2340774674950 m) {j : Fin 36} {cycles : Nat} {e : Ecc} {s : State} (hk : Kept m s0 s) : OutKept m s0 (execLeSharedAccessDone j cycles e s) := by
  unfold execLeSharedAccessDone
  refine OutKept.next ?_
  extract_lets +onlyGivenNames x0
  split
  · assumption
  · extract_lets +onlyGivenNames x1
    refine Kept.cond (fun _ => ?_) (fun _ => ?_)
    · assumption
    · refine Kept.cond (fun _ => ?_) (fun _ => ?_)
      · refine State.leFault_kept (Sub.trans (b := 2340774674950) (by decide) hp) ?_
        assumption
      · extract_lets +onlyGivenNames x2
        extract_lets +onlyGivenNames x3
        have h4 : Kept m s0 x3 := by
          unfold x3
          refine Kept.cond (fun _ => ?_) (fun _ => ?_)
          · refine State.mput_kept (Sub.trans (b := 2340774674950) (by decide) hp) ?_
            assumption
          · assumption
        try (generalize x3 = y3 at h4 ⊢; try clear x3)
        extract_lets +onlyGivenNames x5
        extract_lets +onlyGivenNames x6
        extract_lets +onlyGivenNames x7
        have h8 : Kept m s0 x7 := by
          unfold x7
          refine State.setLe_kept (Sub.trans (b := 2340774674950) (by decide) hp) ?_
          assumption
        try (generalize x7 = y7 at h8 ⊢; try clear x7)
        refine Kept.cond (fun _ => ?_) (fun _ => ?_)
        · refine State.leEcc1_kept (Sub.trans (b := 2340774674950) (by decide) hp) ?_
          assumption
        · assumption

theorem execLeWaitsEnd_kept {m : Nat} {s0 : State} (hp : Sub 512 m) {j : Fin 36} {cycles : Nat} {s : State} (hk : Kept m s0 s) : OutKept m s0 (execLeWaitsEnd j cycles s) := by
  unfold execLeWaitsEnd
  refine OutKept.next ?_
  extract_lets +onlyGivenNames x0
  split
  · assumption
  · extract_lets +onlyGivenNames x1
    extract_lets +onlyGivenNames x2
    refine Kept.cond (fun _ => ?_) (fun _ => ?_)
    · assumption
    · refine State.setLe_kept hp ?_
      assumption

end Sys2Proof.Machine
end

