-- ==== Sys2Proof/Laws/KeptSense.lean ====
section
/-!
SUPPORT. What the definitions of Machine/Sense.lean keep: one lemma each.
-/
namespace Sys2Proof.Machine

theorem State.latchPort_kept {m : Nat} {s0 : State} (hp : Sub 128 m) {s : State} {n : Nat} (hk : Kept m s0 s) : Kept m s0 (State.latchPort s n) := by
  unfold State.latchPort
  refine State.setPrt_kept hp ?_
  assumption

theorem State.satCount_kept {m : Nat} {s0 : State} (hp : Sub 8192 m) {s : State} {ch : Nat} {old : Nat} {code : Nat} (hk : Kept m s0 s) : Kept m s0 (State.satCount s ch old code) := by
  unfold State.satCount
  extract_lets +onlyGivenNames x0
  refine Kept.upd_adc (hp.bit (by decide)) ?_
  assumption

theorem State.senseCh_kept {m : Nat} {s0 : State} (hp : Sub 2362249459840 m) {s : State} {n : Nat} {code : Nat} (hk : Kept m s0 s) : Kept m s0 (State.senseCh s n code) := by
  unfold State.senseCh
  refine Kept.cond (fun _ => ?_) (fun _ => ?_)
  · assumption
  · extract_lets +onlyGivenNames x0
    have h1 : Kept m s0 x0 := by
      unfold x0
      refine State.wr_kept' Reg.ADC_RS_block (hp.bit (by decide)) ?_
      refine State.satCount_kept (Sub.trans (b := 2362249459840) (by decide) hp) ?_
      assumption
    try (generalize x0 = y0 at h1 ⊢; try clear x0)
    split
    · refine State.senseRail_kept (Sub.trans (b := 2362249459840) (by decide) hp) ?_
      assumption
    · assumption

theorem execSenseSampleReady_kept {m : Nat} {s0 : State} (hp : Sub 2362249459840 m) {rs : List Conv} {aux : Conv} {s : State} (hk : Kept m s0 s) : OutKept m s0 (execSenseSampleReady rs aux s) := by
  unfold execSenseSampleReady
  refine OutKept.cond (fun _ => ?_) (fun _ => ?_)
  · exact OutKept.fault
  · refine OutKept.next ?_
    refine Kept.cond (fun _ => ?_) (fun _ => ?_)
    · assumption
    · extract_lets +onlyGivenNames x0
      have h1 : Kept m s0 x0 := by
        unfold x0
        refine Kept.forEach (fun z2 a3 h4 => ?_) ?_
        · refine State.setRl_kept (Sub.trans (b := 2362249459840) (by decide) hp) ?_
          assumption
        · assumption
      try (generalize x0 = y0 at h1 ⊢; try clear x0)
      extract_lets +onlyGivenNames x5
      have h6 : Kept m s0 x5 := by
        unfold x5
        refine Kept.forEach (fun z7 a8 h9 => ?_) ?_
        · refine State.latchPort_kept (Sub.trans (b := 2362249459840) (by decide) hp) ?_
          assumption
        · assumption
      try (generalize x5 = y5 at h6 ⊢; try clear x5)
      extract_lets +onlyGivenNames x10
      have h11 : Kept m s0 x10 := by
        unfold x10
        refine Kept.forEach (fun z12 a13 h14 => ?_) ?_
        · split
          · refine State.senseCh_kept hp ?_
            assumption
          · assumption
        · assumption
      try (generalize x10 = y10 at h11 ⊢; try clear x10)
      extract_lets +onlyGivenNames x15
      extract_lets +onlyGivenNames x16
      have h17 : Kept m s0 x16 := by
        unfold x16
        refine Kept.cond (fun _ => ?_) (fun _ => ?_)
        · assumption
        · refine State.wr_kept' Reg.ADC_AUX_block (hp.bit (by decide)) ?_
          refine State.satCount_kept (Sub.trans (b := 2362249459840) (by decide) hp) ?_
          assumption
      try (generalize x16 = y16 at h17 ⊢; try clear x16)
      extract_lets +onlyGivenNames x18
      have h19 : Kept m s0 x18 := by
        unfold x18
        refine Kept.forEach (fun z20 a21 h22 => ?_) ?_
        · refine State.iestLatch_kept (Sub.trans (b := 2362249459840) (by decide) hp) ?_
          assumption
        · assumption
      try (generalize x18 = y18 at h19 ⊢; try clear x18)
      refine Kept.cond (fun _ => ?_) (fun _ => ?_)
      · assumption
      · refine Kept.forEach (fun z23 a24 h25 => ?_) ?_
        · refine State.nrecOf_kept (Sub.trans (b := 2362249459840) (by decide) hp) ?_
          assumption
        · assumption

theorem execAdcSaturation_kept {m : Nat} {s0 : State} (hp : Sub 562949433991168 m) {ch : Fin 80} {s : State} (hk : Kept m s0 s) : OutKept m s0 (execAdcSaturation ch s) := by
  unfold execAdcSaturation
  refine OutKept.next ?_
  extract_lets +onlyGivenNames x0
  extract_lets +onlyGivenNames x1
  refine Kept.cond (fun _ => ?_) (fun _ => ?_)
  · assumption
  · extract_lets +onlyGivenNames x2
    have h3 : Kept m s0 x2 := by
      unfold x2
      refine Kept.upd_adc (hp.bit (by decide)) ?_
      assumption
    try (generalize x2 = y2 at h3 ⊢; try clear x2)
    refine State.raise_kept (Sub.trans (b := 562949433991168) (by decide) hp) ?_
    refine State.setB_kept' rfl (Sub.reg (Sub.trans (b := 562949433991168) (by decide) hp) _) ?_
    assumption

theorem execHintNotice_kept {m : Nat} {s0 : State} (hp : Sub 6743384539648 m) {h_ : Fin 8} {x : HintRx} {s : State} (hk : Kept m s0 s) : OutKept m s0 (execHintNotice h_ x s) := by
  unfold execHintNotice
  refine OutKept.next ?_
  extract_lets +onlyGivenNames x0
  extract_lets +onlyGivenNames x1
  extract_lets +onlyGivenNames x2
  refine Kept.cond (fun _ => ?_) (fun _ => ?_)
  · assumption
  · refine Kept.cond (fun _ => ?_) (fun _ => ?_)
    · refine State.inc_kept' Reg.HINT_DROP0_block (hp.bit (by decide)) ?_
      assumption
    · refine Kept.cond (fun _ => ?_) (fun _ => ?_)
      · refine State.hintEvt_kept (Sub.trans (b := 6743384539648) (by decide) hp) ?_
        refine State.inc_kept' Reg.HINT_DROP1_block (hp.bit (by decide)) ?_
        assumption
      · refine Kept.cond (fun _ => ?_) (fun _ => ?_)
        · refine State.hintEvt_kept (Sub.trans (b := 6743384539648) (by decide) hp) ?_
          refine State.inc_kept' Reg.HINT_DROP0_block (hp.bit (by decide)) ?_
          assumption
        · extract_lets +onlyGivenNames x3
          extract_lets +onlyGivenNames x4
          extract_lets +onlyGivenNames x5
          extract_lets +onlyGivenNames x6
          extract_lets +onlyGivenNames x7
          extract_lets +onlyGivenNames x8
          extract_lets +onlyGivenNames x9
          have h10 : Kept m s0 x9 := by
            unfold x9
            refine Kept.cond (fun _ => ?_) (fun _ => ?_)
            · refine State.inc_kept' Reg.HINT_DROP1_block (hp.bit (by decide)) ?_
              assumption
            · assumption
          try (generalize x9 = y9 at h10 ⊢; try clear x9)
          extract_lets +onlyGivenNames x11
          have h12 : Kept m s0 x11 := by
            unfold x11
            refine State.inc_kept' Reg.HINT_ACC_block (hp.bit (by decide)) ?_
            assumption
          try (generalize x11 = y11 at h12 ⊢; try clear x11)
          extract_lets +onlyGivenNames x13
          have h14 : Kept m s0 x13 := by
            unfold x13
            refine Kept.upd_hint (hp.bit (by decide)) ?_
            assumption
          try (generalize x13 = y13 at h14 ⊢; try clear x13)
          refine Kept.forEach (fun z15 a16 h17 => ?_) ?_
          · refine State.queueNotice_kept (Sub.trans (b := 6743384539648) (by decide) hp) ?_
            assumption
          · assumption

theorem execHintLinkUp_kept {m : Nat} {s0 : State} (hp : Sub 6743384522752 m) {h_ : Fin 8} {s : State} (hk : Kept m s0 s) : OutKept m s0 (execHintLinkUp h_ s) := by
  unfold execHintLinkUp
  refine OutKept.next ?_
  refine Kept.cond (fun _ => ?_) (fun _ => ?_)
  · refine State.hintEvt_kept hp ?_
    refine State.pb_kept' Reg.HINT_STAT_block (hp.bit (by decide)) ?_
    assumption
  · assumption

theorem execHintLinkDown_kept {m : Nat} {s0 : State} (hp : Sub 6743384522752 m) {h_ : Fin 8} {s : State} (hk : Kept m s0 s) : OutKept m s0 (execHintLinkDown h_ s) := by
  unfold execHintLinkDown
  refine OutKept.next ?_
  refine Kept.cond (fun _ => ?_) (fun _ => ?_)
  · refine State.hintEvt_kept hp ?_
    refine State.pb_kept' Reg.HINT_STAT_block (hp.bit (by decide)) ?_
    assumption
  · assumption

end Sys2Proof.Machine
end

