-- ==== Sys2Proof/Laws/KeptStage.lean ====
section
/-!
SUPPORT. What the definitions of Machine/Stage.lean keep: one lemma each.
-/
namespace Sys2Proof.Machine

theorem State.hearMarks_kept {m : Nat} {s0 : State} (hp : Sub 2147483776 m) {s : State} {n : Nat} {a : Nat} {ty : Nat} {v : Nat} {en : Bool} (hk : Kept m s0 s) : Kept m s0 (State.hearMarks s n a ty v en) := by
  unfold State.hearMarks
  refine Kept.cond (fun _ => ?_) (fun _ => ?_)
  · assumption
  · refine Kept.cond (fun _ => ?_) (fun _ => ?_)
    · extract_lets +onlyGivenNames x0
      have h1 : Kept m s0 x0 := by
        unfold x0
        refine Kept.cond (fun _ => ?_) (fun _ => ?_)
        · refine State.clearAddr_kept hp ?_
          assumption
        · assumption
      try (generalize x0 = y0 at h1 ⊢; try clear x0)
      refine State.setPrt_kept (Sub.trans (b := 2147483776) (by decide) hp) ?_
      assumption
    · refine Kept.cond (fun _ => ?_) (fun _ => ?_)
      · assumption
      · refine State.setB_kept' Reg.PL_PHASE_block (hp.bit (by decide)) ?_
        assumption

theorem State.hear_kept {m : Nat} {s0 : State} (hp : Sub 2147485824 m) {s : State} {p : Nat} {ty : Nat} {a : Nat} {v : Nat} {en : Bool} (hk : Kept m s0 s) : Kept m s0 (State.hear s p ty a v en) := by
  unfold State.hear
  refine Kept.cond (fun _ => ?_) (fun _ => ?_)
  · assumption
  · extract_lets +onlyGivenNames x0
    extract_lets +onlyGivenNames x1
    have h2 : Kept m s0 x1 := by
      unfold x1
      refine Kept.cond (fun _ => ?_) (fun _ => ?_)
      · refine State.hearMarks_kept (Sub.trans (b := 2147485824) (by decide) hp) ?_
        assumption
      · assumption
    try (generalize x1 = y1 at h2 ⊢; try clear x1)
    extract_lets +onlyGivenNames x3
    extract_lets +onlyGivenNames x4
    have h5 : Kept m s0 x4 := by
      unfold x4
      refine Kept.cond (fun _ => ?_) (fun _ => ?_)
      · refine State.setPrt_kept (Sub.trans (b := 2147485824) (by decide) hp) ?_
        assumption
      · assumption
    try (generalize x4 = y4 at h5 ⊢; try clear x4)
    split
    · assumption
    · extract_lets +onlyGivenNames x6
      refine Kept.cond (fun _ => ?_) (fun _ => ?_)
      · refine State.setRl_kept (Sub.trans (b := 2147485824) (by decide) hp) ?_
        assumption
      · refine Kept.cond (fun _ => ?_) (fun _ => ?_)
        · refine State.setRl_kept (Sub.trans (b := 2147485824) (by decide) hp) ?_
          assumption
        · assumption

theorem State.leftRun_kept {m : Nat} {s0 : State} (hp : Sub 128 m) {s : State} {p : Nat} (hk : Kept m s0 s) : Kept m s0 (State.leftRun s p) := by
  unfold State.leftRun
  refine State.setPrt_kept hp ?_
  assumption

theorem State.stageTo_kept {m : Nat} {s0 : State} (hp : Sub 384 m) {s : State} {p : Nat} {x : Stage} (hk : Kept m s0 s) : Kept m s0 (State.stageTo s p x) := by
  unfold State.stageTo
  extract_lets +onlyGivenNames x0
  extract_lets +onlyGivenNames x1
  have h2 : Kept m s0 x1 := by
    unfold x1
    refine State.setStg_kept (Sub.trans (b := 384) (by decide) hp) ?_
    assumption
  try (generalize x1 = y1 at h2 ⊢; try clear x1)
  refine Kept.cond (fun _ => ?_) (fun _ => ?_)
  · refine State.leftRun_kept (Sub.trans (b := 384) (by decide) hp) ?_
    assumption
  · assumption

theorem State.stageFrame_kept {m : Nat} {s0 : State} (hp : Sub 2147486080 m) {s : State} {p : Nat} {ty : Nat} {a : Nat} {v : Nat} {en : Bool} (hk : Kept m s0 s) : Kept m s0 (State.stageFrame s p ty a v en) := by
  unfold State.stageFrame
  refine State.tick1_kept (Sub.trans (b := 2147486080) (by decide) hp) ?_
  refine State.hear_kept (Sub.trans (b := 2147486080) (by decide) hp) ?_
  refine State.stageTo_kept (Sub.trans (b := 2147486080) (by decide) hp) ?_
  assumption

theorem execStagePowerOn_kept {m : Nat} {s0 : State} (hp : Sub 384 m) {p : Fin 512} {mk : Maker} {s : State} (hk : Kept m s0 s) : OutKept m s0 (execStagePowerOn p mk s) := by
  unfold execStagePowerOn
  refine OutKept.next ?_
  refine State.stageTo_kept hp ?_
  assumption

theorem execStagePowerLoss_kept {m : Nat} {s0 : State} (hp : Sub 384 m) {p : Fin 512} {s : State} (hk : Kept m s0 s) : OutKept m s0 (execStagePowerLoss p s) := by
  unfold execStagePowerLoss
  refine OutKept.next ?_
  refine State.stageTo_kept hp ?_
  assumption

theorem execStageMarkerRx_kept {m : Nat} {s0 : State} (hp : Sub 256 m) {p : Fin 512} {c : BitVec 8} {s : State} (hk : Kept m s0 s) : OutKept m s0 (execStageMarkerRx p c s) := by
  unfold execStageMarkerRx
  refine OutKept.next ?_
  extract_lets +onlyGivenNames x0
  extract_lets +onlyGivenNames x1
  refine Kept.cond (fun _ => ?_) (fun _ => ?_)
  · refine State.setStg_kept hp ?_
    assumption
  · assumption

theorem execStageMarkerMissing_kept {m : Nat} {s0 : State} (hp : Sub 256 m) {p : Fin 512} {s : State} (hk : Kept m s0 s) : OutKept m s0 (execStageMarkerMissing p s) := by
  unfold execStageMarkerMissing
  refine OutKept.next ?_
  refine Kept.cond (fun _ => ?_) (fun _ => ?_)
  · refine State.setStg_kept hp ?_
    assumption
  · assumption

theorem execStageHoldExpiry_kept {m : Nat} {s0 : State} (hp : Sub 384 m) {p : Fin 512} {s : State} (hk : Kept m s0 s) : OutKept m s0 (execStageHoldExpiry p s) := by
  unfold execStageHoldExpiry
  refine OutKept.next ?_
  extract_lets +onlyGivenNames x0
  refine Kept.cond (fun _ => ?_) (fun _ => ?_)
  · refine State.stageTo_kept hp ?_
    assumption
  · assumption

theorem execStageInternalFault_kept {m : Nat} {s0 : State} (hp : Sub 384 m) {p : Fin 512} {code : BitVec 4} {s : State} (hk : Kept m s0 s) : OutKept m s0 (execStageInternalFault p code s) := by
  unfold execStageInternalFault
  refine OutKept.next ?_
  extract_lets +onlyGivenNames x0
  refine Kept.cond (fun _ => ?_) (fun _ => ?_)
  · refine State.stageTo_kept hp ?_
    assumption
  · assumption

theorem execStageSlotStart_kept {m : Nat} {s0 : State} (hp : Sub 256 m) {p : Fin 512} {aux : Bool} {m_ : StageMeas} {s : State} (hk : Kept m s0 s) : OutKept m s0 (execStageSlotStart p aux m_ s) := by
  unfold execStageSlotStart
  refine OutKept.next ?_
  extract_lets +onlyGivenNames x0
  refine Kept.cond (fun _ => ?_) (fun _ => ?_)
  · assumption
  · refine Kept.cond (fun _ => ?_) (fun _ => ?_)
    · refine State.setStg_kept hp ?_
      assumption
    · refine Kept.cond (fun _ => ?_) (fun _ => ?_)
      · refine State.setStg_kept hp ?_
        assumption
      · assumption

theorem execStageInvalidFrame_kept {m : Nat} {s0 : State} (_ : Sub 0 m) {_p : Fin 512} {s : State} (hk : Kept m s0 s) : OutKept m s0 (execStageInvalidFrame _p s) := by
  unfold execStageInvalidFrame
  refine OutKept.next ?_
  assumption

theorem execCurrent_kept {m : Nat} {s0 : State} (hp : Sub 2147486080 m) {p : Fin 512} {a : Fin 8} {x : BitVec 16} {en : Bool} {s : State} (hk : Kept m s0 s) : OutKept m s0 (execCurrent p a x en s) := by
  unfold execCurrent
  refine OutKept.next ?_
  refine State.stageFrame_kept hp ?_
  assumption

theorem execOntime_kept {m : Nat} {s0 : State} (hp : Sub 2147486080 m) {p : Fin 512} {a : Fin 8} {x : BitVec 16} {en : Bool} {s : State} (hk : Kept m s0 s) : OutKept m s0 (execOntime p a x en s) := by
  unfold execOntime
  refine OutKept.next ?_
  refine State.stageFrame_kept hp ?_
  assumption

theorem execShed_kept {m : Nat} {s0 : State} (hp : Sub 2147486080 m) {p : Fin 512} {a : Fin 8} {x : BitVec 16} {en : Bool} {s : State} (hk : Kept m s0 s) : OutKept m s0 (execShed p a x en s) := by
  unfold execShed
  refine OutKept.next ?_
  refine State.stageFrame_kept hp ?_
  assumption

theorem execHold_kept {m : Nat} {s0 : State} (hp : Sub 2147486080 m) {p : Fin 512} {a : Fin 8} {x : BitVec 16} {en : Bool} {s : State} (hk : Kept m s0 s) : OutKept m s0 (execHold p a x en s) := by
  unfold execHold
  refine OutKept.next ?_
  refine State.stageFrame_kept hp ?_
  assumption

theorem execConfigure_kept {m : Nat} {s0 : State} (hp : Sub 2147486080 m) {p : Fin 512} {a : Fin 8} {x : BitVec 16} {en : Bool} {s : State} (hk : Kept m s0 s) : OutKept m s0 (execConfigure p a x en s) := by
  unfold execConfigure
  refine OutKept.next ?_
  refine State.stageFrame_kept hp ?_
  assumption

theorem execAuxRead_kept {m : Nat} {s0 : State} (hp : Sub 2147486080 m) {p : Fin 512} {a : Fin 8} {x : BitVec 16} {en : Bool} {s : State} (hk : Kept m s0 s) : OutKept m s0 (execAuxRead p a x en s) := by
  unfold execAuxRead
  refine OutKept.next ?_
  refine State.stageFrame_kept hp ?_
  assumption

theorem execWake_kept {m : Nat} {s0 : State} (hp : Sub 2147486080 m) {p : Fin 512} {a : Fin 8} {x : BitVec 16} {en : Bool} {s : State} (hk : Kept m s0 s) : OutKept m s0 (execWake p a x en s) := by
  unfold execWake
  refine OutKept.next ?_
  refine State.stageFrame_kept hp ?_
  assumption

theorem execOvrCurrent_kept {m : Nat} {s0 : State} (hp : Sub 2147486080 m) {p : Fin 512} {a : Fin 8} {x : BitVec 16} {en : Bool} {s : State} (hk : Kept m s0 s) : OutKept m s0 (execOvrCurrent p a x en s) := by
  unfold execOvrCurrent
  refine OutKept.next ?_
  refine State.stageFrame_kept hp ?_
  assumption

theorem execOvrShed_kept {m : Nat} {s0 : State} (hp : Sub 2147486080 m) {p : Fin 512} {a : Fin 8} {x : BitVec 16} {en : Bool} {s : State} (hk : Kept m s0 s) : OutKept m s0 (execOvrShed p a x en s) := by
  unfold execOvrShed
  refine OutKept.next ?_
  refine State.stageFrame_kept hp ?_
  assumption

theorem execOvrShedMask_kept {m : Nat} {s0 : State} (hp : Sub 2147486080 m) {p : Fin 512} {a : Fin 8} {x : BitVec 16} {en : Bool} {s : State} (hk : Kept m s0 s) : OutKept m s0 (execOvrShedMask p a x en s) := by
  unfold execOvrShedMask
  refine OutKept.next ?_
  refine State.stageFrame_kept hp ?_
  assumption

theorem execShedMask_kept {m : Nat} {s0 : State} (hp : Sub 2147486080 m) {p : Fin 512} {a : Fin 8} {x : BitVec 16} {en : Bool} {s : State} (hk : Kept m s0 s) : OutKept m s0 (execShedMask p a x en s) := by
  unfold execShedMask
  refine OutKept.next ?_
  refine State.stageFrame_kept hp ?_
  assumption

end Sys2Proof.Machine
end

