-- ==== Sys2Proof/Laws/KeptCompanion.lean ====
section
/-!
SUPPORT. What the definitions of Machine/Companion.lean keep: one lemma each.
-/
namespace Sys2Proof.Machine

theorem State.leaveDriving_kept {m : Nat} {s0 : State} (hp : Sub 2147555520 m) {s : State} {a : Act} (hk : Kept m s0 s) : Kept m s0 (State.leaveDriving s a) := by
  unfold State.leaveDriving
  extract_lets +onlyGivenNames x0
  have h1 : Kept m s0 x0 := by
    unfold x0
    refine Kept.forEach (fun z2 a3 h4 => ?_) ?_
    · refine State.plFollow_kept (Sub.trans (b := 2147555520) (by decide) hp) ?_
      assumption
    · refine State.dropPlans_kept (Sub.trans (b := 2147555520) (by decide) hp) ?_
      assumption
  try (generalize x0 = y0 at h1 ⊢; try clear x0)
  refine Kept.upd ?_ rfl (Nat.le_refl _) (fun _ _ => rfl) (.inr rfl) (.inr rfl) (.inr rfl) (.inr rfl) (.inr rfl) (.inr rfl) (.inl (hp.bit (by decide))) (.inr rfl) (.inr rfl) (.inr rfl) (.inr rfl) (.inr rfl) (.inr rfl) (.inr rfl) (.inr rfl) (.inr rfl) (.inr rfl) (.inl (hp.bit (by decide))) (.inr rfl) (.inr rfl) (.inr rfl) (.inr rfl) (.inr rfl) (.inr rfl) (.inr rfl) (.inr rfl) (.inr rfl) (.inr rfl) (.inr rfl) (.inr rfl) (.inr rfl)
  assumption

theorem State.takeTick_kept {m : Nat} {s0 : State} (hp : Sub 68719476736 m) {s : State} (hk : Kept m s0 s) : Kept m s0 (State.takeTick s) := by
  unfold State.takeTick
  refine State.wr_kept' Reg.CMP_TAKE_TICK_HI_block (hp.bit (by decide)) ?_
  refine State.wr_kept' Reg.CMP_TAKE_TICK_LO_block (hp.bit (by decide)) ?_
  assumption

theorem State.takeGpio_kept {m : Nat} {s0 : State} (hp : Sub 4096 m) {s : State} {k : Nat} (hk : Kept m s0 s) : Kept m s0 (State.takeGpio s k) := by
  unfold State.takeGpio
  refine Kept.cond (fun _ => ?_) (fun _ => ?_)
  · assumption
  · extract_lets +onlyGivenNames x0
    extract_lets +onlyGivenNames x1
    refine State.setStep_kept hp ?_
    assumption

theorem State.offTickIn_kept {m : Nat} {s0 : State} (hp : Sub 1073741856 m) {s : State} (hk : Kept m s0 s) : Kept m s0 (State.offTickIn s) := by
  unfold State.offTickIn
  extract_lets +onlyGivenNames x0
  have h1 : Kept m s0 x0 := by
    unfold x0
    refine State.pb_kept' Reg.TICK_STATUS_block (hp.bit (by decide)) ?_
    refine State.pb_kept' Reg.TICK_STATUS_block (hp.bit (by decide)) ?_
    assumption
  try (generalize x0 = y0 at h1 ⊢; try clear x0)
  extract_lets +onlyGivenNames x2
  have h3 : Kept m s0 x2 := by
    unfold x2
    refine State.wr_kept' Reg.TICK_PHERR_block (hp.bit (by decide)) ?_
    assumption
  try (generalize x2 = y2 at h3 ⊢; try clear x2)
  refine Kept.upd_tick (hp.bit (by decide)) ?_
  assumption

theorem State.enterDriving_kept {m : Nat} {s0 : State} (hp : Sub 69793290464 m) {s : State} (hk : Kept m s0 s) : Kept m s0 (State.enterDriving s) := by
  unfold State.enterDriving
  extract_lets +onlyGivenNames x0
  have h1 : Kept m s0 x0 := by
    unfold x0
    refine Kept.cond (fun _ => ?_) (fun _ => ?_)
    · refine State.pb_kept' Reg.TICK_STATUS_block (hp.bit (by decide)) ?_
      refine State.offTickIn_kept (Sub.trans (b := 69793290464) (by decide) hp) ?_
      assumption
    · assumption
  try (generalize x0 = y0 at h1 ⊢; try clear x0)
  extract_lets +onlyGivenNames x2
  extract_lets +onlyGivenNames x3
  extract_lets +onlyGivenNames x4
  have h5 : Kept m s0 x4 := by
    unfold x4
    refine Kept.upd ?_ rfl (Nat.le_refl _) (fun _ _ => rfl) (.inr rfl) (.inr rfl) (.inr rfl) (.inr rfl) (.inr rfl) (.inr rfl) (.inl (hp.bit (by decide))) (.inr rfl) (.inr rfl) (.inr rfl) (.inr rfl) (.inr rfl) (.inr rfl) (.inr rfl) (.inr rfl) (.inr rfl) (.inr rfl) (.inl (hp.bit (by decide))) (.inr rfl) (.inr rfl) (.inr rfl) (.inr rfl) (.inr rfl) (.inr rfl) (.inr rfl) (.inr rfl) (.inr rfl) (.inr rfl) (.inr rfl) (.inr rfl) (.inr rfl)
    assumption
  try (generalize x4 = y4 at h5 ⊢; try clear x4)
  extract_lets +onlyGivenNames x6
  have h7 : Kept m s0 x6 := by
    unfold x6
    refine State.dropPlans_kept (Sub.trans (b := 69793290464) (by decide) hp) ?_
    assumption
  try (generalize x6 = y6 at h7 ⊢; try clear x6)
  extract_lets +onlyGivenNames x8
  have h9 : Kept m s0 x8 := by
    unfold x8
    refine Kept.upd_port (hp.bit (by decide)) ?_
    assumption
  try (generalize x8 = y8 at h9 ⊢; try clear x8)
  refine State.takeTick_kept (Sub.trans (b := 69793290464) (by decide) hp) ?_
  refine Kept.forEach (fun z10 a11 h12 => ?_) ?_
  · refine State.takeGpio_kept (Sub.trans (b := 69793290464) (by decide) hp) ?_
    assumption
  · assumption

theorem State.fallBack_kept {m : Nat} {s0 : State} (hp : Sub 2147555520 m) {s : State} (hk : Kept m s0 s) : Kept m s0 (State.fallBack s) := by
  unfold State.fallBack
  extract_lets +onlyGivenNames x0
  have h1 : Kept m s0 x0 := by
    unfold x0
    refine State.leaveDriving_kept hp ?_
    assumption
  try (generalize x0 = y0 at h1 ⊢; try clear x0)
  refine Kept.upd_cmp (hp.bit (by decide)) ?_
  assumption

theorem State.mirrorRail_kept {m : Nat} {s0 : State} (hp : Sub 2405199185920 m) {s : State} {r : Nat} (hk : Kept m s0 s) : Kept m s0 (State.mirrorRail s r) := by
  unfold State.mirrorRail
  extract_lets +onlyGivenNames x0
  refine Kept.cond (fun _ => ?_) (fun _ => ?_)
  · refine State.setRl_kept (Sub.trans (b := 2405199185920) (by decide) hp) ?_
    assumption
  · extract_lets +onlyGivenNames x1
    extract_lets +onlyGivenNames x2
    extract_lets +onlyGivenNames x3
    extract_lets +onlyGivenNames x4
    extract_lets +onlyGivenNames x5
    have h6 : Kept m s0 x5 := by
      unfold x5
      refine State.setRl_kept (Sub.trans (b := 2405199185920) (by decide) hp) ?_
      assumption
    try (generalize x5 = y5 at h6 ⊢; try clear x5)
    refine Kept.cond (fun _ => ?_) (fun _ => ?_)
    · extract_lets +onlyGivenNames x7
      have h8 : Kept m s0 x7 := by
        unfold x7
        refine Kept.cond (fun _ => ?_) (fun _ => ?_)
        · assumption
        · refine State.wr_kept' Reg.CMP_MISMATCH_block (hp.bit (by decide)) ?_
          assumption
      try (generalize x7 = y7 at h8 ⊢; try clear x7)
      extract_lets +onlyGivenNames x9
      have h10 : Kept m s0 x9 := by
        unfold x9
        refine State.cmpEvt_kept (Sub.trans (b := 2405199185920) (by decide) hp) ?_
        assumption
      try (generalize x9 = y9 at h10 ⊢; try clear x9)
      refine Kept.cond (fun _ => ?_) (fun _ => ?_)
      · refine Kept.upd_cmp (hp.bit (by decide)) ?_
        assumption
      · assumption
    · assumption

theorem State.hbAccount_kept {m : Nat} {s0 : State} (hp : Sub 65600 m) {s : State} {ended : Nat} (hk : Kept m s0 s) : Kept m s0 (State.hbAccount s ended) := by
  unfold State.hbAccount
  extract_lets +onlyGivenNames x0
  extract_lets +onlyGivenNames x1
  extract_lets +onlyGivenNames x2
  extract_lets +onlyGivenNames x3
  extract_lets +onlyGivenNames x4
  extract_lets +onlyGivenNames x5
  refine Kept.upd ?_ rfl (Nat.le_refl _) (fun _ _ => rfl) (.inr rfl) (.inr rfl) (.inr rfl) (.inr rfl) (.inr rfl) (.inr rfl) (.inl (hp.bit (by decide))) (.inr rfl) (.inr rfl) (.inr rfl) (.inr rfl) (.inr rfl) (.inr rfl) (.inr rfl) (.inr rfl) (.inr rfl) (.inr rfl) (.inl (hp.bit (by decide))) (.inr rfl) (.inr rfl) (.inr rfl) (.inr rfl) (.inr rfl) (.inr rfl) (.inr rfl) (.inr rfl) (.inr rfl) (.inr rfl) (.inr rfl) (.inr rfl) (.inr rfl)
  assumption

theorem State.actEdge_kept {m : Nat} {s0 : State} (hp : Sub 2408420415712 m) {s : State} {m_ : Nat} (hk : Kept m s0 s) : Kept m s0 (State.actEdge s m_) := by
  unfold State.actEdge
  extract_lets +onlyGivenNames x0
  refine Kept.cond (fun _ => ?_) (fun _ => ?_)
  · assumption
  · refine Kept.cond (fun _ => ?_) (fun _ => ?_)
    · refine State.cmpEvt_kept (Sub.trans (b := 2408420415712) (by decide) hp) ?_
      refine Kept.upd_cmp (hp.bit (by decide)) ?_
      assumption
    · refine Kept.cond (fun _ => ?_) (fun _ => ?_)
      · refine State.fallBack_kept (Sub.trans (b := 2408420415712) (by decide) hp) ?_
        assumption
      · refine Kept.cond (fun _ => ?_) (fun _ => ?_)
        · refine State.cmpEvt_kept (Sub.trans (b := 2408420415712) (by decide) hp) ?_
          refine State.takeTick_kept (Sub.trans (b := 2408420415712) (by decide) hp) ?_
          refine State.leaveDriving_kept (Sub.trans (b := 2408420415712) (by decide) hp) ?_
          assumption
        · split
          · refine Kept.cond (fun _ => ?_) (fun _ => ?_)
            · refine Kept.cond (fun _ => ?_) (fun _ => ?_)
              · refine State.cmpEvt_kept (Sub.trans (b := 2408420415712) (by decide) hp) ?_
                refine State.takeTick_kept (Sub.trans (b := 2408420415712) (by decide) hp) ?_
                refine State.leaveDriving_kept (Sub.trans (b := 2408420415712) (by decide) hp) ?_
                assumption
              · refine State.cmpEvt_kept (Sub.trans (b := 2408420415712) (by decide) hp) ?_
                refine State.enterDriving_kept (Sub.trans (b := 2408420415712) (by decide) hp) ?_
                assumption
            · refine Kept.cond (fun _ => ?_) (fun _ => ?_)
              · refine Kept.upd_pins (hp.bit (by decide)) ?_
                assumption
              · assumption
          · refine Kept.cond (fun _ => ?_) (fun _ => ?_)
            · extract_lets +onlyGivenNames x1
              refine Kept.cond (fun _ => ?_) (fun _ => ?_)
              · refine State.cmpEvt_kept (Sub.trans (b := 2408420415712) (by decide) hp) ?_
                refine State.pb_kept' Reg.CMP_STATUS_block (hp.bit (by decide)) ?_
                assumption
              · refine State.cmpEvt_kept (Sub.trans (b := 2408420415712) (by decide) hp) ?_
                refine State.enterDriving_kept (Sub.trans (b := 2408420415712) (by decide) hp) ?_
                assumption
            · assumption

theorem State.recEdge_kept {m : Nat} {s0 : State} (hp : Sub 2562 m) {s : State} {r : Nat} (hk : Kept m s0 s) : Kept m s0 (State.recEdge s r) := by
  unfold State.recEdge
  extract_lets +onlyGivenNames x0
  extract_lets +onlyGivenNames x1
  have h2 : Kept m s0 x1 := by
    unfold x1
    refine State.setRl_kept (Sub.trans (b := 2562) (by decide) hp) ?_
    assumption
  try (generalize x1 = y1 at h2 ⊢; try clear x1)
  refine Kept.cond (fun _ => ?_) (fun _ => ?_)
  · assumption
  · split
    · refine Kept.forEach (fun z3 a4 h5 => ?_) ?_
      · refine State.setLe_kept (Sub.trans (b := 2562) (by decide) hp) ?_
        refine State.mput_kept (Sub.trans (b := 2562) (by decide) hp) ?_
        assumption
      · assumption
    · refine Kept.cond (fun _ => ?_) (fun _ => ?_)
      · refine Kept.forEach (fun z6 a7 h8 => ?_) ?_
        · refine State.setLe_kept (Sub.trans (b := 2562) (by decide) hp) ?_
          assumption
        · assumption
      · assumption

theorem State.joinEdge_kept {m : Nat} {s0 : State} (hp : Sub 65568 m) {s : State} (hk : Kept m s0 s) : Kept m s0 (State.joinEdge s) := by
  unfold State.joinEdge
  split
  · refine Kept.cond (fun _ => ?_) (fun _ => ?_)
    · refine Kept.upd ?_ rfl (Nat.le_refl _) (fun _ _ => rfl) (.inr rfl) (.inr rfl) (.inr rfl) (.inr rfl) (.inr rfl) (.inl (hp.bit (by decide))) (.inr rfl) (.inr rfl) (.inr rfl) (.inr rfl) (.inr rfl) (.inr rfl) (.inr rfl) (.inr rfl) (.inr rfl) (.inr rfl) (.inr rfl) (.inl (hp.bit (by decide))) (.inr rfl) (.inr rfl) (.inr rfl) (.inr rfl) (.inr rfl) (.inr rfl) (.inr rfl) (.inr rfl) (.inr rfl) (.inr rfl) (.inr rfl) (.inr rfl) (.inr rfl)
      assumption
    · refine Kept.upd_cmp (hp.bit (by decide)) ?_
      assumption
  · assumption

theorem State.cmpEdge_kept {m : Nat} {s0 : State} (hp : Sub 2408420416226 m) {s : State} {m_ : Nat} (hk : Kept m s0 s) : Kept m s0 (State.cmpEdge s m_) := by
  unfold State.cmpEdge
  refine Kept.cond (fun _ => ?_) (fun _ => ?_)
  · assumption
  · extract_lets +onlyGivenNames x0
    have h1 : Kept m s0 x0 := by
      unfold x0
      refine Kept.cond (fun _ => ?_) (fun _ => ?_)
      · refine Kept.forEach (fun z2 a3 h4 => ?_) ?_
        · refine State.mirrorRail_kept (Sub.trans (b := 2408420416226) (by decide) hp) ?_
          assumption
        · assumption
      · assumption
    try (generalize x0 = y0 at h1 ⊢; try clear x0)
    extract_lets +onlyGivenNames x5
    have h6 : Kept m s0 x5 := by
      unfold x5
      refine State.hbAccount_kept (Sub.trans (b := 2408420416226) (by decide) hp) ?_
      assumption
    try (generalize x5 = y5 at h6 ⊢; try clear x5)
    extract_lets +onlyGivenNames x7
    have h8 : Kept m s0 x7 := by
      unfold x7
      refine State.actEdge_kept (Sub.trans (b := 2408420416226) (by decide) hp) ?_
      assumption
    try (generalize x7 = y7 at h8 ⊢; try clear x7)
    extract_lets +onlyGivenNames x9
    extract_lets +onlyGivenNames x10
    have h11 : Kept m s0 x10 := by
      unfold x10
      refine Kept.upd_cmp (hp.bit (by decide)) ?_
      assumption
    try (generalize x10 = y10 at h11 ⊢; try clear x10)
    extract_lets +onlyGivenNames x12
    have h13 : Kept m s0 x12 := by
      unfold x12
      refine Kept.forEach (fun z14 a15 h16 => ?_) ?_
      · refine State.recEdge_kept (Sub.trans (b := 2408420416226) (by decide) hp) ?_
        assumption
      · assumption
    try (generalize x12 = y12 at h13 ⊢; try clear x12)
    refine State.joinEdge_kept (Sub.trans (b := 2408420416226) (by decide) hp) ?_
    assumption

theorem State.hbSend_kept {m : Nat} {s0 : State} (hp : Sub 65536 m) {s : State} (hk : Kept m s0 s) : Kept m s0 (State.hbSend s) := by
  unfold State.hbSend
  refine Kept.cond (fun _ => ?_) (fun _ => ?_)
  · refine Kept.upd_cmp (hp.bit (by decide)) ?_
    assumption
  · refine Kept.upd_cmp (hp.bit (by decide)) ?_
    assumption

theorem State.giveGrant_kept {m : Nat} {s0 : State} (hp : Sub 65536 m) {s : State} {b : Bytes} (hk : Kept m s0 s) : Kept m s0 (State.giveGrant s b) := by
  unfold State.giveGrant
  refine Kept.cond (fun _ => ?_) (fun _ => ?_)
  · refine State.tick1_kept (Sub.trans (b := 65536) (by decide) hp) ?_
    refine Kept.upd_cmp (hp.bit (by decide)) ?_
    assumption
  · assumption

theorem State.takeGrant_kept {m : Nat} {s0 : State} (hp : Sub 65536 m) {s : State} {b : Bytes} (hk : Kept m s0 s) : Kept m s0 (State.takeGrant s b) := by
  unfold State.takeGrant
  refine Kept.cond (fun _ => ?_) (fun _ => ?_)
  · extract_lets +onlyGivenNames x0
    extract_lets +onlyGivenNames x1
    refine Kept.upd_cmp (hp.bit (by decide)) ?_
    assumption
  · assumption

theorem State.joinAgain_kept {m : Nat} {s0 : State} (hp : Sub 65536 m) {s : State} {b : Bytes} (hk : Kept m s0 s) : Kept m s0 (State.joinAgain s b) := by
  unfold State.joinAgain
  refine Kept.cond (fun _ => ?_) (fun _ => ?_)
  · assumption
  · refine Kept.cond (fun _ => ?_) (fun _ => ?_)
    · refine State.giveGrant_kept hp ?_
      assumption
    · refine Kept.cond (fun _ => ?_) (fun _ => ?_)
      · refine State.takeGrant_kept hp ?_
        assumption
      · assumption

theorem State.ownFell_kept {m : Nat} {s0 : State} (hp : Sub 64 m) {s : State} {b : Bytes} (hk : Kept m s0 s) : Kept m s0 (State.ownFell s b) := by
  unfold State.ownFell
  extract_lets +onlyGivenNames x0
  refine Kept.cond (fun _ => ?_) (fun _ => ?_)
  · refine State.tick1_kept (Sub.trans (b := 64) (by decide) hp) ?_
    refine Kept.upd_pins (hp.bit (by decide)) ?_
    assumption
  · assumption

theorem execCompanionHeartbeat_kept {m : Nat} {s0 : State} (hp : Sub 2405199183936 m) {b : Bytes} {s : State} (hk : Kept m s0 s) : OutKept m s0 (execCompanionHeartbeat b s) := by
  unfold execCompanionHeartbeat
  refine OutKept.next ?_
  refine Kept.cond (fun _ => ?_) (fun _ => ?_)
  · assumption
  · refine Kept.cond (fun _ => ?_) (fun _ => ?_)
    · refine State.joinAgain_kept (Sub.trans (b := 2405199183936) (by decide) hp) ?_
      assumption
    · extract_lets +onlyGivenNames x0
      extract_lets +onlyGivenNames x1
      extract_lets +onlyGivenNames x2
      have h3 : Kept m s0 x2 := by
        unfold x2
        refine State.ownFell_kept (Sub.trans (b := 2405199183936) (by decide) hp) ?_
        assumption
      try (generalize x2 = y2 at h3 ⊢; try clear x2)
      extract_lets +onlyGivenNames x4
      extract_lets +onlyGivenNames x5
      have h6 : Kept m s0 x5 := by
        unfold x5
        refine Kept.upd_cmp (hp.bit (by decide)) ?_
        assumption
      try (generalize x5 = y5 at h6 ⊢; try clear x5)
      extract_lets +onlyGivenNames x7
      extract_lets +onlyGivenNames x8
      have h9 : Kept m s0 x8 := by
        unfold x8
        refine Kept.upd_pins (hp.bit (by decide)) ?_
        assumption
      try (generalize x8 = y8 at h9 ⊢; try clear x8)
      extract_lets +onlyGivenNames x10
      have h11 : Kept m s0 x10 := by
        unfold x10
        refine State.pb_kept' Reg.CMP_STATUS_block (hp.bit (by decide)) ?_
        assumption
      try (generalize x10 = y10 at h11 ⊢; try clear x10)
      extract_lets +onlyGivenNames x12
      extract_lets +onlyGivenNames x13
      have h14 : Kept m s0 x13 := by
        unfold x13
        refine Kept.cond (fun _ => ?_) (fun _ => ?_)
        · refine State.cmpEvt_kept (Sub.trans (b := 2405199183936) (by decide) hp) ?_
          refine Kept.upd_cmp (hp.bit (by decide)) ?_
          assumption
        · assumption
      try (generalize x13 = y13 at h14 ⊢; try clear x13)
      extract_lets +onlyGivenNames x15
      extract_lets +onlyGivenNames x16
      have h17 : Kept m s0 x16 := by
        unfold x16
        refine Kept.cond (fun _ => ?_) (fun _ => ?_)
        · refine State.cmpEvt_kept (Sub.trans (b := 2405199183936) (by decide) hp) ?_
          assumption
        · assumption
      try (generalize x16 = y16 at h17 ⊢; try clear x16)
      extract_lets +onlyGivenNames x18
      extract_lets +onlyGivenNames x19
      have h20 : Kept m s0 x19 := by
        unfold x19
        refine Kept.cond (fun _ => ?_) (fun _ => ?_)
        · refine State.cmpEvt_kept (Sub.trans (b := 2405199183936) (by decide) hp) ?_
          assumption
        · assumption
      try (generalize x19 = y19 at h20 ⊢; try clear x19)
      extract_lets +onlyGivenNames x21
      have h22 : Kept m s0 x21 := by
        unfold x21
        refine State.cmpEvt_kept (Sub.trans (b := 2405199183936) (by decide) hp) ?_
        refine State.pb_kept' Reg.CMP_STATUS_block (hp.bit (by decide)) ?_
        assumption
      try (generalize x21 = y21 at h22 ⊢; try clear x21)
      extract_lets +onlyGivenNames x23
      extract_lets +onlyGivenNames x24
      have h25 : Kept m s0 x24 := by
        unfold x24
        refine Kept.cond (fun _ => ?_) (fun _ => ?_)
        · refine Kept.cond (fun _ => ?_) (fun _ => ?_)
          · refine Kept.upd_cmp (hp.bit (by decide)) ?_
            assumption
          · assumption
        · assumption
      try (generalize x24 = y24 at h25 ⊢; try clear x24)
      extract_lets +onlyGivenNames x26
      have h27 : Kept m s0 x26 := by
        unfold x26
        refine Kept.cond (fun _ => ?_) (fun _ => ?_)
        · refine State.giveGrant_kept (Sub.trans (b := 2405199183936) (by decide) hp) ?_
          assumption
        · assumption
      try (generalize x26 = y26 at h27 ⊢; try clear x26)
      extract_lets +onlyGivenNames x28
      have h29 : Kept m s0 x28 := by
        unfold x28
        refine Kept.cond (fun _ => ?_) (fun _ => ?_)
        · refine State.takeGrant_kept (Sub.trans (b := 2405199183936) (by decide) hp) ?_
          assumption
        · assumption
      try (generalize x28 = y28 at h29 ⊢; try clear x28)
      extract_lets +onlyGivenNames x30
      refine Kept.cond (fun _ => ?_) (fun _ => ?_)
      · refine Kept.upd_cmp (hp.bit (by decide)) ?_
        assumption
      · assumption

theorem execHbLost_kept {m : Nat} {s0 : State} (hp : Sub 2405199183872 m) {s : State} (hk : Kept m s0 s) : OutKept m s0 (execHbLost s) := by
  unfold execHbLost
  refine OutKept.next ?_
  refine Kept.cond (fun _ => ?_) (fun _ => ?_)
  · refine State.cmpEvt_kept (Sub.trans (b := 2405199183872) (by decide) hp) ?_
    refine State.inc_kept' Reg.CMP_HB_MISS_block (hp.bit (by decide)) ?_
    refine Kept.upd_cmp (hp.bit (by decide)) ?_
    assumption
  · assumption

theorem State.copyRecord_kept {m : Nat} {s0 : State} (hp : Sub 2048 m) {s : State} {r : Nat} {b : Bytes} (hk : Kept m s0 s) : Kept m s0 (State.copyRecord s r b) := by
  unfold State.copyRecord
  extract_lets +onlyGivenNames x0
  extract_lets +onlyGivenNames x1
  refine State.setRl_kept hp ?_
  assumption

theorem execHandoverRecordRx_kept {m : Nat} {s0 : State} (hp : Sub 68719478784 m) {b : Bytes} {s : State} (hk : Kept m s0 s) : OutKept m s0 (execHandoverRecordRx b s) := by
  unfold execHandoverRecordRx
  refine OutKept.next ?_
  extract_lets +onlyGivenNames x0
  extract_lets +onlyGivenNames x1
  extract_lets +onlyGivenNames x2
  extract_lets +onlyGivenNames x3
  refine Kept.cond (fun _ => ?_) (fun _ => ?_)
  · assumption
  · refine Kept.cond (fun _ => ?_) (fun _ => ?_)
    · refine State.inc_kept' Reg.CMP_REC_ERR_block (hp.bit (by decide)) ?_
      assumption
    · refine Kept.cond (fun _ => ?_) (fun _ => ?_)
      · assumption
      · extract_lets +onlyGivenNames x4
        extract_lets +onlyGivenNames x5
        have h6 : Kept m s0 x5 := by
          unfold x5
          refine State.setRl_kept (Sub.trans (b := 68719478784) (by decide) hp) ?_
          assumption
        try (generalize x5 = y5 at h6 ⊢; try clear x5)
        refine Kept.cond (fun _ => ?_) (fun _ => ?_)
        · refine State.copyRecord_kept (Sub.trans (b := 68719478784) (by decide) hp) ?_
          assumption
        · assumption

theorem execCompanionLinkDown_kept {m : Nat} {s0 : State} (hp : Sub 2405199183872 m) {s : State} (hk : Kept m s0 s) : OutKept m s0 (execCompanionLinkDown s) := by
  unfold execCompanionLinkDown
  refine OutKept.next ?_
  refine Kept.cond (fun _ => ?_) (fun _ => ?_)
  · assumption
  · extract_lets +onlyGivenNames x0
    extract_lets +onlyGivenNames x1
    extract_lets +onlyGivenNames x2
    have h3 : Kept m s0 x2 := by
      unfold x2
      refine Kept.upd_cmp (hp.bit (by decide)) ?_
      assumption
    try (generalize x2 = y2 at h3 ⊢; try clear x2)
    refine Kept.cond (fun _ => ?_) (fun _ => ?_)
    · assumption
    · extract_lets +onlyGivenNames x4
      extract_lets +onlyGivenNames x5
      have h6 : Kept m s0 x5 := by
        unfold x5
        refine Kept.upd_cmp (hp.bit (by decide)) ?_
        assumption
      try (generalize x5 = y5 at h6 ⊢; try clear x5)
      refine State.cmpEvt_kept (Sub.trans (b := 2405199183872) (by decide) hp) ?_
      refine State.inc_kept' Reg.CMP_HB_MISS_block (hp.bit (by decide)) ?_
      assumption

theorem execCompanionLinkUp_kept {m : Nat} {s0 : State} (hp : Sub 65536 m) {s : State} (hk : Kept m s0 s) : OutKept m s0 (execCompanionLinkUp s) := by
  unfold execCompanionLinkUp
  refine OutKept.next ?_
  refine Kept.cond (fun _ => ?_) (fun _ => ?_)
  · refine Kept.upd_cmp (hp.bit (by decide)) ?_
    assumption
  · assumption

theorem execJoined_kept {m : Nat} {s0 : State} (hp : Sub 2405199190016 m) {s : State} (hk : Kept m s0 s) : OutKept m s0 (execJoined s) := by
  unfold execJoined
  refine OutKept.next ?_
  extract_lets +onlyGivenNames x0
  extract_lets +onlyGivenNames x1
  refine Kept.cond (fun _ => ?_) (fun _ => ?_)
  · refine State.cmpEvt_kept (Sub.trans (b := 2405199190016) (by decide) hp) ?_
    extract_lets +onlyGivenNames x2
    have h3 : Kept m s0 x2 := by
      unfold x2
      refine State.dropPlans_kept (Sub.trans (b := 2405199190016) (by decide) hp) ?_
      assumption
    try (generalize x2 = y2 at h3 ⊢; try clear x2)
    refine Kept.upd_cmp (hp.bit (by decide)) ?_
    assumption
  · assumption

theorem execOwnWatchdog_kept {m : Nat} {s0 : State} (hp : Sub 64 m) {s : State} (hk : Kept m s0 s) : OutKept m s0 (execOwnWatchdog s) := by
  unfold execOwnWatchdog
  refine OutKept.next ?_
  refine Kept.upd_pins (hp.bit (by decide)) ?_
  assumption

theorem execPairOwnHigh_kept {m : Nat} {s0 : State} (hp : Sub 64 m) {s : State} (hk : Kept m s0 s) : OutKept m s0 (execPairOwnHigh s) := by
  unfold execPairOwnHigh
  refine OutKept.next ?_
  refine Kept.cond (fun _ => ?_) (fun _ => ?_)
  · assumption
  · refine Kept.upd_pins (hp.bit (by decide)) ?_
    assumption

theorem execPairFenceLow_kept {m : Nat} {s0 : State} (hp : Sub 2407346673856 m) {s : State} (hk : Kept m s0 s) : OutKept m s0 (execPairFenceLow s) := by
  unfold execPairFenceLow
  refine OutKept.next ?_
  refine Kept.cond (fun _ => ?_) (fun _ => ?_)
  · assumption
  · extract_lets +onlyGivenNames x0
    have h1 : Kept m s0 x0 := by
      unfold x0
      refine Kept.forEach (fun z2 a3 h4 => ?_) ?_
      · refine State.plFollow_kept (Sub.trans (b := 2407346673856) (by decide) hp) ?_
        assumption
      · refine State.dropPlans_kept (Sub.trans (b := 2407346673856) (by decide) hp) ?_
        assumption
    try (generalize x0 = y0 at h1 ⊢; try clear x0)
    extract_lets +onlyGivenNames x5
    extract_lets +onlyGivenNames x6
    extract_lets +onlyGivenNames x7
    have h8 : Kept m s0 x7 := by
      unfold x7
      refine Kept.upd ?_ rfl (Nat.le_refl _) (fun _ _ => rfl) (.inr rfl) (.inr rfl) (.inr rfl) (.inr rfl) (.inr rfl) (.inr rfl) (.inl (hp.bit (by decide))) (.inr rfl) (.inr rfl) (.inr rfl) (.inr rfl) (.inr rfl) (.inr rfl) (.inr rfl) (.inr rfl) (.inr rfl) (.inr rfl) (.inl (hp.bit (by decide))) (.inr rfl) (.inr rfl) (.inr rfl) (.inr rfl) (.inr rfl) (.inr rfl) (.inr rfl) (.inr rfl) (.inr rfl) (.inr rfl) (.inr rfl) (.inr rfl) (.inr rfl)
      assumption
    try (generalize x7 = y7 at h8 ⊢; try clear x7)
    refine State.cmpEvt_kept (Sub.trans (b := 2407346673856) (by decide) hp) ?_
    assumption

theorem execFenceAssert_kept {m : Nat} {s0 : State} (hp : Sub 2405199183936 m) {s : State} (hk : Kept m s0 s) : OutKept m s0 (execFenceAssert s) := by
  unfold execFenceAssert
  refine OutKept.next ?_
  refine Kept.cond (fun _ => ?_) (fun _ => ?_)
  · assumption
  · extract_lets +onlyGivenNames x0
    extract_lets +onlyGivenNames x1
    have h2 : Kept m s0 x1 := by
      unfold x1
      refine Kept.upd_cmp (hp.bit (by decide)) ?_
      assumption
    try (generalize x1 = y1 at h2 ⊢; try clear x1)
    refine Kept.cond (fun _ => ?_) (fun _ => ?_)
    · assumption
    · refine State.cmpEvt_kept (Sub.trans (b := 2405199183936) (by decide) hp) ?_
      refine Kept.upd_pins (hp.bit (by decide)) ?_
      assumption

theorem State.cmpCtl_kept {m : Nat} {s0 : State} (hp : Sub 68719542336 m) {s : State} {v : W32} (hk : Kept m s0 s) : Kept m s0 (State.cmpCtl s v) := by
  unfold State.cmpCtl
  extract_lets +onlyGivenNames x0
  extract_lets +onlyGivenNames x1
  extract_lets +onlyGivenNames x2
  extract_lets +onlyGivenNames x3
  extract_lets +onlyGivenNames x4
  extract_lets +onlyGivenNames x5
  extract_lets +onlyGivenNames x6
  extract_lets +onlyGivenNames x7
  have h8 : Kept m s0 x7 := by
    unfold x7
    refine State.tick1_kept (Sub.trans (b := 68719542336) (by decide) hp) ?_
    refine State.pb_kept' Reg.CMP_STATUS_block (hp.bit (by decide)) ?_
    assumption
  try (generalize x7 = y7 at h8 ⊢; try clear x7)
  extract_lets +onlyGivenNames x9
  extract_lets +onlyGivenNames x10
  have h11 : Kept m s0 x10 := by
    unfold x10
    refine Kept.cond (fun _ => ?_) (fun _ => ?_)
    · refine Kept.upd_cmp (hp.bit (by decide)) ?_
      assumption
    · assumption
  try (generalize x10 = y10 at h11 ⊢; try clear x10)
  extract_lets +onlyGivenNames x12
  extract_lets +onlyGivenNames x13
  have h14 : Kept m s0 x13 := by
    unfold x13
    refine Kept.cond (fun _ => ?_) (fun _ => ?_)
    · refine Kept.upd_cmp (hp.bit (by decide)) ?_
      assumption
    · assumption
  try (generalize x13 = y13 at h14 ⊢; try clear x13)
  extract_lets +onlyGivenNames x15
  extract_lets +onlyGivenNames x16
  have h17 : Kept m s0 x16 := by
    unfold x16
    refine Kept.cond (fun _ => ?_) (fun _ => ?_)
    · refine Kept.upd_pins (hp.bit (by decide)) ?_
      assumption
    · assumption
  try (generalize x16 = y16 at h17 ⊢; try clear x16)
  extract_lets +onlyGivenNames x18
  extract_lets +onlyGivenNames x19
  extract_lets +onlyGivenNames x20
  have h21 : Kept m s0 x20 := by
    unfold x20
    refine Kept.cond (fun _ => ?_) (fun _ => ?_)
    · refine Kept.upd ?_ rfl (Nat.le_refl _) (fun _ _ => rfl) (.inr rfl) (.inr rfl) (.inr rfl) (.inr rfl) (.inr rfl) (.inr rfl) (.inl (hp.bit (by decide))) (.inr rfl) (.inr rfl) (.inr rfl) (.inr rfl) (.inr rfl) (.inr rfl) (.inr rfl) (.inr rfl) (.inr rfl) (.inr rfl) (.inl (hp.bit (by decide))) (.inr rfl) (.inr rfl) (.inr rfl) (.inr rfl) (.inr rfl) (.inr rfl) (.inr rfl) (.inr rfl) (.inr rfl) (.inr rfl) (.inr rfl) (.inr rfl) (.inr rfl)
      assumption
    · assumption
  try (generalize x20 = y20 at h21 ⊢; try clear x20)
  extract_lets +onlyGivenNames x22
  extract_lets +onlyGivenNames x23
  have h24 : Kept m s0 x23 := by
    unfold x23
    refine Kept.cond (fun _ => ?_) (fun _ => ?_)
    · refine Kept.upd_cmp (hp.bit (by decide)) ?_
      assumption
    · assumption
  try (generalize x23 = y23 at h24 ⊢; try clear x23)
  refine Kept.cond (fun _ => ?_) (fun _ => ?_)
  · refine Kept.upd_cmp (hp.bit (by decide)) ?_
    assumption
  · assumption

theorem State.migCtl_kept {m : Nat} {s0 : State} (hp : Sub 68719542272 m) {s : State} {v : W32} (hk : Kept m s0 s) : Kept m s0 (State.migCtl s v) := by
  unfold State.migCtl
  extract_lets +onlyGivenNames x0
  extract_lets +onlyGivenNames x1
  have h2 : Kept m s0 x1 := by
    unfold x1
    refine State.pf_kept' Reg.CMP_MIG_CTL_block (hp.bit (by decide)) ?_
    assumption
  try (generalize x1 = y1 at h2 ⊢; try clear x1)
  refine Kept.cond (fun _ => ?_) (fun _ => ?_)
  · assumption
  · extract_lets +onlyGivenNames x3
    refine Kept.upd_cmp (hp.bit (by decide)) ?_
    assumption

theorem execMigDone_kept {m : Nat} {s0 : State} (hp : Sub 2405199183872 m) {code : Fin 5} {s : State} (hk : Kept m s0 s) : OutKept m s0 (execMigDone code s) := by
  unfold execMigDone
  refine OutKept.next ?_
  split
  · assumption
  · extract_lets +onlyGivenNames x0
    unfold x0
    try clear x0
    refine Kept.cond (fun _ => ?_) (fun _ => ?_)
    · refine State.cmpEvt_kept (Sub.trans (b := 2405199183872) (by decide) hp) ?_
      refine State.wr_kept' Reg.CMP_MIG_STAT_block (hp.bit (by decide)) ?_
      refine Kept.upd_cmp (hp.bit (by decide)) ?_
      assumption
    · refine Kept.cond (fun _ => ?_) (fun _ => ?_)
      · assumption
      · refine State.cmpEvt_kept (Sub.trans (b := 2405199183872) (by decide) hp) ?_
        refine State.wr_kept' Reg.CMP_MIG_STAT_block (hp.bit (by decide)) ?_
        refine Kept.upd_cmp (hp.bit (by decide)) ?_
        refine Kept.upd_cmp (hp.bit (by decide)) ?_
        assumption

theorem execMigRx_kept {m : Nat} {s0 : State} (hp : Sub 2405199380482 m) {b : Bytes} {stall : BitVec 8} {s : State} (hk : Kept m s0 s) : OutKept m s0 (execMigRx b stall s) := by
  unfold execMigRx
  refine OutKept.cond (fun _ => ?_) (fun _ => ?_)
  · exact OutKept.fault
  · refine OutKept.next ?_
    refine Kept.cond (fun _ => ?_) (fun _ => ?_)
    · assumption
    · extract_lets +onlyGivenNames x0
      split
      · next e3 =>
          have h4 : Kept m s0 _ := Kept.fst e3 (by
              refine State.memWr_kept (Sub.trans (b := 2405199380482) (by decide) hp) ?_
              assumption
            )
          refine Kept.cond (fun _ => ?_) (fun _ => ?_)
          · assumption
          · refine State.cmpEvt_kept (Sub.trans (b := 2405199380482) (by decide) hp) ?_
            refine State.wr_kept' Reg.CMP_MIG_RXSTAT_block (hp.bit (by decide)) ?_
            assumption

end Sys2Proof.Machine
end

