-- ==== Sys2Proof/Laws/KeptFunnel.lean ====
section
/-!
SUPPORT. What the definitions of Machine/Funnel.lean keep: one lemma each.
-/
namespace Sys2Proof.Machine

theorem State.funnel_kept {m : Nat} {s0 : State} (hp : Sub 4398315339778 m) {s : State} {id : Nat} (hk : Kept m s0 s) : Kept m s0 (State.funnel s id) := by
  unfold State.funnel
  extract_lets +onlyGivenNames x0
  extract_lets +onlyGivenNames x1
  refine Kept.cond (fun _ => ?_) (fun _ => ?_)
  · refine Kept.upd_trc (hp.bit (by decide)) ?_
    assumption
  · extract_lets +onlyGivenNames x2
    extract_lets +onlyGivenNames x3
    have h4 : Kept m s0 x3 := by
      unfold x3
      refine State.setTsrc_kept (Sub.trans (b := 4398315339778) (by decide) hp) ?_
      assumption
    try (generalize x3 = y3 at h4 ⊢; try clear x3)
    refine Kept.cond (fun _ => ?_) (fun _ => ?_)
    · refine Kept.cond (fun _ => ?_) (fun _ => ?_)
      · refine State.inc_kept' Reg.TRC_LOST_block (hp.bit (by decide)) ?_
        assumption
      · extract_lets +onlyGivenNames x5
        extract_lets +onlyGivenNames x6
        extract_lets +onlyGivenNames x7
        refine Kept.cond (fun _ => ?_) (fun _ => ?_)
        · refine Kept.cond (fun _ => ?_) (fun _ => ?_)
          · refine State.wr_kept' Reg.TRC_BUF_WPTR_block (hp.bit (by decide)) ?_
            refine State.memWr_kept (Sub.trans (b := 4398315339778) (by decide) hp) ?_
            assumption
          · refine State.inc_kept' Reg.TRC_LOST_block (hp.bit (by decide)) ?_
            refine State.pb_kept' Reg.TRC_STATUS_block (hp.bit (by decide)) ?_
            assumption
        · extract_lets +onlyGivenNames x8
          extract_lets +onlyGivenNames x9
          have h10 : Kept m s0 x9 := by
            unfold x9
            refine State.memWr_kept (Sub.trans (b := 4398315339778) (by decide) hp) ?_
            assumption
          try (generalize x9 = y9 at h10 ⊢; try clear x9)
          refine Kept.cond (fun _ => ?_) (fun _ => ?_)
          · refine State.wr_kept' Reg.TRC_BUF_WPTR_block (hp.bit (by decide)) ?_
            assumption
          · refine Kept.cond (fun _ => ?_) (fun _ => ?_)
            · refine State.wr_kept' Reg.TRC_BUF_WPTR_block (hp.bit (by decide)) ?_
              assumption
            · refine State.pb_kept' Reg.TRC_STATUS_block (hp.bit (by decide)) ?_
              refine State.wr_kept' Reg.TRC_BUF_WPTR_block (hp.bit (by decide)) ?_
              assumption
    · refine Kept.cond (fun _ => ?_) (fun _ => ?_)
      · refine Kept.cond (fun _ => ?_) (fun _ => ?_)
        · assumption
        · extract_lets +onlyGivenNames x11
          refine Kept.upd_trc (hp.bit (by decide)) ?_
          assumption
      · assumption

theorem State.drainFifo_kept {m : Nat} {s0 : State} (hp : Sub 4398315339778 m) {s : State} {id : Nat} {x2_ : Nat} (hk : Kept m s0 s) : Kept m s0 (State.drainFifo s id x2_) := by
  unfold State.drainFifo
  split
  · assumption
  · refine State.drainFifo_kept hp ?_
    refine State.funnel_kept hp ?_
    assumption

end Sys2Proof.Machine
end

