-- ==== Sys2Proof/Laws/KeptLedger.lean ====
section
/-!
SUPPORT. What the definitions of Machine/Ledger.lean keep: one lemma each.
-/
namespace Sys2Proof.Machine

theorem State.serBackOk_kept {m : Nat} {s0 : State} (hp : Sub 425986 m) {s : State} {i : Nat} (hk : Kept m s0 s) : Kept m s0 (State.serBackOk s i).1 := by
  unfold State.serBackOk
  split
  · refine Kept.cond1 (fun _ => ?_) (fun _ => ?_)
    · split
      · next e1 =>
          have h2 : Kept m s0 _ := Kept.fst e1 (by
              refine State.memWr_kept (Sub.trans (b := 425986) (by decide) hp) ?_
              assumption
            )
          show Kept m s0 _
          refine Kept.upd_ldg (hp.bit (by decide)) ?_
          assumption
      · next e4 =>
          have h5 : Kept m s0 _ := Kept.fst e4 (by
              refine State.memWr_kept (Sub.trans (b := 425986) (by decide) hp) ?_
              assumption
            )
          show Kept m s0 _
          assumption
    · show Kept m s0 _
      assumption
  · show Kept m s0 _
    assumption

theorem State.serBack_kept {m : Nat} {s0 : State} (hp : Sub 425986 m) {s : State} {i : Nat} (hk : Kept m s0 s) : Kept m s0 (State.serBack s i) := by
  unfold State.serBack
  refine State.serBackOk_kept hp ?_
  assumption

theorem State.serDrop_kept {m : Nat} {s0 : State} (hp : Sub 425986 m) {s : State} {i : Nat} (hk : Kept m s0 s) : Kept m s0 (State.serDrop s i) := by
  unfold State.serDrop
  extract_lets +onlyGivenNames x0
  have h1 : Kept m s0 x0 := by
    unfold x0
    refine State.serBack_kept hp ?_
    assumption
  try (generalize x0 = y0 at h1 ⊢; try clear x0)
  refine Kept.upd_ldg (hp.bit (by decide)) ?_
  assumption

theorem State.serDropOk_kept {m : Nat} {s0 : State} (hp : Sub 425986 m) {s : State} {i : Nat} (hk : Kept m s0 s) : Kept m s0 (State.serDropOk s i).1 := by
  unfold State.serDropOk
  split
  · next e1 =>
      have h2 : Kept m s0 _ := Kept.fst e1 (by
          refine State.serBackOk_kept hp ?_
          assumption
        )
      show Kept m s0 _
      refine Kept.upd_ldg (hp.bit (by decide)) ?_
      assumption
  · next e4 =>
      have h5 : Kept m s0 _ := Kept.fst e4 (by
          refine State.serBackOk_kept hp ?_
          assumption
        )
      show Kept m s0 _
      assumption

theorem State.serEach_kept {m : Nat} {s0 : State} (hp : Sub 0 m) {s : State} {f : State → Nat → State × Bool} {x2_ : List Nat} (hfn_f : ∀ y0 y1, Kept m s0 y0 → Kept m s0 (f y0 y1).1) (hk : Kept m s0 s) : Kept m s0 (State.serEach s f x2_).1 := by
  unfold State.serEach
  split
  · show Kept m s0 _
    assumption
  · split
    · next e2 =>
        have h10 : Kept m s0 _ := Kept.fst e2 (by
            refine hfn_f _ _ ?_
            assumption
          )
        split
        · next e5 =>
            have h9 : Kept m s0 _ := Kept.fst e5 (by
                refine State.serEach_kept hp (fun a6 a7 h8 => ?_) ?_
                · refine hfn_f _ _ ?_
                  assumption
                · assumption
              )
            show Kept m s0 _
            assumption

theorem State.serAll_kept {m : Nat} {s0 : State} (hp : Sub 0 m) {s : State} {f : State → Nat → State × Bool} (hfn_f : ∀ y0 y1, Kept m s0 y0 → Kept m s0 (f y0 y1).1) (hk : Kept m s0 s) : Kept m s0 (State.serAll s f).1 := by
  unfold State.serAll
  refine State.serEach_kept hp (fun a0 a1 h2 => ?_) ?_
  · refine hfn_f _ _ ?_
    assumption
  · assumption

theorem State.serRoom_kept {m : Nat} {s0 : State} (hp : Sub 425986 m) {s : State} {i : Nat} (hk : Kept m s0 s) : Kept m s0 (State.serRoom s i) := by
  unfold State.serRoom
  extract_lets +onlyGivenNames x0
  refine Kept.cond (fun _ => ?_) (fun _ => ?_)
  · assumption
  · try clear_value x0
    split
    · refine State.serDrop_kept hp ?_
      assumption
    · assumption

theorem State.serPut_kept {m : Nat} {s0 : State} (hp : Sub 425986 m) {s : State} {i : Nat} {b : Bytes} (hk : Kept m s0 s) : Kept m s0 (State.serPut s i b) := by
  unfold State.serPut
  extract_lets +onlyGivenNames x0
  refine Kept.cond (fun _ => ?_) (fun _ => ?_)
  · refine State.memWr_kept (Sub.trans (b := 425986) (by decide) hp) ?_
    assumption
  · extract_lets +onlyGivenNames x1
    have h2 : Kept m s0 x1 := by
      unfold x1
      refine Kept.cond (fun _ => ?_) (fun _ => ?_)
      · assumption
      · refine State.serRoom_kept hp ?_
        assumption
    try (generalize x1 = y1 at h2 ⊢; try clear x1)
    extract_lets +onlyGivenNames x3
    refine Kept.upd_ldg (hp.bit (by decide)) ?_
    assumption

theorem State.serRecord_kept {m : Nat} {s0 : State} (hp : Sub 562949434245122 m) {s : State} {i : Nat} {kind : Nat} {b : Bytes} (hk : Kept m s0 s) : Kept m s0 (State.serRecord s i kind b) := by
  unfold State.serRecord
  extract_lets +onlyGivenNames x0
  extract_lets +onlyGivenNames x1
  extract_lets +onlyGivenNames x2
  refine Kept.cond (fun _ => ?_) (fun _ => ?_)
  · refine State.inc_kept' Reg.LDG_RING_LOST_block (hp.bit (by decide)) ?_
    assumption
  · extract_lets +onlyGivenNames x3
    extract_lets +onlyGivenNames x4
    have h5 : Kept m s0 x4 := by
      unfold x4
      refine State.memWr_kept (Sub.trans (b := 562949434245122) (by decide) hp) ?_
      assumption
    try (generalize x4 = y4 at h5 ⊢; try clear x4)
    extract_lets +onlyGivenNames x6
    have h7 : Kept m s0 x6 := by
      unfold x6
      refine State.pf_kept' Reg.LDG_RING_HEAD_block (hp.bit (by decide)) ?_
      assumption
    try (generalize x6 = y6 at h7 ⊢; try clear x6)
    extract_lets +onlyGivenNames x8
    refine Kept.cond (fun _ => ?_) (fun _ => ?_)
    · assumption
    · refine State.raise_kept (Sub.trans (b := 562949434245122) (by decide) hp) ?_
      refine State.setB_kept' rfl (Sub.reg (Sub.trans (b := 562949434245122) (by decide) hp) _) ?_
      assumption

theorem State.serCommit_kept {m : Nat} {s0 : State} (hp : Sub 562949434277890 m) {s : State} {i : Nat} {b : Bytes} {ks : List Nat} (hk : Kept m s0 s) : Kept m s0 (State.serCommit s i b ks) := by
  unfold State.serCommit
  refine Kept.forEach (fun z0 a1 h2 => ?_) ?_
  · refine State.serRecord_kept (Sub.trans (b := 562949434277890) (by decide) hp) ?_
    assumption
  · refine State.serPut_kept (Sub.trans (b := 562949434277890) (by decide) hp) ?_
    assumption

theorem State.serStatus_kept {m : Nat} {s0 : State} (hp : Sub 562949434277890 m) {s : State} {i : Nat} {fl : Nat} {kind : Nat} (hk : Kept m s0 s) : Kept m s0 (State.serStatus s i fl kind) := by
  unfold State.serStatus
  extract_lets +onlyGivenNames x0
  refine Kept.cond (fun _ => ?_) (fun _ => ?_)
  · assumption
  · refine State.serCommit_kept hp ?_
    assumption

theorem State.serUpdateAt_kept {m : Nat} {s0 : State} (hp : Sub 562949434277890 m) {s : State} {i : Nat} {num : Int} {den : Nat} {partner : Bool} {t : Nat} (hk : Kept m s0 s) : Kept m s0 (State.serUpdateAt s i num den partner t) := by
  unfold State.serUpdateAt
  extract_lets +onlyGivenNames x0
  split
  · split
    · extract_lets +onlyGivenNames x1
      extract_lets +onlyGivenNames x2
      have h3 : Kept m s0 x2 := by
        unfold x2
        refine Kept.upd_ldg (hp.bit (by decide)) ?_
        assumption
      try (generalize x2 = y2 at h3 ⊢; try clear x2)
      refine State.serCommit_kept hp ?_
      assumption

theorem State.serSeen_kept {m : Nat} {s0 : State} (hp : Sub 32768 m) {s : State} {i : Nat} (hk : Kept m s0 s) : Kept m s0 (State.serSeen s i) := by
  unfold State.serSeen
  extract_lets +onlyGivenNames x0
  refine Kept.cond (fun _ => ?_) (fun _ => ?_)
  · assumption
  · refine Kept.upd_ldg (hp.bit (by decide)) ?_
    assumption

theorem State.serUpdate_kept {m : Nat} {s0 : State} (hp : Sub 562949434277890 m) {s : State} {i : Nat} {num : Int} {den : Nat} {partner : Bool} (hk : Kept m s0 s) : Kept m s0 (State.serUpdate s i num den partner) := by
  unfold State.serUpdate
  refine State.serUpdateAt_kept hp ?_
  assumption

theorem State.setPrtn_kept {m : Nat} {s0 : State} (hp : Sub 32768 m) {s : State} {p : Nat} {x : Partner} (hk : Kept m s0 s) : Kept m s0 (State.setPrtn s p x) := by
  unfold State.setPrtn
  refine Kept.upd_ldg (hp.bit (by decide)) ?_
  assumption

theorem State.issuePoll_kept {m : Nat} {s0 : State} (hp : Sub 70368748404736 m) {s : State} {p : Nat} {i : Nat} {probe : Bool} (hk : Kept m s0 s) : Kept m s0 (State.issuePoll s p i probe) := by
  unfold State.issuePoll
  split
  · next e2 =>
      have h3 : Kept m s0 _ := Kept.fst e2 (by
          refine State.allocGranule_kept (Sub.trans (b := 70368748404736) (by decide) hp) ?_
          assumption
        )
      refine Kept.upd_ldg (hp.bit (by decide)) ?_
      assumption

theorem State.rawStart_kept {m : Nat} {s0 : State} (hp : Sub 33554432 m) {s : State} {u : Nat} {v : W32} (hk : Kept m s0 s) : Kept m s0 (State.rawStart s u v) := by
  unfold State.rawStart
  extract_lets +onlyGivenNames x0
  refine State.setXp_kept hp ?_
  assumption

theorem State.rawGo_kept {m : Nat} {s0 : State} (hp : Sub 33554432 m) {s : State} {u : Nat} (hk : Kept m s0 s) : Kept m s0 (State.rawGo s u) := by
  unfold State.rawGo
  split
  · refine Kept.cond (fun _ => ?_) (fun _ => ?_)
    · refine State.rawStart_kept hp ?_
      assumption
    · assumption
  · assumption

theorem State.pollEnd_kept {m : Nat} {s0 : State} (hp : Sub 37781504 m) {s : State} {q : Poll} (hk : Kept m s0 s) : Kept m s0 (State.pollEnd s q) := by
  unfold State.pollEnd
  extract_lets +onlyGivenNames x0
  extract_lets +onlyGivenNames x1
  have h2 : Kept m s0 x1 := by
    unfold x1
    refine Kept.upd ?_ rfl (Nat.le_refl _) (fun _ _ => rfl) (.inr rfl) (.inr rfl) (.inr rfl) (.inr rfl) (.inr rfl) (.inr rfl) (.inr rfl) (.inr rfl) (.inr rfl) (.inr rfl) (.inr rfl) (.inr rfl) (.inr rfl) (.inr rfl) (.inr rfl) (.inr rfl) (.inl (hp.bit (by decide))) (.inr rfl) (.inr rfl) (.inr rfl) (.inr rfl) (.inr rfl) (.inr rfl) (.inr rfl) (.inl (hp.bit (by decide))) (.inr rfl) (.inr rfl) (.inr rfl) (.inr rfl) (.inr rfl) (.inr rfl)
    assumption
  try (generalize x1 = y1 at h2 ⊢; try clear x1)
  split
  · refine State.rawGo_kept (Sub.trans (b := 37781504) (by decide) hp) ?_
    assumption
  · assumption

theorem State.arbLost_kept {m : Nat} {s0 : State} (hp : Sub 8796093022208 m) {s : State} {p : Nat} (hk : Kept m s0 s) : Kept m s0 (State.arbLost s p) := by
  unfold State.arbLost
  split
  · refine State.inc_kept' Reg.PORT_ERR0_block (hp.bit (by decide)) ?_
    assumption
  · assumption

theorem State.unwait_kept {m : Nat} {s0 : State} (hp : Sub 32768 m) {s : State} {i : Nat} (hk : Kept m s0 s) : Kept m s0 (State.unwait s i) := by
  unfold State.unwait
  refine Kept.upd_ldg (hp.bit (by decide)) ?_
  assumption

theorem State.pollWaiting_kept {m : Nat} {s0 : State} (hp : Sub 70368748404736 m) {s : State} (hk : Kept m s0 s) : Kept m s0 (State.pollWaiting s) := by
  unfold State.pollWaiting
  refine Kept.forEach (fun z0 a1 h2 => ?_) ?_
  · extract_lets +onlyGivenNames x3
    refine Kept.cond (fun _ => ?_) (fun _ => ?_)
    · refine State.unwait_kept (Sub.trans (b := 70368748404736) (by decide) hp) ?_
      assumption
    · refine Kept.cond (fun _ => ?_) (fun _ => ?_)
      · refine State.issuePoll_kept hp ?_
        refine State.unwait_kept (Sub.trans (b := 70368748404736) (by decide) hp) ?_
        assumption
      · assumption
  · assumption

theorem State.pollDue_kept {m : Nat} {s0 : State} (hp : Sub 70403108536322 m) {s : State} {i : Nat} {p : Nat} (hk : Kept m s0 s) : Kept m s0 (State.pollDue s i p) := by
  unfold State.pollDue
  extract_lets +onlyGivenNames x0
  extract_lets +onlyGivenNames x1
  have h2 : Kept m s0 x1 := by
    unfold x1
    refine Kept.cond (fun _ => ?_) (fun _ => ?_)
    · refine State.inc_kept' Reg.LDG_SKIP_block (hp.bit (by decide)) ?_
      refine State.unwait_kept (Sub.trans (b := 70403108536322) (by decide) hp) ?_
      assumption
    · assumption
  try (generalize x1 = y1 at h2 ⊢; try clear x1)
  refine Kept.cond (fun _ => ?_) (fun _ => ?_)
  · assumption
  · refine Kept.cond (fun _ => ?_) (fun _ => ?_)
    · refine State.serPut_kept (Sub.trans (b := 70403108536322) (by decide) hp) ?_
      refine State.setPrtn_kept (Sub.trans (b := 70403108536322) (by decide) hp) ?_
      assumption
    · extract_lets +onlyGivenNames x3
      have h4 : Kept m s0 x3 := by
        unfold x3
        refine Kept.cond (fun _ => ?_) (fun _ => ?_)
        · refine State.setPrtn_kept (Sub.trans (b := 70403108536322) (by decide) hp) ?_
          assumption
        · assumption
      try (generalize x3 = y3 at h4 ⊢; try clear x3)
      refine Kept.cond (fun _ => ?_) (fun _ => ?_)
      · refine State.issuePoll_kept (Sub.trans (b := 70403108536322) (by decide) hp) ?_
        assumption
      · extract_lets +onlyGivenNames x5
        have h6 : Kept m s0 x5 := by
          unfold x5
          refine Kept.cond (fun _ => ?_) (fun _ => ?_)
          · refine State.inc_kept' Reg.BSN_POOL_STAT_block (hp.bit (by decide)) ?_
            assumption
          · assumption
        try (generalize x5 = y5 at h6 ⊢; try clear x5)
        refine Kept.upd_ldg (hp.bit (by decide)) ?_
        assumption

theorem State.unsolicited_kept {m : Nat} {s0 : State} (hp : Sub 32768 m) {s : State} {p : Nat} (hk : Kept m s0 s) : Kept m s0 (State.unsolicited s p) := by
  unfold State.unsolicited
  split
  · assumption
  · extract_lets +onlyGivenNames x0
    extract_lets +onlyGivenNames x1
    extract_lets +onlyGivenNames x2
    extract_lets +onlyGivenNames x3
    refine State.setPrtn_kept hp ?_
    assumption

theorem State.partBack_kept {m : Nat} {s0 : State} (hp : Sub 562949434277890 m) {s : State} {p : Nat} {probed : Nat} (hk : Kept m s0 s) : Kept m s0 (State.partBack s p probed) := by
  unfold State.partBack
  extract_lets +onlyGivenNames x0
  extract_lets +onlyGivenNames x1
  have h2 : Kept m s0 x1 := by
    unfold x1
    refine State.setPrtn_kept (Sub.trans (b := 562949434277890) (by decide) hp) ?_
    assumption
  try (generalize x1 = y1 at h2 ⊢; try clear x1)
  refine Kept.forEach (fun z3 a4 h5 => ?_) ?_
  · extract_lets +onlyGivenNames x6
    extract_lets +onlyGivenNames x7
    extract_lets +onlyGivenNames x8
    refine Kept.cond (fun _ => ?_) (fun _ => ?_)
    · assumption
    · refine State.serCommit_kept hp ?_
      assumption
  · assumption

theorem State.pollTimeout_kept {m : Nat} {s0 : State} (hp : Sub 562949472026626 m) {s : State} {q : Poll} (hk : Kept m s0 s) : Kept m s0 (State.pollTimeout s q) := by
  unfold State.pollTimeout
  extract_lets +onlyGivenNames x0
  extract_lets +onlyGivenNames x1
  have h2 : Kept m s0 x1 := by
    unfold x1
    refine State.pollEnd_kept (Sub.trans (b := 562949472026626) (by decide) hp) ?_
    assumption
  try (generalize x1 = y1 at h2 ⊢; try clear x1)
  extract_lets +onlyGivenNames x3
  extract_lets +onlyGivenNames x4
  extract_lets +onlyGivenNames x5
  have h6 : Kept m s0 x5 := by
    unfold x5
    refine State.setPrtn_kept (Sub.trans (b := 562949472026626) (by decide) hp) ?_
    assumption
  try (generalize x5 = y5 at h6 ⊢; try clear x5)
  extract_lets +onlyGivenNames x7
  extract_lets +onlyGivenNames x8
  have h9 : Kept m s0 x8 := by
    unfold x8
    refine State.setPrtn_kept (Sub.trans (b := 562949472026626) (by decide) hp) ?_
    assumption
  try (generalize x8 = y8 at h9 ⊢; try clear x8)
  extract_lets +onlyGivenNames x10
  extract_lets +onlyGivenNames x11
  have h12 : Kept m s0 x11 := by
    unfold x11
    refine Kept.upd_ldg (hp.bit (by decide)) ?_
    assumption
  try (generalize x11 = y11 at h12 ⊢; try clear x11)
  extract_lets +onlyGivenNames x13
  have h14 : Kept m s0 x13 := by
    unfold x13
    refine Kept.cond (fun _ => ?_) (fun _ => ?_)
    · refine Kept.forEach (fun z15 a16 h17 => ?_) ?_
      · refine State.serStatus_kept (Sub.trans (b := 562949472026626) (by decide) hp) ?_
        assumption
      · assumption
    · assumption
  try (generalize x13 = y13 at h14 ⊢; try clear x13)
  refine State.pollWaiting_kept (Sub.trans (b := 562949472026626) (by decide) hp) ?_
  assumption

theorem State.served1_kept {m : Nat} {s0 : State} (hp : Sub 32768 m) {s : State} {k : Nat} (hk : Kept m s0 s) : Kept m s0 (State.served1 s k) := by
  unfold State.served1
  refine Kept.upd_ldg (hp.bit (by decide)) ?_
  assumption

theorem State.serDone_kept {m : Nat} {s0 : State} (hp : Sub 32768 m) {s : State} {i : Nat} (hk : Kept m s0 s) : Kept m s0 (State.serDone s i) := by
  unfold State.serDone
  refine Kept.upd_ldg (hp.bit (by decide)) ?_
  assumption

theorem State.unlate_kept {m : Nat} {s0 : State} (hp : Sub 32768 m) {s : State} {i : Nat} (hk : Kept m s0 s) : Kept m s0 (State.unlate s i) := by
  unfold State.unlate
  refine Kept.upd_ldg (hp.bit (by decide)) ?_
  assumption

theorem State.serNow_kept {m : Nat} {s0 : State} (hp : Sub 562949438472194 m) {s : State} {i : Nat} (hk : Kept m s0 s) : Kept m s0 (State.serNow s i) := by
  unfold State.serNow
  extract_lets +onlyGivenNames x0
  refine Kept.cond (fun _ => ?_) (fun _ => ?_)
  · assumption
  · refine Kept.cond (fun _ => ?_) (fun _ => ?_)
    · refine State.pollDue_kept (Sub.trans (b := 562949438472194) (by decide) hp) ?_
      refine State.serDone_kept (Sub.trans (b := 562949438472194) (by decide) hp) ?_
      assumption
    · refine Kept.cond (fun _ => ?_) (fun _ => ?_)
      · assumption
      · split
        · refine State.serUpdate_kept (Sub.trans (b := 562949438472194) (by decide) hp) ?_
          refine State.served1_kept (Sub.trans (b := 562949438472194) (by decide) hp) ?_
          refine State.serDone_kept (Sub.trans (b := 562949438472194) (by decide) hp) ?_
          assumption
        · assumption

theorem execLedgerSeriesDue_kept {m : Nat} {s0 : State} (hp : Sub 562949438472194 m) {i : BitVec 20} {s : State} (hk : Kept m s0 s) : OutKept m s0 (execLedgerSeriesDue i s) := by
  unfold execLedgerSeriesDue
  refine OutKept.next ?_
  extract_lets +onlyGivenNames x0
  refine Kept.cond (fun _ => ?_) (fun _ => ?_)
  · assumption
  · extract_lets +onlyGivenNames x1
    have h2 : Kept m s0 x1 := by
      unfold x1
      refine State.serSeen_kept (Sub.trans (b := 562949438472194) (by decide) hp) ?_
      assumption
    try (generalize x1 = y1 at h2 ⊢; try clear x1)
    split
    · refine Kept.cond (fun _ => ?_) (fun _ => ?_)
      · refine State.serNow_kept hp ?_
        assumption
      · refine Kept.cond (fun _ => ?_) (fun _ => ?_)
        · refine State.unlate_kept (Sub.trans (b := 562949438472194) (by decide) hp) ?_
          assumption
        · refine Kept.cond (fun _ => ?_) (fun _ => ?_)
          · assumption
          · refine State.serUpdateAt_kept (Sub.trans (b := 562949438472194) (by decide) hp) ?_
            refine State.served1_kept (Sub.trans (b := 562949438472194) (by decide) hp) ?_
            refine State.unlate_kept (Sub.trans (b := 562949438472194) (by decide) hp) ?_
            assumption
    · refine State.serNow_kept hp ?_
      assumption

theorem execLedgerUpdateDiscard_kept {m : Nat} {s0 : State} (hp : Sub 34359771136 m) {i : BitVec 20} {s : State} (hk : Kept m s0 s) : OutKept m s0 (execLedgerUpdateDiscard i s) := by
  unfold execLedgerUpdateDiscard
  refine OutKept.next ?_
  refine Kept.cond (fun _ => ?_) (fun _ => ?_)
  · refine State.inc_kept' Reg.LDG_SKIP_block (hp.bit (by decide)) ?_
    refine State.unlate_kept (Sub.trans (b := 34359771136) (by decide) hp) ?_
    assumption
  · assumption

theorem State.dropLate_kept {m : Nat} {s0 : State} (hp : Sub 34359771136 m) {s : State} (hk : Kept m s0 s) : Kept m s0 (State.dropLate s) := by
  unfold State.dropLate
  extract_lets +onlyGivenNames x0
  have h1 : Kept m s0 x0 := by
    unfold x0
    refine Kept.cond (fun _ => ?_) (fun _ => ?_)
    · assumption
    · refine State.inc_kept' Reg.LDG_SKIP_block (hp.bit (by decide)) ?_
      assumption
  try (generalize x0 = y0 at h1 ⊢; try clear x0)
  refine Kept.upd_ldg (hp.bit (by decide)) ?_
  assumption

theorem State.ldgClose_kept {m : Nat} {s0 : State} (hp : Sub 70403108143104 m) {s : State} (hk : Kept m s0 s) : Kept m s0 (State.ldgClose s) := by
  unfold State.ldgClose
  extract_lets +onlyGivenNames x0
  extract_lets +onlyGivenNames x1
  have h2 : Kept m s0 x1 := by
    unfold x1
    refine State.dropLate_kept (Sub.trans (b := 70403108143104) (by decide) hp) ?_
    assumption
  try (generalize x1 = y1 at h2 ⊢; try clear x1)
  refine State.pollWaiting_kept (Sub.trans (b := 70403108143104) (by decide) hp) ?_
  refine Kept.upd_ldg (hp.bit (by decide)) ?_
  assumption

theorem State.replyApply_kept {m : Nat} {s0 : State} (hp : Sub 562949434277890 m) {s : State} {q : Poll} {d : Bytes} {x : Reply} (hk : Kept m s0 s) : Kept m s0 (State.replyApply s q d x) := by
  unfold State.replyApply
  extract_lets +onlyGivenNames x0
  extract_lets +onlyGivenNames x1
  extract_lets +onlyGivenNames x2
  extract_lets +onlyGivenNames x3
  refine Kept.cond (fun _ => ?_) (fun _ => ?_)
  · assumption
  · try clear_value x3
    split
    · refine State.serStatus_kept hp ?_
      refine State.setPrtn_kept (Sub.trans (b := 562949434277890) (by decide) hp) ?_
      assumption
    · refine Kept.cond (fun _ => ?_) (fun _ => ?_)
      · refine State.partBack_kept hp ?_
        assumption
      · refine State.serUpdate_kept hp ?_
        assumption

theorem execLedgerPartnerReply_kept {m : Nat} {s0 : State} (hp : Sub 562949472026626 m) {p : BitVec 12} {tag : Nat} {x : Reply} {s : State} (hk : Kept m s0 s) : OutKept m s0 (execLedgerPartnerReply p tag x s) := by
  unfold execLedgerPartnerReply
  refine OutKept.next ?_
  extract_lets +onlyGivenNames x0
  split
  · refine State.unsolicited_kept (Sub.trans (b := 562949472026626) (by decide) hp) ?_
    assumption
  · refine Kept.cond (fun _ => ?_) (fun _ => ?_)
    · assumption
    · extract_lets +onlyGivenNames x1
      have h2 : Kept m s0 x1 := by
        unfold x1
        refine Kept.cond (fun _ => ?_) (fun _ => ?_)
        · refine State.arbLost_kept (Sub.trans (b := 562949472026626) (by decide) hp) ?_
          assumption
        · assumption
      try (generalize x1 = y1 at h2 ⊢; try clear x1)
      extract_lets +onlyGivenNames x3
      have h4 : Kept m s0 x3 := by
        unfold x3
        refine State.pollEnd_kept (Sub.trans (b := 562949472026626) (by decide) hp) ?_
        assumption
      try (generalize x3 = y3 at h4 ⊢; try clear x3)
      extract_lets +onlyGivenNames x5
      extract_lets +onlyGivenNames x6
      have h7 : Kept m s0 x6 := by
        unfold x6
        refine State.served1_kept (Sub.trans (b := 562949472026626) (by decide) hp) ?_
        refine State.setPrtn_kept (Sub.trans (b := 562949472026626) (by decide) hp) ?_
        assumption
      try (generalize x6 = y6 at h7 ⊢; try clear x6)
      refine State.pollWaiting_kept (Sub.trans (b := 562949472026626) (by decide) hp) ?_
      refine State.replyApply_kept (Sub.trans (b := 562949472026626) (by decide) hp) ?_
      assumption

theorem execLedgerPollTimeout_kept {m : Nat} {s0 : State} (hp : Sub 562949472026626 m) {p : BitVec 12} {tag : Nat} {s : State} (hk : Kept m s0 s) : OutKept m s0 (execLedgerPollTimeout p tag s) := by
  unfold execLedgerPollTimeout
  refine OutKept.next ?_
  split
  · refine State.pollTimeout_kept hp ?_
    assumption
  · assumption

theorem execLedgerProbe_kept {m : Nat} {s0 : State} (hp : Sub 70368748404736 m) {p : BitVec 12} {s : State} (hk : Kept m s0 s) : OutKept m s0 (execLedgerProbe p s) := by
  unfold execLedgerProbe
  refine OutKept.next ?_
  extract_lets +onlyGivenNames x0
  split
  · assumption
  · refine Kept.cond (fun _ => ?_) (fun _ => ?_)
    · assumption
    · extract_lets +onlyGivenNames x1
      have h2 : Kept m s0 x1 := by
        unfold x1
        refine State.setPrtn_kept (Sub.trans (b := 70368748404736) (by decide) hp) ?_
        assumption
      try (generalize x1 = y1 at h2 ⊢; try clear x1)
      split
      · refine Kept.cond (fun _ => ?_) (fun _ => ?_)
        · refine State.issuePoll_kept hp ?_
          assumption
        · assumption
      · assumption

theorem execStale_kept {m : Nat} {s0 : State} (hp : Sub 562949434277890 m) {i : BitVec 20} {s : State} (hk : Kept m s0 s) : OutKept m s0 (execStale i s) := by
  unfold execStale
  refine OutKept.next ?_
  extract_lets +onlyGivenNames x0
  extract_lets +onlyGivenNames x1
  have h2 : Kept m s0 x1 := by
    unfold x1
    refine Kept.cond (fun _ => ?_) (fun _ => ?_)
    · refine State.serSeen_kept (Sub.trans (b := 562949434277890) (by decide) hp) ?_
      assumption
    · assumption
  try (generalize x1 = y1 at h2 ⊢; try clear x1)
  extract_lets +onlyGivenNames x3
  refine Kept.cond (fun _ => ?_) (fun _ => ?_)
  · refine State.serStatus_kept hp ?_
    assumption
  · assumption

theorem execLedgerUnsolicited_kept {m : Nat} {s0 : State} (hp : Sub 32768 m) {p : BitVec 12} {s : State} (hk : Kept m s0 s) : OutKept m s0 (execLedgerUnsolicited p s) := by
  unfold execLedgerUnsolicited
  refine OutKept.next ?_
  refine State.unsolicited_kept hp ?_
  assumption

theorem execLedgerThrottleEnd_kept {m : Nat} {s0 : State} (hp : Sub 425986 m) {p : BitVec 12} {s : State} (hk : Kept m s0 s) : OutKept m s0 (execLedgerThrottleEnd p s) := by
  unfold execLedgerThrottleEnd
  refine OutKept.next ?_
  extract_lets +onlyGivenNames x0
  refine Kept.cond (fun _ => ?_) (fun _ => ?_)
  · assumption
  · extract_lets +onlyGivenNames x1
    have h2 : Kept m s0 x1 := by
      unfold x1
      refine State.setPrtn_kept (Sub.trans (b := 425986) (by decide) hp) ?_
      assumption
    try (generalize x1 = y1 at h2 ⊢; try clear x1)
    refine Kept.forEach (fun z3 a4 h5 => ?_) ?_
    · refine Kept.cond (fun _ => ?_) (fun _ => ?_)
      · refine State.serPut_kept hp ?_
        assumption
      · assumption
    · assumption

theorem execLedgerWriteback_kept {m : Nat} {s0 : State} (hp : Sub 425986 m) {i : BitVec 20} {s : State} (hk : Kept m s0 s) : OutKept m s0 (execLedgerWriteback i s) := by
  unfold execLedgerWriteback
  refine OutKept.next ?_
  refine Kept.cond (fun _ => ?_) (fun _ => ?_)
  · refine State.serBack_kept hp ?_
    assumption
  · assumption

theorem State.ldgShow_kept {m : Nat} {s0 : State} (hp : Sub 34359738368 m) {s : State} {b : Bytes} (hk : Kept m s0 s) : Kept m s0 (State.ldgShow s b) := by
  unfold State.ldgShow
  refine Kept.forEach (fun z0 a1 h2 => ?_) ?_
  · refine State.wr_kept' Reg.LDG_DATA_block (hp.bit (by decide)) ?_
    assumption
  · assumption

theorem State.serWrite_kept {m : Nat} {s0 : State} (hp : Sub 425986 m) {s : State} {i : Nat} (hk : Kept m s0 s) : Kept m s0 (State.serWrite s i) := by
  unfold State.serWrite
  extract_lets +onlyGivenNames x0
  extract_lets +onlyGivenNames x1
  extract_lets +onlyGivenNames x2
  have h3 : Kept m s0 x2 := by
    unfold x2
    refine Kept.cond (fun _ => ?_) (fun _ => ?_)
    · assumption
    · refine State.unlate_kept (Sub.trans (b := 425986) (by decide) hp) ?_
      refine State.unwait_kept (Sub.trans (b := 425986) (by decide) hp) ?_
      assumption
  try (generalize x2 = y2 at h3 ⊢; try clear x2)
  extract_lets +onlyGivenNames x4
  extract_lets +onlyGivenNames x5
  have h6 : Kept m s0 x5 := by
    unfold x5
    refine Kept.upd_ldg (hp.bit (by decide)) ?_
    assumption
  try (generalize x5 = y5 at h6 ⊢; try clear x5)
  refine State.serPut_kept hp ?_
  assumption

theorem State.ldgOp_kept {m : Nat} {s0 : State} (hp : Sub 562949434277890 m) {s : State} {op : Nat} {i : Nat} (hk : Kept m s0 s) : Kept m s0 (State.ldgOp s op i).1 := by
  unfold State.ldgOp
  refine Kept.cond1 (fun _ => ?_) (fun _ => ?_)
  · show Kept m s0 _
    assumption
  · refine Kept.cond1 (fun _ => ?_) (fun _ => ?_)
    · show Kept m s0 _
      assumption
    · split
      · show Kept m s0 _
        refine State.ldgShow_kept (Sub.trans (b := 562949434277890) (by decide) hp) ?_
        assumption
      · show Kept m s0 _
        refine State.serWrite_kept (Sub.trans (b := 562949434277890) (by decide) hp) ?_
        assumption
      · extract_lets +onlyGivenNames x0
        extract_lets +onlyGivenNames x1
        extract_lets +onlyGivenNames x2
        have h3 : Kept m s0 x2 := by
          unfold x2
          refine Kept.upd_ldg (hp.bit (by decide)) ?_
          assumption
        try (generalize x2 = y2 at h3 ⊢; try clear x2)
        show Kept m s0 _
        refine State.serPut_kept (Sub.trans (b := 562949434277890) (by decide) hp) ?_
        assumption
      · refine Kept.cond1 (fun _ => ?_) (fun _ => ?_)
        · show Kept m s0 _
          assumption
        · refine Kept.cond1 (fun _ => ?_) (fun _ => ?_)
          · show Kept m s0 _
            assumption
          · show Kept m s0 _
            refine State.serUpdate_kept hp ?_
            assumption
      · extract_lets +onlyGivenNames x4
        have h5 : Kept m s0 x4.1 := by
          unfold x4
          refine State.serDropOk_kept (Sub.trans (b := 562949434277890) (by decide) hp) ?_
          assumption
        try (generalize x4 = y4 at h5 ⊢; try clear x4)
        show Kept m s0 _
        assumption
      · refine State.serAll_kept (Sub.trans (b := 562949434277890) (by decide) hp) (fun a6 a7 h8 => ?_) ?_
        · refine State.serBackOk_kept (Sub.trans (b := 562949434277890) (by decide) hp) ?_
          assumption
        · assumption
      · refine State.serAll_kept (Sub.trans (b := 562949434277890) (by decide) hp) (fun a9 a10 h11 => ?_) ?_
        · refine State.serDropOk_kept (Sub.trans (b := 562949434277890) (by decide) hp) ?_
          assumption
        · assumption
      · show Kept m s0 _
        assumption

theorem State.ldgCmd_kept {m : Nat} {s0 : State} (hp : Sub 562949434277890 m) {s : State} {v : W32} (hk : Kept m s0 s) : Kept m s0 (State.ldgCmd s v) := by
  unfold State.ldgCmd
  extract_lets +onlyGivenNames x0
  have h1 : Kept m s0 x0 := by
    unfold x0
    refine State.plainWrite_kept' Reg.LDG_CMD_block (hp.bit (by decide)) ?_
    assumption
  try (generalize x0 = y0 at h1 ⊢; try clear x0)
  refine Kept.cond (fun _ => ?_) (fun _ => ?_)
  · assumption
  · split
    · next e4 =>
        have h5 : Kept m s0 _ := Kept.fst e4 (by
            refine State.ldgOp_kept hp ?_
            assumption
          )
        refine Kept.upd_ldg (hp.bit (by decide)) ?_
        assumption

theorem execLdgCmdDone_kept {m : Nat} {s0 : State} (hp : Sub 34359771136 m) {s : State} (hk : Kept m s0 s) : OutKept m s0 (execLdgCmdDone s) := by
  unfold execLdgCmdDone
  refine OutKept.next ?_
  refine Kept.cond (fun _ => ?_) (fun _ => ?_)
  · refine State.wr_kept' Reg.LDG_CMD_STAT_block (hp.bit (by decide)) ?_
    refine Kept.upd_ldg (hp.bit (by decide)) ?_
    assumption
  · assumption

end Sys2Proof.Machine
end

