-- ==== Sys2Proof/Laws/KeptStall.lean ====
section
/-!
SUPPORT. What the definitions of Machine/Stall.lean keep: one lemma each.
-/
namespace Sys2Proof.Machine

theorem recWords_length (b : Bytes) (o n : Nat) : (recWords b o n).length = n := by
  induction n generalizing o with
  | zero => rfl
  | succ k ih => simp only [recWords, List.length_cons, ih]
theorem recDirOf_length (b : Bytes) (o now : Nat) : (recDirOf b o now).q.length ≤ 8 := by
  show (recWords b o _).length ≤ 8
  rw [recWords_length]
  exact Nat.min_le_left _ _

theorem State.setStl_kept {m : Nat} {s0 : State} (hp : Sub 8388608 m) {s : State} {i : Nat} {x : Stall} (hk : Kept m s0 s) : Kept m s0 (State.setStl s i x) := by
  unfold State.setStl
  refine Kept.upd_stall (hp.bit (by decide)) ?_
  assumption

theorem State.setStSt_kept {m : Nat} {s0 : State} (hp : Sub 1099511627776 m) {s : State} {i : Nat} {k : Nat} (hk : Kept m s0 s) : Kept m s0 (State.setStSt s i k) := by
  unfold State.setStSt
  refine State.pf_kept' Reg.STL_MGR_STAT_block (hp.bit (by decide)) ?_
  assumption

theorem State.stCode_kept {m : Nat} {s0 : State} (hp : Sub 1099511627776 m) {s : State} {i : Nat} {k : Nat} (hk : Kept m s0 s) : Kept m s0 (State.stCode s i k) := by
  unfold State.stCode
  refine State.pf_kept' Reg.STL_MGR_STAT_block (hp.bit (by decide)) ?_
  assumption

theorem State.stDone_kept {m : Nat} {s0 : State} (hp : Sub 1099511627776 m) {s : State} {i : Nat} {k : Nat} (hk : Kept m s0 s) : Kept m s0 (State.stDone s i k) := by
  unfold State.stDone
  refine State.pb_kept' Reg.STL_MGR_STAT_block (hp.bit (by decide)) ?_
  refine State.stCode_kept hp ?_
  assumption

theorem State.mapWrite_kept {m : Nat} {s0 : State} (hp : Sub 1099511627776 m) {s : State} {i : Nat} {r : Reg} {x : Nat} {v : W32} (hr_r : m.testBit r.block.ctorIdx = true) (hk : Kept m s0 s) : Kept m s0 (State.mapWrite s i r x v) := by
  unfold State.mapWrite
  extract_lets +onlyGivenNames x0
  extract_lets +onlyGivenNames x1
  have h2 : Kept m s0 x1 := by
    unfold x1
    refine State.wr_kept' rfl hr_r ?_
    assumption
  try (generalize x1 = y1 at h2 ⊢; try clear x1)
  refine Kept.cond (fun _ => ?_) (fun _ => ?_)
  · refine State.stCode_kept hp ?_
    assumption
  · refine Kept.cond (fun _ => ?_) (fun _ => ?_)
    · refine State.stCode_kept hp ?_
      assumption
    · refine Kept.cond (fun _ => ?_) (fun _ => ?_)
      · refine State.stCode_kept hp ?_
        assumption
      · refine Kept.cond (fun _ => ?_) (fun _ => ?_)
        · refine State.stCode_kept hp ?_
          assumption
        · assumption

theorem State.quiesce_kept {m : Nat} {s0 : State} (hp : Sub 17455078309890 m) {s : State} {i : Nat} (hk : Kept m s0 s) : Kept m s0 (State.quiesce s i) := by
  unfold State.quiesce
  extract_lets +onlyGivenNames x0
  extract_lets +onlyGivenNames x1
  extract_lets +onlyGivenNames x2
  extract_lets +onlyGivenNames x3
  have h4 : Kept m s0 x3 := by
    unfold x3
    refine State.setStl_kept (Sub.trans (b := 17455078309890) (by decide) hp) ?_
    assumption
  try (generalize x3 = y3 at h4 ⊢; try clear x3)
  extract_lets +onlyGivenNames x5
  have h6 : Kept m s0 x5 := by
    unfold x5
    refine State.withdraw_kept (Sub.trans (b := 17455078309890) (by decide) hp) ?_
    refine Kept.forEach (fun z7 a8 h9 => ?_) ?_
    · refine State.clrB_kept' Reg.EVD_EN_SET_block (hp.bit (by decide)) ?_
      assumption
    · assumption
  try (generalize x5 = y5 at h6 ⊢; try clear x5)
  extract_lets +onlyGivenNames x10
  have h11 : Kept m s0 x10 := by
    unfold x10
    refine Kept.forEach (fun z12 a13 h14 => ?_) ?_
    · extract_lets +onlyGivenNames x15
      refine Kept.cond (fun _ => ?_) (fun _ => ?_)
      · refine State.chPause_kept (Sub.trans (b := 17455078309890) (by decide) hp) ?_
        assumption
      · refine Kept.cond (fun _ => ?_) (fun _ => ?_)
        · refine State.chStop_kept (Sub.trans (b := 17455078309890) (by decide) hp) ?_
          assumption
        · assumption
    · assumption
  try (generalize x10 = y10 at h11 ⊢; try clear x10)
  refine State.setStSt_kept (Sub.trans (b := 17455078309890) (by decide) hp) ?_
  assumption

theorem State.stlClear_kept {m : Nat} {s0 : State} (hp : Sub 962080538624 m) {s : State} {i : Nat} (hk : Kept m s0 s) : Kept m s0 (State.stlClear s i) := by
  unfold State.stlClear
  extract_lets +onlyGivenNames x0
  have h1 : Kept m s0 x0 := by
    unfold x0
    refine Kept.forEach (fun z2 a3 h4 => ?_) ?_
    · refine State.mbxReset_kept (Sub.trans (b := 962080538624) (by decide) hp) ?_
      assumption
    · assumption
  try (generalize x0 = y0 at h1 ⊢; try clear x0)
  extract_lets +onlyGivenNames x5
  have h6 : Kept m s0 x5 := by
    unfold x5
    refine State.withdraw_kept (Sub.trans (b := 962080538624) (by decide) hp) ?_
    refine Kept.forEach (fun z7 a8 h9 => ?_) ?_
    · refine State.clrB_kept' Reg.EVD_PEND_SET_block (hp.bit (by decide)) ?_
      assumption
    · assumption
  try (generalize x5 = y5 at h6 ⊢; try clear x5)
  extract_lets +onlyGivenNames x10
  have h11 : Kept m s0 x10 := by
    unfold x10
    refine Kept.forEach (fun z12 a13 h14 => ?_) ?_
    · refine State.wr_kept' Reg.CH_STAT_block (hp.bit (by decide)) ?_
      refine State.setChn_kept (Sub.trans (b := 962080538624) (by decide) hp) ?_
      refine State.freeLines_kept (Sub.trans (b := 962080538624) (by decide) hp) ?_
      assumption
    · assumption
  try (generalize x10 = y10 at h11 ⊢; try clear x10)
  refine Kept.upd_basin (hp.bit (by decide)) ?_
  assumption

theorem State.stlUnmap_kept {m : Nat} {s0 : State} (hp : Sub 562949416550400 m) {s : State} {i : Nat} (hk : Kept m s0 s) : Kept m s0 (State.stlUnmap s i) := by
  unfold State.stlUnmap
  refine Kept.forEach (fun z0 a1 h2 => ?_) ?_
  · refine Kept.forEach (fun z3 a4 h5 => ?_) ?_
    · refine State.wr_kept' rfl (Sub.reg (Sub.trans (b := 562949416550400) (by decide) hp) _) ?_
      assumption
    · assumption
  · assumption

theorem State.stlSave_kept {m : Nat} {s0 : State} (hp : Sub 393218 m) {s : State} {i : Nat} (hk : Kept m s0 s) : Kept m s0 (State.stlSave s i).1 := by
  unfold State.stlSave
  extract_lets +onlyGivenNames x0
  extract_lets +onlyGivenNames x1
  refine Kept.cond1 (fun _ => ?_) (fun _ => ?_)
  · split
    · next e4 =>
        have h5 : Kept m s0 _ := Kept.fst e4 (by
            refine State.memWr_kept hp ?_
            assumption
          )
        show Kept m s0 _
        assumption
  · show Kept m s0 _
    assumption

theorem State.restoreViews_kept {m : Nat} {s0 : State} (hp : Sub 1099511627776 m) {s : State} {i : Nat} {b : Bytes} (hk : Kept m s0 s) : Kept m s0 (State.restoreViews s i b) := by
  unfold State.restoreViews
  extract_lets +onlyGivenNames x0
  have h1 : Kept m s0 x0 := by
    unfold x0
    refine Kept.forEach (fun z2 a3 h4 => ?_) ?_
    · refine State.wr_kept' Reg.STL_WIN_B_block (hp.bit (by decide)) ?_
      refine State.wr_kept' Reg.STL_WIN_A_block (hp.bit (by decide)) ?_
      assumption
    · assumption
  try (generalize x0 = y0 at h1 ⊢; try clear x0)
  extract_lets +onlyGivenNames x5
  have h6 : Kept m s0 x5 := by
    unfold x5
    refine Kept.forEach (fun z7 a8 h9 => ?_) ?_
    · refine State.wr_kept' Reg.STL_VIEW_CNT_block (hp.bit (by decide)) ?_
      refine State.wr_kept' Reg.STL_VIEW_BASE_block (hp.bit (by decide)) ?_
      assumption
    · assumption
  try (generalize x5 = y5 at h6 ⊢; try clear x5)
  refine State.wr_kept' Reg.STL_BIND_block (hp.bit (by decide)) ?_
  assumption

theorem State.restoreSrcs_kept {m : Nat} {s0 : State} (hp : Sub 1099511627776 m) {s : State} {i : Nat} {b : Bytes} (hk : Kept m s0 s) : Kept m s0 (State.restoreSrcs s i b) := by
  unfold State.restoreSrcs
  refine Kept.forEach (fun z0 a1 h2 => ?_) ?_
  · refine State.wr_kept' Reg.STL_SRC_block (hp.bit (by decide)) ?_
    assumption
  · assumption

theorem State.restoreMbx_kept {m : Nat} {s0 : State} (hp : Sub 1374390583296 m) {s : State} {i : Nat} {b : Bytes} (hk : Kept m s0 s) : Kept m s0 (State.restoreMbx s i b) := by
  unfold State.restoreMbx
  extract_lets +onlyGivenNames x0
  refine Kept.forEach (fun z1 a2 h3 => ?_) ?_
  · extract_lets +onlyGivenNames x4
    extract_lets +onlyGivenNames x5
    refine Kept.cond (fun _ => ?_) (fun _ => ?_)
    · extract_lets +onlyGivenNames x6
      refine State.setDir_kept (Sub.trans (b := 1374390583296) (by decide) hp) (by first | exact fun h => h | exact fun _ => recDirOf_length _ _ _) ?_
      refine State.setDir_kept (Sub.trans (b := 1374390583296) (by decide) hp) (by first | exact fun h => h | exact fun _ => recDirOf_length _ _ _) ?_
      refine State.wr_kept' Reg.MBX_TMO_block (hp.bit (by decide)) ?_
      refine State.wr_kept' Reg.STL_MBX_MAP_block (hp.bit (by decide)) ?_
      assumption
    · refine State.wr_kept' Reg.STL_MBX_MAP_block (hp.bit (by decide)) ?_
      assumption
  · assumption

theorem State.restoreChs_kept {m : Nat} {s0 : State} (hp : Sub 549758304258 m) {s : State} {i : Nat} {b : Bytes} (hk : Kept m s0 s) : Kept m s0 (State.restoreChs s i b) := by
  unfold State.restoreChs
  refine Kept.forEach (fun z0 a1 h2 => ?_) ?_
  · extract_lets +onlyGivenNames x3
    extract_lets +onlyGivenNames x4
    extract_lets +onlyGivenNames x5
    extract_lets +onlyGivenNames x6
    have h7 : Kept m s0 x6 := by
      unfold x6
      refine State.wr_kept' Reg.CH_OWN_block (hp.bit (by decide)) ?_
      assumption
    try (generalize x6 = y6 at h7 ⊢; try clear x6)
    extract_lets +onlyGivenNames x8
    have h9 : Kept m s0 x8 := by
      unfold x8
      refine State.memWr_kept (Sub.trans (b := 549758304258) (by decide) hp) ?_
      assumption
    try (generalize x8 = y8 at h9 ⊢; try clear x8)
    refine State.setChn_kept (Sub.trans (b := 549758304258) (by decide) hp) ?_
    assumption
  · assumption

theorem State.restoreAll_kept {m : Nat} {s0 : State} (hp : Sub 4260636786690 m) {s : State} {i : Nat} {b : Bytes} (hk : Kept m s0 s) : Kept m s0 (State.restoreAll s i b) := by
  unfold State.restoreAll
  extract_lets +onlyGivenNames x0
  extract_lets +onlyGivenNames x1
  have h2 : Kept m s0 x1 := by
    unfold x1
    refine State.restoreChs_kept (Sub.trans (b := 4260636786690) (by decide) hp) ?_
    refine State.restoreMbx_kept (Sub.trans (b := 4260636786690) (by decide) hp) ?_
    refine State.restoreSrcs_kept (Sub.trans (b := 4260636786690) (by decide) hp) ?_
    refine State.restoreViews_kept (Sub.trans (b := 4260636786690) (by decide) hp) ?_
    assumption
  try (generalize x1 = y1 at h2 ⊢; try clear x1)
  extract_lets +onlyGivenNames x3
  extract_lets +onlyGivenNames x4
  have h5 : Kept m s0 x4 := by
    unfold x4
    refine State.setStl_kept (Sub.trans (b := 4260636786690) (by decide) hp) ?_
    assumption
  try (generalize x4 = y4 at h5 ⊢; try clear x4)
  extract_lets +onlyGivenNames x6
  have h7 : Kept m s0 x6 := by
    unfold x6
    refine Kept.forEach (fun z8 a9 h10 => ?_) ?_
    · refine Kept.cond (fun _ => ?_) (fun _ => ?_)
      · refine State.raise_kept (Sub.trans (b := 4260636786690) (by decide) hp) ?_
        assumption
      · assumption
    · assumption
  try (generalize x6 = y6 at h7 ⊢; try clear x6)
  refine State.setStSt_kept (Sub.trans (b := 4260636786690) (by decide) hp) ?_
  assumption

theorem State.restoreRec_kept {m : Nat} {s0 : State} (hp : Sub 4260636786690 m) {s : State} {i : Nat} {b : Bytes} (hk : Kept m s0 s) : Kept m s0 (State.restoreRec s i b).1 := by
  unfold State.restoreRec
  refine Kept.cond1 (fun _ => ?_) (fun _ => ?_)
  · show Kept m s0 _
    assumption
  · show Kept m s0 _
    refine State.restoreAll_kept hp ?_
    assumption

theorem State.stlRestore_kept {m : Nat} {s0 : State} (hp : Sub 4260636786690 m) {s : State} {i : Nat} (hk : Kept m s0 s) : Kept m s0 (State.stlRestore s i).1 := by
  unfold State.stlRestore
  refine Kept.cond1 (fun _ => ?_) (fun _ => hk)
  cases s.memRd edReq (s.recAddr i) 4096 with
  | none => exact hk
  | some b => exact State.restoreRec_kept hp hk

theorem State.stlThaw_kept {m : Nat} {s0 : State} (hp : Sub 1099512676352 m) {s : State} {i : Nat} (hk : Kept m s0 s) : Kept m s0 (State.stlThaw s i) := by
  unfold State.stlThaw
  extract_lets +onlyGivenNames dt add
  refine State.setStSt_kept (Sub.trans (b := 1099512676352) (by decide) hp) (Kept.forEach (fun t k ht => ?_) hk)
  have hadd : ∀ d : MbxDir, (add d).q = d.q := fun d => by unfold add; split <;> rfl
  refine State.setMb_kept (Sub.trans (b := 1099512676352) (by decide) hp) (fun h => ⟨?_, ?_⟩) ht
  · simp only [hadd]; exact h.1
  · simp only [hadd]; exact h.2

theorem State.stlRun_kept {m : Nat} {s0 : State} (hp : Sub 562949449973762 m) {s : State} {i : Nat} {c : Nat} (hk : Kept m s0 s) : Kept m s0 (State.stlRun s i c).1 := by
  unfold State.stlRun
  split
  · show Kept m s0 _
    refine State.setStSt_kept (Sub.trans (b := 562949449973762) (by decide) hp) ?_
    assumption
  · show Kept m s0 _
    refine Kept.forEach (fun z0 a1 h2 => ?_) ?_
    · extract_lets +onlyGivenNames x3
      refine Kept.cond (fun _ => ?_) (fun _ => ?_)
      · refine State.evdEnSet_kept (Sub.trans (b := 562949449973762) (by decide) hp) ?_
        assumption
      · refine State.evdEnClr_kept (Sub.trans (b := 562949449973762) (by decide) hp) ?_
        assumption
    · refine State.setStSt_kept (Sub.trans (b := 562949449973762) (by decide) hp) ?_
      assumption
  · show Kept m s0 _
    refine State.setStSt_kept (Sub.trans (b := 562949449973762) (by decide) hp) ?_
    refine State.setStl_kept (Sub.trans (b := 562949449973762) (by decide) hp) ?_
    assumption
  · show Kept m s0 _
    refine State.stlThaw_kept (Sub.trans (b := 562949449973762) (by decide) hp) ?_
    assumption
  · refine State.stlSave_kept (Sub.trans (b := 562949449973762) (by decide) hp) ?_
    assumption
  · refine State.stlRestore_kept (Sub.trans (b := 562949449973762) (by decide) hp) ?_
    assumption
  · show Kept m s0 _
    refine State.setStSt_kept (Sub.trans (b := 562949449973762) (by decide) hp) ?_
    refine State.stlClear_kept (Sub.trans (b := 562949449973762) (by decide) hp) ?_
    assumption
  · extract_lets +onlyGivenNames x4
    extract_lets +onlyGivenNames x5
    have h6 : Kept m s0 x5 := by
      unfold x5
      refine Kept.forEach (fun z7 a8 h9 => ?_) ?_
      · refine State.wr_kept' Reg.CH_OWN_block (hp.bit (by decide)) ?_
        assumption
      · refine State.stlClear_kept (Sub.trans (b := 562949449973762) (by decide) hp) ?_
        assumption
    try (generalize x5 = y5 at h6 ⊢; try clear x5)
    show Kept m s0 _
    refine State.setStSt_kept (Sub.trans (b := 562949449973762) (by decide) hp) ?_
    refine State.stlUnmap_kept (Sub.trans (b := 562949449973762) (by decide) hp) ?_
    assumption
  · show Kept m s0 _
    assumption

theorem State.stlCtl_kept {m : Nat} {s0 : State} (hp : Sub 17455078309890 m) {s : State} {i : Nat} {v : W32} (hk : Kept m s0 s) : Kept m s0 (State.stlCtl s i v) := by
  unfold State.stlCtl
  extract_lets +onlyGivenNames x0
  refine Kept.cond (fun _ => ?_) (fun _ => ?_)
  · assumption
  · refine Kept.cond (fun _ => ?_) (fun _ => ?_)
    · extract_lets +onlyGivenNames x1
      extract_lets +onlyGivenNames x2
      have h3 : Kept m s0 x2 := by
        unfold x2
        refine State.setStl_kept (Sub.trans (b := 17455078309890) (by decide) hp) ?_
        assumption
      try (generalize x2 = y2 at h3 ⊢; try clear x2)
      refine Kept.cond (fun _ => ?_) (fun _ => ?_)
      · refine State.quiesce_kept hp ?_
        assumption
      · assumption
    · refine State.stDone_kept (Sub.trans (b := 17455078309890) (by decide) hp) ?_
      assumption

theorem State.stlBind_kept {m : Nat} {s0 : State} (hp : Sub 1099511627776 m) {s : State} {i : Nat} {v : W32} (hk : Kept m s0 s) : Kept m s0 (State.stlBind s i v) := by
  unfold State.stlBind
  refine Kept.cond (fun _ => ?_) (fun _ => ?_)
  · refine State.stCode_kept hp ?_
    assumption
  · refine State.plainWrite_kept' Reg.STL_BIND_block (hp.bit (by decide)) ?_
    assumption

theorem State.stlResetAll_kept {m : Nat} {s0 : State} (hp : Sub 1099520016384 m) {s : State} (hk : Kept m s0 s) : Kept m s0 (State.stlResetAll s) := by
  unfold State.stlResetAll
  extract_lets +onlyGivenNames x0
  have h1 : Kept m s0 x0 := by
    unfold x0
    refine State.clearRegs_keptM hp (by decide +kernel) ?_
    assumption
  try (generalize x0 = y0 at h1 ⊢; try clear x0)
  refine Kept.upd_stall (hp.bit (by decide)) ?_
  assumption

theorem State.stlRing_kept {m : Nat} {s0 : State} (hp : Sub 3435991269376 m) {s : State} {i : Nat} {v : W32} (hk : Kept m s0 s) : Kept m s0 (State.stlRing s i v) := by
  unfold State.stlRing
  refine Kept.cond (fun _ => ?_) (fun _ => ?_)
  · refine State.raise_kept (Sub.trans (b := 3435991269376) (by decide) hp) ?_
    refine State.pb_kept' Reg.STL_MGR_STAT_block (hp.bit (by decide)) ?_
    assumption
  · assumption

theorem State.stlSlots_kept {m : Nat} {s0 : State} (_ : Sub 0 m) {s : State} {i : Nat} {v : W32} {f : State → Nat → W32 → State} (hfn_f : ∀ y0 y1 y2, Kept m s0 y0 → Kept m s0 (f y0 y1 y2)) (hk : Kept m s0 s) : Kept m s0 (State.stlSlots s i v f) := by
  unfold State.stlSlots
  refine Kept.forEach (fun z0 a1 h2 => ?_) ?_
  · refine hfn_f _ _ _ ?_
    assumption
  · assumption

theorem State.stlAlloc_kept {m : Nat} {s0 : State} (hp : Sub 70368748371968 m) {s : State} {i : Nat} (hk : Kept m s0 s) : Kept m s0 (State.stlAlloc s i).1 := by
  unfold State.stlAlloc
  extract_lets +onlyGivenNames x0
  refine Kept.cond1 (fun _ => ?_) (fun _ => ?_)
  · show Kept m s0 _
    assumption
  · split
    · next e3 =>
        have h4 : Kept m s0 _ := Kept.fst e3 (by
            refine State.allocGranule_kept hp ?_
            assumption
          )
        show Kept m s0 _
        assumption

theorem State.stlFree_kept {m : Nat} {s0 : State} (hp : Sub 70368748371968 m) {s : State} {i : Nat} {v : W32} (hk : Kept m s0 s) : Kept m s0 (State.stlFree s i v) := by
  unfold State.stlFree
  extract_lets +onlyGivenNames x0
  split
  · refine Kept.cond (fun _ => ?_) (fun _ => ?_)
    · refine Kept.upd_basin (hp.bit (by decide)) ?_
      assumption
    · refine State.badFree_kept (Sub.trans (b := 70368748371968) (by decide) hp) ?_
      assumption
  · refine State.badFree_kept (Sub.trans (b := 70368748371968) (by decide) hp) ?_
    assumption

theorem State.lvCmd_kept {m : Nat} {s0 : State} (hp : Sub 1099520016384 m) {s : State} {i : Nat} {v : W32} (hk : Kept m s0 s) : Kept m s0 (State.lvCmd s i v) := by
  unfold State.lvCmd
  extract_lets +onlyGivenNames x0
  have h1 : Kept m s0 x0 := by
    unfold x0
    refine State.plainWrite_kept' Reg.STL_T_LV_CMD_block (hp.bit (by decide)) ?_
    assumption
  try (generalize x0 = y0 at h1 ⊢; try clear x0)
  refine Kept.cond (fun _ => ?_) (fun _ => ?_)
  · refine State.setStl_kept (Sub.trans (b := 1099520016384) (by decide) hp) ?_
    assumption
  · assumption

theorem State.lvRun_kept {m : Nat} {s0 : State} (hp : Sub 1099512053762 m) {s : State} {i : Nat} {cmd : Nat} (hk : Kept m s0 s) : Kept m s0 (State.lvRun s i cmd).1 := by
  unfold State.lvRun
  extract_lets +onlyGivenNames x0
  extract_lets +onlyGivenNames x1
  extract_lets +onlyGivenNames x2
  extract_lets +onlyGivenNames x3
  extract_lets +onlyGivenNames x4
  extract_lets +onlyGivenNames x5
  refine Kept.cond1 (fun _ => ?_) (fun _ => ?_)
  · show Kept m s0 _
    assumption
  · refine Kept.cond1 (fun _ => ?_) (fun _ => ?_)
    · show Kept m s0 _
      assumption
    · refine Kept.cond1 (fun _ => ?_) (fun _ => ?_)
      · show Kept m s0 _
        assumption
      · refine Kept.cond1 (fun _ => ?_) (fun _ => ?_)
        · extract_lets +onlyGivenNames x6
          extract_lets +onlyGivenNames x7
          extract_lets +onlyGivenNames x8
          extract_lets +onlyGivenNames x9
          show Kept m s0 _
          refine State.serPut_kept (Sub.trans (b := 1099512053762) (by decide) hp) ?_
          assumption
        · show Kept m s0 _
          refine Kept.forEach (fun z10 a11 h12 => ?_) ?_
          · refine State.wr_kept' Reg.STL_T_LV_DATA_block (hp.bit (by decide)) ?_
            assumption
          · assumption

theorem execStallQuiet_kept {m : Nat} {s0 : State} (hp : Sub 3435999657984 m) {i : Fin 256} {s : State} (hk : Kept m s0 s) : OutKept m s0 (execStallQuiet i s) := by
  unfold execStallQuiet
  refine OutKept.next ?_
  refine Kept.cond (fun _ => ?_) (fun _ => ?_)
  · refine State.raise_kept (Sub.trans (b := 3435999657984) (by decide) hp) ?_
    refine State.stDone_kept (Sub.trans (b := 3435999657984) (by decide) hp) ?_
    refine State.setStSt_kept (Sub.trans (b := 3435999657984) (by decide) hp) ?_
    refine State.setStl_kept (Sub.trans (b := 3435999657984) (by decide) hp) ?_
    assumption
  · assumption

theorem execStallCmdDone_kept {m : Nat} {s0 : State} (hp : Sub 562949449973762 m) {i : Fin 256} {s : State} (hk : Kept m s0 s) : OutKept m s0 (execStallCmdDone i s) := by
  unfold execStallCmdDone
  refine OutKept.next ?_
  split
  · refine Kept.cond (fun _ => ?_) (fun _ => ?_)
    · assumption
    · split
      · next e2 =>
          have h3 : Kept m s0 _ := Kept.fst e2 (by
              refine State.stlRun_kept hp ?_
              refine State.setStl_kept (Sub.trans (b := 562949449973762) (by decide) hp) ?_
              assumption
            )
          refine State.stDone_kept (Sub.trans (b := 562949449973762) (by decide) hp) ?_
          assumption
  · assumption

theorem execLvCmdDone_kept {m : Nat} {s0 : State} (hp : Sub 1099520442370 m) {i : Fin 256} {s : State} (hk : Kept m s0 s) : OutKept m s0 (execLvCmdDone i s) := by
  unfold execLvCmdDone
  refine OutKept.next ?_
  split
  · split
    · next e2 =>
        have h3 : Kept m s0 _ := Kept.fst e2 (by
            refine State.lvRun_kept (Sub.trans (b := 1099520442370) (by decide) hp) ?_
            refine State.setStl_kept (Sub.trans (b := 1099520442370) (by decide) hp) ?_
            assumption
          )
        refine State.wr_kept' Reg.STL_T_LV_STAT_block (hp.bit (by decide)) ?_
        assumption
  · assumption

end Sys2Proof.Machine
end

