-- ==== Sys2Proof/Laws/KeptPower.lean ====
section
/-!
SUPPORT. What the definitions of Machine/Power.lean keep: one lemma each.
-/
namespace Sys2Proof.Machine

theorem State.clearAt_kept {m : Nat} {s0 : State} (hp : Sub 562949416550400 m) {s : State} {r : Reg} {i : Nat} (hk : Kept m s0 s) : Kept m s0 (State.clearAt s r i) := by
  unfold State.clearAt
  refine Kept.upd ?_ rfl (Nat.le_refl _) (fun r hr => absurd (Sub.reg (Sub.trans (b := 562949416550400) (by decide) hp) r) (by simp [hr])) (.inr rfl) (.inr rfl) (.inr rfl) (.inr rfl) (.inr rfl) (.inr rfl) (.inr rfl) (.inr rfl) (.inr rfl) (.inr rfl) (.inr rfl) (.inr rfl) (.inr rfl) (.inr rfl) (.inr rfl) (.inr rfl) (.inr rfl) (.inr rfl) (.inr rfl) (.inr rfl) (.inr rfl) (.inr rfl) (.inr rfl) (.inr rfl) (.inr rfl) (.inr rfl) (.inr rfl) (.inr rfl) (.inr rfl) (.inr rfl) (.inr rfl)
  assumption

theorem State.dropLines_kept {m : Nat} {s0 : State} (hp : Sub 2 m) {s : State} {x1_ : List (Nat × Bytes)} (hk : Kept m s0 s) : Kept m s0 (State.dropLines s x1_) := by
  unfold State.dropLines
  split
  · assumption
  · refine State.dropLines_kept hp ?_
    refine State.tick1_kept (Sub.trans (b := 2) (by decide) hp) ?_
    refine Kept.cond (fun _ => ?_) (fun _ => ?_)
    · refine State.mput_kept hp ?_
      assumption
    · assumption

theorem State.haltNow_kept {m : Nat} {s0 : State} (hp : Sub 4398046642176 m) {s : State} {n : Nat} {reason : Nat} (hk : Kept m s0 s) : Kept m s0 (State.haltNow s n reason) := by
  unfold State.haltNow
  extract_lets +onlyGivenNames x0
  extract_lets +onlyGivenNames x1
  have h2 : Kept m s0 x1 := by
    unfold x1
    first | refine State.setCor_keptOf (Sub.trans (b := 4398046642176) (by decide) hp) (by assumption) (fun h => h) ?_ | refine State.setCor_kept (Sub.trans (b := 4398046642176) (by decide) hp) (by first | exact fun h => h | exact fun _ => ⟨Nat.zero_le _, Nat.zero_le _, Nat.zero_le _⟩ | exact fun h => ⟨Nat.zero_le _, h.2⟩ | exact fun h => ⟨List.length_take_le _ _, h.2⟩ | (intro h; simp +zetaDelta only [Core.inCap] at h ⊢; exact h) | exact fun h => ⟨h.1, Nat.le_trans (List.length_filter_le _ _) h.2.1, Nat.le_trans (List.length_filter_le _ _) h.2.2⟩) ?_
    assumption
  try (generalize x1 = y1 at h2 ⊢; try clear x1)
  refine State.pb_kept' Reg.DBG_CORE_STAT_block (hp.bit (by decide)) ?_
  refine State.pf_kept' Reg.DBG_CORE_STAT_block (hp.bit (by decide)) ?_
  assumption

theorem State.haltWaits_kept {m : Nat} {s0 : State} (hp : Sub 4398046642176 m) {s : State} {n : Nat} (hk : Kept m s0 s) : Kept m s0 (State.haltWaits s n) := by
  unfold State.haltWaits
  refine Kept.cond (fun _ => ?_) (fun _ => ?_)
  · refine State.haltNow_kept hp ?_
    assumption
  · assumption

theorem State.unhalt_kept {m : Nat} {s0 : State} (hp : Sub 4398046511104 m) {s : State} {n : Nat} (hk : Kept m s0 s) : Kept m s0 (State.unhalt s n) := by
  unfold State.unhalt
  refine Kept.cond (fun _ => ?_) (fun _ => ?_)
  · refine State.wr_kept' Reg.DBG_CORE_STAT_block (hp.bit (by decide)) ?_
    assumption
  · assumption

theorem State.coreStart_kept {m : Nat} {s0 : State} (hp : Sub 6597070422016 m) {s : State} {n : Nat} {pc : W64} (hk : Kept m s0 s) : Kept m s0 (State.coreStart s n pc) := by
  unfold State.coreStart
  refine Kept.cond (fun _ => ?_) (fun _ => ?_)
  · assumption
  · extract_lets +onlyGivenNames x0
    have h1 : Kept m s0 x0 := by
      unfold x0
      refine State.regionUp_kept (Sub.trans (b := 6597070422016) (by decide) hp) ?_
      assumption
    try (generalize x0 = y0 at h1 ⊢; try clear x0)
    extract_lets +onlyGivenNames x2
    extract_lets +onlyGivenNames x3
    extract_lets +onlyGivenNames x4
    have h5 : Kept m s0 x4 := by
      unfold x4
      refine State.withdraw_kept (Sub.trans (b := 6597070422016) (by decide) hp) ?_
      first | refine State.setCor_keptOf (Sub.trans (b := 6597070422016) (by decide) hp) (by assumption) (fun h => h) ?_ | refine State.setCor_kept (Sub.trans (b := 6597070422016) (by decide) hp) (by first | exact fun h => h | exact fun _ => ⟨Nat.zero_le _, Nat.zero_le _, Nat.zero_le _⟩ | exact fun h => ⟨Nat.zero_le _, h.2⟩ | exact fun h => ⟨List.length_take_le _ _, h.2⟩ | (intro h; simp +zetaDelta only [Core.inCap] at h ⊢; exact h) | exact fun h => ⟨h.1, Nat.le_trans (List.length_filter_le _ _) h.2.1, Nat.le_trans (List.length_filter_le _ _) h.2.2⟩) ?_
      refine State.unhalt_kept (Sub.trans (b := 6597070422016) (by decide) hp) ?_
      assumption
    try (generalize x4 = y4 at h5 ⊢; try clear x4)
    refine Kept.cond (fun _ => ?_) (fun _ => ?_)
    · refine State.haltNow_kept (Sub.trans (b := 6597070422016) (by decide) hp) ?_
      assumption
    · assumption

theorem State.coreOff_kept {m : Nat} {s0 : State} (hp : Sub 4398046642176 m) {s : State} {n : Nat} (hk : Kept m s0 s) : Kept m s0 (State.coreOff s n) := by
  unfold State.coreOff
  first | refine State.setCor_keptOf (Sub.trans (b := 4398046642176) (by decide) hp) (by assumption) (fun h => h) ?_ | refine State.setCor_kept (Sub.trans (b := 4398046642176) (by decide) hp) (by first | exact fun h => h | exact fun _ => ⟨Nat.zero_le _, Nat.zero_le _, Nat.zero_le _⟩ | exact fun h => ⟨Nat.zero_le _, h.2⟩ | exact fun h => ⟨List.length_take_le _ _, h.2⟩ | (intro h; simp +zetaDelta only [Core.inCap] at h ⊢; exact h) | exact fun h => ⟨h.1, Nat.le_trans (List.length_filter_le _ _) h.2.1, Nat.le_trans (List.length_filter_le _ _) h.2.2⟩) ?_
  refine State.unhalt_kept (Sub.trans (b := 4398046642176) (by decide) hp) ?_
  assumption

theorem State.coreReset_kept {m : Nat} {s0 : State} (hp : Sub 6597070422018 m) {s : State} {n : Nat} (hk : Kept m s0 s) : Kept m s0 (State.coreReset s n) := by
  unfold State.coreReset
  refine State.coreStart_kept (Sub.trans (b := 6597070422018) (by decide) hp) ?_
  refine State.dropLines_kept (Sub.trans (b := 6597070422018) (by decide) hp) ?_
  assumption

theorem State.pwrCoreCtl_kept {m : Nat} {s0 : State} (hp : Sub 6597070422016 m) {s : State} {n : Nat} {v : W32} (hk : Kept m s0 s) : Kept m s0 (State.pwrCoreCtl s n v) := by
  unfold State.pwrCoreCtl
  extract_lets +onlyGivenNames x0
  have h1 : Kept m s0 x0 := by
    unfold x0
    refine State.plainWrite_kept' Reg.PWR_CORE_CTL_block (hp.bit (by decide)) ?_
    assumption
  try (generalize x0 = y0 at h1 ⊢; try clear x0)
  refine Kept.cond (fun _ => ?_) (fun _ => ?_)
  · assumption
  · refine Kept.cond (fun _ => ?_) (fun _ => ?_)
    · refine State.coreStart_kept hp ?_
      assumption
    · refine State.pb_kept' Reg.PWR_CORE_STAT_block (hp.bit (by decide)) ?_
      assumption

theorem State.clearEach_kept {m : Nat} {s0 : State} (hp : Sub 562949416550400 m) {s : State} {rs : List (Reg × Nat)} {idx : Nat} (hk : Kept m s0 s) : Kept m s0 (State.clearEach s rs idx) := by
  unfold State.clearEach
  refine Kept.upd ?_ rfl (Nat.le_refl _) (fun r hr => absurd (Sub.reg (Sub.trans (b := 562949416550400) (by decide) hp) r) (by simp [hr])) (.inr rfl) (.inr rfl) (.inr rfl) (.inr rfl) (.inr rfl) (.inr rfl) (.inr rfl) (.inr rfl) (.inr rfl) (.inr rfl) (.inr rfl) (.inr rfl) (.inr rfl) (.inr rfl) (.inr rfl) (.inr rfl) (.inr rfl) (.inr rfl) (.inr rfl) (.inr rfl) (.inr rfl) (.inr rfl) (.inr rfl) (.inr rfl) (.inr rfl) (.inr rfl) (.inr rfl) (.inr rfl) (.inr rfl) (.inr rfl) (.inr rfl)
  assumption

theorem State.clearUnitRegs_kept {m : Nat} {s0 : State} (hp : Sub 562949416550400 m) {s : State} {kind : Nat} {idx : Nat} (hk : Kept m s0 s) : Kept m s0 (State.clearUnitRegs s kind idx) := by
  unfold State.clearUnitRegs
  refine State.clearEach_kept hp ?_
  assumption

theorem State.lcClear_kept {m : Nat} {s0 : State} (hp : Sub 562949416550400 m) {s : State} {c : Nat} (hk : Kept m s0 s) : Kept m s0 (State.lcClear s c) := by
  unfold State.lcClear
  refine State.clearEach_kept hp ?_
  assumption

theorem State.plStart_kept {m : Nat} {s0 : State} (hp : Sub 2147483776 m) {s : State} {n : Nat} (hk : Kept m s0 s) : Kept m s0 (State.plStart s n) := by
  unfold State.plStart
  refine Kept.cond (fun _ => ?_) (fun _ => ?_)
  · refine State.enumFull_kept hp ?_
    assumption
  · assumption

theorem State.adcReset_kept {m : Nat} {s0 : State} (hp : Sub 562949416558592 m) {s : State} {ch : Nat} (hk : Kept m s0 s) : Kept m s0 (State.adcReset s ch) := by
  unfold State.adcReset
  extract_lets +onlyGivenNames x0
  have h1 : Kept m s0 x0 := by
    unfold x0
    refine Kept.cond (fun _ => ?_) (fun _ => ?_)
    · refine State.clearAt_kept (Sub.trans (b := 562949416558592) (by decide) hp) ?_
      assumption
    · refine State.clearAt_kept (Sub.trans (b := 562949416558592) (by decide) hp) ?_
      assumption
  try (generalize x0 = y0 at h1 ⊢; try clear x0)
  extract_lets +onlyGivenNames x2
  have h3 : Kept m s0 x2 := by
    unfold x2
    refine State.clrB_kept' rfl (Sub.reg (Sub.trans (b := 562949416558592) (by decide) hp) _) ?_
    assumption
  try (generalize x2 = y2 at h3 ⊢; try clear x2)
  refine Kept.upd_adc (hp.bit (by decide)) ?_
  assumption

theorem State.lePowerOff_kept {m : Nat} {s0 : State} (hp : Sub 512 m) {s : State} {j : Nat} (hk : Kept m s0 s) : Kept m s0 (State.lePowerOff s j) := by
  unfold State.lePowerOff
  extract_lets +onlyGivenNames x0
  refine State.setLe_kept hp ?_
  assumption

theorem State.unitReset1_kept {m : Nat} {s0 : State} (hp : Sub 562949458125442 m) {s : State} {kind : Nat} {idx : Nat} (hk : Kept m s0 s) : Kept m s0 (State.unitReset1 s kind idx) := by
  unfold State.unitReset1
  extract_lets +onlyGivenNames x0
  have h1 : Kept m s0 x0 := by
    unfold x0
    refine State.clearUnitRegs_kept (Sub.trans (b := 562949458125442) (by decide) hp) ?_
    assumption
  try (generalize x0 = y0 at h1 ⊢; try clear x0)
  split
  · refine Kept.cond (fun _ => ?_) (fun _ => ?_)
    · assumption
    · refine State.coreReset_kept (Sub.trans (b := 562949458125442) (by decide) hp) ?_
      assumption
  · refine Kept.forEach (fun z2 a3 h4 => ?_) ?_
    · refine State.setLe_kept (Sub.trans (b := 562949458125442) (by decide) hp) ?_
      assumption
    · assumption
  · refine Kept.upd_dma (hp.bit (by decide)) ?_
    assumption
  · refine Kept.upd_evd (hp.bit (by decide)) ?_
    assumption
  · refine State.setPrt_kept (Sub.trans (b := 562949458125442) (by decide) hp) ?_
    assumption
  · refine Kept.upd_hint (hp.bit (by decide)) ?_
    assumption
  · refine State.adcReset_kept (Sub.trans (b := 562949458125442) (by decide) hp) ?_
    assumption
  · refine State.mbxReset_kept (Sub.trans (b := 562949458125442) (by decide) hp) ?_
    assumption
  · refine State.setXp_kept (Sub.trans (b := 562949458125442) (by decide) hp) ?_
    refine State.dropGranules_kept (Sub.trans (b := 562949458125442) (by decide) hp) ?_
    assumption
  · assumption

theorem State.setFence_kept {m : Nat} {s0 : State} (hp : Sub 2147483652 m) {s : State} {kind : Nat} {idx : Nat} (hk : Kept m s0 s) : Kept m s0 (State.setFence s kind idx) := by
  unfold State.setFence
  extract_lets +onlyGivenNames x0
  have h1 : Kept m s0 x0 := by
    unfold x0
    refine Kept.cond (fun _ => ?_) (fun _ => ?_)
    · refine State.prbsEnd_kept (Sub.trans (b := 2147483652) (by decide) hp) ?_
      assumption
    · assumption
  try (generalize x0 = y0 at h1 ⊢; try clear x0)
  refine State.setUnit_kept (Sub.trans (b := 2147483652) (by decide) hp) ?_
  assumption

theorem State.unitAct_kept {m : Nat} {s0 : State} (hp : Sub 562949458126470 m) {s : State} {kind : Nat} {idx : Nat} {b : Nat} (hk : Kept m s0 s) : Kept m s0 (State.unitAct s kind idx b) := by
  unfold State.unitAct
  extract_lets +onlyGivenNames x0
  split
  · refine Kept.cond (fun _ => ?_) (fun _ => ?_)
    · refine State.setUnit_kept (Sub.trans (b := 562949458126470) (by decide) hp) ?_
      refine State.unitReset1_kept (Sub.trans (b := 562949458126470) (by decide) hp) ?_
      assumption
    · refine State.unitReset1_kept (Sub.trans (b := 562949458126470) (by decide) hp) ?_
      assumption
  · refine State.withdraw_kept (Sub.trans (b := 562949458126470) (by decide) hp) ?_
    refine State.setFence_kept (Sub.trans (b := 562949458126470) (by decide) hp) ?_
    assumption
  · refine Kept.cond (fun _ => ?_) (fun _ => ?_)
    · assumption
    · extract_lets +onlyGivenNames x1
      have h2 : Kept m s0 x1 := by
        unfold x1
        refine State.setUnit_kept (Sub.trans (b := 562949458126470) (by decide) hp) ?_
        assumption
      try (generalize x1 = y1 at h2 ⊢; try clear x1)
      refine Kept.cond (fun _ => ?_) (fun _ => ?_)
      · refine State.plStart_kept (Sub.trans (b := 562949458126470) (by decide) hp) ?_
        assumption
      · refine Kept.cond (fun _ => ?_) (fun _ => ?_)
        · refine State.setLc_kept (Sub.trans (b := 562949458126470) (by decide) hp) ?_
          assumption
        · refine Kept.cond (fun _ => ?_) (fun _ => ?_)
          · refine State.haltWaits_kept (Sub.trans (b := 562949458126470) (by decide) hp) ?_
            refine State.withdraw_kept (Sub.trans (b := 562949458126470) (by decide) hp) ?_
            assumption
          · refine State.withdraw_kept (Sub.trans (b := 562949458126470) (by decide) hp) ?_
            assumption
  · extract_lets +onlyGivenNames x3
    have h4 : Kept m s0 x3 := by
      unfold x3
      refine State.setUnit_kept (Sub.trans (b := 562949458126470) (by decide) hp) ?_
      assumption
    try (generalize x3 = y3 at h4 ⊢; try clear x3)
    refine State.withdraw_kept (Sub.trans (b := 562949458126470) (by decide) hp) ?_
    split
    · refine State.coreOff_kept (Sub.trans (b := 562949458126470) (by decide) hp) ?_
      assumption
    · refine State.lePowerOff_kept (Sub.trans (b := 562949458126470) (by decide) hp) ?_
      assumption
    · refine State.unitReset1_kept (Sub.trans (b := 562949458126470) (by decide) hp) ?_
      assumption
  · refine State.setUnit_kept (Sub.trans (b := 562949458126470) (by decide) hp) ?_
    assumption
  · refine State.setUnit_kept (Sub.trans (b := 562949458126470) (by decide) hp) ?_
    assumption

theorem State.unitCtl_kept {m : Nat} {s0 : State} (hp : Sub 2199040033280 m) {s : State} {v : W32} (hk : Kept m s0 s) : Kept m s0 (State.unitCtl s v) := by
  unfold State.unitCtl
  extract_lets +onlyGivenNames x0
  have h1 : Kept m s0 x0 := by
    unfold x0
    refine State.plainWrite_kept' Reg.PWR_UNIT_CTL_block (hp.bit (by decide)) ?_
    assumption
  try (generalize x0 = y0 at h1 ⊢; try clear x0)
  extract_lets +onlyGivenNames x2
  extract_lets +onlyGivenNames x3
  extract_lets +onlyGivenNames x4
  refine Kept.cond (fun _ => ?_) (fun _ => ?_)
  · assumption
  · extract_lets +onlyGivenNames x5
    extract_lets +onlyGivenNames x6
    have h7 : Kept m s0 x6 := by
      unfold x6
      refine Kept.upd_pwr (hp.bit (by decide)) ?_
      assumption
    try (generalize x6 = y6 at h7 ⊢; try clear x6)
    refine Kept.cond (fun _ => ?_) (fun _ => ?_)
    · extract_lets +onlyGivenNames x8
      refine State.setLe_kept (Sub.trans (b := 2199040033280) (by decide) hp) ?_
      assumption
    · assumption

theorem State.unitRun_kept {m : Nat} {s0 : State} (hp : Sub 562949458126470 m) {s : State} {acts : Nat} {kind : Nat} {idx : Nat} (hk : Kept m s0 s) : Kept m s0 (State.unitRun s acts kind idx).1 := by
  unfold State.unitRun
  extract_lets +onlyGivenNames x0
  refine Kept.cond1 (fun _ => ?_) (fun _ => ?_)
  · show Kept m s0 _
    assumption
  · extract_lets +onlyGivenNames x1
    show Kept m s0 _
    refine Kept.forEach (fun z2 a3 h4 => ?_) ?_
    · refine State.unitAct_kept hp ?_
      assumption
    · assumption

theorem State.unitEdge_kept {m : Nat} {s0 : State} (hp : Sub 562949474903686 m) {s : State} {le : Bool} (hk : Kept m s0 s) : Kept m s0 (State.unitEdge s le) := by
  unfold State.unitEdge
  split
  · refine Kept.cond (fun _ => ?_) (fun _ => ?_)
    · split
      · next e2 =>
          have h3 : Kept m s0 _ := Kept.fst e2 (by
              refine State.unitRun_kept (Sub.trans (b := 562949474903686) (by decide) hp) ?_
              assumption
            )
          refine Kept.upd_pwr (hp.bit (by decide)) ?_
          assumption
    · assumption
  · assumption

theorem State.fenceRegion_kept {m : Nat} {s0 : State} (hp : Sub 2336479641604 m) {s : State} {r : Nat} (hk : Kept m s0 s) : Kept m s0 (State.fenceRegion s r) := by
  unfold State.fenceRegion
  extract_lets +onlyGivenNames x0
  have h1 : Kept m s0 x0 := by
    unfold x0
    refine Kept.forEach (fun z2 a3 h4 => ?_) ?_
    · refine State.setUnit_kept (Sub.trans (b := 2336479641604) (by decide) hp) ?_
      assumption
    · assumption
  try (generalize x0 = y0 at h1 ⊢; try clear x0)
  refine State.raise_kept (Sub.trans (b := 2336479641604) (by decide) hp) ?_
  refine State.withdraw_kept (Sub.trans (b := 2336479641604) (by decide) hp) ?_
  refine State.setUnit_kept (Sub.trans (b := 2336479641604) (by decide) hp) ?_
  refine State.setUnit_kept (Sub.trans (b := 2336479641604) (by decide) hp) ?_
  assumption

theorem State.fenceLc_kept {m : Nat} {s0 : State} (hp : Sub 2336479708672 m) {s : State} {c : Nat} (hk : Kept m s0 s) : Kept m s0 (State.fenceLc s c) := by
  unfold State.fenceLc
  refine Kept.cond (fun _ => ?_) (fun _ => ?_)
  · assumption
  · extract_lets +onlyGivenNames x0
    extract_lets +onlyGivenNames x1
    have h2 : Kept m s0 x1 := by
      unfold x1
      refine State.setLc_kept (Sub.trans (b := 2336479708672) (by decide) hp) ?_
      assumption
    try (generalize x1 = y1 at h2 ⊢; try clear x1)
    extract_lets +onlyGivenNames x3
    have h4 : Kept m s0 x3 := by
      unfold x3
      refine Kept.forEach (fun z5 a6 h7 => ?_) ?_
      · extract_lets +onlyGivenNames x8
        refine State.setLe_kept (Sub.trans (b := 2336479708672) (by decide) hp) ?_
        assumption
      · assumption
    try (generalize x3 = y3 at h4 ⊢; try clear x3)
    refine State.raise_kept (Sub.trans (b := 2336479708672) (by decide) hp) ?_
    refine Kept.upd_cmp (hp.bit (by decide)) ?_
    assumption

theorem State.slEnd_kept {m : Nat} {s0 : State} (hp : Sub 2336479641600 m) {s : State} {r : Nat} {code : Nat} (hk : Kept m s0 s) : Kept m s0 (State.slEnd s r code) := by
  unfold State.slEnd
  extract_lets +onlyGivenNames x0
  extract_lets +onlyGivenNames x1
  extract_lets +onlyGivenNames x2
  extract_lets +onlyGivenNames x3
  have h4 : Kept m s0 x3 := by
    unfold x3
    refine Kept.upd_pwr (hp.bit (by decide)) ?_
    assumption
  try (generalize x3 = y3 at h4 ⊢; try clear x3)
  extract_lets +onlyGivenNames x5
  have h6 : Kept m s0 x5 := by
    unfold x5
    refine State.pf_kept' Reg.PWR_REG_STAT_block (hp.bit (by decide)) ?_
    assumption
  try (generalize x5 = y5 at h6 ⊢; try clear x5)
  refine State.raise_kept hp ?_
  refine State.pb_kept' Reg.PWR_REG_STAT_block (hp.bit (by decide)) ?_
  assumption

theorem State.setSl_kept {m : Nat} {s0 : State} (hp : Sub 16777216 m) {s : State} {r : Nat} {x : Sluice} (hk : Kept m s0 s) : Kept m s0 (State.setSl s r x) := by
  unfold State.setSl
  refine Kept.upd_pwr (hp.bit (by decide)) ?_
  assumption

theorem State.slRise_kept {m : Nat} {s0 : State} (hp : Sub 2336479641600 m) {s : State} {r : Nat} {x : Sluice} (hk : Kept m s0 s) : Kept m s0 (State.slRise s r x) := by
  unfold State.slRise
  refine Kept.cond (fun _ => ?_) (fun _ => ?_)
  · refine State.setSl_kept (Sub.trans (b := 2336479641600) (by decide) hp) ?_
    assumption
  · refine State.slEnd_kept hp ?_
    assumption

theorem State.slVolt_kept {m : Nat} {s0 : State} (hp : Sub 2336513196032 m) {s : State} {r : Nat} {x : Sluice} (hk : Kept m s0 s) : Kept m s0 (State.slVolt s r x) := by
  unfold State.slVolt
  refine Kept.cond (fun _ => ?_) (fun _ => ?_)
  · extract_lets +onlyGivenNames x0
    extract_lets +onlyGivenNames x1
    have h2 : Kept m s0 x1 := by
      unfold x1
      refine State.setSl_kept (Sub.trans (b := 2336513196032) (by decide) hp) ?_
      assumption
    try (generalize x1 = y1 at h2 ⊢; try clear x1)
    refine Kept.cond (fun _ => ?_) (fun _ => ?_)
    · refine State.setXp_kept (Sub.trans (b := 2336513196032) (by decide) hp) ?_
      assumption
    · assumption
  · refine State.slRise_kept (Sub.trans (b := 2336513196032) (by decide) hp) ?_
    assumption

theorem State.slStart_kept {m : Nat} {s0 : State} (hp : Sub 2336513196032 m) {s : State} {r : Nat} {x : Sluice} (hk : Kept m s0 s) : Kept m s0 (State.slStart s r x) := by
  unfold State.slStart
  extract_lets +onlyGivenNames x0
  have h1 : Kept m s0 x0 := by
    unfold x0
    refine State.pb_kept' Reg.PWR_REG_STAT_block (hp.bit (by decide)) ?_
    refine State.setSl_kept (Sub.trans (b := 2336513196032) (by decide) hp) ?_
    assumption
  try (generalize x0 = y0 at h1 ⊢; try clear x0)
  refine Kept.cond (fun _ => ?_) (fun _ => ?_)
  · assumption
  · refine State.slVolt_kept hp ?_
    assumption

theorem State.slReq_kept {m : Nat} {s0 : State} (hp : Sub 2336513196032 m) {s : State} {r : Nat} {v : Nat} {f0 : Nat} {f1 : Nat} {ok : Bool} (hk : Kept m s0 s) : Kept m s0 (State.slReq s r v f0 f1 ok).1 := by
  unfold State.slReq
  extract_lets +onlyGivenNames x0
  extract_lets +onlyGivenNames x1
  refine Kept.cond1 (fun _ => ?_) (fun _ => ?_)
  · show Kept m s0 _
    refine State.slEnd_kept (Sub.trans (b := 2336513196032) (by decide) hp) ?_
    assumption
  · refine Kept.cond1 (fun _ => ?_) (fun _ => ?_)
    · show Kept m s0 _
      refine State.slEnd_kept (Sub.trans (b := 2336513196032) (by decide) hp) ?_
      assumption
    · show Kept m s0 _
      refine State.slStart_kept hp ?_
      assumption

theorem State.ccFreq_kept {m : Nat} {s0 : State} (hp : Sub 2336513196032 m) {s : State} {k : Nat} {v : W32} (hk : Kept m s0 s) : Kept m s0 (State.ccFreq s k v) := by
  unfold State.ccFreq
  extract_lets +onlyGivenNames x0
  extract_lets +onlyGivenNames x1
  split
  · next e4 =>
      have h5 : Kept m s0 _ := Kept.fst e4 (by
          refine State.slReq_kept hp ?_
          assumption
        )
      refine Kept.cond (fun _ => ?_) (fun _ => ?_)
      · refine State.pf_kept' Reg.PWR_CC_FREQ_block (hp.bit (by decide)) ?_
        assumption
      · assumption

theorem State.regCtl_kept {m : Nat} {s0 : State} (hp : Sub 2336513196032 m) {s : State} {r : Nat} {v : W32} (hk : Kept m s0 s) : Kept m s0 (State.regCtl s r v) := by
  unfold State.regCtl
  extract_lets +onlyGivenNames x0
  extract_lets +onlyGivenNames x1
  extract_lets +onlyGivenNames x2
  extract_lets +onlyGivenNames x3
  extract_lets +onlyGivenNames x4
  refine Kept.cond (fun _ => ?_) (fun _ => ?_)
  · split
    · next e7 =>
        have h8 : Kept m s0 _ := Kept.fst e7 (by
            refine State.slReq_kept hp ?_
            assumption
          )
        refine Kept.cond (fun _ => ?_) (fun _ => ?_)
        · refine State.plainWrite_kept' Reg.PWR_REG_CTL_block (hp.bit (by decide)) ?_
          assumption
        · assumption
  · split
    · next e11 =>
        have h12 : Kept m s0 _ := Kept.fst e11 (by
            refine State.slReq_kept hp ?_
            assumption
          )
        refine Kept.cond (fun _ => ?_) (fun _ => ?_)
        · refine State.plainWrite_kept' Reg.PWR_REG_CTL_block (hp.bit (by decide)) ?_
          assumption
        · assumption

theorem execSluiceClockChangeDone_kept {m : Nat} {s0 : State} (hp : Sub 2336513196032 m) {r : Fin 4} {s : State} (hk : Kept m s0 s) : OutKept m s0 (execSluiceClockChangeDone r s) := by
  unfold execSluiceClockChangeDone
  refine OutKept.next ?_
  split
  · extract_lets +onlyGivenNames x0
    unfold x0
    try clear x0
    split
    · refine State.slVolt_kept hp ?_
      refine Kept.cond (fun _ => ?_) (fun _ => ?_)
      · refine State.pf_kept' Reg.PWR_CC_FREQ_block (hp.bit (by decide)) ?_
        refine Kept.cond (fun _ => ?_) (fun _ => ?_)
        · refine State.pf_kept' Reg.PWR_CC_FREQ_block (hp.bit (by decide)) ?_
          assumption
        · assumption
      · refine Kept.cond (fun _ => ?_) (fun _ => ?_)
        · refine State.pf_kept' Reg.PWR_CC_FREQ_block (hp.bit (by decide)) ?_
          assumption
        · assumption
    · refine State.slEnd_kept (Sub.trans (b := 2336513196032) (by decide) hp) ?_
      refine Kept.cond (fun _ => ?_) (fun _ => ?_)
      · refine State.pf_kept' Reg.PWR_CC_FREQ_block (hp.bit (by decide)) ?_
        refine Kept.cond (fun _ => ?_) (fun _ => ?_)
        · refine State.pf_kept' Reg.PWR_CC_FREQ_block (hp.bit (by decide)) ?_
          assumption
        · assumption
      · refine Kept.cond (fun _ => ?_) (fun _ => ?_)
        · refine State.pf_kept' Reg.PWR_CC_FREQ_block (hp.bit (by decide)) ?_
          assumption
        · assumption
    · assumption
  · assumption

theorem execAvsbusAck_kept {m : Nat} {s0 : State} (hp : Sub 2336479641600 m) {r : Fin 4} {s : State} (hk : Kept m s0 s) : OutKept m s0 (execAvsbusAck r s) := by
  unfold execAvsbusAck
  refine OutKept.next ?_
  split
  · refine Kept.cond (fun _ => ?_) (fun _ => ?_)
    · extract_lets +onlyGivenNames x0
      extract_lets +onlyGivenNames x1
      have h2 : Kept m s0 x1 := by
        unfold x1
        refine State.pf_kept' Reg.PWR_REG_STAT_block (hp.bit (by decide)) ?_
        assumption
      try (generalize x1 = y1 at h2 ⊢; try clear x1)
      refine Kept.cond (fun _ => ?_) (fun _ => ?_)
      · refine State.setSl_kept (Sub.trans (b := 2336479641600) (by decide) hp) ?_
        assumption
      · refine State.slRise_kept hp ?_
        assumption
    · assumption
  · assumption

theorem execSettle_kept {m : Nat} {s0 : State} (hp : Sub 2336479641604 m) {r : Fin 4} {mv : Nat} {s : State} (hk : Kept m s0 s) : OutKept m s0 (execSettle r mv s) := by
  unfold execSettle
  refine OutKept.next ?_
  split
  · refine Kept.cond (fun _ => ?_) (fun _ => ?_)
    · assumption
    · refine Kept.cond (fun _ => ?_) (fun _ => ?_)
      · refine State.slRise_kept (Sub.trans (b := 2336479641604) (by decide) hp) ?_
        assumption
      · refine Kept.cond (fun _ => ?_) (fun _ => ?_)
        · refine State.fenceRegion_kept hp ?_
          refine State.slEnd_kept (Sub.trans (b := 2336479641604) (by decide) hp) ?_
          assumption
        · refine State.slEnd_kept (Sub.trans (b := 2336479641604) (by decide) hp) ?_
          assumption
  · assumption

theorem execNoack_kept {m : Nat} {s0 : State} (hp : Sub 2336479641600 m) {r : Fin 4} {s : State} (hk : Kept m s0 s) : OutKept m s0 (execNoack r s) := by
  unfold execNoack
  refine OutKept.next ?_
  split
  · refine Kept.cond (fun _ => ?_) (fun _ => ?_)
    · refine State.slEnd_kept hp ?_
      assumption
    · assumption
  · assumption

theorem execRegionRetentionEntry_kept {m : Nat} {s0 : State} (hp : Sub 2199040163840 m) {r : Fin 4} {s : State} (hk : Kept m s0 s) : OutKept m s0 (execRegionRetentionEntry r s) := by
  unfold execRegionRetentionEntry
  refine OutKept.next ?_
  refine Kept.cond (fun _ => ?_) (fun _ => ?_)
  · extract_lets +onlyGivenNames x0
    extract_lets +onlyGivenNames x1
    have h2 : Kept m s0 x1 := by
      unfold x1
      refine Kept.upd_pwr (hp.bit (by decide)) ?_
      assumption
    try (generalize x1 = y1 at h2 ⊢; try clear x1)
    extract_lets +onlyGivenNames x3
    have h4 : Kept m s0 x3 := by
      unfold x3
      refine Kept.upd_l2 (hp.bit (by decide)) ?_
      assumption
    try (generalize x3 = y3 at h4 ⊢; try clear x3)
    refine State.pf_kept' Reg.PWR_REG_STAT_block (hp.bit (by decide)) ?_
    refine State.pf_kept' Reg.PWR_REG_STAT_block (hp.bit (by decide)) ?_
    assumption
  · assumption

theorem execRegionRetentionExit_kept {m : Nat} {s0 : State} (hp : Sub 2199023255552 m) {r : Fin 4} {s : State} (hk : Kept m s0 s) : OutKept m s0 (execRegionRetentionExit r s) := by
  unfold execRegionRetentionExit
  refine OutKept.next ?_
  refine State.regionUp_kept hp ?_
  assumption

theorem execUnitActionDone_kept {m : Nat} {s0 : State} (hp : Sub 562949474903686 m) {s : State} (hk : Kept m s0 s) : OutKept m s0 (execUnitActionDone s) := by
  unfold execUnitActionDone
  refine OutKept.next ?_
  split
  · extract_lets +onlyGivenNames x0
    unfold x0
    try clear x0
    split
    · refine State.raise_kept (Sub.trans (b := 562949474903686) (by decide) hp) ?_
      refine State.wr_kept' Reg.PWR_UNIT_STAT_block (hp.bit (by decide)) ?_
      refine Kept.upd_pwr (hp.bit (by decide)) ?_
      assumption
    · refine Kept.cond (fun _ => ?_) (fun _ => ?_)
      · assumption
      · split
        · next e3 =>
            have h4 : Kept m s0 _ := Kept.fst e3 (by
                refine State.unitRun_kept (Sub.trans (b := 562949474903686) (by decide) hp) ?_
                assumption
              )
            refine State.raise_kept (Sub.trans (b := 562949474903686) (by decide) hp) ?_
            refine State.wr_kept' Reg.PWR_UNIT_STAT_block (hp.bit (by decide)) ?_
            refine Kept.upd_pwr (hp.bit (by decide)) ?_
            assumption
  · assumption

theorem State.pkgCtl_kept {m : Nat} {s0 : State} (hp : Sub 2336479641600 m) {s : State} {q : Req} {v : W32} (hk : Kept m s0 s) : Kept m s0 (State.pkgCtl s q v) := by
  unfold State.pkgCtl
  extract_lets +onlyGivenNames x0
  have h1 : Kept m s0 x0 := by
    unfold x0
    refine State.plainWrite_kept' Reg.PWR_PKG_CTL_block (hp.bit (by decide)) ?_
    assumption
  try (generalize x0 = y0 at h1 ⊢; try clear x0)
  extract_lets +onlyGivenNames x2
  refine Kept.cond (fun _ => ?_) (fun _ => ?_)
  · assumption
  · refine Kept.cond (fun _ => ?_) (fun _ => ?_)
    · refine State.raise_kept hp ?_
      refine State.pf_kept' Reg.PWR_PKG_STAT_block (hp.bit (by decide)) ?_
      assumption
    · split
      · extract_lets +onlyGivenNames x3
        extract_lets +onlyGivenNames x4
        have h5 : Kept m s0 x4 := by
          unfold x4
          refine State.pf_kept' Reg.PWR_PKG_STAT_block (hp.bit (by decide)) ?_
          assumption
        try (generalize x4 = y4 at h5 ⊢; try clear x4)
        refine Kept.cond (fun _ => ?_) (fun _ => ?_)
        · refine State.raise_kept hp ?_
          assumption
        · extract_lets +onlyGivenNames x6
          have h7 : Kept m s0 x6 := by
            unfold x6
            refine State.pb_kept' Reg.PWR_PKG_STAT_block (hp.bit (by decide)) ?_
            assumption
          try (generalize x6 = y6 at h7 ⊢; try clear x6)
          refine Kept.upd_pwr (hp.bit (by decide)) ?_
          assumption
      · assumption

theorem State.pkgCancel_kept {m : Nat} {s0 : State} (hp : Sub 2199040032768 m) {s : State} {n : Nat} (hk : Kept m s0 s) : Kept m s0 (State.pkgCancel s n) := by
  unfold State.pkgCancel
  refine Kept.cond (fun _ => ?_) (fun _ => ?_)
  · extract_lets +onlyGivenNames x0
    have h1 : Kept m s0 x0 := by
      unfold x0
      refine State.pb_kept' Reg.PWR_PKG_STAT_block (hp.bit (by decide)) ?_
      assumption
    try (generalize x0 = y0 at h1 ⊢; try clear x0)
    refine Kept.upd_pwr (hp.bit (by decide)) ?_
    assumption
  · assumption

theorem State.pkgBegin_kept {m : Nat} {s0 : State} (hp : Sub 2199040163840 m) {s : State} {n : Nat} (hk : Kept m s0 s) : Kept m s0 (State.pkgBegin s n) := by
  unfold State.pkgBegin
  extract_lets +onlyGivenNames x0
  have h1 : Kept m s0 x0 := by
    unfold x0
    refine State.pf_kept' Reg.PWR_PKG_STAT_block (hp.bit (by decide)) ?_
    refine State.pb_kept' Reg.PWR_PKG_STAT_block (hp.bit (by decide)) ?_
    assumption
  try (generalize x0 = y0 at h1 ⊢; try clear x0)
  extract_lets +onlyGivenNames x2
  extract_lets +onlyGivenNames x3
  have h4 : Kept m s0 x3 := by
    unfold x3
    first | refine State.setCor_keptOf (Sub.trans (b := 2199040163840) (by decide) hp) (by assumption) (fun h => h) ?_ | refine State.setCor_kept (Sub.trans (b := 2199040163840) (by decide) hp) (by first | exact fun h => h | exact fun _ => ⟨Nat.zero_le _, Nat.zero_le _, Nat.zero_le _⟩ | exact fun h => ⟨Nat.zero_le _, h.2⟩ | exact fun h => ⟨List.length_take_le _ _, h.2⟩ | (intro h; simp +zetaDelta only [Core.inCap] at h ⊢; exact h) | exact fun h => ⟨h.1, Nat.le_trans (List.length_filter_le _ _) h.2.1, Nat.le_trans (List.length_filter_le _ _) h.2.2⟩) ?_
    assumption
  try (generalize x3 = y3 at h4 ⊢; try clear x3)
  refine Kept.upd_pwr (hp.bit (by decide)) ?_
  assumption

theorem State.pkgAbortBy_kept {m : Nat} {s0 : State} (hp : Sub 16777216 m) {s : State} (hk : Kept m s0 s) : Kept m s0 (State.pkgAbortBy s) := by
  unfold State.pkgAbortBy
  refine Kept.cond (fun _ => ?_) (fun _ => ?_)
  · refine Kept.upd_pwr (hp.bit (by decide)) ?_
    assumption
  · assumption

theorem State.tickOutPin_kept {m : Nat} {s0 : State} (hp : Sub 64 m) {s : State} (hk : Kept m s0 s) : Kept m s0 (State.tickOutPin s) := by
  unfold State.tickOutPin
  refine Kept.upd_pins (hp.bit (by decide)) ?_
  assumption

theorem State.lightTick_kept {m : Nat} {s0 : State} (hp : Sub 96 m) {s : State} (hk : Kept m s0 s) : Kept m s0 (State.lightTick s) := by
  unfold State.lightTick
  extract_lets +onlyGivenNames x0
  refine State.tickOutPin_kept (Sub.trans (b := 96) (by decide) hp) ?_
  refine Kept.upd ?_ rfl (Nat.le_refl _) (fun _ _ => rfl) (.inr rfl) (.inr rfl) (.inr rfl) (.inr rfl) (.inr rfl) (.inl (hp.bit (by decide))) (.inl (hp.bit (by decide))) (.inr rfl) (.inr rfl) (.inr rfl) (.inr rfl) (.inr rfl) (.inr rfl) (.inr rfl) (.inr rfl) (.inr rfl) (.inr rfl) (.inr rfl) (.inr rfl) (.inr rfl) (.inr rfl) (.inr rfl) (.inr rfl) (.inr rfl) (.inr rfl) (.inr rfl) (.inr rfl) (.inr rfl) (.inr rfl) (.inr rfl) (.inr rfl)
  assumption

theorem State.pkgUndo_kept {m : Nat} {s0 : State} (hp : Sub 2336479641632 m) {s : State} {ap : Nat} (hk : Kept m s0 s) : Kept m s0 (State.pkgUndo s ap) := by
  unfold State.pkgUndo
  extract_lets +onlyGivenNames x0
  extract_lets +onlyGivenNames x1
  have h2 : Kept m s0 x1 := by
    unfold x1
    refine Kept.cond (fun _ => ?_) (fun _ => ?_)
    · refine Kept.upd_tick (hp.bit (by decide)) ?_
      assumption
    · assumption
  try (generalize x1 = y1 at h2 ⊢; try clear x1)
  extract_lets +onlyGivenNames x3
  have h4 : Kept m s0 x3 := by
    unfold x3
    refine State.pb_kept' Reg.PWR_LAST_block (hp.bit (by decide)) ?_
    refine State.pf_kept' Reg.PWR_LAST_block (hp.bit (by decide)) ?_
    assumption
  try (generalize x3 = y3 at h4 ⊢; try clear x3)
  extract_lets +onlyGivenNames x5
  have h6 : Kept m s0 x5 := by
    unfold x5
    refine State.pf_kept' Reg.PWR_PKG_STAT_block (hp.bit (by decide)) ?_
    assumption
  try (generalize x5 = y5 at h6 ⊢; try clear x5)
  extract_lets +onlyGivenNames x7
  extract_lets +onlyGivenNames x8
  extract_lets +onlyGivenNames x9
  have h10 : Kept m s0 x9 := by
    unfold x9
    refine Kept.upd_pwr (hp.bit (by decide)) ?_
    assumption
  try (generalize x9 = y9 at h10 ⊢; try clear x9)
  refine State.raise_kept (Sub.trans (b := 2336479641632) (by decide) hp) ?_
  refine Kept.cond (fun _ => ?_) (fun _ => ?_)
  · first | refine State.setCor_keptOf (Sub.trans (b := 2336479641632) (by decide) hp) (by assumption) (fun h => h) ?_ | refine State.setCor_kept (Sub.trans (b := 2336479641632) (by decide) hp) (by first | exact fun h => h | exact fun _ => ⟨Nat.zero_le _, Nat.zero_le _, Nat.zero_le _⟩ | exact fun h => ⟨Nat.zero_le _, h.2⟩ | exact fun h => ⟨List.length_take_le _ _, h.2⟩ | (intro h; simp +zetaDelta only [Core.inCap] at h ⊢; exact h) | exact fun h => ⟨h.1, Nat.le_trans (List.length_filter_le _ _) h.2.1, Nat.le_trans (List.length_filter_le _ _) h.2.2⟩) ?_
    assumption
  · assumption

theorem State.pkgStep2_kept {m : Nat} {s0 : State} (hp : Sub 17203298 m) {s : State} (hk : Kept m s0 s) : Kept m s0 (State.pkgStep2 s) := by
  unfold State.pkgStep2
  extract_lets +onlyGivenNames x0
  have h1 : Kept m s0 x0 := by
    unfold x0
    refine Kept.forEach (fun z2 a3 h4 => ?_) ?_
    · refine State.serBack_kept (Sub.trans (b := 17203298) (by decide) hp) ?_
      assumption
    · assumption
  try (generalize x0 = y0 at h1 ⊢; try clear x0)
  extract_lets +onlyGivenNames x5
  extract_lets +onlyGivenNames x6
  extract_lets +onlyGivenNames x7
  have h8 : Kept m s0 x7 := by
    unfold x7
    refine Kept.upd ?_ rfl (Nat.le_refl _) (fun _ _ => rfl) (.inr rfl) (.inr rfl) (.inr rfl) (.inr rfl) (.inr rfl) (.inl (hp.bit (by decide))) (.inl (hp.bit (by decide))) (.inr rfl) (.inr rfl) (.inr rfl) (.inr rfl) (.inr rfl) (.inr rfl) (.inr rfl) (.inr rfl) (.inr rfl) (.inr rfl) (.inr rfl) (.inr rfl) (.inr rfl) (.inr rfl) (.inr rfl) (.inr rfl) (.inr rfl) (.inr rfl) (.inr rfl) (.inr rfl) (.inr rfl) (.inr rfl) (.inr rfl) (.inr rfl)
    assumption
  try (generalize x7 = y7 at h8 ⊢; try clear x7)
  refine Kept.cond (fun _ => ?_) (fun _ => ?_)
  · extract_lets +onlyGivenNames x9
    extract_lets +onlyGivenNames x10
    have h11 : Kept m s0 x10 := by
      unfold x10
      refine State.tick1_kept (Sub.trans (b := 17203298) (by decide) hp) ?_
      refine State.snoop_kept (Sub.trans (b := 17203298) (by decide) hp) ?_
      refine State.mput_kept (Sub.trans (b := 17203298) (by decide) hp) ?_
      assumption
    try (generalize x10 = y10 at h11 ⊢; try clear x10)
    refine Kept.upd_pwr (hp.bit (by decide)) ?_
    assumption
  · assumption

theorem State.pkgStep4_kept {m : Nat} {s0 : State} (hp : Sub 16777216 m) {s : State} (hk : Kept m s0 s) : Kept m s0 (State.pkgStep4 s) := by
  unfold State.pkgStep4
  extract_lets +onlyGivenNames x0
  refine Kept.upd_pwr (hp.bit (by decide)) ?_
  assumption

theorem State.coresOff_kept {m : Nat} {s0 : State} (hp : Sub 4398046642176 m) {s : State} (hk : Kept m s0 s) : Kept m s0 (State.coresOff s) := by
  unfold State.coresOff
  extract_lets +onlyGivenNames x0
  have h1 : Kept m s0 x0 := by
    unfold x0
    refine Kept.forEach (fun z2 a3 h4 => ?_) ?_
    · refine State.coreOff_kept hp ?_
      assumption
    · assumption
  try (generalize x0 = y0 at h1 ⊢; try clear x0)
  refine Kept.upd_l2 (hp.bit (by decide)) ?_
  assumption

theorem State.pkgSleep_kept {m : Nat} {s0 : State} (hp : Sub 2199044227586 m) {s : State} (hk : Kept m s0 s) : Kept m s0 (State.pkgSleep s) := by
  unfold State.pkgSleep
  extract_lets +onlyGivenNames x0
  extract_lets +onlyGivenNames x1
  have h2 : Kept m s0 x1 := by
    unfold x1
    refine Kept.upd ?_ rfl (Nat.le_refl _) (fun _ _ => rfl) (.inr rfl) (.inr rfl) (.inr rfl) (.inr rfl) (.inr rfl) (.inr rfl) (.inr rfl) (.inr rfl) (.inr rfl) (.inl (hp.bit (by decide))) (.inr rfl) (.inr rfl) (.inr rfl) (.inr rfl) (.inr rfl) (.inr rfl) (.inr rfl) (.inr rfl) (.inr rfl) (.inr rfl) (.inr rfl) (.inr rfl) (.inr rfl) (.inr rfl) (.inr rfl) (.inr rfl) (.inl (hp.bit (by decide))) (.inr rfl) (.inr rfl) (.inr rfl) (.inr rfl)
    assumption
  try (generalize x1 = y1 at h2 ⊢; try clear x1)
  extract_lets +onlyGivenNames x3
  have h4 : Kept m s0 x3 := by
    unfold x3
    refine State.pf_kept' Reg.PWR_LAST_block (hp.bit (by decide)) ?_
    assumption
  try (generalize x3 = y3 at h4 ⊢; try clear x3)
  refine Kept.cond (fun _ => ?_) (fun _ => ?_)
  · refine Kept.upd ?_ rfl (Nat.le_refl _) (fun _ _ => rfl) (.inl ⟨hp.bit (by decide), by first | exact fun h => h | exact memPut_wf _ _ | exact fun h => memFilter_wf _ h | exact fun _ => rfl⟩) (.inr rfl) (.inr rfl) (.inr rfl) (.inr rfl) (.inr rfl) (.inr rfl) (.inr rfl) (.inr rfl) (.inr rfl) (.inr rfl) (.inr rfl) (.inr rfl) (.inr rfl) (.inr rfl) (.inr rfl) (.inr rfl) (.inr rfl) (.inr rfl) (.inr rfl) (.inr rfl) (.inr rfl) (.inr rfl) (.inr rfl) (.inl (hp.bit (by decide))) (.inr rfl) (.inr rfl) (.inr rfl) (.inr rfl) (.inr rfl) (.inr rfl)
    assumption
  · assumption

theorem State.pkgStep_kept {m : Nat} {s0 : State} (hp : Sub 6597091164770 m) {s : State} {k : Nat} (hk : Kept m s0 s) : Kept m s0 (State.pkgStep s k) := by
  unfold State.pkgStep
  split
  · refine State.pkgStep2_kept (Sub.trans (b := 6597091164770) (by decide) hp) ?_
    assumption
  · refine State.pkgStep4_kept (Sub.trans (b := 6597091164770) (by decide) hp) ?_
    assumption
  · refine State.pkgSleep_kept (Sub.trans (b := 6597091164770) (by decide) hp) ?_
    refine State.coresOff_kept (Sub.trans (b := 6597091164770) (by decide) hp) ?_
    assumption
  · assumption

theorem execPkgEntryStepDone_kept {m : Nat} {s0 : State} (hp : Sub 6734530642530 m) {s : State} (hk : Kept m s0 s) : OutKept m s0 (execPkgEntryStepDone s) := by
  unfold execPkgEntryStepDone
  refine OutKept.next ?_
  split
  · assumption
  · refine Kept.cond (fun _ => ?_) (fun _ => ?_)
    · assumption
    · extract_lets +onlyGivenNames x0
      extract_lets +onlyGivenNames x1
      have h2 : Kept m s0 x1 := by
        unfold x1
        refine Kept.cond (fun _ => ?_) (fun _ => ?_)
        · refine State.pf_kept' Reg.PWR_PKG_STAT_block (hp.bit (by decide)) ?_
          assumption
        · assumption
      try (generalize x1 = y1 at h2 ⊢; try clear x1)
      extract_lets +onlyGivenNames x3
      have h4 : Kept m s0 x3 := by
        unfold x3
        refine State.pkgStep_kept (Sub.trans (b := 6734530642530) (by decide) hp) ?_
        assumption
      try (generalize x3 = y3 at h4 ⊢; try clear x3)
      refine Kept.cond (fun _ => ?_) (fun _ => ?_)
      · assumption
      · extract_lets +onlyGivenNames x5
        have h6 : Kept m s0 x5 := by
          unfold x5
          refine State.pf_kept' Reg.PWR_PKG_STAT_block (hp.bit (by decide)) ?_
          assumption
        try (generalize x5 = y5 at h6 ⊢; try clear x5)
        refine Kept.cond (fun _ => ?_) (fun _ => ?_)
        · refine State.pkgUndo_kept (Sub.trans (b := 6734530642530) (by decide) hp) ?_
          assumption
        · refine Kept.upd_pwr (hp.bit (by decide)) ?_
          assumption

end Sys2Proof.Machine
end

