-- ==== Sys2Proof/Laws/KeptP64Core.lean ====
section
/-!
SUPPORT. What the definitions of Machine/P64Core.lean keep: one lemma each.
-/
namespace Sys2Proof.Machine

theorem State.setSp_kept {m : Nat} {s0 : State} (hp : Sub 131072 m) {s : State} {n : Nat} {l : Nat} {v : W64} (hk : Kept m s0 s) : Kept m s0 (State.setSp s n l v) := by
  unfold State.setSp
  first | refine State.setCor_keptOf hp (by assumption) (fun h => h) ?_ | refine State.setCor_kept hp (by first | exact fun h => h | exact fun _ => ⟨Nat.zero_le _, Nat.zero_le _, Nat.zero_le _⟩ | exact fun h => ⟨Nat.zero_le _, h.2⟩ | exact fun h => ⟨List.length_take_le _ _, h.2⟩ | (intro h; simp +zetaDelta only [Core.inCap] at h ⊢; exact h) | exact fun h => ⟨h.1, Nat.le_trans (List.length_filter_le _ _) h.2.1, Nat.le_trans (List.length_filter_le _ _) h.2.2⟩) ?_
  assumption

theorem State.gw_kept {m : Nat} {s0 : State} (hp : Sub 131072 m) {s : State} {n : Nat} {i : Nat} {v : W64} (hk : Kept m s0 s) : Kept m s0 (State.gw s n i v) := by
  unfold State.gw
  refine Kept.cond (fun _ => ?_) (fun _ => ?_)
  · assumption
  · refine Kept.cond (fun _ => ?_) (fun _ => ?_)
    · refine State.setSp_kept hp ?_
      assumption
    · first | refine State.setCor_keptOf hp (by assumption) (fun h => h) ?_ | refine State.setCor_kept hp (by first | exact fun h => h | exact fun _ => ⟨Nat.zero_le _, Nat.zero_le _, Nat.zero_le _⟩ | exact fun h => ⟨Nat.zero_le _, h.2⟩ | exact fun h => ⟨List.length_take_le _ _, h.2⟩ | (intro h; simp +zetaDelta only [Core.inCap] at h ⊢; exact h) | exact fun h => ⟨h.1, Nat.le_trans (List.length_filter_le _ _) h.2.1, Nat.le_trans (List.length_filter_le _ _) h.2.2⟩) ?_
      assumption

theorem State.setPc_kept {m : Nat} {s0 : State} (hp : Sub 131072 m) {s : State} {n : Nat} {v : W64} (hk : Kept m s0 s) : Kept m s0 (State.setPc s n v) := by
  unfold State.setPc
  first | refine State.setCor_keptOf hp (by assumption) (fun h => h) ?_ | refine State.setCor_kept hp (by first | exact fun h => h | exact fun _ => ⟨Nat.zero_le _, Nat.zero_le _, Nat.zero_le _⟩ | exact fun h => ⟨Nat.zero_le _, h.2⟩ | exact fun h => ⟨List.length_take_le _ _, h.2⟩ | (intro h; simp +zetaDelta only [Core.inCap] at h ⊢; exact h) | exact fun h => ⟨h.1, Nat.le_trans (List.length_filter_le _ _) h.2.1, Nat.le_trans (List.length_filter_le _ _) h.2.2⟩) ?_
  assumption

theorem State.pmuAdd_kept {m : Nat} {s0 : State} (hp : Sub 2336479641600 m) {s : State} {n : Nat} {i : Nat} {k : Nat} (hk : Kept m s0 s) : Kept m s0 (State.pmuAdd s n i k) := by
  unfold State.pmuAdd
  extract_lets +onlyGivenNames x0
  extract_lets +onlyGivenNames x1
  have h2 : Kept m s0 x1 := by
    unfold x1
    refine State.setSr_kept (Sub.trans (b := 2336479641600) (by decide) hp) ?_
    assumption
  try (generalize x1 = y1 at h2 ⊢; try clear x1)
  refine Kept.cond (fun _ => ?_) (fun _ => ?_)
  · assumption
  · refine State.raise_kept hp ?_
    refine State.setSr_kept (Sub.trans (b := 2336479641600) (by decide) hp) ?_
    assumption

theorem State.pmu_kept {m : Nat} {s0 : State} (hp : Sub 2336479641600 m) {s : State} {n : Nat} {ev : Nat} (hk : Kept m s0 s) : Kept m s0 (State.pmu s n ev) := by
  unfold State.pmu
  refine Kept.cond (fun _ => ?_) (fun _ => ?_)
  · assumption
  · refine Kept.forEach (fun z0 a1 h2 => ?_) ?_
    · refine Kept.cond (fun _ => ?_) (fun _ => ?_)
      · refine State.pmuAdd_kept hp ?_
        assumption
      · assumption
    · assumption

theorem State.note_kept {m : Nat} {s0 : State} (hp : Sub 131072 m) {s : State} {n : Nat} {ev : Nat} (hk : Kept m s0 s) : Kept m s0 (State.note s n ev) := by
  unfold State.note
  refine Kept.cond (fun _ => ?_) (fun _ => ?_)
  · assumption
  · first | refine State.setCor_keptOf hp (by assumption) (fun h => h) ?_ | refine State.setCor_kept hp (by first | exact fun h => h | exact fun _ => ⟨Nat.zero_le _, Nat.zero_le _, Nat.zero_le _⟩ | exact fun h => ⟨Nat.zero_le _, h.2⟩ | exact fun h => ⟨List.length_take_le _ _, h.2⟩ | (intro h; simp +zetaDelta only [Core.inCap] at h ⊢; exact h) | exact fun h => ⟨h.1, Nat.le_trans (List.length_filter_le _ _) h.2.1, Nat.le_trans (List.length_filter_le _ _) h.2.2⟩) ?_
    assumption

theorem State.pmuBy_kept {m : Nat} {s0 : State} (hp : Sub 2336479641600 m) {s : State} {n : Nat} {ev : Nat} {k : Nat} (hk : Kept m s0 s) : Kept m s0 (State.pmuBy s n ev k) := by
  unfold State.pmuBy
  refine Kept.cond (fun _ => ?_) (fun _ => ?_)
  · assumption
  · refine Kept.forEach (fun z0 a1 h2 => ?_) ?_
    · refine Kept.cond (fun _ => ?_) (fun _ => ?_)
      · refine State.pmuAdd_kept hp ?_
        assumption
      · assumption
    · assumption

theorem State.pmuSettle_kept {m : Nat} {s0 : State} (hp : Sub 2336479641600 m) {s : State} {n : Nat} (hk : Kept m s0 s) : Kept m s0 (State.pmuSettle s n) := by
  unfold State.pmuSettle
  refine Kept.cond (fun _ => ?_) (fun _ => ?_)
  · assumption
  · refine Kept.forEach (fun z0 a1 h2 => ?_) ?_
    · refine Kept.cond (fun _ => ?_) (fun _ => ?_)
      · refine State.tick1_kept (Sub.trans (b := 2336479641600) (by decide) hp) ?_
        refine State.pmuAdd_kept hp ?_
        assumption
      · assumption
    · assumption

theorem State.counted_kept {m : Nat} {s0 : State} (hp : Sub 2336479641600 m) {s : State} {n : Nat} (hk : Kept m s0 s) : Kept m s0 (State.counted s n) := by
  unfold State.counted
  extract_lets +onlyGivenNames x0
  have h1 : Kept m s0 x0 := by
    unfold x0
    refine Kept.forEach (fun z2 a3 h4 => ?_) ?_
    · refine State.pmu_kept hp ?_
      assumption
    · refine State.pmu_kept hp ?_
      assumption
  try (generalize x0 = y0 at h1 ⊢; try clear x0)
  refine State.pmuSettle_kept hp ?_
  first | refine State.setCor_keptOf (Sub.trans (b := 2336479641600) (by decide) hp) (by assumption) (fun h => h) ?_ | refine State.setCor_kept (Sub.trans (b := 2336479641600) (by decide) hp) (by first | exact fun h => h | exact fun _ => ⟨Nat.zero_le _, Nat.zero_le _, Nat.zero_le _⟩ | exact fun h => ⟨Nat.zero_le _, h.2⟩ | exact fun h => ⟨List.length_take_le _ _, h.2⟩ | (intro h; simp +zetaDelta only [Core.inCap] at h ⊢; exact h) | exact fun h => ⟨h.1, Nat.le_trans (List.length_filter_le _ _) h.2.1, Nat.le_trans (List.length_filter_le _ _) h.2.2⟩) ?_
  assumption

theorem State.pflush_kept {m : Nat} {s0 : State} (hp : Sub 2336479641600 m) {s : State} {n : Nat} (hk : Kept m s0 s) : Kept m s0 (State.pflush s n) := by
  unfold State.pflush
  refine State.pmu_kept hp ?_
  first | refine State.setCor_keptOf (Sub.trans (b := 2336479641600) (by decide) hp) (by assumption) (fun h => h) ?_ | refine State.setCor_kept (Sub.trans (b := 2336479641600) (by decide) hp) (by first | exact fun h => h | exact fun _ => ⟨Nat.zero_le _, Nat.zero_le _, Nat.zero_le _⟩ | exact fun h => ⟨Nat.zero_le _, h.2⟩ | exact fun h => ⟨List.length_take_le _ _, h.2⟩ | (intro h; simp +zetaDelta only [Core.inCap] at h ⊢; exact h) | exact fun h => ⟨h.1, Nat.le_trans (List.length_filter_le _ _) h.2.1, Nat.le_trans (List.length_filter_le _ _) h.2.2⟩) ?_
  assumption

theorem State.predict_kept {m : Nat} {s0 : State} (hp : Sub 2336479641600 m) {s : State} {n : Nat} {pc : W64} {taken : Bool} (hk : Kept m s0 s) : Kept m s0 (State.predict s n pc taken) := by
  unfold State.predict
  extract_lets +onlyGivenNames x0
  have h1 : Kept m s0 x0 := by
    unfold x0
    refine State.pmu_kept hp ?_
    assumption
  try (generalize x0 = y0 at h1 ⊢; try clear x0)
  refine Kept.cond (fun _ => ?_) (fun _ => ?_)
  · refine State.pmu_kept hp ?_
    assumption
  · extract_lets +onlyGivenNames x2
    extract_lets +onlyGivenNames x3
    extract_lets +onlyGivenNames x4
    extract_lets +onlyGivenNames x5
    have h6 : Kept m s0 x5 := by
      unfold x5
      first | refine State.setCor_keptOf (Sub.trans (b := 2336479641600) (by decide) hp) (by assumption) (fun h => h) ?_ | refine State.setCor_kept (Sub.trans (b := 2336479641600) (by decide) hp) (by first | exact fun h => h | exact fun _ => ⟨Nat.zero_le _, Nat.zero_le _, Nat.zero_le _⟩ | exact fun h => ⟨Nat.zero_le _, h.2⟩ | exact fun h => ⟨List.length_take_le _ _, h.2⟩ | (intro h; simp +zetaDelta only [Core.inCap] at h ⊢; exact h) | exact fun h => ⟨h.1, Nat.le_trans (List.length_filter_le _ _) h.2.1, Nat.le_trans (List.length_filter_le _ _) h.2.2⟩) ?_
      assumption
    try (generalize x5 = y5 at h6 ⊢; try clear x5)
    refine Kept.cond (fun _ => ?_) (fun _ => ?_)
    · assumption
    · refine State.pmu_kept hp ?_
      assumption

theorem State.pushRet_kept {m : Nat} {s0 : State} (hp : Sub 131072 m) {s : State} {n : Nat} {a : W64} (hk : Kept m s0 s) : Kept m s0 (State.pushRet s n a) := by
  unfold State.pushRet
  refine Kept.cond (fun _ => ?_) (fun _ => ?_)
  · assumption
  · first | refine State.setCor_keptOf hp (by assumption) (fun h => h) ?_ | refine State.setCor_kept hp (by first | exact fun h => h | exact fun _ => ⟨Nat.zero_le _, Nat.zero_le _, Nat.zero_le _⟩ | exact fun h => ⟨Nat.zero_le _, h.2⟩ | exact fun h => ⟨List.length_take_le _ _, h.2⟩ | (intro h; simp +zetaDelta only [Core.inCap] at h ⊢; exact h) | exact fun h => ⟨h.1, Nat.le_trans (List.length_filter_le _ _) h.2.1, Nat.le_trans (List.length_filter_le _ _) h.2.2⟩) ?_
    assumption

theorem State.popRet_kept {m : Nat} {s0 : State} (hp : Sub 2336479641600 m) {s : State} {n : Nat} {target : W64} (hk : Kept m s0 s) : Kept m s0 (State.popRet s n target) := by
  unfold State.popRet
  refine Kept.cond (fun _ => State.pmu_kept hp hk) (fun _ => ?_)
  split
  · exact State.pmu_kept hp hk
  · next a r e =>
    have h1 : Kept m s0 (s.setCor n { s.cor n with ret := r }) := State.setCor_kept (Sub.trans (b := 2336479641600) (by decide) hp)
      (fun h => ⟨Nat.le_trans (Nat.le_succ _) (by have h' : (s.cor n).ret.length ≤ 16 := h.1; rw [e] at h'; exact h'), h.2⟩) hk
    exact Kept.cond (fun _ => h1) (fun _ => State.pmu_kept hp h1)

theorem State.srAfterRead_kept {m : Nat} {s0 : State} (hp : Sub 131072 m) {s : State} {n : Nat} {k : Nat} (hk : Kept m s0 s) : Kept m s0 (State.srAfterRead s n k) := by
  unfold State.srAfterRead
  refine Kept.cond (fun _ => ?_) (fun _ => ?_)
  · refine State.setSr_kept hp ?_
    assumption
  · assumption

theorem State.timerTry_kept {m : Nat} {s0 : State} (hp : Sub 2336479641600 m) {s : State} {n : Nat} (hk : Kept m s0 s) : Kept m s0 (State.timerTry s n) := by
  unfold State.timerTry
  extract_lets +onlyGivenNames x0
  refine Kept.cond (fun _ => ?_) (fun _ => ?_)
  · refine State.raise_kept hp ?_
    refine State.setSr_kept (Sub.trans (b := 2336479641600) (by decide) hp) ?_
    first | refine State.setCor_keptOf (Sub.trans (b := 2336479641600) (by decide) hp) (by assumption) (fun h => h) ?_ | refine State.setCor_kept (Sub.trans (b := 2336479641600) (by decide) hp) (by first | exact fun h => h | exact fun _ => ⟨Nat.zero_le _, Nat.zero_le _, Nat.zero_le _⟩ | exact fun h => ⟨Nat.zero_le _, h.2⟩ | exact fun h => ⟨List.length_take_le _ _, h.2⟩ | (intro h; simp +zetaDelta only [Core.inCap] at h ⊢; exact h) | exact fun h => ⟨h.1, Nat.le_trans (List.length_filter_le _ _) h.2.1, Nat.le_trans (List.length_filter_le _ _) h.2.2⟩) ?_
    assumption
  · assumption

theorem State.statusRaw_kept {m : Nat} {s0 : State} (hp : Sub 131072 m) {s : State} {n : Nat} {l : Nat} {v : W64} (hk : Kept m s0 s) : Kept m s0 (State.statusRaw s n l v) := by
  unfold State.statusRaw
  extract_lets +onlyGivenNames x0
  extract_lets +onlyGivenNames x1
  extract_lets +onlyGivenNames x2
  extract_lets +onlyGivenNames x3
  extract_lets +onlyGivenNames x4
  have h5 : Kept m s0 x4 := by
    unfold x4
    first | refine State.setCor_keptOf hp (by assumption) (fun h => h) ?_ | refine State.setCor_kept hp (by first | exact fun h => h | exact fun _ => ⟨Nat.zero_le _, Nat.zero_le _, Nat.zero_le _⟩ | exact fun h => ⟨Nat.zero_le _, h.2⟩ | exact fun h => ⟨List.length_take_le _ _, h.2⟩ | (intro h; simp +zetaDelta only [Core.inCap] at h ⊢; exact h) | exact fun h => ⟨h.1, Nat.le_trans (List.length_filter_le _ _) h.2.1, Nat.le_trans (List.length_filter_le _ _) h.2.2⟩) ?_
    assumption
  try (generalize x4 = y4 at h5 ⊢; try clear x4)
  refine State.setSr_kept hp ?_
  assumption

theorem State.setSid_kept {m : Nat} {s0 : State} (hp : Sub 6734794588160 m) {s : State} {n : Nat} {d : BitVec 16} (hk : Kept m s0 s) : Kept m s0 (State.setSid s n d) := by
  unfold State.setSid
  extract_lets +onlyGivenNames x0
  have h1 : Kept m s0 x0 := by
    unfold x0
    refine State.emitCore_kept hp ?_
    refine State.setSr_kept (Sub.trans (b := 6734794588160) (by decide) hp) ?_
    assumption
  try (generalize x0 = y0 at h1 ⊢; try clear x0)
  refine Kept.cond (fun _ => ?_) (fun _ => ?_)
  · refine State.pflush_kept (Sub.trans (b := 6734794588160) (by decide) hp) ?_
    assumption
  · assumption

theorem State.srWrite_kept {m : Nat} {s0 : State} (hp : Sub 6734794588160 m) {s : State} {n : Nat} {l : Nat} {k : Nat} {d : SrDesc} {v : W64} (hk : Kept m s0 s) : Kept m s0 (State.srWrite s n l k d v) := by
  unfold State.srWrite
  extract_lets +onlyGivenNames x0
  refine Kept.cond (fun _ => ?_) (fun _ => ?_)
  · extract_lets +onlyGivenNames x1
    have h2 : Kept m s0 x1 := by
      unfold x1
      refine State.statusRaw_kept (Sub.trans (b := 6734794588160) (by decide) hp) ?_
      assumption
    try (generalize x1 = y1 at h2 ⊢; try clear x1)
    first | refine State.setCor_keptOf (Sub.trans (b := 6734794588160) (by decide) hp) (by assumption) (fun h => h) ?_ | refine State.setCor_kept (Sub.trans (b := 6734794588160) (by decide) hp) (by first | exact fun h => h | exact fun _ => ⟨Nat.zero_le _, Nat.zero_le _, Nat.zero_le _⟩ | exact fun h => ⟨Nat.zero_le _, h.2⟩ | exact fun h => ⟨List.length_take_le _ _, h.2⟩ | (intro h; simp +zetaDelta only [Core.inCap] at h ⊢; exact h) | exact fun h => ⟨h.1, Nat.le_trans (List.length_filter_le _ _) h.2.1, Nat.le_trans (List.length_filter_le _ _) h.2.2⟩) ?_
    assumption
  · refine Kept.cond (fun _ => ?_) (fun _ => ?_)
    · refine State.setSid_kept hp ?_
      assumption
    · refine Kept.cond (fun _ => ?_) (fun _ => ?_)
      · refine State.setSp_kept (Sub.trans (b := 6734794588160) (by decide) hp) ?_
        assumption
      · refine Kept.cond (fun _ => ?_) (fun _ => ?_)
        · extract_lets +onlyGivenNames x3
          refine State.setSr_kept (Sub.trans (b := 6734794588160) (by decide) hp) ?_
          assumption
        · refine Kept.cond (fun _ => ?_) (fun _ => ?_)
          · refine State.setSr_kept (Sub.trans (b := 6734794588160) (by decide) hp) ?_
            assumption
          · refine Kept.cond (fun _ => ?_) (fun _ => ?_)
            · refine Kept.cond (fun _ => ?_) (fun _ => ?_)
              · assumption
              · refine Kept.cond (fun _ => ?_) (fun _ => ?_)
                · refine State.setSr_kept (Sub.trans (b := 6734794588160) (by decide) hp) ?_
                  assumption
                · refine State.setSr_kept (Sub.trans (b := 6734794588160) (by decide) hp) ?_
                  assumption
            · extract_lets +onlyGivenNames x4
              extract_lets +onlyGivenNames x5
              have h6 : Kept m s0 x5 := by
                unfold x5
                refine State.setSr_kept (Sub.trans (b := 6734794588160) (by decide) hp) ?_
                assumption
              try (generalize x5 = y5 at h6 ⊢; try clear x5)
              refine Kept.cond (fun _ => ?_) (fun _ => ?_)
              · first | refine State.setCor_keptOf (Sub.trans (b := 6734794588160) (by decide) hp) (by assumption) (fun h => h) ?_ | refine State.setCor_kept (Sub.trans (b := 6734794588160) (by decide) hp) (by first | exact fun h => h | exact fun _ => ⟨Nat.zero_le _, Nat.zero_le _, Nat.zero_le _⟩ | exact fun h => ⟨Nat.zero_le _, h.2⟩ | exact fun h => ⟨List.length_take_le _ _, h.2⟩ | (intro h; simp +zetaDelta only [Core.inCap] at h ⊢; exact h) | exact fun h => ⟨h.1, Nat.le_trans (List.length_filter_le _ _) h.2.1, Nat.le_trans (List.length_filter_le _ _) h.2.2⟩) ?_
                assumption
              · refine Kept.cond (fun _ => ?_) (fun _ => ?_)
                · refine State.timerTry_kept (Sub.trans (b := 6734794588160) (by decide) hp) ?_
                  first | refine State.setCor_keptOf (Sub.trans (b := 6734794588160) (by decide) hp) (by assumption) (fun h => h) ?_ | refine State.setCor_kept (Sub.trans (b := 6734794588160) (by decide) hp) (by first | exact fun h => h | exact fun _ => ⟨Nat.zero_le _, Nat.zero_le _, Nat.zero_le _⟩ | exact fun h => ⟨Nat.zero_le _, h.2⟩ | exact fun h => ⟨List.length_take_le _ _, h.2⟩ | (intro h; simp +zetaDelta only [Core.inCap] at h ⊢; exact h) | exact fun h => ⟨h.1, Nat.le_trans (List.length_filter_le _ _) h.2.1, Nat.le_trans (List.length_filter_le _ _) h.2.2⟩) ?_
                  assumption
                · assumption

theorem State.fenceCore_kept {m : Nat} {s0 : State} (hp : Sub 2336479641604 m) {s : State} {n : Nat} (hk : Kept m s0 s) : Kept m s0 (State.fenceCore s n) := by
  unfold State.fenceCore
  refine State.raise_kept (Sub.trans (b := 2336479641604) (by decide) hp) ?_
  refine State.withdraw_kept (Sub.trans (b := 2336479641604) (by decide) hp) ?_
  refine State.setUnit_kept (Sub.trans (b := 2336479641604) (by decide) hp) ?_
  assumption

theorem State.fenceCluster_kept {m : Nat} {s0 : State} (hp : Sub 2336479641604 m) {s : State} {k : Nat} (hk : Kept m s0 s) : Kept m s0 (State.fenceCluster s k) := by
  unfold State.fenceCluster
  refine State.raise_kept (Sub.trans (b := 2336479641604) (by decide) hp) ?_
  refine State.withdraw_kept (Sub.trans (b := 2336479641604) (by decide) hp) ?_
  refine Kept.forEach (fun z0 a1 h2 => ?_) ?_
  · refine State.setUnit_kept (Sub.trans (b := 2336479641604) (by decide) hp) ?_
    assumption
  · assumption

theorem State.haltPoll_kept {m : Nat} {s0 : State} (hp : Sub 4398046642176 m) {s : State} {n : Nat} (hk : Kept m s0 s) : Kept m s0 (State.haltPoll s n) := by
  unfold State.haltPoll
  extract_lets +onlyGivenNames x0
  refine Kept.cond (fun _ => ?_) (fun _ => ?_)
  · refine State.haltNow_kept hp ?_
    assumption
  · refine Kept.cond (fun _ => ?_) (fun _ => ?_)
    · refine State.haltNow_kept hp ?_
      assumption
    · assumption

end Sys2Proof.Machine
end

