-- ==== Sys2Proof/Laws/KeptPorts.lean ====
section
/-!
SUPPORT. What the definitions of Machine/Ports.lean keep: one lemma each.
-/
namespace Sys2Proof.Machine

theorem State.portErr_kept {m : Nat} {s0 : State} (hp : Sub 8796093022208 m) {s : State} {u : Nat} (hk : Kept m s0 s) : Kept m s0 (State.portErr s u) := by
  unfold State.portErr
  refine State.inc_kept' Reg.PORT_ERR0_block (hp.bit (by decide)) ?_
  assumption

theorem State.portTmo_kept {m : Nat} {s0 : State} (hp : Sub 8796093022208 m) {s : State} {u : Nat} (hk : Kept m s0 s) : Kept m s0 (State.portTmo s u) := by
  unfold State.portTmo
  refine State.inc_kept' Reg.PORT_ERR1_block (hp.bit (by decide)) ?_
  assumption

theorem State.portDrop_kept {m : Nat} {s0 : State} (hp : Sub 8796093022208 m) {s : State} {u : Nat} (hk : Kept m s0 s) : Kept m s0 (State.portDrop s u) := by
  unfold State.portDrop
  refine State.inc_kept' Reg.PORT_ERR1_block (hp.bit (by decide)) ?_
  assumption

theorem State.takeTokens_kept {m : Nat} {s0 : State} (hp : Sub 70368748371968 m) {s : State} {p : Nat} {x2_ : Nat} (hk : Kept m s0 s) : Kept m s0 (State.takeTokens s p x2_).1 := by
  unfold State.takeTokens
  split
  · show Kept m s0 _
    assumption
  · split
    · next e2 =>
        have h7 : Kept m s0 _ := Kept.fst e2 (by
            refine State.allocGranule_kept hp ?_
            assumption
          )
        refine Kept.cond1 (fun _ => ?_) (fun _ => ?_)
        · show Kept m s0 _
          assumption
        · split
          · next e5 =>
              have h6 : Kept m s0 _ := Kept.fst e5 (by
                  refine State.takeTokens_kept hp ?_
                  assumption
                )
              show Kept m s0 _
              assumption

theorem State.putChain_kept {m : Nat} {s0 : State} (hp : Sub 393218 m) {s : State} {u : Nat} {x2_ : List Nat} {x3_ : Bytes} (hk : Kept m s0 s) : Kept m s0 (State.putChain s u x2_ x3_).1 := by
  unfold State.putChain
  split
  · show Kept m s0 _
    assumption
  · split
    · next e1 =>
        have h2 : Kept m s0 _ := Kept.fst e1 (by
            refine State.memWr_kept hp ?_
            assumption
          )
        refine State.putChain_kept hp ?_
        assumption
    · next e4 =>
        have h5 : Kept m s0 _ := Kept.fst e4 (by
            refine State.memWr_kept hp ?_
            assumption
          )
        show Kept m s0 _
        assumption

theorem State.pktRx_kept {m : Nat} {s0 : State} (hp : Sub 85899669798914 m) {s : State} {u : Nat} {sub : Nat} {src : Nat} {b : Bytes} (hk : Kept m s0 s) : Kept m s0 (State.pktRx s u sub src b) := by
  unfold State.pktRx
  extract_lets +onlyGivenNames x0
  extract_lets +onlyGivenNames x1
  extract_lets +onlyGivenNames x2
  unfold x2
  try clear x2
  refine Kept.cond (fun _ => ?_) (fun _ => ?_)
  · refine State.portEvt_kept (Sub.trans (b := 85899669798914) (by decide) hp) ?_
    refine State.inc_kept' Reg.PORT_ERR0_block (hp.bit (by decide)) ?_
    assumption
  · split
    · next e5 =>
        have h12 : Kept m s0 _ := Kept.fst e5 (by
            refine State.takeTokens_kept (Sub.trans (b := 85899669798914) (by decide) hp) ?_
            assumption
          )
        refine Kept.cond (fun _ => ?_) (fun _ => ?_)
        · refine State.portEvt_kept (Sub.trans (b := 85899669798914) (by decide) hp) ?_
          refine State.inc_kept' Reg.PORT_ERR0_block (hp.bit (by decide)) ?_
          refine State.dropGranules_kept (Sub.trans (b := 85899669798914) (by decide) hp) ?_
          assumption
        · split
          · next e7 =>
              have h8 : Kept m s0 _ := Kept.fst e7 (by
                  refine State.putChain_kept (Sub.trans (b := 85899669798914) (by decide) hp) ?_
                  assumption
                )
              refine State.portEvt_kept (Sub.trans (b := 85899669798914) (by decide) hp) ?_
              refine State.setXp_kept (Sub.trans (b := 85899669798914) (by decide) hp) ?_
              assumption
          · next e10 =>
              have h11 : Kept m s0 _ := Kept.fst e10 (by
                  refine State.putChain_kept (Sub.trans (b := 85899669798914) (by decide) hp) ?_
                  assumption
                )
              refine State.dropGranules_kept (Sub.trans (b := 85899669798914) (by decide) hp) ?_
              refine State.portErr_kept (Sub.trans (b := 85899669798914) (by decide) hp) ?_
              assumption

theorem State.eidRx_kept {m : Nat} {s0 : State} (hp : Sub 33554432 m) {s : State} {u : Nat} {b : Bytes} (hk : Kept m s0 s) : Kept m s0 (State.eidRx s u b) := by
  unfold State.eidRx
  extract_lets +onlyGivenNames x0
  refine Kept.cond (fun _ => ?_) (fun _ => ?_)
  · refine State.setXp_kept hp ?_
    assumption
  · assumption

theorem execPacketRx_kept {m : Nat} {s0 : State} (hp : Sub 85899669798914 m) {u : Fin 52} {sub : BitVec 16} {src : BitVec 16} {b : Bytes} {s : State} (hk : Kept m s0 s) : OutKept m s0 (execPacketRx u sub src b s) := by
  unfold execPacketRx
  refine OutKept.next ?_
  extract_lets +onlyGivenNames x0
  refine Kept.cond (fun _ => ?_) (fun _ => ?_)
  · refine State.pktRx_kept hp ?_
    refine State.eidRx_kept (Sub.trans (b := 85899669798914) (by decide) hp) ?_
    assumption
  · assumption

theorem State.rxqPop_kept {m : Nat} {s0 : State} (hp : Sub 33554432 m) {s : State} {u : Nat} (hk : Kept m s0 s) : Kept m s0 (State.rxqPop s u).1 := by
  unfold State.rxqPop
  split
  · show Kept m s0 _
    assumption
  · show Kept m s0 _
    refine State.setXp_kept hp ?_
    assumption

theorem State.txqPush_kept {m : Nat} {s0 : State} (hp : Sub 33554432 m) {s : State} {u : Nat} {v : W32} (hk : Kept m s0 s) : Kept m s0 (State.txqPush s u v) := by
  unfold State.txqPush
  extract_lets +onlyGivenNames x0
  refine Kept.cond (fun _ => ?_) (fun _ => ?_)
  · assumption
  · refine State.setXp_kept hp ?_
    assumption

theorem State.mbxTake_kept {m : Nat} {s0 : State} (hp : Sub 1048576 m) {s : State} {m_ : Nat} {ba : Bool} {x3_ : Nat} (hk : Kept m s0 s) : Kept m s0 (State.mbxTake s m_ ba x3_).1 := by
  unfold State.mbxTake
  split
  · show Kept m s0 _
    assumption
  · refine Kept.cond1 (fun _ => ?_) (fun _ => ?_)
    · show Kept m s0 _
      assumption
    · split
      · next e3 =>
          have h8 : Kept m s0 _ := Kept.fst e3 (by
              refine State.mbxPop_kept hp ?_
              assumption
            )
          split
          · next e6 =>
              have h7 : Kept m s0 _ := Kept.fst e6 (by
                  refine State.mbxTake_kept hp ?_
                  assumption
                )
              show Kept m s0 _
              assumption

theorem State.mbxFrame_kept {m : Nat} {s0 : State} (hp : Sub 15805800120320 m) {s : State} {u : Nat} {sub : Nat} {b : Bytes} (hk : Kept m s0 s) : Kept m s0 (State.mbxFrame s u sub b).1 := by
  unfold State.mbxFrame
  extract_lets +onlyGivenNames x0
  extract_lets +onlyGivenNames x1
  extract_lets +onlyGivenNames x2
  extract_lets +onlyGivenNames x3
  extract_lets +onlyGivenNames x4
  split
  · refine Kept.cond1 (fun _ => ?_) (fun _ => ?_)
    · show Kept m s0 _
      refine Kept.forEach (fun z5 a6 h7 => ?_) ?_
      · refine State.mbxPush_kept hp ?_
        assumption
      · assumption
    · show Kept m s0 _
      assumption
  · refine Kept.cond1 (fun _ => ?_) (fun _ => ?_)
    · show Kept m s0 _
      assumption
    · show Kept m s0 _
      assumption
  · refine Kept.cond1 (fun _ => ?_) (fun _ => ?_)
    · show Kept m s0 _
      assumption
    · split
      · next e10 =>
          have h11 : Kept m s0 _ := Kept.fst e10 (by
              refine State.mbxTake_kept (Sub.trans (b := 15805800120320) (by decide) hp) ?_
              assumption
            )
          refine Kept.cond1 (fun _ => ?_) (fun _ => ?_)
          · show Kept m s0 _
            assumption
          · show Kept m s0 _
            assumption
  · refine Kept.cond1 (fun _ => ?_) (fun _ => ?_)
    · show Kept m s0 _
      refine State.mbxCode_kept hp ?_
      assumption
    · show Kept m s0 _
      assumption

theorem State.frameRx_kept {m : Nat} {s0 : State} (hp : Sub 15805800120320 m) {s : State} {u : Nat} {sub : Nat} {src : W32} {b : Bytes} (hk : Kept m s0 s) : Kept m s0 (State.frameRx s u sub src b) := by
  unfold State.frameRx
  extract_lets +onlyGivenNames x0
  unfold x0
  try clear x0
  split
  · refine State.setXp_kept (Sub.trans (b := 15805800120320) (by decide) hp) ?_
    refine State.portErr_kept (Sub.trans (b := 15805800120320) (by decide) hp) ?_
    assumption
  · refine Kept.cond (fun _ => ?_) (fun _ => ?_)
    · refine State.setXp_kept (Sub.trans (b := 15805800120320) (by decide) hp) ?_
      refine State.portErr_kept (Sub.trans (b := 15805800120320) (by decide) hp) ?_
      assumption
    · extract_lets +onlyGivenNames x1
      extract_lets +onlyGivenNames x2
      have h3 : Kept m s0 x2 := by
        unfold x2
        refine State.setXp_kept (Sub.trans (b := 15805800120320) (by decide) hp) ?_
        assumption
      try (generalize x2 = y2 at h3 ⊢; try clear x2)
      split
      · next e6 =>
          have h7 : Kept m s0 _ := Kept.fst e6 (by
              refine State.mbxFrame_kept hp ?_
              assumption
            )
          refine State.setXp_kept (Sub.trans (b := 15805800120320) (by decide) hp) ?_
          assumption

theorem State.opFrame_kept {m : Nat} {s0 : State} (hp : Sub 15805800120320 m) {s : State} {op : Nat} {u : Nat} {sub : Nat} {src : W32} {b : Bytes} (hk : Kept m s0 s) : Kept m s0 (State.opFrame s op u sub src b) := by
  unfold State.opFrame
  extract_lets +onlyGivenNames x0
  refine Kept.cond (fun _ => ?_) (fun _ => ?_)
  · assumption
  · refine State.frameRx_kept hp ?_
    assumption

theorem execMbxFramePush_kept {m : Nat} {s0 : State} (hp : Sub 15805800120320 m) {u : Fin 52} {sub : BitVec 16} {src : W32} {b : Bytes} {s : State} (hk : Kept m s0 s) : OutKept m s0 (execMbxFramePush u sub src b s) := by
  unfold execMbxFramePush
  refine OutKept.next ?_
  refine State.opFrame_kept hp ?_
  assumption

theorem execReadAck_kept {m : Nat} {s0 : State} (hp : Sub 15805800120320 m) {u : Fin 52} {sub : BitVec 16} {src : W32} {b : Bytes} {s : State} (hk : Kept m s0 s) : OutKept m s0 (execReadAck u sub src b s) := by
  unfold execReadAck
  refine OutKept.next ?_
  refine State.opFrame_kept hp ?_
  assumption

theorem execReadRx_kept {m : Nat} {s0 : State} (hp : Sub 15805800120320 m) {u : Fin 52} {sub : BitVec 16} {src : W32} {b : Bytes} {s : State} (hk : Kept m s0 s) : OutKept m s0 (execReadRx u sub src b s) := by
  unfold execReadRx
  refine OutKept.next ?_
  refine State.opFrame_kept hp ?_
  assumption

theorem execWriteAck_kept {m : Nat} {s0 : State} (hp : Sub 15805800120320 m) {u : Fin 52} {sub : BitVec 16} {src : W32} {b : Bytes} {s : State} (hk : Kept m s0 s) : OutKept m s0 (execWriteAck u sub src b s) := by
  unfold execWriteAck
  refine OutKept.next ?_
  refine State.opFrame_kept hp ?_
  assumption

theorem State.learn_kept {m : Nat} {s0 : State} (hp : Sub 67108864 m) {s : State} {v : Nat} {i : Nat} {a : Nat} (hk : Kept m s0 s) : Kept m s0 (State.learn s v i a) := by
  unfold State.learn
  extract_lets +onlyGivenNames x0
  refine Kept.cond (fun _ => ?_) (fun _ => ?_)
  · assumption
  · refine Kept.upd_sw (hp.bit (by decide)) ?_
    assumption

theorem State.swSend_kept {m : Nat} {s0 : State} (hp : Sub 100663296 m) {s : State} {i : Nat} {f : Bytes} (hk : Kept m s0 s) : Kept m s0 (State.swSend s i f) := by
  unfold State.swSend
  extract_lets +onlyGivenNames x0
  refine Kept.cond (fun _ => ?_) (fun _ => ?_)
  · refine State.setXp_kept (Sub.trans (b := 100663296) (by decide) hp) ?_
    assumption
  · extract_lets +onlyGivenNames x1
    extract_lets +onlyGivenNames x2
    have h3 : Kept m s0 x2 := by
      unfold x2
      refine Kept.cond (fun _ => ?_) (fun _ => ?_)
      · refine State.setXp_kept (Sub.trans (b := 100663296) (by decide) hp) ?_
        assumption
      · assumption
    try (generalize x2 = y2 at h3 ⊢; try clear x2)
    refine Kept.upd_sw (hp.bit (by decide)) ?_
    assumption

theorem State.unpause_kept {m : Nat} {s0 : State} (hp : Sub 100663296 m) {s : State} {u : Nat} (hk : Kept m s0 s) : Kept m s0 (State.unpause s u) := by
  unfold State.unpause
  extract_lets +onlyGivenNames x0
  refine Kept.cond (fun _ => ?_) (fun _ => ?_)
  · assumption
  · refine Kept.forEach (fun z1 a2 h3 => ?_) ?_
    · refine State.swSend_kept hp ?_
      assumption
    · refine State.setXp_kept (Sub.trans (b := 100663296) (by decide) hp) ?_
      assumption

theorem State.toInternal_kept {m : Nat} {s0 : State} (hp : Sub 86174615863298 m) {s : State} {i : Nat} {v : Nat} {o : Nat} {b : Bytes} (hk : Kept m s0 s) : Kept m s0 (State.toInternal s i v o b) := by
  unfold State.toInternal
  extract_lets +onlyGivenNames x0
  extract_lets +onlyGivenNames x1
  extract_lets +onlyGivenNames x2
  extract_lets +onlyGivenNames x3
  extract_lets +onlyGivenNames x4
  refine Kept.cond (fun _ => ?_) (fun _ => ?_)
  · refine State.portDrop_kept (Sub.trans (b := 86174615863298) (by decide) hp) ?_
    assumption
  · extract_lets +onlyGivenNames x5
    extract_lets +onlyGivenNames x6
    have h7 : Kept m s0 x6 := by
      unfold x6
      refine Kept.upd_sw (hp.bit (by decide)) ?_
      assumption
    try (generalize x6 = y6 at h7 ⊢; try clear x6)
    split
    · refine Kept.cond (fun _ => ?_) (fun _ => ?_)
      · refine State.frameRx_kept (Sub.trans (b := 86174615863298) (by decide) hp) ?_
        assumption
      · refine State.pktRx_kept (Sub.trans (b := 86174615863298) (by decide) hp) ?_
        assumption
    · refine State.pktRx_kept (Sub.trans (b := 86174615863298) (by decide) hp) ?_
      assumption

theorem State.swFrame_kept {m : Nat} {s0 : State} (hp : Sub 86174615863298 m) {s : State} {i : Nat} {b : Bytes} (hk : Kept m s0 s) : Kept m s0 (State.swFrame s i b) := by
  unfold State.swFrame
  split
  · assumption
  · refine Kept.cond (fun _ => ?_) (fun _ => ?_)
    · assumption
    · extract_lets +onlyGivenNames x0
      have h1 : Kept m s0 x0 := by
        unfold x0
        refine State.learn_kept (Sub.trans (b := 86174615863298) (by decide) hp) ?_
        assumption
      try (generalize x0 = y0 at h1 ⊢; try clear x0)
      extract_lets +onlyGivenNames x2
      extract_lets +onlyGivenNames x3
      have h4 : Kept m s0 x3 := by
        unfold x3
        refine Kept.cond (fun _ => ?_) (fun _ => ?_)
        · refine State.setXp_kept (Sub.trans (b := 86174615863298) (by decide) hp) ?_
          assumption
        · assumption
      try (generalize x3 = y3 at h4 ⊢; try clear x3)
      extract_lets +onlyGivenNames x5
      extract_lets +onlyGivenNames x6
      have h7 : Kept m s0 x6 := by
        unfold x6
        refine Kept.forEach (fun z8 a9 h10 => ?_) ?_
        · refine State.swSend_kept (Sub.trans (b := 86174615863298) (by decide) hp) ?_
          assumption
        · assumption
      try (generalize x6 = y6 at h7 ⊢; try clear x6)
      refine Kept.cond (fun _ => ?_) (fun _ => ?_)
      · refine State.toInternal_kept hp ?_
        assumption
      · assumption

theorem State.pauseRx_kept {m : Nat} {s0 : State} (hp : Sub 33554432 m) {s : State} {u : Nat} {b : Bytes} (hk : Kept m s0 s) : Kept m s0 (State.pauseRx s u b) := by
  unfold State.pauseRx
  refine Kept.cond (fun _ => ?_) (fun _ => ?_)
  · refine State.tick1_kept (Sub.trans (b := 33554432) (by decide) hp) ?_
    refine State.setXp_kept hp ?_
    assumption
  · assumption

theorem execEthFrameRx_kept {m : Nat} {s0 : State} (hp : Sub 86174615863298 m) {i : Fin 11} {fcsOk : Bool} {b : Bytes} {s : State} (hk : Kept m s0 s) : OutKept m s0 (execEthFrameRx i fcsOk b s) := by
  unfold execEthFrameRx
  refine OutKept.next ?_
  extract_lets +onlyGivenNames x0
  refine Kept.cond (fun _ => ?_) (fun _ => ?_)
  · assumption
  · refine Kept.cond (fun _ => ?_) (fun _ => ?_)
    · refine State.portErr_kept (Sub.trans (b := 86174615863298) (by decide) hp) ?_
      assumption
    · refine Kept.cond (fun _ => ?_) (fun _ => ?_)
      · refine State.pauseRx_kept (Sub.trans (b := 86174615863298) (by decide) hp) ?_
        assumption
      · refine State.swFrame_kept hp ?_
        assumption

theorem State.fromInternal_kept {m : Nat} {s0 : State} (hp : Sub 8796193685504 m) {s : State} {u : Nat} {b : Bytes} (hk : Kept m s0 s) : Kept m s0 (State.fromInternal s u b) := by
  unfold State.fromInternal
  split
  · refine State.portDrop_kept (Sub.trans (b := 8796193685504) (by decide) hp) ?_
    assumption
  · refine Kept.cond (fun _ => ?_) (fun _ => ?_)
    · refine State.swSend_kept (Sub.trans (b := 8796193685504) (by decide) hp) ?_
      assumption
    · refine State.portDrop_kept (Sub.trans (b := 8796193685504) (by decide) hp) ?_
      assumption

theorem execPacketSent_kept {m : Nat} {s0 : State} (hp : Sub 8796197879808 m) {u : Fin 52} {s : State} (hk : Kept m s0 s) : OutKept m s0 (execPacketSent u s) := by
  unfold execPacketSent
  refine OutKept.next ?_
  split
  · assumption
  · refine Kept.cond (fun _ => ?_) (fun _ => ?_)
    · assumption
    · extract_lets +onlyGivenNames x0
      extract_lets +onlyGivenNames x1
      extract_lets +onlyGivenNames x2
      have h3 : Kept m s0 x2 := by
        unfold x2
        split
        · extract_lets +onlyGivenNames x4
          have h5 : Kept m s0 x4 := by
            unfold x4
            refine State.setXp_kept (Sub.trans (b := 8796197879808) (by decide) hp) ?_
            assumption
          try (generalize x4 = y4 at h5 ⊢; try clear x4)
          refine Kept.cond (fun _ => ?_) (fun _ => ?_)
          · refine State.fromInternal_kept (Sub.trans (b := 8796197879808) (by decide) hp) ?_
            assumption
          · assumption
        · refine State.portErr_kept (Sub.trans (b := 8796197879808) (by decide) hp) ?_
          refine State.setXp_kept (Sub.trans (b := 8796197879808) (by decide) hp) ?_
          assumption
      try (generalize x2 = y2 at h3 ⊢; try clear x2)
      refine State.dropGranules_kept (Sub.trans (b := 8796197879808) (by decide) hp) ?_
      assumption

theorem execMacAgeing_kept {m : Nat} {s0 : State} (hp : Sub 67108864 m) {v : BitVec 12} {a : BitVec 48} {s : State} (hk : Kept m s0 s) : OutKept m s0 (execMacAgeing v a s) := by
  unfold execMacAgeing
  refine OutKept.next ?_
  extract_lets +onlyGivenNames x0
  split
  · refine Kept.cond (fun _ => ?_) (fun _ => ?_)
    · refine Kept.upd_sw (hp.bit (by decide)) ?_
      assumption
    · assumption
  · assumption

theorem execLinkUp_kept {m : Nat} {s0 : State} (hp : Sub 15530887610368 m) {u : Fin 52} {rate : BitVec 4} {width : BitVec 4} {s : State} (hk : Kept m s0 s) : OutKept m s0 (execLinkUp u rate width s) := by
  unfold execLinkUp
  refine OutKept.next ?_
  refine Kept.cond (fun _ => ?_) (fun _ => ?_)
  · assumption
  · extract_lets +onlyGivenNames x0
    extract_lets +onlyGivenNames x1
    have h2 : Kept m s0 x1 := by
      unfold x1
      refine State.wr_kept' Reg.PORT_STAT_block (hp.bit (by decide)) ?_
      assumption
    try (generalize x1 = y1 at h2 ⊢; try clear x1)
    refine Kept.cond (fun _ => ?_) (fun _ => ?_)
    · assumption
    · refine State.portEvt_kept hp ?_
      assumption

theorem execLinkDown_kept {m : Nat} {s0 : State} (hp : Sub 562949740462082 m) {u : Fin 52} {s : State} (hk : Kept m s0 s) : OutKept m s0 (execLinkDown u s) := by
  unfold execLinkDown
  refine OutKept.next ?_
  refine Kept.cond (fun _ => ?_) (fun _ => ?_)
  · extract_lets +onlyGivenNames x0
    refine Kept.forEach (fun z1 a2 h3 => ?_) ?_
    · refine State.pollTimeout_kept (Sub.trans (b := 562949740462082) (by decide) hp) ?_
      assumption
    · refine State.portEvt_kept (Sub.trans (b := 562949740462082) (by decide) hp) ?_
      refine State.wr_kept' Reg.PORT_STAT_block (hp.bit (by decide)) ?_
      assumption
  · assumption

theorem execRp0InboundRequest_kept {m : Nat} {s0 : State} (hp : Sub 8796126576640 m) {msi : Bool} {s : State} (hk : Kept m s0 s) : OutKept m s0 (execRp0InboundRequest msi s) := by
  unfold execRp0InboundRequest
  refine OutKept.next ?_
  refine Kept.cond (fun _ => ?_) (fun _ => ?_)
  · assumption
  · refine State.setXp_kept (Sub.trans (b := 8796126576640) (by decide) hp) ?_
    refine State.portErr_kept (Sub.trans (b := 8796126576640) (by decide) hp) ?_
    assumption

theorem execI3cIbi_kept {m : Nat} {s0 : State} (hp : Sub 8796126576640 m) {i : Fin 4} {r : I3cRx} {s : State} (hk : Kept m s0 s) : OutKept m s0 (execI3cIbi i r s) := by
  unfold execI3cIbi
  refine OutKept.next ?_
  extract_lets +onlyGivenNames x0
  extract_lets +onlyGivenNames x1
  refine Kept.cond (fun _ => ?_) (fun _ => ?_)
  · assumption
  · split
    · refine State.portErr_kept (Sub.trans (b := 8796126576640) (by decide) hp) ?_
      assumption
    · extract_lets +onlyGivenNames x2
      refine Kept.cond (fun _ => ?_) (fun _ => ?_)
      · refine State.portErr_kept (Sub.trans (b := 8796126576640) (by decide) hp) ?_
        assumption
      · refine State.setXp_kept (Sub.trans (b := 8796126576640) (by decide) hp) ?_
        assumption

theorem execBreakReceived_kept {m : Nat} {s0 : State} (hp : Sub 8796093022208 m) {x : UartBrk} {s : State} (hk : Kept m s0 s) : OutKept m s0 (execBreakReceived x s) := by
  unfold execBreakReceived
  refine OutKept.next ?_
  refine Kept.cond (fun _ => ?_) (fun _ => ?_)
  · refine State.portErr_kept hp ?_
    assumption
  · assumption

theorem State.rawEnd_kept {m : Nat} {s0 : State} (hp : Sub 15530921164800 m) {s : State} {u : Nat} {code : Nat} (hk : Kept m s0 s) : Kept m s0 (State.rawEnd s u code) := by
  unfold State.rawEnd
  refine State.portEvt_kept (Sub.trans (b := 15530921164800) (by decide) hp) ?_
  refine State.wr_kept' Reg.PORT_RAW_RES_block (hp.bit (by decide)) ?_
  refine State.setXp_kept (Sub.trans (b := 15530921164800) (by decide) hp) ?_
  assumption

theorem State.rawCmd_kept {m : Nat} {s0 : State} (hp : Sub 15530921164800 m) {s : State} {u : Nat} {v : W32} (hk : Kept m s0 s) : Kept m s0 (State.rawCmd s u v) := by
  unfold State.rawCmd
  extract_lets +onlyGivenNames x0
  have h1 : Kept m s0 x0 := by
    unfold x0
    refine State.plainWrite_kept' Reg.PORT_RAW_CMD_block (hp.bit (by decide)) ?_
    assumption
  try (generalize x0 = y0 at h1 ⊢; try clear x0)
  refine Kept.cond (fun _ => ?_) (fun _ => ?_)
  · assumption
  · refine Kept.cond (fun _ => ?_) (fun _ => ?_)
    · refine State.rawEnd_kept hp ?_
      assumption
    · refine Kept.cond (fun _ => ?_) (fun _ => ?_)
      · refine State.rawEnd_kept hp ?_
        assumption
      · refine Kept.cond (fun _ => ?_) (fun _ => ?_)
        · refine State.setXp_kept (Sub.trans (b := 15530921164800) (by decide) hp) ?_
          assumption
        · refine State.rawStart_kept (Sub.trans (b := 15530921164800) (by decide) hp) ?_
          assumption

theorem execClockLowTimeout_kept {m : Nat} {s0 : State} (hp : Sub 562949740462082 m) {c : Fin 16} {s : State} (hk : Kept m s0 s) : OutKept m s0 (execClockLowTimeout c s) := by
  unfold execClockLowTimeout
  refine OutKept.next ?_
  extract_lets +onlyGivenNames x0
  refine Kept.cond (fun _ => ?_) (fun _ => ?_)
  · assumption
  · extract_lets +onlyGivenNames x1
    have h2 : Kept m s0 x1 := by
      unfold x1
      refine State.portTmo_kept (Sub.trans (b := 562949740462082) (by decide) hp) ?_
      assumption
    try (generalize x1 = y1 at h2 ⊢; try clear x1)
    extract_lets +onlyGivenNames x3
    extract_lets +onlyGivenNames x4
    have h5 : Kept m s0 x4 := by
      unfold x4
      refine State.setXp_kept (Sub.trans (b := 562949740462082) (by decide) hp) ?_
      assumption
    try (generalize x4 = y4 at h5 ⊢; try clear x4)
    split
    · refine Kept.cond (fun _ => ?_) (fun _ => ?_)
      · assumption
      · refine State.rawEnd_kept (Sub.trans (b := 562949740462082) (by decide) hp) ?_
        assumption
    · refine State.pollTimeout_kept (Sub.trans (b := 562949740462082) (by decide) hp) ?_
      assumption
    · assumption

theorem execStuck_kept {m : Nat} {s0 : State} (hp : Sub 15530921164800 m) {c : Fin 16} {s : State} (hk : Kept m s0 s) : OutKept m s0 (execStuck c s) := by
  unfold execStuck
  refine OutKept.next ?_
  extract_lets +onlyGivenNames x0
  refine Kept.cond (fun _ => ?_) (fun _ => ?_)
  · assumption
  · extract_lets +onlyGivenNames x1
    have h2 : Kept m s0 x1 := by
      unfold x1
      refine State.portEvt_kept (Sub.trans (b := 15530921164800) (by decide) hp) ?_
      refine State.portTmo_kept (Sub.trans (b := 15530921164800) (by decide) hp) ?_
      assumption
    try (generalize x1 = y1 at h2 ⊢; try clear x1)
    refine Kept.cond (fun _ => ?_) (fun _ => ?_)
    · refine State.setXp_kept (Sub.trans (b := 15530921164800) (by decide) hp) ?_
      assumption
    · assumption

theorem State.laneErrs_kept {m : Nat} {s0 : State} (hp : Sub 8796093022208 m) {s : State} {u : Nat} {x2_ : Nat} {x3_ : List (BitVec 16)} (hk : Kept m s0 s) : Kept m s0 (State.laneErrs s u x2_ x3_) := by
  unfold State.laneErrs
  split
  · assumption
  · refine Kept.cond (fun _ => ?_) (fun _ => ?_)
    · refine State.laneErrs_kept hp ?_
      refine State.inc_kept' Reg.PORT_LANE_ERR_block (hp.bit (by decide)) ?_
      assumption
    · assumption

theorem State.rawGives_kept {m : Nat} {s0 : State} (hp : Sub 8796128673792 m) {s : State} {u : Nat} {v : W32} {data : W32} (hk : Kept m s0 s) : Kept m s0 (State.rawGives s u v data) := by
  unfold State.rawGives
  extract_lets +onlyGivenNames x0
  refine Kept.cond (fun _ => ?_) (fun _ => ?_)
  · refine State.wr_kept' Reg.PORT_RAW_DATA_block (hp.bit (by decide)) ?_
    assumption
  · refine Kept.cond (fun _ => ?_) (fun _ => ?_)
    · assumption
    · refine Kept.forEach (fun z1 a2 h3 => ?_) ?_
      · refine Kept.cond (fun _ => ?_) (fun _ => ?_)
        · refine State.lineData_kept (Sub.trans (b := 8796128673792) (by decide) hp) ?_
          assumption
        · assumption
      · assumption

theorem execRawDone_kept {m : Nat} {s0 : State} (hp : Sub 15530923261952 m) {u : Fin 52} {e : RawEnd} {data : W32} {lanes : List (BitVec 16)} {s : State} (hk : Kept m s0 s) : OutKept m s0 (execRawDone u e data lanes s) := by
  unfold execRawDone
  refine OutKept.next ?_
  split
  · assumption
  · extract_lets +onlyGivenNames x0
    extract_lets +onlyGivenNames x1
    refine Kept.cond (fun _ => ?_) (fun _ => ?_)
    · assumption
    · refine Kept.cond (fun _ => ?_) (fun _ => ?_)
      · extract_lets +onlyGivenNames x2
        have h3 : Kept m s0 x2 := by
          unfold x2
          refine State.portErr_kept (Sub.trans (b := 15530923261952) (by decide) hp) ?_
          assumption
        try (generalize x2 = y2 at h3 ⊢; try clear x2)
        refine State.setXp_kept (Sub.trans (b := 15530923261952) (by decide) hp) ?_
        assumption
      · extract_lets +onlyGivenNames x4
        extract_lets +onlyGivenNames x5
        have h6 : Kept m s0 x5 := by
          unfold x5
          refine Kept.cond (fun _ => ?_) (fun _ => ?_)
          · refine State.portErr_kept (Sub.trans (b := 15530923261952) (by decide) hp) ?_
            assumption
          · assumption
        try (generalize x5 = y5 at h6 ⊢; try clear x5)
        extract_lets +onlyGivenNames x7
        have h8 : Kept m s0 x7 := by
          unfold x7
          refine Kept.cond (fun _ => ?_) (fun _ => ?_)
          · refine State.rawGives_kept (Sub.trans (b := 15530923261952) (by decide) hp) ?_
            assumption
          · assumption
        try (generalize x7 = y7 at h8 ⊢; try clear x7)
        extract_lets +onlyGivenNames x9
        have h10 : Kept m s0 x9 := by
          unfold x9
          refine Kept.cond (fun _ => ?_) (fun _ => ?_)
          · refine State.laneErrs_kept (Sub.trans (b := 15530923261952) (by decide) hp) ?_
            assumption
          · assumption
        try (generalize x9 = y9 at h10 ⊢; try clear x9)
        extract_lets +onlyGivenNames x11
        have h12 : Kept m s0 x11 := by
          unfold x11
          refine Kept.cond (fun _ => ?_) (fun _ => ?_)
          · refine State.portEvt_kept (Sub.trans (b := 15530923261952) (by decide) hp) ?_
            assumption
          · assumption
        try (generalize x11 = y11 at h12 ⊢; try clear x11)
        refine Kept.cond (fun _ => ?_) (fun _ => ?_)
        · refine State.setXp_kept (Sub.trans (b := 15530923261952) (by decide) hp) ?_
          assumption
        · refine State.rawEnd_kept (Sub.trans (b := 15530923261952) (by decide) hp) ?_
          assumption

theorem execFanTachWindow_kept {m : Nat} {s0 : State} (hp : Sub 37520985948160 m) {f : Fin 16} {rpm : BitVec 16} {s : State} (hk : Kept m s0 s) : OutKept m s0 (execFanTachWindow f rpm s) := by
  unfold execFanTachWindow
  refine OutKept.next ?_
  split
  · assumption
  · extract_lets +onlyGivenNames x0
    have h1 : Kept m s0 x0 := by
      unfold x0
      refine State.pf_kept' Reg.FAN_STAT_block (hp.bit (by decide)) ?_
      assumption
    try (generalize x0 = y0 at h1 ⊢; try clear x0)
    extract_lets +onlyGivenNames x2
    extract_lets +onlyGivenNames x3
    extract_lets +onlyGivenNames x4
    have h5 : Kept m s0 x4 := by
      unfold x4
      refine Kept.upd_fans (hp.bit (by decide)) ?_
      assumption
    try (generalize x4 = y4 at h5 ⊢; try clear x4)
    refine Kept.cond (fun _ => ?_) (fun _ => ?_)
    · assumption
    · extract_lets +onlyGivenNames x6
      extract_lets +onlyGivenNames x7
      have h8 : Kept m s0 x7 := by
        unfold x7
        refine State.pb_kept' Reg.FAN_STAT_block (hp.bit (by decide)) ?_
        assumption
      try (generalize x7 = y7 at h8 ⊢; try clear x7)
      extract_lets +onlyGivenNames x9
      extract_lets +onlyGivenNames x10
      have h11 : Kept m s0 x10 := by
        unfold x10
        refine Kept.cond (fun _ => ?_) (fun _ => ?_)
        · refine Kept.upd_fans (hp.bit (by decide)) ?_
          assumption
        · assumption
      try (generalize x10 = y10 at h11 ⊢; try clear x10)
      refine Kept.cond (fun _ => ?_) (fun _ => ?_)
      · assumption
      · refine State.raise_kept (Sub.trans (b := 37520985948160) (by decide) hp) ?_
        assumption

theorem execFanWdtExpiry_kept {m : Nat} {s0 : State} (hp : Sub 134217728 m) {s : State} (hk : Kept m s0 s) : OutKept m s0 (execFanWdtExpiry s) := by
  unfold execFanWdtExpiry
  refine OutKept.next ?_
  extract_lets +onlyGivenNames x0
  refine Kept.cond (fun _ => ?_) (fun _ => ?_)
  · refine Kept.upd_fans (hp.bit (by decide)) ?_
    assumption
  · assumption

theorem State.fanWdt_kept {m : Nat} {s0 : State} (hp : Sub 35184506306560 m) {s : State} {v : W32} (hk : Kept m s0 s) : Kept m s0 (State.fanWdt s v) := by
  unfold State.fanWdt
  extract_lets +onlyGivenNames x0
  extract_lets +onlyGivenNames x1
  have h2 : Kept m s0 x1 := by
    unfold x1
    refine State.plainWrite_kept' Reg.FAN_WDT_block (hp.bit (by decide)) ?_
    assumption
  try (generalize x1 = y1 at h2 ⊢; try clear x1)
  refine Kept.cond (fun _ => ?_) (fun _ => ?_)
  · refine Kept.upd_fans (hp.bit (by decide)) ?_
    assumption
  · assumption

theorem State.fanPwm_kept {m : Nat} {s0 : State} (hp : Sub 35184506306560 m) {s : State} {f : Nat} {v : W32} (hk : Kept m s0 s) : Kept m s0 (State.fanPwm s f v) := by
  unfold State.fanPwm
  extract_lets +onlyGivenNames x0
  have h1 : Kept m s0 x0 := by
    unfold x0
    refine State.plainWrite_kept' Reg.FAN_PWM_block (hp.bit (by decide)) ?_
    assumption
  try (generalize x0 = y0 at h1 ⊢; try clear x0)
  refine Kept.upd_fans (hp.bit (by decide)) ?_
  assumption

theorem execGpioInputChange_kept {m : Nat} {s0 : State} (hp : Sub 37520851730432 m) {g : Fin 128} {lvl : Bool} {s : State} (hk : Kept m s0 s) : OutKept m s0 (execGpioInputChange g lvl s) := by
  unfold execGpioInputChange
  refine OutKept.next ?_
  refine Kept.cond (fun _ => ?_) (fun _ => ?_)
  · assumption
  · refine State.raise_kept (Sub.trans (b := 37520851730432) (by decide) hp) ?_
    refine Kept.cond (fun _ => ?_) (fun _ => ?_)
    · refine State.setB_kept' Reg.GPIO_IN_block (hp.bit (by decide)) ?_
      assumption
    · refine State.clrB_kept' Reg.GPIO_IN_block (hp.bit (by decide)) ?_
      assumption

theorem State.swVlan_kept {m : Nat} {s0 : State} (hp : Sub 17592186044416 m) {s : State} {v : Nat} {x : W32} (hk : Kept m s0 s) : Kept m s0 (State.swVlan s v x) := by
  unfold State.swVlan
  refine Kept.cond (fun _ => ?_) (fun _ => ?_)
  · assumption
  · refine State.plainWrite_kept' Reg.SW_VLAN_block (hp.bit (by decide)) ?_
    assumption

theorem State.dramErr_kept {m : Nat} {s0 : State} (hp : Sub 281474976972800 m) {s : State} {a : Nat} {e : Ecc} (hk : Kept m s0 s) : Kept m s0 (State.dramErr s a e) := by
  unfold State.dramErr
  extract_lets +onlyGivenNames x0
  split
  · assumption
  · refine State.inc_kept' Reg.MC_ECC_block (hp.bit (by decide)) ?_
    assumption
  · refine State.wr_kept' Reg.MC_ERR_ADDR_HI_block (hp.bit (by decide)) ?_
    refine State.wr_kept' Reg.MC_ERR_ADDR_LO_block (hp.bit (by decide)) ?_
    refine State.inc_kept' Reg.MC_ECC_block (hp.bit (by decide)) ?_
    refine State.poisonLine_kept (Sub.trans (b := 281474976972800) (by decide) hp) ?_
    assumption

theorem State.basinErr_kept {m : Nat} {s0 : State} (hp : Sub 70368744439808 m) {s : State} {a : Nat} {e : Ecc} (hk : Kept m s0 s) : Kept m s0 (State.basinErr s a e) := by
  unfold State.basinErr
  split
  · assumption
  · refine State.inc_kept' Reg.BSN_STATUS_block (hp.bit (by decide)) ?_
    assumption
  · refine State.pb_kept' Reg.BSN_STATUS_block (hp.bit (by decide)) ?_
    refine State.poisonLine_kept (Sub.trans (b := 70368744439808) (by decide) hp) ?_
    assumption

theorem State.memErr_kept {m : Nat} {s0 : State} (hp : Sub 351843721150464 m) {s : State} {a : Nat} {e : Ecc} (hk : Kept m s0 s) : Kept m s0 (State.memErr s a e).1 := by
  unfold State.memErr
  show Kept m s0 _
  refine Kept.cond (fun _ => ?_) (fun _ => ?_)
  · refine State.dramErr_kept (Sub.trans (b := 351843721150464) (by decide) hp) ?_
    assumption
  · refine State.basinErr_kept (Sub.trans (b := 351843721150464) (by decide) hp) ?_
    assumption

theorem execPatrolScrub_kept {m : Nat} {s0 : State} (hp : Sub 281474976972800 m) {a : BitVec 38} {e : Ecc} {s : State} (hk : Kept m s0 s) : OutKept m s0 (execPatrolScrub a e s) := by
  unfold execPatrolScrub
  refine OutKept.next ?_
  refine Kept.cond (fun _ => ?_) (fun _ => ?_)
  · refine State.dramErr_kept hp ?_
    assumption
  · assumption

end Sys2Proof.Machine
end

