-- ==== Sys2Proof/Laws/KeptKeep.lean ====
section
/-!
SUPPORT. What the definitions of Machine/Keep.lean keep: one lemma each.
-/
namespace Sys2Proof.Machine

theorem State.mrExtend_kept {m : Nat} {s0 : State} (hp : Sub 16 m) {s : State} {i : Nat} {d : Bytes} (hk : Kept m s0 s) : Kept m s0 (State.mrExtend s i d) := by
  unfold State.mrExtend
  refine Kept.upd_keep ⟨hp.bit (by decide), by first | exact KeepOk.same rfl rfl | exact KeepOk.setCtr (by first | exact Nat.le_succ _ | (apply Nat.le_of_lt; assumption)) | exact KeepOk.trans (KeepOk.setCtr (Nat.le_succ _)) (KeepOk.same rfl rfl)⟩ ?_
  assumption

theorem State.measure_kept {m : Nat} {s0 : State} (hp : Sub 16 m) {s : State} {i : Nat} {b : Bytes} {o : Nat} (hk : Kept m s0 s) : Kept m s0 (State.measure s i b o) := by
  unfold State.measure
  refine State.mrExtend_kept hp ?_
  assumption

theorem State.romRun_kept {m : Nat} {s0 : State} (hp : Sub 18 m) {s : State} {l : Bytes} (hk : Kept m s0 s) : Kept m s0 (State.romRun s l) := by
  unfold State.romRun
  extract_lets +onlyGivenNames x0
  have h1 : Kept m s0 x0 := by
    unfold x0
    refine State.mput_kept (Sub.trans (b := 18) (by decide) hp) ?_
    refine State.measure_kept (Sub.trans (b := 18) (by decide) hp) ?_
    assumption
  try (generalize x0 = y0 at h1 ⊢; try clear x0)
  refine Kept.upd_keep ⟨hp.bit (by decide), by first | exact KeepOk.same rfl rfl | exact KeepOk.setCtr (by first | exact Nat.le_succ _ | (apply Nat.le_of_lt; assumption)) | exact KeepOk.trans (KeepOk.setCtr (Nat.le_succ _)) (KeepOk.same rfl rfl)⟩ ?_
  assumption

theorem State.floorUp_kept {m : Nat} {s0 : State} (hp : Sub 16 m) {s : State} {i : Nat} {v : Nat} (hk : Kept m s0 s) : Kept m s0 (State.floorUp s i v) := by
  unfold State.floorUp
  refine Kept.cond (fun _ => ?_) (fun _ => ?_)
  · refine Kept.upd_keep ⟨hp.bit (by decide), by first | exact KeepOk.same rfl rfl | exact KeepOk.setCtr (by first | exact Nat.le_succ _ | (apply Nat.le_of_lt; assumption)) | exact KeepOk.trans (KeepOk.setCtr (Nat.le_succ _)) (KeepOk.same rfl rfl)⟩ ?_
    assumption
  · assumption

theorem State.cntCode_kept {m : Nat} {s0 : State} (hp : Sub 140737488355328 m) {s : State} {c : Nat} (hk : Kept m s0 s) : Kept m s0 (State.cntCode s c) := by
  unfold State.cntCode
  refine State.pf_kept' Reg.KEEP_CNT_STAT_block (hp.bit (by decide)) ?_
  assumption

theorem State.cntCtl_kept {m : Nat} {s0 : State} (hp : Sub 143073967996944 m) {s : State} {v : W32} (hk : Kept m s0 s) : Kept m s0 (State.cntCtl s v) := by
  unfold State.cntCtl
  extract_lets +onlyGivenNames x0
  have h1 : Kept m s0 x0 := by
    unfold x0
    refine State.plainWrite_kept' Reg.KEEP_CNT_CTL_block (hp.bit (by decide)) ?_
    assumption
  try (generalize x0 = y0 at h1 ⊢; try clear x0)
  extract_lets +onlyGivenNames x2
  refine Kept.cond (fun _ => ?_) (fun _ => ?_)
  · refine State.cntCode_kept (Sub.trans (b := 143073967996944) (by decide) hp) ?_
    assumption
  · refine Kept.cond (fun _ => ?_) (fun _ => ?_)
    · assumption
    · refine Kept.cond (fun _ => ?_) (fun _ => ?_)
      · refine State.cntCode_kept (Sub.trans (b := 143073967996944) (by decide) hp) ?_
        assumption
      · refine Kept.cond (fun _ => ?_) (fun _ => ?_)
        · refine State.cntCode_kept (Sub.trans (b := 143073967996944) (by decide) hp) ?_
          assumption
        · refine Kept.cond (fun _ => ?_) (fun _ => ?_)
          · refine State.raise_kept (Sub.trans (b := 143073967996944) (by decide) hp) ?_
            refine State.cntCode_kept (Sub.trans (b := 143073967996944) (by decide) hp) ?_
            assumption
          · extract_lets +onlyGivenNames x3
            have h4 : Kept m s0 x3 := by
              unfold x3
              refine State.cntCode_kept (Sub.trans (b := 143073967996944) (by decide) hp) ?_
              assumption
            try (generalize x3 = y3 at h4 ⊢; try clear x3)
            refine Kept.upd_keep ⟨hp.bit (by decide), by first | exact KeepOk.same rfl rfl | exact KeepOk.setCtr (by first | exact Nat.le_succ _ | (apply Nat.le_of_lt; assumption)) | exact KeepOk.trans (KeepOk.setCtr (Nat.le_succ _)) (KeepOk.same rfl rfl)⟩ ?_
            assumption

theorem execCounterIncrementDone_kept {m : Nat} {s0 : State} (hp : Sub 140737488355344 m) {s : State} (hk : Kept m s0 s) : OutKept m s0 (execCounterIncrementDone s) := by
  unfold execCounterIncrementDone
  refine OutKept.next ?_
  split
  · extract_lets +onlyGivenNames x0
    have h1 : Kept m s0 x0 := by
      unfold x0
      refine State.cntCode_kept (Sub.trans (b := 140737488355344) (by decide) hp) ?_
      assumption
    try (generalize x0 = y0 at h1 ⊢; try clear x0)
    refine Kept.upd_keep ⟨hp.bit (by decide), by first | exact KeepOk.same rfl rfl | exact KeepOk.setCtr (by first | exact Nat.le_succ _ | (apply Nat.le_of_lt; assumption)) | exact KeepOk.trans (KeepOk.setCtr (Nat.le_succ _)) (KeepOk.same rfl rfl)⟩ ?_
    assumption
  · assumption

theorem State.lcCtl_kept {m : Nat} {s0 : State} (hp : Sub 140737488355344 m) {s : State} {v : W32} (hk : Kept m s0 s) : Kept m s0 (State.lcCtl s v) := by
  unfold State.lcCtl
  extract_lets +onlyGivenNames x0
  have h1 : Kept m s0 x0 := by
    unfold x0
    refine State.plainWrite_kept' Reg.KEEP_LC_CTL_block (hp.bit (by decide)) ?_
    assumption
  try (generalize x0 = y0 at h1 ⊢; try clear x0)
  refine Kept.cond (fun _ => ?_) (fun _ => ?_)
  · refine State.cntCode_kept (Sub.trans (b := 140737488355344) (by decide) hp) ?_
    assumption
  · refine Kept.cond (fun _ => ?_) (fun _ => ?_)
    · assumption
    · extract_lets +onlyGivenNames x2
      extract_lets +onlyGivenNames x3
      refine Kept.cond (fun _ => ?_) (fun _ => ?_)
      · refine State.cntCode_kept (Sub.trans (b := 140737488355344) (by decide) hp) ?_
        assumption
      · extract_lets +onlyGivenNames x4
        have h5 : Kept m s0 x4 := by
          unfold x4
          refine State.cntCode_kept (Sub.trans (b := 140737488355344) (by decide) hp) ?_
          assumption
        try (generalize x4 = y4 at h5 ⊢; try clear x4)
        refine Kept.upd_keep ⟨hp.bit (by decide), by first | exact KeepOk.same rfl rfl | exact KeepOk.setCtr (by first | exact Nat.le_succ _ | (apply Nat.le_of_lt; assumption)) | exact KeepOk.trans (KeepOk.setCtr (Nat.le_succ _)) (KeepOk.same rfl rfl)⟩ ?_
        assumption

theorem execLifecycleFuseWriteDone_kept {m : Nat} {s0 : State} (hp : Sub 140737488355344 m) {s : State} (hk : Kept m s0 s) : OutKept m s0 (execLifecycleFuseWriteDone s) := by
  unfold execLifecycleFuseWriteDone
  refine OutKept.next ?_
  split
  · extract_lets +onlyGivenNames x0
    have h1 : Kept m s0 x0 := by
      unfold x0
      refine State.cntCode_kept (Sub.trans (b := 140737488355344) (by decide) hp) ?_
      assumption
    try (generalize x0 = y0 at h1 ⊢; try clear x0)
    refine Kept.upd_keep ⟨hp.bit (by decide), by first | exact KeepOk.same rfl rfl | exact KeepOk.setCtr (by first | exact Nat.le_succ _ | (apply Nat.le_of_lt; assumption)) | exact KeepOk.trans (KeepOk.setCtr (Nat.le_succ _)) (KeepOk.same rfl rfl)⟩ ?_
    assumption
  · assumption

theorem State.refill_kept {m : Nat} {s0 : State} (hp : Sub 16 m) {s : State} (hk : Kept m s0 s) : Kept m s0 (State.refill s) := by
  unfold State.refill
  extract_lets +onlyGivenNames x0
  refine Kept.upd_keep ⟨hp.bit (by decide), by first | exact KeepOk.same rfl rfl | exact KeepOk.setCtr (by first | exact Nat.le_succ _ | (apply Nat.le_of_lt; assumption)) | exact KeepOk.trans (KeepOk.setCtr (Nat.le_succ _)) (KeepOk.same rfl rfl)⟩ ?_
  assumption

theorem State.exhaust_kept {m : Nat} {s0 : State} (hp : Sub 143073967996944 m) {s : State} (hk : Kept m s0 s) : Kept m s0 (State.exhaust s) := by
  unfold State.exhaust
  extract_lets +onlyGivenNames x0
  extract_lets +onlyGivenNames x1
  have h2 : Kept m s0 x1 := by
    unfold x1
    refine State.pb_kept' Reg.KEEP_STATUS_block (hp.bit (by decide)) ?_
    assumption
  try (generalize x1 = y1 at h2 ⊢; try clear x1)
  extract_lets +onlyGivenNames x3
  extract_lets +onlyGivenNames x4
  have h5 : Kept m s0 x4 := by
    unfold x4
    refine Kept.upd_keep ⟨hp.bit (by decide), by first | exact KeepOk.same rfl rfl | exact KeepOk.setCtr (by first | exact Nat.le_succ _ | (apply Nat.le_of_lt; assumption)) | exact KeepOk.trans (KeepOk.setCtr (Nat.le_succ _)) (KeepOk.same rfl rfl)⟩ ?_
    assumption
  try (generalize x4 = y4 at h5 ⊢; try clear x4)
  refine Kept.cond (fun _ => ?_) (fun _ => ?_)
  · assumption
  · refine State.raise_kept (Sub.trans (b := 143073967996944) (by decide) hp) ?_
    assumption

theorem State.hssTake_kept {m : Nat} {s0 : State} (hp : Sub 143073967996944 m) {s : State} (hk : Kept m s0 s) : Kept m s0 (State.hssTake s).1 := by
  unfold State.hssTake
  extract_lets +onlyGivenNames x0
  have h1 : Kept m s0 x0 := by
    unfold x0
    refine State.refill_kept (Sub.trans (b := 143073967996944) (by decide) hp) ?_
    assumption
  try (generalize x0 = y0 at h1 ⊢; try clear x0)
  refine Kept.cond1 (fun _ => ?_) (fun _ => ?_)
  · show Kept m s0 _
    assumption
  · refine Kept.cond1 (fun _ => ?_) (fun _ => ?_)
    · show Kept m s0 _
      assumption
    · extract_lets +onlyGivenNames x2
      refine Kept.cond1 (fun _ => ?_) (fun _ => ?_)
      · show Kept m s0 _
        refine State.exhaust_kept hp ?_
        assumption
      · extract_lets +onlyGivenNames x3
        extract_lets +onlyGivenNames x4
        extract_lets +onlyGivenNames x5
        have h6 : Kept m s0 x5 := by
          unfold x5
          refine Kept.upd_keep ⟨hp.bit (by decide), by first | exact KeepOk.same rfl rfl | exact KeepOk.setCtr (by first | exact Nat.le_succ _ | (apply Nat.le_of_lt; assumption)) | exact KeepOk.trans (KeepOk.setCtr (Nat.le_succ _)) (KeepOk.same rfl rfl)⟩ ?_
          assumption
        try (generalize x5 = y5 at h6 ⊢; try clear x5)
        extract_lets +onlyGivenNames x7
        have h8 : Kept m s0 x7 := by
          unfold x7
          refine Kept.cond (fun _ => ?_) (fun _ => ?_)
          · refine Kept.cond (fun _ => ?_) (fun _ => ?_)
            · refine State.raise_kept (Sub.trans (b := 143073967996944) (by decide) hp) ?_
              assumption
            · assumption
          · assumption
        try (generalize x7 = y7 at h8 ⊢; try clear x7)
        extract_lets +onlyGivenNames x9
        extract_lets +onlyGivenNames x10
        have h11 : Kept m s0 x10 := by
          unfold x10
          refine Kept.upd_keep ⟨hp.bit (by decide), by first | exact KeepOk.same rfl rfl | exact KeepOk.setCtr (by first | exact Nat.le_succ _ | (apply Nat.le_of_lt; assumption)) | exact KeepOk.trans (KeepOk.setCtr (Nat.le_succ _)) (KeepOk.same rfl rfl)⟩ ?_
          assumption
        try (generalize x10 = y10 at h11 ⊢; try clear x10)
        show Kept m s0 _
        refine Kept.cond (fun _ => ?_) (fun _ => ?_)
        · refine State.exhaust_kept hp ?_
          assumption
        · assumption

theorem State.jobGo_kept {m : Nat} {s0 : State} (hp : Sub 143073967996944 m) {s : State} (hk : Kept m s0 s) : Kept m s0 (State.jobGo s) := by
  unfold State.jobGo
  refine Kept.cond (fun _ => ?_) (fun _ => ?_)
  · assumption
  · extract_lets +onlyGivenNames x0
    unfold x0
    try clear x0
    split
    · refine Kept.upd_keep ⟨hp.bit (by decide), by first | exact KeepOk.same rfl rfl | exact KeepOk.setCtr (by first | exact Nat.le_succ _ | (apply Nat.le_of_lt; assumption)) | exact KeepOk.trans (KeepOk.setCtr (Nat.le_succ _)) (KeepOk.same rfl rfl)⟩ ?_
      assumption
    · extract_lets +onlyGivenNames x1
      refine Kept.cond (fun _ => ?_) (fun _ => ?_)
      · refine Kept.upd_keep ⟨hp.bit (by decide), by first | exact KeepOk.same rfl rfl | exact KeepOk.setCtr (by first | exact Nat.le_succ _ | (apply Nat.le_of_lt; assumption)) | exact KeepOk.trans (KeepOk.setCtr (Nat.le_succ _)) (KeepOk.same rfl rfl)⟩ ?_
        assumption
      · refine Kept.cond (fun _ => ?_) (fun _ => ?_)
        · refine Kept.upd_keep ⟨hp.bit (by decide), by first | exact KeepOk.same rfl rfl | exact KeepOk.setCtr (by first | exact Nat.le_succ _ | (apply Nat.le_of_lt; assumption)) | exact KeepOk.trans (KeepOk.setCtr (Nat.le_succ _)) (KeepOk.same rfl rfl)⟩ ?_
          assumption
        · refine Kept.cond (fun _ => ?_) (fun _ => ?_)
          · split
            · next e4 =>
                have h5 : Kept m s0 _ := Kept.fst e4 (by
                    refine State.hssTake_kept hp ?_
                    assumption
                  )
                refine Kept.upd_keep ⟨hp.bit (by decide), by first | exact KeepOk.same rfl rfl | exact KeepOk.setCtr (by first | exact Nat.le_succ _ | (apply Nat.le_of_lt; assumption)) | exact KeepOk.trans (KeepOk.setCtr (Nat.le_succ _)) (KeepOk.same rfl rfl)⟩ ?_
                assumption
          · refine Kept.upd_keep ⟨hp.bit (by decide), by first | exact KeepOk.same rfl rfl | exact KeepOk.setCtr (by first | exact Nat.le_succ _ | (apply Nat.le_of_lt; assumption)) | exact KeepOk.trans (KeepOk.setCtr (Nat.le_succ _)) (KeepOk.same rfl rfl)⟩ ?_
            assumption

theorem State.jobEnd_kept {m : Nat} {s0 : State} (hp : Sub 143073967996944 m) {s : State} {c : Nat} (hk : Kept m s0 s) : Kept m s0 (State.jobEnd s c) := by
  unfold State.jobEnd
  refine State.raise_kept (Sub.trans (b := 143073967996944) (by decide) hp) ?_
  refine State.wr_kept' Reg.KEEP_JOB_STAT_block (hp.bit (by decide)) ?_
  refine Kept.upd_keep ⟨hp.bit (by decide), by first | exact KeepOk.same rfl rfl | exact KeepOk.setCtr (by first | exact Nat.le_succ _ | (apply Nat.le_of_lt; assumption)) | exact KeepOk.trans (KeepOk.setCtr (Nat.le_succ _)) (KeepOk.same rfl rfl)⟩ ?_
  assumption

theorem State.jobEcc_kept {m : Nat} {s0 : State} (hp : Sub 351843721150464 m) {s : State} {j : Job} {e : Ecc} (hk : Kept m s0 s) : Kept m s0 (State.jobEcc s j e).1 := by
  unfold State.jobEcc
  split
  · refine State.memErr_kept hp ?_
    assumption
  · show Kept m s0 _
    assumption

theorem execKeepJobDone_kept {m : Nat} {s0 : State} (hp : Sub 494917689147410 m) {e : Ecc} {s : State} (hk : Kept m s0 s) : OutKept m s0 (execKeepJobDone e s) := by
  unfold execKeepJobDone
  refine OutKept.next ?_
  split
  · assumption
  · split
    · refine State.jobEnd_kept (Sub.trans (b := 494917689147410) (by decide) hp) ?_
      assumption
    · refine Kept.cond (fun _ => ?_) (fun _ => ?_)
      · assumption
      · split
        · split
          · next e1 =>
              have h2 : Kept m s0 _ := Kept.fst e1 (by
                  refine State.jobEcc_kept (Sub.trans (b := 494917689147410) (by decide) hp) ?_
                  assumption
                )
              refine State.jobEnd_kept (Sub.trans (b := 494917689147410) (by decide) hp) ?_
              assumption
          · next e4 =>
              have h12 : Kept m s0 _ := Kept.fst e4 (by
                  refine State.jobEcc_kept (Sub.trans (b := 494917689147410) (by decide) hp) ?_
                  assumption
                )
              refine Kept.cond (fun _ => ?_) (fun _ => ?_)
              · refine State.jobEnd_kept (Sub.trans (b := 494917689147410) (by decide) hp) ?_
                assumption
              · refine Kept.cond (fun _ => ?_) (fun _ => ?_)
                · refine State.jobEnd_kept (Sub.trans (b := 494917689147410) (by decide) hp) ?_
                  refine State.mrExtend_kept (Sub.trans (b := 494917689147410) (by decide) hp) ?_
                  assumption
                · extract_lets +onlyGivenNames x5
                  extract_lets +onlyGivenNames x6
                  have h7 : Kept m s0 x6 := by
                    unfold x6
                    refine State.tick1_kept (Sub.trans (b := 494917689147410) (by decide) hp) ?_
                    assumption
                  try (generalize x6 = y6 at h7 ⊢; try clear x6)
                  refine Kept.cond (fun _ => ?_) (fun _ => ?_)
                  · refine State.jobEnd_kept (Sub.trans (b := 494917689147410) (by decide) hp) ?_
                    assumption
                  · split
                    · next e10 =>
                        have h11 : Kept m s0 _ := Kept.fst e10 (by
                            refine State.memWr_kept (Sub.trans (b := 494917689147410) (by decide) hp) ?_
                            assumption
                          )
                        refine Kept.cond (fun _ => ?_) (fun _ => ?_)
                        · refine State.jobEnd_kept (Sub.trans (b := 494917689147410) (by decide) hp) ?_
                          assumption
                        · refine State.jobEnd_kept (Sub.trans (b := 494917689147410) (by decide) hp) ?_
                          assumption
        · refine State.jobEnd_kept (Sub.trans (b := 494917689147410) (by decide) hp) ?_
          assumption

theorem execTrngHealthFail_kept {m : Nat} {s0 : State} (hp : Sub 143073967996944 m) {s : State} (hk : Kept m s0 s) : OutKept m s0 (execTrngHealthFail s) := by
  unfold execTrngHealthFail
  refine OutKept.next ?_
  refine State.raise_kept (Sub.trans (b := 143073967996944) (by decide) hp) ?_
  refine State.pb_kept' Reg.KEEP_STATUS_block (hp.bit (by decide)) ?_
  refine Kept.upd_keep ⟨hp.bit (by decide), by first | exact KeepOk.same rfl rfl | exact KeepOk.setCtr (by first | exact Nat.le_succ _ | (apply Nat.le_of_lt; assumption)) | exact KeepOk.trans (KeepOk.setCtr (Nat.le_succ _)) (KeepOk.same rfl rfl)⟩ ?_
  assumption

theorem State.setSes_kept {m : Nat} {s0 : State} (hp : Sub 16 m) {s : State} {i : BitVec 16} {x : Session} (hk : Kept m s0 s) : Kept m s0 (State.setSes s i x) := by
  unfold State.setSes
  refine Kept.upd_keep ⟨hp.bit (by decide), by first | exact KeepOk.same rfl rfl | exact KeepOk.setCtr (by first | exact Nat.le_succ _ | (apply Nat.le_of_lt; assumption)) | exact KeepOk.trans (KeepOk.setCtr (Nat.le_succ _)) (KeepOk.same rfl rfl)⟩ ?_
  assumption

theorem State.answer_kept {m : Nat} {s0 : State} (hp : Sub 16 m) {s : State} {r : SpdmReply} (hk : Kept m s0 s) : Kept m s0 (State.answer s r) := by
  unfold State.answer
  refine Kept.upd_keep ⟨hp.bit (by decide), by first | exact KeepOk.same rfl rfl | exact KeepOk.setCtr (by first | exact Nat.le_succ _ | (apply Nat.le_of_lt; assumption)) | exact KeepOk.trans (KeepOk.setCtr (Nat.le_succ _)) (KeepOk.same rfl rfl)⟩ ?_
  assumption

theorem State.attest_kept {m : Nat} {s0 : State} (hp : Sub 16 m) {s : State} {v : SpdmVia} {f : State → State} (hfn_f : ∀ y0, Kept m s0 y0 → Kept m s0 (f y0)) (hk : Kept m s0 s) : Kept m s0 (State.attest s v f) := by
  unfold State.attest
  refine Kept.cond (fun _ => ?_) (fun _ => ?_)
  · assumption
  · refine Kept.cond (fun _ => ?_) (fun _ => ?_)
    · refine hfn_f _ ?_
      assumption
    · refine State.answer_kept hp ?_
      assumption

theorem State.inSes_kept {m : Nat} {s0 : State} (hp : Sub 16 m) {s : State} {v : SpdmVia} {f : State → State} (hfn_f : ∀ y0, Kept m s0 y0 → Kept m s0 (f y0)) (hk : Kept m s0 s) : Kept m s0 (State.inSes s v f) := by
  unfold State.inSes
  refine State.attest_kept hp (fun a0 h1 => ?_) ?_
  · refine Kept.cond (fun _ => ?_) (fun _ => ?_)
    · refine hfn_f _ ?_
      assumption
    · refine State.answer_kept hp ?_
      assumption
  · assumption

theorem State.signed_kept {m : Nat} {s0 : State} (hp : Sub 143073967996944 m) {s : State} {i : BitVec 16} {mk : Bytes → Bytes → SpdmReply} (hk : Kept m s0 s) : Kept m s0 (State.signed s i mk) := by
  unfold State.signed
  refine Kept.cond (fun _ => ?_) (fun _ => ?_)
  · refine Kept.upd_keep ⟨hp.bit (by decide), by first | exact KeepOk.same rfl rfl | exact KeepOk.setCtr (by first | exact Nat.le_succ _ | (apply Nat.le_of_lt; assumption)) | exact KeepOk.trans (KeepOk.setCtr (Nat.le_succ _)) (KeepOk.same rfl rfl)⟩ ?_
    assumption
  · split
    · next e1 =>
        have h9 : Kept m s0 _ := Kept.fst e1 (by
            refine State.hssTake_kept hp ?_
            assumption
          )
        extract_lets +onlyGivenNames x2
        extract_lets +onlyGivenNames x3
        have h4 : Kept m s0 x3 := by
          unfold x3
          refine State.tick1_kept (Sub.trans (b := 143073967996944) (by decide) hp) ?_
          assumption
        try (generalize x3 = y3 at h4 ⊢; try clear x3)
        extract_lets +onlyGivenNames x5
        extract_lets +onlyGivenNames x6
        extract_lets +onlyGivenNames x7
        have h8 : Kept m s0 x7 := by
          unfold x7
          refine State.setSes_kept (Sub.trans (b := 143073967996944) (by decide) hp) ?_
          assumption
        try (generalize x7 = y7 at h8 ⊢; try clear x7)
        refine State.tick1_kept (Sub.trans (b := 143073967996944) (by decide) hp) ?_
        refine State.answer_kept (Sub.trans (b := 143073967996944) (by decide) hp) ?_
        assumption
    · next e11 =>
        have h12 : Kept m s0 _ := Kept.fst e11 (by
            refine State.hssTake_kept hp ?_
            assumption
          )
        refine State.answer_kept (Sub.trans (b := 143073967996944) (by decide) hp) ?_
        assumption
    · next e15 =>
        have h16 : Kept m s0 _ := Kept.fst e15 (by
            refine State.hssTake_kept hp ?_
            assumption
          )
        refine State.answer_kept (Sub.trans (b := 143073967996944) (by decide) hp) ?_
        assumption

theorem execGetVersion_kept {m : Nat} {s0 : State} (hp : Sub 16 m) {via : SpdmVia} {s : State} (hk : Kept m s0 s) : OutKept m s0 (execGetVersion via s) := by
  unfold execGetVersion
  refine OutKept.next ?_
  refine State.inSes_kept hp (fun a0 h1 => ?_) ?_
  · refine State.answer_kept hp ?_
    assumption
  · assumption

theorem execGetCapabilities_kept {m : Nat} {s0 : State} (hp : Sub 16 m) {via : SpdmVia} {s : State} (hk : Kept m s0 s) : OutKept m s0 (execGetCapabilities via s) := by
  unfold execGetCapabilities
  refine OutKept.next ?_
  refine State.inSes_kept hp (fun a0 h1 => ?_) ?_
  · refine State.answer_kept hp ?_
    assumption
  · assumption

theorem execNegotiateAlgorithms_kept {m : Nat} {s0 : State} (hp : Sub 16 m) {via : SpdmVia} {offer : SpdmAlgs} {s : State} (hk : Kept m s0 s) : OutKept m s0 (execNegotiateAlgorithms via offer s) := by
  unfold execNegotiateAlgorithms
  refine OutKept.next ?_
  refine State.inSes_kept hp (fun a0 h1 => ?_) ?_
  · refine State.answer_kept hp ?_
    assumption
  · assumption

theorem execGetDigests_kept {m : Nat} {s0 : State} (hp : Sub 16 m) {via : SpdmVia} {s : State} (hk : Kept m s0 s) : OutKept m s0 (execGetDigests via s) := by
  unfold execGetDigests
  refine OutKept.next ?_
  refine State.inSes_kept hp (fun a0 h1 => ?_) ?_
  · refine State.answer_kept hp ?_
    assumption
  · assumption

theorem execGetCertificate_kept {m : Nat} {s0 : State} (hp : Sub 16 m) {via : SpdmVia} {slot : Fin 8} {s : State} (hk : Kept m s0 s) : OutKept m s0 (execGetCertificate via slot s) := by
  unfold execGetCertificate
  refine OutKept.next ?_
  refine State.inSes_kept hp (fun a0 h1 => ?_) ?_
  · refine State.answer_kept hp ?_
    assumption
  · assumption

theorem execChallenge_kept {m : Nat} {s0 : State} (hp : Sub 143073967996944 m) {via : SpdmVia} {s : State} (hk : Kept m s0 s) : OutKept m s0 (execChallenge via s) := by
  unfold execChallenge
  refine OutKept.next ?_
  refine State.inSes_kept (Sub.trans (b := 143073967996944) (by decide) hp) (fun a0 h1 => ?_) ?_
  · refine State.signed_kept hp ?_
    assumption
  · assumption

theorem execGetMeasurements_kept {m : Nat} {s0 : State} (hp : Sub 143073967996944 m) {via : SpdmVia} {blk : Fin 8} {signed : Bool} {s : State} (hk : Kept m s0 s) : OutKept m s0 (execGetMeasurements via blk signed s) := by
  unfold execGetMeasurements
  refine OutKept.next ?_
  refine State.inSes_kept (Sub.trans (b := 143073967996944) (by decide) hp) (fun a0 h1 => ?_) ?_
  · extract_lets +onlyGivenNames x2
    refine Kept.cond (fun _ => ?_) (fun _ => ?_)
    · refine State.signed_kept hp ?_
      assumption
    · refine State.answer_kept (Sub.trans (b := 143073967996944) (by decide) hp) ?_
      assumption
  · assumption

theorem execKeyExchange_kept {m : Nat} {s0 : State} (hp : Sub 143073967996944 m) {via : SpdmVia} {s : State} (hk : Kept m s0 s) : OutKept m s0 (execKeyExchange via s) := by
  unfold execKeyExchange
  refine OutKept.next ?_
  refine State.attest_kept (Sub.trans (b := 143073967996944) (by decide) hp) (fun a0 h1 => ?_) ?_
  · refine Kept.cond (fun _ => ?_) (fun _ => ?_)
    · refine State.answer_kept (Sub.trans (b := 143073967996944) (by decide) hp) ?_
      assumption
    · extract_lets +onlyGivenNames x2
      have h3 : Kept m s0 x2 := by
        unfold x2
        refine State.signed_kept hp ?_
        assumption
      try (generalize x2 = y2 at h3 ⊢; try clear x2)
      split
      · refine Kept.cond (fun _ => ?_) (fun _ => ?_)
        · assumption
        · refine State.setSes_kept (Sub.trans (b := 143073967996944) (by decide) hp) ?_
          assumption
      · assumption
  · assumption

theorem execFinish_kept {m : Nat} {s0 : State} (hp : Sub 16 m) {via : SpdmVia} {s : State} (hk : Kept m s0 s) : OutKept m s0 (execFinish via s) := by
  unfold execFinish
  refine OutKept.next ?_
  refine State.attest_kept hp (fun a0 h1 => ?_) ?_
  · refine Kept.cond (fun _ => ?_) (fun _ => ?_)
    · refine State.answer_kept hp ?_
      refine State.setSes_kept hp ?_
      assumption
    · refine State.answer_kept hp ?_
      assumption
  · assumption

theorem execHeartbeat_kept {m : Nat} {s0 : State} (hp : Sub 16 m) {via : SpdmVia} {s : State} (hk : Kept m s0 s) : OutKept m s0 (execHeartbeat via s) := by
  unfold execHeartbeat
  refine OutKept.next ?_
  refine State.inSes_kept hp (fun a0 h1 => ?_) ?_
  · refine Kept.cond (fun _ => ?_) (fun _ => ?_)
    · refine State.answer_kept hp ?_
      assumption
    · refine State.answer_kept hp ?_
      assumption
  · assumption

theorem execKeyUpdate_kept {m : Nat} {s0 : State} (hp : Sub 16 m) {via : SpdmVia} {s : State} (hk : Kept m s0 s) : OutKept m s0 (execKeyUpdate via s) := by
  unfold execKeyUpdate
  refine OutKept.next ?_
  refine State.inSes_kept hp (fun a0 h1 => ?_) ?_
  · refine Kept.cond (fun _ => ?_) (fun _ => ?_)
    · refine State.answer_kept hp ?_
      assumption
    · refine State.answer_kept hp ?_
      refine State.setSes_kept hp ?_
      assumption
  · assumption

theorem execEndSession_kept {m : Nat} {s0 : State} (hp : Sub 16 m) {via : SpdmVia} {s : State} (hk : Kept m s0 s) : OutKept m s0 (execEndSession via s) := by
  unfold execEndSession
  refine OutKept.next ?_
  refine State.inSes_kept hp (fun a0 h1 => ?_) ?_
  · refine Kept.cond (fun _ => ?_) (fun _ => ?_)
    · refine State.answer_kept hp ?_
      assumption
    · refine State.answer_kept hp ?_
      refine Kept.upd_keep ⟨hp.bit (by decide), by first | exact KeepOk.same rfl rfl | exact KeepOk.setCtr (by first | exact Nat.le_succ _ | (apply Nat.le_of_lt; assumption)) | exact KeepOk.trans (KeepOk.setCtr (Nat.le_succ _)) (KeepOk.same rfl rfl)⟩ ?_
      assumption
  · assumption

theorem execLmsCosign_kept {m : Nat} {s0 : State} (hp : Sub 16 m) {via : SpdmVia} {nonce : BitVec 256} {s : State} (hk : Kept m s0 s) : OutKept m s0 (execLmsCosign via nonce s) := by
  unfold execLmsCosign
  refine OutKept.next ?_
  refine State.inSes_kept hp (fun a0 h1 => ?_) ?_
  · split
    · refine State.answer_kept hp ?_
      assumption
    · refine State.answer_kept hp ?_
      assumption
  · assumption

theorem execNorngTimeout_kept {m : Nat} {s0 : State} (hp : Sub 143073967996944 m) {s : State} (hk : Kept m s0 s) : OutKept m s0 (execNorngTimeout s) := by
  unfold execNorngTimeout
  refine OutKept.next ?_
  refine Kept.cond (fun _ => ?_) (fun _ => ?_)
  · assumption
  · extract_lets +onlyGivenNames x0
    have h1 : Kept m s0 x0 := by
      unfold x0
      split
      · refine Kept.cond (fun _ => ?_) (fun _ => ?_)
        · refine State.jobEnd_kept hp ?_
          assumption
        · assumption
      · assumption
    try (generalize x0 = y0 at h1 ⊢; try clear x0)
    refine Kept.cond (fun _ => ?_) (fun _ => ?_)
    · refine State.answer_kept (Sub.trans (b := 143073967996944) (by decide) hp) ?_
      refine Kept.upd_keep ⟨hp.bit (by decide), by first | exact KeepOk.same rfl rfl | exact KeepOk.setCtr (by first | exact Nat.le_succ _ | (apply Nat.le_of_lt; assumption)) | exact KeepOk.trans (KeepOk.setCtr (Nat.le_succ _)) (KeepOk.same rfl rfl)⟩ ?_
      assumption
    · assumption

end Sys2Proof.Machine
end

