-- ==== Sys2Proof/Laws/KeptImage.lean ====
section
/-!
SUPPORT. What the definitions of Machine/Image.lean keep: one lemma each.
-/
namespace Sys2Proof.Machine

theorem State.loadCode_kept {m : Nat} {s0 : State} (hp : Sub 514 m) {s : State} {j : Nat} {bank : Nat} {e : Bytes} (hk : Kept m s0 s) : Kept m s0 (State.loadCode s j bank e) := by
  unfold State.loadCode
  extract_lets +onlyGivenNames x0
  extract_lets +onlyGivenNames x1
  extract_lets +onlyGivenNames x2
  have h3 : Kept m s0 x2 := by
    unfold x2
    refine State.mput_kept (Sub.trans (b := 514) (by decide) hp) ?_
    assumption
  try (generalize x2 = y2 at h3 ⊢; try clear x2)
  extract_lets +onlyGivenNames x4
  refine State.setLe_kept (Sub.trans (b := 514) (by decide) hp) ?_
  assumption

theorem State.loadData_kept {m : Nat} {s0 : State} (hp : Sub 2 m) {s : State} {j : Nat} {e : Bytes} (hk : Kept m s0 s) : Kept m s0 (State.loadData s j e) := by
  unfold State.loadData
  refine Kept.forEach (fun z0 a1 h2 => ?_) ?_
  · refine State.mput_kept hp ?_
    assumption
  · assumption

theorem State.loadWindow_kept {m : Nat} {s0 : State} (hp : Sub 4294967296 m) {s : State} {j : Nat} {e : Bytes} (hk : Kept m s0 s) : Kept m s0 (State.loadWindow s j e) := by
  unfold State.loadWindow
  refine State.wr_kept' Reg.LC_LE_SHWIN_block (hp.bit (by decide)) ?_
  assumption

theorem State.regRegs_kept {m : Nat} {s0 : State} (hp : Sub 2199023255552 m) {s : State} {r : Nat} {e : Bytes} (hk : Kept m s0 s) : Kept m s0 (State.regRegs s r e) := by
  unfold State.regRegs
  extract_lets +onlyGivenNames x0
  have h1 : Kept m s0 x0 := by
    unfold x0
    refine State.pf_kept' Reg.PWR_REG_CTL_block (hp.bit (by decide)) ?_
    refine State.pf_kept' Reg.PWR_REG_CTL_block (hp.bit (by decide)) ?_
    refine State.pf_kept' Reg.PWR_REG_CTL_block (hp.bit (by decide)) ?_
    assumption
  try (generalize x0 = y0 at h1 ⊢; try clear x0)
  extract_lets +onlyGivenNames x2
  unfold x2
  try clear x2
  refine State.pf_kept' Reg.PWR_CC_FREQ_block (hp.bit (by decide)) ?_
  refine State.pf_kept' Reg.PWR_CC_FREQ_block (hp.bit (by decide)) ?_
  refine State.pf_kept' Reg.PWR_CC_FREQ_block (hp.bit (by decide)) ?_
  refine State.pf_kept' Reg.PWR_CC_FREQ_block (hp.bit (by decide)) ?_
  assumption

theorem State.regionOn_kept {m : Nat} {s0 : State} (hp : Sub 6597069897728 m) {s : State} {r : Nat} {e : Bytes} (hk : Kept m s0 s) : Kept m s0 (State.regionOn s r e) := by
  unfold State.regionOn
  extract_lets +onlyGivenNames x0
  have h1 : Kept m s0 x0 := by
    unfold x0
    refine State.pf_kept' Reg.PWR_REG_STAT_block (hp.bit (by decide)) ?_
    refine State.pf_kept' Reg.PWR_REG_STAT_block (hp.bit (by decide)) ?_
    assumption
  try (generalize x0 = y0 at h1 ⊢; try clear x0)
  extract_lets +onlyGivenNames x2
  have h3 : Kept m s0 x2 := by
    unfold x2
    refine State.regRegs_kept (Sub.trans (b := 6597069897728) (by decide) hp) ?_
    assumption
  try (generalize x2 = y2 at h3 ⊢; try clear x2)
  refine Kept.forEach (fun z4 a5 h6 => ?_) ?_
  · refine State.coreOff_kept (Sub.trans (b := 6597069897728) (by decide) hp) ?_
    assumption
  · assumption

theorem State.regionOff_kept {m : Nat} {s0 : State} (hp : Sub 562949458126466 m) {s : State} {r : Nat} (hk : Kept m s0 s) : Kept m s0 (State.regionOff s r) := by
  unfold State.regionOff
  extract_lets +onlyGivenNames x0
  have h1 : Kept m s0 x0 := by
    unfold x0
    refine State.pf_kept' Reg.PWR_REG_STAT_block (hp.bit (by decide)) ?_
    refine State.pf_kept' Reg.PWR_REG_STAT_block (hp.bit (by decide)) ?_
    assumption
  try (generalize x0 = y0 at h1 ⊢; try clear x0)
  extract_lets +onlyGivenNames x2
  have h3 : Kept m s0 x2 := by
    unfold x2
    refine Kept.forEach (fun z4 a5 h6 => ?_) ?_
    · refine State.coreOff_kept (Sub.trans (b := 562949458126466) (by decide) hp) ?_
      assumption
    · assumption
  try (generalize x2 = y2 at h3 ⊢; try clear x2)
  extract_lets +onlyGivenNames x7
  extract_lets +onlyGivenNames x8
  have h9 : Kept m s0 x8 := by
    unfold x8
    refine Kept.forEach (fun z10 a11 h12 => ?_) ?_
    · refine State.setLe_kept (Sub.trans (b := 562949458126466) (by decide) hp) ?_
      assumption
    · assumption
  try (generalize x8 = y8 at h9 ⊢; try clear x8)
  extract_lets +onlyGivenNames x13
  have h14 : Kept m s0 x13 := by
    unfold x13
    refine State.unitReset1_kept (Sub.trans (b := 562949458126466) (by decide) hp) ?_
    refine State.unitReset1_kept (Sub.trans (b := 562949458126466) (by decide) hp) ?_
    refine State.lcClear_kept (Sub.trans (b := 562949458126466) (by decide) hp) ?_
    refine State.setLc_kept (Sub.trans (b := 562949458126466) (by decide) hp) ?_
    assumption
  try (generalize x13 = y13 at h14 ⊢; try clear x13)
  refine Kept.upd ?_ rfl (Nat.le_refl _) (fun _ _ => rfl) (.inl ⟨hp.bit (by decide), by first | exact fun h => h | exact memPut_wf _ _ | exact fun h => memFilter_wf _ h | exact fun _ => rfl⟩) (.inr rfl) (.inr rfl) (.inr rfl) (.inr rfl) (.inr rfl) (.inr rfl) (.inr rfl) (.inr rfl) (.inr rfl) (.inr rfl) (.inr rfl) (.inr rfl) (.inr rfl) (.inr rfl) (.inr rfl) (.inr rfl) (.inr rfl) (.inr rfl) (.inl (hp.bit (by decide))) (.inr rfl) (.inr rfl) (.inr rfl) (.inr rfl) (.inr rfl) (.inr rfl) (.inr rfl) (.inr rfl) (.inr rfl) (.inr rfl) (.inr rfl)
  assumption

theorem State.amdResult_kept {m : Nat} {s0 : State} (hp : Sub 2337016512512 m) {s : State} {code : Nat} {sect : Nat} {detail : Nat} (hk : Kept m s0 s) : Kept m s0 (State.amdResult s code sect detail) := by
  unfold State.amdResult
  refine State.raise_kept (Sub.trans (b := 2337016512512) (by decide) hp) ?_
  refine State.wr_kept' Reg.IMG_AMD_RESULT_block (hp.bit (by decide)) ?_
  assumption

theorem State.amdEnd_kept {m : Nat} {s0 : State} (hp : Sub 2337016512520 m) {s : State} {code : Nat} {sect : Nat} {detail : Nat} (hk : Kept m s0 s) : Kept m s0 (State.amdEnd s code sect detail) := by
  unfold State.amdEnd
  extract_lets +onlyGivenNames x0
  extract_lets +onlyGivenNames x1
  have h2 : Kept m s0 x1 := by
    unfold x1
    refine Kept.upd_img (hp.bit (by decide)) ?_
    assumption
  try (generalize x1 = y1 at h2 ⊢; try clear x1)
  refine State.amdResult_kept (Sub.trans (b := 2337016512520) (by decide) hp) ?_
  refine State.pf_kept' Reg.IMG_STATUS_block (hp.bit (by decide)) ?_
  assumption

theorem State.amdRefuse_kept {m : Nat} {s0 : State} (hp : Sub 562949474903690 m) {s : State} {code : Nat} {sect : Nat} {detail : Nat} (hk : Kept m s0 s) : Kept m s0 (State.amdRefuse s code sect detail) := by
  unfold State.amdRefuse
  extract_lets +onlyGivenNames x0
  extract_lets +onlyGivenNames x1
  have h2 : Kept m s0 x1 := by
    unfold x1
    refine Kept.forEach (fun z3 a4 h5 => ?_) ?_
    · refine State.regionOff_kept (Sub.trans (b := 562949474903690) (by decide) hp) ?_
      assumption
    · assumption
  try (generalize x1 = y1 at h2 ⊢; try clear x1)
  refine State.amdEnd_kept (Sub.trans (b := 562949474903690) (by decide) hp) ?_
  assumption

theorem State.imgSubmit_kept {m : Nat} {s0 : State} (hp : Sub 2337016512522 m) {s : State} (hk : Kept m s0 s) : Kept m s0 (State.imgSubmit s) := by
  unfold State.imgSubmit
  extract_lets +onlyGivenNames x0
  have h1 : Kept m s0 x0 := by
    unfold x0
    refine State.pkgAbortBy_kept (Sub.trans (b := 2337016512522) (by decide) hp) ?_
    assumption
  try (generalize x0 = y0 at h1 ⊢; try clear x0)
  refine Kept.cond (fun _ => ?_) (fun _ => ?_)
  · refine State.amdResult_kept (Sub.trans (b := 2337016512522) (by decide) hp) ?_
    assumption
  · extract_lets +onlyGivenNames x2
    extract_lets +onlyGivenNames x3
    refine Kept.cond (fun _ => ?_) (fun _ => ?_)
    · refine State.amdResult_kept (Sub.trans (b := 2337016512522) (by decide) hp) ?_
      assumption
    · split
      · refine State.amdResult_kept (Sub.trans (b := 2337016512522) (by decide) hp) ?_
        assumption
      · extract_lets +onlyGivenNames x4
        have h5 : Kept m s0 x4 := by
          unfold x4
          refine State.snoop_kept (Sub.trans (b := 2337016512522) (by decide) hp) ?_
          refine State.mput_kept (Sub.trans (b := 2337016512522) (by decide) hp) ?_
          assumption
        try (generalize x4 = y4 at h5 ⊢; try clear x4)
        extract_lets +onlyGivenNames x6
        extract_lets +onlyGivenNames x7
        extract_lets +onlyGivenNames x8
        have h9 : Kept m s0 x8 := by
          unfold x8
          refine Kept.upd_img (hp.bit (by decide)) ?_
          assumption
        try (generalize x8 = y8 at h9 ⊢; try clear x8)
        refine State.wr_kept' Reg.IMG_AMD_RESULT_block (hp.bit (by decide)) ?_
        refine State.pf_kept' Reg.IMG_STATUS_block (hp.bit (by decide)) ?_
        assumption

theorem State.imgCancel_kept {m : Nat} {s0 : State} (hp : Sub 562949474903690 m) {s : State} (hk : Kept m s0 s) : Kept m s0 (State.imgCancel s) := by
  unfold State.imgCancel
  split
  · refine Kept.cond (fun _ => ?_) (fun _ => ?_)
    · assumption
    · refine State.amdRefuse_kept hp ?_
      assumption
  · assumption

theorem State.imgCtl_kept {m : Nat} {s0 : State} (hp : Sub 562949474903690 m) {s : State} {v : W32} (hk : Kept m s0 s) : Kept m s0 (State.imgCtl s v) := by
  unfold State.imgCtl
  extract_lets +onlyGivenNames x0
  have h1 : Kept m s0 x0 := by
    unfold x0
    refine State.plainWrite_kept' Reg.IMG_AMD_CTL_block (hp.bit (by decide)) ?_
    assumption
  try (generalize x0 = y0 at h1 ⊢; try clear x0)
  extract_lets +onlyGivenNames x2
  have h3 : Kept m s0 x2 := by
    unfold x2
    refine Kept.cond (fun _ => ?_) (fun _ => ?_)
    · refine State.imgCancel_kept hp ?_
      assumption
    · assumption
  try (generalize x2 = y2 at h3 ⊢; try clear x2)
  refine Kept.cond (fun _ => ?_) (fun _ => ?_)
  · refine State.imgSubmit_kept (Sub.trans (b := 562949474903690) (by decide) hp) ?_
    assumption
  · assumption

theorem State.amdStage_kept {m : Nat} {s0 : State} (hp : Sub 6597069898242 m) {s : State} {amd : Struc} (hk : Kept m s0 s) : Kept m s0 (State.amdStage s amd) := by
  unfold State.amdStage
  extract_lets +onlyGivenNames x0
  extract_lets +onlyGivenNames x1
  have h2 : Kept m s0 x1 := by
    unfold x1
    refine Kept.forEach (fun z3 a4 h5 => ?_) ?_
    · refine State.regionOn_kept (Sub.trans (b := 6597069898242) (by decide) hp) ?_
      assumption
    · assumption
  try (generalize x1 = y1 at h2 ⊢; try clear x1)
  refine Kept.forEach (fun z6 a7 h8 => ?_) ?_
  · refine State.loadData_kept (Sub.trans (b := 6597069898242) (by decide) hp) ?_
    refine State.loadCode_kept (Sub.trans (b := 6597069898242) (by decide) hp) ?_
    assumption
  · assumption

theorem execAmendmentVerifyDone_kept {m : Nat} {s0 : State} (hp : Sub 562949474903690 m) {ack : Bool} {settled : Bool} {s : State} (hk : Kept m s0 s) : OutKept m s0 (execAmendmentVerifyDone ack settled s) := by
  unfold execAmendmentVerifyDone
  refine OutKept.next ?_
  split
  · assumption
  · refine Kept.cond (fun _ => ?_) (fun _ => ?_)
    · assumption
    · split
      · refine Kept.cond (fun _ => ?_) (fun _ => ?_)
        · refine State.amdRefuse_kept hp ?_
          assumption
        · refine Kept.cond (fun _ => ?_) (fun _ => ?_)
          · refine State.amdEnd_kept (Sub.trans (b := 562949474903690) (by decide) hp) ?_
            assumption
          · extract_lets +onlyGivenNames x0
            extract_lets +onlyGivenNames x1
            refine Kept.cond (fun _ => ?_) (fun _ => ?_)
            · refine State.amdRefuse_kept hp ?_
              assumption
            · extract_lets +onlyGivenNames x2
              extract_lets +onlyGivenNames x3
              have h4 : Kept m s0 x3 := by
                unfold x3
                refine State.amdStage_kept (Sub.trans (b := 562949474903690) (by decide) hp) ?_
                assumption
              try (generalize x3 = y3 at h4 ⊢; try clear x3)
              refine Kept.upd_img (hp.bit (by decide)) ?_
              assumption

theorem execAmendmentStageDone_kept {m : Nat} {s0 : State} (hp : Sub 562949474903690 m) {s : State} (hk : Kept m s0 s) : OutKept m s0 (execAmendmentStageDone s) := by
  unfold execAmendmentStageDone
  refine OutKept.next ?_
  split
  · assumption
  · refine Kept.cond (fun _ => ?_) (fun _ => ?_)
    · assumption
    · refine Kept.cond (fun _ => ?_) (fun _ => ?_)
      · refine State.amdRefuse_kept hp ?_
        assumption
      · extract_lets +onlyGivenNames x0
        have h1 : Kept m s0 x0 := by
          unfold x0
          refine State.pf_kept' Reg.IMG_STATUS_block (hp.bit (by decide)) ?_
          assumption
        try (generalize x0 = y0 at h1 ⊢; try clear x0)
        refine Kept.upd_img (hp.bit (by decide)) ?_
        assumption

theorem State.amdJudge_kept {m : Nat} {s0 : State} (hp : Sub 562949474903690 m) {s : State} {a : Amend} {amd : Struc} {x : Struc} (hk : Kept m s0 s) : Kept m s0 (State.amdJudge s a amd x) := by
  unfold State.amdJudge
  refine Kept.cond (fun _ => ?_) (fun _ => ?_)
  · refine State.amdRefuse_kept hp ?_
    assumption
  · split
    · refine State.amdRefuse_kept hp ?_
      assumption
    · refine Kept.cond (fun _ => ?_) (fun _ => ?_)
      · refine State.amdRefuse_kept hp ?_
        assumption
      · refine Kept.cond (fun _ => ?_) (fun _ => ?_)
        · refine State.amdRefuse_kept hp ?_
          assumption
        · extract_lets +onlyGivenNames x0
          have h1 : Kept m s0 x0 := by
            unfold x0
            refine State.pf_kept' Reg.IMG_STATUS_block (hp.bit (by decide)) ?_
            assumption
          try (generalize x0 = y0 at h1 ⊢; try clear x0)
          extract_lets +onlyGivenNames x2
          refine State.withdraw_kept (Sub.trans (b := 562949474903690) (by decide) hp) ?_
          refine Kept.upd_img (hp.bit (by decide)) ?_
          assumption

theorem State.amdCommit_kept {m : Nat} {s0 : State} (hp : Sub 562949474903690 m) {s : State} (hk : Kept m s0 s) : Kept m s0 (State.amdCommit s) := by
  unfold State.amdCommit
  split
  · assumption
  · refine Kept.cond (fun _ => ?_) (fun _ => ?_)
    · assumption
    · extract_lets +onlyGivenNames x0
      refine State.amdJudge_kept hp ?_
      assumption

theorem execCommitPoint_kept {m : Nat} {s0 : State} (hp : Sub 562949474903690 m) {s : State} (hk : Kept m s0 s) : OutKept m s0 (execCommitPoint s) := by
  unfold execCommitPoint
  refine OutKept.next ?_
  extract_lets +onlyGivenNames x0
  extract_lets +onlyGivenNames x1
  have h2 : Kept m s0 x1 := by
    unfold x1
    refine Kept.upd_img (hp.bit (by decide)) ?_
    assumption
  try (generalize x1 = y1 at h2 ⊢; try clear x1)
  extract_lets +onlyGivenNames x3
  have h4 : Kept m s0 x3 := by
    unfold x3
    refine State.amdCommit_kept hp ?_
    assumption
  try (generalize x3 = y3 at h4 ⊢; try clear x3)
  extract_lets +onlyGivenNames x5
  refine Kept.forEach (fun z6 a7 h8 => ?_) ?_
  · refine State.releaseCheck_kept (Sub.trans (b := 562949474903690) (by decide) hp) ?_
    assumption
  · assumption

theorem State.spareFree1_kept {m : Nat} {s0 : State} (hp : Sub 2340774610432 m) {s : State} {k : Nat} (hk : Kept m s0 s) : Kept m s0 (State.spareFree1 s k) := by
  unfold State.spareFree1
  extract_lets +onlyGivenNames x0
  refine Kept.cond (fun _ => ?_) (fun _ => ?_)
  · extract_lets +onlyGivenNames x1
    extract_lets +onlyGivenNames x2
    have h3 : Kept m s0 x2 := by
      unfold x2
      refine State.setLc_kept (Sub.trans (b := 2340774610432) (by decide) hp) ?_
      assumption
    try (generalize x2 = y2 at h3 ⊢; try clear x2)
    extract_lets +onlyGivenNames x4
    extract_lets +onlyGivenNames x5
    have h6 : Kept m s0 x5 := by
      unfold x5
      refine State.setLe_kept (Sub.trans (b := 2340774610432) (by decide) hp) ?_
      assumption
    try (generalize x5 = y5 at h6 ⊢; try clear x5)
    refine State.lcEvt_kept (Sub.trans (b := 2340774610432) (by decide) hp) ?_
    refine State.pf_kept' Reg.LC_STATUS_block (hp.bit (by decide)) ?_
    assumption
  · assumption

theorem State.switchBank_kept {m : Nat} {s0 : State} (hp : Sub 4294967808 m) {s : State} {j : Nat} {e : Bytes} (hk : Kept m s0 s) : Kept m s0 (State.switchBank s j e) := by
  unfold State.switchBank
  extract_lets +onlyGivenNames x0
  extract_lets +onlyGivenNames x1
  have h2 : Kept m s0 x1 := by
    unfold x1
    refine State.loadWindow_kept (Sub.trans (b := 4294967808) (by decide) hp) ?_
    refine State.useBank_kept hp ?_
    assumption
  try (generalize x1 = y1 at h2 ⊢; try clear x1)
  extract_lets +onlyGivenNames x3
  refine Kept.cond (fun _ => ?_) (fun _ => ?_)
  · assumption
  · refine State.copyCode_kept hp ?_
    refine State.setLe_kept (Sub.trans (b := 4294967808) (by decide) hp) ?_
    assumption

theorem State.moveRail_kept {m : Nat} {s0 : State} (hp : Sub 514 m) {s : State} {r : Nat} {old : List Nat} {nq : List (List Notice)} (hk : Kept m s0 s) : Kept m s0 (State.moveRail s r old nq) := by
  unfold State.moveRail
  extract_lets +onlyGivenNames x0
  refine Kept.forEach (fun z1 a2 h3 => ?_) ?_
  · extract_lets +onlyGivenNames x4
    extract_lets +onlyGivenNames x5
    refine State.deliverRec_kept hp ?_
    refine State.setLe_kept (Sub.trans (b := 514) (by decide) hp) ?_
    assumption
  · assumption

theorem State.newRole_kept {m : Nat} {s0 : State} (hp : Sub 69793290464 m) {s : State} {role : Nat} (hk : Kept m s0 s) : Kept m s0 (State.newRole s role) := by
  unfold State.newRole
  extract_lets +onlyGivenNames x0
  extract_lets +onlyGivenNames x1
  have h2 : Kept m s0 x1 := by
    unfold x1
    refine Kept.upd_cmp (hp.bit (by decide)) ?_
    assumption
  try (generalize x1 = y1 at h2 ⊢; try clear x1)
  refine Kept.cond (fun _ => ?_) (fun _ => ?_)
  · extract_lets +onlyGivenNames x3
    extract_lets +onlyGivenNames x4
    extract_lets +onlyGivenNames x5
    have h6 : Kept m s0 x5 := by
      unfold x5
      refine Kept.upd_cmp (hp.bit (by decide)) ?_
      assumption
    try (generalize x5 = y5 at h6 ⊢; try clear x5)
    refine State.pb_kept' Reg.TICK_STATUS_block (hp.bit (by decide)) ?_
    refine State.offTickIn_kept (Sub.trans (b := 69793290464) (by decide) hp) ?_
    assumption
  · refine Kept.cond (fun _ => ?_) (fun _ => ?_)
    · extract_lets +onlyGivenNames x7
      have h8 : Kept m s0 x7 := by
        unfold x7
        refine Kept.cond (fun _ => ?_) (fun _ => ?_)
        · assumption
        · refine State.enterDriving_kept hp ?_
          assumption
      try (generalize x7 = y7 at h8 ⊢; try clear x7)
      refine Kept.upd_pins (hp.bit (by decide)) ?_
      assumption
    · refine Kept.cond (fun _ => ?_) (fun _ => ?_)
      · refine State.pb_kept' Reg.TICK_STATUS_block (hp.bit (by decide)) ?_
        assumption
      · assumption

theorem State.regionLeaves_kept {m : Nat} {s0 : State} (hp : Sub 137975824392 m) {s : State} {r : Nat} (hk : Kept m s0 s) : Kept m s0 (State.regionLeaves s r) := by
  unfold State.regionLeaves
  extract_lets +onlyGivenNames x0
  have h1 : Kept m s0 x0 := by
    unfold x0
    refine State.pf_kept' Reg.IMG_STATUS_block (hp.bit (by decide)) ?_
    assumption
  try (generalize x0 = y0 at h1 ⊢; try clear x0)
  extract_lets +onlyGivenNames x2
  have h3 : Kept m s0 x2 := by
    unfold x2
    refine State.pf_kept' Reg.IMG_STATUS_block (hp.bit (by decide)) ?_
    assumption
  try (generalize x2 = y2 at h3 ⊢; try clear x2)
  extract_lets +onlyGivenNames x4
  extract_lets +onlyGivenNames x5
  have h6 : Kept m s0 x5 := by
    unfold x5
    refine Kept.upd_img (hp.bit (by decide)) ?_
    assumption
  try (generalize x5 = y5 at h6 ⊢; try clear x5)
  refine Kept.cond (fun _ => ?_) (fun _ => ?_)
  · split
    · refine State.pf_kept' Reg.EVD_FALLBACK_block (hp.bit (by decide)) ?_
      assumption
    · assumption
  · assumption

theorem State.regionEnters_kept {m : Nat} {s0 : State} (hp : Sub 536871424 m) {s : State} {r : Nat} (hk : Kept m s0 s) : Kept m s0 (State.regionEnters s r) := by
  unfold State.regionEnters
  extract_lets +onlyGivenNames x0
  have h1 : Kept m s0 x0 := by
    unfold x0
    refine State.pf_kept' Reg.IMG_STATUS_block (hp.bit (by decide)) ?_
    assumption
  try (generalize x0 = y0 at h1 ⊢; try clear x0)
  refine Kept.forEach (fun z2 a3 h4 => ?_) ?_
  · refine State.setLe_kept (Sub.trans (b := 536871424) (by decide) hp) ?_
    assumption
  · assumption

theorem State.evtApply_kept {m : Nat} {s0 : State} (hp : Sub 2336479641600 m) {s : State} {k : Nat} {e : Bytes} (hk : Kept m s0 s) : Kept m s0 (State.evtApply s k e) := by
  unfold State.evtApply
  extract_lets +onlyGivenNames x0
  have h1 : Kept m s0 x0 := by
    unfold x0
    refine State.evdSrcCfg_kept hp ?_
    assumption
  try (generalize x0 = y0 at h1 ⊢; try clear x0)
  refine Kept.cond (fun _ => ?_) (fun _ => ?_)
  · refine State.evdEnSet_kept (Sub.trans (b := 2336479641600) (by decide) hp) ?_
    assumption
  · refine State.evdEnClr_kept (Sub.trans (b := 2336479641600) (by decide) hp) ?_
    assumption

theorem State.putHash_kept {m : Nat} {s0 : State} (_ : Sub 0 m) {s : State} {r : Reg} {d : BitVec 384} (hr_r : m.testBit r.block.ctorIdx = true) (hk : Kept m s0 s) : Kept m s0 (State.putHash s r d) := by
  unfold State.putHash
  refine Kept.forEach (fun z0 a1 h2 => ?_) ?_
  · refine State.wr_kept' rfl hr_r ?_
    assumption
  · assumption

theorem State.railGone_kept {m : Nat} {s0 : State} (hp : Sub 8589936640 m) {s : State} {r : Nat} (hk : Kept m s0 s) : Kept m s0 (State.railGone s r) := by
  unfold State.railGone
  extract_lets +onlyGivenNames x0
  have h1 : Kept m s0 x0 := by
    unfold x0
    refine State.wr_kept' Reg.RAIL_EVT_EN_block (hp.bit (by decide)) ?_
    refine State.wr_kept' Reg.RAIL_EVT_block (hp.bit (by decide)) ?_
    refine State.wr_kept' Reg.RAIL_SETPT_block (hp.bit (by decide)) ?_
    assumption
  try (generalize x0 = y0 at h1 ⊢; try clear x0)
  extract_lets +onlyGivenNames x2
  have h3 : Kept m s0 x2 := by
    unfold x2
    refine State.wr_kept' Reg.RAIL_WCNT0_block (hp.bit (by decide)) ?_
    refine State.wr_kept' Reg.RAIL_WSHED_HI_block (hp.bit (by decide)) ?_
    refine State.wr_kept' Reg.RAIL_WSHED_LO_block (hp.bit (by decide)) ?_
    assumption
  try (generalize x2 = y2 at h3 ⊢; try clear x2)
  refine State.setRl_kept (Sub.trans (b := 8589936640) (by decide) hp) ?_
  refine State.wr_kept' Reg.RAIL_WCNT1_block (hp.bit (by decide)) ?_
  assumption

theorem State.amdApply_kept {m : Nat} {s0 : State} (hp : Sub 2454054739706 m) {s : State} (hk : Kept m s0 s) : Kept m s0 (State.amdApply s) := by
  unfold State.amdApply
  split
  · assumption
  · refine Kept.cond (fun _ => ?_) (fun _ => ?_)
    · assumption
    · extract_lets +onlyGivenNames x0
      extract_lets +onlyGivenNames x1
      extract_lets +onlyGivenNames x2
      extract_lets +onlyGivenNames x3
      extract_lets +onlyGivenNames x4
      extract_lets +onlyGivenNames x5
      extract_lets +onlyGivenNames x6
      extract_lets +onlyGivenNames x7
      extract_lets +onlyGivenNames x8
      extract_lets +onlyGivenNames x9
      extract_lets +onlyGivenNames x10
      have h11 : Kept m s0 x10 := by
        unfold x10
        refine Kept.cond (fun _ => ?_) (fun _ => ?_)
        · assumption
        · refine Kept.forEach (fun z12 a13 h14 => ?_) ?_
          · refine State.serDrop_kept (Sub.trans (b := 2454054739706) (by decide) hp) ?_
            assumption
          · assumption
      try (generalize x10 = y10 at h11 ⊢; try clear x10)
      extract_lets +onlyGivenNames x15
      extract_lets +onlyGivenNames x16
      have h17 : Kept m s0 x16 := by
        unfold x16
        refine Kept.cond (fun _ => ?_) (fun _ => ?_)
        · assumption
        · refine State.dropLate_kept (Sub.trans (b := 2454054739706) (by decide) hp) ?_
          assumption
      try (generalize x16 = y16 at h17 ⊢; try clear x16)
      extract_lets +onlyGivenNames x18
      have h19 : Kept m s0 x18 := by
        unfold x18
        refine Kept.cond (fun _ => ?_) (fun _ => ?_)
        · assumption
        · refine State.wr_kept' Reg.LDG_RING_TAIL_block (hp.bit (by decide)) ?_
          refine State.wr_kept' Reg.LDG_RING_HEAD_block (hp.bit (by decide)) ?_
          assumption
      try (generalize x18 = y18 at h19 ⊢; try clear x18)
      extract_lets +onlyGivenNames x20
      have h21 : Kept m s0 x20 := by
        unfold x20
        refine Kept.forEach (fun z22 a23 h24 => ?_) ?_
        · refine State.spareFree1_kept (Sub.trans (b := 2454054739706) (by decide) hp) ?_
          assumption
        · assumption
      try (generalize x20 = y20 at h21 ⊢; try clear x20)
      extract_lets +onlyGivenNames x25
      have h26 : Kept m s0 x25 := by
        unfold x25
        refine Kept.forEach (fun z27 a28 h29 => ?_) ?_
        · refine State.setLe_kept (Sub.trans (b := 2454054739706) (by decide) hp) ?_
          assumption
        · assumption
      try (generalize x25 = y25 at h26 ⊢; try clear x25)
      extract_lets +onlyGivenNames x30
      extract_lets +onlyGivenNames x31
      have h32 : Kept m s0 x31 := by
        unfold x31
        refine Kept.upd_img (hp.bit (by decide)) ?_
        assumption
      try (generalize x31 = y31 at h32 ⊢; try clear x31)
      extract_lets +onlyGivenNames x33
      have h34 : Kept m s0 x33 := by
        unfold x33
        refine Kept.forEach (fun z35 a36 h37 => ?_) ?_
        · refine State.regionEnters_kept (Sub.trans (b := 2454054739706) (by decide) hp) ?_
          assumption
        · assumption
      try (generalize x33 = y33 at h34 ⊢; try clear x33)
      extract_lets +onlyGivenNames x38
      have h39 : Kept m s0 x38 := by
        unfold x38
        refine Kept.forEach (fun z40 a41 h42 => ?_) ?_
        · refine State.railGone_kept (Sub.trans (b := 2454054739706) (by decide) hp) ?_
          assumption
        · assumption
      try (generalize x38 = y38 at h39 ⊢; try clear x38)
      extract_lets +onlyGivenNames x43
      have h44 : Kept m s0 x43 := by
        unfold x43
        refine Kept.forEach (fun z45 a46 h47 => ?_) ?_
        · refine State.pf_kept' Reg.RAIL_SETPT_block (hp.bit (by decide)) ?_
          refine State.setRl_kept (Sub.trans (b := 2454054739706) (by decide) hp) ?_
          assumption
        · assumption
      try (generalize x43 = y43 at h44 ⊢; try clear x43)
      extract_lets +onlyGivenNames x48
      have h49 : Kept m s0 x48 := by
        unfold x48
        refine Kept.forEach (fun z50 a51 h52 => ?_) ?_
        · refine State.setLe_kept (Sub.trans (b := 2454054739706) (by decide) hp) ?_
          assumption
        · assumption
      try (generalize x48 = y48 at h49 ⊢; try clear x48)
      extract_lets +onlyGivenNames x53
      have h54 : Kept m s0 x53 := by
        unfold x53
        refine Kept.forEach (fun z55 a56 h57 => ?_) ?_
        · refine State.switchBank_kept (Sub.trans (b := 2454054739706) (by decide) hp) ?_
          assumption
        · assumption
      try (generalize x53 = y53 at h54 ⊢; try clear x53)
      extract_lets +onlyGivenNames x58
      have h59 : Kept m s0 x58 := by
        unfold x58
        refine Kept.forEach (fun z60 a61 h62 => ?_) ?_
        · refine State.moveRail_kept (Sub.trans (b := 2454054739706) (by decide) hp) ?_
          assumption
        · assumption
      try (generalize x58 = y58 at h59 ⊢; try clear x58)
      extract_lets +onlyGivenNames x63
      have h64 : Kept m s0 x63 := by
        unfold x63
        refine Kept.forEach (fun z65 a66 h67 => ?_) ?_
        · refine State.evtApply_kept (Sub.trans (b := 2454054739706) (by decide) hp) ?_
          assumption
        · assumption
      try (generalize x63 = y63 at h64 ⊢; try clear x63)
      extract_lets +onlyGivenNames x68
      have h69 : Kept m s0 x68 := by
        unfold x68
        split
        · refine Kept.cond (fun _ => ?_) (fun _ => ?_)
          · assumption
          · refine State.newRole_kept (Sub.trans (b := 2454054739706) (by decide) hp) ?_
            assumption
        · assumption
      try (generalize x68 = y68 at h69 ⊢; try clear x68)
      extract_lets +onlyGivenNames x70
      have h71 : Kept m s0 x70 := by
        unfold x70
        refine State.withdraw_kept (Sub.trans (b := 2454054739706) (by decide) hp) ?_
        refine Kept.forEach (fun z72 a73 h74 => ?_) ?_
        · refine State.regionLeaves_kept (Sub.trans (b := 2454054739706) (by decide) hp) ?_
          assumption
        · assumption
      try (generalize x70 = y70 at h71 ⊢; try clear x70)
      extract_lets +onlyGivenNames x75
      extract_lets +onlyGivenNames x76
      have h77 : Kept m s0 x76 := by
        unfold x76
        refine State.wr_kept' Reg.IMG_AMD_APPLIED_LO_block (hp.bit (by decide)) ?_
        refine State.wr_kept' Reg.IMG_AMD_SEQ_block (hp.bit (by decide)) ?_
        assumption
      try (generalize x76 = y76 at h77 ⊢; try clear x76)
      extract_lets +onlyGivenNames x78
      have h79 : Kept m s0 x78 := by
        unfold x78
        refine State.putHash_kept (Sub.trans (b := 2454054739706) (by decide) hp) (by rw [Reg.IMG_AMD_HASH_block]; exact hp.bit (by decide)) ?_
        refine State.wr_kept' Reg.IMG_AMD_APPLIED_HI_block (hp.bit (by decide)) ?_
        assumption
      try (generalize x78 = y78 at h79 ⊢; try clear x78)
      refine State.amdEnd_kept (Sub.trans (b := 2454054739706) (by decide) hp) ?_
      refine State.mrExtend_kept (Sub.trans (b := 2454054739706) (by decide) hp) ?_
      assumption

theorem execRegionDrainDone_kept {m : Nat} {s0 : State} (hp : Sub 562949458126474 m) {r : Fin 4} {s : State} (hk : Kept m s0 s) : OutKept m s0 (execRegionDrainDone r s) := by
  unfold execRegionDrainDone
  refine OutKept.next ?_
  refine Kept.cond (fun _ => ?_) (fun _ => ?_)
  · extract_lets +onlyGivenNames x0
    have h1 : Kept m s0 x0 := by
      unfold x0
      refine State.pf_kept' Reg.IMG_STATUS_block (hp.bit (by decide)) ?_
      assumption
    try (generalize x0 = y0 at h1 ⊢; try clear x0)
    extract_lets +onlyGivenNames x2
    extract_lets +onlyGivenNames x3
    have h4 : Kept m s0 x3 := by
      unfold x3
      refine Kept.upd_img (hp.bit (by decide)) ?_
      assumption
    try (generalize x3 = y3 at h4 ⊢; try clear x3)
    refine Kept.cond (fun _ => ?_) (fun _ => ?_)
    · assumption
    · refine State.regionOff_kept (Sub.trans (b := 562949458126474) (by decide) hp) ?_
      assumption
  · assumption

end Sys2Proof.Machine
end

