-- ==== Sys2Proof/Laws/KeptRegAccess.lean ====
section
/-!
SUPPORT. What the definitions of Machine/RegAccess.lean keep: one lemma each.
-/
namespace Sys2Proof.Machine

theorem State.partClear_kept {m : Nat} {s0 : State} (hp : Sub 32768 m) {s : State} {second : Bool} (hk : Kept m s0 s) : Kept m s0 (State.partClear s second) := by
  unfold State.partClear
  extract_lets +onlyGivenNames x0
  extract_lets +onlyGivenNames x1
  refine State.setPrtn_kept hp ?_
  assumption

theorem State.regRead_kept {m : Nat} {s0 : State} (hp : Sub 72705262649344 m) {s : State} {q : Req} {r : Reg} {i : Nat} (hr_r : m.testBit r.block.ctorIdx = true) (hk : Kept m s0 s) : Kept m s0 (State.regRead s q r i).1 := by
  unfold State.regRead
  refine Kept.cond1 (fun _ => ?_) (fun _ => ?_)
  · show Kept m s0 _
    assumption
  · split
    · split
      · refine State.evdAck_kept (Sub.trans (b := 72705262649344) (by decide) hp) ?_
        assumption
      · show Kept m s0 _
        assumption
    · extract_lets +onlyGivenNames x0
      have h1 : Kept m s0 x0.1 := by
        unfold x0
        refine State.mbxPop_kept (Sub.trans (b := 72705262649344) (by decide) hp) ?_
        assumption
      try (generalize x0 = y0 at h1 ⊢; try clear x0)
      show Kept m s0 _
      assumption
    · extract_lets +onlyGivenNames x2
      have h3 : Kept m s0 x2.1 := by
        unfold x2
        refine State.mbxPop_kept (Sub.trans (b := 72705262649344) (by decide) hp) ?_
        assumption
      try (generalize x2 = y2 at h3 ⊢; try clear x2)
      show Kept m s0 _
      assumption
    · refine State.bsnAlloc_kept (Sub.trans (b := 72705262649344) (by decide) hp) ?_
      assumption
    · refine State.stlAlloc_kept (Sub.trans (b := 72705262649344) (by decide) hp) ?_
      assumption
    · refine State.rxqPop_kept (Sub.trans (b := 72705262649344) (by decide) hp) ?_
      assumption
    · show Kept m s0 _
      refine State.partClear_kept (Sub.trans (b := 72705262649344) (by decide) hp) ?_
      assumption
    · show Kept m s0 _
      refine State.partClear_kept (Sub.trans (b := 72705262649344) (by decide) hp) ?_
      assumption
    · extract_lets +onlyGivenNames x4
      have h5 : Kept m s0 x4 := by
        unfold x4
        refine Kept.cond (fun _ => ?_) (fun _ => ?_)
        · refine State.pmuSettle_kept (Sub.trans (b := 72705262649344) (by decide) hp) ?_
          assumption
        · assumption
      try (generalize x4 = y4 at h5 ⊢; try clear x4)
      extract_lets +onlyGivenNames x6
      extract_lets +onlyGivenNames x7
      have h8 : Kept m s0 x7 := by
        unfold x7
        refine Kept.cond (fun _ => ?_) (fun _ => ?_)
        · assumption
        · refine State.wr_kept' rfl hr_r ?_
          assumption
      try (generalize x7 = y7 at h8 ⊢; try clear x7)
      show Kept m s0 _
      refine Kept.cond (fun _ => ?_) (fun _ => ?_)
      · refine State.tick1_kept (Sub.trans (b := 72705262649344) (by decide) hp) ?_
        assumption
      · assumption

theorem State.regReadAs_kept {m : Nat} {s0 : State} (hp : Sub 72705262649344 m) {s : State} {q : Req} {r : Reg} {i : Nat} (hr_r : m.testBit r.block.ctorIdx = true) (hk : Kept m s0 s) : Kept m s0 (State.regReadAs s q r i).1 := by
  unfold State.regReadAs
  refine Kept.cond1 (fun _ => ?_) (fun _ => ?_)
  · refine State.regRead_kept hp hr_r ?_
    assumption
  · show Kept m s0 _
    refine State.tick1_kept (Sub.trans (b := 72705262649344) (by decide) hp) ?_
    assumption

theorem State.engineUp_kept {m : Nat} {s0 : State} (hp : Sub 2199023255552 m) {s : State} {a : Nat} (hk : Kept m s0 s) : Kept m s0 (State.engineUp s a) := by
  unfold State.engineUp
  extract_lets +onlyGivenNames x0
  refine Kept.cond (fun _ => ?_) (fun _ => ?_)
  · refine State.regionUp_kept hp ?_
    assumption
  · refine Kept.cond (fun _ => ?_) (fun _ => ?_)
    · refine State.regionUp_kept hp ?_
      assumption
    · refine Kept.cond (fun _ => ?_) (fun _ => ?_)
      · refine State.regionUp_kept hp ?_
        assumption
      · refine Kept.cond (fun _ => ?_) (fun _ => ?_)
        · refine State.regionUp_kept hp ?_
          assumption
        · assumption

theorem State.ctlRd_kept {m : Nat} {s0 : State} (hp : Sub 562949472813056 m) {s : State} {q : Req} {a : Nat} (hk : Kept m s0 s) : Kept m s0 (State.ctlRd s q a).1 := by
  unfold State.ctlRd
  split
  · extract_lets +onlyGivenNames x0
    have h1 : Kept m s0 x0.1 := by
      unfold x0
      refine State.regRead_kept (Sub.trans (b := 562949472813056) (by decide) hp) (Sub.reg (Sub.trans (b := 562949472813056) (by decide) hp) _) ?_
      assumption
    try (generalize x0 = y0 at h1 ⊢; try clear x0)
    show Kept m s0 _
    assumption
  · extract_lets +onlyGivenNames x2
    have h3 : Kept m s0 x2.1 := by
      unfold x2
      refine State.regReadAs_kept (Sub.trans (b := 562949472813056) (by decide) hp) (Sub.reg (Sub.trans (b := 562949472813056) (by decide) hp) _) ?_
      refine State.engineUp_kept (Sub.trans (b := 562949472813056) (by decide) hp) ?_
      assumption
    try (generalize x2 = y2 at h3 ⊢; try clear x2)
    show Kept m s0 _
    assumption
  · show Kept m s0 _
    assumption
  · show Kept m s0 _
    refine State.denied_kept (Sub.trans (b := 562949472813056) (by decide) hp) ?_
    assumption

theorem State.regGet_kept {m : Nat} {s0 : State} (hp : Sub 562949472813057 m) {s : State} {q : Req} {r : Reg} {i : Nat} (hk : Kept m s0 s) : Kept m s0 (State.regGet s q r i) := by
  unfold State.regGet
  split
  · next e2 =>
      have h3 : Kept m s0 _ := Kept.fst e2 (by
          refine State.ctlRd_kept (Sub.trans (b := 562949472813057) (by decide) hp) ?_
          assumption
        )
      refine Kept.upd_reply (hp.bit (by decide)) ?_
      assumption
  · next e5 =>
      have h6 : Kept m s0 _ := Kept.fst e5 (by
          refine State.ctlRd_kept (Sub.trans (b := 562949472813057) (by decide) hp) ?_
          assumption
        )
      refine Kept.upd_reply (hp.bit (by decide)) ?_
      assumption

end Sys2Proof.Machine
end

