-- ==== Sys2Proof/Laws/KeptRegCmd.lean ====
section
/-!
SUPPORT. What the definitions of Machine/RegCmd.lean keep: one lemma each.
-/
namespace Sys2Proof.Machine

theorem State.dbgHalt_kept {m : Nat} {s0 : State} (hp : Sub 6597086674944 m) {s : State} {n : Nat} (hk : Kept m s0 s) : Kept m s0 (State.dbgHalt s n) := by
  unfold State.dbgHalt
  refine Kept.cond (fun _ => ?_) (fun _ => ?_)
  · assumption
  · extract_lets +onlyGivenNames x0
    have h1 : Kept m s0 x0 := by
      unfold x0
      refine State.wake_kept (Sub.trans (b := 6597086674944) (by decide) hp) ?_
      assumption
    try (generalize x0 = y0 at h1 ⊢; try clear x0)
    refine Kept.cond (fun _ => ?_) (fun _ => ?_)
    · refine State.haltNow_kept (Sub.trans (b := 6597086674944) (by decide) hp) ?_
      assumption
    · first | refine State.setCor_keptOf (Sub.trans (b := 6597086674944) (by decide) hp) (by assumption) (fun h => h) ?_ | refine State.setCor_kept (Sub.trans (b := 6597086674944) (by decide) hp) (by first | exact fun h => h | exact fun _ => ⟨Nat.zero_le _, Nat.zero_le _, Nat.zero_le _⟩ | exact fun h => ⟨Nat.zero_le _, h.2⟩ | exact fun h => ⟨List.length_take_le _ _, h.2⟩ | (intro h; simp +zetaDelta only [Core.inCap] at h ⊢; exact h) | exact fun h => ⟨h.1, Nat.le_trans (List.length_filter_le _ _) h.2.1, Nat.le_trans (List.length_filter_le _ _) h.2.2⟩) ?_
      assumption

theorem State.dbgResume_kept {m : Nat} {s0 : State} (hp : Sub 4398046642176 m) {s : State} {n : Nat} (hk : Kept m s0 s) : Kept m s0 (State.dbgResume s n) := by
  unfold State.dbgResume
  refine Kept.cond (fun _ => ?_) (fun _ => ?_)
  · assumption
  · refine State.wr_kept' Reg.DBG_CORE_STAT_block (hp.bit (by decide)) ?_
    first | refine State.setCor_keptOf (Sub.trans (b := 4398046642176) (by decide) hp) (by assumption) (fun h => h) ?_ | refine State.setCor_kept (Sub.trans (b := 4398046642176) (by decide) hp) (by first | exact fun h => h | exact fun _ => ⟨Nat.zero_le _, Nat.zero_le _, Nat.zero_le _⟩ | exact fun h => ⟨Nat.zero_le _, h.2⟩ | exact fun h => ⟨List.length_take_le _ _, h.2⟩ | (intro h; simp +zetaDelta only [Core.inCap] at h ⊢; exact h) | exact fun h => ⟨h.1, Nat.le_trans (List.length_filter_le _ _) h.2.1, Nat.le_trans (List.length_filter_le _ _) h.2.2⟩) ?_
    assumption

theorem State.dbgStep_kept {m : Nat} {s0 : State} (hp : Sub 4398046642176 m) {s : State} {n : Nat} (hk : Kept m s0 s) : Kept m s0 (State.dbgStep s n) := by
  unfold State.dbgStep
  refine Kept.cond (fun _ => ?_) (fun _ => ?_)
  · assumption
  · refine State.wr_kept' Reg.DBG_CORE_STAT_block (hp.bit (by decide)) ?_
    first | refine State.setCor_keptOf (Sub.trans (b := 4398046642176) (by decide) hp) (by assumption) (fun h => h) ?_ | refine State.setCor_kept (Sub.trans (b := 4398046642176) (by decide) hp) (by first | exact fun h => h | exact fun _ => ⟨Nat.zero_le _, Nat.zero_le _, Nat.zero_le _⟩ | exact fun h => ⟨Nat.zero_le _, h.2⟩ | exact fun h => ⟨List.length_take_le _ _, h.2⟩ | (intro h; simp +zetaDelta only [Core.inCap] at h ⊢; exact h) | exact fun h => ⟨h.1, Nat.le_trans (List.length_filter_le _ _) h.2.1, Nat.le_trans (List.length_filter_le _ _) h.2.2⟩) ?_
    assumption

theorem State.dbgCoreCtl_kept {m : Nat} {s0 : State} (hp : Sub 6597086674944 m) {s : State} {n : Nat} {v : W32} (hk : Kept m s0 s) : Kept m s0 (State.dbgCoreCtl s n v) := by
  unfold State.dbgCoreCtl
  extract_lets +onlyGivenNames x0
  have h1 : Kept m s0 x0 := by
    unfold x0
    refine State.plainWrite_kept' Reg.DBG_CORE_CTL_block (hp.bit (by decide)) ?_
    assumption
  try (generalize x0 = y0 at h1 ⊢; try clear x0)
  extract_lets +onlyGivenNames x2
  have h3 : Kept m s0 x2 := by
    unfold x2
    refine Kept.cond (fun _ => ?_) (fun _ => ?_)
    · refine State.dbgResume_kept (Sub.trans (b := 6597086674944) (by decide) hp) ?_
      assumption
    · assumption
  try (generalize x2 = y2 at h3 ⊢; try clear x2)
  extract_lets +onlyGivenNames x4
  have h5 : Kept m s0 x4 := by
    unfold x4
    refine Kept.cond (fun _ => ?_) (fun _ => ?_)
    · refine State.dbgStep_kept (Sub.trans (b := 6597086674944) (by decide) hp) ?_
      assumption
    · assumption
  try (generalize x4 = y4 at h5 ⊢; try clear x4)
  refine Kept.cond (fun _ => ?_) (fun _ => ?_)
  · refine State.dbgHalt_kept hp ?_
    assumption
  · assumption

theorem State.dbgSr_kept {m : Nat} {s0 : State} (hp : Sub 6734794588160 m) {s : State} {n : Nat} {k : Nat} {hi : Bool} {v : W32} {whole : W64} (hk : Kept m s0 s) : Kept m s0 (State.dbgSr s n k hi v whole) := by
  unfold State.dbgSr
  split
  · assumption
  · refine Kept.cond (fun _ => ?_) (fun _ => ?_)
    · assumption
    · refine Kept.cond (fun _ => ?_) (fun _ => ?_)
      · refine State.statusRaw_kept (Sub.trans (b := 6734794588160) (by decide) hp) ?_
        assumption
      · refine Kept.cond (fun _ => ?_) (fun _ => ?_)
        · refine Kept.cond (fun _ => ?_) (fun _ => ?_)
          · assumption
          · refine State.srWrite_kept hp ?_
            assumption
        · refine State.srWrite_kept hp ?_
          assumption

theorem State.dbgCoreData_kept {m : Nat} {s0 : State} (hp : Sub 6734794588160 m) {s : State} {n : Nat} {hi : Bool} {v : W32} (hk : Kept m s0 s) : Kept m s0 (State.dbgCoreData s n hi v) := by
  unfold State.dbgCoreData
  refine Kept.cond (fun _ => ?_) (fun _ => ?_)
  · assumption
  · extract_lets +onlyGivenNames x0
    extract_lets +onlyGivenNames x1
    extract_lets +onlyGivenNames x2
    refine Kept.cond (fun _ => ?_) (fun _ => ?_)
    · refine State.gw_kept (Sub.trans (b := 6734794588160) (by decide) hp) ?_
      assumption
    · refine Kept.cond (fun _ => ?_) (fun _ => ?_)
      · refine State.setPc_kept (Sub.trans (b := 6734794588160) (by decide) hp) ?_
        assumption
      · refine Kept.cond (fun _ => ?_) (fun _ => ?_)
        · refine State.dbgSr_kept hp ?_
          assumption
        · assumption

theorem State.dbgLeCtl_kept {m : Nat} {s0 : State} (hp : Sub 4398046511616 m) {s : State} {j : Nat} {v : W32} (hk : Kept m s0 s) : Kept m s0 (State.dbgLeCtl s j v) := by
  unfold State.dbgLeCtl
  refine Kept.cond (fun _ => ?_) (fun _ => ?_)
  · refine State.pb_kept' Reg.DBG_LE_STAT_block (hp.bit (by decide)) ?_
    assumption
  · extract_lets +onlyGivenNames x0
    have h1 : Kept m s0 x0 := by
      unfold x0
      refine State.plainWrite_kept' Reg.DBG_LE_CTL_block (hp.bit (by decide)) ?_
      assumption
    try (generalize x0 = y0 at h1 ⊢; try clear x0)
    refine Kept.cond (fun _ => ?_) (fun _ => ?_)
    · refine State.setLe_kept (Sub.trans (b := 4398046511616) (by decide) hp) ?_
      assumption
    · assumption

theorem State.dbgLeData_kept {m : Nat} {s0 : State} (hp : Sub 512 m) {s : State} {j : Nat} {v : W32} (hk : Kept m s0 s) : Kept m s0 (State.dbgLeData s j v) := by
  unfold State.dbgLeData
  refine Kept.cond (fun _ => ?_) (fun _ => ?_)
  · assumption
  · extract_lets +onlyGivenNames x0
    extract_lets +onlyGivenNames x1
    refine State.setLe_kept hp ?_
    assumption

theorem State.syncCores_kept {m : Nat} {s0 : State} (hp : Sub 6734794588160 m) {s : State} (hk : Kept m s0 s) : Kept m s0 (State.syncCores s) := by
  unfold State.syncCores
  refine Kept.forEach (fun z0 a1 h2 => ?_) ?_
  · refine State.emitSync_kept hp ?_
    assumption
  · assumption

theorem State.trcCtl_kept {m : Nat} {s0 : State} (hp : Sub 6734794588160 m) {s : State} {v : W32} (hk : Kept m s0 s) : Kept m s0 (State.trcCtl s v) := by
  unfold State.trcCtl
  extract_lets +onlyGivenNames x0
  extract_lets +onlyGivenNames x1
  have h2 : Kept m s0 x1 := by
    unfold x1
    refine State.plainWrite_kept' Reg.TRC_CTL_block (hp.bit (by decide)) ?_
    assumption
  try (generalize x1 = y1 at h2 ⊢; try clear x1)
  refine Kept.cond (fun _ => ?_) (fun _ => ?_)
  · refine State.syncCores_kept hp ?_
    assumption
  · assumption

theorem State.dbgBoot_kept {m : Nat} {s0 : State} (hp : Sub 268435474 m) {s : State} (hk : Kept m s0 s) : Kept m s0 (State.dbgBoot s) := by
  unfold State.dbgBoot
  extract_lets +onlyGivenNames x0
  refine Kept.cond (fun _ => ?_) (fun _ => ?_)
  · assumption
  · extract_lets +onlyGivenNames x1
    have h2 : Kept m s0 x1 := by
      unfold x1
      refine State.romRun_kept (Sub.trans (b := 268435474) (by decide) hp) ?_
      assumption
    try (generalize x1 = y1 at h2 ⊢; try clear x1)
    extract_lets +onlyGivenNames x3
    extract_lets +onlyGivenNames x4
    have h5 : Kept m s0 x4 := by
      unfold x4
      refine Kept.upd_trc (hp.bit (by decide)) ?_
      assumption
    try (generalize x4 = y4 at h5 ⊢; try clear x4)
    refine Kept.cond (fun _ => ?_) (fun _ => ?_)
    · refine Kept.upd_keep ⟨hp.bit (by decide), by first | exact KeepOk.same rfl rfl | exact KeepOk.setCtr (by first | exact Nat.le_succ _ | (apply Nat.le_of_lt; assumption)) | exact KeepOk.trans (KeepOk.setCtr (Nat.le_succ _)) (KeepOk.same rfl rfl)⟩ ?_
      assumption
    · assumption

theorem State.dbgUnlock_kept {m : Nat} {s0 : State} (hp : Sub 4398314946578 m) {s : State} {v : W32} (hk : Kept m s0 s) : Kept m s0 (State.dbgUnlock s v) := by
  unfold State.dbgUnlock
  extract_lets +onlyGivenNames x0
  have h1 : Kept m s0 x0 := by
    unfold x0
    refine State.plainWrite_kept' Reg.TRC_DBG_UNLOCK_block (hp.bit (by decide)) ?_
    assumption
  try (generalize x0 = y0 at h1 ⊢; try clear x0)
  extract_lets +onlyGivenNames x2
  extract_lets +onlyGivenNames x3
  have h4 : Kept m s0 x3 := by
    unfold x3
    refine Kept.cond (fun _ => ?_) (fun _ => ?_)
    · refine Kept.cond (fun _ => ?_) (fun _ => ?_)
      · refine Kept.upd_trc (hp.bit (by decide)) ?_
        assumption
      · refine State.pb_kept' Reg.TRC_DBG_STATUS_block (hp.bit (by decide)) ?_
        assumption
    · assumption
  try (generalize x3 = y3 at h4 ⊢; try clear x3)
  extract_lets +onlyGivenNames x5
  extract_lets +onlyGivenNames x6
  have h7 : Kept m s0 x6 := by
    unfold x6
    refine Kept.cond (fun _ => ?_) (fun _ => ?_)
    · refine Kept.upd_trc (hp.bit (by decide)) ?_
      assumption
    · assumption
  try (generalize x6 = y6 at h7 ⊢; try clear x6)
  refine Kept.cond (fun _ => ?_) (fun _ => ?_)
  · refine State.dbgBoot_kept (Sub.trans (b := 4398314946578) (by decide) hp) ?_
    assumption
  · assumption

theorem State.lcLeCtl_kept {m : Nat} {s0 : State} (hp : Sub 512 m) {s : State} {j : Nat} {v : W32} (hk : Kept m s0 s) : Kept m s0 (State.lcLeCtl s j v) := by
  unfold State.lcLeCtl
  extract_lets +onlyGivenNames x0
  refine State.setLe_kept hp ?_
  assumption

theorem State.lcRecCtl_kept {m : Nat} {s0 : State} (hp : Sub 4294968320 m) {s : State} {c : Nat} {v : W32} (hk : Kept m s0 s) : Kept m s0 (State.lcRecCtl s c v) := by
  unfold State.lcRecCtl
  extract_lets +onlyGivenNames x0
  extract_lets +onlyGivenNames x1
  have h2 : Kept m s0 x1 := by
    unfold x1
    refine State.plainWrite_kept' Reg.LC_REC_CTL_block (hp.bit (by decide)) ?_
    assumption
  try (generalize x1 = y1 at h2 ⊢; try clear x1)
  refine State.setLc_kept (Sub.trans (b := 4294968320) (by decide) hp) ?_
  assumption

theorem State.txWrite_kept {m : Nat} {s0 : State} (hp : Sub 15805800120320 m) {s : State} {q : Req} {m_ : Nat} {ba : Bool} {thr : Option Nat} {v : W32} (hk : Kept m s0 s) : Kept m s0 (State.txWrite s q m_ ba thr v) := by
  unfold State.txWrite
  split
  · refine State.mbxPush_kept hp ?_
    assumption
  · refine State.mbxPush_kept hp ?_
    assumption

theorem State.codeWrite_kept {m : Nat} {s0 : State} (hp : Sub 15805800120320 m) {s : State} {q : Req} {m_ : Nat} {ba : Bool} {thr : Option Nat} {v : W32} (hk : Kept m s0 s) : Kept m s0 (State.codeWrite s q m_ ba thr v) := by
  unfold State.codeWrite
  refine State.mbxCode_kept hp ?_
  assumption

theorem State.regWriteA_kept {m : Nat} {s0 : State} (hp : Sub 562949743705818 m) {s : State} {r : Reg} {i : Nat} {v : W32} (hk : Kept m s0 s) : OptKept m s0 (State.regWriteA s r i v) := by
  unfold State.regWriteA
  split
  · refine OptKept.ofSome ?_
    refine State.imgCtl_kept (Sub.trans (b := 562949743705818) (by decide) hp) ?_
    refine Kept.cond (fun _ => ?_) (fun _ => ?_)
    · refine State.pkgAbortBy_kept (Sub.trans (b := 562949743705818) (by decide) hp) ?_
      assumption
    · assumption
  · refine OptKept.ofSome ?_
    refine State.cntCtl_kept (Sub.trans (b := 562949743705818) (by decide) hp) ?_
    assumption
  · refine OptKept.ofSome ?_
    refine State.lcCtl_kept (Sub.trans (b := 562949743705818) (by decide) hp) ?_
    assumption
  · refine OptKept.ofSome ?_
    refine Kept.cond (fun _ => ?_) (fun _ => ?_)
    · refine State.jobGo_kept (Sub.trans (b := 562949743705818) (by decide) hp) ?_
      assumption
    · assumption
  · refine OptKept.ofSome ?_
    refine State.tickOutPin_kept (Sub.trans (b := 562949743705818) (by decide) hp) ?_
    refine State.plainWrite_kept' Reg.TICK_CTL_block (hp.bit (by decide)) ?_
    assumption
  · refine OptKept.ofSome ?_
    refine State.plCtl_kept (Sub.trans (b := 562949743705818) (by decide) hp) ?_
    assumption
  · refine OptKept.ofSome ?_
    refine State.plReadmit_kept (Sub.trans (b := 562949743705818) (by decide) hp) ?_
    assumption
  · refine OptKept.ofSome ?_
    refine State.plRegCmd_kept (Sub.trans (b := 562949743705818) (by decide) hp) ?_
    assumption
  · refine OptKept.ofSome ?_
    refine State.plInj_kept (Sub.trans (b := 562949743705818) (by decide) hp) ?_
    assumption
  · refine OptKept.ofSome ?_
    refine State.lcLeCtl_kept (Sub.trans (b := 562949743705818) (by decide) hp) ?_
    assumption
  · refine OptKept.ofSome ?_
    refine Kept.cond (fun _ => ?_) (fun _ => ?_)
    · refine State.setLc_kept (Sub.trans (b := 562949743705818) (by decide) hp) ?_
      assumption
    · assumption
  · refine OptKept.ofSome ?_
    refine State.lcRecCtl_kept (Sub.trans (b := 562949743705818) (by decide) hp) ?_
    assumption
  · refine OptKept.ofSome ?_
    refine State.seqCtl_kept (Sub.trans (b := 562949743705818) (by decide) hp) ?_
    refine State.pkgAbortBy_kept (Sub.trans (b := 562949743705818) (by decide) hp) ?_
    assumption
  · refine OptKept.ofSome ?_
    refine State.railCtl_kept (Sub.trans (b := 562949743705818) (by decide) hp) ?_
    refine State.pkgAbortBy_kept (Sub.trans (b := 562949743705818) (by decide) hp) ?_
    assumption
  · refine OptKept.ofSome ?_
    refine State.railSetpt_kept (Sub.trans (b := 562949743705818) (by decide) hp) ?_
    assumption
  · refine OptKept.ofSome ?_
    refine State.wshedWrite_kept (Sub.trans (b := 562949743705818) (by decide) hp) (by rw [Reg.RAIL_WSHED_LO_block]; exact hp.bit (by decide)) ?_
    assumption
  · refine OptKept.ofSome ?_
    refine State.wshedWrite_kept (Sub.trans (b := 562949743705818) (by decide) hp) (by rw [Reg.RAIL_WSHED_HI_block]; exact hp.bit (by decide)) ?_
    assumption
  · refine OptKept.ofSome ?_
    refine State.ldgCmd_kept (Sub.trans (b := 562949743705818) (by decide) hp) ?_
    assumption
  · refine OptKept.ofSome ?_
    refine State.cmpCtl_kept (Sub.trans (b := 562949743705818) (by decide) hp) ?_
    assumption
  · refine OptKept.ofSome ?_
    refine State.migCtl_kept (Sub.trans (b := 562949743705818) (by decide) hp) ?_
    assumption
  · exact OptKept.ofNone

theorem State.regWriteB_kept {m : Nat} {s0 : State} (hp : Sub 140600519066130 m) {s : State} {q : Req} {r : Reg} {i : Nat} {thr : Option Nat} {v : W32} (hk : Kept m s0 s) : OptKept m s0 (State.regWriteB s q r i thr v) := by
  unfold State.regWriteB
  split
  · refine OptKept.mapv (fun z0 => ?_)
    · refine State.evdEoi_kept (Sub.trans (b := 140600519066130) (by decide) hp) ?_
      assumption
  · refine OptKept.mapv (fun z2 => ?_)
    · refine State.evdPmr_kept (Sub.trans (b := 140600519066130) (by decide) hp) ?_
      assumption
  · refine OptKept.ofSome ?_
    refine State.evdSwgen_kept (Sub.trans (b := 140600519066130) (by decide) hp) ?_
    assumption
  · refine OptKept.ofSome ?_
    refine State.evdFallback_kept (Sub.trans (b := 140600519066130) (by decide) hp) ?_
    assumption
  · refine OptKept.ofSome ?_
    refine State.evdEnSet_kept (Sub.trans (b := 140600519066130) (by decide) hp) ?_
    assumption
  · refine OptKept.ofSome ?_
    refine State.evdEnClr_kept (Sub.trans (b := 140600519066130) (by decide) hp) ?_
    assumption
  · refine OptKept.ofSome ?_
    refine State.evdPendSet_kept (Sub.trans (b := 140600519066130) (by decide) hp) ?_
    assumption
  · refine OptKept.ofSome ?_
    refine State.evdPendClr_kept (Sub.trans (b := 140600519066130) (by decide) hp) ?_
    assumption
  · refine OptKept.ofSome ?_
    refine State.evdSrcCfg_kept (Sub.trans (b := 140600519066130) (by decide) hp) ?_
    assumption
  · refine OptKept.ofSome ?_
    refine State.txWrite_kept (Sub.trans (b := 140600519066130) (by decide) hp) ?_
    assumption
  · refine OptKept.ofSome ?_
    refine State.txWrite_kept (Sub.trans (b := 140600519066130) (by decide) hp) ?_
    assumption
  · refine OptKept.ofSome ?_
    refine State.codeWrite_kept (Sub.trans (b := 140600519066130) (by decide) hp) ?_
    assumption
  · refine OptKept.ofSome ?_
    refine State.codeWrite_kept (Sub.trans (b := 140600519066130) (by decide) hp) ?_
    assumption
  · refine OptKept.ofSome ?_
    refine State.chCtl_kept (Sub.trans (b := 140600519066130) (by decide) hp) ?_
    assumption
  · refine OptKept.ofSome ?_
    refine State.chOwn_kept (Sub.trans (b := 140600519066130) (by decide) hp) ?_
    assumption
  · refine OptKept.ofSome ?_
    refine State.bsnFree_kept (Sub.trans (b := 140600519066130) (by decide) hp) ?_
    assumption
  · refine OptKept.ofSome ?_
    refine State.stlCtl_kept (Sub.trans (b := 140600519066130) (by decide) hp) ?_
    assumption
  · refine OptKept.ofSome ?_
    refine State.stlBind_kept (Sub.trans (b := 140600519066130) (by decide) hp) ?_
    assumption
  · refine OptKept.ofSome ?_
    refine State.mapWrite_kept (Sub.trans (b := 140600519066130) (by decide) hp) (by rw [Reg.STL_MBX_MAP_block]; exact hp.bit (by decide)) ?_
    assumption
  · refine OptKept.ofSome ?_
    refine State.mapWrite_kept (Sub.trans (b := 140600519066130) (by decide) hp) (by rw [Reg.STL_VIEW_BASE_block]; exact hp.bit (by decide)) ?_
    assumption
  · refine OptKept.ofSome ?_
    refine State.mapWrite_kept (Sub.trans (b := 140600519066130) (by decide) hp) (by rw [Reg.STL_VIEW_CNT_block]; exact hp.bit (by decide)) ?_
    assumption
  · refine OptKept.ofSome ?_
    refine State.mapWrite_kept (Sub.trans (b := 140600519066130) (by decide) hp) (by rw [Reg.STL_SRC_block]; exact hp.bit (by decide)) ?_
    assumption
  · refine OptKept.ofSome ?_
    refine State.mapWrite_kept (Sub.trans (b := 140600519066130) (by decide) hp) (by rw [Reg.STL_WIN_A_block]; exact hp.bit (by decide)) ?_
    assumption
  · refine OptKept.ofSome ?_
    refine State.mapWrite_kept (Sub.trans (b := 140600519066130) (by decide) hp) (by rw [Reg.STL_WIN_B_block]; exact hp.bit (by decide)) ?_
    assumption
  · refine OptKept.ofSome ?_
    refine State.stlRing_kept (Sub.trans (b := 140600519066130) (by decide) hp) ?_
    assumption
  · refine OptKept.ofSome ?_
    refine State.stlSlots_kept (Sub.trans (b := 140600519066130) (by decide) hp) (fun a4 a5 a6 h7 => ?_) ?_
    · refine State.evdEnSet_kept (Sub.trans (b := 140600519066130) (by decide) hp) ?_
      assumption
    · assumption
  · refine OptKept.ofSome ?_
    refine State.stlSlots_kept (Sub.trans (b := 140600519066130) (by decide) hp) (fun a8 a9 a10 h11 => ?_) ?_
    · refine State.evdEnClr_kept (Sub.trans (b := 140600519066130) (by decide) hp) ?_
      assumption
    · assumption
  · refine OptKept.ofSome ?_
    refine State.stlSlots_kept (Sub.trans (b := 140600519066130) (by decide) hp) (fun a12 a13 a14 h15 => ?_) ?_
    · refine State.evdPendClr_kept (Sub.trans (b := 140600519066130) (by decide) hp) ?_
      assumption
    · assumption
  · refine OptKept.ofSome ?_
    refine State.stlFree_kept (Sub.trans (b := 140600519066130) (by decide) hp) ?_
    assumption
  · refine OptKept.ofSome ?_
    refine State.lvCmd_kept (Sub.trans (b := 140600519066130) (by decide) hp) ?_
    assumption
  · refine OptKept.ofSome ?_
    refine State.pwrCoreCtl_kept (Sub.trans (b := 140600519066130) (by decide) hp) ?_
    assumption
  · refine OptKept.ofSome ?_
    refine State.unitCtl_kept (Sub.trans (b := 140600519066130) (by decide) hp) ?_
    assumption
  · refine OptKept.ofSome ?_
    refine State.ccFreq_kept (Sub.trans (b := 140600519066130) (by decide) hp) ?_
    assumption
  · refine OptKept.ofSome ?_
    refine State.regCtl_kept (Sub.trans (b := 140600519066130) (by decide) hp) ?_
    assumption
  · refine OptKept.ofSome ?_
    refine State.pkgCtl_kept (Sub.trans (b := 140600519066130) (by decide) hp) ?_
    assumption
  · refine OptKept.ofSome ?_
    refine State.pollWaiting_kept (Sub.trans (b := 140600519066130) (by decide) hp) ?_
    refine State.plainWrite_kept' Reg.PORT_CTL_block (hp.bit (by decide)) ?_
    assumption
  · refine OptKept.ofSome ?_
    refine State.txqPush_kept (Sub.trans (b := 140600519066130) (by decide) hp) ?_
    assumption
  · refine OptKept.ofSome ?_
    refine State.rawCmd_kept (Sub.trans (b := 140600519066130) (by decide) hp) ?_
    assumption
  · refine OptKept.ofSome ?_
    refine State.swVlan_kept (Sub.trans (b := 140600519066130) (by decide) hp) ?_
    assumption
  · refine OptKept.ofSome ?_
    refine State.fanPwm_kept (Sub.trans (b := 140600519066130) (by decide) hp) ?_
    assumption
  · refine OptKept.ofSome ?_
    refine State.fanWdt_kept (Sub.trans (b := 140600519066130) (by decide) hp) ?_
    assumption
  · refine OptKept.ofSome ?_
    refine State.trcCtl_kept (Sub.trans (b := 140600519066130) (by decide) hp) ?_
    assumption
  · refine OptKept.ofSome ?_
    refine Kept.cond (fun _ => ?_) (fun _ => ?_)
    · refine State.dbgUnlock_kept (Sub.trans (b := 140600519066130) (by decide) hp) ?_
      assumption
    · assumption
  · refine OptKept.ofSome ?_
    refine State.dbgCoreCtl_kept (Sub.trans (b := 140600519066130) (by decide) hp) ?_
    assumption
  · refine OptKept.ofSome ?_
    refine State.dbgCoreData_kept (Sub.trans (b := 140600519066130) (by decide) hp) ?_
    assumption
  · refine OptKept.ofSome ?_
    refine State.dbgCoreData_kept (Sub.trans (b := 140600519066130) (by decide) hp) ?_
    assumption
  · refine OptKept.ofSome ?_
    refine State.dbgLeCtl_kept (Sub.trans (b := 140600519066130) (by decide) hp) ?_
    assumption
  · refine OptKept.ofSome ?_
    refine State.dbgLeData_kept (Sub.trans (b := 140600519066130) (by decide) hp) ?_
    assumption
  · exact OptKept.ofNone

theorem State.regWrite_kept {m : Nat} {s0 : State} (hp : Sub 562949886312154 m) {s : State} {q : Req} {r : Reg} {i : Nat} {thr : Option Nat} {v : W32} (hr_r : m.testBit r.block.ctorIdx = true) (hk : Kept m s0 s) : Kept m s0 (State.regWrite s q r i thr v) := by
  unfold State.regWrite
  refine Kept.cond (fun _ => ?_) (fun _ => ?_)
  · assumption
  · split
    · next e1 =>
        have h2 : Kept m s0 _ := OptKept.get e1 (by
            refine State.regWriteA_kept (Sub.trans (b := 562949886312154) (by decide) hp) ?_
            assumption
          )
        assumption
    · split
      · next e6 =>
          have h7 : Kept m s0 _ := OptKept.get e6 (by
              refine State.regWriteB_kept (Sub.trans (b := 562949886312154) (by decide) hp) ?_
              assumption
            )
          assumption
      · refine State.plainWrite_kept' rfl hr_r ?_
        assumption

theorem State.regWriteAs_kept {m : Nat} {s0 : State} (hp : Sub 562949886312154 m) {s : State} {q : Req} {r : Reg} {i : Nat} {thr : Option Nat} {v : W32} (hr_r : m.testBit r.block.ctorIdx = true) (hk : Kept m s0 s) : Kept m s0 (State.regWriteAs s q r i thr v) := by
  unfold State.regWriteAs
  refine Kept.cond (fun _ => ?_) (fun _ => ?_)
  · refine State.strefCh_kept (Sub.trans (b := 562949886312154) (by decide) hp) ?_
    assumption
  · refine Kept.cond (fun _ => ?_) (fun _ => ?_)
    · refine State.regWrite_kept hp hr_r ?_
      assumption
    · assumption

theorem State.ctlWr_kept {m : Nat} {s0 : State} (hp : Sub 562949886312154 m) {s : State} {q : Req} {a : Nat} {v : W32} (hk : Kept m s0 s) : Kept m s0 (State.ctlWr s q a v).1 := by
  unfold State.ctlWr
  split
  · show Kept m s0 _
    refine State.regWriteAs_kept hp (Sub.reg (Sub.trans (b := 562949886312154) (by decide) hp) _) ?_
    refine State.engineUp_kept (Sub.trans (b := 562949886312154) (by decide) hp) ?_
    assumption
  · show Kept m s0 _
    assumption
  · show Kept m s0 _
    refine State.denied_kept (Sub.trans (b := 562949886312154) (by decide) hp) ?_
    assumption

theorem State.regCmd_kept {m : Nat} {s0 : State} (hp : Sub 562949886312155 m) {s : State} {q : Req} {r : Reg} {i : Nat} {v : W32} (hk : Kept m s0 s) : Kept m s0 (State.regCmd s q r i v) := by
  unfold State.regCmd
  extract_lets +onlyGivenNames x0
  have h1 : Kept m s0 x0.1 := by
    unfold x0
    refine State.ctlWr_kept (Sub.trans (b := 562949886312155) (by decide) hp) ?_
    assumption
  try (generalize x0 = y0 at h1 ⊢; try clear x0)
  extract_lets +onlyGivenNames x2
  have h3 : Kept m s0 x2 := by
    unfold x2
    assumption
  try (generalize x2 = y2 at h3 ⊢; try clear x2)
  refine Kept.upd_reply (hp.bit (by decide)) ?_
  assumption

end Sys2Proof.Machine
end

