-- ==== Sys2Proof/Laws/KeptTickEdge.lean ====
section
/-!
SUPPORT. What the definitions of Machine/TickEdge.lean keep: one lemma each.
-/
namespace Sys2Proof.Machine

theorem State.ltick_kept {m : Nat} {s0 : State} (hp : Sub 6734794588160 m) {s : State} {j : Nat} (hk : Kept m s0 s) : Kept m s0 (State.ltick s j) := by
  unfold State.ltick
  extract_lets +onlyGivenNames x0
  refine Kept.cond (fun _ => ?_) (fun _ => ?_)
  · refine State.emitRaw_kept hp ?_
    assumption
  · assumption

theorem State.countEdge_kept {m : Nat} {s0 : State} (hp : Sub 32 m) {s : State} {adj : Nat} (hk : Kept m s0 s) : Kept m s0 (State.countEdge s adj) := by
  unfold State.countEdge
  extract_lets +onlyGivenNames x0
  refine Kept.upd_tick (hp.bit (by decide)) ?_
  assumption

theorem State.darkEdge_kept {m : Nat} {s0 : State} (hp : Sub 32 m) {s : State} (hk : Kept m s0 s) : Kept m s0 (State.darkEdge s) := by
  unfold State.darkEdge
  refine Kept.cond (fun _ => ?_) (fun _ => ?_)
  · extract_lets +onlyGivenNames x0
    refine Kept.upd_tick (hp.bit (by decide)) ?_
    assumption
  · assumption

theorem State.misalign_kept {m : Nat} {s0 : State} (hp : Sub 1073807392 m) {s : State} (hk : Kept m s0 s) : Kept m s0 (State.misalign s) := by
  unfold State.misalign
  extract_lets +onlyGivenNames x0
  have h1 : Kept m s0 x0 := by
    unfold x0
    refine State.pb_kept' Reg.TICK_STATUS_block (hp.bit (by decide)) ?_
    assumption
  try (generalize x0 = y0 at h1 ⊢; try clear x0)
  extract_lets +onlyGivenNames x2
  extract_lets +onlyGivenNames x3
  have h4 : Kept m s0 x3 := by
    unfold x3
    refine Kept.upd_tick (hp.bit (by decide)) ?_
    assumption
  try (generalize x3 = y3 at h4 ⊢; try clear x3)
  refine Kept.cond (fun _ => ?_) (fun _ => ?_)
  · refine Kept.upd_cmp (hp.bit (by decide)) ?_
    assumption
  · assumption

theorem State.alignEdge_kept {m : Nat} {s0 : State} (hp : Sub 2337553448992 m) {s : State} {err : BitVec 16} (hk : Kept m s0 s) : Kept m s0 (State.alignEdge s err) := by
  unfold State.alignEdge
  refine Kept.cond (fun _ => ?_) (fun _ => ?_)
  · refine State.pb_kept' Reg.TICK_STATUS_block (hp.bit (by decide)) ?_
    refine State.wr_kept' Reg.TICK_PHERR_block (hp.bit (by decide)) ?_
    assumption
  · extract_lets +onlyGivenNames x0
    have h1 : Kept m s0 x0 := by
      unfold x0
      refine State.wr_kept' Reg.TICK_PHERR_block (hp.bit (by decide)) ?_
      assumption
    try (generalize x0 = y0 at h1 ⊢; try clear x0)
    refine Kept.cond (fun _ => ?_) (fun _ => ?_)
    · extract_lets +onlyGivenNames x2
      extract_lets +onlyGivenNames x3
      extract_lets +onlyGivenNames x4
      have h5 : Kept m s0 x4 := by
        unfold x4
        refine Kept.upd_tick (hp.bit (by decide)) ?_
        assumption
      try (generalize x4 = y4 at h5 ⊢; try clear x4)
      refine Kept.cond (fun _ => ?_) (fun _ => ?_)
      · refine State.pb_kept' Reg.TICK_STATUS_block (hp.bit (by decide)) ?_
        assumption
      · assumption
    · refine State.raise_kept (Sub.trans (b := 2337553448992) (by decide) hp) ?_
      refine State.misalign_kept (Sub.trans (b := 2337553448992) (by decide) hp) ?_
      assumption

theorem State.relock_kept {m : Nat} {s0 : State} (hp : Sub 1073741856 m) {s : State} (hk : Kept m s0 s) : Kept m s0 (State.relock s) := by
  unfold State.relock
  refine Kept.cond (fun _ => ?_) (fun _ => ?_)
  · extract_lets +onlyGivenNames x0
    have h1 : Kept m s0 x0 := by
      unfold x0
      refine State.pb_kept' Reg.TICK_STATUS_block (hp.bit (by decide)) ?_
      refine State.pb_kept' Reg.TICK_STATUS_block (hp.bit (by decide)) ?_
      assumption
    try (generalize x0 = y0 at h1 ⊢; try clear x0)
    refine Kept.upd_tick (hp.bit (by decide)) ?_
    assumption
  · assumption

theorem State.leEdge_kept {m : Nat} {s0 : State} (hp : Sub 512 m) {s : State} (hk : Kept m s0 s) : Kept m s0 (State.leEdge s) := by
  unfold State.leEdge
  refine Kept.cond (fun _ => ?_) (fun _ => ?_)
  · refine Kept.forEach (fun z0 a1 h2 => ?_) ?_
    · refine State.leRest_kept hp ?_
      assumption
    · assumption
  · refine Kept.forEach (fun z3 a4 h5 => ?_) ?_
    · refine State.lcStart_kept hp ?_
      assumption
    · assumption

theorem State.closeTick_kept {m : Nat} {s0 : State} (hp : Sub 77137902733312 m) {s : State} (hk : Kept m s0 s) : Kept m s0 (State.closeTick s) := by
  unfold State.closeTick
  extract_lets +onlyGivenNames x0
  have h1 : Kept m s0 x0 := by
    unfold x0
    refine State.ldgClose_kept (Sub.trans (b := 77137902733312) (by decide) hp) ?_
    refine Kept.forEach (fun z2 a3 h4 => ?_) ?_
    · refine State.ltick_kept (Sub.trans (b := 77137902733312) (by decide) hp) ?_
      assumption
    · assumption
  try (generalize x0 = y0 at h1 ⊢; try clear x0)
  refine Kept.forEach (fun z5 a6 h7 => ?_) ?_
  · refine State.imeasTick_kept (Sub.trans (b := 77137902733312) (by decide) hp) ?_
    refine State.plausTick_kept (Sub.trans (b := 77137902733312) (by decide) hp) ?_
    assumption
  · assumption

theorem State.unitsEdge_kept {m : Nat} {s0 : State} (hp : Sub 562949474969222 m) {s : State} (hk : Kept m s0 s) : Kept m s0 (State.unitsEdge s) := by
  unfold State.unitsEdge
  refine State.unitEdge_kept (Sub.trans (b := 562949474969222) (by decide) hp) ?_
  refine Kept.forEach (fun z0 a1 h2 => ?_) ?_
  · refine State.lcEdge_kept (Sub.trans (b := 562949474969222) (by decide) hp) ?_
    assumption
  · refine State.unitEdge_kept (Sub.trans (b := 562949474969222) (by decide) hp) ?_
    assumption

theorem State.mbxEdge_kept {m : Nat} {s0 : State} (hp : Sub 15805800120320 m) {s : State} (hk : Kept m s0 s) : Kept m s0 (State.mbxEdge s) := by
  unfold State.mbxEdge
  refine Kept.forEach (fun z0 a1 h2 => ?_) ?_
  · refine State.mbxTmo_kept hp ?_
    refine State.mbxTmo_kept hp ?_
    assumption
  · assumption

theorem State.edgeWork_kept {m : Nat} {s0 : State} (hp : Sub 562949810814718 m) {s : State} (hk : Kept m s0 s) : Kept m s0 (State.edgeWork s) := by
  unfold State.edgeWork
  extract_lets +onlyGivenNames x0
  have h1 : Kept m s0 x0 := by
    unfold x0
    refine State.unitsEdge_kept (Sub.trans (b := 562949810814718) (by decide) hp) ?_
    refine State.mbxEdge_kept (Sub.trans (b := 562949810814718) (by decide) hp) ?_
    refine State.clearAge_kept (Sub.trans (b := 562949810814718) (by decide) hp) ?_
    assumption
  try (generalize x0 = y0 at h1 ⊢; try clear x0)
  extract_lets +onlyGivenNames x2
  have h3 : Kept m s0 x2 := by
    unfold x2
    refine State.cmpEdge_kept (Sub.trans (b := 562949810814718) (by decide) hp) ?_
    assumption
  try (generalize x2 = y2 at h3 ⊢; try clear x2)
  extract_lets +onlyGivenNames x4
  have h5 : Kept m s0 x4 := by
    unfold x4
    refine State.relock_kept (Sub.trans (b := 562949810814718) (by decide) hp) ?_
    refine State.amdApply_kept (Sub.trans (b := 562949810814718) (by decide) hp) ?_
    assumption
  try (generalize x4 = y4 at h5 ⊢; try clear x4)
  extract_lets +onlyGivenNames x6
  extract_lets +onlyGivenNames x7
  have h8 : Kept m s0 x7 := by
    unfold x7
    refine Kept.cond (fun _ => ?_) (fun _ => ?_)
    · refine Kept.upd_pins (hp.bit (by decide)) ?_
      assumption
    · assumption
  try (generalize x7 = y7 at h8 ⊢; try clear x7)
  extract_lets +onlyGivenNames x9
  have h10 : Kept m s0 x9 := by
    unfold x9
    refine Kept.forEach (fun z11 a12 h13 => ?_) ?_
    · refine State.portEdge_kept (Sub.trans (b := 562949810814718) (by decide) hp) ?_
      assumption
    · assumption
  try (generalize x9 = y9 at h10 ⊢; try clear x9)
  extract_lets +onlyGivenNames x14
  have h15 : Kept m s0 x14 := by
    unfold x14
    refine Kept.forEach (fun z16 a17 h18 => ?_) ?_
    · refine State.hearEdge_kept (Sub.trans (b := 562949810814718) (by decide) hp) ?_
      assumption
    · assumption
  try (generalize x14 = y14 at h15 ⊢; try clear x14)
  extract_lets +onlyGivenNames x19
  have h20 : Kept m s0 x19 := by
    unfold x19
    refine Kept.forEach (fun z21 a22 h23 => ?_) ?_
    · refine State.railEdge_kept (Sub.trans (b := 562949810814718) (by decide) hp) ?_
      refine State.iestTick_kept (Sub.trans (b := 562949810814718) (by decide) hp) ?_
      assumption
    · assumption
  try (generalize x19 = y19 at h20 ⊢; try clear x19)
  extract_lets +onlyGivenNames x24
  have h25 : Kept m s0 x24 := by
    unfold x24
    refine State.stepsEdge_kept (Sub.trans (b := 562949810814718) (by decide) hp) ?_
    assumption
  try (generalize x24 = y24 at h25 ⊢; try clear x24)
  extract_lets +onlyGivenNames x26
  have h27 : Kept m s0 x26 := by
    unfold x26
    refine State.settleDown_kept (Sub.trans (b := 562949810814718) (by decide) hp) ?_
    assumption
  try (generalize x26 = y26 at h27 ⊢; try clear x26)
  extract_lets +onlyGivenNames x28
  have h29 : Kept m s0 x28 := by
    unfold x28
    refine Kept.forEach (fun z30 a31 h32 => ?_) ?_
    · refine State.unpause_kept (Sub.trans (b := 562949810814718) (by decide) hp) ?_
      assumption
    · assumption
  try (generalize x28 = y28 at h29 ⊢; try clear x28)
  refine Kept.upd ?_ rfl (Nat.le_refl _) (fun _ _ => rfl) (.inr rfl) (.inr rfl) (.inr rfl) (.inr rfl) (.inr rfl) (.inr rfl) (.inr rfl) (.inr rfl) (.inr rfl) (.inr rfl) (.inr rfl) (.inr rfl) (.inr rfl) (.inr rfl) (.inr rfl) (.inr rfl) (.inr rfl) (.inr rfl) (.inr rfl) (.inr rfl) (.inr rfl) (.inr rfl) (.inr rfl) (.inr rfl) (.inr rfl) (.inr rfl) (.inr rfl) (.inl (hp.bit (by decide))) (.inl (hp.bit (by decide))) (.inr rfl) (.inr rfl)
  assumption

theorem State.lightPorts_kept {m : Nat} {s0 : State} (hp : Sub 3221225696 m) {s : State} (hk : Kept m s0 s) : Kept m s0 (State.lightPorts s) := by
  unfold State.lightPorts
  extract_lets +onlyGivenNames x0
  extract_lets +onlyGivenNames x1
  extract_lets +onlyGivenNames x2
  have h3 : Kept m s0 x2 := by
    unfold x2
    refine State.relock_kept (Sub.trans (b := 3221225696) (by decide) hp) ?_
    refine State.lightTick_kept (Sub.trans (b := 3221225696) (by decide) hp) ?_
    refine Kept.upd_pins (hp.bit (by decide)) ?_
    assumption
  try (generalize x2 = y2 at h3 ⊢; try clear x2)
  refine Kept.forEach (fun z4 a5 h6 => ?_) ?_
  · refine State.sendMarker_kept (Sub.trans (b := 3221225696) (by decide) hp) ?_
    refine Kept.cond (fun _ => ?_) (fun _ => ?_)
    · assumption
    · refine State.enumFull_kept (Sub.trans (b := 3221225696) (by decide) hp) ?_
      assumption
  · assumption

theorem State.startFw_kept {m : Nat} {s0 : State} (hp : Sub 6597070422016 m) {s : State} (hk : Kept m s0 s) : Kept m s0 (State.startFw s) := by
  unfold State.startFw
  split
  · refine State.coreStart_kept hp ?_
    assumption
  · assumption

theorem State.stbyUp_kept {m : Nat} {s0 : State} (hp : Sub 6743116093440 m) {s : State} (hk : Kept m s0 s) : Kept m s0 (State.stbyUp s) := by
  unfold State.stbyUp
  extract_lets +onlyGivenNames x0
  have h1 : Kept m s0 x0 := by
    unfold x0
    refine Kept.cond (fun _ => ?_) (fun _ => ?_)
    · refine State.seqUp_kept (Sub.trans (b := 6743116093440) (by decide) hp) ?_
      assumption
    · assumption
  try (generalize x0 = y0 at h1 ⊢; try clear x0)
  refine State.raise_kept (Sub.trans (b := 6743116093440) (by decide) hp) ?_
  refine State.pf_kept' Reg.PWR_PKG_STAT_block (hp.bit (by decide)) ?_
  refine State.startFw_kept (Sub.trans (b := 6743116093440) (by decide) hp) ?_
  assumption

theorem State.lightEdge_kept {m : Nat} {s0 : State} (hp : Sub 562949810814718 m) {s : State} (hk : Kept m s0 s) : Kept m s0 (State.lightEdge s) := by
  unfold State.lightEdge
  split
  · assumption
  · refine State.hbSend_kept (Sub.trans (b := 562949810814718) (by decide) hp) ?_
    refine State.leEdge_kept (Sub.trans (b := 562949810814718) (by decide) hp) ?_
    refine State.edgeWork_kept hp ?_
    refine State.lightTick_kept (Sub.trans (b := 562949810814718) (by decide) hp) ?_
    assumption
  · refine State.hbSend_kept (Sub.trans (b := 562949810814718) (by decide) hp) ?_
    refine State.leEdge_kept (Sub.trans (b := 562949810814718) (by decide) hp) ?_
    refine State.unitsEdge_kept (Sub.trans (b := 562949810814718) (by decide) hp) ?_
    refine State.stbyUp_kept (Sub.trans (b := 562949810814718) (by decide) hp) ?_
    refine State.lightPorts_kept (Sub.trans (b := 562949810814718) (by decide) hp) ?_
    assumption

theorem execTickEdge_kept {m : Nat} {s0 : State} (hp : Sub 562949810814718 m) {err : BitVec 16} {x : EdgeIn} {s : State} (hk : Kept m s0 s) : OutKept m s0 (execTickEdge err x s) := by
  unfold execTickEdge
  refine OutKept.next ?_
  refine Kept.cond (fun _ => ?_) (fun _ => ?_)
  · assumption
  · refine Kept.cond (fun _ => ?_) (fun _ => ?_)
    · refine Kept.cond (fun _ => ?_) (fun _ => ?_)
      · refine State.lightEdge_kept hp ?_
        refine State.darkEdge_kept (Sub.trans (b := 562949810814718) (by decide) hp) ?_
        assumption
      · assumption
    · refine Kept.cond (fun _ => ?_) (fun _ => ?_)
      · assumption
      · extract_lets +onlyGivenNames x0
        have h1 : Kept m s0 x0 := by
          unfold x0
          refine State.hbSend_kept (Sub.trans (b := 562949810814718) (by decide) hp) ?_
          refine State.leEdge_kept (Sub.trans (b := 562949810814718) (by decide) hp) ?_
          refine State.edgeWork_kept hp ?_
          refine State.alignEdge_kept (Sub.trans (b := 562949810814718) (by decide) hp) ?_
          refine State.countEdge_kept (Sub.trans (b := 562949810814718) (by decide) hp) ?_
          refine State.closeTick_kept (Sub.trans (b := 562949810814718) (by decide) hp) ?_
          refine Kept.upd_copyEcc (hp.bit (by decide)) ?_
          assumption
        try (generalize x0 = y0 at h1 ⊢; try clear x0)
        refine Kept.upd_copyEcc (hp.bit (by decide)) ?_
        assumption

theorem execTickPllLockLoss_kept {m : Nat} {s0 : State} (hp : Sub 2337553384000 m) {s : State} (hk : Kept m s0 s) : OutKept m s0 (execTickPllLockLoss s) := by
  unfold execTickPllLockLoss
  refine OutKept.next ?_
  refine Kept.cond (fun _ => ?_) (fun _ => ?_)
  · assumption
  · extract_lets +onlyGivenNames x0
    have h1 : Kept m s0 x0 := by
      unfold x0
      refine State.pb_kept' Reg.TICK_STATUS_block (hp.bit (by decide)) ?_
      refine State.pb_kept' Reg.TICK_STATUS_block (hp.bit (by decide)) ?_
      assumption
    try (generalize x0 = y0 at h1 ⊢; try clear x0)
    extract_lets +onlyGivenNames x2
    have h3 : Kept m s0 x2 := by
      unfold x2
      refine State.pb_kept' Reg.TICK_STATUS_block (hp.bit (by decide)) ?_
      assumption
    try (generalize x2 = y2 at h3 ⊢; try clear x2)
    extract_lets +onlyGivenNames x4
    extract_lets +onlyGivenNames x5
    have h6 : Kept m s0 x5 := by
      unfold x5
      refine Kept.upd_pins (hp.bit (by decide)) ?_
      assumption
    try (generalize x5 = y5 at h6 ⊢; try clear x5)
    extract_lets +onlyGivenNames x7
    have h8 : Kept m s0 x7 := by
      unfold x7
      refine Kept.upd_le (hp.bit (by decide)) ?_
      assumption
    try (generalize x7 = y7 at h8 ⊢; try clear x7)
    refine State.raise_kept (Sub.trans (b := 2337553384000) (by decide) hp) ?_
    assumption

theorem execTickInLost_kept {m : Nat} {s0 : State} (hp : Sub 2337553448992 m) {s : State} (hk : Kept m s0 s) : OutKept m s0 (execTickInLost s) := by
  unfold execTickInLost
  refine OutKept.next ?_
  extract_lets +onlyGivenNames x0
  extract_lets +onlyGivenNames x1
  extract_lets +onlyGivenNames x2
  have h3 : Kept m s0 x2 := by
    unfold x2
    refine Kept.upd_tick (hp.bit (by decide)) ?_
    assumption
  try (generalize x2 = y2 at h3 ⊢; try clear x2)
  refine Kept.cond (fun _ => ?_) (fun _ => ?_)
  · extract_lets +onlyGivenNames x4
    have h5 : Kept m s0 x4 := by
      unfold x4
      refine State.pb_kept' Reg.TICK_STATUS_block (hp.bit (by decide)) ?_
      refine State.offTickIn_kept (Sub.trans (b := 2337553448992) (by decide) hp) ?_
      refine State.misalign_kept (Sub.trans (b := 2337553448992) (by decide) hp) ?_
      assumption
    try (generalize x4 = y4 at h5 ⊢; try clear x4)
    extract_lets +onlyGivenNames x6
    extract_lets +onlyGivenNames x7
    have h8 : Kept m s0 x7 := by
      unfold x7
      refine Kept.cond (fun _ => ?_) (fun _ => ?_)
      · refine Kept.upd_cmp (hp.bit (by decide)) ?_
        assumption
      · assumption
    try (generalize x7 = y7 at h8 ⊢; try clear x7)
    refine State.raise_kept (Sub.trans (b := 2337553448992) (by decide) hp) ?_
    assumption
  · refine Kept.cond (fun _ => ?_) (fun _ => ?_)
    · refine State.raise_kept (Sub.trans (b := 2337553448992) (by decide) hp) ?_
      refine State.pb_kept' Reg.TICK_STATUS_block (hp.bit (by decide)) ?_
      assumption
    · assumption

theorem execTickInReturn_kept {m : Nat} {s0 : State} (hp : Sub 1073741856 m) {s : State} (hk : Kept m s0 s) : OutKept m s0 (execTickInReturn s) := by
  unfold execTickInReturn
  refine OutKept.next ?_
  extract_lets +onlyGivenNames x0
  extract_lets +onlyGivenNames x1
  have h2 : Kept m s0 x1 := by
    unfold x1
    refine Kept.upd_tick (hp.bit (by decide)) ?_
    assumption
  try (generalize x1 = y1 at h2 ⊢; try clear x1)
  refine Kept.cond (fun _ => ?_) (fun _ => ?_)
  · refine State.relock_kept hp ?_
    assumption
  · assumption

theorem execRefclkLoss_kept {m : Nat} {s0 : State} (hp : Sub 32 m) {s : State} (hk : Kept m s0 s) : OutKept m s0 (execRefclkLoss s) := by
  unfold execRefclkLoss
  refine OutKept.next ?_
  refine Kept.upd_tick (hp.bit (by decide)) ?_
  assumption

theorem execRefclkReturn_kept {m : Nat} {s0 : State} (hp : Sub 32 m) {s : State} (hk : Kept m s0 s) : OutKept m s0 (execRefclkReturn s) := by
  unfold execRefclkReturn
  refine OutKept.next ?_
  refine Kept.upd_tick (hp.bit (by decide)) ?_
  assumption

theorem State.clock_kept {m : Nat} {s0 : State} (hp : Sub 32 m) {s : State} (hk : Kept m s0 s) : Kept m s0 (State.clock s) := by
  unfold State.clock
  extract_lets +onlyGivenNames x0
  refine Kept.cond (fun _ => ?_) (fun _ => ?_)
  · refine Kept.cond (fun _ => ?_) (fun _ => ?_)
    · refine Kept.upd_tick (hp.bit (by decide)) ?_
      assumption
    · assumption
  · refine Kept.cond (fun _ => ?_) (fun _ => ?_)
    · refine Kept.cond (fun _ => ?_) (fun _ => ?_)
      · assumption
      · refine Kept.upd_tick (hp.bit (by decide)) ?_
        assumption
    · assumption

end Sys2Proof.Machine
end

