-- ==== Sys2Proof/Laws/KeptBoot.lean ====
section
/-!
SUPPORT. What the definitions of Machine/Boot.lean keep: one lemma each.
-/
namespace Sys2Proof.Machine

theorem State.cutWrites_kept {m : Nat} {s0 : State} (hp : Sub 16 m) {s : State} (hk : Kept m s0 s) : Kept m s0 (State.cutWrites s) := by
  unfold State.cutWrites
  extract_lets +onlyGivenNames x0
  have h1 : Kept m s0 x0 := by
    unfold x0
    split
    · refine Kept.cond (fun _ => ?_) (fun _ => ?_)
      · refine Kept.upd_keep ⟨hp.bit (by decide), by first | exact KeepOk.same rfl rfl | exact KeepOk.setCtr (by first | exact Nat.le_succ _ | (apply Nat.le_of_lt; assumption)) | exact KeepOk.trans (KeepOk.setCtr (Nat.le_succ _)) (KeepOk.same rfl rfl)⟩ ?_
        assumption
      · assumption
    · assumption
  try (generalize x0 = y0 at h1 ⊢; try clear x0)
  extract_lets +onlyGivenNames x2
  have h3 : Kept m s0 x2 := by
    unfold x2
    refine State.tick1_kept (Sub.trans (b := 16) (by decide) hp) ?_
    assumption
  try (generalize x2 = y2 at h3 ⊢; try clear x2)
  extract_lets +onlyGivenNames x4
  extract_lets +onlyGivenNames x5
  have h6 : Kept m s0 x5 := by
    unfold x5
    split
    · refine Kept.cond (fun _ => ?_) (fun _ => ?_)
      · refine Kept.upd_keep ⟨hp.bit (by decide), by first | exact KeepOk.same rfl rfl | exact KeepOk.setCtr (by first | exact Nat.le_succ _ | (apply Nat.le_of_lt; assumption)) | exact KeepOk.trans (KeepOk.setCtr (Nat.le_succ _)) (KeepOk.same rfl rfl)⟩ ?_
        assumption
      · assumption
    · assumption
  try (generalize x5 = y5 at h6 ⊢; try clear x5)
  refine State.tick1_kept (Sub.trans (b := 16) (by decide) hp) ?_
  assumption

theorem State.porst_kept {m : Nat} {s0 : State} (hp : Sub 562949953421311 m) {s : State} {low : Bool} (hk : Kept m s0 s) : Kept m s0 (State.porst s low) := by
  have h1 : Kept m s0 s.cutWrites := State.cutWrites_kept (Sub.trans (b := 562949953421311) (by decide) hp) hk
  exact Kept.all hp h1 rfl (Nat.le_refl _) (fun _ => rfl) (KeepOk.same rfl rfl) CoreOk.nil MbxOk.nil

theorem dramOf_wf (cs : List (Nat × Byte)) : Memory.wf (dramOf cs) = true := by
  suffices h : ∀ (cs : List (Nat × Byte)) (m : List Host.Cell), Memory.wf m = true →
      Memory.wf (cs.foldl (fun m c => if c.1 < 0x4000000000 then memSet m c.1 c.2 else m) m) = true from h cs [] rfl
  intro cs
  induction cs with
  | nil => intro m h; exact h
  | cons c r ih =>
    intro m h
    simp only [List.foldl_cons]
    split
    · exact ih _ (memSet_wf c.1 c.2 (Nat.zero_le _) h)
    · exact ih m h

theorem State.deepOff_kept {m : Nat} {s0 : State} (hp : Sub 562949953421311 m) {s : State} (hk : Kept m s0 s) : Kept m s0 (State.deepOff s) :=
  Kept.all hp hk rfl (Nat.le_succ _) (fun _ => dramOf_wf _) (KeepOk.same rfl rfl) CoreOk.nil MbxOk.nil

theorem execPorstNAssert_kept {m : Nat} {s0 : State} (hp : Sub 562949953421311 m) {s : State} (hk : Kept m s0 s) : OutKept m s0 (execPorstNAssert s) := by
  unfold execPorstNAssert
  refine OutKept.next ?_
  refine Kept.cond (fun _ => ?_) (fun _ => ?_)
  · refine Kept.upd_pins (hp.bit (by decide)) ?_
    assumption
  · refine Kept.cond (fun _ => ?_) (fun _ => ?_)
    · assumption
    · refine State.porst_kept hp ?_
      assumption

theorem execSupplyOutOfRange_kept {m : Nat} {s0 : State} (hp : Sub 562949953421311 m) {_n : Supply} {s : State} (hk : Kept m s0 s) : OutKept m s0 (execSupplyOutOfRange _n s) := by
  unfold execSupplyOutOfRange
  refine OutKept.next ?_
  refine Kept.cond (fun _ => ?_) (fun _ => ?_)
  · assumption
  · refine State.porst_kept hp ?_
    assumption

theorem State.setBoot_kept {m : Nat} {s0 : State} (hp : Sub 16 m) {s : State} {b : Boot} (hk : Kept m s0 s) : Kept m s0 (State.setBoot s b) := by
  unfold State.setBoot
  refine Kept.upd_keep ⟨hp.bit (by decide), by first | exact KeepOk.same rfl rfl | exact KeepOk.setCtr (by first | exact Nat.le_succ _ | (apply Nat.le_of_lt; assumption)) | exact KeepOk.trans (KeepOk.setCtr (Nat.le_succ _)) (KeepOk.same rfl rfl)⟩ ?_
  assumption

theorem State.applyPkg_kept {m : Nat} {s0 : State} (hp : Sub 4399120252928 m) {s : State} (hk : Kept m s0 s) : Kept m s0 (State.applyPkg s) := by
  unfold State.applyPkg
  extract_lets +onlyGivenNames x0
  extract_lets +onlyGivenNames x1
  have h2 : Kept m s0 x1 := by
    unfold x1
    refine State.wr_kept' Reg.TICK_CTL_block (hp.bit (by decide)) ?_
    assumption
  try (generalize x1 = y1 at h2 ⊢; try clear x1)
  extract_lets +onlyGivenNames x3
  have h4 : Kept m s0 x3 := by
    unfold x3
    refine State.wr_kept' Reg.TICK_CFG_block (hp.bit (by decide)) ?_
    assumption
  try (generalize x3 = y3 at h4 ⊢; try clear x3)
  refine State.pb_kept' Reg.TICK_STATUS_block (hp.bit (by decide)) ?_
  refine State.pf_kept' Reg.TRC_CTL_block (hp.bit (by decide)) ?_
  assumption

theorem State.applyMem_kept {m : Nat} {s0 : State} (hp : Sub 281474976710656 m) {s : State} {trained : BitVec 4} (hk : Kept m s0 s) : Kept m s0 (State.applyMem s trained) := by
  unfold State.applyMem
  refine Kept.forEach (fun z0 a1 h2 => ?_) ?_
  · extract_lets +onlyGivenNames x3
    refine State.wr_kept' Reg.MC_STATUS_block (hp.bit (by decide)) ?_
    assumption
  · assumption

theorem State.applyPort_kept {m : Nat} {s0 : State} (hp : Sub 8724152320 m) {s : State} (hk : Kept m s0 s) : Kept m s0 (State.applyPort s) := by
  unfold State.applyPort
  extract_lets +onlyGivenNames x0
  extract_lets +onlyGivenNames x1
  have h2 : Kept m s0 x1 := by
    unfold x1
    refine Kept.upd_fans (hp.bit (by decide)) ?_
    assumption
  try (generalize x1 = y1 at h2 ⊢; try clear x1)
  refine Kept.forEach (fun z3 a4 h5 => ?_) ?_
  · refine State.pb_kept' Reg.HINT_CTL_block (hp.bit (by decide)) ?_
    assumption
  · assumption

theorem State.applyReg_kept {m : Nat} {s0 : State} (hp : Sub 6597606769152 m) {s : State} (hk : Kept m s0 s) : Kept m s0 (State.applyReg s) := by
  unfold State.applyReg
  refine Kept.forEach (fun z0 a1 h2 => ?_) ?_
  · extract_lets +onlyGivenNames x3
    extract_lets +onlyGivenNames x4
    have h5 : Kept m s0 x4 := by
      unfold x4
      refine State.regRegs_kept (Sub.trans (b := 6597606769152) (by decide) hp) ?_
      assumption
    try (generalize x4 = y4 at h5 ⊢; try clear x4)
    extract_lets +onlyGivenNames x6
    refine Kept.cond (fun _ => ?_) (fun _ => ?_)
    · refine State.regionOn_kept (Sub.trans (b := 6597606769152) (by decide) hp) ?_
      refine State.pf_kept' Reg.IMG_STATUS_block (hp.bit (by decide)) ?_
      assumption
    · refine Kept.forEach (fun z7 a8 h9 => ?_) ?_
      · refine State.setLe_kept (Sub.trans (b := 6597606769152) (by decide) hp) ?_
        assumption
      · assumption
  · assumption

theorem State.applyLoop_kept {m : Nat} {s0 : State} (hp : Sub 4294967810 m) {s : State} (hk : Kept m s0 s) : Kept m s0 (State.applyLoop s) := by
  unfold State.applyLoop
  refine Kept.forEach (fun z0 a1 h2 => ?_) ?_
  · extract_lets +onlyGivenNames x3
    refine State.bootMode_kept (Sub.trans (b := 4294967810) (by decide) hp) ?_
    refine State.useBank_kept (Sub.trans (b := 4294967810) (by decide) hp) ?_
    refine State.loadWindow_kept (Sub.trans (b := 4294967810) (by decide) hp) ?_
    refine State.loadData_kept (Sub.trans (b := 4294967810) (by decide) hp) ?_
    refine State.loadCode_kept (Sub.trans (b := 4294967810) (by decide) hp) ?_
    assumption
  · assumption

theorem State.applyRail_kept {m : Nat} {s0 : State} (hp : Sub 8589934592 m) {s : State} (hk : Kept m s0 s) : Kept m s0 (State.applyRail s) := by
  unfold State.applyRail
  refine Kept.forEach (fun z0 a1 h2 => ?_) ?_
  · refine State.pf_kept' Reg.RAIL_SETPT_block (hp.bit (by decide)) ?_
    assumption
  · assumption

theorem State.applyCmp_kept {m : Nat} {s0 : State} (hp : Sub 65600 m) {s : State} {netHeld : Bool} (hk : Kept m s0 s) : Kept m s0 (State.applyCmp s netHeld) := by
  unfold State.applyCmp
  extract_lets +onlyGivenNames x0
  refine Kept.upd ?_ rfl (Nat.le_refl _) (fun _ _ => rfl) (.inr rfl) (.inr rfl) (.inr rfl) (.inr rfl) (.inr rfl) (.inr rfl) (.inl (hp.bit (by decide))) (.inr rfl) (.inr rfl) (.inr rfl) (.inr rfl) (.inr rfl) (.inr rfl) (.inr rfl) (.inr rfl) (.inr rfl) (.inr rfl) (.inl (hp.bit (by decide))) (.inr rfl) (.inr rfl) (.inr rfl) (.inr rfl) (.inr rfl) (.inr rfl) (.inr rfl) (.inr rfl) (.inr rfl) (.inr rfl) (.inr rfl) (.inr rfl) (.inr rfl)
  assumption

theorem State.applyImage_kept {m : Nat} {s0 : State} (hp : Sub 499330369389146 m) {s : State} {b : BootMedia} (hk : Kept m s0 s) : Kept m s0 (State.applyImage s b) := by
  unfold State.applyImage
  extract_lets +onlyGivenNames x0
  have h1 : Kept m s0 x0 := by
    unfold x0
    refine Kept.upd_copyEcc (hp.bit (by decide)) ?_
    assumption
  try (generalize x0 = y0 at h1 ⊢; try clear x0)
  extract_lets +onlyGivenNames x2
  extract_lets +onlyGivenNames x3
  extract_lets +onlyGivenNames x4
  extract_lets +onlyGivenNames x5
  extract_lets +onlyGivenNames x6
  have h7 : Kept m s0 x6 := by
    unfold x6
    refine Kept.upd_img (hp.bit (by decide)) ?_
    assumption
  try (generalize x6 = y6 at h7 ⊢; try clear x6)
  extract_lets +onlyGivenNames x8
  have h9 : Kept m s0 x8 := by
    unfold x8
    refine State.applyMem_kept (Sub.trans (b := 499330369389146) (by decide) hp) ?_
    refine State.applyPkg_kept (Sub.trans (b := 499330369389146) (by decide) hp) ?_
    assumption
  try (generalize x8 = y8 at h9 ⊢; try clear x8)
  refine Kept.cond (fun _ => ?_) (fun _ => ?_)
  · extract_lets +onlyGivenNames x10
    have h11 : Kept m s0 x10 := by
      unfold x10
      refine State.setBoot_kept (Sub.trans (b := 499330369389146) (by decide) hp) ?_
      assumption
    try (generalize x10 = y10 at h11 ⊢; try clear x10)
    refine Kept.upd ?_ rfl (Nat.le_refl _) (fun _ _ => rfl) (.inr rfl) (.inr rfl) (.inr rfl) (.inl (hp.bit (by decide))) (.inr rfl) (.inr rfl) (.inl (hp.bit (by decide))) (.inr rfl) (.inr rfl) (.inr rfl) (.inl (hp.bit (by decide))) (.inr rfl) (.inr rfl) (.inr rfl) (.inr rfl) (.inr rfl) (.inr rfl) (.inr rfl) (.inr rfl) (.inr rfl) (.inr rfl) (.inr rfl) (.inr rfl) (.inr rfl) (.inr rfl) (.inr rfl) (.inr rfl) (.inr rfl) (.inr rfl) (.inr rfl) (.inr rfl)
    assumption
  · extract_lets +onlyGivenNames x12
    have h13 : Kept m s0 x12 := by
      unfold x12
      refine State.plGranules_kept (Sub.trans (b := 499330369389146) (by decide) hp) ?_
      refine State.applyReg_kept (Sub.trans (b := 499330369389146) (by decide) hp) ?_
      refine State.applyPort_kept (Sub.trans (b := 499330369389146) (by decide) hp) ?_
      assumption
    try (generalize x12 = y12 at h13 ⊢; try clear x12)
    extract_lets +onlyGivenNames x14
    have h15 : Kept m s0 x14 := by
      unfold x14
      refine State.applyCmp_kept (Sub.trans (b := 499330369389146) (by decide) hp) ?_
      refine State.applyRail_kept (Sub.trans (b := 499330369389146) (by decide) hp) ?_
      refine State.applyLoop_kept (Sub.trans (b := 499330369389146) (by decide) hp) ?_
      refine State.evdLoad_kept (Sub.trans (b := 499330369389146) (by decide) hp) ?_
      assumption
    try (generalize x14 = y14 at h15 ⊢; try clear x14)
    extract_lets +onlyGivenNames x16
    have h17 : Kept m s0 x16 := by
      unfold x16
      refine State.putHash_kept (Sub.trans (b := 499330369389146) (by decide) hp) (by rw [Reg.IMG_HASH_block]; exact hp.bit (by decide)) ?_
      refine State.wr_kept' Reg.IMG_ID_block (hp.bit (by decide)) ?_
      assumption
    try (generalize x16 = y16 at h17 ⊢; try clear x16)
    extract_lets +onlyGivenNames x18
    have h19 : Kept m s0 x18 := by
      unfold x18
      refine State.pf_kept' Reg.KEEP_STATUS_block (hp.bit (by decide)) ?_
      assumption
    try (generalize x18 = y18 at h19 ⊢; try clear x18)
    extract_lets +onlyGivenNames x20
    extract_lets +onlyGivenNames x21
    have h22 : Kept m s0 x21 := by
      unfold x21
      refine Kept.upd_img (hp.bit (by decide)) ?_
      assumption
    try (generalize x21 = y21 at h22 ⊢; try clear x21)
    extract_lets +onlyGivenNames x23
    have h24 : Kept m s0 x23 := by
      unfold x23
      refine State.mput_kept (Sub.trans (b := 499330369389146) (by decide) hp) ?_
      assumption
    try (generalize x23 = y23 at h24 ⊢; try clear x23)
    extract_lets +onlyGivenNames x25
    have h26 : Kept m s0 x25 := by
      unfold x25
      refine Kept.cond (fun _ => ?_) (fun _ => ?_)
      · refine State.raise_kept (Sub.trans (b := 499330369389146) (by decide) hp) ?_
        assumption
      · assumption
    try (generalize x25 = y25 at h26 ⊢; try clear x25)
    extract_lets +onlyGivenNames x27
    have h28 : Kept m s0 x27 := by
      unfold x27
      refine Kept.cond (fun _ => ?_) (fun _ => ?_)
      · assumption
      · refine State.raise_kept (Sub.trans (b := 499330369389146) (by decide) hp) ?_
        assumption
    try (generalize x27 = y27 at h28 ⊢; try clear x27)
    extract_lets +onlyGivenNames x29
    have h30 : Kept m s0 x29 := by
      unfold x29
      refine Kept.cond (fun _ => ?_) (fun _ => ?_)
      · refine State.exhaust_kept (Sub.trans (b := 499330369389146) (by decide) hp) ?_
        assumption
      · assumption
    try (generalize x29 = y29 at h30 ⊢; try clear x29)
    extract_lets +onlyGivenNames x31
    have h32 : Kept m s0 x31 := by
      unfold x31
      refine State.setBoot_kept (Sub.trans (b := 499330369389146) (by decide) hp) ?_
      refine State.startFw_kept (Sub.trans (b := 499330369389146) (by decide) hp) ?_
      assumption
    try (generalize x31 = y31 at h32 ⊢; try clear x31)
    refine Kept.upd_copyEcc (hp.bit (by decide)) ?_
    assumption

theorem State.awaitUart_kept {m : Nat} {s0 : State} (hp : Sub 80 m) {s : State} {b : Boot} (hk : Kept m s0 s) : Kept m s0 (State.awaitUart s b) := by
  unfold State.awaitUart
  extract_lets +onlyGivenNames x0
  have h1 : Kept m s0 x0 := by
    unfold x0
    refine State.setBoot_kept (Sub.trans (b := 80) (by decide) hp) ?_
    assumption
  try (generalize x0 = y0 at h1 ⊢; try clear x0)
  refine Kept.upd_pins (hp.bit (by decide)) ?_
  assumption

theorem State.objectsDone_kept {m : Nat} {s0 : State} (hp : Sub 499330369389146 m) {s : State} {b : BootMedia} (hk : Kept m s0 s) : Kept m s0 (State.objectsDone s b) := by
  unfold State.objectsDone
  extract_lets +onlyGivenNames x0
  extract_lets +onlyGivenNames x1
  have h2 : Kept m s0 x1 := by
    unfold x1
    refine Kept.cond (fun _ => ?_) (fun _ => ?_)
    · assumption
    · refine Kept.upd_pwr (hp.bit (by decide)) ?_
      assumption
  try (generalize x1 = y1 at h2 ⊢; try clear x1)
  refine Kept.cond (fun _ => ?_) (fun _ => ?_)
  · refine State.applyImage_kept hp ?_
    refine Kept.upd_pins (hp.bit (by decide)) ?_
    assumption
  · refine State.awaitUart_kept (Sub.trans (b := 499330369389146) (by decide) hp) ?_
    assumption

theorem State.tookImage_kept {m : Nat} {s0 : State} (hp : Sub 16777232 m) {s : State} {b : Bytes} (hk : Kept m s0 s) : Kept m s0 (State.tookImage s b) := by
  unfold State.tookImage
  extract_lets +onlyGivenNames x0
  have h1 : Kept m s0 x0 := by
    unfold x0
    refine State.measure_kept (Sub.trans (b := 16777232) (by decide) hp) ?_
    assumption
  try (generalize x0 = y0 at h1 ⊢; try clear x0)
  refine Kept.upd_pwr (hp.bit (by decide)) ?_
  assumption

theorem State.tookFw_kept {m : Nat} {s0 : State} (hp : Sub 16777232 m) {s : State} {b : Bytes} (hk : Kept m s0 s) : Kept m s0 (State.tookFw s b) := by
  unfold State.tookFw
  extract_lets +onlyGivenNames x0
  have h1 : Kept m s0 x0 := by
    unfold x0
    refine State.measure_kept (Sub.trans (b := 16777232) (by decide) hp) ?_
    assumption
  try (generalize x0 = y0 at h1 ⊢; try clear x0)
  refine Kept.upd_pwr (hp.bit (by decide)) ?_
  assumption

theorem State.runLoader_kept {m : Nat} {s0 : State} (hp : Sub 499330369389146 m) {s : State} {l : Bytes} {b : BootMedia} (hk : Kept m s0 s) : Kept m s0 (State.runLoader s l b) := by
  unfold State.runLoader
  extract_lets +onlyGivenNames x0
  have h1 : Kept m s0 x0 := by
    unfold x0
    refine State.romRun_kept (Sub.trans (b := 499330369389146) (by decide) hp) ?_
    assumption
  try (generalize x0 = y0 at h1 ⊢; try clear x0)
  extract_lets +onlyGivenNames x2
  have h3 : Kept m s0 x2 := by
    unfold x2
    split
    · refine State.tookImage_kept (Sub.trans (b := 499330369389146) (by decide) hp) ?_
      assumption
    · assumption
  try (generalize x2 = y2 at h3 ⊢; try clear x2)
  extract_lets +onlyGivenNames x4
  have h5 : Kept m s0 x4 := by
    unfold x4
    split
    · refine State.tookFw_kept (Sub.trans (b := 499330369389146) (by decide) hp) ?_
      assumption
    · assumption
  try (generalize x4 = y4 at h5 ⊢; try clear x4)
  refine State.objectsDone_kept hp ?_
  assumption

theorem State.bootRom_kept {m : Nat} {s0 : State} (hp : Sub 499330369389146 m) {s : State} {b : BootMedia} (hk : Kept m s0 s) : Kept m s0 (State.bootRom s b) := by
  unfold State.bootRom
  extract_lets +onlyGivenNames x0
  extract_lets +onlyGivenNames x1
  have h2 : Kept m s0 x1 := by
    unfold x1
    refine Kept.upd_keep ⟨hp.bit (by decide), by first | exact KeepOk.same rfl rfl | exact KeepOk.setCtr (by first | exact Nat.le_succ _ | (apply Nat.le_of_lt; assumption)) | exact KeepOk.trans (KeepOk.setCtr (Nat.le_succ _)) (KeepOk.same rfl rfl)⟩ ?_
    assumption
  try (generalize x1 = y1 at h2 ⊢; try clear x1)
  extract_lets +onlyGivenNames x3
  have h4 : Kept m s0 x3 := by
    unfold x3
    refine State.pb_kept' Reg.KEEP_STATUS_block (hp.bit (by decide)) ?_
    assumption
  try (generalize x3 = y3 at h4 ⊢; try clear x3)
  extract_lets +onlyGivenNames x5
  have h6 : Kept m s0 x5 := by
    unfold x5
    refine Kept.cond (fun _ => ?_) (fun _ => ?_)
    · refine State.pb_kept' Reg.KEEP_STATUS_block (hp.bit (by decide)) ?_
      assumption
    · assumption
  try (generalize x5 = y5 at h6 ⊢; try clear x5)
  extract_lets +onlyGivenNames x7
  extract_lets +onlyGivenNames x8
  have h9 : Kept m s0 x8 := by
    unfold x8
    refine Kept.upd_keep ⟨hp.bit (by decide), by first | exact KeepOk.same rfl rfl | exact KeepOk.setCtr (by first | exact Nat.le_succ _ | (apply Nat.le_of_lt; assumption)) | exact KeepOk.trans (KeepOk.setCtr (Nat.le_succ _)) (KeepOk.same rfl rfl)⟩ ?_
    assumption
  try (generalize x8 = y8 at h9 ⊢; try clear x8)
  extract_lets +onlyGivenNames x10
  have h11 : Kept m s0 x10 := by
    unfold x10
    refine State.mrExtend_kept (Sub.trans (b := 499330369389146) (by decide) hp) ?_
    assumption
  try (generalize x10 = y10 at h11 ⊢; try clear x10)
  split
  · refine State.runLoader_kept hp ?_
    refine State.pb_kept' Reg.KEEP_STATUS_block (hp.bit (by decide)) ?_
    assumption
  · refine State.awaitUart_kept (Sub.trans (b := 499330369389146) (by decide) hp) ?_
    assumption

theorem execPorstNRelease_kept {m : Nat} {s0 : State} (hp : Sub 499330369389146 m) {b : BootMedia} {s : State} (hk : Kept m s0 s) : OutKept m s0 (execPorstNRelease b s) := by
  unfold execPorstNRelease
  refine OutKept.next ?_
  refine Kept.cond (fun _ => ?_) (fun _ => ?_)
  · assumption
  · extract_lets +onlyGivenNames x0
    extract_lets +onlyGivenNames x1
    have h2 : Kept m s0 x1 := by
      unfold x1
      refine Kept.upd_pins (hp.bit (by decide)) ?_
      assumption
    try (generalize x1 = y1 at h2 ⊢; try clear x1)
    refine Kept.cond (fun _ => ?_) (fun _ => ?_)
    · refine State.setBoot_kept (Sub.trans (b := 499330369389146) (by decide) hp) ?_
      assumption
    · refine State.bootRom_kept hp ?_
      assumption

theorem State.uartObject_kept {m : Nat} {s0 : State} (hp : Sub 499330369389146 m) {s : State} {o : Bytes} {b : BootMedia} (hk : Kept m s0 s) : Kept m s0 (State.uartObject s o b) := by
  unfold State.uartObject
  extract_lets +onlyGivenNames x0
  unfold x0
  try clear x0
  split
  · refine Kept.cond (fun _ => ?_) (fun _ => ?_)
    · refine State.runLoader_kept hp ?_
      extract_lets +onlyGivenNames x1
      have h2 : Kept m s0 x1 := by
        unfold x1
        refine State.pb_kept' Reg.KEEP_STATUS_block (hp.bit (by decide)) ?_
        assumption
      try (generalize x1 = y1 at h2 ⊢; try clear x1)
      refine Kept.upd_pins (hp.bit (by decide)) ?_
      assumption
    · assumption
  · refine Kept.cond (fun _ => ?_) (fun _ => ?_)
    · refine State.objectsDone_kept hp ?_
      refine State.tookImage_kept (Sub.trans (b := 499330369389146) (by decide) hp) ?_
      refine State.pb_kept' Reg.KEEP_STATUS_block (hp.bit (by decide)) ?_
      assumption
    · refine Kept.cond (fun _ => ?_) (fun _ => ?_)
      · refine State.objectsDone_kept hp ?_
        refine State.tookFw_kept (Sub.trans (b := 499330369389146) (by decide) hp) ?_
        refine State.pb_kept' Reg.KEEP_STATUS_block (hp.bit (by decide)) ?_
        assumption
      · assumption
  · assumption

theorem execUartLoaderBlock_kept {m : Nat} {s0 : State} (hp : Sub 499330369389146 m) {blk : Bytes} {crc : W32} {f : BootFlash} {b : BootSite} {s : State} (hk : Kept m s0 s) : OutKept m s0 (execUartLoaderBlock blk crc f b s) := by
  unfold execUartLoaderBlock
  refine OutKept.cond (fun _ => ?_) (fun _ => ?_)
  · exact OutKept.fault
  · refine OutKept.next ?_
    refine Kept.cond (fun _ => ?_) (fun _ => ?_)
    · assumption
    · extract_lets +onlyGivenNames x0
      split
      · refine Kept.upd_keep ⟨hp.bit (by decide), by first | exact KeepOk.same rfl rfl | exact KeepOk.setCtr (by first | exact Nat.le_succ _ | (apply Nat.le_of_lt; assumption)) | exact KeepOk.trans (KeepOk.setCtr (Nat.le_succ _)) (KeepOk.same rfl rfl)⟩ ?_
        assumption
      · refine Kept.cond (fun _ => ?_) (fun _ => ?_)
        · refine State.uartObject_kept hp ?_
          refine Kept.upd_keep ⟨hp.bit (by decide), by first | exact KeepOk.same rfl rfl | exact KeepOk.setCtr (by first | exact Nat.le_succ _ | (apply Nat.le_of_lt; assumption)) | exact KeepOk.trans (KeepOk.setCtr (Nat.le_succ _)) (KeepOk.same rfl rfl)⟩ ?_
          assumption
        · refine Kept.upd_keep ⟨hp.bit (by decide), by first | exact KeepOk.same rfl rfl | exact KeepOk.setCtr (by first | exact Nat.le_succ _ | (apply Nat.le_of_lt; assumption)) | exact KeepOk.trans (KeepOk.setCtr (Nat.le_succ _)) (KeepOk.same rfl rfl)⟩ ?_
          assumption

theorem State.roleAtStart_kept {m : Nat} {s0 : State} (hp : Sub 65536 m) {s : State} (hk : Kept m s0 s) : Kept m s0 (State.roleAtStart s) := by
  unfold State.roleAtStart
  refine Kept.cond (fun _ => ?_) (fun _ => ?_)
  · refine Kept.upd_cmp (hp.bit (by decide)) ?_
    assumption
  · assumption

theorem execTickStart_kept {m : Nat} {s0 : State} (hp : Sub 562949474975478 m) {s : State} (hk : Kept m s0 s) : OutKept m s0 (execTickStart s) := by
  unfold execTickStart
  refine OutKept.next ?_
  refine Kept.cond (fun _ => ?_) (fun _ => ?_)
  · assumption
  · extract_lets +onlyGivenNames x0
    extract_lets +onlyGivenNames x1
    extract_lets +onlyGivenNames x2
    extract_lets +onlyGivenNames x3
    have h4 : Kept m s0 x3 := by
      unfold x3
      refine Kept.cond (fun _ => ?_) (fun _ => ?_)
      · refine State.countEdge_kept (Sub.trans (b := 562949474975478) (by decide) hp) ?_
        assumption
      · refine State.tick1_kept (Sub.trans (b := 562949474975478) (by decide) hp) ?_
        refine Kept.upd_tick (hp.bit (by decide)) ?_
        assumption
    try (generalize x3 = y3 at h4 ⊢; try clear x3)
    extract_lets +onlyGivenNames x5
    have h6 : Kept m s0 x5 := by
      unfold x5
      refine State.pb_kept' Reg.TICK_STATUS_block (hp.bit (by decide)) ?_
      refine State.pb_kept' Reg.IMG_STATUS_block (hp.bit (by decide)) ?_
      refine State.setBoot_kept (Sub.trans (b := 562949474975478) (by decide) hp) ?_
      assumption
    try (generalize x5 = y5 at h6 ⊢; try clear x5)
    extract_lets +onlyGivenNames x7
    have h8 : Kept m s0 x7 := by
      unfold x7
      refine State.lightPorts_kept (Sub.trans (b := 562949474975478) (by decide) hp) ?_
      refine State.roleAtStart_kept (Sub.trans (b := 562949474975478) (by decide) hp) ?_
      assumption
    try (generalize x7 = y7 at h8 ⊢; try clear x7)
    extract_lets +onlyGivenNames x9
    extract_lets +onlyGivenNames x10
    have h11 : Kept m s0 x10 := by
      unfold x10
      refine State.floorUp_kept (Sub.trans (b := 562949474975478) (by decide) hp) ?_
      refine State.floorUp_kept (Sub.trans (b := 562949474975478) (by decide) hp) ?_
      refine State.floorUp_kept (Sub.trans (b := 562949474975478) (by decide) hp) ?_
      assumption
    try (generalize x10 = y10 at h11 ⊢; try clear x10)
    extract_lets +onlyGivenNames x12
    have h13 : Kept m s0 x12 := by
      unfold x12
      refine Kept.cond (fun _ => ?_) (fun _ => ?_)
      · refine State.seqUp_kept (Sub.trans (b := 562949474975478) (by decide) hp) ?_
        assumption
      · assumption
    try (generalize x12 = y12 at h13 ⊢; try clear x12)
    extract_lets +onlyGivenNames x14
    have h15 : Kept m s0 x14 := by
      unfold x14
      refine Kept.cond (fun _ => ?_) (fun _ => ?_)
      · refine State.raise_kept (Sub.trans (b := 562949474975478) (by decide) hp) ?_
        refine State.pf_kept' Reg.PWR_PKG_STAT_block (hp.bit (by decide)) ?_
        assumption
      · assumption
    try (generalize x14 = y14 at h15 ⊢; try clear x14)
    refine State.hbSend_kept (Sub.trans (b := 562949474975478) (by decide) hp) ?_
    refine State.leEdge_kept (Sub.trans (b := 562949474975478) (by decide) hp) ?_
    refine State.unitsEdge_kept (Sub.trans (b := 562949474975478) (by decide) hp) ?_
    assumption

theorem State.sysReset_kept {m : Nat} {s0 : State} (hp : Sub 562949466514050 m) {s : State} (hk : Kept m s0 s) : Kept m s0 (State.sysReset s) := by
  unfold State.sysReset
  extract_lets +onlyGivenNames x0
  have h1 : Kept m s0 x0 := by
    unfold x0
    refine Kept.forEach (fun z2 a3 h4 => ?_) ?_
    · refine State.coreOff_kept (Sub.trans (b := 562949466514050) (by decide) hp) ?_
      refine State.dropLines_kept (Sub.trans (b := 562949466514050) (by decide) hp) ?_
      assumption
    · assumption
  try (generalize x0 = y0 at h1 ⊢; try clear x0)
  extract_lets +onlyGivenNames x5
  have h6 : Kept m s0 x5 := by
    unfold x5
    refine State.clearRegs_keptM hp (by decide +kernel) ?_
    assumption
  try (generalize x5 = y5 at h6 ⊢; try clear x5)
  extract_lets +onlyGivenNames x7
  extract_lets +onlyGivenNames x8
  have h9 : Kept m s0 x8 := by
    unfold x8
    refine Kept.upd ?_ rfl (Nat.le_refl _) (fun _ _ => rfl) (.inr rfl) (.inr rfl) (.inr rfl) (.inr rfl) (.inr rfl) (.inr rfl) (.inr rfl) (.inr rfl) (.inr rfl) (.inr rfl) (.inr rfl) (.inr rfl) (.inr rfl) (.inr rfl) (.inr rfl) (.inr rfl) (.inr rfl) (.inr rfl) (.inr rfl) (.inl (hp.bit (by decide))) (.inr rfl) (.inr rfl) (.inr rfl) (.inl (hp.bit (by decide))) (.inr rfl) (.inr rfl) (.inr rfl) (.inr rfl) (.inr rfl) (.inr rfl) (.inr rfl)
    assumption
  try (generalize x8 = y8 at h9 ⊢; try clear x8)
  extract_lets +onlyGivenNames x10
  have h11 : Kept m s0 x10 := by
    unfold x10
    refine Kept.forEach (fun z12 a13 h14 => ?_) ?_
    · refine State.mbxReset_kept (Sub.trans (b := 562949466514050) (by decide) hp) ?_
      assumption
    · assumption
  try (generalize x10 = y10 at h11 ⊢; try clear x10)
  extract_lets +onlyGivenNames x15
  have h16 : Kept m s0 x15 := by
    unfold x15
    refine Kept.forEach (fun z17 a18 h19 => ?_) ?_
    · refine State.unitReset1_kept (Sub.trans (b := 562949466514050) (by decide) hp) ?_
      assumption
    · assumption
  try (generalize x15 = y15 at h16 ⊢; try clear x15)
  refine State.evdLoad_kept (Sub.trans (b := 562949466514050) (by decide) hp) ?_
  refine State.stlResetAll_kept (Sub.trans (b := 562949466514050) (by decide) hp) ?_
  assumption

theorem execSysrstNAssert_kept {m : Nat} {s0 : State} (hp : Sub 562949483292362 m) {s : State} (hk : Kept m s0 s) : OutKept m s0 (execSysrstNAssert s) := by
  unfold execSysrstNAssert
  refine OutKept.next ?_
  extract_lets +onlyGivenNames x0
  extract_lets +onlyGivenNames x1
  have h2 : Kept m s0 x1 := by
    unfold x1
    refine Kept.upd_pins (hp.bit (by decide)) ?_
    assumption
  try (generalize x1 = y1 at h2 ⊢; try clear x1)
  refine Kept.cond (fun _ => ?_) (fun _ => ?_)
  · assumption
  · extract_lets +onlyGivenNames x3
    have h4 : Kept m s0 x3 := by
      unfold x3
      refine State.imgCancel_kept (Sub.trans (b := 562949483292362) (by decide) hp) ?_
      assumption
    try (generalize x3 = y3 at h4 ⊢; try clear x3)
    extract_lets +onlyGivenNames x5
    extract_lets +onlyGivenNames x6
    have h7 : Kept m s0 x6 := by
      unfold x6
      refine State.pb_kept' Reg.PWR_PKG_STAT_block (hp.bit (by decide)) ?_
      assumption
    try (generalize x6 = y6 at h7 ⊢; try clear x6)
    extract_lets +onlyGivenNames x8
    have h9 : Kept m s0 x8 := by
      unfold x8
      refine Kept.cond (fun _ => ?_) (fun _ => ?_)
      · refine Kept.upd_pwr (hp.bit (by decide)) ?_
        assumption
      · refine Kept.upd_pwr (hp.bit (by decide)) ?_
        assumption
    try (generalize x8 = y8 at h9 ⊢; try clear x8)
    refine State.sysReset_kept (Sub.trans (b := 562949483292362) (by decide) hp) ?_
    assumption

theorem execSysrstNRelease_kept {m : Nat} {s0 : State} (hp : Sub 562949617574618 m) {b : BootMedia} {s : State} (hk : Kept m s0 s) : OutKept m s0 (execSysrstNRelease b s) := by
  unfold execSysrstNRelease
  refine OutKept.next ?_
  refine Kept.cond (fun _ => ?_) (fun _ => ?_)
  · assumption
  · extract_lets +onlyGivenNames x0
    extract_lets +onlyGivenNames x1
    have h2 : Kept m s0 x1 := by
      unfold x1
      refine Kept.upd_pins (hp.bit (by decide)) ?_
      assumption
    try (generalize x1 = y1 at h2 ⊢; try clear x1)
    extract_lets +onlyGivenNames x3
    have h4 : Kept m s0 x3 := by
      unfold x3
      refine Kept.cond (fun _ => ?_) (fun _ => ?_)
      · refine State.sysReset_kept (Sub.trans (b := 562949617574618) (by decide) hp) ?_
        assumption
      · assumption
    try (generalize x3 = y3 at h4 ⊢; try clear x3)
    refine Kept.cond (fun _ => ?_) (fun _ => ?_)
    · assumption
    · split
      · refine State.bootRom_kept (Sub.trans (b := 562949617574618) (by decide) hp) ?_
        assumption
      · refine State.startFw_kept (Sub.trans (b := 562949617574618) (by decide) hp) ?_
        assumption
      · refine Kept.cond (fun _ => ?_) (fun _ => ?_)
        · refine State.startFw_kept (Sub.trans (b := 562949617574618) (by decide) hp) ?_
          assumption
        · assumption
      · assumption

theorem State.deepExit_kept {m : Nat} {s0 : State} (hp : Sub 562949953421311 m) {s : State} {b : BootMedia} (hk : Kept m s0 s) : Kept m s0 (State.deepExit s b) := by
  unfold State.deepExit
  refine State.bootRom_kept (Sub.trans (b := 562949953421311) (by decide) hp) ?_
  refine State.pf_kept' Reg.PWR_PKG_STAT_block (hp.bit (by decide)) ?_
  refine State.deepOff_kept hp ?_
  assumption

theorem State.restoreLe_kept {m : Nat} {s0 : State} (hp : Sub 4294967810 m) {s : State} {y : Standby} {j : Nat} (hk : Kept m s0 s) : Kept m s0 (State.restoreLe s y j) := by
  unfold State.restoreLe
  extract_lets +onlyGivenNames x0
  split
  · extract_lets +onlyGivenNames x1
    have h2 : Kept m s0 x1 := by
      unfold x1
      refine Kept.cond (fun _ => ?_) (fun _ => ?_)
      · refine State.mput_kept (Sub.trans (b := 4294967810) (by decide) hp) ?_
        assumption
      · assumption
    try (generalize x1 = y1 at h2 ⊢; try clear x1)
    extract_lets +onlyGivenNames x3
    extract_lets +onlyGivenNames x4
    have h5 : Kept m s0 x4 := by
      unfold x4
      refine State.setLe_kept (Sub.trans (b := 4294967810) (by decide) hp) ?_
      assumption
    try (generalize x4 = y4 at h5 ⊢; try clear x4)
    split
    · refine State.bootMode_kept (Sub.trans (b := 4294967810) (by decide) hp) ?_
      refine State.useBank_kept (Sub.trans (b := 4294967810) (by decide) hp) ?_
      refine State.loadWindow_kept (Sub.trans (b := 4294967810) (by decide) hp) ?_
      refine State.loadData_kept (Sub.trans (b := 4294967810) (by decide) hp) ?_
      assumption
    · refine State.bootMode_kept (Sub.trans (b := 4294967810) (by decide) hp) ?_
      refine State.useBank_kept (Sub.trans (b := 4294967810) (by decide) hp) ?_
      assumption

theorem State.stbyExit_kept {m : Nat} {s0 : State} (hp : Sub 562949474975402 m) {s : State} {y : Standby} {cp : CopyEcc} (hk : Kept m s0 s) : Kept m s0 (State.stbyExit s y cp) := by
  unfold State.stbyExit
  extract_lets +onlyGivenNames x0
  extract_lets +onlyGivenNames x1
  extract_lets +onlyGivenNames x2
  have h3 : Kept m s0 x2 := by
    unfold x2
    refine Kept.upd ?_ rfl (Nat.le_refl _) (fun _ _ => rfl) (.inr rfl) (.inr rfl) (.inr rfl) (.inl (hp.bit (by decide))) (.inr rfl) (.inr rfl) (.inr rfl) (.inr rfl) (.inr rfl) (.inr rfl) (.inl (hp.bit (by decide))) (.inr rfl) (.inr rfl) (.inr rfl) (.inr rfl) (.inr rfl) (.inr rfl) (.inr rfl) (.inr rfl) (.inr rfl) (.inr rfl) (.inr rfl) (.inr rfl) (.inr rfl) (.inr rfl) (.inr rfl) (.inl (hp.bit (by decide))) (.inr rfl) (.inr rfl) (.inr rfl) (.inr rfl)
    assumption
  try (generalize x2 = y2 at h3 ⊢; try clear x2)
  extract_lets +onlyGivenNames x4
  have h5 : Kept m s0 x4 := by
    unfold x4
    refine Kept.upd ?_ rfl (Nat.le_refl _) (fun _ _ => rfl) (.inl ⟨hp.bit (by decide), by first | exact fun h => h | exact memPut_wf _ _ | exact fun h => memFilter_wf _ h | exact fun _ => rfl⟩) (.inr rfl) (.inr rfl) (.inr rfl) (.inr rfl) (.inr rfl) (.inr rfl) (.inr rfl) (.inr rfl) (.inr rfl) (.inr rfl) (.inl (hp.bit (by decide))) (.inr rfl) (.inr rfl) (.inr rfl) (.inr rfl) (.inr rfl) (.inr rfl) (.inr rfl) (.inr rfl) (.inr rfl) (.inr rfl) (.inr rfl) (.inr rfl) (.inr rfl) (.inr rfl) (.inr rfl) (.inr rfl) (.inr rfl) (.inr rfl) (.inr rfl)
    assumption
  try (generalize x4 = y4 at h5 ⊢; try clear x4)
  extract_lets +onlyGivenNames x6
  have h7 : Kept m s0 x6 := by
    unfold x6
    refine State.clearRegs_keptM hp (by decide +kernel) ?_
    assumption
  try (generalize x6 = y6 at h7 ⊢; try clear x6)
  extract_lets +onlyGivenNames x8
  extract_lets +onlyGivenNames x9
  have h10 : Kept m s0 x9 := by
    unfold x9
    refine Kept.upd_dma (hp.bit (by decide)) ?_
    assumption
  try (generalize x9 = y9 at h10 ⊢; try clear x9)
  extract_lets +onlyGivenNames x11
  have h12 : Kept m s0 x11 := by
    unfold x11
    refine Kept.forEach (fun z13 a14 h15 => ?_) ?_
    · refine State.unitReset1_kept (Sub.trans (b := 562949474975402) (by decide) hp) ?_
      assumption
    · assumption
  try (generalize x11 = y11 at h12 ⊢; try clear x11)
  extract_lets +onlyGivenNames x16
  have h17 : Kept m s0 x16 := by
    unfold x16
    refine Kept.forEach (fun z18 a19 h20 => ?_) ?_
    · refine State.restoreLe_kept (Sub.trans (b := 562949474975402) (by decide) hp) ?_
      assumption
    · assumption
  try (generalize x16 = y16 at h17 ⊢; try clear x16)
  extract_lets +onlyGivenNames x21
  have h22 : Kept m s0 x21 := by
    unfold x21
    refine Kept.upd_copyEcc (hp.bit (by decide)) ?_
    assumption
  try (generalize x21 = y21 at h22 ⊢; try clear x21)
  extract_lets +onlyGivenNames x23
  have h24 : Kept m s0 x23 := by
    unfold x23
    refine Kept.forEach (fun z25 a26 h27 => ?_) ?_
    · refine State.regionOn_kept (Sub.trans (b := 562949474975402) (by decide) hp) ?_
      assumption
    · assumption
  try (generalize x23 = y23 at h24 ⊢; try clear x23)
  extract_lets +onlyGivenNames x28
  extract_lets +onlyGivenNames x29
  have h30 : Kept m s0 x29 := by
    unfold x29
    refine Kept.cond (fun _ => ?_) (fun _ => ?_)
    · refine Kept.upd_cmp (hp.bit (by decide)) ?_
      assumption
    · assumption
  try (generalize x29 = y29 at h30 ⊢; try clear x29)
  extract_lets +onlyGivenNames x31
  have h32 : Kept m s0 x31 := by
    unfold x31
    refine State.pf_kept' Reg.PWR_PKG_STAT_block (hp.bit (by decide)) ?_
    assumption
  try (generalize x31 = y31 at h32 ⊢; try clear x31)
  refine Kept.cond (fun _ => ?_) (fun _ => ?_)
  · refine State.stbyUp_kept (Sub.trans (b := 562949474975402) (by decide) hp) ?_
    assumption
  · refine Kept.upd_tick (hp.bit (by decide)) ?_
    assumption

theorem State.pkgExit_kept {m : Nat} {s0 : State} (hp : Sub 562949953421311 m) {s : State} {f : DramCopies} {m_ : BootMedia} (hk : Kept m s0 s) : Kept m s0 (State.pkgExit s f m_) := by
  unfold State.pkgExit
  split
  · refine Kept.cond (fun _ => ?_) (fun _ => ?_)
    · refine State.stbyExit_kept (Sub.trans (b := 562949953421311) (by decide) hp) ?_
      assumption
    · refine State.deepExit_kept hp ?_
      refine State.pb_kept' Reg.PWR_LAST_block (hp.bit (by decide)) ?_
      assumption
  · refine State.deepExit_kept hp ?_
    assumption

theorem State.wakeNack_kept {m : Nat} {s0 : State} (hp : Sub 33554432 m) {s : State} {w : WakeSrc} (hk : Kept m s0 s) : Kept m s0 (State.wakeNack s w) := by
  unfold State.wakeNack
  split
  · refine State.setXp_kept hp ?_
    assumption
  · assumption

theorem execPackageWake_kept {m : Nat} {s0 : State} (hp : Sub 562949953421311 m) {w : WakeSrc} {f : DramCopies} {m_ : BootMedia} {s : State} (hk : Kept m s0 s) : OutKept m s0 (execPackageWake w f m_ s) := by
  unfold execPackageWake
  refine OutKept.next ?_
  refine Kept.cond (fun _ => ?_) (fun _ => ?_)
  · assumption
  · split
    · refine Kept.cond (fun _ => ?_) (fun _ => ?_)
      · refine State.pkgExit_kept hp ?_
        assumption
      · assumption
    · assumption
    · refine Kept.cond (fun _ => ?_) (fun _ => ?_)
      · assumption
      · extract_lets +onlyGivenNames x0
        have h1 : Kept m s0 x0 := by
          unfold x0
          refine State.wakeNack_kept (Sub.trans (b := 562949953421311) (by decide) hp) ?_
          refine State.setB_kept' Reg.PWR_WAKE_CAUSE_block (hp.bit (by decide)) ?_
          assumption
        try (generalize x0 = y0 at h1 ⊢; try clear x0)
        refine Kept.cond (fun _ => ?_) (fun _ => ?_)
        · refine Kept.upd_pwr (hp.bit (by decide)) ?_
          assumption
        · refine State.pkgExit_kept hp ?_
          refine Kept.cond (fun _ => ?_) (fun _ => ?_)
          · refine State.pkgStep_kept (Sub.trans (b := 562949953421311) (by decide) hp) ?_
            assumption
          · assumption

theorem execVcoreOutOfRange_kept {m : Nat} {s0 : State} (hp : Sub 2336479641604 m) {r : Fin 4} {s : State} (hk : Kept m s0 s) : OutKept m s0 (execVcoreOutOfRange r s) := by
  unfold execVcoreOutOfRange
  refine OutKept.next ?_
  refine State.fenceRegion_kept hp ?_
  assumption

theorem State.fenceLe_kept {m : Nat} {s0 : State} (hp : Sub 2336479707652 m) {s : State} {j : Nat} (hk : Kept m s0 s) : Kept m s0 (State.fenceLe s j) := by
  unfold State.fenceLe
  extract_lets +onlyGivenNames x0
  extract_lets +onlyGivenNames x1
  extract_lets +onlyGivenNames x2
  extract_lets +onlyGivenNames x3
  have h4 : Kept m s0 x3 := by
    unfold x3
    refine Kept.cond (fun _ => ?_) (fun _ => ?_)
    · refine Kept.upd_cmp (hp.bit (by decide)) ?_
      assumption
    · assumption
  try (generalize x3 = y3 at h4 ⊢; try clear x3)
  extract_lets +onlyGivenNames x5
  have h6 : Kept m s0 x5 := by
    unfold x5
    refine State.setLe_kept (Sub.trans (b := 2336479707652) (by decide) hp) ?_
    assumption
  try (generalize x5 = y5 at h6 ⊢; try clear x5)
  refine State.raise_kept (Sub.trans (b := 2336479707652) (by decide) hp) ?_
  refine State.setUnit_kept (Sub.trans (b := 2336479707652) (by decide) hp) ?_
  assumption

theorem State.fenceUnit_kept {m : Nat} {s0 : State} (hp : Sub 2338627192324 m) {s : State} {kind : Nat} {idx : Nat} (hk : Kept m s0 s) : Kept m s0 (State.fenceUnit s kind idx) := by
  unfold State.fenceUnit
  refine Kept.cond (fun _ => ?_) (fun _ => ?_)
  · assumption
  · split
    · refine State.fenceCore_kept (Sub.trans (b := 2338627192324) (by decide) hp) ?_
      assumption
    · refine State.fenceLe_kept (Sub.trans (b := 2338627192324) (by decide) hp) ?_
      assumption
    · refine State.fenceLc_kept (Sub.trans (b := 2338627192324) (by decide) hp) ?_
      assumption
    · refine State.fenceRegion_kept (Sub.trans (b := 2338627192324) (by decide) hp) ?_
      assumption
    · refine State.fenceRegion_kept (Sub.trans (b := 2338627192324) (by decide) hp) ?_
      assumption
    · extract_lets +onlyGivenNames x0
      have h1 : Kept m s0 x0 := by
        unfold x0
        refine State.withdraw_kept (Sub.trans (b := 2338627192324) (by decide) hp) ?_
        refine State.setFence_kept (Sub.trans (b := 2338627192324) (by decide) hp) ?_
        assumption
      try (generalize x0 = y0 at h1 ⊢; try clear x0)
      split
      · refine State.raise_kept (Sub.trans (b := 2338627192324) (by decide) hp) ?_
        assumption
      · assumption

theorem execUncorrectableFault_kept {m : Nat} {s0 : State} (hp : Sub 2338627192324 m) {u : FaultUnit} {s : State} (hk : Kept m s0 s) : OutKept m s0 (execUncorrectableFault u s) := by
  unfold execUncorrectableFault
  refine OutKept.cond (fun _ => ?_) (fun _ => ?_)
  · exact OutKept.fault
  · refine OutKept.next ?_
    split
    · refine State.fenceUnit_kept hp ?_
      assumption
    · refine State.fenceCluster_kept (Sub.trans (b := 2338627192324) (by decide) hp) ?_
      assumption
    · refine State.fenceRegion_kept (Sub.trans (b := 2338627192324) (by decide) hp) ?_
      assumption
    · refine State.fenceLc_kept (Sub.trans (b := 2338627192324) (by decide) hp) ?_
      assumption

end Sys2Proof.Machine
end

