-- ==== Sys2Proof/Laws/KeptFabric.lean ====
section
/-!
SUPPORT. What the definitions of Machine/Fabric.lean keep: one lemma each.
-/
namespace Sys2Proof.Machine

theorem State.ctlRead_kept {m : Nat} {s0 : State} (hp : Sub 562949472813056 m) {s : State} {q : Req} {a : Nat} {n : Nat} (hk : Kept m s0 s) : Kept m s0 (State.ctlRead s q a n).1 := by
  unfold State.ctlRead
  refine Kept.cond1 (fun _ => ?_) (fun _ => ?_)
  · show Kept m s0 _
    assumption
  · split
    · show Kept m s0 _
      refine State.denied_kept (Sub.trans (b := 562949472813056) (by decide) hp) ?_
      assumption
    · show Kept m s0 _
      refine State.denied_kept (Sub.trans (b := 562949472813056) (by decide) hp) ?_
      assumption
    · extract_lets +onlyGivenNames x0
      have h1 : Kept m s0 x0.1 := by
        unfold x0
        refine State.ctlRd_kept hp ?_
        assumption
      try (generalize x0 = y0 at h1 ⊢; try clear x0)
      refine Kept.cond1 (fun _ => ?_) (fun _ => ?_)
      · show Kept m s0 _
        assumption
      · extract_lets +onlyGivenNames x2
        have h3 : Kept m s0 x2.1 := by
          unfold x2
          refine State.ctlRd_kept hp ?_
          assumption
        try (generalize x2 = y2 at h3 ⊢; try clear x2)
        show Kept m s0 _
        assumption

theorem State.ctlWrite_kept {m : Nat} {s0 : State} (hp : Sub 562949886312154 m) {s : State} {q : Req} {a : Nat} {b : Bytes} (hk : Kept m s0 s) : Kept m s0 (State.ctlWrite s q a b).1 := by
  unfold State.ctlWrite
  refine Kept.cond1 (fun _ => ?_) (fun _ => ?_)
  · show Kept m s0 _
    assumption
  · split
    · show Kept m s0 _
      refine State.denied_kept (Sub.trans (b := 562949886312154) (by decide) hp) ?_
      assumption
    · show Kept m s0 _
      refine State.denied_kept (Sub.trans (b := 562949886312154) (by decide) hp) ?_
      assumption
    · extract_lets +onlyGivenNames x0
      have h1 : Kept m s0 x0.1 := by
        unfold x0
        refine State.ctlWr_kept hp ?_
        assumption
      try (generalize x0 = y0 at h1 ⊢; try clear x0)
      refine Kept.cond1 (fun _ => ?_) (fun _ => ?_)
      · assumption
      · refine State.ctlWr_kept hp ?_
        assumption

theorem State.busRd_kept {m : Nat} {s0 : State} (hp : Sub 562949472813056 m) {s : State} {q : Req} {a : Nat} {n : Nat} (hk : Kept m s0 s) : Kept m s0 (State.busRd s q a n).1 := by
  unfold State.busRd
  split
  · refine State.ctlRead_kept hp ?_
    assumption
  · refine Kept.cond1 (fun _ => ?_) (fun _ => ?_)
    · show Kept m s0 _
      assumption
    · refine Kept.cond1 (fun _ => ?_) (fun _ => ?_)
      · show Kept m s0 _
        refine State.portTmo_kept (Sub.trans (b := 562949472813056) (by decide) hp) ?_
        assumption
      · refine Kept.cond1 (fun _ => ?_) (fun _ => ?_)
        · show Kept m s0 _
          refine State.portErr_kept (Sub.trans (b := 562949472813056) (by decide) hp) ?_
          refine State.tick1_kept (Sub.trans (b := 562949472813056) (by decide) hp) ?_
          assumption
        · show Kept m s0 _
          refine State.tick1_kept (Sub.trans (b := 562949472813056) (by decide) hp) ?_
          assumption
  · show Kept m s0 _
    assumption
  · refine Kept.cond1 (fun _ => ?_) (fun _ => ?_)
    · show Kept m s0 _
      refine State.tick1_kept (Sub.trans (b := 562949472813056) (by decide) hp) ?_
      assumption
    · show Kept m s0 _
      assumption
  · show Kept m s0 _
    assumption

theorem State.busWr_kept {m : Nat} {s0 : State} (hp : Sub 562949886312154 m) {s : State} {q : Req} {a : Nat} {b : Bytes} (hk : Kept m s0 s) : Kept m s0 (State.busWr s q a b).1 := by
  unfold State.busWr
  split
  · refine State.ctlWrite_kept hp ?_
    assumption
  · show Kept m s0 _
    assumption
  · show Kept m s0 _
    assumption
  · show Kept m s0 _
    assumption
  · refine State.memWr_kept (Sub.trans (b := 562949886312154) (by decide) hp) ?_
    assumption

end Sys2Proof.Machine
end

