-- ==== Sys2Proof/Laws/KeptStallRows.lean ====
section
/-!
SUPPORT. What the definitions of Machine/StallRows.lean keep: one lemma each.
-/
namespace Sys2Proof.Machine

theorem State.mapCmd_kept {m : Nat} {s0 : State} (hp : Sub 562949886312155 m) {s : State} {who : Req} {i : Nat} {o : Nat} {v : W32} (hk : Kept m s0 s) : Kept m s0 (State.mapCmd s who i o v) := by
  unfold State.mapCmd
  split
  · refine Kept.cond (fun _ => ?_) (fun _ => ?_)
    · refine State.regCmd_kept hp ?_
      assumption
    · assumption
  · assumption

theorem State.access1_kept {m : Nat} {s0 : State} (hp : Sub 562949886312155 m) {s : State} {q : Req} {a : Nat} {n : Nat} {w : Option W64} (hk : Kept m s0 s) : Kept m s0 (State.access1 s q a n w) := by
  unfold State.access1
  split
  · split
    · next e2 =>
        have h3 : Kept m s0 _ := Kept.fst e2 (by
            refine State.busRd_kept (Sub.trans (b := 562949886312155) (by decide) hp) ?_
            assumption
          )
        refine Kept.upd_reply (hp.bit (by decide)) ?_
        assumption
    · next e5 =>
        have h6 : Kept m s0 _ := Kept.fst e5 (by
            refine State.busRd_kept (Sub.trans (b := 562949886312155) (by decide) hp) ?_
            assumption
          )
        refine Kept.upd_reply (hp.bit (by decide)) ?_
        assumption
  · split
    · next e8 =>
        have h9 : Kept m s0 _ := Kept.fst e8 (by
            refine State.busWr_kept (Sub.trans (b := 562949886312155) (by decide) hp) ?_
            assumption
          )
        refine Kept.upd_reply (hp.bit (by decide)) ?_
        assumption
    · next e11 =>
        have h12 : Kept m s0 _ := Kept.fst e11 (by
            refine State.busWr_kept (Sub.trans (b := 562949886312155) (by decide) hp) ?_
            assumption
          )
        refine Kept.upd_reply (hp.bit (by decide)) ?_
        assumption

theorem execBind_kept {m : Nat} {s0 : State} (hp : Sub 562949886312155 m) {i : Fin 256} {who : Req} {v : W32} {s : State} (hk : Kept m s0 s) : OutKept m s0 (execBind i who v s) := by
  unfold execBind
  refine OutKept.next ?_
  refine State.regCmd_kept hp ?_
  assumption

theorem execQuiesce_kept {m : Nat} {s0 : State} (hp : Sub 562949886312155 m) {i : Fin 256} {who : Req} {v : W32} {s : State} (hk : Kept m s0 s) : OutKept m s0 (execQuiesce i who v s) := by
  unfold execQuiesce
  refine OutKept.next ?_
  refine State.regCmd_kept hp ?_
  assumption

theorem execStallResume_kept {m : Nat} {s0 : State} (hp : Sub 562949886312155 m) {i : Fin 256} {who : Req} {v : W32} {s : State} (hk : Kept m s0 s) : OutKept m s0 (execStallResume i who v s) := by
  unfold execStallResume
  refine OutKept.next ?_
  refine State.regCmd_kept hp ?_
  assumption

theorem execFreeze_kept {m : Nat} {s0 : State} (hp : Sub 562949886312155 m) {i : Fin 256} {who : Req} {v : W32} {s : State} (hk : Kept m s0 s) : OutKept m s0 (execFreeze i who v s) := by
  unfold execFreeze
  refine OutKept.next ?_
  refine State.regCmd_kept hp ?_
  assumption

theorem execThaw_kept {m : Nat} {s0 : State} (hp : Sub 562949886312155 m) {i : Fin 256} {who : Req} {v : W32} {s : State} (hk : Kept m s0 s) : OutKept m s0 (execThaw i who v s) := by
  unfold execThaw
  refine OutKept.next ?_
  refine State.regCmd_kept hp ?_
  assumption

theorem execSave_kept {m : Nat} {s0 : State} (hp : Sub 562949886312155 m) {i : Fin 256} {who : Req} {v : W32} {s : State} (hk : Kept m s0 s) : OutKept m s0 (execSave i who v s) := by
  unfold execSave
  refine OutKept.next ?_
  refine State.regCmd_kept hp ?_
  assumption

theorem execRestore_kept {m : Nat} {s0 : State} (hp : Sub 562949886312155 m) {i : Fin 256} {who : Req} {v : W32} {s : State} (hk : Kept m s0 s) : OutKept m s0 (execRestore i who v s) := by
  unfold execRestore
  refine OutKept.next ?_
  refine State.regCmd_kept hp ?_
  assumption

theorem execStallReset_kept {m : Nat} {s0 : State} (hp : Sub 562949886312155 m) {i : Fin 256} {who : Req} {v : W32} {s : State} (hk : Kept m s0 s) : OutKept m s0 (execStallReset i who v s) := by
  unfold execStallReset
  refine OutKept.next ?_
  refine State.regCmd_kept hp ?_
  assumption

theorem execRemove_kept {m : Nat} {s0 : State} (hp : Sub 562949886312155 m) {i : Fin 256} {who : Req} {v : W32} {s : State} (hk : Kept m s0 s) : OutKept m s0 (execRemove i who v s) := by
  unfold execRemove
  refine OutKept.next ?_
  refine State.regCmd_kept hp ?_
  assumption

theorem execStlBindWrite_kept {m : Nat} {s0 : State} (hp : Sub 562949886312155 m) {i : Fin 256} {who : Req} {v : W32} {s : State} (hk : Kept m s0 s) : OutKept m s0 (execStlBindWrite i who v s) := by
  unfold execStlBindWrite
  refine OutKept.next ?_
  refine State.regCmd_kept hp ?_
  assumption

theorem execStlMapWrite_kept {m : Nat} {s0 : State} (hp : Sub 562949886312155 m) {i : Fin 256} {o : BitVec 12} {who : Req} {v : W32} {s : State} (hk : Kept m s0 s) : OutKept m s0 (execStlMapWrite i o who v s) := by
  unfold execStlMapWrite
  refine OutKept.next ?_
  refine State.mapCmd_kept hp ?_
  assumption

theorem execRing_kept {m : Nat} {s0 : State} (hp : Sub 562949886312155 m) {i : Fin 256} {who : Req} {v : W32} {s : State} (hk : Kept m s0 s) : OutKept m s0 (execRing i who v s) := by
  unfold execRing
  refine OutKept.next ?_
  refine State.regCmd_kept hp ?_
  assumption

theorem execStlTEnSet_kept {m : Nat} {s0 : State} (hp : Sub 562949886312155 m) {i : Fin 256} {who : Req} {v : W32} {s : State} (hk : Kept m s0 s) : OutKept m s0 (execStlTEnSet i who v s) := by
  unfold execStlTEnSet
  refine OutKept.next ?_
  refine State.regCmd_kept hp ?_
  assumption

theorem execStlTEnClr_kept {m : Nat} {s0 : State} (hp : Sub 562949886312155 m) {i : Fin 256} {who : Req} {v : W32} {s : State} (hk : Kept m s0 s) : OutKept m s0 (execStlTEnClr i who v s) := by
  unfold execStlTEnClr
  refine OutKept.next ?_
  refine State.regCmd_kept hp ?_
  assumption

theorem execStlTPendClr_kept {m : Nat} {s0 : State} (hp : Sub 562949886312155 m) {i : Fin 256} {who : Req} {v : W32} {s : State} (hk : Kept m s0 s) : OutKept m s0 (execStlTPendClr i who v s) := by
  unfold execStlTPendClr
  refine OutKept.next ?_
  refine State.regCmd_kept hp ?_
  assumption

theorem execStlTBsnAlloc_kept {m : Nat} {s0 : State} (hp : Sub 562949472813057 m) {i : Fin 256} {who : Req} {s : State} (hk : Kept m s0 s) : OutKept m s0 (execStlTBsnAlloc i who s) := by
  unfold execStlTBsnAlloc
  refine OutKept.next ?_
  refine State.regGet_kept hp ?_
  assumption

theorem execStlTBsnFree_kept {m : Nat} {s0 : State} (hp : Sub 562949886312155 m) {i : Fin 256} {who : Req} {v : W32} {s : State} (hk : Kept m s0 s) : OutKept m s0 (execStlTBsnFree i who v s) := by
  unfold execStlTBsnFree
  refine OutKept.next ?_
  refine State.regCmd_kept hp ?_
  assumption

theorem execLvRead_kept {m : Nat} {s0 : State} (hp : Sub 562949886312155 m) {i : Fin 256} {who : Req} {v : W32} {s : State} (hk : Kept m s0 s) : OutKept m s0 (execLvRead i who v s) := by
  unfold execLvRead
  refine OutKept.next ?_
  refine State.regCmd_kept hp ?_
  assumption

theorem execSetthr_kept {m : Nat} {s0 : State} (hp : Sub 562949886312155 m) {i : Fin 256} {who : Req} {v : W32} {s : State} (hk : Kept m s0 s) : OutKept m s0 (execSetthr i who v s) := by
  unfold execSetthr
  refine OutKept.next ?_
  refine State.regCmd_kept hp ?_
  assumption

theorem execStallPageAccess_kept {m : Nat} {s0 : State} (hp : Sub 562949886312155 m) {i : Fin 256} {o : BitVec 12} {k : Fin 4} {who : Req} {w : Option W64} {s : State} (hk : Kept m s0 s) : OutKept m s0 (execStallPageAccess i o k who w s) := by
  unfold execStallPageAccess
  refine OutKept.next ?_
  refine State.access1_kept hp ?_
  assumption

end Sys2Proof.Machine
end

