-- ==== Sys2Proof/Laws/KeptDebugRows.lean ====
section
/-!
SUPPORT. What the definitions of Machine/DebugRows.lean keep: one lemma each.
-/
namespace Sys2Proof.Machine

theorem State.tsDue_kept {m : Nat} {s0 : State} (hp : Sub 6734794588160 m) {s : State} {n : Nat} (hk : Kept m s0 s) : Kept m s0 (State.tsDue s n) := by
  unfold State.tsDue
  refine Kept.cond (fun _ => ?_) (fun _ => ?_)
  · refine State.emitCore_kept hp ?_
    assumption
  · assumption

theorem State.fifoRoom_kept {m : Nat} {s0 : State} (hp : Sub 4398315077632 m) {s : State} {id : Nat} (hk : Kept m s0 s) : Kept m s0 (State.fifoRoom s id) := by
  unfold State.fifoRoom
  extract_lets +onlyGivenNames x0
  have h1 : Kept m s0 x0 := by
    unfold x0
    refine State.ovfTry_kept (Sub.trans (b := 4398315077632) (by decide) hp) ?_
    assumption
  try (generalize x0 = y0 at h1 ⊢; try clear x0)
  extract_lets +onlyGivenNames x2
  have h3 : Kept m s0 x2 := by
    unfold x2
    refine Kept.cond (fun _ => ?_) (fun _ => ?_)
    · refine Kept.forEach (fun z4 a5 h6 => ?_) ?_
      · refine State.release1_kept (Sub.trans (b := 4398315077632) (by decide) hp) ?_
        assumption
      · assumption
    · assumption
  try (generalize x2 = y2 at h3 ⊢; try clear x2)
  refine Kept.cond (fun _ => ?_) (fun _ => ?_)
  · refine State.haltWaits_kept (Sub.trans (b := 4398315077632) (by decide) hp) ?_
    assumption
  · assumption

theorem State.debugAccess_kept {m : Nat} {s0 : State} (hp : Sub 562949886312155 m) {s : State} {a : Nat} {n : Nat} {w : Option W64} (hk : Kept m s0 s) : Kept m s0 (State.debugAccess s a n w) := by
  unfold State.debugAccess
  refine Kept.cond (fun _ => ?_) (fun _ => ?_)
  · refine State.access1_kept hp ?_
    assumption
  · refine Kept.upd_reply (hp.bit (by decide)) ?_
    assumption

theorem State.regWriteRow_kept {m : Nat} {s0 : State} (hp : Sub 562949886312155 m) {s : State} {who : Req} {a : Nat} {v : W32} (hk : Kept m s0 s) : Kept m s0 (State.regWriteRow s who a v) := by
  unfold State.regWriteRow
  refine Kept.cond (fun _ => ?_) (fun _ => ?_)
  · refine State.access1_kept hp ?_
    assumption
  · refine Kept.upd_reply (hp.bit (by decide)) ?_
    assumption

theorem State.regReadRow_kept {m : Nat} {s0 : State} (hp : Sub 562949886312155 m) {s : State} {who : Req} {a : Nat} (hk : Kept m s0 s) : Kept m s0 (State.regReadRow s who a) := by
  unfold State.regReadRow
  refine Kept.cond (fun _ => ?_) (fun _ => ?_)
  · refine State.access1_kept hp ?_
    assumption
  · refine Kept.upd_reply (hp.bit (by decide)) ?_
    assumption

theorem execTs_kept {m : Nat} {s0 : State} (hp : Sub 6734794588160 m) {n : Fin 32} {s : State} (hk : Kept m s0 s) : OutKept m s0 (execTs n s) := by
  unfold execTs
  refine OutKept.next ?_
  refine State.tsDue_kept hp ?_
  assumption

theorem execTraceFifoRoom_kept {m : Nat} {s0 : State} (hp : Sub 4398315077632 m) {id : BitVec 16} {s : State} (hk : Kept m s0 s) : OutKept m s0 (execTraceFifoRoom id s) := by
  unfold execTraceFifoRoom
  refine OutKept.next ?_
  refine State.fifoRoom_kept hp ?_
  assumption

theorem execFunnelFrame_kept {m : Nat} {s0 : State} (hp : Sub 4398315339778 m) {id : BitVec 16} {s : State} (hk : Kept m s0 s) : OutKept m s0 (execFunnelFrame id s) := by
  unfold execFunnelFrame
  refine OutKept.next ?_
  refine State.funnel_kept hp ?_
  assumption

theorem execTrcCtlWrite_kept {m : Nat} {s0 : State} (hp : Sub 562949886312155 m) {who : Req} {v : W32} {s : State} (hk : Kept m s0 s) : OutKept m s0 (execTrcCtlWrite who v s) := by
  unfold execTrcCtlWrite
  refine OutKept.next ?_
  refine State.regCmd_kept hp ?_
  assumption

theorem execDebugAccess_kept {m : Nat} {s0 : State} (hp : Sub 562949886312155 m) {a : BitVec 48} {k : Fin 4} {w : Option W64} {s : State} (hk : Kept m s0 s) : OutKept m s0 (execDebugAccess a k w s) := by
  unfold execDebugAccess
  refine OutKept.next ?_
  refine State.debugAccess_kept hp ?_
  assumption

theorem execHalt_kept {m : Nat} {s0 : State} (hp : Sub 562949886312155 m) {n : Fin 32} {who : Req} {v : W32} {s : State} (hk : Kept m s0 s) : OutKept m s0 (execHalt n who v s) := by
  unfold execHalt
  refine OutKept.next ?_
  refine State.regCmd_kept hp ?_
  assumption

theorem execDbgResume_kept {m : Nat} {s0 : State} (hp : Sub 562949886312155 m) {n : Fin 32} {who : Req} {v : W32} {s : State} (hk : Kept m s0 s) : OutKept m s0 (execDbgResume n who v s) := by
  unfold execDbgResume
  refine OutKept.next ?_
  refine State.regCmd_kept hp ?_
  assumption

theorem execStep_kept {m : Nat} {s0 : State} (hp : Sub 562949886312155 m) {n : Fin 32} {who : Req} {v : W32} {s : State} (hk : Kept m s0 s) : OutKept m s0 (execStep n who v s) := by
  unfold execStep
  refine OutKept.next ?_
  refine State.regCmd_kept hp ?_
  assumption

theorem execDbgCoreDataWrite_kept {m : Nat} {s0 : State} (hp : Sub 562949886312155 m) {n : Fin 32} {hi : Bool} {who : Req} {v : W32} {s : State} (hk : Kept m s0 s) : OutKept m s0 (execDbgCoreDataWrite n hi who v s) := by
  unfold execDbgCoreDataWrite
  refine OutKept.next ?_
  refine State.regCmd_kept hp ?_
  assumption

theorem execStepEn_kept {m : Nat} {s0 : State} (hp : Sub 562949886312155 m) {j : Fin 36} {who : Req} {v : W32} {s : State} (hk : Kept m s0 s) : OutKept m s0 (execStepEn j who v s) := by
  unfold execStepEn
  refine OutKept.next ?_
  refine State.regCmd_kept hp ?_
  assumption

theorem execGo_kept {m : Nat} {s0 : State} (hp : Sub 562949886312155 m) {j : Fin 36} {who : Req} {v : W32} {s : State} (hk : Kept m s0 s) : OutKept m s0 (execGo j who v s) := by
  unfold execGo
  refine OutKept.next ?_
  refine State.regCmd_kept hp ?_
  assumption

theorem execDbgLeDataWrite_kept {m : Nat} {s0 : State} (hp : Sub 562949886312155 m) {j : Fin 36} {who : Req} {v : W32} {s : State} (hk : Kept m s0 s) : OutKept m s0 (execDbgLeDataWrite j who v s) := by
  unfold execDbgLeDataWrite
  refine OutKept.next ?_
  refine State.regCmd_kept hp ?_
  assumption

theorem execDebugUnlock_kept {m : Nat} {s0 : State} (hp : Sub 562949886312155 m) {who : Req} {v : W32} {s : State} (hk : Kept m s0 s) : OutKept m s0 (execDebugUnlock who v s) := by
  unfold execDebugUnlock
  refine OutKept.next ?_
  refine State.regCmd_kept hp ?_
  assumption

theorem execDebugLock_kept {m : Nat} {s0 : State} (hp : Sub 562949886312155 m) {who : Req} {v : W32} {s : State} (hk : Kept m s0 s) : OutKept m s0 (execDebugLock who v s) := by
  unfold execDebugLock
  refine OutKept.next ?_
  refine State.regCmd_kept hp ?_
  assumption

theorem execDebugBoot_kept {m : Nat} {s0 : State} (hp : Sub 562949886312155 m) {who : Req} {v : W32} {s : State} (hk : Kept m s0 s) : OutKept m s0 (execDebugBoot who v s) := by
  unfold execDebugBoot
  refine OutKept.next ?_
  refine State.regCmd_kept hp ?_
  assumption

theorem execRegisterWrite_kept {m : Nat} {s0 : State} (hp : Sub 562949886312155 m) {a : BitVec 48} {who : Req} {v : W32} {s : State} (hk : Kept m s0 s) : OutKept m s0 (execRegisterWrite a who v s) := by
  unfold execRegisterWrite
  refine OutKept.next ?_
  refine State.regWriteRow_kept hp ?_
  assumption

theorem execRegisterReadClear_kept {m : Nat} {s0 : State} (hp : Sub 562949886312155 m) {a : BitVec 48} {who : Req} {s : State} (hk : Kept m s0 s) : OutKept m s0 (execRegisterReadClear a who s) := by
  unfold execRegisterReadClear
  refine OutKept.next ?_
  refine State.regReadRow_kept hp ?_
  assumption

end Sys2Proof.Machine
end

