-- ==== Sys2Proof/Laws/KeptDmaRows.lean ====
section
/-!
SUPPORT. What the definitions of Machine/DmaRows.lean keep: one lemma each.
-/
namespace Sys2Proof.Machine

theorem execChStart_kept {m : Nat} {s0 : State} (hp : Sub 562949886312155 m) {e : Fin 4} {i : Fin 1024} {who : Req} {v : W32} {s : State} (hk : Kept m s0 s) : OutKept m s0 (execChStart e i who v s) := by
  unfold execChStart
  refine OutKept.next ?_
  refine State.regCmd_kept hp ?_
  assumption

theorem execChStop_kept {m : Nat} {s0 : State} (hp : Sub 562949886312155 m) {e : Fin 4} {i : Fin 1024} {who : Req} {v : W32} {s : State} (hk : Kept m s0 s) : OutKept m s0 (execChStop e i who v s) := by
  unfold execChStop
  refine OutKept.next ?_
  refine State.regCmd_kept hp ?_
  assumption

theorem execChPause_kept {m : Nat} {s0 : State} (hp : Sub 562949886312155 m) {e : Fin 4} {i : Fin 1024} {who : Req} {v : W32} {s : State} (hk : Kept m s0 s) : OutKept m s0 (execChPause e i who v s) := by
  unfold execChPause
  refine OutKept.next ?_
  refine State.regCmd_kept hp ?_
  assumption

theorem execChResume_kept {m : Nat} {s0 : State} (hp : Sub 562949886312155 m) {e : Fin 4} {i : Fin 1024} {who : Req} {v : W32} {s : State} (hk : Kept m s0 s) : OutKept m s0 (execChResume e i who v s) := by
  unfold execChResume
  refine OutKept.next ?_
  refine State.regCmd_kept hp ?_
  assumption

theorem execChClear_kept {m : Nat} {s0 : State} (hp : Sub 562949886312155 m) {e : Fin 4} {i : Fin 1024} {who : Req} {v : W32} {s : State} (hk : Kept m s0 s) : OutKept m s0 (execChClear e i who v s) := by
  unfold execChClear
  refine OutKept.next ?_
  refine State.regCmd_kept hp ?_
  assumption

theorem execChInv_kept {m : Nat} {s0 : State} (hp : Sub 562949886312155 m) {e : Fin 4} {i : Fin 1024} {who : Req} {v : W32} {s : State} (hk : Kept m s0 s) : OutKept m s0 (execChInv e i who v s) := by
  unfold execChInv
  refine OutKept.next ?_
  refine State.regCmd_kept hp ?_
  assumption

theorem execChOwnWrite_kept {m : Nat} {s0 : State} (hp : Sub 562949886312155 m) {e : Fin 4} {i : Fin 1024} {who : Req} {v : W32} {s : State} (hk : Kept m s0 s) : OutKept m s0 (execChOwnWrite e i who v s) := by
  unfold execChOwnWrite
  refine OutKept.next ?_
  refine State.regCmd_kept hp ?_
  assumption

theorem execBsnPoolAlloc_kept {m : Nat} {s0 : State} (hp : Sub 562949472813057 m) {p : Fin 64} {who : Req} {s : State} (hk : Kept m s0 s) : OutKept m s0 (execBsnPoolAlloc p who s) := by
  unfold execBsnPoolAlloc
  refine OutKept.next ?_
  refine State.regGet_kept hp ?_
  assumption

theorem execBsnFree_kept {m : Nat} {s0 : State} (hp : Sub 562949886312155 m) {who : Req} {v : W32} {s : State} (hk : Kept m s0 s) : OutKept m s0 (execBsnFree who v s) := by
  unfold execBsnFree
  refine OutKept.next ?_
  refine State.regCmd_kept hp ?_
  assumption

end Sys2Proof.Machine
end

