-- ==== Sys2Proof/Laws/KeptEventRows.lean ====
section
/-!
SUPPORT. What the definitions of Machine/EventRows.lean keep: one lemma each.
-/
namespace Sys2Proof.Machine

theorem execEvdAck_kept {m : Nat} {s0 : State} (hp : Sub 562949472813057 m) {who : Req} {s : State} (hk : Kept m s0 s) : OutKept m s0 (execEvdAck who s) := by
  unfold execEvdAck
  refine OutKept.next ?_
  refine State.regGet_kept hp ?_
  assumption

theorem execEvdEoi_kept {m : Nat} {s0 : State} (hp : Sub 562949886312155 m) {who : Req} {v : W32} {s : State} (hk : Kept m s0 s) : OutKept m s0 (execEvdEoi who v s) := by
  unfold execEvdEoi
  refine OutKept.next ?_
  refine State.regCmd_kept hp ?_
  assumption

theorem execEvdPmrWrite_kept {m : Nat} {s0 : State} (hp : Sub 562949886312155 m) {who : Req} {v : W32} {s : State} (hk : Kept m s0 s) : OutKept m s0 (execEvdPmrWrite who v s) := by
  unfold execEvdPmrWrite
  refine OutKept.next ?_
  refine State.regCmd_kept hp ?_
  assumption

theorem execEvdSwgen_kept {m : Nat} {s0 : State} (hp : Sub 562949886312155 m) {who : Req} {v : W32} {s : State} (hk : Kept m s0 s) : OutKept m s0 (execEvdSwgen who v s) := by
  unfold execEvdSwgen
  refine OutKept.next ?_
  refine State.regCmd_kept hp ?_
  assumption

theorem execEvdFallbackWrite_kept {m : Nat} {s0 : State} (hp : Sub 562949886312155 m) {who : Req} {v : W32} {s : State} (hk : Kept m s0 s) : OutKept m s0 (execEvdFallbackWrite who v s) := by
  unfold execEvdFallbackWrite
  refine OutKept.next ?_
  refine State.regCmd_kept hp ?_
  assumption

theorem execEvdEnSet_kept {m : Nat} {s0 : State} (hp : Sub 562949886312155 m) {k : Fin 64} {who : Req} {v : W32} {s : State} (hk : Kept m s0 s) : OutKept m s0 (execEvdEnSet k who v s) := by
  unfold execEvdEnSet
  refine OutKept.next ?_
  refine State.regCmd_kept hp ?_
  assumption

theorem execEvdEnClr_kept {m : Nat} {s0 : State} (hp : Sub 562949886312155 m) {k : Fin 64} {who : Req} {v : W32} {s : State} (hk : Kept m s0 s) : OutKept m s0 (execEvdEnClr k who v s) := by
  unfold execEvdEnClr
  refine OutKept.next ?_
  refine State.regCmd_kept hp ?_
  assumption

theorem execEvdPendSet_kept {m : Nat} {s0 : State} (hp : Sub 562949886312155 m) {k : Fin 64} {who : Req} {v : W32} {s : State} (hk : Kept m s0 s) : OutKept m s0 (execEvdPendSet k who v s) := by
  unfold execEvdPendSet
  refine OutKept.next ?_
  refine State.regCmd_kept hp ?_
  assumption

theorem execEvdPendClr_kept {m : Nat} {s0 : State} (hp : Sub 562949886312155 m) {k : Fin 64} {who : Req} {v : W32} {s : State} (hk : Kept m s0 s) : OutKept m s0 (execEvdPendClr k who v s) := by
  unfold execEvdPendClr
  refine OutKept.next ?_
  refine State.regCmd_kept hp ?_
  assumption

theorem execEvdSrcCfgWrite_kept {m : Nat} {s0 : State} (hp : Sub 562949886312155 m) {x : Fin 2048} {who : Req} {v : W32} {s : State} (hk : Kept m s0 s) : OutKept m s0 (execEvdSrcCfgWrite x who v s) := by
  unfold execEvdSrcCfgWrite
  refine OutKept.next ?_
  refine State.regCmd_kept hp ?_
  assumption

theorem execMbxTx_kept {m : Nat} {s0 : State} (hp : Sub 562949886312155 m) {m_ : Fin 128} {ba : Bool} {who : Req} {v : W32} {s : State} (hk : Kept m s0 s) : OutKept m s0 (execMbxTx m_ ba who v s) := by
  unfold execMbxTx
  refine OutKept.next ?_
  refine State.regCmd_kept hp ?_
  assumption

theorem execMbxRxData_kept {m : Nat} {s0 : State} (hp : Sub 562949472813057 m) {m_ : Fin 128} {ba : Bool} {who : Req} {s : State} (hk : Kept m s0 s) : OutKept m s0 (execMbxRxData m_ ba who s) := by
  unfold execMbxRxData
  refine OutKept.next ?_
  refine State.regGet_kept hp ?_
  assumption

theorem execMbxAckWrite_kept {m : Nat} {s0 : State} (hp : Sub 562949886312155 m) {m_ : Fin 128} {ba : Bool} {who : Req} {v : W32} {s : State} (hk : Kept m s0 s) : OutKept m s0 (execMbxAckWrite m_ ba who v s) := by
  unfold execMbxAckWrite
  refine OutKept.next ?_
  refine State.regCmd_kept hp ?_
  assumption

end Sys2Proof.Machine
end

