-- ==== Sys2Proof/Laws/KeptImageRows.lean ====
section
/-!
SUPPORT. What the definitions of Machine/ImageRows.lean keep: one lemma each.
-/
namespace Sys2Proof.Machine

theorem State.jobCmd_kept {m : Nat} {s0 : State} (hp : Sub 562949886312155 m) {s : State} {who : Req} {op : Nat} (hk : Kept m s0 s) : Kept m s0 (State.jobCmd s who op) := by
  unfold State.jobCmd
  refine Kept.cond (fun _ => ?_) (fun _ => ?_)
  · refine State.regCmd_kept hp ?_
    assumption
  · assumption

theorem execSubmit_kept {m : Nat} {s0 : State} (hp : Sub 562949886312155 m) {who : Req} {v : W32} {s : State} (hk : Kept m s0 s) : OutKept m s0 (execSubmit who v s) := by
  unfold execSubmit
  refine OutKept.next ?_
  refine State.regCmd_kept hp ?_
  assumption

theorem execCancel_kept {m : Nat} {s0 : State} (hp : Sub 562949886312155 m) {who : Req} {v : W32} {s : State} (hk : Kept m s0 s) : OutKept m s0 (execCancel who v s) := by
  unfold execCancel
  refine OutKept.next ?_
  refine State.regCmd_kept hp ?_
  assumption

theorem execKeepCntInc_kept {m : Nat} {s0 : State} (hp : Sub 562949886312155 m) {who : Req} {v : W32} {s : State} (hk : Kept m s0 s) : OutKept m s0 (execKeepCntInc who v s) := by
  unfold execKeepCntInc
  refine OutKept.next ?_
  refine State.regCmd_kept hp ?_
  assumption

theorem execLifecycleGo_kept {m : Nat} {s0 : State} (hp : Sub 562949886312155 m) {who : Req} {v : W32} {s : State} (hk : Kept m s0 s) : OutKept m s0 (execLifecycleGo who v s) := by
  unfold execLifecycleGo
  refine OutKept.next ?_
  refine State.regCmd_kept hp ?_
  assumption

theorem execKeepJobHash_kept {m : Nat} {s0 : State} (hp : Sub 562949886312155 m) {who : Req} {s : State} (hk : Kept m s0 s) : OutKept m s0 (execKeepJobHash who s) := by
  unfold execKeepJobHash
  refine OutKept.next ?_
  refine State.jobCmd_kept hp ?_
  assumption

theorem execKeepJobEcdsaVerify_kept {m : Nat} {s0 : State} (hp : Sub 562949886312155 m) {who : Req} {s : State} (hk : Kept m s0 s) : OutKept m s0 (execKeepJobEcdsaVerify who s) := by
  unfold execKeepJobEcdsaVerify
  refine OutKept.next ?_
  refine State.jobCmd_kept hp ?_
  assumption

theorem execKeepJobHssVerify_kept {m : Nat} {s0 : State} (hp : Sub 562949886312155 m) {who : Req} {s : State} (hk : Kept m s0 s) : OutKept m s0 (execKeepJobHssVerify who s) := by
  unfold execKeepJobHssVerify
  refine OutKept.next ?_
  refine State.jobCmd_kept hp ?_
  assumption

theorem execKeepJobEcdsaSign_kept {m : Nat} {s0 : State} (hp : Sub 562949886312155 m) {who : Req} {s : State} (hk : Kept m s0 s) : OutKept m s0 (execKeepJobEcdsaSign who s) := by
  unfold execKeepJobEcdsaSign
  refine OutKept.next ?_
  refine State.jobCmd_kept hp ?_
  assumption

theorem execKeepJobHssSign_kept {m : Nat} {s0 : State} (hp : Sub 562949886312155 m) {who : Req} {s : State} (hk : Kept m s0 s) : OutKept m s0 (execKeepJobHssSign who s) := by
  unfold execKeepJobHssSign
  refine OutKept.next ?_
  refine State.jobCmd_kept hp ?_
  assumption

theorem execKeepJobAesEncrypt_kept {m : Nat} {s0 : State} (hp : Sub 562949886312155 m) {who : Req} {s : State} (hk : Kept m s0 s) : OutKept m s0 (execKeepJobAesEncrypt who s) := by
  unfold execKeepJobAesEncrypt
  refine OutKept.next ?_
  refine State.jobCmd_kept hp ?_
  assumption

theorem execKeepJobAesDecrypt_kept {m : Nat} {s0 : State} (hp : Sub 562949886312155 m) {who : Req} {s : State} (hk : Kept m s0 s) : OutKept m s0 (execKeepJobAesDecrypt who s) := by
  unfold execKeepJobAesDecrypt
  refine OutKept.next ?_
  refine State.jobCmd_kept hp ?_
  assumption

theorem execKeepJobTrngFill_kept {m : Nat} {s0 : State} (hp : Sub 562949886312155 m) {who : Req} {s : State} (hk : Kept m s0 s) : OutKept m s0 (execKeepJobTrngFill who s) := by
  unfold execKeepJobTrngFill
  refine OutKept.next ?_
  refine State.jobCmd_kept hp ?_
  assumption

theorem execKeepJobMrExtend_kept {m : Nat} {s0 : State} (hp : Sub 562949886312155 m) {who : Req} {s : State} (hk : Kept m s0 s) : OutKept m s0 (execKeepJobMrExtend who s) := by
  unfold execKeepJobMrExtend
  refine OutKept.next ?_
  refine State.jobCmd_kept hp ?_
  assumption

end Sys2Proof.Machine
end

