-- ==== Sys2Proof/Laws/KeptLedgerRows.lean ====
section
/-!
SUPPORT. What the definitions of Machine/LedgerRows.lean keep: one lemma each.
-/
namespace Sys2Proof.Machine

theorem execLdgRead_kept {m : Nat} {s0 : State} (hp : Sub 562949886312155 m) {who : Req} {v : W32} {s : State} (hk : Kept m s0 s) : OutKept m s0 (execLdgRead who v s) := by
  unfold execLdgRead
  refine OutKept.next ?_
  refine State.regCmd_kept hp ?_
  assumption

theorem execLdgWrite_kept {m : Nat} {s0 : State} (hp : Sub 562949886312155 m) {who : Req} {v : W32} {s : State} (hk : Kept m s0 s) : OutKept m s0 (execLdgWrite who v s) := by
  unfold execLdgWrite
  refine OutKept.next ?_
  refine State.regCmd_kept hp ?_
  assumption

theorem execResetStats_kept {m : Nat} {s0 : State} (hp : Sub 562949886312155 m) {who : Req} {v : W32} {s : State} (hk : Kept m s0 s) : OutKept m s0 (execResetStats who v s) := by
  unfold execResetStats
  refine OutKept.next ?_
  refine State.regCmd_kept hp ?_
  assumption

theorem execPush_kept {m : Nat} {s0 : State} (hp : Sub 562949886312155 m) {who : Req} {v : W32} {s : State} (hk : Kept m s0 s) : OutKept m s0 (execPush who v s) := by
  unfold execPush
  refine OutKept.next ?_
  refine State.regCmd_kept hp ?_
  assumption

theorem execFlushOne_kept {m : Nat} {s0 : State} (hp : Sub 562949886312155 m) {who : Req} {v : W32} {s : State} (hk : Kept m s0 s) : OutKept m s0 (execFlushOne who v s) := by
  unfold execFlushOne
  refine OutKept.next ?_
  refine State.regCmd_kept hp ?_
  assumption

theorem execFlushAll_kept {m : Nat} {s0 : State} (hp : Sub 562949886312155 m) {who : Req} {v : W32} {s : State} (hk : Kept m s0 s) : OutKept m s0 (execFlushAll who v s) := by
  unfold execFlushAll
  refine OutKept.next ?_
  refine State.regCmd_kept hp ?_
  assumption

theorem execInvalAll_kept {m : Nat} {s0 : State} (hp : Sub 562949886312155 m) {who : Req} {v : W32} {s : State} (hk : Kept m s0 s) : OutKept m s0 (execInvalAll who v s) := by
  unfold execInvalAll
  refine OutKept.next ?_
  refine State.regCmd_kept hp ?_
  assumption

theorem execLeave_kept {m : Nat} {s0 : State} (hp : Sub 562949886312155 m) {who : Req} {v : W32} {s : State} (hk : Kept m s0 s) : OutKept m s0 (execLeave who v s) := by
  unfold execLeave
  refine OutKept.next ?_
  refine State.regCmd_kept hp ?_
  assumption

theorem execJoin_kept {m : Nat} {s0 : State} (hp : Sub 562949886312155 m) {who : Req} {v : W32} {s : State} (hk : Kept m s0 s) : OutKept m s0 (execJoin who v s) := by
  unfold execJoin
  refine OutKept.next ?_
  refine State.regCmd_kept hp ?_
  assumption

theorem execUnfence_kept {m : Nat} {s0 : State} (hp : Sub 562949886312155 m) {who : Req} {v : W32} {s : State} (hk : Kept m s0 s) : OutKept m s0 (execUnfence who v s) := by
  unfold execUnfence
  refine OutKept.next ?_
  refine State.regCmd_kept hp ?_
  assumption

theorem execFenceRel_kept {m : Nat} {s0 : State} (hp : Sub 562949886312155 m) {who : Req} {v : W32} {s : State} (hk : Kept m s0 s) : OutKept m s0 (execFenceRel who v s) := by
  unfold execFenceRel
  refine OutKept.next ?_
  refine State.regCmd_kept hp ?_
  assumption

theorem execFence_kept {m : Nat} {s0 : State} (hp : Sub 562949886312155 m) {who : Req} {v : W32} {s : State} (hk : Kept m s0 s) : OutKept m s0 (execFence who v s) := by
  unfold execFence
  refine OutKept.next ?_
  refine State.regCmd_kept hp ?_
  assumption

theorem execHandoff_kept {m : Nat} {s0 : State} (hp : Sub 562949886312155 m) {who : Req} {v : W32} {s : State} (hk : Kept m s0 s) : OutKept m s0 (execHandoff who v s) := by
  unfold execHandoff
  refine OutKept.next ?_
  refine State.regCmd_kept hp ?_
  assumption

theorem execMigSend_kept {m : Nat} {s0 : State} (hp : Sub 562949886312155 m) {who : Req} {v : W32} {s : State} (hk : Kept m s0 s) : OutKept m s0 (execMigSend who v s) := by
  unfold execMigSend
  refine OutKept.next ?_
  refine State.regCmd_kept hp ?_
  assumption

theorem execMigRxFree_kept {m : Nat} {s0 : State} (hp : Sub 562949886312155 m) {who : Req} {v : W32} {s : State} (hk : Kept m s0 s) : OutKept m s0 (execMigRxFree who v s) := by
  unfold execMigRxFree
  refine OutKept.next ?_
  refine State.regCmd_kept hp ?_
  assumption

end Sys2Proof.Machine
end

