-- ==== Sys2Proof/Laws/KeptLinkRows.lean ====
section
/-!
SUPPORT. What the definitions of Machine/LinkRows.lean keep: one lemma each.
-/
namespace Sys2Proof.Machine

theorem execDisable_kept {m : Nat} {s0 : State} (hp : Sub 562949886312155 m) {n : Fin 64} {who : Req} {v : W32} {s : State} (hk : Kept m s0 s) : OutKept m s0 (execDisable n who v s) := by
  unfold execDisable
  refine OutKept.next ?_
  refine State.regCmd_kept hp ?_
  assumption

theorem execReenable_kept {m : Nat} {s0 : State} (hp : Sub 562949886312155 m) {n : Fin 64} {who : Req} {v : W32} {s : State} (hk : Kept m s0 s) : OutKept m s0 (execReenable n who v s) := by
  unfold execReenable
  refine OutKept.next ?_
  refine State.regCmd_kept hp ?_
  assumption

theorem execEnumGo_kept {m : Nat} {s0 : State} (hp : Sub 562949886312155 m) {n : Fin 64} {who : Req} {v : W32} {s : State} (hk : Kept m s0 s) : OutKept m s0 (execEnumGo n who v s) := by
  unfold execEnumGo
  refine OutKept.next ?_
  refine State.regCmd_kept hp ?_
  assumption

theorem execEyeGo_kept {m : Nat} {s0 : State} (hp : Sub 562949886312155 m) {n : Fin 64} {who : Req} {v : W32} {s : State} (hk : Kept m s0 s) : OutKept m s0 (execEyeGo n who v s) := by
  unfold execEyeGo
  refine OutKept.next ?_
  refine State.regCmd_kept hp ?_
  assumption

theorem execReadmit_kept {m : Nat} {s0 : State} (hp : Sub 562949886312155 m) {n : Fin 64} {who : Req} {v : W32} {s : State} (hk : Kept m s0 s) : OutKept m s0 (execReadmit n who v s) := by
  unfold execReadmit
  refine OutKept.next ?_
  refine State.regCmd_kept hp ?_
  assumption

theorem execPlRegRead_kept {m : Nat} {s0 : State} (hp : Sub 562949886312155 m) {n : Fin 64} {who : Req} {v : W32} {s : State} (hk : Kept m s0 s) : OutKept m s0 (execPlRegRead n who v s) := by
  unfold execPlRegRead
  refine OutKept.next ?_
  refine State.regCmd_kept hp ?_
  assumption

theorem execPlRegWrite_kept {m : Nat} {s0 : State} (hp : Sub 562949886312155 m) {n : Fin 64} {who : Req} {v : W32} {s : State} (hk : Kept m s0 s) : OutKept m s0 (execPlRegWrite n who v s) := by
  unfold execPlRegWrite
  refine OutKept.next ?_
  refine State.regCmd_kept hp ?_
  assumption

theorem execTestInternalLoopback_kept {m : Nat} {s0 : State} (hp : Sub 562949886312155 m) {n : Fin 64} {who : Req} {v : W32} {s : State} (hk : Kept m s0 s) : OutKept m s0 (execTestInternalLoopback n who v s) := by
  unfold execTestInternalLoopback
  refine OutKept.next ?_
  refine State.regCmd_kept hp ?_
  assumption

theorem execTestDownstreamPrbs31_kept {m : Nat} {s0 : State} (hp : Sub 562949886312155 m) {n : Fin 64} {who : Req} {v : W32} {s : State} (hk : Kept m s0 s) : OutKept m s0 (execTestDownstreamPrbs31 n who v s) := by
  unfold execTestDownstreamPrbs31
  refine OutKept.next ?_
  refine State.regCmd_kept hp ?_
  assumption

theorem execTestUpstreamPrbs31_kept {m : Nat} {s0 : State} (hp : Sub 562949886312155 m) {n : Fin 64} {who : Req} {v : W32} {s : State} (hk : Kept m s0 s) : OutKept m s0 (execTestUpstreamPrbs31 n who v s) := by
  unfold execTestUpstreamPrbs31
  refine OutKept.next ?_
  refine State.regCmd_kept hp ?_
  assumption

theorem execTestStageLoopback_kept {m : Nat} {s0 : State} (hp : Sub 562949886312155 m) {n : Fin 64} {who : Req} {v : W32} {s : State} (hk : Kept m s0 s) : OutKept m s0 (execTestStageLoopback n who v s) := by
  unfold execTestStageLoopback
  refine OutKept.next ?_
  refine State.regCmd_kept hp ?_
  assumption

theorem execTestExit_kept {m : Nat} {s0 : State} (hp : Sub 562949886312155 m) {n : Fin 64} {who : Req} {v : W32} {s : State} (hk : Kept m s0 s) : OutKept m s0 (execTestExit n who v s) := by
  unfold execTestExit
  refine OutKept.next ?_
  refine State.regCmd_kept hp ?_
  assumption

theorem execInjectCrc_kept {m : Nat} {s0 : State} (hp : Sub 562949886312155 m) {n : Fin 64} {who : Req} {v : W32} {s : State} (hk : Kept m s0 s) : OutKept m s0 (execInjectCrc n who v s) := by
  unfold execInjectCrc
  refine OutKept.next ?_
  refine State.regCmd_kept hp ?_
  assumption

theorem execInjectSilentSlot_kept {m : Nat} {s0 : State} (hp : Sub 562949886312155 m) {n : Fin 64} {who : Req} {v : W32} {s : State} (hk : Kept m s0 s) : OutKept m s0 (execInjectSilentSlot n who v s) := by
  unfold execInjectSilentSlot
  refine OutKept.next ?_
  refine State.regCmd_kept hp ?_
  assumption

theorem execInjectSampleCrcFail_kept {m : Nat} {s0 : State} (hp : Sub 562949886312155 m) {n : Fin 64} {who : Req} {v : W32} {s : State} (hk : Kept m s0 s) : OutKept m s0 (execInjectSampleCrcFail n who v s) := by
  unfold execInjectSampleCrcFail
  refine OutKept.next ?_
  refine State.regCmd_kept hp ?_
  assumption

theorem execInjectQuietViolation_kept {m : Nat} {s0 : State} (hp : Sub 562949886312155 m) {n : Fin 64} {who : Req} {v : W32} {s : State} (hk : Kept m s0 s) : OutKept m s0 (execInjectQuietViolation n who v s) := by
  unfold execInjectQuietViolation
  refine OutKept.next ?_
  refine State.regCmd_kept hp ?_
  assumption

end Sys2Proof.Machine
end

