-- ==== Sys2Proof/Laws/KeptLoopRows.lean ====
section
/-!
SUPPORT. What the definitions of Machine/LoopRows.lean keep: one lemma each.
-/
namespace Sys2Proof.Machine

theorem execLcSpareRelease_kept {m : Nat} {s0 : State} (hp : Sub 562949886312155 m) {c : Fin 4} {who : Req} {v : W32} {s : State} (hk : Kept m s0 s) : OutKept m s0 (execLcSpareRelease c who v s) := by
  unfold execLcSpareRelease
  refine OutKept.next ?_
  refine State.regCmd_kept hp ?_
  assumption

theorem execRecRingResume_kept {m : Nat} {s0 : State} (hp : Sub 562949886312155 m) {c : Fin 4} {who : Req} {v : W32} {s : State} (hk : Kept m s0 s) : OutKept m s0 (execRecRingResume c who v s) := by
  unfold execRecRingResume
  refine OutKept.next ?_
  refine State.regCmd_kept hp ?_
  assumption

theorem execLcLeReset_kept {m : Nat} {s0 : State} (hp : Sub 562949886312155 m) {j : Fin 36} {who : Req} {v : W32} {s : State} (hk : Kept m s0 s) : OutKept m s0 (execLcLeReset j who v s) := by
  unfold execLcLeReset
  refine OutKept.next ?_
  refine State.regCmd_kept hp ?_
  assumption

theorem execLcLeFence_kept {m : Nat} {s0 : State} (hp : Sub 562949886312155 m) {j : Fin 36} {who : Req} {v : W32} {s : State} (hk : Kept m s0 s) : OutKept m s0 (execLcLeFence j who v s) := by
  unfold execLcLeFence
  refine OutKept.next ?_
  refine State.regCmd_kept hp ?_
  assumption

theorem execLcLeUnfence_kept {m : Nat} {s0 : State} (hp : Sub 562949886312155 m) {j : Fin 36} {who : Req} {v : W32} {s : State} (hk : Kept m s0 s) : OutKept m s0 (execLcLeUnfence j who v s) := by
  unfold execLcLeUnfence
  refine OutKept.next ?_
  refine State.regCmd_kept hp ?_
  assumption

end Sys2Proof.Machine
end

