-- ==== Sys2Proof/Laws/KeptP64Base.lean ====
section
/-!
SUPPORT. What the definitions of Machine/P64Base.lean keep: one lemma each.
-/
namespace Sys2Proof.Machine

theorem State.storeErr_kept {m : Nat} {s0 : State} (hp : Sub 2336479641600 m) {s : State} {n : Nat} {e : SbEnt} (hk : Kept m s0 s) : Kept m s0 (State.storeErr s n e) := by
  unfold State.storeErr
  extract_lets +onlyGivenNames x0
  refine Kept.cond (fun _ => ?_) (fun _ => ?_)
  · extract_lets +onlyGivenNames x1
    extract_lets +onlyGivenNames x2
    have h3 : Kept m s0 x2 := by
      unfold x2
      refine Kept.cond (fun _ => ?_) (fun _ => ?_)
      · assumption
      · first | refine State.setCor_keptOf (Sub.trans (b := 2336479641600) (by decide) hp) (by assumption) (fun h => h) ?_ | refine State.setCor_kept (Sub.trans (b := 2336479641600) (by decide) hp) (by first | exact fun h => h | exact fun _ => ⟨Nat.zero_le _, Nat.zero_le _, Nat.zero_le _⟩ | exact fun h => ⟨Nat.zero_le _, h.2⟩ | exact fun h => ⟨List.length_take_le _ _, h.2⟩ | (intro h; simp +zetaDelta only [Core.inCap] at h ⊢; exact h) | exact fun h => ⟨h.1, Nat.le_trans (List.length_filter_le _ _) h.2.1, Nat.le_trans (List.length_filter_le _ _) h.2.2⟩) ?_
        assumption
    try (generalize x2 = y2 at h3 ⊢; try clear x2)
    refine State.setSr_kept (Sub.trans (b := 2336479641600) (by decide) hp) ?_
    assumption
  · extract_lets +onlyGivenNames x4
    extract_lets +onlyGivenNames x5
    have h6 : Kept m s0 x5 := by
      unfold x5
      first | refine State.setCor_keptOf (Sub.trans (b := 2336479641600) (by decide) hp) (by assumption) (fun h => h) ?_ | refine State.setCor_kept (Sub.trans (b := 2336479641600) (by decide) hp) (by first | exact fun h => h | exact fun _ => ⟨Nat.zero_le _, Nat.zero_le _, Nat.zero_le _⟩ | exact fun h => ⟨Nat.zero_le _, h.2⟩ | exact fun h => ⟨List.length_take_le _ _, h.2⟩ | (intro h; simp +zetaDelta only [Core.inCap] at h ⊢; exact h) | exact fun h => ⟨h.1, Nat.le_trans (List.length_filter_le _ _) h.2.1, Nat.le_trans (List.length_filter_le _ _) h.2.2⟩) ?_
      assumption
    try (generalize x5 = y5 at h6 ⊢; try clear x5)
    extract_lets +onlyGivenNames x7
    have h8 : Kept m s0 x7 := by
      unfold x7
      refine State.setSr_kept (Sub.trans (b := 2336479641600) (by decide) hp) ?_
      assumption
    try (generalize x7 = y7 at h8 ⊢; try clear x7)
    extract_lets +onlyGivenNames x9
    have h10 : Kept m s0 x9 := by
      unfold x9
      refine State.setSr_kept (Sub.trans (b := 2336479641600) (by decide) hp) ?_
      assumption
    try (generalize x9 = y9 at h10 ⊢; try clear x9)
    refine State.raise_kept hp ?_
    refine State.pmu_kept hp ?_
    assumption

theorem State.bringLine_kept {m : Nat} {s0 : State} (hp : Sub 393216 m) {s : State} {n : Nat} {l : Nat} {count : State → Nat → State} (hfn_count : ∀ y0 y1, Kept m s0 y0 → Kept m s0 (count y0 y1)) (hk : Kept m s0 s) : Kept m s0 (State.bringLine s n l count) := by
  unfold State.bringLine
  refine Kept.cond (fun _ => ?_) (fun _ => ?_)
  · assumption
  · refine Kept.cond (fun _ => ?_) (fun _ => ?_)
    · first | refine State.setCor_keptOf (Sub.trans (b := 393216) (by decide) hp) (by assumption) (fun h => h) ?_ | refine State.setCor_kept (Sub.trans (b := 393216) (by decide) hp) (by first | exact fun h => h | exact fun _ => ⟨Nat.zero_le _, Nat.zero_le _, Nat.zero_le _⟩ | exact fun h => ⟨Nat.zero_le _, h.2⟩ | exact fun h => ⟨List.length_take_le _ _, h.2⟩ | (intro h; simp +zetaDelta only [Core.inCap] at h ⊢; exact h) | exact fun h => ⟨h.1, Nat.le_trans (List.length_filter_le _ _) h.2.1, Nat.le_trans (List.length_filter_le _ _) h.2.2⟩) ?_
      assumption
    · extract_lets +onlyGivenNames x0
      have h1 : Kept m s0 x0 := by
        unfold x0
        refine Kept.cond (fun _ => ?_) (fun _ => ?_)
        · assumption
        · refine hfn_count _ _ ?_
          assumption
      try (generalize x0 = y0 at h1 ⊢; try clear x0)
      refine State.l1dFill_kept hp ?_
      refine hfn_count _ _ ?_
      assumption

theorem State.dirty_kept {m : Nat} {s0 : State} (hp : Sub 2336479903744 m) {s : State} {n : Nat} {e : SbEnt} (hk : Kept m s0 s) : Kept m s0 (State.dirty s n e) := by
  unfold State.dirty
  refine Kept.cond (fun _ => ?_) (fun _ => ?_)
  · assumption
  · refine Kept.forEach (fun z0 a1 h2 => ?_) ?_
    · extract_lets +onlyGivenNames x3
      have h4 : Kept m s0 x3 := by
        unfold x3
        refine State.bringLine_kept (Sub.trans (b := 2336479903744) (by decide) hp) (fun a5 a6 h7 => ?_) ?_
        · refine State.pmu_kept (Sub.trans (b := 2336479903744) (by decide) hp) ?_
          assumption
        · assumption
      try (generalize x3 = y3 at h4 ⊢; try clear x3)
      refine Kept.cond (fun _ => ?_) (fun _ => ?_)
      · assumption
      · first | refine State.setCor_keptOf (Sub.trans (b := 2336479903744) (by decide) hp) (by assumption) (fun h => h) ?_ | refine State.setCor_kept (Sub.trans (b := 2336479903744) (by decide) hp) (by first | exact fun h => h | exact fun _ => ⟨Nat.zero_le _, Nat.zero_le _, Nat.zero_le _⟩ | exact fun h => ⟨Nat.zero_le _, h.2⟩ | exact fun h => ⟨List.length_take_le _ _, h.2⟩ | (intro h; simp +zetaDelta only [Core.inCap] at h ⊢; exact h) | exact fun h => ⟨h.1, Nat.le_trans (List.length_filter_le _ _) h.2.1, Nat.le_trans (List.length_filter_le _ _) h.2.2⟩) ?_
        assumption
    · assumption

theorem State.drainEnt_kept {m : Nat} {s0 : State} (hp : Sub 562949886312154 m) {s : State} {n : Nat} {e : SbEnt} (hk : Kept m s0 s) : Kept m s0 (State.drainEnt s n e) := by
  unfold State.drainEnt
  extract_lets +onlyGivenNames x0
  extract_lets +onlyGivenNames x1
  have h2 : Kept m s0 x1 := by
    unfold x1
    refine Kept.cond (fun _ => ?_) (fun _ => ?_)
    · refine State.dirty_kept (Sub.trans (b := 562949886312154) (by decide) hp) ?_
      assumption
    · assumption
  try (generalize x1 = y1 at h2 ⊢; try clear x1)
  split
  · next e5 =>
      have h6 : Kept m s0 _ := Kept.fst e5 (by
          refine State.busWr_kept hp ?_
          assumption
        )
      refine Kept.cond (fun _ => ?_) (fun _ => ?_)
      · assumption
      · refine State.storeErr_kept (Sub.trans (b := 562949886312154) (by decide) hp) ?_
        assumption

theorem State.drain1_kept {m : Nat} {s0 : State} (hp : Sub 562949886312154 m) {s : State} {n : Nat} (hk : Kept m s0 s) : Kept m s0 (State.drain1 s n) := by
  unfold State.drain1
  split
  · assumption
  · refine State.drainEnt_kept hp ?_
    first | refine State.setCor_keptOf (Sub.trans (b := 562949886312154) (by decide) hp) (by assumption) (fun h => h) ?_ | refine State.setCor_kept (Sub.trans (b := 562949886312154) (by decide) hp) (by first | exact fun h => h | exact fun _ => ⟨Nat.zero_le _, Nat.zero_le _, Nat.zero_le _⟩ | exact fun h => ⟨Nat.zero_le _, h.2⟩ | exact fun h => ⟨List.length_take_le _ _, h.2⟩ | (intro h; simp +zetaDelta only [Core.inCap] at h ⊢; exact h) | exact fun h => ⟨h.1, Nat.le_trans (List.length_filter_le _ _) h.2.1, Nat.le_trans (List.length_filter_le _ _) h.2.2⟩) ?_
    assumption

theorem State.drainK_kept {m : Nat} {s0 : State} (hp : Sub 562949886312154 m) {s : State} {n : Nat} {x2_ : Nat} (hk : Kept m s0 s) : Kept m s0 (State.drainK s n x2_) := by
  unfold State.drainK
  split
  · assumption
  · refine State.drainK_kept hp ?_
    refine State.drain1_kept hp ?_
    assumption

theorem State.drainAll_kept {m : Nat} {s0 : State} (hp : Sub 562949886312154 m) {s : State} {n : Nat} (hk : Kept m s0 s) : Kept m s0 (State.drainAll s n) := by
  unfold State.drainAll
  refine State.drainK_kept hp ?_
  assumption

theorem State.detSync_kept {m : Nat} {s0 : State} (hp : Sub 562949886312154 m) {s : State} {n : Nat} (hk : Kept m s0 s) : Kept m s0 (State.detSync s n) := by
  unfold State.detSync
  extract_lets +onlyGivenNames x0
  have h1 : Kept m s0 x0 := by
    unfold x0
    refine State.drainAll_kept hp ?_
    assumption
  try (generalize x0 = y0 at h1 ⊢; try clear x0)
  first | refine State.setCor_keptOf (Sub.trans (b := 562949886312154) (by decide) hp) (by assumption) (fun h => h) ?_ | refine State.setCor_kept (Sub.trans (b := 562949886312154) (by decide) hp) (by first | exact fun h => h | exact fun _ => ⟨Nat.zero_le _, Nat.zero_le _, Nat.zero_le _⟩ | exact fun h => ⟨Nat.zero_le _, h.2⟩ | exact fun h => ⟨List.length_take_le _ _, h.2⟩ | (intro h; simp +zetaDelta only [Core.inCap] at h ⊢; exact h) | exact fun h => ⟨h.1, Nat.le_trans (List.length_filter_le _ _) h.2.1, Nat.le_trans (List.length_filter_le _ _) h.2.2⟩) ?_
  assumption

theorem State.detApply_kept {m : Nat} {s0 : State} (hp : Sub 562949886312154 m) {s : State} {n : Nat} (hk : Kept m s0 s) : Kept m s0 (State.detApply s n) := by
  unfold State.detApply
  refine Kept.cond (fun _ => ?_) (fun _ => ?_)
  · refine State.detSync_kept hp ?_
    assumption
  · assumption

theorem State.drainFor_kept {m : Nat} {s0 : State} (hp : Sub 562949886312154 m) {s : State} {n : Nat} {p : SbEnt → Bool} (hk : Kept m s0 s) : Kept m s0 (State.drainFor s n p) := by
  unfold State.drainFor
  refine State.drainK_kept hp ?_
  assumption

theorem State.sbPush_kept {m : Nat} {s0 : State} (hp : Sub 562949886312154 m) {s : State} {n : Nat} {e : SbEnt} (hk : Kept m s0 s) : Kept m s0 (State.sbPush s n e) := by
  unfold State.sbPush
  extract_lets +onlyGivenNames x0
  have h1 : Kept m s0 x0 := by
    unfold x0
    refine Kept.cond (fun _ => ?_) (fun _ => ?_)
    · refine State.drain1_kept hp ?_
      assumption
    · assumption
  try (generalize x0 = y0 at h1 ⊢; try clear x0)
  first | refine State.setCor_keptOf (Sub.trans (b := 562949886312154) (by decide) hp) (by assumption) (fun h => h) ?_ | refine State.setCor_kept (Sub.trans (b := 562949886312154) (by decide) hp) (by first | exact fun h => h | exact fun _ => ⟨Nat.zero_le _, Nat.zero_le _, Nat.zero_le _⟩ | exact fun h => ⟨Nat.zero_le _, h.2⟩ | exact fun h => ⟨List.length_take_le _ _, h.2⟩ | (intro h; simp +zetaDelta only [Core.inCap] at h ⊢; exact h) | exact fun h => ⟨h.1, Nat.le_trans (List.length_filter_le _ _) h.2.1, Nat.le_trans (List.length_filter_le _ _) h.2.2⟩) ?_
  assumption

theorem State.orderFor_kept {m : Nat} {s0 : State} (hp : Sub 562949886312154 m) {s : State} {n : Nat} {ty : MemTy} (hk : Kept m s0 s) : Kept m s0 (State.orderFor s n ty) := by
  unfold State.orderFor
  refine Kept.cond (fun _ => ?_) (fun _ => ?_)
  · refine State.drainAll_kept hp ?_
    assumption
  · refine Kept.cond (fun _ => ?_) (fun _ => ?_)
    · refine State.drainFor_kept hp ?_
      assumption
    · refine State.drainFor_kept hp ?_
      assumption

theorem State.loaded_kept {m : Nat} {s0 : State} (hp : Sub 393216 m) {s : State} {n : Nat} {a : Nat} {ty : MemTy} (hk : Kept m s0 s) : Kept m s0 (State.loaded s n a ty) := by
  unfold State.loaded
  refine Kept.cond (fun _ => ?_) (fun _ => ?_)
  · refine State.bringLine_kept hp (fun a0 a1 h2 => ?_) ?_
    · refine State.note_kept (Sub.trans (b := 393216) (by decide) hp) ?_
      assumption
    · assumption
  · assumption

theorem State.coreRead_kept {m : Nat} {s0 : State} (hp : Sub 562949886312154 m) {s : State} {n : Nat} {q : Req} {a : Nat} {k : Nat} {ty : MemTy} (hk : Kept m s0 s) : Kept m s0 (State.coreRead s n q a k ty).1 := by
  unfold State.coreRead
  split
  · show Kept m s0 _
    assumption
  · split
    · next e1 =>
        have h2 : Kept m s0 _ := Kept.fst e1 (by
            refine State.busRd_kept (Sub.trans (b := 562949886312154) (by decide) hp) ?_
            refine State.drainFor_kept hp ?_
            assumption
          )
        show Kept m s0 _
        assumption
    · next e5 =>
        have h6 : Kept m s0 _ := Kept.fst e5 (by
            refine State.busRd_kept (Sub.trans (b := 562949886312154) (by decide) hp) ?_
            refine State.drainFor_kept hp ?_
            assumption
          )
        show Kept m s0 _
        refine State.loaded_kept (Sub.trans (b := 562949886312154) (by decide) hp) ?_
        assumption

end Sys2Proof.Machine
end

