-- ==== Sys2Proof/Laws/KeptP64Translate.lean ====
section
/-!
SUPPORT. What the definitions of Machine/P64Translate.lean keep: one lemma each.
-/
namespace Sys2Proof.Machine

theorem putCap_length {α : Type} {cap r : Nat} {l : List α} {x : α} (h : l.length ≤ cap) (hc : 0 < cap) : (putCap cap r l x).length ≤ cap := by
  unfold putCap
  split
  · next hl => exact hl
  · next hl =>
    have : r % max 1 l.length < l.length := Nat.lt_of_lt_of_le (Nat.mod_lt _ (by omega)) (by omega)
    simp only [List.length_cons, List.length_eraseIdx, this, if_true]
    omega

theorem State.syncFetch_kept {m : Nat} {s0 : State} (hp : Sub 131072 m) {s : State} {n : Nat} (hk : Kept m s0 s) : Kept m s0 (State.syncFetch s n) := by
  unfold State.syncFetch
  extract_lets +onlyGivenNames x0
  first | refine State.setCor_keptOf hp (by assumption) (fun h => h) ?_ | refine State.setCor_kept hp (by first | exact fun h => h | exact fun _ => ⟨Nat.zero_le _, Nat.zero_le _, Nat.zero_le _⟩ | exact fun h => ⟨Nat.zero_le _, h.2⟩ | exact fun h => ⟨List.length_take_le _ _, h.2⟩ | (intro h; simp +zetaDelta only [Core.inCap] at h ⊢; exact h) | exact fun h => ⟨h.1, Nat.le_trans (List.length_filter_le _ _) h.2.1, Nat.le_trans (List.length_filter_le _ _) h.2.2⟩) ?_
  assumption

theorem State.fillL1_kept {m : Nat} {s0 : State} (hp : Sub 131072 m) {s : State} {n : Nat} {a : Acc} {e : TlbEnt} (hk : Kept m s0 s) : Kept m s0 (State.fillL1 s n a e) := by
  unfold State.fillL1
  refine State.tick1_kept (Sub.trans (b := 131072) (by decide) hp) (State.setCor_kept (Sub.trans (b := 131072) (by decide) hp) (fun h => ?_) hk)
  split
  · exact ⟨h.1, putCap_length h.2.1 (by decide), h.2.2⟩
  · exact ⟨h.1, h.2.1, putCap_length h.2.2 (by decide)⟩

theorem State.fillL2_kept {m : Nat} {s0 : State} (hp : Sub 131072 m) {s : State} {n : Nat} {e : TlbEnt} {va : Nat} (hk : Kept m s0 s) : Kept m s0 (State.fillL2 s n e va) := by
  unfold State.fillL2
  extract_lets +onlyGivenNames x0
  split
  · assumption
  · extract_lets +onlyGivenNames x1
    extract_lets +onlyGivenNames x2
    refine State.tick1_kept (Sub.trans (b := 131072) (by decide) hp) ?_
    first | refine State.setCor_keptOf hp (by assumption) (fun h => h) ?_ | refine State.setCor_kept hp (by first | exact fun h => h | exact fun _ => ⟨Nat.zero_le _, Nat.zero_le _, Nat.zero_le _⟩ | exact fun h => ⟨Nat.zero_le _, h.2⟩ | exact fun h => ⟨List.length_take_le _ _, h.2⟩ | (intro h; simp +zetaDelta only [Core.inCap] at h ⊢; exact h) | exact fun h => ⟨h.1, Nat.le_trans (List.length_filter_le _ _) h.2.1, Nat.le_trans (List.length_filter_le _ _) h.2.2⟩) ?_
    assumption

theorem State.fillWc_kept {m : Nat} {s0 : State} (hp : Sub 131072 m) {s : State} {n : Nat} {ws : List WcEnt} (hk : Kept m s0 s) : Kept m s0 (State.fillWc s n ws) := by
  unfold State.fillWc
  refine Kept.forEach (fun z0 a1 h2 => ?_) ?_
  · refine State.tick1_kept (Sub.trans (b := 131072) (by decide) hp) ?_
    first | refine State.setCor_keptOf hp (by assumption) (fun h => h) ?_ | refine State.setCor_kept hp (by first | exact fun h => h | exact fun _ => ⟨Nat.zero_le _, Nat.zero_le _, Nat.zero_le _⟩ | exact fun h => ⟨Nat.zero_le _, h.2⟩ | exact fun h => ⟨List.length_take_le _ _, h.2⟩ | (intro h; simp +zetaDelta only [Core.inCap] at h ⊢; exact h) | exact fun h => ⟨h.1, Nat.le_trans (List.length_filter_le _ _) h.2.1, Nat.le_trans (List.length_filter_le _ _) h.2.2⟩) ?_
    assumption
  · assumption

theorem State.dropTlb_kept {m : Nat} {s0 : State} (hp : Sub 131072 m) {s : State} {n : Nat} {t : TCtx} {va : Nat} (hk : Kept m s0 s) : Kept m s0 (State.dropTlb s n t va) := by
  unfold State.dropTlb
  extract_lets +onlyGivenNames x0
  first | refine State.setCor_keptOf hp (by assumption) (fun h => h) ?_ | refine State.setCor_kept hp (by first | exact fun h => h | exact fun _ => ⟨Nat.zero_le _, Nat.zero_le _, Nat.zero_le _⟩ | exact fun h => ⟨Nat.zero_le _, h.2⟩ | exact fun h => ⟨List.length_take_le _ _, h.2⟩ | (intro h; simp +zetaDelta only [Core.inCap] at h ⊢; exact h) | exact fun h => ⟨h.1, Nat.le_trans (List.length_filter_le _ _) h.2.1, Nat.le_trans (List.length_filter_le _ _) h.2.2⟩) ?_
  assumption

theorem State.dropWc_kept {m : Nat} {s0 : State} (hp : Sub 131072 m) {s : State} {n : Nat} {t : TCtx} {va : Nat} {bs : List (Nat × Nat)} (hk : Kept m s0 s) : Kept m s0 (State.dropWc s n t va bs) := by
  unfold State.dropWc
  first | refine State.setCor_keptOf hp (by assumption) (fun h => h) ?_ | refine State.setCor_kept hp (by first | exact fun h => h | exact fun _ => ⟨Nat.zero_le _, Nat.zero_le _, Nat.zero_le _⟩ | exact fun h => ⟨Nat.zero_le _, h.2⟩ | exact fun h => ⟨List.length_take_le _ _, h.2⟩ | (intro h; simp +zetaDelta only [Core.inCap] at h ⊢; exact h) | exact fun h => ⟨h.1, Nat.le_trans (List.length_filter_le _ _) h.2.1, Nat.le_trans (List.length_filter_le _ _) h.2.2⟩) ?_
  assumption

theorem State.install_kept {m : Nat} {s0 : State} (hp : Sub 131072 m) {s : State} {n : Nat} {t : TCtx} {a : Acc} {va : Nat} {e : TlbEnt} {ws : List WcEnt} (hk : Kept m s0 s) : Kept m s0 (State.install s n t a va e ws) := by
  unfold State.install
  refine State.fillWc_kept hp ?_
  refine State.fillL2_kept hp ?_
  refine State.fillL1_kept hp ?_
  refine State.dropTlb_kept hp ?_
  assumption

theorem State.rewalk_kept {m : Nat} {s0 : State} (hp : Sub 131072 m) {s : State} {n : Nat} {u : Bool} {a : Acc} {t : TCtx} {va : Nat} (hk : Kept m s0 s) : Kept m s0 (State.rewalk s n u a t va).1 := by
  unfold State.rewalk
  extract_lets +onlyGivenNames x0
  have h1 : Kept m s0 x0 := by
    unfold x0
    refine State.note_kept hp ?_
    assumption
  try (generalize x0 = y0 at h1 ⊢; try clear x0)
  split
  · show Kept m s0 _
    assumption
  · show Kept m s0 _
    refine State.install_kept hp ?_
    refine State.dropWc_kept hp ?_
    assumption

theorem State.walk_kept {m : Nat} {s0 : State} (hp : Sub 131072 m) {s : State} {n : Nat} {u : Bool} {a : Acc} {t : TCtx} {va : Nat} (hk : Kept m s0 s) : Kept m s0 (State.walk s n u a t va).1 := by
  unfold State.walk
  split
  · refine State.rewalk_kept hp ?_
    refine State.note_kept hp ?_
    assumption
  · show Kept m s0 _
    refine State.install_kept hp ?_
    refine State.note_kept hp ?_
    assumption

theorem State.lookup_kept {m : Nat} {s0 : State} (hp : Sub 131072 m) {s : State} {n : Nat} {u : Bool} {a : Acc} {t : TCtx} {va : Nat} (hk : Kept m s0 s) : Kept m s0 (State.lookup s n u a t va).1 := by
  unfold State.lookup
  extract_lets +onlyGivenNames x0
  split
  · refine Kept.cond1 (fun _ => ?_) (fun _ => ?_)
    · show Kept m s0 _
      assumption
    · refine State.rewalk_kept hp ?_
      assumption
  · extract_lets +onlyGivenNames x1
    have h2 : Kept m s0 x1 := by
      unfold x1
      refine State.note_kept hp ?_
      assumption
    try (generalize x1 = y1 at h2 ⊢; try clear x1)
    split
    · show Kept m s0 _
      refine State.fillL1_kept hp ?_
      assumption
    · refine Kept.cond1 (fun _ => ?_) (fun _ => ?_)
      · refine State.rewalk_kept hp ?_
        assumption
      · refine State.walk_kept hp ?_
        assumption

theorem State.translate_kept {m : Nat} {s0 : State} (hp : Sub 131072 m) {s : State} {n : Nat} {l : Lvl} {a : Acc} {va : Nat} (hk : Kept m s0 s) : Kept m s0 (State.translate s n l a va).1 := by
  unfold State.translate
  extract_lets +onlyGivenNames x0
  refine Kept.cond1 (fun _ => ?_) (fun _ => ?_)
  · refine Kept.cond1 (fun _ => ?_) (fun _ => ?_)
    · show Kept m s0 _
      assumption
    · show Kept m s0 _
      assumption
  · refine Kept.cond1 (fun _ => ?_) (fun _ => ?_)
    · refine Kept.cond1 (fun _ => ?_) (fun _ => ?_)
      · show Kept m s0 _
        assumption
      · show Kept m s0 _
        assumption
    · split
      · next e3 =>
          have h4 : Kept m s0 _ := Kept.fst e3 (by
              refine State.lookup_kept hp ?_
              assumption
            )
          show Kept m s0 _
          assumption
      · next e7 =>
          have h9 : Kept m s0 _ := Kept.fst e7 (by
              refine State.lookup_kept hp ?_
              assumption
            )
          extract_lets +onlyGivenNames x8
          show Kept m s0 _
          assumption

theorem State.fetchTr_kept {m : Nat} {s0 : State} (hp : Sub 131072 m) {s : State} {n : Nat} (hk : Kept m s0 s) : Kept m s0 (State.fetchTr s n).1 := by
  unfold State.fetchTr
  extract_lets +onlyGivenNames x0
  extract_lets +onlyGivenNames x1
  extract_lets +onlyGivenNames x2
  extract_lets +onlyGivenNames x3
  unfold x3
  try clear x3
  refine Kept.cond1 (fun _ => ?_) (fun _ => ?_)
  · refine State.translate_kept hp ?_
    assumption
  · split
    · refine Kept.cond1 (fun _ => ?_) (fun _ => ?_)
      · show Kept m s0 _
        refine State.tick1_kept (Sub.trans (b := 131072) (by decide) hp) ?_
        assumption
      · refine State.translate_kept hp ?_
        first | refine State.setCor_keptOf hp (by assumption) (fun h => h) ?_ | refine State.setCor_kept hp (by first | exact fun h => h | exact fun _ => ⟨Nat.zero_le _, Nat.zero_le _, Nat.zero_le _⟩ | exact fun h => ⟨Nat.zero_le _, h.2⟩ | exact fun h => ⟨List.length_take_le _ _, h.2⟩ | (intro h; simp +zetaDelta only [Core.inCap] at h ⊢; exact h) | exact fun h => ⟨h.1, Nat.le_trans (List.length_filter_le _ _) h.2.1, Nat.le_trans (List.length_filter_le _ _) h.2.2⟩) ?_
        refine State.tick1_kept (Sub.trans (b := 131072) (by decide) hp) ?_
        assumption
    · refine State.translate_kept hp ?_
      first | refine State.setCor_keptOf hp (by assumption) (fun h => h) ?_ | refine State.setCor_kept hp (by first | exact fun h => h | exact fun _ => ⟨Nat.zero_le _, Nat.zero_le _, Nat.zero_le _⟩ | exact fun h => ⟨Nat.zero_le _, h.2⟩ | exact fun h => ⟨List.length_take_le _ _, h.2⟩ | (intro h; simp +zetaDelta only [Core.inCap] at h ⊢; exact h) | exact fun h => ⟨h.1, Nat.le_trans (List.length_filter_le _ _) h.2.1, Nat.le_trans (List.length_filter_le _ _) h.2.2⟩) ?_
      assumption

theorem State.keepTlb_kept {m : Nat} {s0 : State} (hp : Sub 131072 m) {s : State} {n : Nat} {p : TlbEnt → Bool} {w : WcEnt → Bool} (hk : Kept m s0 s) : Kept m s0 (State.keepTlb s n p w) := by
  unfold State.keepTlb
  extract_lets +onlyGivenNames x0
  first | refine State.setCor_keptOf hp (by assumption) (fun h => h) ?_ | refine State.setCor_kept hp (by first | exact fun h => h | exact fun _ => ⟨Nat.zero_le _, Nat.zero_le _, Nat.zero_le _⟩ | exact fun h => ⟨Nat.zero_le _, h.2⟩ | exact fun h => ⟨List.length_take_le _ _, h.2⟩ | (intro h; simp +zetaDelta only [Core.inCap] at h ⊢; exact h) | exact fun h => ⟨h.1, Nat.le_trans (List.length_filter_le _ _) h.2.1, Nat.le_trans (List.length_filter_le _ _) h.2.2⟩) ?_
  assumption

theorem State.tinvVa_kept {m : Nat} {s0 : State} (hp : Sub 131072 m) {s : State} {n : Nat} {va : Nat} {d : BitVec 16} (hk : Kept m s0 s) : Kept m s0 (State.tinvVa s n va d) := by
  unfold State.tinvVa
  refine State.keepTlb_kept hp ?_
  assumption

theorem State.tinvSid_kept {m : Nat} {s0 : State} (hp : Sub 131072 m) {s : State} {n : Nat} {d : BitVec 16} (hk : Kept m s0 s) : Kept m s0 (State.tinvSid s n d) := by
  unfold State.tinvSid
  refine State.keepTlb_kept hp ?_
  assumption

theorem State.tinvIpa_kept {m : Nat} {s0 : State} (hp : Sub 131072 m) {s : State} {n : Nat} {ia : Nat} (hk : Kept m s0 s) : Kept m s0 (State.tinvIpa s n ia) := by
  unfold State.tinvIpa
  refine State.keepTlb_kept hp ?_
  assumption

theorem State.tinvAll_kept {m : Nat} {s0 : State} (hp : Sub 131072 m) {s : State} {n : Nat} (hk : Kept m s0 s) : Kept m s0 (State.tinvAll s n) := by
  unfold State.tinvAll
  refine State.keepTlb_kept hp ?_
  assumption

end Sys2Proof.Machine
end

