-- ==== Sys2Proof/Laws/KeptP64Exc.lean ====
section
/-!
SUPPORT. What the definitions of Machine/P64Exc.lean keep: one lemma each.
-/
namespace Sys2Proof.Machine

theorem State.storeOut_kept {m : Nat} {s0 : State} (hp : Sub 562949886312154 m) {s : State} {n : Nat} {e : SbEnt} (hk : Kept m s0 s) : Kept m s0 (State.storeOut s n e) := by
  unfold State.storeOut
  refine Kept.cond (fun _ => ?_) (fun _ => ?_)
  · refine State.drainAll_kept hp ?_
    refine State.sbPush_kept hp ?_
    assumption
  · refine State.sbPush_kept hp ?_
    assumption

theorem State.frameTr_kept {m : Nat} {s0 : State} (hp : Sub 131072 m) {s : State} {n : Nat} {t : Nat} {acc : Acc} {a : W64} {x5_ : Nat} (hk : Kept m s0 s) : Kept m s0 (State.frameTr s n t acc a x5_).1 := by
  unfold State.frameTr
  split
  · show Kept m s0 _
    assumption
  · split
    · next e2 =>
        have h3 : Kept m s0 _ := Kept.fst e2 (by
            refine State.translate_kept hp ?_
            assumption
          )
        show Kept m s0 _
        assumption
    · next e7 =>
        have h16 : Kept m s0 _ := Kept.fst e7 (by
            refine State.translate_kept hp ?_
            assumption
          )
        split
        · next e10 =>
            have h11 : Kept m s0 _ := Kept.fst e10 (by
                refine State.frameTr_kept hp ?_
                assumption
              )
            show Kept m s0 _
            assumption
        · next e14 =>
            have h15 : Kept m s0 _ := Kept.fst e14 (by
                refine State.frameTr_kept hp ?_
                assumption
              )
            show Kept m s0 _
            assumption

theorem State.frameProbe_kept {m : Nat} {s0 : State} (hp : Sub 562949886312154 m) {s : State} {n : Nat} {t : Nat} {code : Nat} (hk : Kept m s0 s) : Kept m s0 (State.frameProbe s n t code).1 := by
  unfold State.frameProbe
  extract_lets +onlyGivenNames x0
  refine Kept.cond1 (fun _ => ?_) (fun _ => ?_)
  · show Kept m s0 _
    assumption
  · split
    · next e3 =>
        have h4 : Kept m s0 _ := Kept.fst e3 (by
            refine State.frameTr_kept (Sub.trans (b := 562949886312154) (by decide) hp) ?_
            assumption
          )
        show Kept m s0 _
        assumption
    · next e7 =>
        have h25 : Kept m s0 _ := Kept.fst e7 (by
            refine State.frameTr_kept (Sub.trans (b := 562949886312154) (by decide) hp) ?_
            assumption
          )
        extract_lets +onlyGivenNames x8
        split
        · next e11 =>
            have h12 : Kept m s0 _ := Kept.fst e11 (by
                refine State.translate_kept (Sub.trans (b := 562949886312154) (by decide) hp) ?_
                assumption
              )
            show Kept m s0 _
            assumption
        · next e16 =>
            have h24 : Kept m s0 _ := Kept.fst e16 (by
                refine State.translate_kept (Sub.trans (b := 562949886312154) (by decide) hp) ?_
                assumption
              )
            split
            · next e18 =>
                have h19 : Kept m s0 _ := Kept.fst e18 (by
                    refine State.coreRead_kept hp ?_
                    refine State.orderFor_kept hp ?_
                    assumption
                  )
                show Kept m s0 _
                assumption
            · next e22 =>
                have h23 : Kept m s0 _ := Kept.fst e22 (by
                    refine State.coreRead_kept hp ?_
                    refine State.orderFor_kept hp ?_
                    assumption
                  )
                show Kept m s0 _
                assumption

theorem State.pushFrame_kept {m : Nat} {s0 : State} (hp : Sub 562949886312154 m) {s : State} {n : Nat} {t : Nat} {x3_ : List ((Nat × MemTy) × W64)} (hk : Kept m s0 s) : Kept m s0 (State.pushFrame s n t x3_) := by
  unfold State.pushFrame
  split
  · assumption
  · refine State.pushFrame_kept hp ?_
    refine State.storeOut_kept hp ?_
    assumption

theorem State.enterAt_kept {m : Nat} {s0 : State} (hp : Sub 562949886312154 m) {s : State} {n : Nat} {t : Nat} {e : Exc} {sv : Saved} {frame : List (Nat × MemTy)} {vec : W64} (hk : Kept m s0 s) : Kept m s0 (State.enterAt s n t e sv frame vec) := by
  unfold State.enterAt
  extract_lets +onlyGivenNames x0
  extract_lets +onlyGivenNames x1
  extract_lets +onlyGivenNames x2
  extract_lets +onlyGivenNames x3
  have h4 : Kept m s0 x3 := by
    unfold x3
    refine State.pushFrame_kept hp ?_
    assumption
  try (generalize x3 = y3 at h4 ⊢; try clear x3)
  extract_lets +onlyGivenNames x5
  have h6 : Kept m s0 x5 := by
    unfold x5
    refine State.setSp_kept (Sub.trans (b := 562949886312154) (by decide) hp) ?_
    assumption
  try (generalize x5 = y5 at h6 ⊢; try clear x5)
  extract_lets +onlyGivenNames x7
  have h8 : Kept m s0 x7 := by
    unfold x7
    refine State.setSr_kept (Sub.trans (b := 562949886312154) (by decide) hp) ?_
    refine State.setSr_kept (Sub.trans (b := 562949886312154) (by decide) hp) ?_
    refine State.setSr_kept (Sub.trans (b := 562949886312154) (by decide) hp) ?_
    assumption
  try (generalize x7 = y7 at h8 ⊢; try clear x7)
  extract_lets +onlyGivenNames x9
  have h10 : Kept m s0 x9 := by
    unfold x9
    refine State.pmu_kept (Sub.trans (b := 562949886312154) (by decide) hp) ?_
    assumption
  try (generalize x9 = y9 at h10 ⊢; try clear x9)
  extract_lets +onlyGivenNames x11
  have h12 : Kept m s0 x11 := by
    unfold x11
    refine State.setSr_kept (Sub.trans (b := 562949886312154) (by decide) hp) ?_
    assumption
  try (generalize x11 = y11 at h12 ⊢; try clear x11)
  extract_lets +onlyGivenNames x13
  have h14 : Kept m s0 x13 := by
    unfold x13
    refine State.setSr_kept (Sub.trans (b := 562949886312154) (by decide) hp) ?_
    assumption
  try (generalize x13 = y13 at h14 ⊢; try clear x13)
  extract_lets +onlyGivenNames x15
  extract_lets +onlyGivenNames x16
  extract_lets +onlyGivenNames x17
  have h18 : Kept m s0 x17 := by
    unfold x17
    first | refine State.setCor_keptOf (Sub.trans (b := 562949886312154) (by decide) hp) (by assumption) (fun h => h) ?_ | refine State.setCor_kept (Sub.trans (b := 562949886312154) (by decide) hp) (by first | exact fun h => h | exact fun _ => ⟨Nat.zero_le _, Nat.zero_le _, Nat.zero_le _⟩ | exact fun h => ⟨Nat.zero_le _, h.2⟩ | exact fun h => ⟨List.length_take_le _ _, h.2⟩ | (intro h; simp +zetaDelta only [Core.inCap] at h ⊢; exact h) | exact fun h => ⟨h.1, Nat.le_trans (List.length_filter_le _ _) h.2.1, Nat.le_trans (List.length_filter_le _ _) h.2.2⟩) ?_
    assumption
  try (generalize x17 = y17 at h18 ⊢; try clear x17)
  extract_lets +onlyGivenNames x19
  have h20 : Kept m s0 x19 := by
    unfold x19
    refine Kept.cond (fun _ => ?_) (fun _ => ?_)
    · refine State.pflush_kept (Sub.trans (b := 562949886312154) (by decide) hp) ?_
      assumption
    · assumption
  try (generalize x19 = y19 at h20 ⊢; try clear x19)
  refine State.emitCC_kept (Sub.trans (b := 562949886312154) (by decide) hp) ?_
  assumption

theorem State.enter_kept {m : Nat} {s0 : State} (hp : Sub 562949886312158 m) {s : State} {n : Nat} {e : Exc} {sv : Saved} {x4_ : Nat} {x5_ : Nat} (hk : Kept m s0 s) : Kept m s0 (State.enter s n e sv x4_ x5_) := by
  unfold State.enter
  split
  · refine State.fenceCore_kept (Sub.trans (b := 562949886312158) (by decide) hp) ?_
    assumption
  · refine Kept.cond (fun _ => ?_) (fun _ => ?_)
    · refine State.fenceCore_kept (Sub.trans (b := 562949886312158) (by decide) hp) ?_
      assumption
    · split
      · next e3 =>
          have h4 : Kept m s0 _ := Kept.fst e3 (by
              refine State.frameProbe_kept (Sub.trans (b := 562949886312158) (by decide) hp) ?_
              assumption
            )
          refine State.enterAt_kept (Sub.trans (b := 562949886312158) (by decide) hp) ?_
          assumption
      · next e7 =>
          have h8 : Kept m s0 _ := Kept.fst e7 (by
              refine State.frameProbe_kept (Sub.trans (b := 562949886312158) (by decide) hp) ?_
              assumption
            )
          refine State.enter_kept hp ?_
          assumption

theorem State.haltAfterEntry_kept {m : Nat} {s0 : State} (hp : Sub 4398046642176 m) {s : State} {n : Nat} (hk : Kept m s0 s) : Kept m s0 (State.haltAfterEntry s n) := by
  unfold State.haltAfterEntry
  extract_lets +onlyGivenNames x0
  refine Kept.cond (fun _ => ?_) (fun _ => ?_)
  · refine State.haltNow_kept hp ?_
    assumption
  · refine Kept.cond (fun _ => ?_) (fun _ => ?_)
    · refine State.haltNow_kept hp ?_
      assumption
    · assumption

theorem State.retire_kept {m : Nat} {s0 : State} (hp : Sub 6734794588160 m) {s : State} {n : Nat} (hk : Kept m s0 s) : Kept m s0 (State.retire s n) := by
  unfold State.retire
  extract_lets +onlyGivenNames x0
  have h1 : Kept m s0 x0 := by
    unfold x0
    refine State.counted_kept (Sub.trans (b := 6734794588160) (by decide) hp) ?_
    assumption
  try (generalize x0 = y0 at h1 ⊢; try clear x0)
  extract_lets +onlyGivenNames x2
  refine Kept.cond (fun _ => ?_) (fun _ => ?_)
  · extract_lets +onlyGivenNames x3
    refine Kept.cond (fun _ => ?_) (fun _ => ?_)
    · extract_lets +onlyGivenNames x4
      have h5 : Kept m s0 x4 := by
        unfold x4
        refine State.setSr_kept (Sub.trans (b := 6734794588160) (by decide) hp) ?_
        assumption
      try (generalize x4 = y4 at h5 ⊢; try clear x4)
      refine State.haltPoll_kept (Sub.trans (b := 6734794588160) (by decide) hp) ?_
      refine State.atom_kept hp ?_
      refine State.setPc_kept (Sub.trans (b := 6734794588160) (by decide) hp) ?_
      assumption
    · refine State.haltPoll_kept (Sub.trans (b := 6734794588160) (by decide) hp) ?_
      refine State.atom_kept hp ?_
      refine State.setPc_kept (Sub.trans (b := 6734794588160) (by decide) hp) ?_
      refine State.setSr_kept (Sub.trans (b := 6734794588160) (by decide) hp) ?_
      assumption
  · refine State.haltPoll_kept (Sub.trans (b := 6734794588160) (by decide) hp) ?_
    refine State.setPc_kept (Sub.trans (b := 6734794588160) (by decide) hp) ?_
    assumption

theorem State.retireJump_kept {m : Nat} {s0 : State} (hp : Sub 6734526152704 m) {s : State} {n : Nat} {target : W64} (hk : Kept m s0 s) : Kept m s0 (State.retireJump s n target) := by
  unfold State.retireJump
  extract_lets +onlyGivenNames x0
  have h1 : Kept m s0 x0 := by
    unfold x0
    refine State.counted_kept (Sub.trans (b := 6734526152704) (by decide) hp) ?_
    assumption
  try (generalize x0 = y0 at h1 ⊢; try clear x0)
  extract_lets +onlyGivenNames x2
  extract_lets +onlyGivenNames x3
  extract_lets +onlyGivenNames x4
  extract_lets +onlyGivenNames x5
  have h6 : Kept m s0 x5 := by
    unfold x5
    refine Kept.cond (fun _ => ?_) (fun _ => ?_)
    · refine State.setSr_kept (Sub.trans (b := 6734526152704) (by decide) hp) ?_
      assumption
    · assumption
  try (generalize x5 = y5 at h6 ⊢; try clear x5)
  refine State.haltPoll_kept (Sub.trans (b := 6734526152704) (by decide) hp) ?_
  refine State.setPc_kept (Sub.trans (b := 6734526152704) (by decide) hp) ?_
  assumption

theorem State.l1iFill_kept {m : Nat} {s0 : State} (hp : Sub 393216 m) {s : State} {n : Nat} {line : Nat} {b : Bytes} (hk : Kept m s0 s) : Kept m s0 (State.l1iFill s n line b) := by
  unfold State.l1iFill
  extract_lets +onlyGivenNames x0
  have h1 : Kept m s0 x0 := by
    unfold x0
    refine State.l2Fill_kept hp ?_
    assumption
  try (generalize x0 = y0 at h1 ⊢; try clear x0)
  extract_lets +onlyGivenNames x2
  split
  · refine State.tick1_kept (Sub.trans (b := 393216) (by decide) hp) ?_
    first | refine State.setCor_keptOf (Sub.trans (b := 393216) (by decide) hp) (by assumption) (fun h => h) ?_ | refine State.setCor_kept (Sub.trans (b := 393216) (by decide) hp) (by first | exact fun h => h | exact fun _ => ⟨Nat.zero_le _, Nat.zero_le _, Nat.zero_le _⟩ | exact fun h => ⟨Nat.zero_le _, h.2⟩ | exact fun h => ⟨List.length_take_le _ _, h.2⟩ | (intro h; simp +zetaDelta only [Core.inCap] at h ⊢; exact h) | exact fun h => ⟨h.1, Nat.le_trans (List.length_filter_le _ _) h.2.1, Nat.le_trans (List.length_filter_le _ _) h.2.2⟩) ?_
    assumption
  · first | refine State.setCor_keptOf (Sub.trans (b := 393216) (by decide) hp) (by assumption) (fun h => h) ?_ | refine State.setCor_kept (Sub.trans (b := 393216) (by decide) hp) (by first | exact fun h => h | exact fun _ => ⟨Nat.zero_le _, Nat.zero_le _, Nat.zero_le _⟩ | exact fun h => ⟨Nat.zero_le _, h.2⟩ | exact fun h => ⟨List.length_take_le _ _, h.2⟩ | (intro h; simp +zetaDelta only [Core.inCap] at h ⊢; exact h) | exact fun h => ⟨h.1, Nat.le_trans (List.length_filter_le _ _) h.2.1, Nat.le_trans (List.length_filter_le _ _) h.2.2⟩) ?_
    assumption

theorem State.fetch_kept {m : Nat} {s0 : State} (hp : Sub 562949473075200 m) {s : State} {n : Nat} (hk : Kept m s0 s) : Kept m s0 (State.fetch s n).1 := by
  unfold State.fetch
  extract_lets +onlyGivenNames x0
  split
  · next e3 =>
      have h4 : Kept m s0 _ := Kept.fst e3 (by
          refine State.fetchTr_kept (Sub.trans (b := 562949473075200) (by decide) hp) ?_
          assumption
        )
      show Kept m s0 _
      assumption
  · next e8 =>
      have h19 : Kept m s0 _ := Kept.fst e8 (by
          refine State.fetchTr_kept (Sub.trans (b := 562949473075200) (by decide) hp) ?_
          assumption
        )
      extract_lets +onlyGivenNames x9
      refine Kept.cond1 (fun _ => ?_) (fun _ => ?_)
      · show Kept m s0 _
        assumption
      · split
        · next e11 =>
            have h12 : Kept m s0 _ := Kept.fst e11 (by
                refine State.busRd_kept (Sub.trans (b := 562949473075200) (by decide) hp) ?_
                assumption
              )
            show Kept m s0 _
            assumption
        · next e15 =>
            have h18 : Kept m s0 _ := Kept.fst e15 (by
                refine State.busRd_kept (Sub.trans (b := 562949473075200) (by decide) hp) ?_
                assumption
              )
            extract_lets +onlyGivenNames x16
            have h17 : Kept m s0 x16 := by
              unfold x16
              refine State.note_kept (Sub.trans (b := 562949473075200) (by decide) hp) ?_
              assumption
            try (generalize x16 = y16 at h17 ⊢; try clear x16)
            refine Kept.cond1 (fun _ => ?_) (fun _ => ?_)
            · show Kept m s0 _
              assumption
            · show Kept m s0 _
              refine State.l1iFill_kept (Sub.trans (b := 562949473075200) (by decide) hp) ?_
              refine Kept.cond (fun _ => ?_) (fun _ => ?_)
              · assumption
              · refine State.note_kept (Sub.trans (b := 562949473075200) (by decide) hp) ?_
                assumption

theorem State.wpFill_kept {m : Nat} {s0 : State} (hp : Sub 2336479641600 m) {s : State} {n : Nat} {l : Nat} (hk : Kept m s0 s) : Kept m s0 (State.wpFill s n l) := by
  unfold State.wpFill
  refine State.pmuBy_kept hp ?_
  assumption

theorem State.wrong1_kept {m : Nat} {s0 : State} (hp : Sub 2336479903744 m) {s : State} {n : Nat} (hk : Kept m s0 s) : Kept m s0 (State.wrong1 s n) := by
  unfold State.wrong1
  extract_lets +onlyGivenNames x0
  extract_lets +onlyGivenNames x1
  extract_lets +onlyGivenNames x2
  have h3 : Kept m s0 x2 := by
    unfold x2
    refine State.tick1_kept (Sub.trans (b := 2336479903744) (by decide) hp) ?_
    refine State.tick1_kept (Sub.trans (b := 2336479903744) (by decide) hp) ?_
    assumption
  try (generalize x2 = y2 at h3 ⊢; try clear x2)
  refine Kept.cond (fun _ => ?_) (fun _ => ?_)
  · split
    · next e6 =>
        have h7 : Kept m s0 _ := Kept.fst e6 (by
            refine State.translate_kept (Sub.trans (b := 2336479903744) (by decide) hp) ?_
            assumption
          )
        assumption
    · next e11 =>
        have h13 : Kept m s0 _ := Kept.fst e11 (by
            refine State.translate_kept (Sub.trans (b := 2336479903744) (by decide) hp) ?_
            assumption
          )
        extract_lets +onlyGivenNames x12
        split
        · refine Kept.cond (fun _ => ?_) (fun _ => ?_)
          · refine State.l1iFill_kept (Sub.trans (b := 2336479903744) (by decide) hp) ?_
            refine State.wpFill_kept (Sub.trans (b := 2336479903744) (by decide) hp) ?_
            assumption
          · assumption
        · assumption
  · refine Kept.cond (fun _ => ?_) (fun _ => ?_)
    · split
      · next e16 =>
          have h17 : Kept m s0 _ := Kept.fst e16 (by
              refine State.translate_kept (Sub.trans (b := 2336479903744) (by decide) hp) ?_
              assumption
            )
          assumption
      · next e21 =>
          have h23 : Kept m s0 _ := Kept.fst e21 (by
              refine State.translate_kept (Sub.trans (b := 2336479903744) (by decide) hp) ?_
              assumption
            )
          extract_lets +onlyGivenNames x22
          refine Kept.cond (fun _ => ?_) (fun _ => ?_)
          · refine State.l1dFill_kept (Sub.trans (b := 2336479903744) (by decide) hp) ?_
            refine State.wpFill_kept (Sub.trans (b := 2336479903744) (by decide) hp) ?_
            assumption
          · assumption
    · refine Kept.cond (fun _ => ?_) (fun _ => ?_)
      · assumption
      · extract_lets +onlyGivenNames x24
        extract_lets +onlyGivenNames x25
        refine State.tick1_kept (Sub.trans (b := 2336479903744) (by decide) hp) ?_
        first | refine State.setCor_keptOf (Sub.trans (b := 2336479903744) (by decide) hp) (by assumption) (fun h => h) ?_ | refine State.setCor_kept (Sub.trans (b := 2336479903744) (by decide) hp) (by first | exact fun h => h | exact fun _ => ⟨Nat.zero_le _, Nat.zero_le _, Nat.zero_le _⟩ | exact fun h => ⟨Nat.zero_le _, h.2⟩ | exact fun h => ⟨List.length_take_le _ _, h.2⟩ | (intro h; simp +zetaDelta only [Core.inCap] at h ⊢; exact h) | exact fun h => ⟨h.1, Nat.le_trans (List.length_filter_le _ _) h.2.1, Nat.le_trans (List.length_filter_le _ _) h.2.2⟩) ?_
        assumption

theorem State.wrongK_kept {m : Nat} {s0 : State} (hp : Sub 2336479903744 m) {s : State} {n : Nat} {x2_ : Nat} (hk : Kept m s0 s) : Kept m s0 (State.wrongK s n x2_) := by
  unfold State.wrongK
  split
  · assumption
  · refine State.wrongK_kept hp ?_
    refine State.wrong1_kept hp ?_
    assumption

theorem State.wrongPath_kept {m : Nat} {s0 : State} (hp : Sub 2336479903744 m) {s : State} {n : Nat} (hk : Kept m s0 s) : Kept m s0 (State.wrongPath s n) := by
  unfold State.wrongPath
  extract_lets +onlyGivenNames x0
  extract_lets +onlyGivenNames x1
  have h2 : Kept m s0 x1 := by
    unfold x1
    refine State.wrongK_kept hp ?_
    refine State.tick1_kept (Sub.trans (b := 2336479903744) (by decide) hp) ?_
    assumption
  try (generalize x1 = y1 at h2 ⊢; try clear x1)
  refine State.tick1_kept (Sub.trans (b := 2336479903744) (by decide) hp) ?_
  refine State.pmuBy_kept (Sub.trans (b := 2336479903744) (by decide) hp) ?_
  first | refine State.setCor_keptOf (Sub.trans (b := 2336479903744) (by decide) hp) (by assumption) (fun h => h) ?_ | refine State.setCor_kept (Sub.trans (b := 2336479903744) (by decide) hp) (by first | exact fun h => h | exact fun _ => ⟨Nat.zero_le _, Nat.zero_le _, Nat.zero_le _⟩ | exact fun h => ⟨Nat.zero_le _, h.2⟩ | exact fun h => ⟨List.length_take_le _ _, h.2⟩ | (intro h; simp +zetaDelta only [Core.inCap] at h ⊢; exact h) | exact fun h => ⟨h.1, Nat.le_trans (List.length_filter_le _ _) h.2.1, Nat.le_trans (List.length_filter_le _ _) h.2.2⟩) ?_
  assumption

theorem State.trap_kept {m : Nat} {s0 : State} (hp : Sub 562949886312158 m) {s : State} {n : Nat} {e : Exc} (hk : Kept m s0 s) : Kept m s0 (State.trap s n e) := by
  unfold State.trap
  extract_lets +onlyGivenNames x0
  extract_lets +onlyGivenNames x1
  have h2 : Kept m s0 x1 := by
    unfold x1
    refine State.wrongPath_kept (Sub.trans (b := 562949886312158) (by decide) hp) ?_
    assumption
  try (generalize x1 = y1 at h2 ⊢; try clear x1)
  extract_lets +onlyGivenNames x3
  refine State.haltAfterEntry_kept (Sub.trans (b := 562949886312158) (by decide) hp) ?_
  refine State.enter_kept hp ?_
  assumption

theorem Flow.finish_kept {m : Nat} {s0 : State} (hp : Sub 562949886312158 m) {f : Flow} {n : Nat} (hf : FlowKept m s0 f) : Kept m s0 (f.finish n) := by
  cases f with
  | next s => exact State.retire_kept (Sub.trans (b := 562949886312158) (by decide) hp) hf
  | jump s pc => exact State.retireJump_kept (Sub.trans (b := 562949886312158) (by decide) hp) hf
  | exc s e => exact State.trap_kept (Sub.trans (b := 562949886312158) (by decide) hp) hf
  | done s => exact State.haltPoll_kept (Sub.trans (b := 562949886312158) (by decide) hp) hf
  | hold s => exact hf

theorem State.resyncTrace_kept {m : Nat} {s0 : State} (hp : Sub 6734794588160 m) {s : State} {n : Nat} (hk : Kept m s0 s) : Kept m s0 (State.resyncTrace s n) := by
  unfold State.resyncTrace
  refine Kept.cond (fun _ => ?_) (fun _ => ?_)
  · refine State.emitSync_kept hp ?_
    first | refine State.setCor_keptOf (Sub.trans (b := 6734794588160) (by decide) hp) (by assumption) (fun h => h) ?_ | refine State.setCor_kept (Sub.trans (b := 6734794588160) (by decide) hp) (by first | exact fun h => h | exact fun _ => ⟨Nat.zero_le _, Nat.zero_le _, Nat.zero_le _⟩ | exact fun h => ⟨Nat.zero_le _, h.2⟩ | exact fun h => ⟨List.length_take_le _ _, h.2⟩ | (intro h; simp +zetaDelta only [Core.inCap] at h ⊢; exact h) | exact fun h => ⟨h.1, Nat.le_trans (List.length_filter_le _ _) h.2.1, Nat.le_trans (List.length_filter_le _ _) h.2.2⟩) ?_
    assumption
  · assumption

theorem State.insn_kept {m : Nat} {s0 : State} (hp : Sub 562949886312158 m) {s : State} {n : Nat} {legal : Bool} {endOk : Bool} {priv : Lvl → Bool} {body : State → Flow} (hfn_body : ∀ y0, Kept m s0 y0 → FlowKept m s0 (body y0)) (hk : Kept m s0 s) : Kept m s0 (State.insn s n legal endOk priv body) := by
  unfold State.insn
  refine Kept.cond (fun _ => ?_) (fun _ => ?_)
  · assumption
  · extract_lets +onlyGivenNames x0
    have h1 : Kept m s0 x0 := by
      unfold x0
      refine State.resyncTrace_kept (Sub.trans (b := 562949886312158) (by decide) hp) ?_
      refine State.detApply_kept (Sub.trans (b := 562949886312158) (by decide) hp) ?_
      assumption
    try (generalize x0 = y0 at h1 ⊢; try clear x0)
    extract_lets +onlyGivenNames x2
    extract_lets +onlyGivenNames x3
    have h4 : Kept m s0 x3 := by
      unfold x3
      first | refine State.setCor_keptOf (Sub.trans (b := 562949886312158) (by decide) hp) (by assumption) (fun h => h) ?_ | refine State.setCor_kept (Sub.trans (b := 562949886312158) (by decide) hp) (by first | exact fun h => h | exact fun _ => ⟨Nat.zero_le _, Nat.zero_le _, Nat.zero_le _⟩ | exact fun h => ⟨Nat.zero_le _, h.2⟩ | exact fun h => ⟨List.length_take_le _ _, h.2⟩ | (intro h; simp +zetaDelta only [Core.inCap] at h ⊢; exact h) | exact fun h => ⟨h.1, Nat.le_trans (List.length_filter_le _ _) h.2.1, Nat.le_trans (List.length_filter_le _ _) h.2.2⟩) ?_
      assumption
    try (generalize x3 = y3 at h4 ⊢; try clear x3)
    split
    · next e7 =>
        have h8 : Kept m s0 _ := Kept.fst e7 (by
            refine State.fetch_kept (Sub.trans (b := 562949886312158) (by decide) hp) ?_
            assumption
          )
        refine State.trap_kept hp ?_
        assumption
    · next e10 =>
        have h11 : Kept m s0 _ := Kept.fst e10 (by
            refine State.fetch_kept (Sub.trans (b := 562949886312158) (by decide) hp) ?_
            assumption
          )
        refine Kept.cond (fun _ => ?_) (fun _ => ?_)
        · refine State.trap_kept hp ?_
          assumption
        · refine Kept.cond (fun _ => ?_) (fun _ => ?_)
          · refine State.trap_kept hp ?_
            assumption
          · exact Flow.finish_kept (Sub.trans (b := 562949886312158) (by decide) hp) (hfn_body _ (by assumption))

theorem State.insnU_kept {m : Nat} {s0 : State} (hp : Sub 562949886312158 m) {s : State} {n : Nat} {legal : Bool} {body : State → Flow} (hfn_body : ∀ y0, Kept m s0 y0 → FlowKept m s0 (body y0)) (hk : Kept m s0 s) : Kept m s0 (State.insnU s n legal body) := by
  unfold State.insnU
  refine State.insn_kept hp (fun a0 h1 => ?_) ?_
  · refine hfn_body _ ?_
    assumption
  · assumption

theorem execStoreErrorEntry_kept {m : Nat} {s0 : State} (hp : Sub 562949886312158 m) {n : Fin 32} {s : State} (hk : Kept m s0 s) : OutKept m s0 (execStoreErrorEntry n s) := by
  unfold execStoreErrorEntry
  refine OutKept.next ?_
  refine Kept.cond (fun _ => ?_) (fun _ => ?_)
  · extract_lets +onlyGivenNames x0
    extract_lets +onlyGivenNames x1
    have h2 : Kept m s0 x1 := by
      unfold x1
      refine State.setSr_kept (Sub.trans (b := 562949886312158) (by decide) hp) ?_
      assumption
    try (generalize x1 = y1 at h2 ⊢; try clear x1)
    refine State.haltAfterEntry_kept (Sub.trans (b := 562949886312158) (by decide) hp) ?_
    refine State.enter_kept hp ?_
    refine State.wrongPath_kept (Sub.trans (b := 562949886312158) (by decide) hp) ?_
    assumption
  · assumption

theorem execIrqEntry_kept {m : Nat} {s0 : State} (hp : Sub 562949886312158 m) {n : Fin 32} {s : State} (hk : Kept m s0 s) : OutKept m s0 (execIrqEntry n s) := by
  unfold execIrqEntry
  refine OutKept.next ?_
  refine Kept.cond (fun _ => ?_) (fun _ => ?_)
  · refine State.haltAfterEntry_kept (Sub.trans (b := 562949886312158) (by decide) hp) ?_
    refine State.enter_kept hp ?_
    refine State.wrongPath_kept (Sub.trans (b := 562949886312158) (by decide) hp) ?_
    assumption
  · assumption

end Sys2Proof.Machine
end

