-- ==== Sys2Proof/Laws/KeptP64Int.lean ====
section
/-!
SUPPORT. What the definitions of Machine/P64Int.lean keep: one lemma each.
-/
namespace Sys2Proof.Machine

theorem State.result_kept {m : Nat} {s0 : State} (hp : Sub 131072 m) {s : State} {n : Nat} {d : Nat} {v : W64} (hk : Kept m s0 s) : FlowKept m s0 (State.result s n d v) := by
  unfold State.result
  refine Flow.next_kept ?_
  refine State.gw_kept hp ?_
  assumption

theorem State.exact_kept {m : Nat} {s0 : State} (hp : Sub 131072 m) {s : State} {n : Nat} {d : Nat} {w : Nat} {x : Int} (hk : Kept m s0 s) : FlowKept m s0 (State.exact s n d w x) := by
  unfold State.exact
  refine FlowKept.cond (fun _ => ?_) (fun _ => ?_)
  · refine Flow.exc_kept ?_
    assumption
  · refine State.result_kept hp ?_
    assumption

theorem State.rr_kept {m : Nat} {s0 : State} (hp : Sub 562949886312158 m) {s : State} {n : Nat} {a : Fin 32} {b : Fin 32} {z : BitVec 8} {f : State → W64 → W64 → Flow} (hfn_f : ∀ y0 y1 y2, Kept m s0 y0 → FlowKept m s0 (f y0 y1 y2)) (hk : Kept m s0 s) : Kept m s0 (State.rr s n a b z f) := by
  unfold State.rr
  refine State.insnU_kept hp (fun a0 h1 => ?_) ?_
  · refine hfn_f _ _ _ ?_
    assumption
  · assumption

theorem State.rrV_kept {m : Nat} {s0 : State} (hp : Sub 562949886312158 m) {s : State} {n : Nat} {d : Fin 32} {a : Fin 32} {b : Fin 32} {z : BitVec 8} {f : W64 → W64 → W64} (hk : Kept m s0 s) : Kept m s0 (State.rrV s n d a b z f) := by
  unfold State.rrV
  refine State.rr_kept hp (fun a0 a1 a2 h3 => ?_) ?_
  · refine State.result_kept (Sub.trans (b := 562949886312158) (by decide) hp) ?_
    assumption
  · assumption

theorem State.rrX_kept {m : Nat} {s0 : State} (hp : Sub 562949886312158 m) {s : State} {n : Nat} {d : Fin 32} {a : Fin 32} {b : Fin 32} {z : BitVec 8} {w : Nat} {f : W64 → W64 → Int} (hk : Kept m s0 s) : Kept m s0 (State.rrX s n d a b z w f) := by
  unfold State.rrX
  refine State.rr_kept hp (fun a0 a1 a2 h3 => ?_) ?_
  · refine State.exact_kept (Sub.trans (b := 562949886312158) (by decide) hp) ?_
    assumption
  · assumption

theorem State.divide_kept {m : Nat} {s0 : State} (hp : Sub 562949886312158 m) {s : State} {n : Nat} {d : Fin 32} {a : Fin 32} {b : Fin 32} {z : BitVec 8} {w : Nat} {signed : Bool} {quotient : Bool} (hk : Kept m s0 s) : Kept m s0 (State.divide s n d a b z w signed quotient) := by
  unfold State.divide
  refine State.rr_kept hp (fun a0 a1 a2 h3 => ?_) ?_
  · extract_lets +onlyGivenNames x4
    extract_lets +onlyGivenNames x5
    refine FlowKept.cond (fun _ => ?_) (fun _ => ?_)
    · refine FlowKept.cond (fun _ => ?_) (fun _ => ?_)
      · refine Flow.exc_kept ?_
        assumption
      · refine State.result_kept (Sub.trans (b := 562949886312158) (by decide) hp) ?_
        assumption
    · refine FlowKept.cond (fun _ => ?_) (fun _ => ?_)
      · refine FlowKept.cond (fun _ => ?_) (fun _ => ?_)
        · refine State.exact_kept (Sub.trans (b := 562949886312158) (by decide) hp) ?_
          assumption
        · refine State.result_kept (Sub.trans (b := 562949886312158) (by decide) hp) ?_
          assumption
      · refine State.result_kept (Sub.trans (b := 562949886312158) (by decide) hp) ?_
        assumption
  · assumption

theorem State.rk_kept {m : Nat} {s0 : State} (hp : Sub 562949886312158 m) {s : State} {n : Nat} {d : Fin 32} {a : Fin 32} {legal : Bool} {f : W64 → W64} (hk : Kept m s0 s) : Kept m s0 (State.rk s n d a legal f) := by
  unfold State.rk
  refine State.insnU_kept hp (fun a0 h1 => ?_) ?_
  · refine State.result_kept (Sub.trans (b := 562949886312158) (by decide) hp) ?_
    assumption
  · assumption

theorem State.rkX_kept {m : Nat} {s0 : State} (hp : Sub 562949886312158 m) {s : State} {n : Nat} {d : Fin 32} {a : Fin 32} {w : Nat} {f : W64 → Int} (hk : Kept m s0 s) : Kept m s0 (State.rkX s n d a w f) := by
  unfold State.rkX
  refine State.insnU_kept hp (fun a0 h1 => ?_) ?_
  · refine State.exact_kept (Sub.trans (b := 562949886312158) (by decide) hp) ?_
    assumption
  · assumption

theorem execAdd_kept {m : Nat} {s0 : State} (hp : Sub 562949886312158 m) {n : Fin 32} {d : Fin 32} {a : Fin 32} {b : Fin 32} {z : BitVec 8} {s : State} (hk : Kept m s0 s) : OutKept m s0 (execAdd n d a b z s) := by
  unfold execAdd
  refine OutKept.next ?_
  refine State.rrX_kept hp ?_
  assumption

theorem execSub_kept {m : Nat} {s0 : State} (hp : Sub 562949886312158 m) {n : Fin 32} {d : Fin 32} {a : Fin 32} {b : Fin 32} {z : BitVec 8} {s : State} (hk : Kept m s0 s) : OutKept m s0 (execSub n d a b z s) := by
  unfold execSub
  refine OutKept.next ?_
  refine State.rrX_kept hp ?_
  assumption

theorem execAddm_kept {m : Nat} {s0 : State} (hp : Sub 562949886312158 m) {n : Fin 32} {d : Fin 32} {a : Fin 32} {b : Fin 32} {z : BitVec 8} {s : State} (hk : Kept m s0 s) : OutKept m s0 (execAddm n d a b z s) := by
  unfold execAddm
  refine OutKept.next ?_
  refine State.rrV_kept hp ?_
  assumption

theorem execSubm_kept {m : Nat} {s0 : State} (hp : Sub 562949886312158 m) {n : Fin 32} {d : Fin 32} {a : Fin 32} {b : Fin 32} {z : BitVec 8} {s : State} (hk : Kept m s0 s) : OutKept m s0 (execSubm n d a b z s) := by
  unfold execSubm
  refine OutKept.next ?_
  refine State.rrV_kept hp ?_
  assumption

theorem execAnd_kept {m : Nat} {s0 : State} (hp : Sub 562949886312158 m) {n : Fin 32} {d : Fin 32} {a : Fin 32} {b : Fin 32} {z : BitVec 8} {s : State} (hk : Kept m s0 s) : OutKept m s0 (execAnd n d a b z s) := by
  unfold execAnd
  refine OutKept.next ?_
  refine State.rrV_kept hp ?_
  assumption

theorem execOr_kept {m : Nat} {s0 : State} (hp : Sub 562949886312158 m) {n : Fin 32} {d : Fin 32} {a : Fin 32} {b : Fin 32} {z : BitVec 8} {s : State} (hk : Kept m s0 s) : OutKept m s0 (execOr n d a b z s) := by
  unfold execOr
  refine OutKept.next ?_
  refine State.rrV_kept hp ?_
  assumption

theorem execXor_kept {m : Nat} {s0 : State} (hp : Sub 562949886312158 m) {n : Fin 32} {d : Fin 32} {a : Fin 32} {b : Fin 32} {z : BitVec 8} {s : State} (hk : Kept m s0 s) : OutKept m s0 (execXor n d a b z s) := by
  unfold execXor
  refine OutKept.next ?_
  refine State.rrV_kept hp ?_
  assumption

theorem execAndn_kept {m : Nat} {s0 : State} (hp : Sub 562949886312158 m) {n : Fin 32} {d : Fin 32} {a : Fin 32} {b : Fin 32} {z : BitVec 8} {s : State} (hk : Kept m s0 s) : OutKept m s0 (execAndn n d a b z s) := by
  unfold execAndn
  refine OutKept.next ?_
  refine State.rrV_kept hp ?_
  assumption

theorem execShl_kept {m : Nat} {s0 : State} (hp : Sub 562949886312158 m) {n : Fin 32} {d : Fin 32} {a : Fin 32} {b : Fin 32} {z : BitVec 8} {s : State} (hk : Kept m s0 s) : OutKept m s0 (execShl n d a b z s) := by
  unfold execShl
  refine OutKept.next ?_
  refine State.rrV_kept hp ?_
  assumption

theorem execShr_kept {m : Nat} {s0 : State} (hp : Sub 562949886312158 m) {n : Fin 32} {d : Fin 32} {a : Fin 32} {b : Fin 32} {z : BitVec 8} {s : State} (hk : Kept m s0 s) : OutKept m s0 (execShr n d a b z s) := by
  unfold execShr
  refine OutKept.next ?_
  refine State.rrV_kept hp ?_
  assumption

theorem execSar_kept {m : Nat} {s0 : State} (hp : Sub 562949886312158 m) {n : Fin 32} {d : Fin 32} {a : Fin 32} {b : Fin 32} {z : BitVec 8} {s : State} (hk : Kept m s0 s) : OutKept m s0 (execSar n d a b z s) := by
  unfold execSar
  refine OutKept.next ?_
  refine State.rrV_kept hp ?_
  assumption

theorem execClt_kept {m : Nat} {s0 : State} (hp : Sub 562949886312158 m) {n : Fin 32} {d : Fin 32} {a : Fin 32} {b : Fin 32} {z : BitVec 8} {s : State} (hk : Kept m s0 s) : OutKept m s0 (execClt n d a b z s) := by
  unfold execClt
  refine OutKept.next ?_
  refine State.rrV_kept hp ?_
  assumption

theorem execCltu_kept {m : Nat} {s0 : State} (hp : Sub 562949886312158 m) {n : Fin 32} {d : Fin 32} {a : Fin 32} {b : Fin 32} {z : BitVec 8} {s : State} (hk : Kept m s0 s) : OutKept m s0 (execCltu n d a b z s) := by
  unfold execCltu
  refine OutKept.next ?_
  refine State.rrV_kept hp ?_
  assumption

theorem execMin_kept {m : Nat} {s0 : State} (hp : Sub 562949886312158 m) {n : Fin 32} {d : Fin 32} {a : Fin 32} {b : Fin 32} {z : BitVec 8} {s : State} (hk : Kept m s0 s) : OutKept m s0 (execMin n d a b z s) := by
  unfold execMin
  refine OutKept.next ?_
  refine State.rrV_kept hp ?_
  assumption

theorem execMax_kept {m : Nat} {s0 : State} (hp : Sub 562949886312158 m) {n : Fin 32} {d : Fin 32} {a : Fin 32} {b : Fin 32} {z : BitVec 8} {s : State} (hk : Kept m s0 s) : OutKept m s0 (execMax n d a b z s) := by
  unfold execMax
  refine OutKept.next ?_
  refine State.rrV_kept hp ?_
  assumption

theorem execMinu_kept {m : Nat} {s0 : State} (hp : Sub 562949886312158 m) {n : Fin 32} {d : Fin 32} {a : Fin 32} {b : Fin 32} {z : BitVec 8} {s : State} (hk : Kept m s0 s) : OutKept m s0 (execMinu n d a b z s) := by
  unfold execMinu
  refine OutKept.next ?_
  refine State.rrV_kept hp ?_
  assumption

theorem execMaxu_kept {m : Nat} {s0 : State} (hp : Sub 562949886312158 m) {n : Fin 32} {d : Fin 32} {a : Fin 32} {b : Fin 32} {z : BitVec 8} {s : State} (hk : Kept m s0 s) : OutKept m s0 (execMaxu n d a b z s) := by
  unfold execMaxu
  refine OutKept.next ?_
  refine State.rrV_kept hp ?_
  assumption

theorem execAdd32_kept {m : Nat} {s0 : State} (hp : Sub 562949886312158 m) {n : Fin 32} {d : Fin 32} {a : Fin 32} {b : Fin 32} {z : BitVec 8} {s : State} (hk : Kept m s0 s) : OutKept m s0 (execAdd32 n d a b z s) := by
  unfold execAdd32
  refine OutKept.next ?_
  refine State.rrX_kept hp ?_
  assumption

theorem execSub32_kept {m : Nat} {s0 : State} (hp : Sub 562949886312158 m) {n : Fin 32} {d : Fin 32} {a : Fin 32} {b : Fin 32} {z : BitVec 8} {s : State} (hk : Kept m s0 s) : OutKept m s0 (execSub32 n d a b z s) := by
  unfold execSub32
  refine OutKept.next ?_
  refine State.rrX_kept hp ?_
  assumption

theorem execShl32_kept {m : Nat} {s0 : State} (hp : Sub 562949886312158 m) {n : Fin 32} {d : Fin 32} {a : Fin 32} {b : Fin 32} {z : BitVec 8} {s : State} (hk : Kept m s0 s) : OutKept m s0 (execShl32 n d a b z s) := by
  unfold execShl32
  refine OutKept.next ?_
  refine State.rrV_kept hp ?_
  assumption

theorem execShr32_kept {m : Nat} {s0 : State} (hp : Sub 562949886312158 m) {n : Fin 32} {d : Fin 32} {a : Fin 32} {b : Fin 32} {z : BitVec 8} {s : State} (hk : Kept m s0 s) : OutKept m s0 (execShr32 n d a b z s) := by
  unfold execShr32
  refine OutKept.next ?_
  refine State.rrV_kept hp ?_
  assumption

theorem execSar32_kept {m : Nat} {s0 : State} (hp : Sub 562949886312158 m) {n : Fin 32} {d : Fin 32} {a : Fin 32} {b : Fin 32} {z : BitVec 8} {s : State} (hk : Kept m s0 s) : OutKept m s0 (execSar32 n d a b z s) := by
  unfold execSar32
  refine OutKept.next ?_
  refine State.rrV_kept hp ?_
  assumption

theorem execAddk_kept {m : Nat} {s0 : State} (hp : Sub 562949886312158 m) {n : Fin 32} {d : Fin 32} {a : Fin 32} {k : BitVec 13} {s : State} (hk : Kept m s0 s) : OutKept m s0 (execAddk n d a k s) := by
  unfold execAddk
  refine OutKept.next ?_
  refine State.rkX_kept hp ?_
  assumption

theorem execAddkm_kept {m : Nat} {s0 : State} (hp : Sub 562949886312158 m) {n : Fin 32} {d : Fin 32} {a : Fin 32} {k : BitVec 13} {s : State} (hk : Kept m s0 s) : OutKept m s0 (execAddkm n d a k s) := by
  unfold execAddkm
  refine OutKept.next ?_
  refine State.rk_kept hp ?_
  assumption

theorem execAndk_kept {m : Nat} {s0 : State} (hp : Sub 562949886312158 m) {n : Fin 32} {d : Fin 32} {a : Fin 32} {k : BitVec 13} {s : State} (hk : Kept m s0 s) : OutKept m s0 (execAndk n d a k s) := by
  unfold execAndk
  refine OutKept.next ?_
  refine State.rk_kept hp ?_
  assumption

theorem execOrk_kept {m : Nat} {s0 : State} (hp : Sub 562949886312158 m) {n : Fin 32} {d : Fin 32} {a : Fin 32} {k : BitVec 13} {s : State} (hk : Kept m s0 s) : OutKept m s0 (execOrk n d a k s) := by
  unfold execOrk
  refine OutKept.next ?_
  refine State.rk_kept hp ?_
  assumption

theorem execXork_kept {m : Nat} {s0 : State} (hp : Sub 562949886312158 m) {n : Fin 32} {d : Fin 32} {a : Fin 32} {k : BitVec 13} {s : State} (hk : Kept m s0 s) : OutKept m s0 (execXork n d a k s) := by
  unfold execXork
  refine OutKept.next ?_
  refine State.rk_kept hp ?_
  assumption

theorem execCltk_kept {m : Nat} {s0 : State} (hp : Sub 562949886312158 m) {n : Fin 32} {d : Fin 32} {a : Fin 32} {k : BitVec 13} {s : State} (hk : Kept m s0 s) : OutKept m s0 (execCltk n d a k s) := by
  unfold execCltk
  refine OutKept.next ?_
  refine State.rk_kept hp ?_
  assumption

theorem execCltuk_kept {m : Nat} {s0 : State} (hp : Sub 562949886312158 m) {n : Fin 32} {d : Fin 32} {a : Fin 32} {k : BitVec 13} {s : State} (hk : Kept m s0 s) : OutKept m s0 (execCltuk n d a k s) := by
  unfold execCltuk
  refine OutKept.next ?_
  refine State.rk_kept hp ?_
  assumption

theorem execShlk_kept {m : Nat} {s0 : State} (hp : Sub 562949886312158 m) {n : Fin 32} {d : Fin 32} {a : Fin 32} {k : BitVec 13} {s : State} (hk : Kept m s0 s) : OutKept m s0 (execShlk n d a k s) := by
  unfold execShlk
  refine OutKept.next ?_
  refine State.rk_kept hp ?_
  assumption

theorem execShrk_kept {m : Nat} {s0 : State} (hp : Sub 562949886312158 m) {n : Fin 32} {d : Fin 32} {a : Fin 32} {k : BitVec 13} {s : State} (hk : Kept m s0 s) : OutKept m s0 (execShrk n d a k s) := by
  unfold execShrk
  refine OutKept.next ?_
  refine State.rk_kept hp ?_
  assumption

theorem execSark_kept {m : Nat} {s0 : State} (hp : Sub 562949886312158 m) {n : Fin 32} {d : Fin 32} {a : Fin 32} {k : BitVec 13} {s : State} (hk : Kept m s0 s) : OutKept m s0 (execSark n d a k s) := by
  unfold execSark
  refine OutKept.next ?_
  refine State.rk_kept hp ?_
  assumption

theorem execAddk32_kept {m : Nat} {s0 : State} (hp : Sub 562949886312158 m) {n : Fin 32} {d : Fin 32} {a : Fin 32} {k : BitVec 13} {s : State} (hk : Kept m s0 s) : OutKept m s0 (execAddk32 n d a k s) := by
  unfold execAddk32
  refine OutKept.next ?_
  refine State.rkX_kept hp ?_
  assumption

theorem execShlk32_kept {m : Nat} {s0 : State} (hp : Sub 562949886312158 m) {n : Fin 32} {d : Fin 32} {a : Fin 32} {k : BitVec 13} {s : State} (hk : Kept m s0 s) : OutKept m s0 (execShlk32 n d a k s) := by
  unfold execShlk32
  refine OutKept.next ?_
  refine State.rk_kept hp ?_
  assumption

theorem execShrk32_kept {m : Nat} {s0 : State} (hp : Sub 562949886312158 m) {n : Fin 32} {d : Fin 32} {a : Fin 32} {k : BitVec 13} {s : State} (hk : Kept m s0 s) : OutKept m s0 (execShrk32 n d a k s) := by
  unfold execShrk32
  refine OutKept.next ?_
  refine State.rk_kept hp ?_
  assumption

theorem execSark32_kept {m : Nat} {s0 : State} (hp : Sub 562949886312158 m) {n : Fin 32} {d : Fin 32} {a : Fin 32} {k : BitVec 13} {s : State} (hk : Kept m s0 s) : OutKept m s0 (execSark32 n d a k s) := by
  unfold execSark32
  refine OutKept.next ?_
  refine State.rk_kept hp ?_
  assumption

theorem execMul_kept {m : Nat} {s0 : State} (hp : Sub 562949886312158 m) {n : Fin 32} {d : Fin 32} {a : Fin 32} {b : Fin 32} {z : BitVec 8} {s : State} (hk : Kept m s0 s) : OutKept m s0 (execMul n d a b z s) := by
  unfold execMul
  refine OutKept.next ?_
  refine State.rrX_kept hp ?_
  assumption

theorem execMulhi_kept {m : Nat} {s0 : State} (hp : Sub 562949886312158 m) {n : Fin 32} {d : Fin 32} {a : Fin 32} {b : Fin 32} {z : BitVec 8} {s : State} (hk : Kept m s0 s) : OutKept m s0 (execMulhi n d a b z s) := by
  unfold execMulhi
  refine OutKept.next ?_
  refine State.rrV_kept hp ?_
  assumption

theorem execMulhiu_kept {m : Nat} {s0 : State} (hp : Sub 562949886312158 m) {n : Fin 32} {d : Fin 32} {a : Fin 32} {b : Fin 32} {z : BitVec 8} {s : State} (hk : Kept m s0 s) : OutKept m s0 (execMulhiu n d a b z s) := by
  unfold execMulhiu
  refine OutKept.next ?_
  refine State.rrV_kept hp ?_
  assumption

theorem execMul32_kept {m : Nat} {s0 : State} (hp : Sub 562949886312158 m) {n : Fin 32} {d : Fin 32} {a : Fin 32} {b : Fin 32} {z : BitVec 8} {s : State} (hk : Kept m s0 s) : OutKept m s0 (execMul32 n d a b z s) := by
  unfold execMul32
  refine OutKept.next ?_
  refine State.rrX_kept hp ?_
  assumption

theorem execDiv_kept {m : Nat} {s0 : State} (hp : Sub 562949886312158 m) {n : Fin 32} {d : Fin 32} {a : Fin 32} {b : Fin 32} {z : BitVec 8} {s : State} (hk : Kept m s0 s) : OutKept m s0 (execDiv n d a b z s) := by
  unfold execDiv
  refine OutKept.next ?_
  refine State.divide_kept hp ?_
  assumption

theorem execDivu_kept {m : Nat} {s0 : State} (hp : Sub 562949886312158 m) {n : Fin 32} {d : Fin 32} {a : Fin 32} {b : Fin 32} {z : BitVec 8} {s : State} (hk : Kept m s0 s) : OutKept m s0 (execDivu n d a b z s) := by
  unfold execDivu
  refine OutKept.next ?_
  refine State.divide_kept hp ?_
  assumption

theorem execMod_kept {m : Nat} {s0 : State} (hp : Sub 562949886312158 m) {n : Fin 32} {d : Fin 32} {a : Fin 32} {b : Fin 32} {z : BitVec 8} {s : State} (hk : Kept m s0 s) : OutKept m s0 (execMod n d a b z s) := by
  unfold execMod
  refine OutKept.next ?_
  refine State.divide_kept hp ?_
  assumption

theorem execModu_kept {m : Nat} {s0 : State} (hp : Sub 562949886312158 m) {n : Fin 32} {d : Fin 32} {a : Fin 32} {b : Fin 32} {z : BitVec 8} {s : State} (hk : Kept m s0 s) : OutKept m s0 (execModu n d a b z s) := by
  unfold execModu
  refine OutKept.next ?_
  refine State.divide_kept hp ?_
  assumption

theorem execDiv32_kept {m : Nat} {s0 : State} (hp : Sub 562949886312158 m) {n : Fin 32} {d : Fin 32} {a : Fin 32} {b : Fin 32} {z : BitVec 8} {s : State} (hk : Kept m s0 s) : OutKept m s0 (execDiv32 n d a b z s) := by
  unfold execDiv32
  refine OutKept.next ?_
  refine State.divide_kept hp ?_
  assumption

theorem execDivu32_kept {m : Nat} {s0 : State} (hp : Sub 562949886312158 m) {n : Fin 32} {d : Fin 32} {a : Fin 32} {b : Fin 32} {z : BitVec 8} {s : State} (hk : Kept m s0 s) : OutKept m s0 (execDivu32 n d a b z s) := by
  unfold execDivu32
  refine OutKept.next ?_
  refine State.divide_kept hp ?_
  assumption

theorem execMod32_kept {m : Nat} {s0 : State} (hp : Sub 562949886312158 m) {n : Fin 32} {d : Fin 32} {a : Fin 32} {b : Fin 32} {z : BitVec 8} {s : State} (hk : Kept m s0 s) : OutKept m s0 (execMod32 n d a b z s) := by
  unfold execMod32
  refine OutKept.next ?_
  refine State.divide_kept hp ?_
  assumption

theorem execModu32_kept {m : Nat} {s0 : State} (hp : Sub 562949886312158 m) {n : Fin 32} {d : Fin 32} {a : Fin 32} {b : Fin 32} {z : BitVec 8} {s : State} (hk : Kept m s0 s) : OutKept m s0 (execModu32 n d a b z s) := by
  unfold execModu32
  refine OutKept.next ?_
  refine State.divide_kept hp ?_
  assumption

theorem State.cb_kept {m : Nat} {s0 : State} (hp : Sub 562949886312158 m) {s : State} {n : Nat} {a : Fin 32} {b : Fin 32} {off : BitVec 13} {c : W64 → W64 → Bool} (hk : Kept m s0 s) : Kept m s0 (State.cb s n a b off c) := by
  unfold State.cb
  refine State.insn_kept hp (fun a0 h1 => ?_) ?_
  · extract_lets +onlyGivenNames x2
    extract_lets +onlyGivenNames x3
    extract_lets +onlyGivenNames x4
    extract_lets +onlyGivenNames x5
    have h6 : Kept m s0 x5 := by
      unfold x5
      refine State.predict_kept (Sub.trans (b := 562949886312158) (by decide) hp) ?_
      assumption
    try (generalize x5 = y5 at h6 ⊢; try clear x5)
    extract_lets +onlyGivenNames x7
    have h8 : Kept m s0 x7 := by
      unfold x7
      refine State.atom_kept (Sub.trans (b := 562949886312158) (by decide) hp) ?_
      refine Kept.cond (fun _ => ?_) (fun _ => ?_)
      · refine State.wrongPath_kept (Sub.trans (b := 562949886312158) (by decide) hp) ?_
        assumption
      · assumption
    try (generalize x7 = y7 at h8 ⊢; try clear x7)
    refine FlowKept.cond (fun _ => ?_) (fun _ => ?_)
    · refine Flow.jump_kept ?_
      assumption
    · refine Flow.next_kept ?_
      assumption
  · assumption

theorem execCbeq_kept {m : Nat} {s0 : State} (hp : Sub 562949886312158 m) {n : Fin 32} {a : Fin 32} {b : Fin 32} {off : BitVec 13} {s : State} (hk : Kept m s0 s) : OutKept m s0 (execCbeq n a b off s) := by
  unfold execCbeq
  refine OutKept.next ?_
  refine State.cb_kept hp ?_
  assumption

theorem execCbne_kept {m : Nat} {s0 : State} (hp : Sub 562949886312158 m) {n : Fin 32} {a : Fin 32} {b : Fin 32} {off : BitVec 13} {s : State} (hk : Kept m s0 s) : OutKept m s0 (execCbne n a b off s) := by
  unfold execCbne
  refine OutKept.next ?_
  refine State.cb_kept hp ?_
  assumption

theorem execCblt_kept {m : Nat} {s0 : State} (hp : Sub 562949886312158 m) {n : Fin 32} {a : Fin 32} {b : Fin 32} {off : BitVec 13} {s : State} (hk : Kept m s0 s) : OutKept m s0 (execCblt n a b off s) := by
  unfold execCblt
  refine OutKept.next ?_
  refine State.cb_kept hp ?_
  assumption

theorem execCbge_kept {m : Nat} {s0 : State} (hp : Sub 562949886312158 m) {n : Fin 32} {a : Fin 32} {b : Fin 32} {off : BitVec 13} {s : State} (hk : Kept m s0 s) : OutKept m s0 (execCbge n a b off s) := by
  unfold execCbge
  refine OutKept.next ?_
  refine State.cb_kept hp ?_
  assumption

theorem execCbltu_kept {m : Nat} {s0 : State} (hp : Sub 562949886312158 m) {n : Fin 32} {a : Fin 32} {b : Fin 32} {off : BitVec 13} {s : State} (hk : Kept m s0 s) : OutKept m s0 (execCbltu n a b off s) := by
  unfold execCbltu
  refine OutKept.next ?_
  refine State.cb_kept hp ?_
  assumption

theorem execCbgeu_kept {m : Nat} {s0 : State} (hp : Sub 562949886312158 m) {n : Fin 32} {a : Fin 32} {b : Fin 32} {off : BitVec 13} {s : State} (hk : Kept m s0 s) : OutKept m s0 (execCbgeu n a b off s) := by
  unfold execCbgeu
  refine OutKept.next ?_
  refine State.cb_kept hp ?_
  assumption

theorem execJlink_kept {m : Nat} {s0 : State} (hp : Sub 562949886312158 m) {n : Fin 32} {d : Fin 32} {k : BitVec 23} {s : State} (hk : Kept m s0 s) : OutKept m s0 (execJlink n d k s) := by
  unfold execJlink
  refine OutKept.next ?_
  refine State.insn_kept hp (fun a0 h1 => ?_) ?_
  · extract_lets +onlyGivenNames x2
    extract_lets +onlyGivenNames x3
    have h4 : Kept m s0 x3 := by
      unfold x3
      refine State.pmu_kept (Sub.trans (b := 562949886312158) (by decide) hp) ?_
      refine Kept.cond (fun _ => ?_) (fun _ => ?_)
      · refine State.pushRet_kept (Sub.trans (b := 562949886312158) (by decide) hp) ?_
        assumption
      · assumption
    try (generalize x3 = y3 at h4 ⊢; try clear x3)
    extract_lets +onlyGivenNames x5
    have h6 : Kept m s0 x5 := by
      unfold x5
      refine Kept.cond (fun _ => ?_) (fun _ => ?_)
      · refine State.pmu_kept (Sub.trans (b := 562949886312158) (by decide) hp) ?_
        assumption
      · assumption
    try (generalize x5 = y5 at h6 ⊢; try clear x5)
    refine Flow.jump_kept ?_
    refine State.gw_kept (Sub.trans (b := 562949886312158) (by decide) hp) ?_
    assumption
  · assumption

theorem execJlinkr_kept {m : Nat} {s0 : State} (hp : Sub 562949886312158 m) {n : Fin 32} {d : Fin 32} {a : Fin 32} {minor : BitVec 5} {k : BitVec 13} {s : State} (hk : Kept m s0 s) : OutKept m s0 (execJlinkr n d a minor k s) := by
  unfold execJlinkr
  refine OutKept.next ?_
  refine State.insn_kept hp (fun a0 h1 => ?_) ?_
  · extract_lets +onlyGivenNames x2
    extract_lets +onlyGivenNames x3
    extract_lets +onlyGivenNames x4
    have h5 : Kept m s0 x4 := by
      unfold x4
      refine State.pmu_kept (Sub.trans (b := 562949886312158) (by decide) hp) ?_
      assumption
    try (generalize x4 = y4 at h5 ⊢; try clear x4)
    extract_lets +onlyGivenNames x6
    have h7 : Kept m s0 x6 := by
      unfold x6
      refine Kept.cond (fun _ => ?_) (fun _ => ?_)
      · refine State.pmu_kept (Sub.trans (b := 562949886312158) (by decide) hp) ?_
        refine State.pushRet_kept (Sub.trans (b := 562949886312158) (by decide) hp) ?_
        assumption
      · refine Kept.cond (fun _ => ?_) (fun _ => ?_)
        · refine Kept.cond (fun _ => ?_) (fun _ => ?_)
          · refine State.wrongPath_kept (Sub.trans (b := 562949886312158) (by decide) hp) ?_
            refine State.popRet_kept (Sub.trans (b := 562949886312158) (by decide) hp) ?_
            assumption
          · refine State.popRet_kept (Sub.trans (b := 562949886312158) (by decide) hp) ?_
            assumption
        · refine State.pmu_kept (Sub.trans (b := 562949886312158) (by decide) hp) ?_
          assumption
    try (generalize x6 = y6 at h7 ⊢; try clear x6)
    refine Flow.jump_kept ?_
    refine State.emitCC_kept (Sub.trans (b := 562949886312158) (by decide) hp) ?_
    refine State.gw_kept (Sub.trans (b := 562949886312158) (by decide) hp) ?_
    assumption
  · assumption

theorem execMkhi_kept {m : Nat} {s0 : State} (hp : Sub 562949886312158 m) {n : Fin 32} {d : Fin 32} {k : BitVec 23} {s : State} (hk : Kept m s0 s) : OutKept m s0 (execMkhi n d k s) := by
  unfold execMkhi
  refine OutKept.next ?_
  refine State.insnU_kept hp (fun a0 h1 => ?_) ?_
  · refine State.result_kept (Sub.trans (b := 562949886312158) (by decide) hp) ?_
    assumption
  · assumption

theorem execPchi_kept {m : Nat} {s0 : State} (hp : Sub 562949886312158 m) {n : Fin 32} {d : Fin 32} {k : BitVec 23} {s : State} (hk : Kept m s0 s) : OutKept m s0 (execPchi n d k s) := by
  unfold execPchi
  refine OutKept.next ?_
  refine State.insnU_kept hp (fun a0 h1 => ?_) ?_
  · refine State.result_kept (Sub.trans (b := 562949886312158) (by decide) hp) ?_
    assumption
  · assumption

theorem execLoop_kept {m : Nat} {s0 : State} (hp : Sub 562949886312158 m) {n : Fin 32} {a : Fin 32} {e : BitVec 13} {z1 : BitVec 5} {z2 : BitVec 5} {s : State} (hk : Kept m s0 s) : OutKept m s0 (execLoop n a e z1 z2 s) := by
  unfold execLoop
  refine OutKept.next ?_
  refine State.insn_kept hp (fun a0 h1 => ?_) ?_
  · extract_lets +onlyGivenNames x2
    extract_lets +onlyGivenNames x3
    extract_lets +onlyGivenNames x4
    have h5 : Kept m s0 x4 := by
      unfold x4
      refine State.setSr_kept (Sub.trans (b := 562949886312158) (by decide) hp) ?_
      refine State.setSr_kept (Sub.trans (b := 562949886312158) (by decide) hp) ?_
      assumption
    try (generalize x4 = y4 at h5 ⊢; try clear x4)
    extract_lets +onlyGivenNames x6
    have h7 : Kept m s0 x6 := by
      unfold x6
      refine State.atom_kept (Sub.trans (b := 562949886312158) (by decide) hp) ?_
      assumption
    try (generalize x6 = y6 at h7 ⊢; try clear x6)
    refine FlowKept.cond (fun _ => ?_) (fun _ => ?_)
    · refine Flow.jump_kept ?_
      assumption
    · refine Flow.next_kept ?_
      assumption
  · assumption

end Sys2Proof.Machine
end

