-- ==== Sys2Proof/Laws/KeptP64Mem.lean ====
section
/-!
SUPPORT. What the definitions of Machine/P64Mem.lean keep: one lemma each.
-/
namespace Sys2Proof.Machine

theorem State.trParts_kept {m : Nat} {s0 : State} (hp : Sub 131072 m) {s : State} {n : Nat} {acc : Acc} {x3_ : List (W64 × Nat)} (hk : Kept m s0 s) : Kept m s0 (State.trParts s n acc x3_).1 := by
  unfold State.trParts
  split
  · show Kept m s0 _
    assumption
  · split
    · next e2 =>
        have h3 : Kept m s0 _ := Kept.fst e2 (by
            refine State.translate_kept hp ?_
            assumption
          )
        show Kept m s0 _
        assumption
    · next e7 =>
        have h16 : Kept m s0 _ := Kept.fst e7 (by
            refine State.translate_kept hp ?_
            assumption
          )
        split
        · next e10 =>
            have h11 : Kept m s0 _ := Kept.fst e10 (by
                refine State.trParts_kept hp ?_
                assumption
              )
            show Kept m s0 _
            assumption
        · next e14 =>
            have h15 : Kept m s0 _ := Kept.fst e14 (by
                refine State.trParts_kept hp ?_
                assumption
              )
            show Kept m s0 _
            assumption

theorem State.access_kept {m : Nat} {s0 : State} (hp : Sub 131072 m) {s : State} {n : Nat} {acc : Acc} {va : W64} {k : Nat} (hk : Kept m s0 s) : Kept m s0 (State.access s n acc va k).1 := by
  unfold State.access
  split
  · next e2 =>
      have h3 : Kept m s0 _ := Kept.fst e2 (by
          refine State.trParts_kept hp ?_
          assumption
        )
      refine Kept.cond1 (fun _ => ?_) (fun _ => ?_)
      · show Kept m s0 _
        assumption
      · show Kept m s0 _
        assumption
  · next e6 =>
      have h7 : Kept m s0 _ := Kept.fst e6 (by
          refine State.trParts_kept hp ?_
          assumption
        )
      show Kept m s0 _
      assumption

theorem State.order_kept {m : Nat} {s0 : State} (hp : Sub 562949886312154 m) {s : State} {n : Nat} {l : List Part} (hk : Kept m s0 s) : Kept m s0 (State.order s n l) := by
  unfold State.order
  refine State.orderFor_kept hp ?_
  assumption

theorem State.l2Took_kept {m : Nat} {s0 : State} (hp : Sub 393216 m) {s : State} {n : Nat} {l : List Part} (hk : Kept m s0 s) : Kept m s0 (State.l2Took s n l) := by
  unfold State.l2Took
  refine Kept.forEach (fun z0 a1 h2 => ?_) ?_
  · refine Kept.cond (fun _ => ?_) (fun _ => ?_)
    · refine State.l2Evict_kept hp ?_
      assumption
    · assumption
  · assumption

theorem State.prefetch_kept {m : Nat} {s0 : State} (hp : Sub 393216 m) {s : State} {n : Nat} {pa : Nat} (hk : Kept m s0 s) : Kept m s0 (State.prefetch s n pa) := by
  unfold State.prefetch
  refine Kept.cond (fun _ => ?_) (fun _ => ?_)
  · assumption
  · extract_lets +onlyGivenNames x0
    extract_lets +onlyGivenNames x1
    extract_lets +onlyGivenNames x2
    extract_lets +onlyGivenNames x3
    have h4 : Kept m s0 x3 := by
      unfold x3
      first | refine State.setCor_keptOf (Sub.trans (b := 393216) (by decide) hp) (by assumption) (fun h => h) ?_ | refine State.setCor_kept (Sub.trans (b := 393216) (by decide) hp) (by first | exact fun h => h | exact fun _ => ⟨Nat.zero_le _, Nat.zero_le _, Nat.zero_le _⟩ | exact fun h => ⟨Nat.zero_le _, h.2⟩ | exact fun h => ⟨List.length_take_le _ _, h.2⟩ | (intro h; simp +zetaDelta only [Core.inCap] at h ⊢; exact h) | exact fun h => ⟨h.1, Nat.le_trans (List.length_filter_le _ _) h.2.1, Nat.le_trans (List.length_filter_le _ _) h.2.2⟩) ?_
      assumption
    try (generalize x3 = y3 at h4 ⊢; try clear x3)
    refine Kept.cond (fun _ => ?_) (fun _ => ?_)
    · assumption
    · extract_lets +onlyGivenNames x5
      extract_lets +onlyGivenNames x6
      refine Kept.cond (fun _ => ?_) (fun _ => ?_)
      · refine State.l2Fill_kept hp ?_
        refine State.tick1_kept (Sub.trans (b := 393216) (by decide) hp) ?_
        assumption
      · refine State.tick1_kept (Sub.trans (b := 393216) (by decide) hp) ?_
        assumption

theorem State.trained_kept {m : Nat} {s0 : State} (hp : Sub 393216 m) {s : State} {n : Nat} {wb : Bool} {ps : List (Nat × Nat)} (hk : Kept m s0 s) : Kept m s0 (State.trained s n wb ps) := by
  unfold State.trained
  split
  · refine Kept.cond (fun _ => ?_) (fun _ => ?_)
    · refine State.prefetch_kept hp ?_
      assumption
    · assumption
  · assumption

theorem State.loadOp_kept {m : Nat} {s0 : State} (hp : Sub 562949886312154 m) {s : State} {n : Nat} {d : Nat} {k : Nat} {signed : Bool} {hit : Bool} {va : W64} (hk : Kept m s0 s) : FlowKept m s0 (State.loadOp s n d k signed hit va) := by
  unfold State.loadOp
  split
  · next e2 =>
      have h3 : Kept m s0 _ := Kept.fst e2 (by
          refine State.access_kept (Sub.trans (b := 562949886312154) (by decide) hp) ?_
          assumption
        )
      refine Flow.exc_kept ?_
      assumption
  · next e6 =>
      have h17 : Kept m s0 _ := Kept.fst e6 (by
          refine State.access_kept (Sub.trans (b := 562949886312154) (by decide) hp) ?_
          assumption
        )
      extract_lets +onlyGivenNames x7
      have h8 : Kept m s0 x7 := by
        unfold x7
        refine State.order_kept hp ?_
        assumption
      try (generalize x7 = y7 at h8 ⊢; try clear x7)
      extract_lets +onlyGivenNames x9
      have h10 : Kept m s0 x9 := by
        unfold x9
        refine Kept.cond (fun _ => ?_) (fun _ => ?_)
        · assumption
        · refine State.l2Took_kept (Sub.trans (b := 562949886312154) (by decide) hp) ?_
          assumption
      try (generalize x9 = y9 at h10 ⊢; try clear x9)
      extract_lets +onlyGivenNames x11
      extract_lets +onlyGivenNames x12
      extract_lets +onlyGivenNames x13
      try clear_value x12
      split
      · refine Flow.next_kept ?_
        refine State.trained_kept (Sub.trans (b := 562949886312154) (by decide) hp) ?_
        refine State.gw_kept (Sub.trans (b := 562949886312154) (by decide) hp) ?_
        refine State.note_kept (Sub.trans (b := 562949886312154) (by decide) hp) ?_
        assumption
      · split
        · refine Flow.next_kept ?_
          refine State.trained_kept (Sub.trans (b := 562949886312154) (by decide) hp) ?_
          refine State.gw_kept (Sub.trans (b := 562949886312154) (by decide) hp) ?_
          refine Kept.forEach (fun z14 a15 h16 => ?_) ?_
          · refine State.loaded_kept (Sub.trans (b := 562949886312154) (by decide) hp) ?_
            assumption
          · assumption
        · refine Flow.hold_kept ?_
          first | refine State.setCor_keptOf (Sub.trans (b := 562949886312154) (by decide) hp) (by assumption) (fun h => h) ?_ | refine State.setCor_kept (Sub.trans (b := 562949886312154) (by decide) hp) (by first | exact fun h => h | exact fun _ => ⟨Nat.zero_le _, Nat.zero_le _, Nat.zero_le _⟩ | exact fun h => ⟨Nat.zero_le _, h.2⟩ | exact fun h => ⟨List.length_take_le _ _, h.2⟩ | (intro h; simp +zetaDelta only [Core.inCap] at h ⊢; exact h) | exact fun h => ⟨h.1, Nat.le_trans (List.length_filter_le _ _) h.2.1, Nat.le_trans (List.length_filter_le _ _) h.2.2⟩) ?_
          assumption

theorem State.ld_kept {m : Nat} {s0 : State} (hp : Sub 562949886312158 m) {s : State} {n : Nat} {d : Nat} {a : Nat} {off : BitVec 13} {k : Nat} {signed : Bool} {hit : Bool} (hk : Kept m s0 s) : Kept m s0 (State.ld s n d a off k signed hit) := by
  unfold State.ld
  refine State.insnU_kept hp (fun a0 h1 => ?_) ?_
  · refine State.loadOp_kept (Sub.trans (b := 562949886312158) (by decide) hp) ?_
    assumption
  · assumption

theorem State.readParts_kept {m : Nat} {s0 : State} (hp : Sub 562949472813056 m) {s : State} {q : Req} {x2_ : List (Nat × Nat)} (hk : Kept m s0 s) : Kept m s0 (State.readParts s q x2_).1 := by
  unfold State.readParts
  split
  · show Kept m s0 _
    assumption
  · split
    · next e1 =>
        have h2 : Kept m s0 _ := Kept.fst e1 (by
            refine State.busRd_kept hp ?_
            assumption
          )
        show Kept m s0 _
        assumption
    · next e5 =>
        have h13 : Kept m s0 _ := Kept.fst e5 (by
            refine State.busRd_kept hp ?_
            assumption
          )
        split
        · next e7 =>
            have h8 : Kept m s0 _ := Kept.fst e7 (by
                refine State.readParts_kept hp ?_
                assumption
              )
            show Kept m s0 _
            assumption
        · next e11 =>
            have h12 : Kept m s0 _ := Kept.fst e11 (by
                refine State.readParts_kept hp ?_
                assumption
              )
            show Kept m s0 _
            assumption

theorem State.loadEcc_kept {m : Nat} {s0 : State} (hp : Sub 351843721150464 m) {s : State} {w : LoadWait} {e : Ecc} (hk : Kept m s0 s) : Kept m s0 (State.loadEcc s w e).1 := by
  unfold State.loadEcc
  split
  · refine State.memErr_kept hp ?_
    assumption
  · show Kept m s0 _
    assumption

theorem execLoadDataReturn_kept {m : Nat} {s0 : State} (hp : Sub 562949886312158 m) {n : Fin 32} {e : Ecc} {s : State} (hk : Kept m s0 s) : OutKept m s0 (execLoadDataReturn n e s) := by
  unfold execLoadDataReturn
  refine OutKept.next ?_
  split
  · assumption
  · refine Kept.cond (fun _ => ?_) (fun _ => ?_)
    · assumption
    · split
      · next e2 =>
          have h15 : Kept m s0 _ := Kept.fst e2 (by
              refine State.loadEcc_kept (Sub.trans (b := 562949886312158) (by decide) hp) ?_
              first | refine State.setCor_keptOf (Sub.trans (b := 562949886312158) (by decide) hp) (by assumption) (fun h => h) ?_ | refine State.setCor_kept (Sub.trans (b := 562949886312158) (by decide) hp) (by first | exact fun h => h | exact fun _ => ⟨Nat.zero_le _, Nat.zero_le _, Nat.zero_le _⟩ | exact fun h => ⟨Nat.zero_le _, h.2⟩ | exact fun h => ⟨List.length_take_le _ _, h.2⟩ | (intro h; simp +zetaDelta only [Core.inCap] at h ⊢; exact h) | exact fun h => ⟨h.1, Nat.le_trans (List.length_filter_le _ _) h.2.1, Nat.le_trans (List.length_filter_le _ _) h.2.2⟩) ?_
              assumption
            )
          split
          · next e4 =>
              have h5 : Kept m s0 _ := Kept.fst e4 (by
                  refine Kept.cond1 (fun _ => ?_) (fun _ => ?_)
                  · show Kept m s0 _
                    assumption
                  · refine State.readParts_kept (Sub.trans (b := 562949886312158) (by decide) hp) ?_
                    assumption
                )
              refine State.trap_kept hp ?_
              assumption
          · next e8 =>
              have h14 : Kept m s0 _ := Kept.fst e8 (by
                  refine Kept.cond1 (fun _ => ?_) (fun _ => ?_)
                  · show Kept m s0 _
                    assumption
                  · refine State.readParts_kept (Sub.trans (b := 562949886312158) (by decide) hp) ?_
                    assumption
                )
              extract_lets +onlyGivenNames x9
              have h10 : Kept m s0 x9 := by
                unfold x9
                refine Kept.forEach (fun z11 a12 h13 => ?_) ?_
                · refine State.loaded_kept (Sub.trans (b := 562949886312158) (by decide) hp) ?_
                  assumption
                · assumption
              try (generalize x9 = y9 at h10 ⊢; try clear x9)
              refine State.retire_kept (Sub.trans (b := 562949886312158) (by decide) hp) ?_
              refine State.trained_kept (Sub.trans (b := 562949886312158) (by decide) hp) ?_
              refine State.gw_kept (Sub.trans (b := 562949886312158) (by decide) hp) ?_
              refine Kept.cond (fun _ => ?_) (fun _ => ?_)
              · refine State.note_kept (Sub.trans (b := 562949886312158) (by decide) hp) ?_
                assumption
              · assumption

theorem State.storeParts_kept {m : Nat} {s0 : State} (hp : Sub 562949886312154 m) {s : State} {n : Nat} {b : Bytes} {x3_ : List Part} (hk : Kept m s0 s) : Kept m s0 (State.storeParts s n b x3_) := by
  unfold State.storeParts
  split
  · assumption
  · refine State.storeParts_kept hp ?_
    refine State.storeOut_kept hp ?_
    assumption

theorem State.st_kept {m : Nat} {s0 : State} (hp : Sub 562949886312158 m) {s : State} {n : Nat} {r : Nat} {a : Nat} {off : BitVec 13} {k : Nat} (hk : Kept m s0 s) : Kept m s0 (State.st s n r a off k) := by
  unfold State.st
  refine State.insnU_kept hp (fun a0 h1 => ?_) ?_
  · extract_lets +onlyGivenNames x2
    split
    · next e5 =>
        have h6 : Kept m s0 _ := Kept.fst e5 (by
            refine State.access_kept (Sub.trans (b := 562949886312158) (by decide) hp) ?_
            assumption
          )
        refine Flow.exc_kept ?_
        assumption
    · next e9 =>
        have h10 : Kept m s0 _ := Kept.fst e9 (by
            refine State.access_kept (Sub.trans (b := 562949886312158) (by decide) hp) ?_
            assumption
          )
        refine Flow.next_kept ?_
        refine State.storeParts_kept (Sub.trans (b := 562949886312158) (by decide) hp) ?_
        assumption
  · assumption

theorem execStoreDrain_kept {m : Nat} {s0 : State} (hp : Sub 562949886312154 m) {n : Fin 32} {s : State} (hk : Kept m s0 s) : OutKept m s0 (execStoreDrain n s) := by
  unfold execStoreDrain
  refine OutKept.next ?_
  refine Kept.cond (fun _ => ?_) (fun _ => ?_)
  · assumption
  · refine State.drain1_kept hp ?_
    assumption

theorem execLd8_kept {m : Nat} {s0 : State} (hp : Sub 562949886312158 m) {n : Fin 32} {d : Fin 32} {a : Fin 32} {k : BitVec 13} {hit : Bool} {s : State} (hk : Kept m s0 s) : OutKept m s0 (execLd8 n d a k hit s) := by
  unfold execLd8
  refine OutKept.next ?_
  refine State.ld_kept hp ?_
  assumption

theorem execLd8u_kept {m : Nat} {s0 : State} (hp : Sub 562949886312158 m) {n : Fin 32} {d : Fin 32} {a : Fin 32} {k : BitVec 13} {hit : Bool} {s : State} (hk : Kept m s0 s) : OutKept m s0 (execLd8u n d a k hit s) := by
  unfold execLd8u
  refine OutKept.next ?_
  refine State.ld_kept hp ?_
  assumption

theorem execLd16_kept {m : Nat} {s0 : State} (hp : Sub 562949886312158 m) {n : Fin 32} {d : Fin 32} {a : Fin 32} {k : BitVec 13} {hit : Bool} {s : State} (hk : Kept m s0 s) : OutKept m s0 (execLd16 n d a k hit s) := by
  unfold execLd16
  refine OutKept.next ?_
  refine State.ld_kept hp ?_
  assumption

theorem execLd16u_kept {m : Nat} {s0 : State} (hp : Sub 562949886312158 m) {n : Fin 32} {d : Fin 32} {a : Fin 32} {k : BitVec 13} {hit : Bool} {s : State} (hk : Kept m s0 s) : OutKept m s0 (execLd16u n d a k hit s) := by
  unfold execLd16u
  refine OutKept.next ?_
  refine State.ld_kept hp ?_
  assumption

theorem execLd32_kept {m : Nat} {s0 : State} (hp : Sub 562949886312158 m) {n : Fin 32} {d : Fin 32} {a : Fin 32} {k : BitVec 13} {hit : Bool} {s : State} (hk : Kept m s0 s) : OutKept m s0 (execLd32 n d a k hit s) := by
  unfold execLd32
  refine OutKept.next ?_
  refine State.ld_kept hp ?_
  assumption

theorem execLd32u_kept {m : Nat} {s0 : State} (hp : Sub 562949886312158 m) {n : Fin 32} {d : Fin 32} {a : Fin 32} {k : BitVec 13} {hit : Bool} {s : State} (hk : Kept m s0 s) : OutKept m s0 (execLd32u n d a k hit s) := by
  unfold execLd32u
  refine OutKept.next ?_
  refine State.ld_kept hp ?_
  assumption

theorem execLd64_kept {m : Nat} {s0 : State} (hp : Sub 562949886312158 m) {n : Fin 32} {d : Fin 32} {a : Fin 32} {k : BitVec 13} {hit : Bool} {s : State} (hk : Kept m s0 s) : OutKept m s0 (execLd64 n d a k hit s) := by
  unfold execLd64
  refine OutKept.next ?_
  refine State.ld_kept hp ?_
  assumption

theorem execSt8_kept {m : Nat} {s0 : State} (hp : Sub 562949886312158 m) {n : Fin 32} {r : Fin 32} {a : Fin 32} {k : BitVec 13} {s : State} (hk : Kept m s0 s) : OutKept m s0 (execSt8 n r a k s) := by
  unfold execSt8
  refine OutKept.next ?_
  refine State.st_kept hp ?_
  assumption

theorem execSt16_kept {m : Nat} {s0 : State} (hp : Sub 562949886312158 m) {n : Fin 32} {r : Fin 32} {a : Fin 32} {k : BitVec 13} {s : State} (hk : Kept m s0 s) : OutKept m s0 (execSt16 n r a k s) := by
  unfold execSt16
  refine OutKept.next ?_
  refine State.st_kept hp ?_
  assumption

theorem execSt32_kept {m : Nat} {s0 : State} (hp : Sub 562949886312158 m) {n : Fin 32} {r : Fin 32} {a : Fin 32} {k : BitVec 13} {s : State} (hk : Kept m s0 s) : OutKept m s0 (execSt32 n r a k s) := by
  unfold execSt32
  refine OutKept.next ?_
  refine State.st_kept hp ?_
  assumption

theorem execSt64_kept {m : Nat} {s0 : State} (hp : Sub 562949886312158 m) {n : Fin 32} {r : Fin 32} {a : Fin 32} {k : BitVec 13} {s : State} (hk : Kept m s0 s) : OutKept m s0 (execSt64 n r a k s) := by
  unfold execSt64
  refine OutKept.next ?_
  refine State.st_kept hp ?_
  assumption

theorem State.atomic_kept {m : Nat} {s0 : State} (hp : Sub 562949886312158 m) {s : State} {n : Nat} {d : Nat} {a : Nat} {k : Nat} {legal : Bool} {rsv : State → Nat → Option (Nat × Nat)} {f : AtomF} (hk : Kept m s0 s) : Kept m s0 (State.atomic s n d a k legal rsv f) := by
  unfold State.atomic
  refine State.insnU_kept hp (fun a0 h1 => ?_) ?_
  · extract_lets +onlyGivenNames x2
    have h3 : Kept m s0 x2 := by
      unfold x2
      refine State.drainAll_kept (Sub.trans (b := 562949886312158) (by decide) hp) ?_
      assumption
    try (generalize x2 = y2 at h3 ⊢; try clear x2)
    extract_lets +onlyGivenNames x4
    refine FlowKept.cond (fun _ => ?_) (fun _ => ?_)
    · refine Flow.exc_kept ?_
      assumption
    · split
      · next e7 =>
          have h8 : Kept m s0 _ := Kept.fst e7 (by
              refine State.translate_kept (Sub.trans (b := 562949886312158) (by decide) hp) ?_
              assumption
            )
          refine Flow.exc_kept ?_
          assumption
      · next e12 =>
          have h28 : Kept m s0 _ := Kept.fst e12 (by
              refine State.translate_kept (Sub.trans (b := 562949886312158) (by decide) hp) ?_
              assumption
            )
          refine FlowKept.cond (fun _ => ?_) (fun _ => ?_)
          · refine Flow.exc_kept ?_
            assumption
          · split
            · next e14 =>
                have h15 : Kept m s0 _ := Kept.fst e14 (by
                    refine State.busRd_kept (Sub.trans (b := 562949886312158) (by decide) hp) ?_
                    assumption
                  )
                refine Flow.exc_kept ?_
                assumption
            · next e18 =>
                have h27 : Kept m s0 _ := Kept.fst e18 (by
                    refine State.busRd_kept (Sub.trans (b := 562949886312158) (by decide) hp) ?_
                    assumption
                  )
                extract_lets +onlyGivenNames x19
                extract_lets +onlyGivenNames x20
                have h21 : Kept m s0 x20 := by
                  unfold x20
                  refine State.loaded_kept (Sub.trans (b := 562949886312158) (by decide) hp) ?_
                  assumption
                try (generalize x20 = y20 at h21 ⊢; try clear x20)
                extract_lets +onlyGivenNames x22
                extract_lets +onlyGivenNames x23
                have h24 : Kept m s0 x23 := by
                  unfold x23
                  first | refine State.setCor_keptOf (Sub.trans (b := 562949886312158) (by decide) hp) (by assumption) (fun h => h) ?_ | refine State.setCor_kept (Sub.trans (b := 562949886312158) (by decide) hp) (by first | exact fun h => h | exact fun _ => ⟨Nat.zero_le _, Nat.zero_le _, Nat.zero_le _⟩ | exact fun h => ⟨Nat.zero_le _, h.2⟩ | exact fun h => ⟨List.length_take_le _ _, h.2⟩ | (intro h; simp +zetaDelta only [Core.inCap] at h ⊢; exact h) | exact fun h => ⟨h.1, Nat.le_trans (List.length_filter_le _ _) h.2.1, Nat.le_trans (List.length_filter_le _ _) h.2.2⟩) ?_
                  assumption
                try (generalize x23 = y23 at h24 ⊢; try clear x23)
                extract_lets +onlyGivenNames x25
                have h26 : Kept m s0 x25 := by
                  unfold x25
                  split
                  · refine State.drainAll_kept (Sub.trans (b := 562949886312158) (by decide) hp) ?_
                    refine State.sbPush_kept (Sub.trans (b := 562949886312158) (by decide) hp) ?_
                    assumption
                  · assumption
                try (generalize x25 = y25 at h26 ⊢; try clear x25)
                refine Flow.next_kept ?_
                refine State.gw_kept (Sub.trans (b := 562949886312158) (by decide) hp) ?_
                assumption
  · assumption

theorem State.rmw_kept {m : Nat} {s0 : State} (hp : Sub 562949886312158 m) {s : State} {n : Nat} {d : Fin 32} {a : Fin 32} {b : Fin 32} {z : BitVec 8} {k : Nat} {f : Nat → Nat → Nat} (hk : Kept m s0 s) : Kept m s0 (State.rmw s n d a b z k f) := by
  unfold State.rmw
  refine State.atomic_kept hp ?_
  assumption

theorem State.rsvOp_kept {m : Nat} {s0 : State} (hp : Sub 562949886312158 m) {s : State} {n : Nat} {d : Fin 32} {a : Fin 32} {b : Fin 32} {z : BitVec 8} {k : Nat} (hk : Kept m s0 s) : Kept m s0 (State.rsvOp s n d a b z k) := by
  unfold State.rsvOp
  refine State.atomic_kept hp ?_
  assumption

theorem State.cmtOp_kept {m : Nat} {s0 : State} (hp : Sub 562949886312158 m) {s : State} {n : Nat} {d : Fin 32} {a : Fin 32} {b : Fin 32} {z : BitVec 8} {k : Nat} (hk : Kept m s0 s) : Kept m s0 (State.cmtOp s n d a b z k) := by
  unfold State.cmtOp
  refine State.atomic_kept hp ?_
  assumption

theorem State.casOp_kept {m : Nat} {s0 : State} (hp : Sub 562949886312158 m) {s : State} {n : Nat} {d : Fin 32} {a : Fin 32} {b : Fin 32} {z : BitVec 8} {k : Nat} (hk : Kept m s0 s) : Kept m s0 (State.casOp s n d a b z k) := by
  unfold State.casOp
  refine State.atomic_kept hp ?_
  assumption

theorem execRsv32_kept {m : Nat} {s0 : State} (hp : Sub 562949886312158 m) {n : Fin 32} {d : Fin 32} {a : Fin 32} {b : Fin 32} {z : BitVec 8} {s : State} (hk : Kept m s0 s) : OutKept m s0 (execRsv32 n d a b z s) := by
  unfold execRsv32
  refine OutKept.next ?_
  refine State.rsvOp_kept hp ?_
  assumption

theorem execCmt32_kept {m : Nat} {s0 : State} (hp : Sub 562949886312158 m) {n : Fin 32} {d : Fin 32} {a : Fin 32} {b : Fin 32} {z : BitVec 8} {s : State} (hk : Kept m s0 s) : OutKept m s0 (execCmt32 n d a b z s) := by
  unfold execCmt32
  refine OutKept.next ?_
  refine State.cmtOp_kept hp ?_
  assumption

theorem execAtswap32_kept {m : Nat} {s0 : State} (hp : Sub 562949886312158 m) {n : Fin 32} {d : Fin 32} {a : Fin 32} {b : Fin 32} {z : BitVec 8} {s : State} (hk : Kept m s0 s) : OutKept m s0 (execAtswap32 n d a b z s) := by
  unfold execAtswap32
  refine OutKept.next ?_
  refine State.rmw_kept hp ?_
  assumption

theorem execAtadd32_kept {m : Nat} {s0 : State} (hp : Sub 562949886312158 m) {n : Fin 32} {d : Fin 32} {a : Fin 32} {b : Fin 32} {z : BitVec 8} {s : State} (hk : Kept m s0 s) : OutKept m s0 (execAtadd32 n d a b z s) := by
  unfold execAtadd32
  refine OutKept.next ?_
  refine State.rmw_kept hp ?_
  assumption

theorem execAtand32_kept {m : Nat} {s0 : State} (hp : Sub 562949886312158 m) {n : Fin 32} {d : Fin 32} {a : Fin 32} {b : Fin 32} {z : BitVec 8} {s : State} (hk : Kept m s0 s) : OutKept m s0 (execAtand32 n d a b z s) := by
  unfold execAtand32
  refine OutKept.next ?_
  refine State.rmw_kept hp ?_
  assumption

theorem execAtor32_kept {m : Nat} {s0 : State} (hp : Sub 562949886312158 m) {n : Fin 32} {d : Fin 32} {a : Fin 32} {b : Fin 32} {z : BitVec 8} {s : State} (hk : Kept m s0 s) : OutKept m s0 (execAtor32 n d a b z s) := by
  unfold execAtor32
  refine OutKept.next ?_
  refine State.rmw_kept hp ?_
  assumption

theorem execAtcas32_kept {m : Nat} {s0 : State} (hp : Sub 562949886312158 m) {n : Fin 32} {d : Fin 32} {a : Fin 32} {b : Fin 32} {z : BitVec 8} {s : State} (hk : Kept m s0 s) : OutKept m s0 (execAtcas32 n d a b z s) := by
  unfold execAtcas32
  refine OutKept.next ?_
  refine State.casOp_kept hp ?_
  assumption

theorem execRsv64_kept {m : Nat} {s0 : State} (hp : Sub 562949886312158 m) {n : Fin 32} {d : Fin 32} {a : Fin 32} {b : Fin 32} {z : BitVec 8} {s : State} (hk : Kept m s0 s) : OutKept m s0 (execRsv64 n d a b z s) := by
  unfold execRsv64
  refine OutKept.next ?_
  refine State.rsvOp_kept hp ?_
  assumption

theorem execCmt64_kept {m : Nat} {s0 : State} (hp : Sub 562949886312158 m) {n : Fin 32} {d : Fin 32} {a : Fin 32} {b : Fin 32} {z : BitVec 8} {s : State} (hk : Kept m s0 s) : OutKept m s0 (execCmt64 n d a b z s) := by
  unfold execCmt64
  refine OutKept.next ?_
  refine State.cmtOp_kept hp ?_
  assumption

theorem execAtswap64_kept {m : Nat} {s0 : State} (hp : Sub 562949886312158 m) {n : Fin 32} {d : Fin 32} {a : Fin 32} {b : Fin 32} {z : BitVec 8} {s : State} (hk : Kept m s0 s) : OutKept m s0 (execAtswap64 n d a b z s) := by
  unfold execAtswap64
  refine OutKept.next ?_
  refine State.rmw_kept hp ?_
  assumption

theorem execAtadd64_kept {m : Nat} {s0 : State} (hp : Sub 562949886312158 m) {n : Fin 32} {d : Fin 32} {a : Fin 32} {b : Fin 32} {z : BitVec 8} {s : State} (hk : Kept m s0 s) : OutKept m s0 (execAtadd64 n d a b z s) := by
  unfold execAtadd64
  refine OutKept.next ?_
  refine State.rmw_kept hp ?_
  assumption

theorem execAtand64_kept {m : Nat} {s0 : State} (hp : Sub 562949886312158 m) {n : Fin 32} {d : Fin 32} {a : Fin 32} {b : Fin 32} {z : BitVec 8} {s : State} (hk : Kept m s0 s) : OutKept m s0 (execAtand64 n d a b z s) := by
  unfold execAtand64
  refine OutKept.next ?_
  refine State.rmw_kept hp ?_
  assumption

theorem execAtor64_kept {m : Nat} {s0 : State} (hp : Sub 562949886312158 m) {n : Fin 32} {d : Fin 32} {a : Fin 32} {b : Fin 32} {z : BitVec 8} {s : State} (hk : Kept m s0 s) : OutKept m s0 (execAtor64 n d a b z s) := by
  unfold execAtor64
  refine OutKept.next ?_
  refine State.rmw_kept hp ?_
  assumption

theorem execAtcas64_kept {m : Nat} {s0 : State} (hp : Sub 562949886312158 m) {n : Fin 32} {d : Fin 32} {a : Fin 32} {b : Fin 32} {z : BitVec 8} {s : State} (hk : Kept m s0 s) : OutKept m s0 (execAtcas64 n d a b z s) := by
  unfold execAtcas64
  refine OutKept.next ?_
  refine State.casOp_kept hp ?_
  assumption

end Sys2Proof.Machine
end

