-- ==== Sys2Proof/Laws/KeptP64Sys.lean ====
section
/-!
SUPPORT. What the definitions of Machine/P64Sys.lean keep: one lemma each.
-/
namespace Sys2Proof.Machine

theorem execCoreTimerFire_kept {m : Nat} {s0 : State} (hp : Sub 2336479641600 m) {n : Fin 32} {s : State} (hk : Kept m s0 s) : OutKept m s0 (execCoreTimerFire n s) := by
  unfold execCoreTimerFire
  refine OutKept.next ?_
  refine State.timerTry_kept hp ?_
  assumption

theorem State.srOp_kept {m : Nat} {s0 : State} (hp : Sub 562949886312158 m) {s : State} {n : Nat} {d : Nat} {k : Nat} {legal : Bool} {read : Bool} {f : Option (State → W64 → W64)} (hk : Kept m s0 s) : Kept m s0 (State.srOp s n d k legal read f) := by
  unfold State.srOp
  extract_lets +onlyGivenNames x0
  refine State.insn_kept hp (fun a1 h2 => ?_) ?_
  · extract_lets +onlyGivenNames x3
    have h4 : Kept m s0 x3 := by
      unfold x3
      refine Kept.cond (fun _ => ?_) (fun _ => ?_)
      · refine State.pmuSettle_kept (Sub.trans (b := 562949886312158) (by decide) hp) ?_
        assumption
      · assumption
    try (generalize x3 = y3 at h4 ⊢; try clear x3)
    extract_lets +onlyGivenNames x5
    extract_lets +onlyGivenNames x6
    split
    · refine Flow.next_kept ?_
      refine State.gw_kept (Sub.trans (b := 562949886312158) (by decide) hp) ?_
      refine State.srAfterRead_kept (Sub.trans (b := 562949886312158) (by decide) hp) ?_
      assumption
    · extract_lets +onlyGivenNames x7
      refine FlowKept.cond (fun _ => ?_) (fun _ => ?_)
      · refine Flow.exc_kept ?_
        assumption
      · extract_lets +onlyGivenNames x8
        have h9 : Kept m s0 x8 := by
          unfold x8
          refine Kept.cond (fun _ => ?_) (fun _ => ?_)
          · refine State.srAfterRead_kept (Sub.trans (b := 562949886312158) (by decide) hp) ?_
            assumption
          · assumption
        try (generalize x8 = y8 at h9 ⊢; try clear x8)
        extract_lets +onlyGivenNames x10
        have h11 : Kept m s0 x10 := by
          unfold x10
          refine State.detApply_kept (Sub.trans (b := 562949886312158) (by decide) hp) ?_
          refine State.srWrite_kept (Sub.trans (b := 562949886312158) (by decide) hp) ?_
          assumption
        try (generalize x10 = y10 at h11 ⊢; try clear x10)
        refine Flow.next_kept ?_
        refine Kept.cond (fun _ => ?_) (fun _ => ?_)
        · refine State.gw_kept (Sub.trans (b := 562949886312158) (by decide) hp) ?_
          assumption
        · assumption
  · assumption

theorem execMfsr_kept {m : Nat} {s0 : State} (hp : Sub 562949886312158 m) {n : Fin 32} {d : Fin 32} {a : BitVec 5} {k : BitVec 13} {s : State} (hk : Kept m s0 s) : OutKept m s0 (execMfsr n d a k s) := by
  unfold execMfsr
  refine OutKept.next ?_
  refine State.srOp_kept hp ?_
  assumption

theorem execMtsr_kept {m : Nat} {s0 : State} (hp : Sub 562949886312158 m) {n : Fin 32} {d : BitVec 5} {a : Fin 32} {k : BitVec 13} {s : State} (hk : Kept m s0 s) : OutKept m s0 (execMtsr n d a k s) := by
  unfold execMtsr
  refine OutKept.next ?_
  refine State.srOp_kept hp ?_
  assumption

theorem execMsset_kept {m : Nat} {s0 : State} (hp : Sub 562949886312158 m) {n : Fin 32} {d : Fin 32} {a : Fin 32} {k : BitVec 13} {s : State} (hk : Kept m s0 s) : OutKept m s0 (execMsset n d a k s) := by
  unfold execMsset
  refine OutKept.next ?_
  refine State.srOp_kept hp ?_
  assumption

theorem execMsclr_kept {m : Nat} {s0 : State} (hp : Sub 562949886312158 m) {n : Fin 32} {d : Fin 32} {a : Fin 32} {k : BitVec 13} {s : State} (hk : Kept m s0 s) : OutKept m s0 (execMsclr n d a k s) := by
  unfold execMsclr
  refine OutKept.next ?_
  refine State.srOp_kept hp ?_
  assumption

theorem execNop_kept {m : Nat} {s0 : State} (hp : Sub 562949886312158 m) {n : Fin 32} {d : BitVec 5} {a : BitVec 5} {k : BitVec 13} {s : State} (hk : Kept m s0 s) : OutKept m s0 (execNop n d a k s) := by
  unfold execNop
  refine OutKept.next ?_
  refine State.insnU_kept hp (fun a0 h1 => ?_) ?_
  · refine Flow.next_kept ?_
    assumption
  · assumption

theorem execSync_kept {m : Nat} {s0 : State} (hp : Sub 562949886312158 m) {n : Fin 32} {d : BitVec 5} {a : BitVec 5} {k : BitVec 13} {s : State} (hk : Kept m s0 s) : OutKept m s0 (execSync n d a k s) := by
  unfold execSync
  refine OutKept.next ?_
  refine State.insnU_kept hp (fun a0 h1 => ?_) ?_
  · refine Flow.next_kept ?_
    refine State.drainAll_kept (Sub.trans (b := 562949886312158) (by decide) hp) ?_
    assumption
  · assumption

theorem execIsync_kept {m : Nat} {s0 : State} (hp : Sub 562949886312158 m) {n : Fin 32} {d : BitVec 5} {a : BitVec 5} {k : BitVec 13} {s : State} (hk : Kept m s0 s) : OutKept m s0 (execIsync n d a k s) := by
  unfold execIsync
  refine OutKept.next ?_
  refine State.insnU_kept hp (fun a0 h1 => ?_) ?_
  · refine Flow.next_kept ?_
    refine State.syncFetch_kept (Sub.trans (b := 562949886312158) (by decide) hp) ?_
    assumption
  · assumption

theorem State.lineOp_kept {m : Nat} {s0 : State} (hp : Sub 562949886312158 m) {s : State} {n : Nat} {legal : Bool} {a : Fin 32} {f : State → Nat → State} (hfn_f : ∀ y0 y1, Kept m s0 y0 → Kept m s0 (f y0 y1)) (hk : Kept m s0 s) : Kept m s0 (State.lineOp s n legal a f) := by
  unfold State.lineOp
  refine State.insnU_kept hp (fun a0 h1 => ?_) ?_
  · extract_lets +onlyGivenNames x2
    split
    · next e5 =>
        have h6 : Kept m s0 _ := Kept.fst e5 (by
            refine State.translate_kept (Sub.trans (b := 562949886312158) (by decide) hp) ?_
            assumption
          )
        refine Flow.exc_kept ?_
        assumption
    · next e10 =>
        have h11 : Kept m s0 _ := Kept.fst e10 (by
            refine State.translate_kept (Sub.trans (b := 562949886312158) (by decide) hp) ?_
            assumption
          )
        refine FlowKept.cond (fun _ => ?_) (fun _ => ?_)
        · refine Flow.exc_kept ?_
          assumption
        · refine Flow.next_kept ?_
          refine Kept.cond (fun _ => ?_) (fun _ => ?_)
          · refine hfn_f _ _ ?_
            assumption
          · assumption
  · assumption

theorem State.writeBack_kept {m : Nat} {s0 : State} (hp : Sub 393216 m) {s : State} {l : Nat} (hk : Kept m s0 s) : Kept m s0 (State.writeBack s l) := by
  unfold State.writeBack
  extract_lets +onlyGivenNames x0
  have h1 : Kept m s0 x0 := by
    unfold x0
    refine Kept.forEach (fun z2 a3 h4 => ?_) ?_
    · refine State.l2Back_kept (Sub.trans (b := 393216) (by decide) hp) ?_
      assumption
    · assumption
  try (generalize x0 = y0 at h1 ⊢; try clear x0)
  refine Kept.upd ?_ rfl (Nat.le_refl _) (fun _ _ => rfl) (.inr rfl) (.inr rfl) (.inr rfl) (.inr rfl) (.inr rfl) (.inr rfl) (.inr rfl) (.inr rfl) (.inr rfl) (.inr rfl) (.inr rfl) (.inr rfl) (.inr rfl) (.inr rfl) (.inr rfl) (.inr rfl) (.inr rfl) (.inr rfl) (.inl ⟨hp.bit (by decide), by first | exact fun h => h | exact CoreOk.nil | exact CoreOk.map (fun _ h => h) | exact CoreOk.set (fun h => h) | exact CoreOk.mapKey (fun e => by split <;> rfl) (fun e he => by split <;> exact he)⟩) (.inl (hp.bit (by decide))) (.inr rfl) (.inr rfl) (.inr rfl) (.inr rfl) (.inr rfl) (.inr rfl) (.inr rfl) (.inr rfl) (.inr rfl) (.inr rfl) (.inr rfl)
  assumption

theorem execIcinv_kept {m : Nat} {s0 : State} (hp : Sub 562949886312158 m) {n : Fin 32} {d : BitVec 5} {a : Fin 32} {k : BitVec 13} {s : State} (hk : Kept m s0 s) : OutKept m s0 (execIcinv n d a k s) := by
  unfold execIcinv
  refine OutKept.next ?_
  refine State.lineOp_kept hp (fun a0 a1 h2 => ?_) ?_
  · first | refine State.setCor_keptOf (Sub.trans (b := 562949886312158) (by decide) hp) (by assumption) (fun h => h) ?_ | refine State.setCor_kept (Sub.trans (b := 562949886312158) (by decide) hp) (by first | exact fun h => h | exact fun _ => ⟨Nat.zero_le _, Nat.zero_le _, Nat.zero_le _⟩ | exact fun h => ⟨Nat.zero_le _, h.2⟩ | exact fun h => ⟨List.length_take_le _ _, h.2⟩ | (intro h; simp +zetaDelta only [Core.inCap] at h ⊢; exact h) | exact fun h => ⟨h.1, Nat.le_trans (List.length_filter_le _ _) h.2.1, Nat.le_trans (List.length_filter_le _ _) h.2.2⟩) ?_
    assumption
  · assumption

theorem execDcwb_kept {m : Nat} {s0 : State} (hp : Sub 562949886312158 m) {n : Fin 32} {d : BitVec 5} {a : Fin 32} {k : BitVec 13} {s : State} (hk : Kept m s0 s) : OutKept m s0 (execDcwb n d a k s) := by
  unfold execDcwb
  refine OutKept.next ?_
  refine State.lineOp_kept hp (fun a0 a1 h2 => ?_) ?_
  · refine State.writeBack_kept (Sub.trans (b := 562949886312158) (by decide) hp) ?_
    assumption
  · assumption

theorem execDcwbi_kept {m : Nat} {s0 : State} (hp : Sub 562949886312158 m) {n : Fin 32} {d : BitVec 5} {a : Fin 32} {k : BitVec 13} {s : State} (hk : Kept m s0 s) : OutKept m s0 (execDcwbi n d a k s) := by
  unfold execDcwbi
  refine OutKept.next ?_
  refine State.lineOp_kept hp (fun a0 a1 h2 => ?_) ?_
  · extract_lets +onlyGivenNames x3
    have h4 : Kept m s0 x3 := by
      unfold x3
      refine State.writeBack_kept (Sub.trans (b := 562949886312158) (by decide) hp) ?_
      assumption
    try (generalize x3 = y3 at h4 ⊢; try clear x3)
    refine Kept.upd ?_ rfl (Nat.le_refl _) (fun _ _ => rfl) (.inr rfl) (.inr rfl) (.inr rfl) (.inr rfl) (.inr rfl) (.inr rfl) (.inr rfl) (.inr rfl) (.inr rfl) (.inr rfl) (.inr rfl) (.inr rfl) (.inr rfl) (.inr rfl) (.inr rfl) (.inr rfl) (.inr rfl) (.inr rfl) (.inl ⟨hp.bit (by decide), by first | exact fun h => h | exact CoreOk.nil | exact CoreOk.map (fun _ h => h) | exact CoreOk.set (fun h => h) | exact CoreOk.mapKey (fun e => by split <;> rfl) (fun e he => by split <;> exact he)⟩) (.inl (hp.bit (by decide))) (.inr rfl) (.inr rfl) (.inr rfl) (.inr rfl) (.inr rfl) (.inr rfl) (.inr rfl) (.inr rfl) (.inr rfl) (.inr rfl) (.inr rfl)
    assumption
  · assumption

theorem State.tinvSidOp_kept {m : Nat} {s0 : State} (hp : Sub 562949886312158 m) {s : State} {n : Nat} {legal : Bool} {r : Fin 32} {f : State → BitVec 16 → State} (hfn_f : ∀ y0 y1, Kept m s0 y0 → Kept m s0 (f y0 y1)) (hk : Kept m s0 s) : Kept m s0 (State.tinvSidOp s n legal r f) := by
  unfold State.tinvSidOp
  refine State.insn_kept hp (fun a0 h1 => ?_) ?_
  · extract_lets +onlyGivenNames x2
    refine FlowKept.cond (fun _ => ?_) (fun _ => ?_)
    · refine Flow.exc_kept ?_
      assumption
    · refine Flow.next_kept ?_
      refine hfn_f _ _ ?_
      assumption
  · assumption

theorem execTinvVa_kept {m : Nat} {s0 : State} (hp : Sub 562949886312158 m) {n : Fin 32} {a : Fin 32} {b : Fin 32} {z : BitVec 13} {s : State} (hk : Kept m s0 s) : OutKept m s0 (execTinvVa n a b z s) := by
  unfold execTinvVa
  refine OutKept.next ?_
  refine State.tinvSidOp_kept hp (fun a0 a1 h2 => ?_) ?_
  · refine State.tinvVa_kept (Sub.trans (b := 562949886312158) (by decide) hp) ?_
    assumption
  · assumption

theorem execTinvSid_kept {m : Nat} {s0 : State} (hp : Sub 562949886312158 m) {n : Fin 32} {d : BitVec 5} {a : Fin 32} {k : BitVec 13} {s : State} (hk : Kept m s0 s) : OutKept m s0 (execTinvSid n d a k s) := by
  unfold execTinvSid
  refine OutKept.next ?_
  refine State.tinvSidOp_kept hp (fun a0 a1 h2 => ?_) ?_
  · refine State.tinvSid_kept (Sub.trans (b := 562949886312158) (by decide) hp) ?_
    assumption
  · assumption

theorem execTinvIpa_kept {m : Nat} {s0 : State} (hp : Sub 562949886312158 m) {n : Fin 32} {d : BitVec 5} {a : Fin 32} {k : BitVec 13} {s : State} (hk : Kept m s0 s) : OutKept m s0 (execTinvIpa n d a k s) := by
  unfold execTinvIpa
  refine OutKept.next ?_
  refine State.insn_kept hp (fun a0 h1 => ?_) ?_
  · refine Flow.next_kept ?_
    refine State.tinvIpa_kept (Sub.trans (b := 562949886312158) (by decide) hp) ?_
    assumption
  · assumption

theorem execTinvAll_kept {m : Nat} {s0 : State} (hp : Sub 562949886312158 m) {n : Fin 32} {d : BitVec 5} {a : BitVec 5} {k : BitVec 13} {s : State} (hk : Kept m s0 s) : OutKept m s0 (execTinvAll n d a k s) := by
  unfold execTinvAll
  refine OutKept.next ?_
  refine State.insn_kept hp (fun a0 h1 => ?_) ?_
  · refine Flow.next_kept ?_
    refine State.tinvAll_kept (Sub.trans (b := 562949886312158) (by decide) hp) ?_
    assumption
  · assumption

theorem execPflush_kept {m : Nat} {s0 : State} (hp : Sub 562949886312158 m) {n : Fin 32} {d : BitVec 5} {a : BitVec 5} {k : BitVec 13} {s : State} (hk : Kept m s0 s) : OutKept m s0 (execPflush n d a k s) := by
  unfold execPflush
  refine OutKept.next ?_
  refine State.insnU_kept hp (fun a0 h1 => ?_) ?_
  · refine Flow.next_kept ?_
    refine State.pflush_kept (Sub.trans (b := 562949886312158) (by decide) hp) ?_
    assumption
  · assumption

theorem execPbar_kept {m : Nat} {s0 : State} (hp : Sub 562949886312158 m) {n : Fin 32} {d : BitVec 5} {a : BitVec 5} {k : BitVec 13} {s : State} (hk : Kept m s0 s) : OutKept m s0 (execPbar n d a k s) := by
  unfold execPbar
  refine OutKept.next ?_
  refine State.insnU_kept hp (fun a0 h1 => ?_) ?_
  · refine Flow.next_kept ?_
    refine Kept.cond (fun _ => ?_) (fun _ => ?_)
    · assumption
    · refine State.setSr_kept (Sub.trans (b := 562949886312158) (by decide) hp) ?_
      assumption
  · assumption

theorem State.traceOut_kept {m : Nat} {s0 : State} (hp : Sub 4398315339778 m) {s : State} {n : Nat} (hk : Kept m s0 s) : Kept m s0 (State.traceOut s n) := by
  unfold State.traceOut
  refine State.ovfTry_kept (Sub.trans (b := 4398315339778) (by decide) hp) ?_
  refine State.drainFifo_kept hp ?_
  assumption

theorem State.pdown_kept {m : Nat} {s0 : State} (hp : Sub 6734794850306 m) {s : State} {n : Nat} {k : Nat} (hk : Kept m s0 s) : Kept m s0 (State.pdown s n k) := by
  unfold State.pdown
  refine Kept.cond (fun _ => ?_) (fun _ => ?_)
  · assumption
  · refine State.emitCore_kept (Sub.trans (b := 6734794850306) (by decide) hp) ?_
    refine State.traceOut_kept (Sub.trans (b := 6734794850306) (by decide) hp) ?_
    refine State.flushAtoms_kept (Sub.trans (b := 6734794850306) (by decide) hp) ?_
    refine State.traceOut_kept (Sub.trans (b := 6734794850306) (by decide) hp) ?_
    assumption

theorem State.emitWait_kept {m : Nat} {s0 : State} (hp : Sub 6734794850306 m) {s : State} {n : Nat} (hk : Kept m s0 s) : Kept m s0 (State.emitWait s n) := by
  unfold State.emitWait
  refine State.emitCC_kept (Sub.trans (b := 6734794850306) (by decide) hp) ?_
  refine Kept.cond (fun _ => ?_) (fun _ => ?_)
  · refine State.traceOut_kept (Sub.trans (b := 6734794850306) (by decide) hp) ?_
    assumption
  · assumption

theorem State.cacheOff_kept {m : Nat} {s0 : State} (hp : Sub 562949886312154 m) {s : State} {n : Nat} (hk : Kept m s0 s) : Kept m s0 (State.cacheOff s n) := by
  unfold State.cacheOff
  extract_lets +onlyGivenNames x0
  have h1 : Kept m s0 x0 := by
    unfold x0
    refine State.drainAll_kept hp ?_
    assumption
  try (generalize x0 = y0 at h1 ⊢; try clear x0)
  first | refine State.setCor_keptOf (Sub.trans (b := 562949886312154) (by decide) hp) (by assumption) (fun h => h) ?_ | refine State.setCor_kept (Sub.trans (b := 562949886312154) (by decide) hp) (by first | exact fun h => h | exact fun _ => ⟨Nat.zero_le _, Nat.zero_le _, Nat.zero_le _⟩ | exact fun h => ⟨Nat.zero_le _, h.2⟩ | exact fun h => ⟨List.length_take_le _ _, h.2⟩ | (intro h; simp +zetaDelta only [Core.inCap] at h ⊢; exact h) | exact fun h => ⟨h.1, Nat.le_trans (List.length_filter_le _ _) h.2.1, Nat.le_trans (List.length_filter_le _ _) h.2.2⟩) ?_
  assumption

theorem State.enterWait_kept {m : Nat} {s0 : State} (hp : Sub 562949886312154 m) {s : State} {n : Nat} (hk : Kept m s0 s) : Kept m s0 (State.enterWait s n) := by
  unfold State.enterWait
  split
  · extract_lets +onlyGivenNames x0
    have h1 : Kept m s0 x0 := by
      unfold x0
      refine State.pdown_kept (Sub.trans (b := 562949886312154) (by decide) hp) ?_
      refine State.cacheOff_kept hp ?_
      assumption
    try (generalize x0 = y0 at h1 ⊢; try clear x0)
    first | refine State.setCor_keptOf (Sub.trans (b := 562949886312154) (by decide) hp) (by assumption) (fun h => h) ?_ | refine State.setCor_kept (Sub.trans (b := 562949886312154) (by decide) hp) (by first | exact fun h => h | exact fun _ => ⟨Nat.zero_le _, Nat.zero_le _, Nat.zero_le _⟩ | exact fun h => ⟨Nat.zero_le _, h.2⟩ | exact fun h => ⟨List.length_take_le _ _, h.2⟩ | (intro h; simp +zetaDelta only [Core.inCap] at h ⊢; exact h) | exact fun h => ⟨h.1, Nat.le_trans (List.length_filter_le _ _) h.2.1, Nat.le_trans (List.length_filter_le _ _) h.2.2⟩) ?_
    assumption
  · refine State.withdraw_kept (Sub.trans (b := 562949886312154) (by decide) hp) ?_
    refine State.coreOff_kept (Sub.trans (b := 562949886312154) (by decide) hp) ?_
    refine State.pdown_kept (Sub.trans (b := 562949886312154) (by decide) hp) ?_
    refine State.cacheOff_kept hp ?_
    assumption
  · extract_lets +onlyGivenNames x2
    have h3 : Kept m s0 x2 := by
      unfold x2
      refine State.emitWait_kept (Sub.trans (b := 562949886312154) (by decide) hp) ?_
      assumption
    try (generalize x2 = y2 at h3 ⊢; try clear x2)
    first | refine State.setCor_keptOf (Sub.trans (b := 562949886312154) (by decide) hp) (by assumption) (fun h => h) ?_ | refine State.setCor_kept (Sub.trans (b := 562949886312154) (by decide) hp) (by first | exact fun h => h | exact fun _ => ⟨Nat.zero_le _, Nat.zero_le _, Nat.zero_le _⟩ | exact fun h => ⟨Nat.zero_le _, h.2⟩ | exact fun h => ⟨List.length_take_le _ _, h.2⟩ | (intro h; simp +zetaDelta only [Core.inCap] at h ⊢; exact h) | exact fun h => ⟨h.1, Nat.le_trans (List.length_filter_le _ _) h.2.1, Nat.le_trans (List.length_filter_le _ _) h.2.2⟩) ?_
    assumption

theorem execWait_kept {m : Nat} {s0 : State} (hp : Sub 562949886312158 m) {n : Fin 32} {d : BitVec 5} {a : BitVec 5} {k : BitVec 13} {s : State} (hk : Kept m s0 s) : OutKept m s0 (execWait n d a k s) := by
  unfold execWait
  refine OutKept.next ?_
  refine State.insn_kept hp (fun a0 h1 => ?_) ?_
  · extract_lets +onlyGivenNames x2
    extract_lets +onlyGivenNames x3
    have h4 : Kept m s0 x3 := by
      unfold x3
      refine State.retire_kept (Sub.trans (b := 562949886312158) (by decide) hp) ?_
      assumption
    try (generalize x3 = y3 at h4 ⊢; try clear x3)
    extract_lets +onlyGivenNames x5
    refine Flow.done_kept ?_
    refine Kept.cond (fun _ => ?_) (fun _ => ?_)
    · refine State.pkgCancel_kept (Sub.trans (b := 562949886312158) (by decide) hp) ?_
      assumption
    · refine Kept.cond (fun _ => ?_) (fun _ => ?_)
      · refine State.pkgBegin_kept (Sub.trans (b := 562949886312158) (by decide) hp) ?_
        refine State.pdown_kept (Sub.trans (b := 562949886312158) (by decide) hp) ?_
        refine State.cacheOff_kept (Sub.trans (b := 562949886312158) (by decide) hp) ?_
        assumption
      · refine State.enterWait_kept (Sub.trans (b := 562949886312158) (by decide) hp) ?_
        assumption
  · assumption

theorem State.coreReadParts_kept {m : Nat} {s0 : State} (hp : Sub 562949886312154 m) {s : State} {n : Nat} {x2_ : List Part} (hk : Kept m s0 s) : Kept m s0 (State.coreReadParts s n x2_).1 := by
  unfold State.coreReadParts
  split
  · show Kept m s0 _
    assumption
  · split
    · next e1 =>
        have h2 : Kept m s0 _ := Kept.fst e1 (by
            refine State.coreRead_kept hp ?_
            assumption
          )
        show Kept m s0 _
        assumption
    · next e5 =>
        have h13 : Kept m s0 _ := Kept.fst e5 (by
            refine State.coreRead_kept hp ?_
            assumption
          )
        split
        · next e7 =>
            have h8 : Kept m s0 _ := Kept.fst e7 (by
                refine State.coreReadParts_kept hp ?_
                assumption
              )
            show Kept m s0 _
            assumption
        · next e11 =>
            have h12 : Kept m s0 _ := Kept.fst e11 (by
                refine State.coreReadParts_kept hp ?_
                assumption
              )
            show Kept m s0 _
            assumption

theorem State.eretTr_kept {m : Nat} {s0 : State} (hp : Sub 131072 m) {s : State} {n : Nat} {va : W64} {x3_ : Nat} (hk : Kept m s0 s) : Kept m s0 (State.eretTr s n va x3_).1 := by
  unfold State.eretTr
  split
  · show Kept m s0 _
    assumption
  · split
    · next e2 =>
        have h3 : Kept m s0 _ := Kept.fst e2 (by
            refine State.access_kept hp ?_
            assumption
          )
        show Kept m s0 _
        assumption
    · next e6 =>
        have h15 : Kept m s0 _ := Kept.fst e6 (by
            refine State.access_kept hp ?_
            assumption
          )
        split
        · next e9 =>
            have h10 : Kept m s0 _ := Kept.fst e9 (by
                refine State.eretTr_kept hp ?_
                assumption
              )
            show Kept m s0 _
            assumption
        · next e13 =>
            have h14 : Kept m s0 _ := Kept.fst e13 (by
                refine State.eretTr_kept hp ?_
                assumption
              )
            show Kept m s0 _
            assumption

theorem State.eretWords_kept {m : Nat} {s0 : State} (hp : Sub 562949886312154 m) {s : State} {n : Nat} {x2_ : List (W64 × List Part)} (hk : Kept m s0 s) : Kept m s0 (State.eretWords s n x2_).1 := by
  unfold State.eretWords
  split
  · show Kept m s0 _
    assumption
  · split
    · next e1 =>
        have h2 : Kept m s0 _ := Kept.fst e1 (by
            refine State.coreReadParts_kept hp ?_
            refine State.order_kept hp ?_
            assumption
          )
        show Kept m s0 _
        assumption
    · next e5 =>
        have h14 : Kept m s0 _ := Kept.fst e5 (by
            refine State.coreReadParts_kept hp ?_
            refine State.order_kept hp ?_
            assumption
          )
        split
        · next e8 =>
            have h9 : Kept m s0 _ := Kept.fst e8 (by
                refine State.eretWords_kept hp ?_
                assumption
              )
            show Kept m s0 _
            assumption
        · next e12 =>
            have h13 : Kept m s0 _ := Kept.fst e12 (by
                refine State.eretWords_kept hp ?_
                assumption
              )
            show Kept m s0 _
            assumption

theorem State.eretRead_kept {m : Nat} {s0 : State} (hp : Sub 562949886312154 m) {s : State} {n : Nat} {va : W64} {k : Nat} (hk : Kept m s0 s) : Kept m s0 (State.eretRead s n va k).1 := by
  unfold State.eretRead
  split
  · next e2 =>
      have h3 : Kept m s0 _ := Kept.fst e2 (by
          refine State.eretTr_kept (Sub.trans (b := 562949886312154) (by decide) hp) ?_
          assumption
        )
      show Kept m s0 _
      assumption
  · next e6 =>
      have h7 : Kept m s0 _ := Kept.fst e6 (by
          refine State.eretTr_kept (Sub.trans (b := 562949886312154) (by decide) hp) ?_
          assumption
        )
      refine State.eretWords_kept hp ?_
      assumption

theorem State.eretGo_kept {m : Nat} {s0 : State} (hp : Sub 562949886312154 m) {s : State} {n : Nat} {ws : List W64} (hk : Kept m s0 s) : Kept m s0 (State.eretGo s n ws) := by
  unfold State.eretGo
  extract_lets +onlyGivenNames x0
  extract_lets +onlyGivenNames x1
  extract_lets +onlyGivenNames x2
  extract_lets +onlyGivenNames x3
  extract_lets +onlyGivenNames x4
  extract_lets +onlyGivenNames x5
  extract_lets +onlyGivenNames x6
  extract_lets +onlyGivenNames x7
  extract_lets +onlyGivenNames x8
  have h9 : Kept m s0 x8 := by
    unfold x8
    refine State.counted_kept (Sub.trans (b := 562949886312154) (by decide) hp) ?_
    assumption
  try (generalize x8 = y8 at h9 ⊢; try clear x8)
  extract_lets +onlyGivenNames x10
  have h11 : Kept m s0 x10 := by
    unfold x10
    refine Kept.cond (fun _ => ?_) (fun _ => ?_)
    · refine State.detSync_kept hp ?_
      assumption
    · assumption
  try (generalize x10 = y10 at h11 ⊢; try clear x10)
  extract_lets +onlyGivenNames x12
  have h13 : Kept m s0 x12 := by
    unfold x12
    refine State.setSp_kept (Sub.trans (b := 562949886312154) (by decide) hp) ?_
    assumption
  try (generalize x12 = y12 at h13 ⊢; try clear x12)
  extract_lets +onlyGivenNames x14
  have h15 : Kept m s0 x14 := by
    unfold x14
    refine State.setSr_kept (Sub.trans (b := 562949886312154) (by decide) hp) ?_
    assumption
  try (generalize x14 = y14 at h15 ⊢; try clear x14)
  extract_lets +onlyGivenNames x16
  have h17 : Kept m s0 x16 := by
    unfold x16
    refine State.setSr_kept (Sub.trans (b := 562949886312154) (by decide) hp) ?_
    refine State.setSr_kept (Sub.trans (b := 562949886312154) (by decide) hp) ?_
    assumption
  try (generalize x16 = y16 at h17 ⊢; try clear x16)
  extract_lets +onlyGivenNames x18
  extract_lets +onlyGivenNames x19
  have h20 : Kept m s0 x19 := by
    unfold x19
    first | refine State.setCor_keptOf (Sub.trans (b := 562949886312154) (by decide) hp) (by assumption) (fun h => h) ?_ | refine State.setCor_kept (Sub.trans (b := 562949886312154) (by decide) hp) (by first | exact fun h => h | exact fun _ => ⟨Nat.zero_le _, Nat.zero_le _, Nat.zero_le _⟩ | exact fun h => ⟨Nat.zero_le _, h.2⟩ | exact fun h => ⟨List.length_take_le _ _, h.2⟩ | (intro h; simp +zetaDelta only [Core.inCap] at h ⊢; exact h) | exact fun h => ⟨h.1, Nat.le_trans (List.length_filter_le _ _) h.2.1, Nat.le_trans (List.length_filter_le _ _) h.2.2⟩) ?_
    assumption
  try (generalize x19 = y19 at h20 ⊢; try clear x19)
  extract_lets +onlyGivenNames x21
  have h22 : Kept m s0 x21 := by
    unfold x21
    refine State.emitCC_kept (Sub.trans (b := 562949886312154) (by decide) hp) ?_
    assumption
  try (generalize x21 = y21 at h22 ⊢; try clear x21)
  extract_lets +onlyGivenNames x23
  have h24 : Kept m s0 x23 := by
    unfold x23
    refine State.setSid_kept (Sub.trans (b := 562949886312154) (by decide) hp) ?_
    assumption
  try (generalize x23 = y23 at h24 ⊢; try clear x23)
  extract_lets +onlyGivenNames x25
  extract_lets +onlyGivenNames x26
  have h27 : Kept m s0 x26 := by
    unfold x26
    first | refine State.setCor_keptOf (Sub.trans (b := 562949886312154) (by decide) hp) (by assumption) (fun h => h) ?_ | refine State.setCor_kept (Sub.trans (b := 562949886312154) (by decide) hp) (by first | exact fun h => h | exact fun _ => ⟨Nat.zero_le _, Nat.zero_le _, Nat.zero_le _⟩ | exact fun h => ⟨Nat.zero_le _, h.2⟩ | exact fun h => ⟨List.length_take_le _ _, h.2⟩ | (intro h; simp +zetaDelta only [Core.inCap] at h ⊢; exact h) | exact fun h => ⟨h.1, Nat.le_trans (List.length_filter_le _ _) h.2.1, Nat.le_trans (List.length_filter_le _ _) h.2.2⟩) ?_
    assumption
  try (generalize x26 = y26 at h27 ⊢; try clear x26)
  refine Kept.cond (fun _ => ?_) (fun _ => ?_)
  · refine State.pflush_kept (Sub.trans (b := 562949886312154) (by decide) hp) ?_
    assumption
  · assumption

theorem execEret_kept {m : Nat} {s0 : State} (hp : Sub 562949886312158 m) {n : Fin 32} {d : BitVec 5} {a : BitVec 5} {k : BitVec 13} {s : State} (hk : Kept m s0 s) : OutKept m s0 (execEret n d a k s) := by
  unfold execEret
  refine OutKept.next ?_
  refine State.insn_kept hp (fun a0 h1 => ?_) ?_
  · extract_lets +onlyGivenNames x2
    extract_lets +onlyGivenNames x3
    split
    · next e6 =>
        have h7 : Kept m s0 _ := Kept.fst e6 (by
            refine State.eretRead_kept (Sub.trans (b := 562949886312158) (by decide) hp) ?_
            assumption
          )
        refine Flow.exc_kept ?_
        assumption
    · next e10 =>
        have h11 : Kept m s0 _ := Kept.fst e10 (by
            refine State.eretRead_kept (Sub.trans (b := 562949886312158) (by decide) hp) ?_
            assumption
          )
        refine FlowKept.cond (fun _ => ?_) (fun _ => ?_)
        · refine Flow.exc_kept ?_
          assumption
        · refine Flow.done_kept ?_
          refine State.eretGo_kept (Sub.trans (b := 562949886312158) (by decide) hp) ?_
          assumption
  · assumption

theorem State.callOp_kept {m : Nat} {s0 : State} (hp : Sub 562949886312158 m) {s : State} {n : Nat} {legal : Bool} {priv : Lvl → Bool} {code : Nat} {k : BitVec 13} (hk : Kept m s0 s) : Kept m s0 (State.callOp s n legal priv code k) := by
  unfold State.callOp
  refine State.insn_kept hp (fun a0 h1 => ?_) ?_
  · refine Flow.exc_kept ?_
    refine State.counted_kept (Sub.trans (b := 562949886312158) (by decide) hp) ?_
    assumption
  · assumption

theorem execCalls_kept {m : Nat} {s0 : State} (hp : Sub 562949886312158 m) {n : Fin 32} {d : BitVec 5} {a : BitVec 5} {k : BitVec 13} {s : State} (hk : Kept m s0 s) : OutKept m s0 (execCalls n d a k s) := by
  unfold execCalls
  refine OutKept.next ?_
  refine State.callOp_kept hp ?_
  assumption

theorem execCallh_kept {m : Nat} {s0 : State} (hp : Sub 562949886312158 m) {n : Fin 32} {d : BitVec 5} {a : BitVec 5} {k : BitVec 13} {s : State} (hk : Kept m s0 s) : OutKept m s0 (execCallh n d a k s) := by
  unfold execCallh
  refine OutKept.next ?_
  refine State.callOp_kept hp ?_
  assumption

theorem execCallm_kept {m : Nat} {s0 : State} (hp : Sub 562949886312158 m) {n : Fin 32} {d : BitVec 5} {a : BitVec 5} {k : BitVec 13} {s : State} (hk : Kept m s0 s) : OutKept m s0 (execCallm n d a k s) := by
  unfold execCallm
  refine OutKept.next ?_
  refine State.callOp_kept hp ?_
  assumption

theorem execBrk_kept {m : Nat} {s0 : State} (hp : Sub 562949886312158 m) {n : Fin 32} {d : BitVec 5} {a : BitVec 5} {k : BitVec 13} {s : State} (hk : Kept m s0 s) : OutKept m s0 (execBrk n d a k s) := by
  unfold execBrk
  refine OutKept.next ?_
  refine State.insn_kept hp (fun a0 h1 => ?_) ?_
  · refine FlowKept.cond (fun _ => ?_) (fun _ => ?_)
    · refine Flow.hold_kept ?_
      refine State.haltNow_kept (Sub.trans (b := 562949886312158) (by decide) hp) ?_
      assumption
    · refine Flow.exc_kept ?_
      assumption
  · assumption

theorem State.cacheErr_kept {m : Nat} {s0 : State} (hp : Sub 131072 m) {s : State} {n : Nat} {lo : Nat} (hk : Kept m s0 s) : Kept m s0 (State.cacheErr s n lo) := by
  unfold State.cacheErr
  extract_lets +onlyGivenNames x0
  refine Kept.cond (fun _ => ?_) (fun _ => ?_)
  · assumption
  · refine State.setSr_kept hp ?_
    assumption

theorem execCacheError_kept {m : Nat} {s0 : State} (hp : Sub 2336479903748 m) {x : CacheErr} {s : State} (hk : Kept m s0 s) : OutKept m s0 (execCacheError x s) := by
  unfold execCacheError
  refine OutKept.next ?_
  split
  · refine Kept.cond (fun _ => ?_) (fun _ => ?_)
    · assumption
    · extract_lets +onlyGivenNames x0
      extract_lets +onlyGivenNames x1
      refine State.cacheErr_kept (Sub.trans (b := 2336479903748) (by decide) hp) ?_
      first | refine State.setCor_keptOf (Sub.trans (b := 2336479903748) (by decide) hp) (by assumption) (fun h => h) ?_ | refine State.setCor_kept (Sub.trans (b := 2336479903748) (by decide) hp) (by first | exact fun h => h | exact fun _ => ⟨Nat.zero_le _, Nat.zero_le _, Nat.zero_le _⟩ | exact fun h => ⟨Nat.zero_le _, h.2⟩ | exact fun h => ⟨List.length_take_le _ _, h.2⟩ | (intro h; simp +zetaDelta only [Core.inCap] at h ⊢; exact h) | exact fun h => ⟨h.1, Nat.le_trans (List.length_filter_le _ _) h.2.1, Nat.le_trans (List.length_filter_le _ _) h.2.2⟩) ?_
      assumption
  · refine Kept.cond (fun _ => ?_) (fun _ => ?_)
    · assumption
    · refine State.cacheErr_kept (Sub.trans (b := 2336479903748) (by decide) hp) ?_
      assumption
  · refine Kept.cond (fun _ => ?_) (fun _ => ?_)
    · assumption
    · refine State.cacheErr_kept (Sub.trans (b := 2336479903748) (by decide) hp) ?_
      assumption
  · refine Kept.cond (fun _ => ?_) (fun _ => ?_)
    · assumption
    · refine State.fenceCore_kept (Sub.trans (b := 2336479903748) (by decide) hp) ?_
      assumption
  · refine State.fenceCluster_kept (Sub.trans (b := 2336479903748) (by decide) hp) ?_
    assumption
  · assumption
  · refine State.poisonLine_kept (Sub.trans (b := 2336479903748) (by decide) hp) ?_
    assumption

end Sys2Proof.Machine
end

