-- ==== Sys2Proof/Laws/KeptPortRows.lean ====
section
/-!
SUPPORT. What the definitions of Machine/PortRows.lean keep: one lemma each.
-/
namespace Sys2Proof.Machine

theorem State.bar0_kept {m : Nat} {s0 : State} (hp : Sub 562949886312155 m) {s : State} {u : Nat} {o : Nat} {n : Nat} {w : Option W64} (hk : Kept m s0 s) : Kept m s0 (State.bar0 s u o n w) := by
  unfold State.bar0
  refine Kept.cond (fun _ => ?_) (fun _ => ?_)
  · assumption
  · extract_lets +onlyGivenNames x0
    have h1 : Kept m s0 x0 := by
      unfold x0
      refine State.access1_kept hp ?_
      assumption
    try (generalize x0 = y0 at h1 ⊢; try clear x0)
    refine Kept.cond (fun _ => ?_) (fun _ => ?_)
    · refine State.setXp_kept (Sub.trans (b := 562949886312155) (by decide) hp) ?_
      refine State.portErr_kept (Sub.trans (b := 562949886312155) (by decide) hp) ?_
      assumption
    · refine State.setXp_kept (Sub.trans (b := 562949886312155) (by decide) hp) ?_
      assumption

theorem State.cplTimeout_kept {m : Nat} {s0 : State} (hp : Sub 562949886312158 m) {s : State} {x : CplReq} (hk : Kept m s0 s) : Kept m s0 (State.cplTimeout s x) := by
  unfold State.cplTimeout
  split
  · split
    · refine State.trap_kept hp ?_
      first | refine State.setCor_keptOf (Sub.trans (b := 562949886312158) (by decide) hp) (by assumption) (fun h => h) ?_ | refine State.setCor_kept (Sub.trans (b := 562949886312158) (by decide) hp) (by first | exact fun h => h | exact fun _ => ⟨Nat.zero_le _, Nat.zero_le _, Nat.zero_le _⟩ | exact fun h => ⟨Nat.zero_le _, h.2⟩ | exact fun h => ⟨List.length_take_le _ _, h.2⟩ | (intro h; simp +zetaDelta only [Core.inCap] at h ⊢; exact h) | exact fun h => ⟨h.1, Nat.le_trans (List.length_filter_le _ _) h.2.1, Nat.le_trans (List.length_filter_le _ _) h.2.2⟩) ?_
      refine State.portTmo_kept (Sub.trans (b := 562949886312158) (by decide) hp) ?_
      assumption
    · assumption
  · split
    · refine Kept.cond (fun _ => ?_) (fun _ => ?_)
      · refine State.pollTimeout_kept (Sub.trans (b := 562949886312158) (by decide) hp) ?_
        refine State.portTmo_kept (Sub.trans (b := 562949886312158) (by decide) hp) ?_
        assumption
      · assumption
    · assumption

theorem State.rawRow_kept {m : Nat} {s0 : State} (hp : Sub 562949886312155 m) {s : State} {kinds : List Nat} {op : Nat} {u : Nat} {who : Req} {v : W32} (hk : Kept m s0 s) : Kept m s0 (State.rawRow s kinds op u who v) := by
  unfold State.rawRow
  refine Kept.cond (fun _ => ?_) (fun _ => ?_)
  · refine State.regCmd_kept hp ?_
    assumption
  · assumption

theorem execPortTxq_kept {m : Nat} {s0 : State} (hp : Sub 562949886312155 m) {u : Fin 52} {who : Req} {v : W32} {s : State} (hk : Kept m s0 s) : OutKept m s0 (execPortTxq u who v s) := by
  unfold execPortTxq
  refine OutKept.next ?_
  refine State.regCmd_kept hp ?_
  assumption

theorem execPortRxq_kept {m : Nat} {s0 : State} (hp : Sub 562949472813057 m) {u : Fin 52} {who : Req} {s : State} (hk : Kept m s0 s) : OutKept m s0 (execPortRxq u who s) := by
  unfold execPortRxq
  refine OutKept.next ?_
  refine State.regGet_kept hp ?_
  assumption

theorem execBar0Access_kept {m : Nat} {s0 : State} (hp : Sub 562949886312155 m) {u : Fin 2} {o : BitVec 15} {k : Tlp} {w : Option W64} {s : State} (hk : Kept m s0 s) : OutKept m s0 (execBar0Access u o k w s) := by
  unfold execBar0Access
  refine OutKept.next ?_
  split
  · refine State.bar0_kept hp ?_
    assumption
  · refine Kept.cond (fun _ => ?_) (fun _ => ?_)
    · refine State.setXp_kept (Sub.trans (b := 562949886312155) (by decide) hp) ?_
      refine State.portErr_kept (Sub.trans (b := 562949886312155) (by decide) hp) ?_
      assumption
    · assumption

theorem execCompletionTimeout_kept {m : Nat} {s0 : State} (hp : Sub 562949886312158 m) {x : CplReq} {s : State} (hk : Kept m s0 s) : OutKept m s0 (execCompletionTimeout x s) := by
  unfold execCompletionTimeout
  refine OutKept.next ?_
  refine State.cplTimeout_kept hp ?_
  assumption

theorem execPcieRetrain_kept {m : Nat} {s0 : State} (hp : Sub 562949886312155 m) {u : Fin 52} {who : Req} {v : W32} {s : State} (hk : Kept m s0 s) : OutKept m s0 (execPcieRetrain u who v s) := by
  unfold execPcieRetrain
  refine OutKept.next ?_
  refine State.rawRow_kept hp ?_
  assumption

theorem execPcieForceRate_kept {m : Nat} {s0 : State} (hp : Sub 562949886312155 m) {u : Fin 52} {who : Req} {v : W32} {s : State} (hk : Kept m s0 s) : OutKept m s0 (execPcieForceRate u who v s) := by
  unfold execPcieForceRate
  refine OutKept.next ?_
  refine State.rawRow_kept hp ?_
  assumption

theorem execLaneMargining_kept {m : Nat} {s0 : State} (hp : Sub 562949886312155 m) {u : Fin 52} {who : Req} {v : W32} {s : State} (hk : Kept m s0 s) : OutKept m s0 (execLaneMargining u who v s) := by
  unfold execLaneMargining
  refine OutKept.next ?_
  refine State.rawRow_kept hp ?_
  assumption

theorem execPrbs31Lanes_kept {m : Nat} {s0 : State} (hp : Sub 562949886312155 m) {u : Fin 52} {who : Req} {v : W32} {s : State} (hk : Kept m s0 s) : OutKept m s0 (execPrbs31Lanes u who v s) := by
  unfold execPrbs31Lanes
  refine OutKept.next ?_
  refine State.rawRow_kept hp ?_
  assumption

theorem execPcsLoopbackNear_kept {m : Nat} {s0 : State} (hp : Sub 562949886312155 m) {u : Fin 52} {who : Req} {v : W32} {s : State} (hk : Kept m s0 s) : OutKept m s0 (execPcsLoopbackNear u who v s) := by
  unfold execPcsLoopbackNear
  refine OutKept.next ?_
  refine State.rawRow_kept hp ?_
  assumption

theorem execPcsLoopbackFar_kept {m : Nat} {s0 : State} (hp : Sub 562949886312155 m) {u : Fin 52} {who : Req} {v : W32} {s : State} (hk : Kept m s0 s) : OutKept m s0 (execPcsLoopbackFar u who v s) := by
  unfold execPcsLoopbackFar
  refine OutKept.next ?_
  refine State.rawRow_kept hp ?_
  assumption

theorem execBusRecovery_kept {m : Nat} {s0 : State} (hp : Sub 562949886312155 m) {u : Fin 52} {who : Req} {v : W32} {s : State} (hk : Kept m s0 s) : OutKept m s0 (execBusRecovery u who v s) := by
  unfold execBusRecovery
  refine OutKept.next ?_
  refine State.rawRow_kept hp ?_
  assumption

theorem execRawTransfer_kept {m : Nat} {s0 : State} (hp : Sub 562949886312155 m) {u : Fin 52} {who : Req} {v : W32} {s : State} (hk : Kept m s0 s) : OutKept m s0 (execRawTransfer u who v s) := by
  unfold execRawTransfer
  refine OutKept.next ?_
  refine State.rawRow_kept hp ?_
  assumption

theorem execI3cTargetReset_kept {m : Nat} {s0 : State} (hp : Sub 562949886312155 m) {u : Fin 52} {who : Req} {v : W32} {s : State} (hk : Kept m s0 s) : OutKept m s0 (execI3cTargetReset u who v s) := by
  unfold execI3cTargetReset
  refine OutKept.next ?_
  refine State.rawRow_kept hp ?_
  assumption

theorem execAvsbusFrame_kept {m : Nat} {s0 : State} (hp : Sub 562949886312155 m) {u : Fin 52} {who : Req} {v : W32} {s : State} (hk : Kept m s0 s) : OutKept m s0 (execAvsbusFrame u who v s) := by
  unfold execAvsbusFrame
  refine OutKept.next ?_
  refine State.rawRow_kept hp ?_
  assumption

theorem execTapReset_kept {m : Nat} {s0 : State} (hp : Sub 562949886312155 m) {u : Fin 52} {who : Req} {v : W32} {s : State} (hk : Kept m s0 s) : OutKept m s0 (execTapReset u who v s) := by
  unfold execTapReset
  refine OutKept.next ?_
  refine State.rawRow_kept hp ?_
  assumption

theorem execShiftIr_kept {m : Nat} {s0 : State} (hp : Sub 562949886312155 m) {u : Fin 52} {who : Req} {v : W32} {s : State} (hk : Kept m s0 s) : OutKept m s0 (execShiftIr u who v s) := by
  unfold execShiftIr
  refine OutKept.next ?_
  refine State.rawRow_kept hp ?_
  assumption

theorem execShiftDr_kept {m : Nat} {s0 : State} (hp : Sub 562949886312155 m) {u : Fin 52} {who : Req} {v : W32} {s : State} (hk : Kept m s0 s) : OutKept m s0 (execShiftDr u who v s) := by
  unfold execShiftDr
  refine OutKept.next ?_
  refine State.rawRow_kept hp ?_
  assumption

theorem execXspiProgram_kept {m : Nat} {s0 : State} (hp : Sub 562949886312155 m) {u : Fin 52} {who : Req} {v : W32} {s : State} (hk : Kept m s0 s) : OutKept m s0 (execXspiProgram u who v s) := by
  unfold execXspiProgram
  refine OutKept.next ?_
  refine State.rawRow_kept hp ?_
  assumption

theorem execXspiErase_kept {m : Nat} {s0 : State} (hp : Sub 562949886312155 m) {u : Fin 52} {who : Req} {v : W32} {s : State} (hk : Kept m s0 s) : OutKept m s0 (execXspiErase u who v s) := by
  unfold execXspiErase
  refine OutKept.next ?_
  refine State.rawRow_kept hp ?_
  assumption

theorem execUartBreak_kept {m : Nat} {s0 : State} (hp : Sub 562949886312155 m) {u : Fin 52} {who : Req} {v : W32} {s : State} (hk : Kept m s0 s) : OutKept m s0 (execUartBreak u who v s) := by
  unfold execUartBreak
  refine OutKept.next ?_
  refine State.rawRow_kept hp ?_
  assumption

theorem execKick_kept {m : Nat} {s0 : State} (hp : Sub 562949886312155 m) {who : Req} {v : W32} {s : State} (hk : Kept m s0 s) : OutKept m s0 (execKick who v s) := by
  unfold execKick
  refine OutKept.next ?_
  refine State.regCmd_kept hp ?_
  assumption

theorem execFanPwmWrite_kept {m : Nat} {s0 : State} (hp : Sub 562949886312155 m) {f : Fin 16} {who : Req} {v : W32} {s : State} (hk : Kept m s0 s) : OutKept m s0 (execFanPwmWrite f who v s) := by
  unfold execFanPwmWrite
  refine OutKept.next ?_
  refine State.regCmd_kept hp ?_
  assumption

end Sys2Proof.Machine
end

