-- ==== Sys2Proof/Laws/KeptPowerRows.lean ====
section
/-!
SUPPORT. What the definitions of Machine/PowerRows.lean keep: one lemma each.
-/
namespace Sys2Proof.Machine

theorem execCoreOn_kept {m : Nat} {s0 : State} (hp : Sub 562949886312155 m) {n : Fin 32} {who : Req} {v : W32} {s : State} (hk : Kept m s0 s) : OutKept m s0 (execCoreOn n who v s) := by
  unfold execCoreOn
  refine OutKept.next ?_
  refine State.regCmd_kept hp ?_
  assumption

theorem execCcFreqWrite_kept {m : Nat} {s0 : State} (hp : Sub 562949886312155 m) {k : Fin 8} {who : Req} {v : W32} {s : State} (hk : Kept m s0 s) : OutKept m s0 (execCcFreqWrite k who v s) := by
  unfold execCcFreqWrite
  refine OutKept.next ?_
  refine State.regCmd_kept hp ?_
  assumption

theorem execVtgtWrite_kept {m : Nat} {s0 : State} (hp : Sub 562949886312155 m) {r : Fin 4} {who : Req} {v : W32} {s : State} (hk : Kept m s0 s) : OutKept m s0 (execVtgtWrite r who v s) := by
  unfold execVtgtWrite
  refine OutKept.next ?_
  refine State.regCmd_kept hp ?_
  assumption

theorem execSluiceGo_kept {m : Nat} {s0 : State} (hp : Sub 562949886312155 m) {r : Fin 4} {who : Req} {v : W32} {s : State} (hk : Kept m s0 s) : OutKept m s0 (execSluiceGo r who v s) := by
  unfold execSluiceGo
  refine OutKept.next ?_
  refine State.regCmd_kept hp ?_
  assumption

theorem execPkgGo_kept {m : Nat} {s0 : State} (hp : Sub 562949886312155 m) {who : Req} {v : W32} {s : State} (hk : Kept m s0 s) : OutKept m s0 (execPkgGo who v s) := by
  unfold execPkgGo
  refine OutKept.next ?_
  refine State.regCmd_kept hp ?_
  assumption

theorem execUnitReset_kept {m : Nat} {s0 : State} (hp : Sub 562949886312155 m) {who : Req} {v : W32} {s : State} (hk : Kept m s0 s) : OutKept m s0 (execUnitReset who v s) := by
  unfold execUnitReset
  refine OutKept.next ?_
  refine State.regCmd_kept hp ?_
  assumption

theorem execUnitFence_kept {m : Nat} {s0 : State} (hp : Sub 562949886312155 m) {who : Req} {v : W32} {s : State} (hk : Kept m s0 s) : OutKept m s0 (execUnitFence who v s) := by
  unfold execUnitFence
  refine OutKept.next ?_
  refine State.regCmd_kept hp ?_
  assumption

theorem execUnitUnfence_kept {m : Nat} {s0 : State} (hp : Sub 562949886312155 m) {who : Req} {v : W32} {s : State} (hk : Kept m s0 s) : OutKept m s0 (execUnitUnfence who v s) := by
  unfold execUnitUnfence
  refine OutKept.next ?_
  refine State.regCmd_kept hp ?_
  assumption

theorem execUnitOut_kept {m : Nat} {s0 : State} (hp : Sub 562949886312155 m) {who : Req} {v : W32} {s : State} (hk : Kept m s0 s) : OutKept m s0 (execUnitOut who v s) := by
  unfold execUnitOut
  refine OutKept.next ?_
  refine State.regCmd_kept hp ?_
  assumption

theorem execTraceOn_kept {m : Nat} {s0 : State} (hp : Sub 562949886312155 m) {who : Req} {v : W32} {s : State} (hk : Kept m s0 s) : OutKept m s0 (execTraceOn who v s) := by
  unfold execTraceOn
  refine OutKept.next ?_
  refine State.regCmd_kept hp ?_
  assumption

theorem execTraceOff_kept {m : Nat} {s0 : State} (hp : Sub 562949886312155 m) {who : Req} {v : W32} {s : State} (hk : Kept m s0 s) : OutKept m s0 (execTraceOff who v s) := by
  unfold execTraceOff
  refine OutKept.next ?_
  refine State.regCmd_kept hp ?_
  assumption

end Sys2Proof.Machine
end

