-- ==== Sys2Proof/Laws/KeptRailRows.lean ====
section
/-!
SUPPORT. What the definitions of Machine/RailRows.lean keep: one lemma each.
-/
namespace Sys2Proof.Machine

theorem execSeqUp_kept {m : Nat} {s0 : State} (hp : Sub 562949886312155 m) {who : Req} {v : W32} {s : State} (hk : Kept m s0 s) : OutKept m s0 (execSeqUp who v s) := by
  unfold execSeqUp
  refine OutKept.next ?_
  refine State.regCmd_kept hp ?_
  assumption

theorem execSeqDown_kept {m : Nat} {s0 : State} (hp : Sub 562949886312155 m) {who : Req} {v : W32} {s : State} (hk : Kept m s0 s) : OutKept m s0 (execSeqDown who v s) := by
  unfold execSeqDown
  refine OutKept.next ?_
  refine State.regCmd_kept hp ?_
  assumption

theorem execSeqClear_kept {m : Nat} {s0 : State} (hp : Sub 562949886312155 m) {who : Req} {v : W32} {s : State} (hk : Kept m s0 s) : OutKept m s0 (execSeqClear who v s) := by
  unfold execSeqClear
  refine OutKept.next ?_
  refine State.regCmd_kept hp ?_
  assumption

theorem execRailOn_kept {m : Nat} {s0 : State} (hp : Sub 562949886312155 m) {r : Fin 64} {who : Req} {v : W32} {s : State} (hk : Kept m s0 s) : OutKept m s0 (execRailOn r who v s) := by
  unfold execRailOn
  refine OutKept.next ?_
  refine State.regCmd_kept hp ?_
  assumption

theorem execRailOff_kept {m : Nat} {s0 : State} (hp : Sub 562949886312155 m) {r : Fin 64} {who : Req} {v : W32} {s : State} (hk : Kept m s0 s) : OutKept m s0 (execRailOff r who v s) := by
  unfold execRailOff
  refine OutKept.next ?_
  refine State.regCmd_kept hp ?_
  assumption

theorem execRailClear_kept {m : Nat} {s0 : State} (hp : Sub 562949886312155 m) {r : Fin 64} {who : Req} {v : W32} {s : State} (hk : Kept m s0 s) : OutKept m s0 (execRailClear r who v s) := by
  unfold execRailClear
  refine OutKept.next ?_
  refine State.regCmd_kept hp ?_
  assumption

theorem execRailSetptWrite_kept {m : Nat} {s0 : State} (hp : Sub 562949886312155 m) {r : Fin 64} {who : Req} {v : W32} {s : State} (hk : Kept m s0 s) : OutKept m s0 (execRailSetptWrite r who v s) := by
  unfold execRailSetptWrite
  refine OutKept.next ?_
  refine State.regCmd_kept hp ?_
  assumption

theorem execRailWshedReadmit_kept {m : Nat} {s0 : State} (hp : Sub 562949886312155 m) {r : Fin 64} {hi : Bool} {who : Req} {v : W32} {s : State} (hk : Kept m s0 s) : OutKept m s0 (execRailWshedReadmit r hi who v s) := by
  unfold execRailWshedReadmit
  refine OutKept.next ?_
  refine State.regCmd_kept hp ?_
  assumption

end Sys2Proof.Machine
end

