-- ==== Sys2Proof/Laws/KeptWords.lean ====
section
/-!
SUPPORT. What the definitions of Machine/Words.lean keep: one lemma each.
-/
namespace Sys2Proof.Machine

theorem State.leIllegal_kept {m : Nat} {s0 : State} (hp : Sub 2340774674948 m) {s : State} {j : Fin 36} (hk : Kept m s0 s) : Kept m s0 (State.leIllegal s j) := by
  unfold State.leIllegal
  refine State.leExec_kept hp (fun a0 a1 a2 h3 => ?_) ?_
  · refine LeRes.next_kept ?_
    assumption
  · assumption

theorem State.coreIllegal_kept {m : Nat} {s0 : State} (hp : Sub 562949886312158 m) {s : State} {n : Fin 32} (hk : Kept m s0 s) : Kept m s0 (State.coreIllegal s n) := by
  unfold State.coreIllegal
  refine State.insnU_kept hp (fun a0 h1 => ?_) ?_
  · refine Flow.next_kept ?_
    assumption
  · assumption

theorem State.reservedWords_kept {m : Nat} {s0 : State} (hp : Sub 562949886312158 m) {s : State} (hk : Kept m s0 s) : Kept m s0 (State.reservedWords s) := by
  unfold State.reservedWords
  extract_lets +onlyGivenNames x0
  have h1 : Kept m s0 x0 := by
    unfold x0
    refine Kept.forEach (fun z2 a3 h4 => ?_) ?_
    · refine Kept.cond (fun _ => ?_) (fun _ => ?_)
      · refine State.leIllegal_kept (Sub.trans (b := 562949886312158) (by decide) hp) ?_
        assumption
      · assumption
    · assumption
  try (generalize x0 = y0 at h1 ⊢; try clear x0)
  refine Kept.forEach (fun z5 a6 h7 => ?_) ?_
  · refine Kept.cond (fun _ => ?_) (fun _ => ?_)
    · refine State.coreIllegal_kept hp ?_
      assumption
    · assumption
  · assumption

end Sys2Proof.Machine
end

