-- ==== Sys2Proof/Laws/KeptExec.lean ====
section
/-!
SUPPORT. What every command keeps.
-/
namespace Sys2Proof.Machine

/-- Every command that answers a next state leaves the queue and keeps every invariant; `Kept` with the mask of all pieces. -/
theorem exec_kept (i : Instr) (s : State) : OutKept 562949953421311 s (exec i s) := by
  cases i with
  | porstNAssert => exact (execPorstNAssert_kept (by decide) (Kept.refl _ s) : OutKept 562949953421311 s (execPorstNAssert s))
  | porstNRelease b => exact (execPorstNRelease_kept (by decide) (Kept.refl _ s) : OutKept 562949953421311 s (execPorstNRelease b s))
  | uartLoaderBlock blk crc f b => exact (execUartLoaderBlock_kept (by decide) (Kept.refl _ s) : OutKept 562949953421311 s (execUartLoaderBlock blk crc f b s))
  | tickStart => exact (execTickStart_kept (by decide) (Kept.refl _ s) : OutKept 562949953421311 s (execTickStart s))
  | sysrstNAssert => exact (execSysrstNAssert_kept (by decide) (Kept.refl _ s) : OutKept 562949953421311 s (execSysrstNAssert s))
  | sysrstNRelease b => exact (execSysrstNRelease_kept (by decide) (Kept.refl _ s) : OutKept 562949953421311 s (execSysrstNRelease b s))
  | supplyOutOfRange n => exact (execSupplyOutOfRange_kept (by decide) (Kept.refl _ s) : OutKept 562949953421311 s (execSupplyOutOfRange n s))
  | vcoreOutOfRange r => exact (execVcoreOutOfRange_kept (by decide) (Kept.refl _ s) : OutKept 562949953421311 s (execVcoreOutOfRange r s))
  | uncorrectableFault u => exact (execUncorrectableFault_kept (by decide) (Kept.refl _ s) : OutKept 562949953421311 s (execUncorrectableFault u s))
  | submit who v => exact (execSubmit_kept (by decide) (Kept.refl _ s) : OutKept 562949953421311 s (execSubmit who v s))
  | cancel who v => exact (execCancel_kept (by decide) (Kept.refl _ s) : OutKept 562949953421311 s (execCancel who v s))
  | amendmentVerifyDone ack settled => exact (execAmendmentVerifyDone_kept (by decide) (Kept.refl _ s) : OutKept 562949953421311 s (execAmendmentVerifyDone ack settled s))
  | amendmentStageDone => exact (execAmendmentStageDone_kept (by decide) (Kept.refl _ s) : OutKept 562949953421311 s (execAmendmentStageDone s))
  | commitPoint => exact (execCommitPoint_kept (by decide) (Kept.refl _ s) : OutKept 562949953421311 s (execCommitPoint s))
  | regionDrainDone r => exact (execRegionDrainDone_kept (by decide) (Kept.refl _ s) : OutKept 562949953421311 s (execRegionDrainDone r s))
  | keepCntInc who v => exact (execKeepCntInc_kept (by decide) (Kept.refl _ s) : OutKept 562949953421311 s (execKeepCntInc who v s))
  | counterIncrementDone => exact (execCounterIncrementDone_kept (by decide) (Kept.refl _ s) : OutKept 562949953421311 s (execCounterIncrementDone s))
  | lifecycleGo who v => exact (execLifecycleGo_kept (by decide) (Kept.refl _ s) : OutKept 562949953421311 s (execLifecycleGo who v s))
  | lifecycleFuseWriteDone => exact (execLifecycleFuseWriteDone_kept (by decide) (Kept.refl _ s) : OutKept 562949953421311 s (execLifecycleFuseWriteDone s))
  | keepJobHash who => exact (execKeepJobHash_kept (by decide) (Kept.refl _ s) : OutKept 562949953421311 s (execKeepJobHash who s))
  | keepJobEcdsaVerify who => exact (execKeepJobEcdsaVerify_kept (by decide) (Kept.refl _ s) : OutKept 562949953421311 s (execKeepJobEcdsaVerify who s))
  | keepJobHssVerify who => exact (execKeepJobHssVerify_kept (by decide) (Kept.refl _ s) : OutKept 562949953421311 s (execKeepJobHssVerify who s))
  | keepJobEcdsaSign who => exact (execKeepJobEcdsaSign_kept (by decide) (Kept.refl _ s) : OutKept 562949953421311 s (execKeepJobEcdsaSign who s))
  | keepJobHssSign who => exact (execKeepJobHssSign_kept (by decide) (Kept.refl _ s) : OutKept 562949953421311 s (execKeepJobHssSign who s))
  | keepJobAesEncrypt who => exact (execKeepJobAesEncrypt_kept (by decide) (Kept.refl _ s) : OutKept 562949953421311 s (execKeepJobAesEncrypt who s))
  | keepJobAesDecrypt who => exact (execKeepJobAesDecrypt_kept (by decide) (Kept.refl _ s) : OutKept 562949953421311 s (execKeepJobAesDecrypt who s))
  | keepJobTrngFill who => exact (execKeepJobTrngFill_kept (by decide) (Kept.refl _ s) : OutKept 562949953421311 s (execKeepJobTrngFill who s))
  | keepJobMrExtend who => exact (execKeepJobMrExtend_kept (by decide) (Kept.refl _ s) : OutKept 562949953421311 s (execKeepJobMrExtend who s))
  | keepJobDone e => exact (execKeepJobDone_kept (by decide) (Kept.refl _ s) : OutKept 562949953421311 s (execKeepJobDone e s))
  | trngHealthFail => exact (execTrngHealthFail_kept (by decide) (Kept.refl _ s) : OutKept 562949953421311 s (execTrngHealthFail s))
  | norngTimeout => exact (execNorngTimeout_kept (by decide) (Kept.refl _ s) : OutKept 562949953421311 s (execNorngTimeout s))
  | getVersion via => exact (execGetVersion_kept (by decide) (Kept.refl _ s) : OutKept 562949953421311 s (execGetVersion via s))
  | getCapabilities via => exact (execGetCapabilities_kept (by decide) (Kept.refl _ s) : OutKept 562949953421311 s (execGetCapabilities via s))
  | negotiateAlgorithms via offer => exact (execNegotiateAlgorithms_kept (by decide) (Kept.refl _ s) : OutKept 562949953421311 s (execNegotiateAlgorithms via offer s))
  | getDigests via => exact (execGetDigests_kept (by decide) (Kept.refl _ s) : OutKept 562949953421311 s (execGetDigests via s))
  | getCertificate via slot => exact (execGetCertificate_kept (by decide) (Kept.refl _ s) : OutKept 562949953421311 s (execGetCertificate via slot s))
  | challenge via => exact (execChallenge_kept (by decide) (Kept.refl _ s) : OutKept 562949953421311 s (execChallenge via s))
  | getMeasurements via blk signed => exact (execGetMeasurements_kept (by decide) (Kept.refl _ s) : OutKept 562949953421311 s (execGetMeasurements via blk signed s))
  | keyExchange via => exact (execKeyExchange_kept (by decide) (Kept.refl _ s) : OutKept 562949953421311 s (execKeyExchange via s))
  | finish via => exact (execFinish_kept (by decide) (Kept.refl _ s) : OutKept 562949953421311 s (execFinish via s))
  | heartbeat via => exact (execHeartbeat_kept (by decide) (Kept.refl _ s) : OutKept 562949953421311 s (execHeartbeat via s))
  | keyUpdate via => exact (execKeyUpdate_kept (by decide) (Kept.refl _ s) : OutKept 562949953421311 s (execKeyUpdate via s))
  | endSession via => exact (execEndSession_kept (by decide) (Kept.refl _ s) : OutKept 562949953421311 s (execEndSession via s))
  | lmsCosign via nonce => exact (execLmsCosign_kept (by decide) (Kept.refl _ s) : OutKept 562949953421311 s (execLmsCosign via nonce s))
  | tickEdge err x => exact (execTickEdge_kept (by decide) (Kept.refl _ s) : OutKept 562949953421311 s (execTickEdge err x s))
  | tickPllLockLoss => exact (execTickPllLockLoss_kept (by decide) (Kept.refl _ s) : OutKept 562949953421311 s (execTickPllLockLoss s))
  | tickInLost => exact (execTickInLost_kept (by decide) (Kept.refl _ s) : OutKept 562949953421311 s (execTickInLost s))
  | tickInReturn => exact (execTickInReturn_kept (by decide) (Kept.refl _ s) : OutKept 562949953421311 s (execTickInReturn s))
  | senseSampleReady rs aux => exact (execSenseSampleReady_kept (by decide) (Kept.refl _ s) : OutKept 562949953421311 s (execSenseSampleReady rs aux s))
  | sampleSetDelivery => exact (execSampleSetDelivery_kept (by decide) (Kept.refl _ s) : OutKept 562949953421311 s (execSampleSetDelivery s))
  | overrunDeadline => exact (execOverrunDeadline_kept (by decide) (Kept.refl _ s) : OutKept 562949953421311 s (execOverrunDeadline s))
  | plFrameSend n t => exact (execPlFrameSend_kept (by decide) (Kept.refl _ s) : OutKept 562949953421311 s (execPlFrameSend n t s))
  | portShedMask n => exact (execPortShedMask_kept (by decide) (Kept.refl _ s) : OutKept 562949953421311 s (execPortShedMask n s))
  | upstreamSampleFrame n a rx => exact (execUpstreamSampleFrame_kept (by decide) (Kept.refl _ s) : OutKept 562949953421311 s (execUpstreamSampleFrame n a rx s))
  | upstreamAuxFrame n rx => exact (execUpstreamAuxFrame_kept (by decide) (Kept.refl _ s) : OutKept 562949953421311 s (execUpstreamAuxFrame n rx s))
  | registerReply n rx => exact (execRegisterReply_kept (by decide) (Kept.refl _ s) : OutKept 562949953421311 s (execRegisterReply n rx s))
  | registerReplyMissing n => exact (execRegisterReplyMissing_kept (by decide) (Kept.refl _ s) : OutKept 562949953421311 s (execRegisterReplyMissing n s))
  | enumSyncDone n => exact (execEnumSyncDone_kept (by decide) (Kept.refl _ s) : OutKept 562949953421311 s (execEnumSyncDone n s))
  | stageAbsent n a => exact (execStageAbsent_kept (by decide) (Kept.refl _ s) : OutKept 562949953421311 s (execStageAbsent n a s))
  | quietWindowViolation n => exact (execQuietWindowViolation_kept (by decide) (Kept.refl _ s) : OutKept 562949953421311 s (execQuietWindowViolation n s))
  | busfail n => exact (execBusfail_kept (by decide) (Kept.refl _ s) : OutKept 562949953421311 s (execBusfail n s))
  | plausibilityFault r => exact (execPlausibilityFault_kept (by decide) (Kept.refl _ s) : OutKept 562949953421311 s (execPlausibilityFault r s))
  | plausClear r => exact (execPlausClear_kept (by decide) (Kept.refl _ s) : OutKept 562949953421311 s (execPlausClear r s))
  | disable n who v => exact (execDisable_kept (by decide) (Kept.refl _ s) : OutKept 562949953421311 s (execDisable n who v s))
  | reenable n who v => exact (execReenable_kept (by decide) (Kept.refl _ s) : OutKept 562949953421311 s (execReenable n who v s))
  | enumGo n who v => exact (execEnumGo_kept (by decide) (Kept.refl _ s) : OutKept 562949953421311 s (execEnumGo n who v s))
  | readmit n who v => exact (execReadmit_kept (by decide) (Kept.refl _ s) : OutKept 562949953421311 s (execReadmit n who v s))
  | plRegRead n who v => exact (execPlRegRead_kept (by decide) (Kept.refl _ s) : OutKept 562949953421311 s (execPlRegRead n who v s))
  | plRegWrite n who v => exact (execPlRegWrite_kept (by decide) (Kept.refl _ s) : OutKept 562949953421311 s (execPlRegWrite n who v s))
  | testInternalLoopback n who v => exact (execTestInternalLoopback_kept (by decide) (Kept.refl _ s) : OutKept 562949953421311 s (execTestInternalLoopback n who v s))
  | testDownstreamPrbs31 n who v => exact (execTestDownstreamPrbs31_kept (by decide) (Kept.refl _ s) : OutKept 562949953421311 s (execTestDownstreamPrbs31 n who v s))
  | testUpstreamPrbs31 n who v => exact (execTestUpstreamPrbs31_kept (by decide) (Kept.refl _ s) : OutKept 562949953421311 s (execTestUpstreamPrbs31 n who v s))
  | testStageLoopback n who v => exact (execTestStageLoopback_kept (by decide) (Kept.refl _ s) : OutKept 562949953421311 s (execTestStageLoopback n who v s))
  | testExit n who v => exact (execTestExit_kept (by decide) (Kept.refl _ s) : OutKept 562949953421311 s (execTestExit n who v s))
  | eyeGo n who v => exact (execEyeGo_kept (by decide) (Kept.refl _ s) : OutKept 562949953421311 s (execEyeGo n who v s))
  | eyeDone n errors => exact (execEyeDone_kept (by decide) (Kept.refl _ s) : OutKept 562949953421311 s (execEyeDone n errors s))
  | injectCrc n who v => exact (execInjectCrc_kept (by decide) (Kept.refl _ s) : OutKept 562949953421311 s (execInjectCrc n who v s))
  | injectSilentSlot n who v => exact (execInjectSilentSlot_kept (by decide) (Kept.refl _ s) : OutKept 562949953421311 s (execInjectSilentSlot n who v s))
  | injectSampleCrcFail n who v => exact (execInjectSampleCrcFail_kept (by decide) (Kept.refl _ s) : OutKept 562949953421311 s (execInjectSampleCrcFail n who v s))
  | injectQuietViolation n who v => exact (execInjectQuietViolation_kept (by decide) (Kept.refl _ s) : OutKept 562949953421311 s (execInjectQuietViolation n who v s))
  | stagePowerOn p mk => exact (execStagePowerOn_kept (by decide) (Kept.refl _ s) : OutKept 562949953421311 s (execStagePowerOn p mk s))
  | stageMarkerRx p c => exact (execStageMarkerRx_kept (by decide) (Kept.refl _ s) : OutKept 562949953421311 s (execStageMarkerRx p c s))
  | stageMarkerMissing p => exact (execStageMarkerMissing_kept (by decide) (Kept.refl _ s) : OutKept 562949953421311 s (execStageMarkerMissing p s))
  | stageHoldExpiry p => exact (execStageHoldExpiry_kept (by decide) (Kept.refl _ s) : OutKept 562949953421311 s (execStageHoldExpiry p s))
  | stageInternalFault p code => exact (execStageInternalFault_kept (by decide) (Kept.refl _ s) : OutKept 562949953421311 s (execStageInternalFault p code s))
  | stageSlotStart p aux m => exact (execStageSlotStart_kept (by decide) (Kept.refl _ s) : OutKept 562949953421311 s (execStageSlotStart p aux m s))
  | stageInvalidFrame p => exact (execStageInvalidFrame_kept (by decide) (Kept.refl _ s) : OutKept 562949953421311 s (execStageInvalidFrame p s))
  | current p a x en => exact (execCurrent_kept (by decide) (Kept.refl _ s) : OutKept 562949953421311 s (execCurrent p a x en s))
  | ontime p a x en => exact (execOntime_kept (by decide) (Kept.refl _ s) : OutKept 562949953421311 s (execOntime p a x en s))
  | shed p a x en => exact (execShed_kept (by decide) (Kept.refl _ s) : OutKept 562949953421311 s (execShed p a x en s))
  | hold p a x en => exact (execHold_kept (by decide) (Kept.refl _ s) : OutKept 562949953421311 s (execHold p a x en s))
  | configure p a x en => exact (execConfigure_kept (by decide) (Kept.refl _ s) : OutKept 562949953421311 s (execConfigure p a x en s))
  | auxRead p a x en => exact (execAuxRead_kept (by decide) (Kept.refl _ s) : OutKept 562949953421311 s (execAuxRead p a x en s))
  | wake p a x en => exact (execWake_kept (by decide) (Kept.refl _ s) : OutKept 562949953421311 s (execWake p a x en s))
  | ovrCurrent p a x en => exact (execOvrCurrent_kept (by decide) (Kept.refl _ s) : OutKept 562949953421311 s (execOvrCurrent p a x en s))
  | ovrShed p a x en => exact (execOvrShed_kept (by decide) (Kept.refl _ s) : OutKept 562949953421311 s (execOvrShed p a x en s))
  | ovrShedMask p a x en => exact (execOvrShedMask_kept (by decide) (Kept.refl _ s) : OutKept 562949953421311 s (execOvrShedMask p a x en s))
  | shedMask p a x en => exact (execShedMask_kept (by decide) (Kept.refl _ s) : OutKept 562949953421311 s (execShedMask p a x en s))
  | leNop j w f => exact (execLeNop_kept (by decide) (Kept.refl _ s) : OutKept 562949953421311 s (execLeNop j w f s))
  | leAdd j w f => exact (execLeAdd_kept (by decide) (Kept.refl _ s) : OutKept 562949953421311 s (execLeAdd j w f s))
  | leSub j w f => exact (execLeSub_kept (by decide) (Kept.refl _ s) : OutKept 562949953421311 s (execLeSub j w f s))
  | leAddi j w f => exact (execLeAddi_kept (by decide) (Kept.refl _ s) : OutKept 562949953421311 s (execLeAddi j w f s))
  | leAnd j w f => exact (execLeAnd_kept (by decide) (Kept.refl _ s) : OutKept 562949953421311 s (execLeAnd j w f s))
  | leOr j w f => exact (execLeOr_kept (by decide) (Kept.refl _ s) : OutKept 562949953421311 s (execLeOr j w f s))
  | leXor j w f => exact (execLeXor_kept (by decide) (Kept.refl _ s) : OutKept 562949953421311 s (execLeXor j w f s))
  | leMovi j w f => exact (execLeMovi_kept (by decide) (Kept.refl _ s) : OutKept 562949953421311 s (execLeMovi j w f s))
  | leMovhi j w f => exact (execLeMovhi_kept (by decide) (Kept.refl _ s) : OutKept 562949953421311 s (execLeMovhi j w f s))
  | leMov j w f => exact (execLeMov_kept (by decide) (Kept.refl _ s) : OutKept 562949953421311 s (execLeMov j w f s))
  | leShl j w f => exact (execLeShl_kept (by decide) (Kept.refl _ s) : OutKept 562949953421311 s (execLeShl j w f s))
  | leShr j w f => exact (execLeShr_kept (by decide) (Kept.refl _ s) : OutKept 562949953421311 s (execLeShr j w f s))
  | leSra j w f => exact (execLeSra_kept (by decide) (Kept.refl _ s) : OutKept 562949953421311 s (execLeSra j w f s))
  | leShli j w f => exact (execLeShli_kept (by decide) (Kept.refl _ s) : OutKept 562949953421311 s (execLeShli j w f s))
  | leShri j w f => exact (execLeShri_kept (by decide) (Kept.refl _ s) : OutKept 562949953421311 s (execLeShri j w f s))
  | leSrai j w f => exact (execLeSrai_kept (by decide) (Kept.refl _ s) : OutKept 562949953421311 s (execLeSrai j w f s))
  | leMin j w f => exact (execLeMin_kept (by decide) (Kept.refl _ s) : OutKept 562949953421311 s (execLeMin j w f s))
  | leMax j w f => exact (execLeMax_kept (by decide) (Kept.refl _ s) : OutKept 562949953421311 s (execLeMax j w f s))
  | leClamp j w f => exact (execLeClamp_kept (by decide) (Kept.refl _ s) : OutKept 562949953421311 s (execLeClamp j w f s))
  | leAbs j w f => exact (execLeAbs_kept (by decide) (Kept.refl _ s) : OutKept 562949953421311 s (execLeAbs j w f s))
  | leNeg j w f => exact (execLeNeg_kept (by decide) (Kept.refl _ s) : OutKept 562949953421311 s (execLeNeg j w f s))
  | leMulq j w f => exact (execLeMulq_kept (by decide) (Kept.refl _ s) : OutKept 562949953421311 s (execLeMulq j w f s))
  | leMac j w f => exact (execLeMac_kept (by decide) (Kept.refl _ s) : OutKept 562949953421311 s (execLeMac j w f s))
  | leMsu j w f => exact (execLeMsu_kept (by decide) (Kept.refl _ s) : OutKept 562949953421311 s (execLeMsu j w f s))
  | leMclr j w f => exact (execLeMclr_kept (by decide) (Kept.refl _ s) : OutKept 562949953421311 s (execLeMclr j w f s))
  | leMld j w f => exact (execLeMld_kept (by decide) (Kept.refl _ s) : OutKept 562949953421311 s (execLeMld j w f s))
  | leMrd j w f => exact (execLeMrd_kept (by decide) (Kept.refl _ s) : OutKept 562949953421311 s (execLeMrd j w f s))
  | leMadd j w f => exact (execLeMadd_kept (by decide) (Kept.refl _ s) : OutKept 562949953421311 s (execLeMadd j w f s))
  | leLd j w f e => exact (execLeLd_kept (by decide) (Kept.refl _ s) : OutKept 562949953421311 s (execLeLd j w f e s))
  | leSt j w f => exact (execLeSt_kept (by decide) (Kept.refl _ s) : OutKept 562949953421311 s (execLeSt j w f s))
  | leLdh j w f e => exact (execLeLdh_kept (by decide) (Kept.refl _ s) : OutKept 562949953421311 s (execLeLdh j w f e s))
  | leSth j w f e => exact (execLeSth_kept (by decide) (Kept.refl _ s) : OutKept 562949953421311 s (execLeSth j w f e s))
  | leLdp j w f e => exact (execLeLdp_kept (by decide) (Kept.refl _ s) : OutKept 562949953421311 s (execLeLdp j w f e s))
  | leStp j w f => exact (execLeStp_kept (by decide) (Kept.refl _ s) : OutKept 562949953421311 s (execLeStp j w f s))
  | leSharedAccessDone j cycles e => exact (execLeSharedAccessDone_kept (by decide) (Kept.refl _ s) : OutKept 562949953421311 s (execLeSharedAccessDone j cycles e s))
  | lePset j w f => exact (execLePset_kept (by decide) (Kept.refl _ s) : OutKept 562949953421311 s (execLePset j w f s))
  | lePadd j w f => exact (execLePadd_kept (by decide) (Kept.refl _ s) : OutKept 562949953421311 s (execLePadd j w f s))
  | lePmov j w f => exact (execLePmov_kept (by decide) (Kept.refl _ s) : OutKept 562949953421311 s (execLePmov j w f s))
  | lePrd j w f => exact (execLePrd_kept (by decide) (Kept.refl _ s) : OutKept 562949953421311 s (execLePrd j w f s))
  | leRsr j w f => exact (execLeRsr_kept (by decide) (Kept.refl _ s) : OutKept 562949953421311 s (execLeRsr j w f s))
  | leWsr j w f => exact (execLeWsr_kept (by decide) (Kept.refl _ s) : OutKept 562949953421311 s (execLeWsr j w f s))
  | leRdn j w f => exact (execLeRdn_kept (by decide) (Kept.refl _ s) : OutKept 562949953421311 s (execLeRdn j w f s))
  | leBeq j w f => exact (execLeBeq_kept (by decide) (Kept.refl _ s) : OutKept 562949953421311 s (execLeBeq j w f s))
  | leBne j w f => exact (execLeBne_kept (by decide) (Kept.refl _ s) : OutKept 562949953421311 s (execLeBne j w f s))
  | leBlt j w f => exact (execLeBlt_kept (by decide) (Kept.refl _ s) : OutKept 562949953421311 s (execLeBlt j w f s))
  | leBge j w f => exact (execLeBge_kept (by decide) (Kept.refl _ s) : OutKept 562949953421311 s (execLeBge j w f s))
  | leB j w f => exact (execLeB_kept (by decide) (Kept.refl _ s) : OutKept 562949953421311 s (execLeB j w f s))
  | leJal j w f => exact (execLeJal_kept (by decide) (Kept.refl _ s) : OutKept 562949953421311 s (execLeJal j w f s))
  | leJr j w f => exact (execLeJr_kept (by decide) (Kept.refl _ s) : OutKept 562949953421311 s (execLeJr j w f s))
  | leLoop j w f => exact (execLeLoop_kept (by decide) (Kept.refl _ s) : OutKept 562949953421311 s (execLeLoop j w f s))
  | leWaits j w f => exact (execLeWaits_kept (by decide) (Kept.refl _ s) : OutKept 562949953421311 s (execLeWaits j w f s))
  | leWaitsEnd j cycles => exact (execLeWaitsEnd_kept (by decide) (Kept.refl _ s) : OutKept 562949953421311 s (execLeWaitsEnd j cycles s))
  | leRds j w f => exact (execLeRds_kept (by decide) (Kept.refl _ s) : OutKept 562949953421311 s (execLeRds j w f s))
  | leSendp j w f => exact (execLeSendp_kept (by decide) (Kept.refl _ s) : OutKept 562949953421311 s (execLeSendp j w f s))
  | leCommit j w f => exact (execLeCommit_kept (by decide) (Kept.refl _ s) : OutKept 562949953421311 s (execLeCommit j w f s))
  | leEnd j w f => exact (execLeEnd_kept (by decide) (Kept.refl _ s) : OutKept 562949953421311 s (execLeEnd j w f s))
  | lePub j w f => exact (execLePub_kept (by decide) (Kept.refl _ s) : OutKept 562949953421311 s (execLePub j w f s))
  | leEvp j w f => exact (execLeEvp_kept (by decide) (Kept.refl _ s) : OutKept 562949953421311 s (execLeEvp j w f s))
  | lcSpareRelease c who v => exact (execLcSpareRelease_kept (by decide) (Kept.refl _ s) : OutKept 562949953421311 s (execLcSpareRelease c who v s))
  | lcLeReset j who v => exact (execLcLeReset_kept (by decide) (Kept.refl _ s) : OutKept 562949953421311 s (execLcLeReset j who v s))
  | lcLeFence j who v => exact (execLcLeFence_kept (by decide) (Kept.refl _ s) : OutKept 562949953421311 s (execLcLeFence j who v s))
  | lcLeUnfence j who v => exact (execLcLeUnfence_kept (by decide) (Kept.refl _ s) : OutKept 562949953421311 s (execLcLeUnfence j who v s))
  | recRingResume c who v => exact (execRecRingResume_kept (by decide) (Kept.refl _ s) : OutKept 562949953421311 s (execRecRingResume c who v s))
  | adcSaturation ch => exact (execAdcSaturation_kept (by decide) (Kept.refl _ s) : OutKept 562949953421311 s (execAdcSaturation ch s))
  | hintNotice h x => exact (execHintNotice_kept (by decide) (Kept.refl _ s) : OutKept 562949953421311 s (execHintNotice h x s))
  | hintLinkUp h => exact (execHintLinkUp_kept (by decide) (Kept.refl _ s) : OutKept 562949953421311 s (execHintLinkUp h s))
  | hintLinkDown h => exact (execHintLinkDown_kept (by decide) (Kept.refl _ s) : OutKept 562949953421311 s (execHintLinkDown h s))
  | nophase r => exact (execNophase_kept (by decide) (Kept.refl _ s) : OutKept 562949953421311 s (execNophase r s))
  | pgtmo st => exact (execPgtmo_kept (by decide) (Kept.refl _ s) : OutKept 562949953421311 s (execPgtmo st s))
  | pgUp r => exact (execPgUp_kept (by decide) (Kept.refl _ s) : OutKept 562949953421311 s (execPgUp r s))
  | seqStepStart st => exact (execSeqStepStart_kept (by decide) (Kept.refl _ s) : OutKept 562949953421311 s (execSeqStepStart st s))
  | seqGpioPgChange g lvl => exact (execSeqGpioPgChange_kept (by decide) (Kept.refl _ s) : OutKept 562949953421311 s (execSeqGpioPgChange g lvl s))
  | seqUp who v => exact (execSeqUp_kept (by decide) (Kept.refl _ s) : OutKept 562949953421311 s (execSeqUp who v s))
  | seqDown who v => exact (execSeqDown_kept (by decide) (Kept.refl _ s) : OutKept 562949953421311 s (execSeqDown who v s))
  | seqClear who v => exact (execSeqClear_kept (by decide) (Kept.refl _ s) : OutKept 562949953421311 s (execSeqClear who v s))
  | railOn r who v => exact (execRailOn_kept (by decide) (Kept.refl _ s) : OutKept 562949953421311 s (execRailOn r who v s))
  | railOff r who v => exact (execRailOff_kept (by decide) (Kept.refl _ s) : OutKept 562949953421311 s (execRailOff r who v s))
  | railClear r who v => exact (execRailClear_kept (by decide) (Kept.refl _ s) : OutKept 562949953421311 s (execRailClear r who v s))
  | railSetptWrite r who v => exact (execRailSetptWrite_kept (by decide) (Kept.refl _ s) : OutKept 562949953421311 s (execRailSetptWrite r who v s))
  | railWshedReadmit r hi who v => exact (execRailWshedReadmit_kept (by decide) (Kept.refl _ s) : OutKept 562949953421311 s (execRailWshedReadmit r hi who v s))
  | ledgerSeriesDue ix => exact (execLedgerSeriesDue_kept (by decide) (Kept.refl _ s) : OutKept 562949953421311 s (execLedgerSeriesDue ix s))
  | ledgerUpdateDiscard ix => exact (execLedgerUpdateDiscard_kept (by decide) (Kept.refl _ s) : OutKept 562949953421311 s (execLedgerUpdateDiscard ix s))
  | ledgerPartnerReply p tag x => exact (execLedgerPartnerReply_kept (by decide) (Kept.refl _ s) : OutKept 562949953421311 s (execLedgerPartnerReply p tag x s))
  | ledgerPollTimeout p tag => exact (execLedgerPollTimeout_kept (by decide) (Kept.refl _ s) : OutKept 562949953421311 s (execLedgerPollTimeout p tag s))
  | ledgerProbe p => exact (execLedgerProbe_kept (by decide) (Kept.refl _ s) : OutKept 562949953421311 s (execLedgerProbe p s))
  | stale ix => exact (execStale_kept (by decide) (Kept.refl _ s) : OutKept 562949953421311 s (execStale ix s))
  | ledgerUnsolicited p => exact (execLedgerUnsolicited_kept (by decide) (Kept.refl _ s) : OutKept 562949953421311 s (execLedgerUnsolicited p s))
  | ledgerThrottleEnd p => exact (execLedgerThrottleEnd_kept (by decide) (Kept.refl _ s) : OutKept 562949953421311 s (execLedgerThrottleEnd p s))
  | ledgerWriteback ix => exact (execLedgerWriteback_kept (by decide) (Kept.refl _ s) : OutKept 562949953421311 s (execLedgerWriteback ix s))
  | ldgRead who v => exact (execLdgRead_kept (by decide) (Kept.refl _ s) : OutKept 562949953421311 s (execLdgRead who v s))
  | ldgWrite who v => exact (execLdgWrite_kept (by decide) (Kept.refl _ s) : OutKept 562949953421311 s (execLdgWrite who v s))
  | resetStats who v => exact (execResetStats_kept (by decide) (Kept.refl _ s) : OutKept 562949953421311 s (execResetStats who v s))
  | push who v => exact (execPush_kept (by decide) (Kept.refl _ s) : OutKept 562949953421311 s (execPush who v s))
  | flushOne who v => exact (execFlushOne_kept (by decide) (Kept.refl _ s) : OutKept 562949953421311 s (execFlushOne who v s))
  | flushAll who v => exact (execFlushAll_kept (by decide) (Kept.refl _ s) : OutKept 562949953421311 s (execFlushAll who v s))
  | invalAll who v => exact (execInvalAll_kept (by decide) (Kept.refl _ s) : OutKept 562949953421311 s (execInvalAll who v s))
  | ldgCmdDone => exact (execLdgCmdDone_kept (by decide) (Kept.refl _ s) : OutKept 562949953421311 s (execLdgCmdDone s))
  | companionHeartbeat b => exact (execCompanionHeartbeat_kept (by decide) (Kept.refl _ s) : OutKept 562949953421311 s (execCompanionHeartbeat b s))
  | hbLost => exact (execHbLost_kept (by decide) (Kept.refl _ s) : OutKept 562949953421311 s (execHbLost s))
  | handoverRecordRx b => exact (execHandoverRecordRx_kept (by decide) (Kept.refl _ s) : OutKept 562949953421311 s (execHandoverRecordRx b s))
  | companionLinkDown => exact (execCompanionLinkDown_kept (by decide) (Kept.refl _ s) : OutKept 562949953421311 s (execCompanionLinkDown s))
  | companionLinkUp => exact (execCompanionLinkUp_kept (by decide) (Kept.refl _ s) : OutKept 562949953421311 s (execCompanionLinkUp s))
  | joined => exact (execJoined_kept (by decide) (Kept.refl _ s) : OutKept 562949953421311 s (execJoined s))
  | ownWatchdog => exact (execOwnWatchdog_kept (by decide) (Kept.refl _ s) : OutKept 562949953421311 s (execOwnWatchdog s))
  | pairOwnHigh => exact (execPairOwnHigh_kept (by decide) (Kept.refl _ s) : OutKept 562949953421311 s (execPairOwnHigh s))
  | pairFenceLow => exact (execPairFenceLow_kept (by decide) (Kept.refl _ s) : OutKept 562949953421311 s (execPairFenceLow s))
  | fenceAssert => exact (execFenceAssert_kept (by decide) (Kept.refl _ s) : OutKept 562949953421311 s (execFenceAssert s))
  | leave who v => exact (execLeave_kept (by decide) (Kept.refl _ s) : OutKept 562949953421311 s (execLeave who v s))
  | join who v => exact (execJoin_kept (by decide) (Kept.refl _ s) : OutKept 562949953421311 s (execJoin who v s))
  | unfence who v => exact (execUnfence_kept (by decide) (Kept.refl _ s) : OutKept 562949953421311 s (execUnfence who v s))
  | fenceRel who v => exact (execFenceRel_kept (by decide) (Kept.refl _ s) : OutKept 562949953421311 s (execFenceRel who v s))
  | fence who v => exact (execFence_kept (by decide) (Kept.refl _ s) : OutKept 562949953421311 s (execFence who v s))
  | handoff who v => exact (execHandoff_kept (by decide) (Kept.refl _ s) : OutKept 562949953421311 s (execHandoff who v s))
  | migSend who v => exact (execMigSend_kept (by decide) (Kept.refl _ s) : OutKept 562949953421311 s (execMigSend who v s))
  | migDone code => exact (execMigDone_kept (by decide) (Kept.refl _ s) : OutKept 562949953421311 s (execMigDone code s))
  | migRx b stall => exact (execMigRx_kept (by decide) (Kept.refl _ s) : OutKept 562949953421311 s (execMigRx b stall s))
  | migRxFree who v => exact (execMigRxFree_kept (by decide) (Kept.refl _ s) : OutKept 562949953421311 s (execMigRxFree who v s))
  | add n d a b z => exact (execAdd_kept (by decide) (Kept.refl _ s) : OutKept 562949953421311 s (execAdd n d a b z s))
  | sub n d a b z => exact (execSub_kept (by decide) (Kept.refl _ s) : OutKept 562949953421311 s (execSub n d a b z s))
  | addm n d a b z => exact (execAddm_kept (by decide) (Kept.refl _ s) : OutKept 562949953421311 s (execAddm n d a b z s))
  | subm n d a b z => exact (execSubm_kept (by decide) (Kept.refl _ s) : OutKept 562949953421311 s (execSubm n d a b z s))
  | and n d a b z => exact (execAnd_kept (by decide) (Kept.refl _ s) : OutKept 562949953421311 s (execAnd n d a b z s))
  | or n d a b z => exact (execOr_kept (by decide) (Kept.refl _ s) : OutKept 562949953421311 s (execOr n d a b z s))
  | xor n d a b z => exact (execXor_kept (by decide) (Kept.refl _ s) : OutKept 562949953421311 s (execXor n d a b z s))
  | andn n d a b z => exact (execAndn_kept (by decide) (Kept.refl _ s) : OutKept 562949953421311 s (execAndn n d a b z s))
  | shl n d a b z => exact (execShl_kept (by decide) (Kept.refl _ s) : OutKept 562949953421311 s (execShl n d a b z s))
  | shr n d a b z => exact (execShr_kept (by decide) (Kept.refl _ s) : OutKept 562949953421311 s (execShr n d a b z s))
  | sar n d a b z => exact (execSar_kept (by decide) (Kept.refl _ s) : OutKept 562949953421311 s (execSar n d a b z s))
  | clt n d a b z => exact (execClt_kept (by decide) (Kept.refl _ s) : OutKept 562949953421311 s (execClt n d a b z s))
  | cltu n d a b z => exact (execCltu_kept (by decide) (Kept.refl _ s) : OutKept 562949953421311 s (execCltu n d a b z s))
  | min n d a b z => exact (execMin_kept (by decide) (Kept.refl _ s) : OutKept 562949953421311 s (execMin n d a b z s))
  | max n d a b z => exact (execMax_kept (by decide) (Kept.refl _ s) : OutKept 562949953421311 s (execMax n d a b z s))
  | minu n d a b z => exact (execMinu_kept (by decide) (Kept.refl _ s) : OutKept 562949953421311 s (execMinu n d a b z s))
  | maxu n d a b z => exact (execMaxu_kept (by decide) (Kept.refl _ s) : OutKept 562949953421311 s (execMaxu n d a b z s))
  | add32 n d a b z => exact (execAdd32_kept (by decide) (Kept.refl _ s) : OutKept 562949953421311 s (execAdd32 n d a b z s))
  | sub32 n d a b z => exact (execSub32_kept (by decide) (Kept.refl _ s) : OutKept 562949953421311 s (execSub32 n d a b z s))
  | shl32 n d a b z => exact (execShl32_kept (by decide) (Kept.refl _ s) : OutKept 562949953421311 s (execShl32 n d a b z s))
  | shr32 n d a b z => exact (execShr32_kept (by decide) (Kept.refl _ s) : OutKept 562949953421311 s (execShr32 n d a b z s))
  | sar32 n d a b z => exact (execSar32_kept (by decide) (Kept.refl _ s) : OutKept 562949953421311 s (execSar32 n d a b z s))
  | addk n d a k => exact (execAddk_kept (by decide) (Kept.refl _ s) : OutKept 562949953421311 s (execAddk n d a k s))
  | addkm n d a k => exact (execAddkm_kept (by decide) (Kept.refl _ s) : OutKept 562949953421311 s (execAddkm n d a k s))
  | andk n d a k => exact (execAndk_kept (by decide) (Kept.refl _ s) : OutKept 562949953421311 s (execAndk n d a k s))
  | ork n d a k => exact (execOrk_kept (by decide) (Kept.refl _ s) : OutKept 562949953421311 s (execOrk n d a k s))
  | xork n d a k => exact (execXork_kept (by decide) (Kept.refl _ s) : OutKept 562949953421311 s (execXork n d a k s))
  | cltk n d a k => exact (execCltk_kept (by decide) (Kept.refl _ s) : OutKept 562949953421311 s (execCltk n d a k s))
  | cltuk n d a k => exact (execCltuk_kept (by decide) (Kept.refl _ s) : OutKept 562949953421311 s (execCltuk n d a k s))
  | shlk n d a k => exact (execShlk_kept (by decide) (Kept.refl _ s) : OutKept 562949953421311 s (execShlk n d a k s))
  | shrk n d a k => exact (execShrk_kept (by decide) (Kept.refl _ s) : OutKept 562949953421311 s (execShrk n d a k s))
  | sark n d a k => exact (execSark_kept (by decide) (Kept.refl _ s) : OutKept 562949953421311 s (execSark n d a k s))
  | addk32 n d a k => exact (execAddk32_kept (by decide) (Kept.refl _ s) : OutKept 562949953421311 s (execAddk32 n d a k s))
  | shlk32 n d a k => exact (execShlk32_kept (by decide) (Kept.refl _ s) : OutKept 562949953421311 s (execShlk32 n d a k s))
  | shrk32 n d a k => exact (execShrk32_kept (by decide) (Kept.refl _ s) : OutKept 562949953421311 s (execShrk32 n d a k s))
  | sark32 n d a k => exact (execSark32_kept (by decide) (Kept.refl _ s) : OutKept 562949953421311 s (execSark32 n d a k s))
  | mul n d a b z => exact (execMul_kept (by decide) (Kept.refl _ s) : OutKept 562949953421311 s (execMul n d a b z s))
  | mulhi n d a b z => exact (execMulhi_kept (by decide) (Kept.refl _ s) : OutKept 562949953421311 s (execMulhi n d a b z s))
  | mulhiu n d a b z => exact (execMulhiu_kept (by decide) (Kept.refl _ s) : OutKept 562949953421311 s (execMulhiu n d a b z s))
  | mul32 n d a b z => exact (execMul32_kept (by decide) (Kept.refl _ s) : OutKept 562949953421311 s (execMul32 n d a b z s))
  | div n d a b z => exact (execDiv_kept (by decide) (Kept.refl _ s) : OutKept 562949953421311 s (execDiv n d a b z s))
  | divu n d a b z => exact (execDivu_kept (by decide) (Kept.refl _ s) : OutKept 562949953421311 s (execDivu n d a b z s))
  | mod n d a b z => exact (execMod_kept (by decide) (Kept.refl _ s) : OutKept 562949953421311 s (execMod n d a b z s))
  | modu n d a b z => exact (execModu_kept (by decide) (Kept.refl _ s) : OutKept 562949953421311 s (execModu n d a b z s))
  | div32 n d a b z => exact (execDiv32_kept (by decide) (Kept.refl _ s) : OutKept 562949953421311 s (execDiv32 n d a b z s))
  | divu32 n d a b z => exact (execDivu32_kept (by decide) (Kept.refl _ s) : OutKept 562949953421311 s (execDivu32 n d a b z s))
  | mod32 n d a b z => exact (execMod32_kept (by decide) (Kept.refl _ s) : OutKept 562949953421311 s (execMod32 n d a b z s))
  | modu32 n d a b z => exact (execModu32_kept (by decide) (Kept.refl _ s) : OutKept 562949953421311 s (execModu32 n d a b z s))
  | ld8 n d a k hit => exact (execLd8_kept (by decide) (Kept.refl _ s) : OutKept 562949953421311 s (execLd8 n d a k hit s))
  | ld8u n d a k hit => exact (execLd8u_kept (by decide) (Kept.refl _ s) : OutKept 562949953421311 s (execLd8u n d a k hit s))
  | ld16 n d a k hit => exact (execLd16_kept (by decide) (Kept.refl _ s) : OutKept 562949953421311 s (execLd16 n d a k hit s))
  | ld16u n d a k hit => exact (execLd16u_kept (by decide) (Kept.refl _ s) : OutKept 562949953421311 s (execLd16u n d a k hit s))
  | ld32 n d a k hit => exact (execLd32_kept (by decide) (Kept.refl _ s) : OutKept 562949953421311 s (execLd32 n d a k hit s))
  | ld32u n d a k hit => exact (execLd32u_kept (by decide) (Kept.refl _ s) : OutKept 562949953421311 s (execLd32u n d a k hit s))
  | ld64 n d a k hit => exact (execLd64_kept (by decide) (Kept.refl _ s) : OutKept 562949953421311 s (execLd64 n d a k hit s))
  | st8 n r a k => exact (execSt8_kept (by decide) (Kept.refl _ s) : OutKept 562949953421311 s (execSt8 n r a k s))
  | st16 n r a k => exact (execSt16_kept (by decide) (Kept.refl _ s) : OutKept 562949953421311 s (execSt16 n r a k s))
  | st32 n r a k => exact (execSt32_kept (by decide) (Kept.refl _ s) : OutKept 562949953421311 s (execSt32 n r a k s))
  | st64 n r a k => exact (execSt64_kept (by decide) (Kept.refl _ s) : OutKept 562949953421311 s (execSt64 n r a k s))
  | storeDrain n => exact (execStoreDrain_kept (by decide) (Kept.refl _ s) : OutKept 562949953421311 s (execStoreDrain n s))
  | storeErrorEntry n => exact (execStoreErrorEntry_kept (by decide) (Kept.refl _ s) : OutKept 562949953421311 s (execStoreErrorEntry n s))
  | loadDataReturn n e => exact (execLoadDataReturn_kept (by decide) (Kept.refl _ s) : OutKept 562949953421311 s (execLoadDataReturn n e s))
  | rsv32 n d a b z => exact (execRsv32_kept (by decide) (Kept.refl _ s) : OutKept 562949953421311 s (execRsv32 n d a b z s))
  | rsv64 n d a b z => exact (execRsv64_kept (by decide) (Kept.refl _ s) : OutKept 562949953421311 s (execRsv64 n d a b z s))
  | cmt32 n d a b z => exact (execCmt32_kept (by decide) (Kept.refl _ s) : OutKept 562949953421311 s (execCmt32 n d a b z s))
  | cmt64 n d a b z => exact (execCmt64_kept (by decide) (Kept.refl _ s) : OutKept 562949953421311 s (execCmt64 n d a b z s))
  | atswap32 n d a b z => exact (execAtswap32_kept (by decide) (Kept.refl _ s) : OutKept 562949953421311 s (execAtswap32 n d a b z s))
  | atswap64 n d a b z => exact (execAtswap64_kept (by decide) (Kept.refl _ s) : OutKept 562949953421311 s (execAtswap64 n d a b z s))
  | atadd32 n d a b z => exact (execAtadd32_kept (by decide) (Kept.refl _ s) : OutKept 562949953421311 s (execAtadd32 n d a b z s))
  | atadd64 n d a b z => exact (execAtadd64_kept (by decide) (Kept.refl _ s) : OutKept 562949953421311 s (execAtadd64 n d a b z s))
  | atand32 n d a b z => exact (execAtand32_kept (by decide) (Kept.refl _ s) : OutKept 562949953421311 s (execAtand32 n d a b z s))
  | atand64 n d a b z => exact (execAtand64_kept (by decide) (Kept.refl _ s) : OutKept 562949953421311 s (execAtand64 n d a b z s))
  | ator32 n d a b z => exact (execAtor32_kept (by decide) (Kept.refl _ s) : OutKept 562949953421311 s (execAtor32 n d a b z s))
  | ator64 n d a b z => exact (execAtor64_kept (by decide) (Kept.refl _ s) : OutKept 562949953421311 s (execAtor64 n d a b z s))
  | atcas32 n d a b z => exact (execAtcas32_kept (by decide) (Kept.refl _ s) : OutKept 562949953421311 s (execAtcas32 n d a b z s))
  | atcas64 n d a b z => exact (execAtcas64_kept (by decide) (Kept.refl _ s) : OutKept 562949953421311 s (execAtcas64 n d a b z s))
  | cbeq n a b off => exact (execCbeq_kept (by decide) (Kept.refl _ s) : OutKept 562949953421311 s (execCbeq n a b off s))
  | cbne n a b off => exact (execCbne_kept (by decide) (Kept.refl _ s) : OutKept 562949953421311 s (execCbne n a b off s))
  | cblt n a b off => exact (execCblt_kept (by decide) (Kept.refl _ s) : OutKept 562949953421311 s (execCblt n a b off s))
  | cbge n a b off => exact (execCbge_kept (by decide) (Kept.refl _ s) : OutKept 562949953421311 s (execCbge n a b off s))
  | cbltu n a b off => exact (execCbltu_kept (by decide) (Kept.refl _ s) : OutKept 562949953421311 s (execCbltu n a b off s))
  | cbgeu n a b off => exact (execCbgeu_kept (by decide) (Kept.refl _ s) : OutKept 562949953421311 s (execCbgeu n a b off s))
  | jlink n d k => exact (execJlink_kept (by decide) (Kept.refl _ s) : OutKept 562949953421311 s (execJlink n d k s))
  | jlinkr n d a minor k => exact (execJlinkr_kept (by decide) (Kept.refl _ s) : OutKept 562949953421311 s (execJlinkr n d a minor k s))
  | mkhi n d k => exact (execMkhi_kept (by decide) (Kept.refl _ s) : OutKept 562949953421311 s (execMkhi n d k s))
  | pchi n d k => exact (execPchi_kept (by decide) (Kept.refl _ s) : OutKept 562949953421311 s (execPchi n d k s))
  | loop n a e z1 z2 => exact (execLoop_kept (by decide) (Kept.refl _ s) : OutKept 562949953421311 s (execLoop n a e z1 z2 s))
  | nop n d a k => exact (execNop_kept (by decide) (Kept.refl _ s) : OutKept 562949953421311 s (execNop n d a k s))
  | mfsr n d a k => exact (execMfsr_kept (by decide) (Kept.refl _ s) : OutKept 562949953421311 s (execMfsr n d a k s))
  | mtsr n d a k => exact (execMtsr_kept (by decide) (Kept.refl _ s) : OutKept 562949953421311 s (execMtsr n d a k s))
  | msset n d a k => exact (execMsset_kept (by decide) (Kept.refl _ s) : OutKept 562949953421311 s (execMsset n d a k s))
  | msclr n d a k => exact (execMsclr_kept (by decide) (Kept.refl _ s) : OutKept 562949953421311 s (execMsclr n d a k s))
  | sync n d a k => exact (execSync_kept (by decide) (Kept.refl _ s) : OutKept 562949953421311 s (execSync n d a k s))
  | isync n d a k => exact (execIsync_kept (by decide) (Kept.refl _ s) : OutKept 562949953421311 s (execIsync n d a k s))
  | icinv n d a k => exact (execIcinv_kept (by decide) (Kept.refl _ s) : OutKept 562949953421311 s (execIcinv n d a k s))
  | dcwb n d a k => exact (execDcwb_kept (by decide) (Kept.refl _ s) : OutKept 562949953421311 s (execDcwb n d a k s))
  | dcwbi n d a k => exact (execDcwbi_kept (by decide) (Kept.refl _ s) : OutKept 562949953421311 s (execDcwbi n d a k s))
  | tinvVa n a b z => exact (execTinvVa_kept (by decide) (Kept.refl _ s) : OutKept 562949953421311 s (execTinvVa n a b z s))
  | tinvSid n d a k => exact (execTinvSid_kept (by decide) (Kept.refl _ s) : OutKept 562949953421311 s (execTinvSid n d a k s))
  | tinvIpa n d a k => exact (execTinvIpa_kept (by decide) (Kept.refl _ s) : OutKept 562949953421311 s (execTinvIpa n d a k s))
  | tinvAll n d a k => exact (execTinvAll_kept (by decide) (Kept.refl _ s) : OutKept 562949953421311 s (execTinvAll n d a k s))
  | pflush n d a k => exact (execPflush_kept (by decide) (Kept.refl _ s) : OutKept 562949953421311 s (execPflush n d a k s))
  | pbar n d a k => exact (execPbar_kept (by decide) (Kept.refl _ s) : OutKept 562949953421311 s (execPbar n d a k s))
  | wait n d a k => exact (execWait_kept (by decide) (Kept.refl _ s) : OutKept 562949953421311 s (execWait n d a k s))
  | eret n d a k => exact (execEret_kept (by decide) (Kept.refl _ s) : OutKept 562949953421311 s (execEret n d a k s))
  | calls n d a k => exact (execCalls_kept (by decide) (Kept.refl _ s) : OutKept 562949953421311 s (execCalls n d a k s))
  | callh n d a k => exact (execCallh_kept (by decide) (Kept.refl _ s) : OutKept 562949953421311 s (execCallh n d a k s))
  | callm n d a k => exact (execCallm_kept (by decide) (Kept.refl _ s) : OutKept 562949953421311 s (execCallm n d a k s))
  | brk n d a k => exact (execBrk_kept (by decide) (Kept.refl _ s) : OutKept 562949953421311 s (execBrk n d a k s))
  | irqEntry n => exact (execIrqEntry_kept (by decide) (Kept.refl _ s) : OutKept 562949953421311 s (execIrqEntry n s))
  | coreTimerFire n => exact (execCoreTimerFire_kept (by decide) (Kept.refl _ s) : OutKept 562949953421311 s (execCoreTimerFire n s))
  | cacheError x => exact (execCacheError_kept (by decide) (Kept.refl _ s) : OutKept 562949953421311 s (execCacheError x s))
  | evdPresentation t => exact (execEvdPresentation_kept (by decide) (Kept.refl _ s) : OutKept 562949953421311 s (execEvdPresentation t s))
  | evdModerationRelease t => exact (execEvdModerationRelease_kept (by decide) (Kept.refl _ s) : OutKept 562949953421311 s (execEvdModerationRelease t s))
  | evdAck who => exact (execEvdAck_kept (by decide) (Kept.refl _ s) : OutKept 562949953421311 s (execEvdAck who s))
  | evdEoi who v => exact (execEvdEoi_kept (by decide) (Kept.refl _ s) : OutKept 562949953421311 s (execEvdEoi who v s))
  | evdPmrWrite who v => exact (execEvdPmrWrite_kept (by decide) (Kept.refl _ s) : OutKept 562949953421311 s (execEvdPmrWrite who v s))
  | evdSwgen who v => exact (execEvdSwgen_kept (by decide) (Kept.refl _ s) : OutKept 562949953421311 s (execEvdSwgen who v s))
  | evdFallbackWrite who v => exact (execEvdFallbackWrite_kept (by decide) (Kept.refl _ s) : OutKept 562949953421311 s (execEvdFallbackWrite who v s))
  | evdEnSet k who v => exact (execEvdEnSet_kept (by decide) (Kept.refl _ s) : OutKept 562949953421311 s (execEvdEnSet k who v s))
  | evdEnClr k who v => exact (execEvdEnClr_kept (by decide) (Kept.refl _ s) : OutKept 562949953421311 s (execEvdEnClr k who v s))
  | evdPendSet k who v => exact (execEvdPendSet_kept (by decide) (Kept.refl _ s) : OutKept 562949953421311 s (execEvdPendSet k who v s))
  | evdPendClr k who v => exact (execEvdPendClr_kept (by decide) (Kept.refl _ s) : OutKept 562949953421311 s (execEvdPendClr k who v s))
  | evdSrcCfgWrite x who v => exact (execEvdSrcCfgWrite_kept (by decide) (Kept.refl _ s) : OutKept 562949953421311 s (execEvdSrcCfgWrite x who v s))
  | mbxTx m ba who v => exact (execMbxTx_kept (by decide) (Kept.refl _ s) : OutKept 562949953421311 s (execMbxTx m ba who v s))
  | mbxRxData m ba who => exact (execMbxRxData_kept (by decide) (Kept.refl _ s) : OutKept 562949953421311 s (execMbxRxData m ba who s))
  | mbxAckWrite m ba who v => exact (execMbxAckWrite_kept (by decide) (Kept.refl _ s) : OutKept 562949953421311 s (execMbxAckWrite m ba who v s))
  | mbxTimeout m ba => exact (execMbxTimeout_kept (by decide) (Kept.refl _ s) : OutKept 562949953421311 s (execMbxTimeout m ba s))
  | chStart e ix who v => exact (execChStart_kept (by decide) (Kept.refl _ s) : OutKept 562949953421311 s (execChStart e ix who v s))
  | chStop e ix who v => exact (execChStop_kept (by decide) (Kept.refl _ s) : OutKept 562949953421311 s (execChStop e ix who v s))
  | chPause e ix who v => exact (execChPause_kept (by decide) (Kept.refl _ s) : OutKept 562949953421311 s (execChPause e ix who v s))
  | chResume e ix who v => exact (execChResume_kept (by decide) (Kept.refl _ s) : OutKept 562949953421311 s (execChResume e ix who v s))
  | chClear e ix who v => exact (execChClear_kept (by decide) (Kept.refl _ s) : OutKept 562949953421311 s (execChClear e ix who v s))
  | chInv e ix who v => exact (execChInv_kept (by decide) (Kept.refl _ s) : OutKept 562949953421311 s (execChInv e ix who v s))
  | chOwnWrite e ix who v => exact (execChOwnWrite_kept (by decide) (Kept.refl _ s) : OutKept 562949953421311 s (execChOwnWrite e ix who v s))
  | dmaContextFree e ix => exact (execDmaContextFree_kept (by decide) (Kept.refl _ s) : OutKept 562949953421311 s (execDmaContextFree e ix s))
  | dmaBargeRead e ix => exact (execDmaBargeRead_kept (by decide) (Kept.refl _ s) : OutKept 562949953421311 s (execDmaBargeRead e ix s))
  | dmaReadComplete e ix => exact (execDmaReadComplete_kept (by decide) (Kept.refl _ s) : OutKept 562949953421311 s (execDmaReadComplete e ix s))
  | dmaWriteAck e ix => exact (execDmaWriteAck_kept (by decide) (Kept.refl _ s) : OutKept 562949953421311 s (execDmaWriteAck e ix s))
  | dmaPortRequest e q => exact (execDmaPortRequest_kept (by decide) (Kept.refl _ s) : OutKept 562949953421311 s (execDmaPortRequest e q s))
  | dmaPortData e q d => exact (execDmaPortData_kept (by decide) (Kept.refl _ s) : OutKept 562949953421311 s (execDmaPortData e q d s))
  | underrun e q => exact (execUnderrun_kept (by decide) (Kept.refl _ s) : OutKept 562949953421311 s (execUnderrun e q s))
  | stallQuiet ix => exact (execStallQuiet_kept (by decide) (Kept.refl _ s) : OutKept 562949953421311 s (execStallQuiet ix s))
  | bsnPoolAlloc p who => exact (execBsnPoolAlloc_kept (by decide) (Kept.refl _ s) : OutKept 562949953421311 s (execBsnPoolAlloc p who s))
  | bsnFree who v => exact (execBsnFree_kept (by decide) (Kept.refl _ s) : OutKept 562949953421311 s (execBsnFree who v s))
  | bind ix who v => exact (execBind_kept (by decide) (Kept.refl _ s) : OutKept 562949953421311 s (execBind ix who v s))
  | quiesce ix who v => exact (execQuiesce_kept (by decide) (Kept.refl _ s) : OutKept 562949953421311 s (execQuiesce ix who v s))
  | stallResume ix who v => exact (execStallResume_kept (by decide) (Kept.refl _ s) : OutKept 562949953421311 s (execStallResume ix who v s))
  | freeze ix who v => exact (execFreeze_kept (by decide) (Kept.refl _ s) : OutKept 562949953421311 s (execFreeze ix who v s))
  | thaw ix who v => exact (execThaw_kept (by decide) (Kept.refl _ s) : OutKept 562949953421311 s (execThaw ix who v s))
  | save ix who v => exact (execSave_kept (by decide) (Kept.refl _ s) : OutKept 562949953421311 s (execSave ix who v s))
  | restore ix who v => exact (execRestore_kept (by decide) (Kept.refl _ s) : OutKept 562949953421311 s (execRestore ix who v s))
  | stallReset ix who v => exact (execStallReset_kept (by decide) (Kept.refl _ s) : OutKept 562949953421311 s (execStallReset ix who v s))
  | remove ix who v => exact (execRemove_kept (by decide) (Kept.refl _ s) : OutKept 562949953421311 s (execRemove ix who v s))
  | stallCmdDone ix => exact (execStallCmdDone_kept (by decide) (Kept.refl _ s) : OutKept 562949953421311 s (execStallCmdDone ix s))
  | stlBindWrite ix who v => exact (execStlBindWrite_kept (by decide) (Kept.refl _ s) : OutKept 562949953421311 s (execStlBindWrite ix who v s))
  | stlMapWrite ix o who v => exact (execStlMapWrite_kept (by decide) (Kept.refl _ s) : OutKept 562949953421311 s (execStlMapWrite ix o who v s))
  | ring ix who v => exact (execRing_kept (by decide) (Kept.refl _ s) : OutKept 562949953421311 s (execRing ix who v s))
  | stlTEnSet ix who v => exact (execStlTEnSet_kept (by decide) (Kept.refl _ s) : OutKept 562949953421311 s (execStlTEnSet ix who v s))
  | stlTEnClr ix who v => exact (execStlTEnClr_kept (by decide) (Kept.refl _ s) : OutKept 562949953421311 s (execStlTEnClr ix who v s))
  | stlTPendClr ix who v => exact (execStlTPendClr_kept (by decide) (Kept.refl _ s) : OutKept 562949953421311 s (execStlTPendClr ix who v s))
  | stlTBsnAlloc ix who => exact (execStlTBsnAlloc_kept (by decide) (Kept.refl _ s) : OutKept 562949953421311 s (execStlTBsnAlloc ix who s))
  | stlTBsnFree ix who v => exact (execStlTBsnFree_kept (by decide) (Kept.refl _ s) : OutKept 562949953421311 s (execStlTBsnFree ix who v s))
  | lvRead ix who v => exact (execLvRead_kept (by decide) (Kept.refl _ s) : OutKept 562949953421311 s (execLvRead ix who v s))
  | setthr ix who v => exact (execSetthr_kept (by decide) (Kept.refl _ s) : OutKept 562949953421311 s (execSetthr ix who v s))
  | stallPageAccess ix o k who w => exact (execStallPageAccess_kept (by decide) (Kept.refl _ s) : OutKept 562949953421311 s (execStallPageAccess ix o k who w s))
  | coreOn n who v => exact (execCoreOn_kept (by decide) (Kept.refl _ s) : OutKept 562949953421311 s (execCoreOn n who v s))
  | ccFreqWrite k who v => exact (execCcFreqWrite_kept (by decide) (Kept.refl _ s) : OutKept 562949953421311 s (execCcFreqWrite k who v s))
  | vtgtWrite r who v => exact (execVtgtWrite_kept (by decide) (Kept.refl _ s) : OutKept 562949953421311 s (execVtgtWrite r who v s))
  | sluiceGo r who v => exact (execSluiceGo_kept (by decide) (Kept.refl _ s) : OutKept 562949953421311 s (execSluiceGo r who v s))
  | sluiceClockChangeDone r => exact (execSluiceClockChangeDone_kept (by decide) (Kept.refl _ s) : OutKept 562949953421311 s (execSluiceClockChangeDone r s))
  | avsbusAck r => exact (execAvsbusAck_kept (by decide) (Kept.refl _ s) : OutKept 562949953421311 s (execAvsbusAck r s))
  | settle r mv => exact (execSettle_kept (by decide) (Kept.refl _ s) : OutKept 562949953421311 s (execSettle r mv s))
  | noack r => exact (execNoack_kept (by decide) (Kept.refl _ s) : OutKept 562949953421311 s (execNoack r s))
  | pkgGo who v => exact (execPkgGo_kept (by decide) (Kept.refl _ s) : OutKept 562949953421311 s (execPkgGo who v s))
  | pkgEntryStepDone => exact (execPkgEntryStepDone_kept (by decide) (Kept.refl _ s) : OutKept 562949953421311 s (execPkgEntryStepDone s))
  | packageWake w found media => exact (execPackageWake_kept (by decide) (Kept.refl _ s) : OutKept 562949953421311 s (execPackageWake w found media s))
  | regionRetentionEntry r => exact (execRegionRetentionEntry_kept (by decide) (Kept.refl _ s) : OutKept 562949953421311 s (execRegionRetentionEntry r s))
  | regionRetentionExit r => exact (execRegionRetentionExit_kept (by decide) (Kept.refl _ s) : OutKept 562949953421311 s (execRegionRetentionExit r s))
  | unitReset who v => exact (execUnitReset_kept (by decide) (Kept.refl _ s) : OutKept 562949953421311 s (execUnitReset who v s))
  | unitFence who v => exact (execUnitFence_kept (by decide) (Kept.refl _ s) : OutKept 562949953421311 s (execUnitFence who v s))
  | unitUnfence who v => exact (execUnitUnfence_kept (by decide) (Kept.refl _ s) : OutKept 562949953421311 s (execUnitUnfence who v s))
  | unitOut who v => exact (execUnitOut_kept (by decide) (Kept.refl _ s) : OutKept 562949953421311 s (execUnitOut who v s))
  | traceOn who v => exact (execTraceOn_kept (by decide) (Kept.refl _ s) : OutKept 562949953421311 s (execTraceOn who v s))
  | traceOff who v => exact (execTraceOff_kept (by decide) (Kept.refl _ s) : OutKept 562949953421311 s (execTraceOff who v s))
  | packetRx u sub src b => exact (execPacketRx_kept (by decide) (Kept.refl _ s) : OutKept 562949953421311 s (execPacketRx u sub src b s))
  | portTxq u who v => exact (execPortTxq_kept (by decide) (Kept.refl _ s) : OutKept 562949953421311 s (execPortTxq u who v s))
  | portRxq u who => exact (execPortRxq_kept (by decide) (Kept.refl _ s) : OutKept 562949953421311 s (execPortRxq u who s))
  | mbxFramePush u sub src b => exact (execMbxFramePush_kept (by decide) (Kept.refl _ s) : OutKept 562949953421311 s (execMbxFramePush u sub src b s))
  | readAck u sub src b => exact (execReadAck_kept (by decide) (Kept.refl _ s) : OutKept 562949953421311 s (execReadAck u sub src b s))
  | readRx u sub src b => exact (execReadRx_kept (by decide) (Kept.refl _ s) : OutKept 562949953421311 s (execReadRx u sub src b s))
  | writeAck u sub src b => exact (execWriteAck_kept (by decide) (Kept.refl _ s) : OutKept 562949953421311 s (execWriteAck u sub src b s))
  | bar0Access u o k w => exact (execBar0Access_kept (by decide) (Kept.refl _ s) : OutKept 562949953421311 s (execBar0Access u o k w s))
  | rp0InboundRequest msi => exact (execRp0InboundRequest_kept (by decide) (Kept.refl _ s) : OutKept 562949953421311 s (execRp0InboundRequest msi s))
  | completionTimeout x => exact (execCompletionTimeout_kept (by decide) (Kept.refl _ s) : OutKept 562949953421311 s (execCompletionTimeout x s))
  | ethFrameRx ix fcsOk b => exact (execEthFrameRx_kept (by decide) (Kept.refl _ s) : OutKept 562949953421311 s (execEthFrameRx ix fcsOk b s))
  | linkUp u rate width => exact (execLinkUp_kept (by decide) (Kept.refl _ s) : OutKept 562949953421311 s (execLinkUp u rate width s))
  | linkDown u => exact (execLinkDown_kept (by decide) (Kept.refl _ s) : OutKept 562949953421311 s (execLinkDown u s))
  | i3cIbi ix x => exact (execI3cIbi_kept (by decide) (Kept.refl _ s) : OutKept 562949953421311 s (execI3cIbi ix x s))
  | clockLowTimeout c => exact (execClockLowTimeout_kept (by decide) (Kept.refl _ s) : OutKept 562949953421311 s (execClockLowTimeout c s))
  | stuck c => exact (execStuck_kept (by decide) (Kept.refl _ s) : OutKept 562949953421311 s (execStuck c s))
  | pcieRetrain u who v => exact (execPcieRetrain_kept (by decide) (Kept.refl _ s) : OutKept 562949953421311 s (execPcieRetrain u who v s))
  | pcieForceRate u who v => exact (execPcieForceRate_kept (by decide) (Kept.refl _ s) : OutKept 562949953421311 s (execPcieForceRate u who v s))
  | laneMargining u who v => exact (execLaneMargining_kept (by decide) (Kept.refl _ s) : OutKept 562949953421311 s (execLaneMargining u who v s))
  | prbs31Lanes u who v => exact (execPrbs31Lanes_kept (by decide) (Kept.refl _ s) : OutKept 562949953421311 s (execPrbs31Lanes u who v s))
  | pcsLoopbackNear u who v => exact (execPcsLoopbackNear_kept (by decide) (Kept.refl _ s) : OutKept 562949953421311 s (execPcsLoopbackNear u who v s))
  | pcsLoopbackFar u who v => exact (execPcsLoopbackFar_kept (by decide) (Kept.refl _ s) : OutKept 562949953421311 s (execPcsLoopbackFar u who v s))
  | busRecovery u who v => exact (execBusRecovery_kept (by decide) (Kept.refl _ s) : OutKept 562949953421311 s (execBusRecovery u who v s))
  | rawTransfer u who v => exact (execRawTransfer_kept (by decide) (Kept.refl _ s) : OutKept 562949953421311 s (execRawTransfer u who v s))
  | i3cTargetReset u who v => exact (execI3cTargetReset_kept (by decide) (Kept.refl _ s) : OutKept 562949953421311 s (execI3cTargetReset u who v s))
  | avsbusFrame u who v => exact (execAvsbusFrame_kept (by decide) (Kept.refl _ s) : OutKept 562949953421311 s (execAvsbusFrame u who v s))
  | tapReset u who v => exact (execTapReset_kept (by decide) (Kept.refl _ s) : OutKept 562949953421311 s (execTapReset u who v s))
  | shiftIr u who v => exact (execShiftIr_kept (by decide) (Kept.refl _ s) : OutKept 562949953421311 s (execShiftIr u who v s))
  | shiftDr u who v => exact (execShiftDr_kept (by decide) (Kept.refl _ s) : OutKept 562949953421311 s (execShiftDr u who v s))
  | xspiProgram u who v => exact (execXspiProgram_kept (by decide) (Kept.refl _ s) : OutKept 562949953421311 s (execXspiProgram u who v s))
  | xspiErase u who v => exact (execXspiErase_kept (by decide) (Kept.refl _ s) : OutKept 562949953421311 s (execXspiErase u who v s))
  | uartBreak u who v => exact (execUartBreak_kept (by decide) (Kept.refl _ s) : OutKept 562949953421311 s (execUartBreak u who v s))
  | rawDone u e data lanes => exact (execRawDone_kept (by decide) (Kept.refl _ s) : OutKept 562949953421311 s (execRawDone u e data lanes s))
  | fanTachWindow f rpm => exact (execFanTachWindow_kept (by decide) (Kept.refl _ s) : OutKept 562949953421311 s (execFanTachWindow f rpm s))
  | fanWdtExpiry => exact (execFanWdtExpiry_kept (by decide) (Kept.refl _ s) : OutKept 562949953421311 s (execFanWdtExpiry s))
  | kick who v => exact (execKick_kept (by decide) (Kept.refl _ s) : OutKept 562949953421311 s (execKick who v s))
  | fanPwmWrite f who v => exact (execFanPwmWrite_kept (by decide) (Kept.refl _ s) : OutKept 562949953421311 s (execFanPwmWrite f who v s))
  | patrolScrub a e => exact (execPatrolScrub_kept (by decide) (Kept.refl _ s) : OutKept 562949953421311 s (execPatrolScrub a e s))
  | ts n => exact (execTs_kept (by decide) (Kept.refl _ s) : OutKept 562949953421311 s (execTs n s))
  | traceFifoRoom id => exact (execTraceFifoRoom_kept (by decide) (Kept.refl _ s) : OutKept 562949953421311 s (execTraceFifoRoom id s))
  | funnelFrame id => exact (execFunnelFrame_kept (by decide) (Kept.refl _ s) : OutKept 562949953421311 s (execFunnelFrame id s))
  | trcCtlWrite who v => exact (execTrcCtlWrite_kept (by decide) (Kept.refl _ s) : OutKept 562949953421311 s (execTrcCtlWrite who v s))
  | debugAccess a k w => exact (execDebugAccess_kept (by decide) (Kept.refl _ s) : OutKept 562949953421311 s (execDebugAccess a k w s))
  | halt n who v => exact (execHalt_kept (by decide) (Kept.refl _ s) : OutKept 562949953421311 s (execHalt n who v s))
  | dbgResume n who v => exact (execDbgResume_kept (by decide) (Kept.refl _ s) : OutKept 562949953421311 s (execDbgResume n who v s))
  | step n who v => exact (execStep_kept (by decide) (Kept.refl _ s) : OutKept 562949953421311 s (execStep n who v s))
  | dbgCoreDataWrite n hi who v => exact (execDbgCoreDataWrite_kept (by decide) (Kept.refl _ s) : OutKept 562949953421311 s (execDbgCoreDataWrite n hi who v s))
  | stepEn j who v => exact (execStepEn_kept (by decide) (Kept.refl _ s) : OutKept 562949953421311 s (execStepEn j who v s))
  | go j who v => exact (execGo_kept (by decide) (Kept.refl _ s) : OutKept 562949953421311 s (execGo j who v s))
  | dbgLeDataWrite j who v => exact (execDbgLeDataWrite_kept (by decide) (Kept.refl _ s) : OutKept 562949953421311 s (execDbgLeDataWrite j who v s))
  | debugUnlock who v => exact (execDebugUnlock_kept (by decide) (Kept.refl _ s) : OutKept 562949953421311 s (execDebugUnlock who v s))
  | debugLock who v => exact (execDebugLock_kept (by decide) (Kept.refl _ s) : OutKept 562949953421311 s (execDebugLock who v s))
  | debugBoot who v => exact (execDebugBoot_kept (by decide) (Kept.refl _ s) : OutKept 562949953421311 s (execDebugBoot who v s))
  | registerWrite a who v => exact (execRegisterWrite_kept (by decide) (Kept.refl _ s) : OutKept 562949953421311 s (execRegisterWrite a who v s))
  | registerReadClear a who => exact (execRegisterReadClear_kept (by decide) (Kept.refl _ s) : OutKept 562949953421311 s (execRegisterReadClear a who s))
  | unitActionDone => exact (execUnitActionDone_kept (by decide) (Kept.refl _ s) : OutKept 562949953421311 s (execUnitActionDone s))
  | lvCmdDone ix => exact (execLvCmdDone_kept (by decide) (Kept.refl _ s) : OutKept 562949953421311 s (execLvCmdDone ix s))
  | packetSent u => exact (execPacketSent_kept (by decide) (Kept.refl _ s) : OutKept 562949953421311 s (execPacketSent u s))
  | dmaRequestWithdraw e q => exact (execDmaRequestWithdraw_kept (by decide) (Kept.refl _ s) : OutKept 562949953421311 s (execDmaRequestWithdraw e q s))
  | refclkLoss => exact (execRefclkLoss_kept (by decide) (Kept.refl _ s) : OutKept 562949953421311 s (execRefclkLoss s))
  | refclkReturn => exact (execRefclkReturn_kept (by decide) (Kept.refl _ s) : OutKept 562949953421311 s (execRefclkReturn s))
  | stagePowerLoss p => exact (execStagePowerLoss_kept (by decide) (Kept.refl _ s) : OutKept 562949953421311 s (execStagePowerLoss p s))
  | gpioInputChange g lvl => exact (execGpioInputChange_kept (by decide) (Kept.refl _ s) : OutKept 562949953421311 s (execGpioInputChange g lvl s))
  | macAgeing v a => exact (execMacAgeing_kept (by decide) (Kept.refl _ s) : OutKept 562949953421311 s (execMacAgeing v a s))
  | breakReceived x => exact (execBreakReceived_kept (by decide) (Kept.refl _ s) : OutKept 562949953421311 s (execBreakReceived x s))

theorem exec_inv {i : Instr} {s t : State} (hs : s.Inv) (h : exec i s = .next t) : t.Inv := (exec_kept i s t h).inv hs

end Sys2Proof.Machine
end

