-- ==== Sys2Proof/Laws/PerInstr.lean ====
section
/-!
SUPPORT. Statements about every command, one lemma for each constructor of Instr.
-/
namespace Sys2Proof.Laws

/-- A command is well formed, or it is one of the four whose operands can have a shape that no event has. -/
def Shape.Statement (i : Instr) : Prop :=
  i.wf = true ∨ (∃ rs aux, i = .senseSampleReady rs aux ∧ rs.length ≠ 64) ∨ (∃ blk c f b, i = .uartLoaderBlock blk c f b ∧ blk.length ≠ 1024)
    ∨ (∃ b n, i = .migRx b n ∧ b.length ≠ 4096) ∨ (∃ u, i = .uncorrectableFault u ∧ u.known = false)

theorem Shape.porstNAssert : Shape.Statement (Instr.porstNAssert) := .inl rfl
theorem Shape.porstNRelease (b : BootMedia) : Shape.Statement (Instr.porstNRelease b) := .inl rfl
theorem Shape.uartLoaderBlock (blk : Bytes) (crc : W32) (f : BootFlash) (b : BootSite) : Shape.Statement (Instr.uartLoaderBlock blk crc f b) := by
  by_cases h : blk.length = 1024
  · exact .inl (by simp [Instr.wf, h])
  · exact .inr (.inr (.inl ⟨_, _, _, _, rfl, h⟩))
theorem Shape.tickStart : Shape.Statement (Instr.tickStart) := .inl rfl
theorem Shape.sysrstNAssert : Shape.Statement (Instr.sysrstNAssert) := .inl rfl
theorem Shape.sysrstNRelease (b : BootMedia) : Shape.Statement (Instr.sysrstNRelease b) := .inl rfl
theorem Shape.supplyOutOfRange (n : Supply) : Shape.Statement (Instr.supplyOutOfRange n) := .inl rfl
theorem Shape.vcoreOutOfRange (r : Fin 4) : Shape.Statement (Instr.vcoreOutOfRange r) := .inl rfl
theorem Shape.uncorrectableFault (u : FaultUnit) : Shape.Statement (Instr.uncorrectableFault u) := by
  by_cases h : u.known = true
  · exact .inl h
  · exact .inr (.inr (.inr (.inr ⟨_, rfl, by simpa using h⟩)))
theorem Shape.submit (who : Req) (v : W32) : Shape.Statement (Instr.submit who v) := .inl rfl
theorem Shape.cancel (who : Req) (v : W32) : Shape.Statement (Instr.cancel who v) := .inl rfl
theorem Shape.amendmentVerifyDone (ack settled : Bool) : Shape.Statement (Instr.amendmentVerifyDone ack settled) := .inl rfl
theorem Shape.amendmentStageDone : Shape.Statement (Instr.amendmentStageDone) := .inl rfl
theorem Shape.commitPoint : Shape.Statement (Instr.commitPoint) := .inl rfl
theorem Shape.regionDrainDone (r : Fin 4) : Shape.Statement (Instr.regionDrainDone r) := .inl rfl
theorem Shape.keepCntInc (who : Req) (v : W32) : Shape.Statement (Instr.keepCntInc who v) := .inl rfl
theorem Shape.counterIncrementDone : Shape.Statement (Instr.counterIncrementDone) := .inl rfl
theorem Shape.lifecycleGo (who : Req) (v : W32) : Shape.Statement (Instr.lifecycleGo who v) := .inl rfl
theorem Shape.lifecycleFuseWriteDone : Shape.Statement (Instr.lifecycleFuseWriteDone) := .inl rfl
theorem Shape.keepJobHash (who : Req) : Shape.Statement (Instr.keepJobHash who) := .inl rfl
theorem Shape.keepJobEcdsaVerify (who : Req) : Shape.Statement (Instr.keepJobEcdsaVerify who) := .inl rfl
theorem Shape.keepJobHssVerify (who : Req) : Shape.Statement (Instr.keepJobHssVerify who) := .inl rfl
theorem Shape.keepJobEcdsaSign (who : Req) : Shape.Statement (Instr.keepJobEcdsaSign who) := .inl rfl
theorem Shape.keepJobHssSign (who : Req) : Shape.Statement (Instr.keepJobHssSign who) := .inl rfl
theorem Shape.keepJobAesEncrypt (who : Req) : Shape.Statement (Instr.keepJobAesEncrypt who) := .inl rfl
theorem Shape.keepJobAesDecrypt (who : Req) : Shape.Statement (Instr.keepJobAesDecrypt who) := .inl rfl
theorem Shape.keepJobTrngFill (who : Req) : Shape.Statement (Instr.keepJobTrngFill who) := .inl rfl
theorem Shape.keepJobMrExtend (who : Req) : Shape.Statement (Instr.keepJobMrExtend who) := .inl rfl
theorem Shape.keepJobDone (e : Ecc) : Shape.Statement (Instr.keepJobDone e) := .inl rfl
theorem Shape.trngHealthFail : Shape.Statement (Instr.trngHealthFail) := .inl rfl
theorem Shape.norngTimeout : Shape.Statement (Instr.norngTimeout) := .inl rfl
theorem Shape.getVersion (via : SpdmVia) : Shape.Statement (Instr.getVersion via) := .inl rfl
theorem Shape.getCapabilities (via : SpdmVia) : Shape.Statement (Instr.getCapabilities via) := .inl rfl
theorem Shape.negotiateAlgorithms (via : SpdmVia) (offer : SpdmAlgs) : Shape.Statement (Instr.negotiateAlgorithms via offer) := .inl rfl
theorem Shape.getDigests (via : SpdmVia) : Shape.Statement (Instr.getDigests via) := .inl rfl
theorem Shape.getCertificate (via : SpdmVia) (slot : Fin 8) : Shape.Statement (Instr.getCertificate via slot) := .inl rfl
theorem Shape.challenge (via : SpdmVia) : Shape.Statement (Instr.challenge via) := .inl rfl
theorem Shape.getMeasurements (via : SpdmVia) (blk : Fin 8) (signed : Bool) : Shape.Statement (Instr.getMeasurements via blk signed) := .inl rfl
theorem Shape.keyExchange (via : SpdmVia) : Shape.Statement (Instr.keyExchange via) := .inl rfl
theorem Shape.finish (via : SpdmVia) : Shape.Statement (Instr.finish via) := .inl rfl
theorem Shape.heartbeat (via : SpdmVia) : Shape.Statement (Instr.heartbeat via) := .inl rfl
theorem Shape.keyUpdate (via : SpdmVia) : Shape.Statement (Instr.keyUpdate via) := .inl rfl
theorem Shape.endSession (via : SpdmVia) : Shape.Statement (Instr.endSession via) := .inl rfl
theorem Shape.lmsCosign (via : SpdmVia) (nonce : BitVec 256) : Shape.Statement (Instr.lmsCosign via nonce) := .inl rfl
theorem Shape.tickEdge (err : BitVec 16) (x : EdgeIn) : Shape.Statement (Instr.tickEdge err x) := .inl rfl
theorem Shape.tickPllLockLoss : Shape.Statement (Instr.tickPllLockLoss) := .inl rfl
theorem Shape.tickInLost : Shape.Statement (Instr.tickInLost) := .inl rfl
theorem Shape.tickInReturn : Shape.Statement (Instr.tickInReturn) := .inl rfl
theorem Shape.senseSampleReady (rs : List Conv) (aux : Conv) : Shape.Statement (Instr.senseSampleReady rs aux) := by
  by_cases h : rs.length = 64
  · exact .inl (by simp [Instr.wf, h])
  · exact .inr (.inl ⟨_, _, rfl, h⟩)
theorem Shape.sampleSetDelivery : Shape.Statement (Instr.sampleSetDelivery) := .inl rfl
theorem Shape.overrunDeadline : Shape.Statement (Instr.overrunDeadline) := .inl rfl
theorem Shape.plFrameSend (n : Fin 64) (t : Nat) : Shape.Statement (Instr.plFrameSend n t) := .inl rfl
theorem Shape.portShedMask (n : Fin 64) : Shape.Statement (Instr.portShedMask n) := .inl rfl
theorem Shape.upstreamSampleFrame (n : Fin 64) (a : Fin 8) (rx : Upstream) : Shape.Statement (Instr.upstreamSampleFrame n a rx) := .inl rfl
theorem Shape.upstreamAuxFrame (n : Fin 64) (rx : Upstream) : Shape.Statement (Instr.upstreamAuxFrame n rx) := .inl rfl
theorem Shape.registerReply (n : Fin 64) (rx : Upstream) : Shape.Statement (Instr.registerReply n rx) := .inl rfl
theorem Shape.registerReplyMissing (n : Fin 64) : Shape.Statement (Instr.registerReplyMissing n) := .inl rfl
theorem Shape.enumSyncDone (n : Fin 64) : Shape.Statement (Instr.enumSyncDone n) := .inl rfl
theorem Shape.stageAbsent (n : Fin 64) (a : Fin 8) : Shape.Statement (Instr.stageAbsent n a) := .inl rfl
theorem Shape.quietWindowViolation (n : Fin 64) : Shape.Statement (Instr.quietWindowViolation n) := .inl rfl
theorem Shape.busfail (n : Fin 64) : Shape.Statement (Instr.busfail n) := .inl rfl
theorem Shape.plausibilityFault (r : Fin 64) : Shape.Statement (Instr.plausibilityFault r) := .inl rfl
theorem Shape.plausClear (r : Fin 64) : Shape.Statement (Instr.plausClear r) := .inl rfl
theorem Shape.disable (n : Fin 64) (who : Req) (v : W32) : Shape.Statement (Instr.disable n who v) := .inl rfl
theorem Shape.reenable (n : Fin 64) (who : Req) (v : W32) : Shape.Statement (Instr.reenable n who v) := .inl rfl
theorem Shape.enumGo (n : Fin 64) (who : Req) (v : W32) : Shape.Statement (Instr.enumGo n who v) := .inl rfl
theorem Shape.readmit (n : Fin 64) (who : Req) (v : W32) : Shape.Statement (Instr.readmit n who v) := .inl rfl
theorem Shape.plRegRead (n : Fin 64) (who : Req) (v : W32) : Shape.Statement (Instr.plRegRead n who v) := .inl rfl
theorem Shape.plRegWrite (n : Fin 64) (who : Req) (v : W32) : Shape.Statement (Instr.plRegWrite n who v) := .inl rfl
theorem Shape.testInternalLoopback (n : Fin 64) (who : Req) (v : W32) : Shape.Statement (Instr.testInternalLoopback n who v) := .inl rfl
theorem Shape.testDownstreamPrbs31 (n : Fin 64) (who : Req) (v : W32) : Shape.Statement (Instr.testDownstreamPrbs31 n who v) := .inl rfl
theorem Shape.testUpstreamPrbs31 (n : Fin 64) (who : Req) (v : W32) : Shape.Statement (Instr.testUpstreamPrbs31 n who v) := .inl rfl
theorem Shape.testStageLoopback (n : Fin 64) (who : Req) (v : W32) : Shape.Statement (Instr.testStageLoopback n who v) := .inl rfl
theorem Shape.testExit (n : Fin 64) (who : Req) (v : W32) : Shape.Statement (Instr.testExit n who v) := .inl rfl
theorem Shape.eyeGo (n : Fin 64) (who : Req) (v : W32) : Shape.Statement (Instr.eyeGo n who v) := .inl rfl
theorem Shape.eyeDone (n : Fin 64) (errors : Nat) : Shape.Statement (Instr.eyeDone n errors) := .inl rfl
theorem Shape.injectCrc (n : Fin 64) (who : Req) (v : W32) : Shape.Statement (Instr.injectCrc n who v) := .inl rfl
theorem Shape.injectSilentSlot (n : Fin 64) (who : Req) (v : W32) : Shape.Statement (Instr.injectSilentSlot n who v) := .inl rfl
theorem Shape.injectSampleCrcFail (n : Fin 64) (who : Req) (v : W32) : Shape.Statement (Instr.injectSampleCrcFail n who v) := .inl rfl
theorem Shape.injectQuietViolation (n : Fin 64) (who : Req) (v : W32) : Shape.Statement (Instr.injectQuietViolation n who v) := .inl rfl
theorem Shape.stagePowerOn (p : Fin 512) (mk : Maker) : Shape.Statement (Instr.stagePowerOn p mk) := .inl rfl
theorem Shape.stageMarkerRx (p : Fin 512) (c : BitVec 8) : Shape.Statement (Instr.stageMarkerRx p c) := .inl rfl
theorem Shape.stageMarkerMissing (p : Fin 512) : Shape.Statement (Instr.stageMarkerMissing p) := .inl rfl
theorem Shape.stageHoldExpiry (p : Fin 512) : Shape.Statement (Instr.stageHoldExpiry p) := .inl rfl
theorem Shape.stageInternalFault (p : Fin 512) (code : BitVec 4) : Shape.Statement (Instr.stageInternalFault p code) := .inl rfl
theorem Shape.stageSlotStart (p : Fin 512) (aux : Bool) (m : StageMeas) : Shape.Statement (Instr.stageSlotStart p aux m) := .inl rfl
theorem Shape.stageInvalidFrame (p : Fin 512) : Shape.Statement (Instr.stageInvalidFrame p) := .inl rfl
theorem Shape.current (p : Fin 512) (a : Fin 8) (x : BitVec 16) (en : Bool) : Shape.Statement (Instr.current p a x en) := .inl rfl
theorem Shape.ontime (p : Fin 512) (a : Fin 8) (x : BitVec 16) (en : Bool) : Shape.Statement (Instr.ontime p a x en) := .inl rfl
theorem Shape.shed (p : Fin 512) (a : Fin 8) (x : BitVec 16) (en : Bool) : Shape.Statement (Instr.shed p a x en) := .inl rfl
theorem Shape.hold (p : Fin 512) (a : Fin 8) (x : BitVec 16) (en : Bool) : Shape.Statement (Instr.hold p a x en) := .inl rfl
theorem Shape.configure (p : Fin 512) (a : Fin 8) (x : BitVec 16) (en : Bool) : Shape.Statement (Instr.configure p a x en) := .inl rfl
theorem Shape.auxRead (p : Fin 512) (a : Fin 8) (x : BitVec 16) (en : Bool) : Shape.Statement (Instr.auxRead p a x en) := .inl rfl
theorem Shape.wake (p : Fin 512) (a : Fin 8) (x : BitVec 16) (en : Bool) : Shape.Statement (Instr.wake p a x en) := .inl rfl
theorem Shape.ovrCurrent (p : Fin 512) (a : Fin 8) (x : BitVec 16) (en : Bool) : Shape.Statement (Instr.ovrCurrent p a x en) := .inl rfl
theorem Shape.ovrShed (p : Fin 512) (a : Fin 8) (x : BitVec 16) (en : Bool) : Shape.Statement (Instr.ovrShed p a x en) := .inl rfl
theorem Shape.ovrShedMask (p : Fin 512) (a : Fin 8) (x : BitVec 16) (en : Bool) : Shape.Statement (Instr.ovrShedMask p a x en) := .inl rfl
theorem Shape.shedMask (p : Fin 512) (a : Fin 8) (x : BitVec 16) (en : Bool) : Shape.Statement (Instr.shedMask p a x en) := .inl rfl
theorem Shape.leNop (j : Fin 36) (w : BitVec 26) (f : Ecc) : Shape.Statement (Instr.leNop j w f) := .inl rfl
theorem Shape.leAdd (j : Fin 36) (w : BitVec 26) (f : Ecc) : Shape.Statement (Instr.leAdd j w f) := .inl rfl
theorem Shape.leSub (j : Fin 36) (w : BitVec 26) (f : Ecc) : Shape.Statement (Instr.leSub j w f) := .inl rfl
theorem Shape.leAddi (j : Fin 36) (w : BitVec 26) (f : Ecc) : Shape.Statement (Instr.leAddi j w f) := .inl rfl
theorem Shape.leAnd (j : Fin 36) (w : BitVec 26) (f : Ecc) : Shape.Statement (Instr.leAnd j w f) := .inl rfl
theorem Shape.leOr (j : Fin 36) (w : BitVec 26) (f : Ecc) : Shape.Statement (Instr.leOr j w f) := .inl rfl
theorem Shape.leXor (j : Fin 36) (w : BitVec 26) (f : Ecc) : Shape.Statement (Instr.leXor j w f) := .inl rfl
theorem Shape.leMovi (j : Fin 36) (w : BitVec 26) (f : Ecc) : Shape.Statement (Instr.leMovi j w f) := .inl rfl
theorem Shape.leMovhi (j : Fin 36) (w : BitVec 26) (f : Ecc) : Shape.Statement (Instr.leMovhi j w f) := .inl rfl
theorem Shape.leMov (j : Fin 36) (w : BitVec 26) (f : Ecc) : Shape.Statement (Instr.leMov j w f) := .inl rfl
theorem Shape.leShl (j : Fin 36) (w : BitVec 26) (f : Ecc) : Shape.Statement (Instr.leShl j w f) := .inl rfl
theorem Shape.leShr (j : Fin 36) (w : BitVec 26) (f : Ecc) : Shape.Statement (Instr.leShr j w f) := .inl rfl
theorem Shape.leSra (j : Fin 36) (w : BitVec 26) (f : Ecc) : Shape.Statement (Instr.leSra j w f) := .inl rfl
theorem Shape.leShli (j : Fin 36) (w : BitVec 26) (f : Ecc) : Shape.Statement (Instr.leShli j w f) := .inl rfl
theorem Shape.leShri (j : Fin 36) (w : BitVec 26) (f : Ecc) : Shape.Statement (Instr.leShri j w f) := .inl rfl
theorem Shape.leSrai (j : Fin 36) (w : BitVec 26) (f : Ecc) : Shape.Statement (Instr.leSrai j w f) := .inl rfl
theorem Shape.leMin (j : Fin 36) (w : BitVec 26) (f : Ecc) : Shape.Statement (Instr.leMin j w f) := .inl rfl
theorem Shape.leMax (j : Fin 36) (w : BitVec 26) (f : Ecc) : Shape.Statement (Instr.leMax j w f) := .inl rfl
theorem Shape.leClamp (j : Fin 36) (w : BitVec 26) (f : Ecc) : Shape.Statement (Instr.leClamp j w f) := .inl rfl
theorem Shape.leAbs (j : Fin 36) (w : BitVec 26) (f : Ecc) : Shape.Statement (Instr.leAbs j w f) := .inl rfl
theorem Shape.leNeg (j : Fin 36) (w : BitVec 26) (f : Ecc) : Shape.Statement (Instr.leNeg j w f) := .inl rfl
theorem Shape.leMulq (j : Fin 36) (w : BitVec 26) (f : Ecc) : Shape.Statement (Instr.leMulq j w f) := .inl rfl
theorem Shape.leMac (j : Fin 36) (w : BitVec 26) (f : Ecc) : Shape.Statement (Instr.leMac j w f) := .inl rfl
theorem Shape.leMsu (j : Fin 36) (w : BitVec 26) (f : Ecc) : Shape.Statement (Instr.leMsu j w f) := .inl rfl
theorem Shape.leMclr (j : Fin 36) (w : BitVec 26) (f : Ecc) : Shape.Statement (Instr.leMclr j w f) := .inl rfl
theorem Shape.leMld (j : Fin 36) (w : BitVec 26) (f : Ecc) : Shape.Statement (Instr.leMld j w f) := .inl rfl
theorem Shape.leMrd (j : Fin 36) (w : BitVec 26) (f : Ecc) : Shape.Statement (Instr.leMrd j w f) := .inl rfl
theorem Shape.leMadd (j : Fin 36) (w : BitVec 26) (f : Ecc) : Shape.Statement (Instr.leMadd j w f) := .inl rfl
theorem Shape.leLd (j : Fin 36) (w : BitVec 26) (f : Ecc) (e : Ecc) : Shape.Statement (Instr.leLd j w f e) := .inl rfl
theorem Shape.leSt (j : Fin 36) (w : BitVec 26) (f : Ecc) : Shape.Statement (Instr.leSt j w f) := .inl rfl
theorem Shape.leLdh (j : Fin 36) (w : BitVec 26) (f : Ecc) (e : Ecc) : Shape.Statement (Instr.leLdh j w f e) := .inl rfl
theorem Shape.leSth (j : Fin 36) (w : BitVec 26) (f : Ecc) (e : Ecc) : Shape.Statement (Instr.leSth j w f e) := .inl rfl
theorem Shape.leLdp (j : Fin 36) (w : BitVec 26) (f : Ecc) (e : Ecc) : Shape.Statement (Instr.leLdp j w f e) := .inl rfl
theorem Shape.leStp (j : Fin 36) (w : BitVec 26) (f : Ecc) : Shape.Statement (Instr.leStp j w f) := .inl rfl
theorem Shape.leSharedAccessDone (j : Fin 36) (cycles : Nat) (e : Ecc) : Shape.Statement (Instr.leSharedAccessDone j cycles e) := .inl rfl
theorem Shape.lePset (j : Fin 36) (w : BitVec 26) (f : Ecc) : Shape.Statement (Instr.lePset j w f) := .inl rfl
theorem Shape.lePadd (j : Fin 36) (w : BitVec 26) (f : Ecc) : Shape.Statement (Instr.lePadd j w f) := .inl rfl
theorem Shape.lePmov (j : Fin 36) (w : BitVec 26) (f : Ecc) : Shape.Statement (Instr.lePmov j w f) := .inl rfl
theorem Shape.lePrd (j : Fin 36) (w : BitVec 26) (f : Ecc) : Shape.Statement (Instr.lePrd j w f) := .inl rfl
theorem Shape.leRsr (j : Fin 36) (w : BitVec 26) (f : Ecc) : Shape.Statement (Instr.leRsr j w f) := .inl rfl
theorem Shape.leWsr (j : Fin 36) (w : BitVec 26) (f : Ecc) : Shape.Statement (Instr.leWsr j w f) := .inl rfl
theorem Shape.leRdn (j : Fin 36) (w : BitVec 26) (f : Ecc) : Shape.Statement (Instr.leRdn j w f) := .inl rfl
theorem Shape.leBeq (j : Fin 36) (w : BitVec 26) (f : Ecc) : Shape.Statement (Instr.leBeq j w f) := .inl rfl
theorem Shape.leBne (j : Fin 36) (w : BitVec 26) (f : Ecc) : Shape.Statement (Instr.leBne j w f) := .inl rfl
theorem Shape.leBlt (j : Fin 36) (w : BitVec 26) (f : Ecc) : Shape.Statement (Instr.leBlt j w f) := .inl rfl
theorem Shape.leBge (j : Fin 36) (w : BitVec 26) (f : Ecc) : Shape.Statement (Instr.leBge j w f) := .inl rfl
theorem Shape.leB (j : Fin 36) (w : BitVec 26) (f : Ecc) : Shape.Statement (Instr.leB j w f) := .inl rfl
theorem Shape.leJal (j : Fin 36) (w : BitVec 26) (f : Ecc) : Shape.Statement (Instr.leJal j w f) := .inl rfl
theorem Shape.leJr (j : Fin 36) (w : BitVec 26) (f : Ecc) : Shape.Statement (Instr.leJr j w f) := .inl rfl
theorem Shape.leLoop (j : Fin 36) (w : BitVec 26) (f : Ecc) : Shape.Statement (Instr.leLoop j w f) := .inl rfl
theorem Shape.leWaits (j : Fin 36) (w : BitVec 26) (f : Ecc) : Shape.Statement (Instr.leWaits j w f) := .inl rfl
theorem Shape.leWaitsEnd (j : Fin 36) (cycles : Nat) : Shape.Statement (Instr.leWaitsEnd j cycles) := .inl rfl
theorem Shape.leRds (j : Fin 36) (w : BitVec 26) (f : Ecc) : Shape.Statement (Instr.leRds j w f) := .inl rfl
theorem Shape.leSendp (j : Fin 36) (w : BitVec 26) (f : Ecc) : Shape.Statement (Instr.leSendp j w f) := .inl rfl
theorem Shape.leCommit (j : Fin 36) (w : BitVec 26) (f : Ecc) : Shape.Statement (Instr.leCommit j w f) := .inl rfl
theorem Shape.leEnd (j : Fin 36) (w : BitVec 26) (f : Ecc) : Shape.Statement (Instr.leEnd j w f) := .inl rfl
theorem Shape.lePub (j : Fin 36) (w : BitVec 26) (f : Ecc) : Shape.Statement (Instr.lePub j w f) := .inl rfl
theorem Shape.leEvp (j : Fin 36) (w : BitVec 26) (f : Ecc) : Shape.Statement (Instr.leEvp j w f) := .inl rfl
theorem Shape.lcSpareRelease (c : Fin 4) (who : Req) (v : W32) : Shape.Statement (Instr.lcSpareRelease c who v) := .inl rfl
theorem Shape.lcLeReset (j : Fin 36) (who : Req) (v : W32) : Shape.Statement (Instr.lcLeReset j who v) := .inl rfl
theorem Shape.lcLeFence (j : Fin 36) (who : Req) (v : W32) : Shape.Statement (Instr.lcLeFence j who v) := .inl rfl
theorem Shape.lcLeUnfence (j : Fin 36) (who : Req) (v : W32) : Shape.Statement (Instr.lcLeUnfence j who v) := .inl rfl
theorem Shape.recRingResume (c : Fin 4) (who : Req) (v : W32) : Shape.Statement (Instr.recRingResume c who v) := .inl rfl
theorem Shape.adcSaturation (ch : Fin 80) : Shape.Statement (Instr.adcSaturation ch) := .inl rfl
theorem Shape.hintNotice (h : Fin 8) (x : HintRx) : Shape.Statement (Instr.hintNotice h x) := .inl rfl
theorem Shape.hintLinkUp (h : Fin 8) : Shape.Statement (Instr.hintLinkUp h) := .inl rfl
theorem Shape.hintLinkDown (h : Fin 8) : Shape.Statement (Instr.hintLinkDown h) := .inl rfl
theorem Shape.nophase (r : Fin 64) : Shape.Statement (Instr.nophase r) := .inl rfl
theorem Shape.pgtmo (st : Fin 128) : Shape.Statement (Instr.pgtmo st) := .inl rfl
theorem Shape.pgUp (r : Fin 64) : Shape.Statement (Instr.pgUp r) := .inl rfl
theorem Shape.seqStepStart (st : Fin 128) : Shape.Statement (Instr.seqStepStart st) := .inl rfl
theorem Shape.seqGpioPgChange (g : Fin 128) (lvl : Bool) : Shape.Statement (Instr.seqGpioPgChange g lvl) := .inl rfl
theorem Shape.seqUp (who : Req) (v : W32) : Shape.Statement (Instr.seqUp who v) := .inl rfl
theorem Shape.seqDown (who : Req) (v : W32) : Shape.Statement (Instr.seqDown who v) := .inl rfl
theorem Shape.seqClear (who : Req) (v : W32) : Shape.Statement (Instr.seqClear who v) := .inl rfl
theorem Shape.railOn (r : Fin 64) (who : Req) (v : W32) : Shape.Statement (Instr.railOn r who v) := .inl rfl
theorem Shape.railOff (r : Fin 64) (who : Req) (v : W32) : Shape.Statement (Instr.railOff r who v) := .inl rfl
theorem Shape.railClear (r : Fin 64) (who : Req) (v : W32) : Shape.Statement (Instr.railClear r who v) := .inl rfl
theorem Shape.railSetptWrite (r : Fin 64) (who : Req) (v : W32) : Shape.Statement (Instr.railSetptWrite r who v) := .inl rfl
theorem Shape.railWshedReadmit (r : Fin 64) (hi : Bool) (who : Req) (v : W32) : Shape.Statement (Instr.railWshedReadmit r hi who v) := .inl rfl
theorem Shape.ledgerSeriesDue (i : BitVec 20) : Shape.Statement (Instr.ledgerSeriesDue i) := .inl rfl
theorem Shape.ledgerUpdateDiscard (i : BitVec 20) : Shape.Statement (Instr.ledgerUpdateDiscard i) := .inl rfl
theorem Shape.ledgerPartnerReply (p : BitVec 12) (tag : Nat) (x : Reply) : Shape.Statement (Instr.ledgerPartnerReply p tag x) := .inl rfl
theorem Shape.ledgerPollTimeout (p : BitVec 12) (tag : Nat) : Shape.Statement (Instr.ledgerPollTimeout p tag) := .inl rfl
theorem Shape.ledgerProbe (p : BitVec 12) : Shape.Statement (Instr.ledgerProbe p) := .inl rfl
theorem Shape.stale (i : BitVec 20) : Shape.Statement (Instr.stale i) := .inl rfl
theorem Shape.ledgerUnsolicited (p : BitVec 12) : Shape.Statement (Instr.ledgerUnsolicited p) := .inl rfl
theorem Shape.ledgerThrottleEnd (p : BitVec 12) : Shape.Statement (Instr.ledgerThrottleEnd p) := .inl rfl
theorem Shape.ledgerWriteback (i : BitVec 20) : Shape.Statement (Instr.ledgerWriteback i) := .inl rfl
theorem Shape.ldgRead (who : Req) (v : W32) : Shape.Statement (Instr.ldgRead who v) := .inl rfl
theorem Shape.ldgWrite (who : Req) (v : W32) : Shape.Statement (Instr.ldgWrite who v) := .inl rfl
theorem Shape.resetStats (who : Req) (v : W32) : Shape.Statement (Instr.resetStats who v) := .inl rfl
theorem Shape.push (who : Req) (v : W32) : Shape.Statement (Instr.push who v) := .inl rfl
theorem Shape.flushOne (who : Req) (v : W32) : Shape.Statement (Instr.flushOne who v) := .inl rfl
theorem Shape.flushAll (who : Req) (v : W32) : Shape.Statement (Instr.flushAll who v) := .inl rfl
theorem Shape.invalAll (who : Req) (v : W32) : Shape.Statement (Instr.invalAll who v) := .inl rfl
theorem Shape.ldgCmdDone : Shape.Statement (Instr.ldgCmdDone) := .inl rfl
theorem Shape.companionHeartbeat (b : Bytes) : Shape.Statement (Instr.companionHeartbeat b) := .inl rfl
theorem Shape.hbLost : Shape.Statement (Instr.hbLost) := .inl rfl
theorem Shape.handoverRecordRx (b : Bytes) : Shape.Statement (Instr.handoverRecordRx b) := .inl rfl
theorem Shape.companionLinkDown : Shape.Statement (Instr.companionLinkDown) := .inl rfl
theorem Shape.companionLinkUp : Shape.Statement (Instr.companionLinkUp) := .inl rfl
theorem Shape.joined : Shape.Statement (Instr.joined) := .inl rfl
theorem Shape.ownWatchdog : Shape.Statement (Instr.ownWatchdog) := .inl rfl
theorem Shape.pairOwnHigh : Shape.Statement (Instr.pairOwnHigh) := .inl rfl
theorem Shape.pairFenceLow : Shape.Statement (Instr.pairFenceLow) := .inl rfl
theorem Shape.fenceAssert : Shape.Statement (Instr.fenceAssert) := .inl rfl
theorem Shape.leave (who : Req) (v : W32) : Shape.Statement (Instr.leave who v) := .inl rfl
theorem Shape.join (who : Req) (v : W32) : Shape.Statement (Instr.join who v) := .inl rfl
theorem Shape.unfence (who : Req) (v : W32) : Shape.Statement (Instr.unfence who v) := .inl rfl
theorem Shape.fenceRel (who : Req) (v : W32) : Shape.Statement (Instr.fenceRel who v) := .inl rfl
theorem Shape.fence (who : Req) (v : W32) : Shape.Statement (Instr.fence who v) := .inl rfl
theorem Shape.handoff (who : Req) (v : W32) : Shape.Statement (Instr.handoff who v) := .inl rfl
theorem Shape.migSend (who : Req) (v : W32) : Shape.Statement (Instr.migSend who v) := .inl rfl
theorem Shape.migDone (code : Fin 5) : Shape.Statement (Instr.migDone code) := .inl rfl
theorem Shape.migRx (b : Bytes) (stall : BitVec 8) : Shape.Statement (Instr.migRx b stall) := by
  by_cases h : b.length = 4096
  · exact .inl (by simp [Instr.wf, h])
  · exact .inr (.inr (.inr (.inl ⟨_, _, rfl, h⟩)))
theorem Shape.migRxFree (who : Req) (v : W32) : Shape.Statement (Instr.migRxFree who v) := .inl rfl
theorem Shape.add (n : Fin 32) (d a b : Fin 32) (z : BitVec 8) : Shape.Statement (Instr.add n d a b z) := .inl rfl
theorem Shape.sub (n : Fin 32) (d a b : Fin 32) (z : BitVec 8) : Shape.Statement (Instr.sub n d a b z) := .inl rfl
theorem Shape.addm (n : Fin 32) (d a b : Fin 32) (z : BitVec 8) : Shape.Statement (Instr.addm n d a b z) := .inl rfl
theorem Shape.subm (n : Fin 32) (d a b : Fin 32) (z : BitVec 8) : Shape.Statement (Instr.subm n d a b z) := .inl rfl
theorem Shape.and (n : Fin 32) (d a b : Fin 32) (z : BitVec 8) : Shape.Statement (Instr.and n d a b z) := .inl rfl
theorem Shape.or (n : Fin 32) (d a b : Fin 32) (z : BitVec 8) : Shape.Statement (Instr.or n d a b z) := .inl rfl
theorem Shape.xor (n : Fin 32) (d a b : Fin 32) (z : BitVec 8) : Shape.Statement (Instr.xor n d a b z) := .inl rfl
theorem Shape.andn (n : Fin 32) (d a b : Fin 32) (z : BitVec 8) : Shape.Statement (Instr.andn n d a b z) := .inl rfl
theorem Shape.shl (n : Fin 32) (d a b : Fin 32) (z : BitVec 8) : Shape.Statement (Instr.shl n d a b z) := .inl rfl
theorem Shape.shr (n : Fin 32) (d a b : Fin 32) (z : BitVec 8) : Shape.Statement (Instr.shr n d a b z) := .inl rfl
theorem Shape.sar (n : Fin 32) (d a b : Fin 32) (z : BitVec 8) : Shape.Statement (Instr.sar n d a b z) := .inl rfl
theorem Shape.clt (n : Fin 32) (d a b : Fin 32) (z : BitVec 8) : Shape.Statement (Instr.clt n d a b z) := .inl rfl
theorem Shape.cltu (n : Fin 32) (d a b : Fin 32) (z : BitVec 8) : Shape.Statement (Instr.cltu n d a b z) := .inl rfl
theorem Shape.min (n : Fin 32) (d a b : Fin 32) (z : BitVec 8) : Shape.Statement (Instr.min n d a b z) := .inl rfl
theorem Shape.max (n : Fin 32) (d a b : Fin 32) (z : BitVec 8) : Shape.Statement (Instr.max n d a b z) := .inl rfl
theorem Shape.minu (n : Fin 32) (d a b : Fin 32) (z : BitVec 8) : Shape.Statement (Instr.minu n d a b z) := .inl rfl
theorem Shape.maxu (n : Fin 32) (d a b : Fin 32) (z : BitVec 8) : Shape.Statement (Instr.maxu n d a b z) := .inl rfl
theorem Shape.add32 (n : Fin 32) (d a b : Fin 32) (z : BitVec 8) : Shape.Statement (Instr.add32 n d a b z) := .inl rfl
theorem Shape.sub32 (n : Fin 32) (d a b : Fin 32) (z : BitVec 8) : Shape.Statement (Instr.sub32 n d a b z) := .inl rfl
theorem Shape.shl32 (n : Fin 32) (d a b : Fin 32) (z : BitVec 8) : Shape.Statement (Instr.shl32 n d a b z) := .inl rfl
theorem Shape.shr32 (n : Fin 32) (d a b : Fin 32) (z : BitVec 8) : Shape.Statement (Instr.shr32 n d a b z) := .inl rfl
theorem Shape.sar32 (n : Fin 32) (d a b : Fin 32) (z : BitVec 8) : Shape.Statement (Instr.sar32 n d a b z) := .inl rfl
theorem Shape.addk (n : Fin 32) (d a : Fin 32) (k : BitVec 13) : Shape.Statement (Instr.addk n d a k) := .inl rfl
theorem Shape.addkm (n : Fin 32) (d a : Fin 32) (k : BitVec 13) : Shape.Statement (Instr.addkm n d a k) := .inl rfl
theorem Shape.andk (n : Fin 32) (d a : Fin 32) (k : BitVec 13) : Shape.Statement (Instr.andk n d a k) := .inl rfl
theorem Shape.ork (n : Fin 32) (d a : Fin 32) (k : BitVec 13) : Shape.Statement (Instr.ork n d a k) := .inl rfl
theorem Shape.xork (n : Fin 32) (d a : Fin 32) (k : BitVec 13) : Shape.Statement (Instr.xork n d a k) := .inl rfl
theorem Shape.cltk (n : Fin 32) (d a : Fin 32) (k : BitVec 13) : Shape.Statement (Instr.cltk n d a k) := .inl rfl
theorem Shape.cltuk (n : Fin 32) (d a : Fin 32) (k : BitVec 13) : Shape.Statement (Instr.cltuk n d a k) := .inl rfl
theorem Shape.shlk (n : Fin 32) (d a : Fin 32) (k : BitVec 13) : Shape.Statement (Instr.shlk n d a k) := .inl rfl
theorem Shape.shrk (n : Fin 32) (d a : Fin 32) (k : BitVec 13) : Shape.Statement (Instr.shrk n d a k) := .inl rfl
theorem Shape.sark (n : Fin 32) (d a : Fin 32) (k : BitVec 13) : Shape.Statement (Instr.sark n d a k) := .inl rfl
theorem Shape.addk32 (n : Fin 32) (d a : Fin 32) (k : BitVec 13) : Shape.Statement (Instr.addk32 n d a k) := .inl rfl
theorem Shape.shlk32 (n : Fin 32) (d a : Fin 32) (k : BitVec 13) : Shape.Statement (Instr.shlk32 n d a k) := .inl rfl
theorem Shape.shrk32 (n : Fin 32) (d a : Fin 32) (k : BitVec 13) : Shape.Statement (Instr.shrk32 n d a k) := .inl rfl
theorem Shape.sark32 (n : Fin 32) (d a : Fin 32) (k : BitVec 13) : Shape.Statement (Instr.sark32 n d a k) := .inl rfl
theorem Shape.mul (n : Fin 32) (d a b : Fin 32) (z : BitVec 8) : Shape.Statement (Instr.mul n d a b z) := .inl rfl
theorem Shape.mulhi (n : Fin 32) (d a b : Fin 32) (z : BitVec 8) : Shape.Statement (Instr.mulhi n d a b z) := .inl rfl
theorem Shape.mulhiu (n : Fin 32) (d a b : Fin 32) (z : BitVec 8) : Shape.Statement (Instr.mulhiu n d a b z) := .inl rfl
theorem Shape.mul32 (n : Fin 32) (d a b : Fin 32) (z : BitVec 8) : Shape.Statement (Instr.mul32 n d a b z) := .inl rfl
theorem Shape.div (n : Fin 32) (d a b : Fin 32) (z : BitVec 8) : Shape.Statement (Instr.div n d a b z) := .inl rfl
theorem Shape.divu (n : Fin 32) (d a b : Fin 32) (z : BitVec 8) : Shape.Statement (Instr.divu n d a b z) := .inl rfl
theorem Shape.mod (n : Fin 32) (d a b : Fin 32) (z : BitVec 8) : Shape.Statement (Instr.mod n d a b z) := .inl rfl
theorem Shape.modu (n : Fin 32) (d a b : Fin 32) (z : BitVec 8) : Shape.Statement (Instr.modu n d a b z) := .inl rfl
theorem Shape.div32 (n : Fin 32) (d a b : Fin 32) (z : BitVec 8) : Shape.Statement (Instr.div32 n d a b z) := .inl rfl
theorem Shape.divu32 (n : Fin 32) (d a b : Fin 32) (z : BitVec 8) : Shape.Statement (Instr.divu32 n d a b z) := .inl rfl
theorem Shape.mod32 (n : Fin 32) (d a b : Fin 32) (z : BitVec 8) : Shape.Statement (Instr.mod32 n d a b z) := .inl rfl
theorem Shape.modu32 (n : Fin 32) (d a b : Fin 32) (z : BitVec 8) : Shape.Statement (Instr.modu32 n d a b z) := .inl rfl
theorem Shape.ld8 (n : Fin 32) (d a : Fin 32) (k : BitVec 13) (hit : Bool) : Shape.Statement (Instr.ld8 n d a k hit) := .inl rfl
theorem Shape.ld8u (n : Fin 32) (d a : Fin 32) (k : BitVec 13) (hit : Bool) : Shape.Statement (Instr.ld8u n d a k hit) := .inl rfl
theorem Shape.ld16 (n : Fin 32) (d a : Fin 32) (k : BitVec 13) (hit : Bool) : Shape.Statement (Instr.ld16 n d a k hit) := .inl rfl
theorem Shape.ld16u (n : Fin 32) (d a : Fin 32) (k : BitVec 13) (hit : Bool) : Shape.Statement (Instr.ld16u n d a k hit) := .inl rfl
theorem Shape.ld32 (n : Fin 32) (d a : Fin 32) (k : BitVec 13) (hit : Bool) : Shape.Statement (Instr.ld32 n d a k hit) := .inl rfl
theorem Shape.ld32u (n : Fin 32) (d a : Fin 32) (k : BitVec 13) (hit : Bool) : Shape.Statement (Instr.ld32u n d a k hit) := .inl rfl
theorem Shape.ld64 (n : Fin 32) (d a : Fin 32) (k : BitVec 13) (hit : Bool) : Shape.Statement (Instr.ld64 n d a k hit) := .inl rfl
theorem Shape.st8 (n : Fin 32) (r a : Fin 32) (k : BitVec 13) : Shape.Statement (Instr.st8 n r a k) := .inl rfl
theorem Shape.st16 (n : Fin 32) (r a : Fin 32) (k : BitVec 13) : Shape.Statement (Instr.st16 n r a k) := .inl rfl
theorem Shape.st32 (n : Fin 32) (r a : Fin 32) (k : BitVec 13) : Shape.Statement (Instr.st32 n r a k) := .inl rfl
theorem Shape.st64 (n : Fin 32) (r a : Fin 32) (k : BitVec 13) : Shape.Statement (Instr.st64 n r a k) := .inl rfl
theorem Shape.storeDrain (n : Fin 32) : Shape.Statement (Instr.storeDrain n) := .inl rfl
theorem Shape.storeErrorEntry (n : Fin 32) : Shape.Statement (Instr.storeErrorEntry n) := .inl rfl
theorem Shape.loadDataReturn (n : Fin 32) (e : Ecc) : Shape.Statement (Instr.loadDataReturn n e) := .inl rfl
theorem Shape.rsv32 (n : Fin 32) (d a b : Fin 32) (z : BitVec 8) : Shape.Statement (Instr.rsv32 n d a b z) := .inl rfl
theorem Shape.rsv64 (n : Fin 32) (d a b : Fin 32) (z : BitVec 8) : Shape.Statement (Instr.rsv64 n d a b z) := .inl rfl
theorem Shape.cmt32 (n : Fin 32) (d a b : Fin 32) (z : BitVec 8) : Shape.Statement (Instr.cmt32 n d a b z) := .inl rfl
theorem Shape.cmt64 (n : Fin 32) (d a b : Fin 32) (z : BitVec 8) : Shape.Statement (Instr.cmt64 n d a b z) := .inl rfl
theorem Shape.atswap32 (n : Fin 32) (d a b : Fin 32) (z : BitVec 8) : Shape.Statement (Instr.atswap32 n d a b z) := .inl rfl
theorem Shape.atswap64 (n : Fin 32) (d a b : Fin 32) (z : BitVec 8) : Shape.Statement (Instr.atswap64 n d a b z) := .inl rfl
theorem Shape.atadd32 (n : Fin 32) (d a b : Fin 32) (z : BitVec 8) : Shape.Statement (Instr.atadd32 n d a b z) := .inl rfl
theorem Shape.atadd64 (n : Fin 32) (d a b : Fin 32) (z : BitVec 8) : Shape.Statement (Instr.atadd64 n d a b z) := .inl rfl
theorem Shape.atand32 (n : Fin 32) (d a b : Fin 32) (z : BitVec 8) : Shape.Statement (Instr.atand32 n d a b z) := .inl rfl
theorem Shape.atand64 (n : Fin 32) (d a b : Fin 32) (z : BitVec 8) : Shape.Statement (Instr.atand64 n d a b z) := .inl rfl
theorem Shape.ator32 (n : Fin 32) (d a b : Fin 32) (z : BitVec 8) : Shape.Statement (Instr.ator32 n d a b z) := .inl rfl
theorem Shape.ator64 (n : Fin 32) (d a b : Fin 32) (z : BitVec 8) : Shape.Statement (Instr.ator64 n d a b z) := .inl rfl
theorem Shape.atcas32 (n : Fin 32) (d a b : Fin 32) (z : BitVec 8) : Shape.Statement (Instr.atcas32 n d a b z) := .inl rfl
theorem Shape.atcas64 (n : Fin 32) (d a b : Fin 32) (z : BitVec 8) : Shape.Statement (Instr.atcas64 n d a b z) := .inl rfl
theorem Shape.cbeq (n : Fin 32) (a b : Fin 32) (off : BitVec 13) : Shape.Statement (Instr.cbeq n a b off) := .inl rfl
theorem Shape.cbne (n : Fin 32) (a b : Fin 32) (off : BitVec 13) : Shape.Statement (Instr.cbne n a b off) := .inl rfl
theorem Shape.cblt (n : Fin 32) (a b : Fin 32) (off : BitVec 13) : Shape.Statement (Instr.cblt n a b off) := .inl rfl
theorem Shape.cbge (n : Fin 32) (a b : Fin 32) (off : BitVec 13) : Shape.Statement (Instr.cbge n a b off) := .inl rfl
theorem Shape.cbltu (n : Fin 32) (a b : Fin 32) (off : BitVec 13) : Shape.Statement (Instr.cbltu n a b off) := .inl rfl
theorem Shape.cbgeu (n : Fin 32) (a b : Fin 32) (off : BitVec 13) : Shape.Statement (Instr.cbgeu n a b off) := .inl rfl
theorem Shape.jlink (n : Fin 32) (d : Fin 32) (k : BitVec 23) : Shape.Statement (Instr.jlink n d k) := .inl rfl
theorem Shape.jlinkr (n : Fin 32) (d a : Fin 32) (minor : BitVec 5) (k : BitVec 13) : Shape.Statement (Instr.jlinkr n d a minor k) := .inl rfl
theorem Shape.mkhi (n : Fin 32) (d : Fin 32) (k : BitVec 23) : Shape.Statement (Instr.mkhi n d k) := .inl rfl
theorem Shape.pchi (n : Fin 32) (d : Fin 32) (k : BitVec 23) : Shape.Statement (Instr.pchi n d k) := .inl rfl
theorem Shape.loop (n : Fin 32) (a : Fin 32) (e : BitVec 13) (z1 z2 : BitVec 5) : Shape.Statement (Instr.loop n a e z1 z2) := .inl rfl
theorem Shape.nop (n : Fin 32) (d a : BitVec 5) (k : BitVec 13) : Shape.Statement (Instr.nop n d a k) := .inl rfl
theorem Shape.mfsr (n : Fin 32) (d : Fin 32) (a : BitVec 5) (k : BitVec 13) : Shape.Statement (Instr.mfsr n d a k) := .inl rfl
theorem Shape.mtsr (n : Fin 32) (d : BitVec 5) (a : Fin 32) (k : BitVec 13) : Shape.Statement (Instr.mtsr n d a k) := .inl rfl
theorem Shape.msset (n : Fin 32) (d a : Fin 32) (k : BitVec 13) : Shape.Statement (Instr.msset n d a k) := .inl rfl
theorem Shape.msclr (n : Fin 32) (d a : Fin 32) (k : BitVec 13) : Shape.Statement (Instr.msclr n d a k) := .inl rfl
theorem Shape.sync (n : Fin 32) (d a : BitVec 5) (k : BitVec 13) : Shape.Statement (Instr.sync n d a k) := .inl rfl
theorem Shape.isync (n : Fin 32) (d a : BitVec 5) (k : BitVec 13) : Shape.Statement (Instr.isync n d a k) := .inl rfl
theorem Shape.icinv (n : Fin 32) (d : BitVec 5) (a : Fin 32) (k : BitVec 13) : Shape.Statement (Instr.icinv n d a k) := .inl rfl
theorem Shape.dcwb (n : Fin 32) (d : BitVec 5) (a : Fin 32) (k : BitVec 13) : Shape.Statement (Instr.dcwb n d a k) := .inl rfl
theorem Shape.dcwbi (n : Fin 32) (d : BitVec 5) (a : Fin 32) (k : BitVec 13) : Shape.Statement (Instr.dcwbi n d a k) := .inl rfl
theorem Shape.tinvVa (n : Fin 32) (a b : Fin 32) (z : BitVec 13) : Shape.Statement (Instr.tinvVa n a b z) := .inl rfl
theorem Shape.tinvSid (n : Fin 32) (d : BitVec 5) (a : Fin 32) (k : BitVec 13) : Shape.Statement (Instr.tinvSid n d a k) := .inl rfl
theorem Shape.tinvIpa (n : Fin 32) (d : BitVec 5) (a : Fin 32) (k : BitVec 13) : Shape.Statement (Instr.tinvIpa n d a k) := .inl rfl
theorem Shape.tinvAll (n : Fin 32) (d a : BitVec 5) (k : BitVec 13) : Shape.Statement (Instr.tinvAll n d a k) := .inl rfl
theorem Shape.pflush (n : Fin 32) (d a : BitVec 5) (k : BitVec 13) : Shape.Statement (Instr.pflush n d a k) := .inl rfl
theorem Shape.pbar (n : Fin 32) (d a : BitVec 5) (k : BitVec 13) : Shape.Statement (Instr.pbar n d a k) := .inl rfl
theorem Shape.wait (n : Fin 32) (d a : BitVec 5) (k : BitVec 13) : Shape.Statement (Instr.wait n d a k) := .inl rfl
theorem Shape.eret (n : Fin 32) (d a : BitVec 5) (k : BitVec 13) : Shape.Statement (Instr.eret n d a k) := .inl rfl
theorem Shape.calls (n : Fin 32) (d a : BitVec 5) (k : BitVec 13) : Shape.Statement (Instr.calls n d a k) := .inl rfl
theorem Shape.callh (n : Fin 32) (d a : BitVec 5) (k : BitVec 13) : Shape.Statement (Instr.callh n d a k) := .inl rfl
theorem Shape.callm (n : Fin 32) (d a : BitVec 5) (k : BitVec 13) : Shape.Statement (Instr.callm n d a k) := .inl rfl
theorem Shape.brk (n : Fin 32) (d a : BitVec 5) (k : BitVec 13) : Shape.Statement (Instr.brk n d a k) := .inl rfl
theorem Shape.irqEntry (n : Fin 32) : Shape.Statement (Instr.irqEntry n) := .inl rfl
theorem Shape.coreTimerFire (n : Fin 32) : Shape.Statement (Instr.coreTimerFire n) := .inl rfl
theorem Shape.cacheError (x : CacheErr) : Shape.Statement (Instr.cacheError x) := .inl rfl
theorem Shape.evdPresentation (t : Fin 32) : Shape.Statement (Instr.evdPresentation t) := .inl rfl
theorem Shape.evdModerationRelease (t : Fin 32) : Shape.Statement (Instr.evdModerationRelease t) := .inl rfl
theorem Shape.evdAck (who : Req) : Shape.Statement (Instr.evdAck who) := .inl rfl
theorem Shape.evdEoi (who : Req) (v : W32) : Shape.Statement (Instr.evdEoi who v) := .inl rfl
theorem Shape.evdPmrWrite (who : Req) (v : W32) : Shape.Statement (Instr.evdPmrWrite who v) := .inl rfl
theorem Shape.evdSwgen (who : Req) (v : W32) : Shape.Statement (Instr.evdSwgen who v) := .inl rfl
theorem Shape.evdFallbackWrite (who : Req) (v : W32) : Shape.Statement (Instr.evdFallbackWrite who v) := .inl rfl
theorem Shape.evdEnSet (k : Fin 64) (who : Req) (v : W32) : Shape.Statement (Instr.evdEnSet k who v) := .inl rfl
theorem Shape.evdEnClr (k : Fin 64) (who : Req) (v : W32) : Shape.Statement (Instr.evdEnClr k who v) := .inl rfl
theorem Shape.evdPendSet (k : Fin 64) (who : Req) (v : W32) : Shape.Statement (Instr.evdPendSet k who v) := .inl rfl
theorem Shape.evdPendClr (k : Fin 64) (who : Req) (v : W32) : Shape.Statement (Instr.evdPendClr k who v) := .inl rfl
theorem Shape.evdSrcCfgWrite (x : Fin 2048) (who : Req) (v : W32) : Shape.Statement (Instr.evdSrcCfgWrite x who v) := .inl rfl
theorem Shape.mbxTx (m : Fin 128) (ba : Bool) (who : Req) (v : W32) : Shape.Statement (Instr.mbxTx m ba who v) := .inl rfl
theorem Shape.mbxRxData (m : Fin 128) (ba : Bool) (who : Req) : Shape.Statement (Instr.mbxRxData m ba who) := .inl rfl
theorem Shape.mbxAckWrite (m : Fin 128) (ba : Bool) (who : Req) (v : W32) : Shape.Statement (Instr.mbxAckWrite m ba who v) := .inl rfl
theorem Shape.mbxTimeout (m : Fin 128) (ba : Bool) : Shape.Statement (Instr.mbxTimeout m ba) := .inl rfl
theorem Shape.chStart (e : Fin 4) (i : Fin 1024) (who : Req) (v : W32) : Shape.Statement (Instr.chStart e i who v) := .inl rfl
theorem Shape.chStop (e : Fin 4) (i : Fin 1024) (who : Req) (v : W32) : Shape.Statement (Instr.chStop e i who v) := .inl rfl
theorem Shape.chPause (e : Fin 4) (i : Fin 1024) (who : Req) (v : W32) : Shape.Statement (Instr.chPause e i who v) := .inl rfl
theorem Shape.chResume (e : Fin 4) (i : Fin 1024) (who : Req) (v : W32) : Shape.Statement (Instr.chResume e i who v) := .inl rfl
theorem Shape.chClear (e : Fin 4) (i : Fin 1024) (who : Req) (v : W32) : Shape.Statement (Instr.chClear e i who v) := .inl rfl
theorem Shape.chInv (e : Fin 4) (i : Fin 1024) (who : Req) (v : W32) : Shape.Statement (Instr.chInv e i who v) := .inl rfl
theorem Shape.chOwnWrite (e : Fin 4) (i : Fin 1024) (who : Req) (v : W32) : Shape.Statement (Instr.chOwnWrite e i who v) := .inl rfl
theorem Shape.dmaContextFree (e : Fin 4) (i : Fin 1024) : Shape.Statement (Instr.dmaContextFree e i) := .inl rfl
theorem Shape.dmaBargeRead (e : Fin 4) (i : Fin 1024) : Shape.Statement (Instr.dmaBargeRead e i) := .inl rfl
theorem Shape.dmaReadComplete (e : Fin 4) (i : Fin 1024) : Shape.Statement (Instr.dmaReadComplete e i) := .inl rfl
theorem Shape.dmaWriteAck (e : Fin 4) (i : Fin 1024) : Shape.Statement (Instr.dmaWriteAck e i) := .inl rfl
theorem Shape.dmaPortRequest (e : Fin 4) (q : Fin 64) : Shape.Statement (Instr.dmaPortRequest e q) := .inl rfl
theorem Shape.dmaPortData (e : Fin 4) (q : Fin 64) (d : Bytes) : Shape.Statement (Instr.dmaPortData e q d) := .inl rfl
theorem Shape.underrun (e : Fin 4) (q : Fin 64) : Shape.Statement (Instr.underrun e q) := .inl rfl
theorem Shape.stallQuiet (i : Fin 256) : Shape.Statement (Instr.stallQuiet i) := .inl rfl
theorem Shape.bsnPoolAlloc (p : Fin 64) (who : Req) : Shape.Statement (Instr.bsnPoolAlloc p who) := .inl rfl
theorem Shape.bsnFree (who : Req) (v : W32) : Shape.Statement (Instr.bsnFree who v) := .inl rfl
theorem Shape.bind (i : Fin 256) (who : Req) (v : W32) : Shape.Statement (Instr.bind i who v) := .inl rfl
theorem Shape.quiesce (i : Fin 256) (who : Req) (v : W32) : Shape.Statement (Instr.quiesce i who v) := .inl rfl
theorem Shape.stallResume (i : Fin 256) (who : Req) (v : W32) : Shape.Statement (Instr.stallResume i who v) := .inl rfl
theorem Shape.freeze (i : Fin 256) (who : Req) (v : W32) : Shape.Statement (Instr.freeze i who v) := .inl rfl
theorem Shape.thaw (i : Fin 256) (who : Req) (v : W32) : Shape.Statement (Instr.thaw i who v) := .inl rfl
theorem Shape.save (i : Fin 256) (who : Req) (v : W32) : Shape.Statement (Instr.save i who v) := .inl rfl
theorem Shape.restore (i : Fin 256) (who : Req) (v : W32) : Shape.Statement (Instr.restore i who v) := .inl rfl
theorem Shape.stallReset (i : Fin 256) (who : Req) (v : W32) : Shape.Statement (Instr.stallReset i who v) := .inl rfl
theorem Shape.remove (i : Fin 256) (who : Req) (v : W32) : Shape.Statement (Instr.remove i who v) := .inl rfl
theorem Shape.stallCmdDone (i : Fin 256) : Shape.Statement (Instr.stallCmdDone i) := .inl rfl
theorem Shape.stlBindWrite (i : Fin 256) (who : Req) (v : W32) : Shape.Statement (Instr.stlBindWrite i who v) := .inl rfl
theorem Shape.stlMapWrite (i : Fin 256) (o : BitVec 12) (who : Req) (v : W32) : Shape.Statement (Instr.stlMapWrite i o who v) := .inl rfl
theorem Shape.ring (i : Fin 256) (who : Req) (v : W32) : Shape.Statement (Instr.ring i who v) := .inl rfl
theorem Shape.stlTEnSet (i : Fin 256) (who : Req) (v : W32) : Shape.Statement (Instr.stlTEnSet i who v) := .inl rfl
theorem Shape.stlTEnClr (i : Fin 256) (who : Req) (v : W32) : Shape.Statement (Instr.stlTEnClr i who v) := .inl rfl
theorem Shape.stlTPendClr (i : Fin 256) (who : Req) (v : W32) : Shape.Statement (Instr.stlTPendClr i who v) := .inl rfl
theorem Shape.stlTBsnAlloc (i : Fin 256) (who : Req) : Shape.Statement (Instr.stlTBsnAlloc i who) := .inl rfl
theorem Shape.stlTBsnFree (i : Fin 256) (who : Req) (v : W32) : Shape.Statement (Instr.stlTBsnFree i who v) := .inl rfl
theorem Shape.lvRead (i : Fin 256) (who : Req) (v : W32) : Shape.Statement (Instr.lvRead i who v) := .inl rfl
theorem Shape.setthr (i : Fin 256) (who : Req) (v : W32) : Shape.Statement (Instr.setthr i who v) := .inl rfl
theorem Shape.stallPageAccess (i : Fin 256) (o : BitVec 12) (k : Fin 4) (who : Req) (w : Option W64) : Shape.Statement (Instr.stallPageAccess i o k who w) := .inl rfl
theorem Shape.coreOn (n : Fin 32) (who : Req) (v : W32) : Shape.Statement (Instr.coreOn n who v) := .inl rfl
theorem Shape.ccFreqWrite (k : Fin 8) (who : Req) (v : W32) : Shape.Statement (Instr.ccFreqWrite k who v) := .inl rfl
theorem Shape.vtgtWrite (r : Fin 4) (who : Req) (v : W32) : Shape.Statement (Instr.vtgtWrite r who v) := .inl rfl
theorem Shape.sluiceGo (r : Fin 4) (who : Req) (v : W32) : Shape.Statement (Instr.sluiceGo r who v) := .inl rfl
theorem Shape.sluiceClockChangeDone (r : Fin 4) : Shape.Statement (Instr.sluiceClockChangeDone r) := .inl rfl
theorem Shape.avsbusAck (r : Fin 4) : Shape.Statement (Instr.avsbusAck r) := .inl rfl
theorem Shape.settle (r : Fin 4) (mv : Nat) : Shape.Statement (Instr.settle r mv) := .inl rfl
theorem Shape.noack (r : Fin 4) : Shape.Statement (Instr.noack r) := .inl rfl
theorem Shape.pkgGo (who : Req) (v : W32) : Shape.Statement (Instr.pkgGo who v) := .inl rfl
theorem Shape.pkgEntryStepDone : Shape.Statement (Instr.pkgEntryStepDone) := .inl rfl
theorem Shape.packageWake (w : WakeSrc) (found : DramCopies) (media : BootMedia) : Shape.Statement (Instr.packageWake w found media) := .inl rfl
theorem Shape.regionRetentionEntry (r : Fin 4) : Shape.Statement (Instr.regionRetentionEntry r) := .inl rfl
theorem Shape.regionRetentionExit (r : Fin 4) : Shape.Statement (Instr.regionRetentionExit r) := .inl rfl
theorem Shape.unitReset (who : Req) (v : W32) : Shape.Statement (Instr.unitReset who v) := .inl rfl
theorem Shape.unitFence (who : Req) (v : W32) : Shape.Statement (Instr.unitFence who v) := .inl rfl
theorem Shape.unitUnfence (who : Req) (v : W32) : Shape.Statement (Instr.unitUnfence who v) := .inl rfl
theorem Shape.unitOut (who : Req) (v : W32) : Shape.Statement (Instr.unitOut who v) := .inl rfl
theorem Shape.traceOn (who : Req) (v : W32) : Shape.Statement (Instr.traceOn who v) := .inl rfl
theorem Shape.traceOff (who : Req) (v : W32) : Shape.Statement (Instr.traceOff who v) := .inl rfl
theorem Shape.packetRx (u : Fin 52) (sub src : BitVec 16) (b : Bytes) : Shape.Statement (Instr.packetRx u sub src b) := .inl rfl
theorem Shape.portTxq (u : Fin 52) (who : Req) (v : W32) : Shape.Statement (Instr.portTxq u who v) := .inl rfl
theorem Shape.portRxq (u : Fin 52) (who : Req) : Shape.Statement (Instr.portRxq u who) := .inl rfl
theorem Shape.mbxFramePush (u : Fin 52) (sub : BitVec 16) (src : W32) (b : Bytes) : Shape.Statement (Instr.mbxFramePush u sub src b) := .inl rfl
theorem Shape.readAck (u : Fin 52) (sub : BitVec 16) (src : W32) (b : Bytes) : Shape.Statement (Instr.readAck u sub src b) := .inl rfl
theorem Shape.readRx (u : Fin 52) (sub : BitVec 16) (src : W32) (b : Bytes) : Shape.Statement (Instr.readRx u sub src b) := .inl rfl
theorem Shape.writeAck (u : Fin 52) (sub : BitVec 16) (src : W32) (b : Bytes) : Shape.Statement (Instr.writeAck u sub src b) := .inl rfl
theorem Shape.bar0Access (u : Fin 2) (o : BitVec 15) (k : Tlp) (w : Option W64) : Shape.Statement (Instr.bar0Access u o k w) := .inl rfl
theorem Shape.rp0InboundRequest (msi : Bool) : Shape.Statement (Instr.rp0InboundRequest msi) := .inl rfl
theorem Shape.completionTimeout (x : CplReq) : Shape.Statement (Instr.completionTimeout x) := .inl rfl
theorem Shape.ethFrameRx (i : Fin 11) (fcsOk : Bool) (b : Bytes) : Shape.Statement (Instr.ethFrameRx i fcsOk b) := .inl rfl
theorem Shape.linkUp (u : Fin 52) (rate width : BitVec 4) : Shape.Statement (Instr.linkUp u rate width) := .inl rfl
theorem Shape.linkDown (u : Fin 52) : Shape.Statement (Instr.linkDown u) := .inl rfl
theorem Shape.i3cIbi (i : Fin 4) (x : I3cRx) : Shape.Statement (Instr.i3cIbi i x) := .inl rfl
theorem Shape.clockLowTimeout (c : Fin 16) : Shape.Statement (Instr.clockLowTimeout c) := .inl rfl
theorem Shape.stuck (c : Fin 16) : Shape.Statement (Instr.stuck c) := .inl rfl
theorem Shape.pcieRetrain (u : Fin 52) (who : Req) (v : W32) : Shape.Statement (Instr.pcieRetrain u who v) := .inl rfl
theorem Shape.pcieForceRate (u : Fin 52) (who : Req) (v : W32) : Shape.Statement (Instr.pcieForceRate u who v) := .inl rfl
theorem Shape.laneMargining (u : Fin 52) (who : Req) (v : W32) : Shape.Statement (Instr.laneMargining u who v) := .inl rfl
theorem Shape.prbs31Lanes (u : Fin 52) (who : Req) (v : W32) : Shape.Statement (Instr.prbs31Lanes u who v) := .inl rfl
theorem Shape.pcsLoopbackNear (u : Fin 52) (who : Req) (v : W32) : Shape.Statement (Instr.pcsLoopbackNear u who v) := .inl rfl
theorem Shape.pcsLoopbackFar (u : Fin 52) (who : Req) (v : W32) : Shape.Statement (Instr.pcsLoopbackFar u who v) := .inl rfl
theorem Shape.busRecovery (u : Fin 52) (who : Req) (v : W32) : Shape.Statement (Instr.busRecovery u who v) := .inl rfl
theorem Shape.rawTransfer (u : Fin 52) (who : Req) (v : W32) : Shape.Statement (Instr.rawTransfer u who v) := .inl rfl
theorem Shape.i3cTargetReset (u : Fin 52) (who : Req) (v : W32) : Shape.Statement (Instr.i3cTargetReset u who v) := .inl rfl
theorem Shape.avsbusFrame (u : Fin 52) (who : Req) (v : W32) : Shape.Statement (Instr.avsbusFrame u who v) := .inl rfl
theorem Shape.tapReset (u : Fin 52) (who : Req) (v : W32) : Shape.Statement (Instr.tapReset u who v) := .inl rfl
theorem Shape.shiftIr (u : Fin 52) (who : Req) (v : W32) : Shape.Statement (Instr.shiftIr u who v) := .inl rfl
theorem Shape.shiftDr (u : Fin 52) (who : Req) (v : W32) : Shape.Statement (Instr.shiftDr u who v) := .inl rfl
theorem Shape.xspiProgram (u : Fin 52) (who : Req) (v : W32) : Shape.Statement (Instr.xspiProgram u who v) := .inl rfl
theorem Shape.xspiErase (u : Fin 52) (who : Req) (v : W32) : Shape.Statement (Instr.xspiErase u who v) := .inl rfl
theorem Shape.uartBreak (u : Fin 52) (who : Req) (v : W32) : Shape.Statement (Instr.uartBreak u who v) := .inl rfl
theorem Shape.rawDone (u : Fin 52) (e : RawEnd) (data : W32) (lanes : List (BitVec 16)) : Shape.Statement (Instr.rawDone u e data lanes) := .inl rfl
theorem Shape.fanTachWindow (f : Fin 16) (rpm : BitVec 16) : Shape.Statement (Instr.fanTachWindow f rpm) := .inl rfl
theorem Shape.fanWdtExpiry : Shape.Statement (Instr.fanWdtExpiry) := .inl rfl
theorem Shape.kick (who : Req) (v : W32) : Shape.Statement (Instr.kick who v) := .inl rfl
theorem Shape.fanPwmWrite (f : Fin 16) (who : Req) (v : W32) : Shape.Statement (Instr.fanPwmWrite f who v) := .inl rfl
theorem Shape.patrolScrub (a : BitVec 38) (e : Ecc) : Shape.Statement (Instr.patrolScrub a e) := .inl rfl
theorem Shape.ts (n : Fin 32) : Shape.Statement (Instr.ts n) := .inl rfl
theorem Shape.traceFifoRoom (id : BitVec 16) : Shape.Statement (Instr.traceFifoRoom id) := .inl rfl
theorem Shape.funnelFrame (id : BitVec 16) : Shape.Statement (Instr.funnelFrame id) := .inl rfl
theorem Shape.trcCtlWrite (who : Req) (v : W32) : Shape.Statement (Instr.trcCtlWrite who v) := .inl rfl
theorem Shape.debugAccess (a : BitVec 48) (k : Fin 4) (w : Option W64) : Shape.Statement (Instr.debugAccess a k w) := .inl rfl
theorem Shape.halt (n : Fin 32) (who : Req) (v : W32) : Shape.Statement (Instr.halt n who v) := .inl rfl
theorem Shape.dbgResume (n : Fin 32) (who : Req) (v : W32) : Shape.Statement (Instr.dbgResume n who v) := .inl rfl
theorem Shape.step (n : Fin 32) (who : Req) (v : W32) : Shape.Statement (Instr.step n who v) := .inl rfl
theorem Shape.dbgCoreDataWrite (n : Fin 32) (hi : Bool) (who : Req) (v : W32) : Shape.Statement (Instr.dbgCoreDataWrite n hi who v) := .inl rfl
theorem Shape.stepEn (j : Fin 36) (who : Req) (v : W32) : Shape.Statement (Instr.stepEn j who v) := .inl rfl
theorem Shape.go (j : Fin 36) (who : Req) (v : W32) : Shape.Statement (Instr.go j who v) := .inl rfl
theorem Shape.dbgLeDataWrite (j : Fin 36) (who : Req) (v : W32) : Shape.Statement (Instr.dbgLeDataWrite j who v) := .inl rfl
theorem Shape.debugUnlock (who : Req) (v : W32) : Shape.Statement (Instr.debugUnlock who v) := .inl rfl
theorem Shape.debugLock (who : Req) (v : W32) : Shape.Statement (Instr.debugLock who v) := .inl rfl
theorem Shape.debugBoot (who : Req) (v : W32) : Shape.Statement (Instr.debugBoot who v) := .inl rfl
theorem Shape.registerWrite (a : BitVec 48) (who : Req) (v : W32) : Shape.Statement (Instr.registerWrite a who v) := .inl rfl
theorem Shape.registerReadClear (a : BitVec 48) (who : Req) : Shape.Statement (Instr.registerReadClear a who) := .inl rfl
theorem Shape.unitActionDone : Shape.Statement (Instr.unitActionDone) := .inl rfl
theorem Shape.lvCmdDone (i : Fin 256) : Shape.Statement (Instr.lvCmdDone i) := .inl rfl
theorem Shape.packetSent (u : Fin 52) : Shape.Statement (Instr.packetSent u) := .inl rfl
theorem Shape.dmaRequestWithdraw (e : Fin 4) (q : Fin 64) : Shape.Statement (Instr.dmaRequestWithdraw e q) := .inl rfl
theorem Shape.refclkLoss : Shape.Statement (Instr.refclkLoss) := .inl rfl
theorem Shape.refclkReturn : Shape.Statement (Instr.refclkReturn) := .inl rfl
theorem Shape.stagePowerLoss (p : Fin 512) : Shape.Statement (Instr.stagePowerLoss p) := .inl rfl
theorem Shape.gpioInputChange (g : Fin 128) (lvl : Bool) : Shape.Statement (Instr.gpioInputChange g lvl) := .inl rfl
theorem Shape.macAgeing (v : BitVec 12) (a : BitVec 48) : Shape.Statement (Instr.macAgeing v a) := .inl rfl
theorem Shape.breakReceived (x : UartBrk) : Shape.Statement (Instr.breakReceived x) := .inl rfl

end Sys2Proof.Laws
end

