-- ==== Sys2Proof/Laws/State.lean ====
section
/-!
SUPPORT. What each named update of the state leaves: one lemma per field and update, and the registers after a write of one of them.
-/
namespace Sys2Proof.Machine

@[simp] theorem State.wr_pending (s : State) (r : Reg) (i : Nat) (v : W32) : (s.wr r i v).pending = s.pending := rfl
@[simp] theorem State.wr_free (s : State) (r : Reg) (i : Nat) (v : W32) : (s.wr r i v).free = s.free := rfl
@[simp] theorem State.wr_mem (s : State) (r : Reg) (i : Nat) (v : W32) : (s.wr r i v).mem = s.mem := rfl
@[simp] theorem State.wr_reply (s : State) (r : Reg) (i : Nat) (v : W32) : (s.wr r i v).reply = s.reply := rfl
@[simp] theorem State.wr_unit (s : State) (r : Reg) (i : Nat) (v : W32) : (s.wr r i v).unit = s.unit := rfl
@[simp] theorem State.wr_img (s : State) (r : Reg) (i : Nat) (v : W32) : (s.wr r i v).img = s.img := rfl
@[simp] theorem State.wr_keep (s : State) (r : Reg) (i : Nat) (v : W32) : (s.wr r i v).keep = s.keep := rfl
@[simp] theorem State.wr_tick (s : State) (r : Reg) (i : Nat) (v : W32) : (s.wr r i v).tick = s.tick := rfl
@[simp] theorem State.wr_pins (s : State) (r : Reg) (i : Nat) (v : W32) : (s.wr r i v).pins = s.pins := rfl
@[simp] theorem State.wr_port (s : State) (r : Reg) (i : Nat) (v : W32) : (s.wr r i v).port = s.port := rfl
@[simp] theorem State.wr_stage (s : State) (r : Reg) (i : Nat) (v : W32) : (s.wr r i v).stage = s.stage := rfl
@[simp] theorem State.wr_le (s : State) (r : Reg) (i : Nat) (v : W32) : (s.wr r i v).le = s.le := rfl
@[simp] theorem State.wr_copyEcc (s : State) (r : Reg) (i : Nat) (v : W32) : (s.wr r i v).copyEcc = s.copyEcc := rfl
@[simp] theorem State.wr_lc (s : State) (r : Reg) (i : Nat) (v : W32) : (s.wr r i v).lc = s.lc := rfl
@[simp] theorem State.wr_rail (s : State) (r : Reg) (i : Nat) (v : W32) : (s.wr r i v).rail = s.rail := rfl
@[simp] theorem State.wr_seq (s : State) (r : Reg) (i : Nat) (v : W32) : (s.wr r i v).seq = s.seq := rfl
@[simp] theorem State.wr_adc (s : State) (r : Reg) (i : Nat) (v : W32) : (s.wr r i v).adc = s.adc := rfl
@[simp] theorem State.wr_hint (s : State) (r : Reg) (i : Nat) (v : W32) : (s.wr r i v).hint = s.hint := rfl
@[simp] theorem State.wr_ldg (s : State) (r : Reg) (i : Nat) (v : W32) : (s.wr r i v).ldg = s.ldg := rfl
@[simp] theorem State.wr_cmp (s : State) (r : Reg) (i : Nat) (v : W32) : (s.wr r i v).cmp = s.cmp := rfl
@[simp] theorem State.wr_core (s : State) (r : Reg) (i : Nat) (v : W32) : (s.wr r i v).core = s.core := rfl
@[simp] theorem State.wr_l2 (s : State) (r : Reg) (i : Nat) (v : W32) : (s.wr r i v).l2 = s.l2 := rfl
@[simp] theorem State.wr_poison (s : State) (r : Reg) (i : Nat) (v : W32) : (s.wr r i v).poison = s.poison := rfl
@[simp] theorem State.wr_evd (s : State) (r : Reg) (i : Nat) (v : W32) : (s.wr r i v).evd = s.evd := rfl
@[simp] theorem State.wr_mbx (s : State) (r : Reg) (i : Nat) (v : W32) : (s.wr r i v).mbx = s.mbx := rfl
@[simp] theorem State.wr_dma (s : State) (r : Reg) (i : Nat) (v : W32) : (s.wr r i v).dma = s.dma := rfl
@[simp] theorem State.wr_basin (s : State) (r : Reg) (i : Nat) (v : W32) : (s.wr r i v).basin = s.basin := rfl
@[simp] theorem State.wr_stall (s : State) (r : Reg) (i : Nat) (v : W32) : (s.wr r i v).stall = s.stall := rfl
@[simp] theorem State.wr_pwr (s : State) (r : Reg) (i : Nat) (v : W32) : (s.wr r i v).pwr = s.pwr := rfl
@[simp] theorem State.wr_ext (s : State) (r : Reg) (i : Nat) (v : W32) : (s.wr r i v).ext = s.ext := rfl
@[simp] theorem State.wr_sw (s : State) (r : Reg) (i : Nat) (v : W32) : (s.wr r i v).sw = s.sw := rfl
@[simp] theorem State.wr_fans (s : State) (r : Reg) (i : Nat) (v : W32) : (s.wr r i v).fans = s.fans := rfl
@[simp] theorem State.wr_trc (s : State) (r : Reg) (i : Nat) (v : W32) : (s.wr r i v).trc = s.trc := rfl

@[simp] theorem State.pf_pending (s : State) (r : Reg) (i : Nat) (f : Fld) (n : Nat) : (s.pf r i f n).pending = s.pending := rfl
@[simp] theorem State.pf_free (s : State) (r : Reg) (i : Nat) (f : Fld) (n : Nat) : (s.pf r i f n).free = s.free := rfl
@[simp] theorem State.pf_mem (s : State) (r : Reg) (i : Nat) (f : Fld) (n : Nat) : (s.pf r i f n).mem = s.mem := rfl
@[simp] theorem State.pf_reply (s : State) (r : Reg) (i : Nat) (f : Fld) (n : Nat) : (s.pf r i f n).reply = s.reply := rfl
@[simp] theorem State.pf_unit (s : State) (r : Reg) (i : Nat) (f : Fld) (n : Nat) : (s.pf r i f n).unit = s.unit := rfl
@[simp] theorem State.pf_img (s : State) (r : Reg) (i : Nat) (f : Fld) (n : Nat) : (s.pf r i f n).img = s.img := rfl
@[simp] theorem State.pf_keep (s : State) (r : Reg) (i : Nat) (f : Fld) (n : Nat) : (s.pf r i f n).keep = s.keep := rfl
@[simp] theorem State.pf_tick (s : State) (r : Reg) (i : Nat) (f : Fld) (n : Nat) : (s.pf r i f n).tick = s.tick := rfl
@[simp] theorem State.pf_pins (s : State) (r : Reg) (i : Nat) (f : Fld) (n : Nat) : (s.pf r i f n).pins = s.pins := rfl
@[simp] theorem State.pf_port (s : State) (r : Reg) (i : Nat) (f : Fld) (n : Nat) : (s.pf r i f n).port = s.port := rfl
@[simp] theorem State.pf_stage (s : State) (r : Reg) (i : Nat) (f : Fld) (n : Nat) : (s.pf r i f n).stage = s.stage := rfl
@[simp] theorem State.pf_le (s : State) (r : Reg) (i : Nat) (f : Fld) (n : Nat) : (s.pf r i f n).le = s.le := rfl
@[simp] theorem State.pf_copyEcc (s : State) (r : Reg) (i : Nat) (f : Fld) (n : Nat) : (s.pf r i f n).copyEcc = s.copyEcc := rfl
@[simp] theorem State.pf_lc (s : State) (r : Reg) (i : Nat) (f : Fld) (n : Nat) : (s.pf r i f n).lc = s.lc := rfl
@[simp] theorem State.pf_rail (s : State) (r : Reg) (i : Nat) (f : Fld) (n : Nat) : (s.pf r i f n).rail = s.rail := rfl
@[simp] theorem State.pf_seq (s : State) (r : Reg) (i : Nat) (f : Fld) (n : Nat) : (s.pf r i f n).seq = s.seq := rfl
@[simp] theorem State.pf_adc (s : State) (r : Reg) (i : Nat) (f : Fld) (n : Nat) : (s.pf r i f n).adc = s.adc := rfl
@[simp] theorem State.pf_hint (s : State) (r : Reg) (i : Nat) (f : Fld) (n : Nat) : (s.pf r i f n).hint = s.hint := rfl
@[simp] theorem State.pf_ldg (s : State) (r : Reg) (i : Nat) (f : Fld) (n : Nat) : (s.pf r i f n).ldg = s.ldg := rfl
@[simp] theorem State.pf_cmp (s : State) (r : Reg) (i : Nat) (f : Fld) (n : Nat) : (s.pf r i f n).cmp = s.cmp := rfl
@[simp] theorem State.pf_core (s : State) (r : Reg) (i : Nat) (f : Fld) (n : Nat) : (s.pf r i f n).core = s.core := rfl
@[simp] theorem State.pf_l2 (s : State) (r : Reg) (i : Nat) (f : Fld) (n : Nat) : (s.pf r i f n).l2 = s.l2 := rfl
@[simp] theorem State.pf_poison (s : State) (r : Reg) (i : Nat) (f : Fld) (n : Nat) : (s.pf r i f n).poison = s.poison := rfl
@[simp] theorem State.pf_evd (s : State) (r : Reg) (i : Nat) (f : Fld) (n : Nat) : (s.pf r i f n).evd = s.evd := rfl
@[simp] theorem State.pf_mbx (s : State) (r : Reg) (i : Nat) (f : Fld) (n : Nat) : (s.pf r i f n).mbx = s.mbx := rfl
@[simp] theorem State.pf_dma (s : State) (r : Reg) (i : Nat) (f : Fld) (n : Nat) : (s.pf r i f n).dma = s.dma := rfl
@[simp] theorem State.pf_basin (s : State) (r : Reg) (i : Nat) (f : Fld) (n : Nat) : (s.pf r i f n).basin = s.basin := rfl
@[simp] theorem State.pf_stall (s : State) (r : Reg) (i : Nat) (f : Fld) (n : Nat) : (s.pf r i f n).stall = s.stall := rfl
@[simp] theorem State.pf_pwr (s : State) (r : Reg) (i : Nat) (f : Fld) (n : Nat) : (s.pf r i f n).pwr = s.pwr := rfl
@[simp] theorem State.pf_ext (s : State) (r : Reg) (i : Nat) (f : Fld) (n : Nat) : (s.pf r i f n).ext = s.ext := rfl
@[simp] theorem State.pf_sw (s : State) (r : Reg) (i : Nat) (f : Fld) (n : Nat) : (s.pf r i f n).sw = s.sw := rfl
@[simp] theorem State.pf_fans (s : State) (r : Reg) (i : Nat) (f : Fld) (n : Nat) : (s.pf r i f n).fans = s.fans := rfl
@[simp] theorem State.pf_trc (s : State) (r : Reg) (i : Nat) (f : Fld) (n : Nat) : (s.pf r i f n).trc = s.trc := rfl

@[simp] theorem State.pb_pending (s : State) (r : Reg) (i : Nat) (f : Fld) (b : Bool) : (s.pb r i f b).pending = s.pending := rfl
@[simp] theorem State.pb_free (s : State) (r : Reg) (i : Nat) (f : Fld) (b : Bool) : (s.pb r i f b).free = s.free := rfl
@[simp] theorem State.pb_mem (s : State) (r : Reg) (i : Nat) (f : Fld) (b : Bool) : (s.pb r i f b).mem = s.mem := rfl
@[simp] theorem State.pb_reply (s : State) (r : Reg) (i : Nat) (f : Fld) (b : Bool) : (s.pb r i f b).reply = s.reply := rfl
@[simp] theorem State.pb_unit (s : State) (r : Reg) (i : Nat) (f : Fld) (b : Bool) : (s.pb r i f b).unit = s.unit := rfl
@[simp] theorem State.pb_img (s : State) (r : Reg) (i : Nat) (f : Fld) (b : Bool) : (s.pb r i f b).img = s.img := rfl
@[simp] theorem State.pb_keep (s : State) (r : Reg) (i : Nat) (f : Fld) (b : Bool) : (s.pb r i f b).keep = s.keep := rfl
@[simp] theorem State.pb_tick (s : State) (r : Reg) (i : Nat) (f : Fld) (b : Bool) : (s.pb r i f b).tick = s.tick := rfl
@[simp] theorem State.pb_pins (s : State) (r : Reg) (i : Nat) (f : Fld) (b : Bool) : (s.pb r i f b).pins = s.pins := rfl
@[simp] theorem State.pb_port (s : State) (r : Reg) (i : Nat) (f : Fld) (b : Bool) : (s.pb r i f b).port = s.port := rfl
@[simp] theorem State.pb_stage (s : State) (r : Reg) (i : Nat) (f : Fld) (b : Bool) : (s.pb r i f b).stage = s.stage := rfl
@[simp] theorem State.pb_le (s : State) (r : Reg) (i : Nat) (f : Fld) (b : Bool) : (s.pb r i f b).le = s.le := rfl
@[simp] theorem State.pb_copyEcc (s : State) (r : Reg) (i : Nat) (f : Fld) (b : Bool) : (s.pb r i f b).copyEcc = s.copyEcc := rfl
@[simp] theorem State.pb_lc (s : State) (r : Reg) (i : Nat) (f : Fld) (b : Bool) : (s.pb r i f b).lc = s.lc := rfl
@[simp] theorem State.pb_rail (s : State) (r : Reg) (i : Nat) (f : Fld) (b : Bool) : (s.pb r i f b).rail = s.rail := rfl
@[simp] theorem State.pb_seq (s : State) (r : Reg) (i : Nat) (f : Fld) (b : Bool) : (s.pb r i f b).seq = s.seq := rfl
@[simp] theorem State.pb_adc (s : State) (r : Reg) (i : Nat) (f : Fld) (b : Bool) : (s.pb r i f b).adc = s.adc := rfl
@[simp] theorem State.pb_hint (s : State) (r : Reg) (i : Nat) (f : Fld) (b : Bool) : (s.pb r i f b).hint = s.hint := rfl
@[simp] theorem State.pb_ldg (s : State) (r : Reg) (i : Nat) (f : Fld) (b : Bool) : (s.pb r i f b).ldg = s.ldg := rfl
@[simp] theorem State.pb_cmp (s : State) (r : Reg) (i : Nat) (f : Fld) (b : Bool) : (s.pb r i f b).cmp = s.cmp := rfl
@[simp] theorem State.pb_core (s : State) (r : Reg) (i : Nat) (f : Fld) (b : Bool) : (s.pb r i f b).core = s.core := rfl
@[simp] theorem State.pb_l2 (s : State) (r : Reg) (i : Nat) (f : Fld) (b : Bool) : (s.pb r i f b).l2 = s.l2 := rfl
@[simp] theorem State.pb_poison (s : State) (r : Reg) (i : Nat) (f : Fld) (b : Bool) : (s.pb r i f b).poison = s.poison := rfl
@[simp] theorem State.pb_evd (s : State) (r : Reg) (i : Nat) (f : Fld) (b : Bool) : (s.pb r i f b).evd = s.evd := rfl
@[simp] theorem State.pb_mbx (s : State) (r : Reg) (i : Nat) (f : Fld) (b : Bool) : (s.pb r i f b).mbx = s.mbx := rfl
@[simp] theorem State.pb_dma (s : State) (r : Reg) (i : Nat) (f : Fld) (b : Bool) : (s.pb r i f b).dma = s.dma := rfl
@[simp] theorem State.pb_basin (s : State) (r : Reg) (i : Nat) (f : Fld) (b : Bool) : (s.pb r i f b).basin = s.basin := rfl
@[simp] theorem State.pb_stall (s : State) (r : Reg) (i : Nat) (f : Fld) (b : Bool) : (s.pb r i f b).stall = s.stall := rfl
@[simp] theorem State.pb_pwr (s : State) (r : Reg) (i : Nat) (f : Fld) (b : Bool) : (s.pb r i f b).pwr = s.pwr := rfl
@[simp] theorem State.pb_ext (s : State) (r : Reg) (i : Nat) (f : Fld) (b : Bool) : (s.pb r i f b).ext = s.ext := rfl
@[simp] theorem State.pb_sw (s : State) (r : Reg) (i : Nat) (f : Fld) (b : Bool) : (s.pb r i f b).sw = s.sw := rfl
@[simp] theorem State.pb_fans (s : State) (r : Reg) (i : Nat) (f : Fld) (b : Bool) : (s.pb r i f b).fans = s.fans := rfl
@[simp] theorem State.pb_trc (s : State) (r : Reg) (i : Nat) (f : Fld) (b : Bool) : (s.pb r i f b).trc = s.trc := rfl

@[simp] theorem State.inc_pending (s : State) (r : Reg) (i : Nat) (f : Fld) (k : Nat) : (s.inc r i f k).pending = s.pending := rfl
@[simp] theorem State.inc_free (s : State) (r : Reg) (i : Nat) (f : Fld) (k : Nat) : (s.inc r i f k).free = s.free := rfl
@[simp] theorem State.inc_mem (s : State) (r : Reg) (i : Nat) (f : Fld) (k : Nat) : (s.inc r i f k).mem = s.mem := rfl
@[simp] theorem State.inc_reply (s : State) (r : Reg) (i : Nat) (f : Fld) (k : Nat) : (s.inc r i f k).reply = s.reply := rfl
@[simp] theorem State.inc_unit (s : State) (r : Reg) (i : Nat) (f : Fld) (k : Nat) : (s.inc r i f k).unit = s.unit := rfl
@[simp] theorem State.inc_img (s : State) (r : Reg) (i : Nat) (f : Fld) (k : Nat) : (s.inc r i f k).img = s.img := rfl
@[simp] theorem State.inc_keep (s : State) (r : Reg) (i : Nat) (f : Fld) (k : Nat) : (s.inc r i f k).keep = s.keep := rfl
@[simp] theorem State.inc_tick (s : State) (r : Reg) (i : Nat) (f : Fld) (k : Nat) : (s.inc r i f k).tick = s.tick := rfl
@[simp] theorem State.inc_pins (s : State) (r : Reg) (i : Nat) (f : Fld) (k : Nat) : (s.inc r i f k).pins = s.pins := rfl
@[simp] theorem State.inc_port (s : State) (r : Reg) (i : Nat) (f : Fld) (k : Nat) : (s.inc r i f k).port = s.port := rfl
@[simp] theorem State.inc_stage (s : State) (r : Reg) (i : Nat) (f : Fld) (k : Nat) : (s.inc r i f k).stage = s.stage := rfl
@[simp] theorem State.inc_le (s : State) (r : Reg) (i : Nat) (f : Fld) (k : Nat) : (s.inc r i f k).le = s.le := rfl
@[simp] theorem State.inc_copyEcc (s : State) (r : Reg) (i : Nat) (f : Fld) (k : Nat) : (s.inc r i f k).copyEcc = s.copyEcc := rfl
@[simp] theorem State.inc_lc (s : State) (r : Reg) (i : Nat) (f : Fld) (k : Nat) : (s.inc r i f k).lc = s.lc := rfl
@[simp] theorem State.inc_rail (s : State) (r : Reg) (i : Nat) (f : Fld) (k : Nat) : (s.inc r i f k).rail = s.rail := rfl
@[simp] theorem State.inc_seq (s : State) (r : Reg) (i : Nat) (f : Fld) (k : Nat) : (s.inc r i f k).seq = s.seq := rfl
@[simp] theorem State.inc_adc (s : State) (r : Reg) (i : Nat) (f : Fld) (k : Nat) : (s.inc r i f k).adc = s.adc := rfl
@[simp] theorem State.inc_hint (s : State) (r : Reg) (i : Nat) (f : Fld) (k : Nat) : (s.inc r i f k).hint = s.hint := rfl
@[simp] theorem State.inc_ldg (s : State) (r : Reg) (i : Nat) (f : Fld) (k : Nat) : (s.inc r i f k).ldg = s.ldg := rfl
@[simp] theorem State.inc_cmp (s : State) (r : Reg) (i : Nat) (f : Fld) (k : Nat) : (s.inc r i f k).cmp = s.cmp := rfl
@[simp] theorem State.inc_core (s : State) (r : Reg) (i : Nat) (f : Fld) (k : Nat) : (s.inc r i f k).core = s.core := rfl
@[simp] theorem State.inc_l2 (s : State) (r : Reg) (i : Nat) (f : Fld) (k : Nat) : (s.inc r i f k).l2 = s.l2 := rfl
@[simp] theorem State.inc_poison (s : State) (r : Reg) (i : Nat) (f : Fld) (k : Nat) : (s.inc r i f k).poison = s.poison := rfl
@[simp] theorem State.inc_evd (s : State) (r : Reg) (i : Nat) (f : Fld) (k : Nat) : (s.inc r i f k).evd = s.evd := rfl
@[simp] theorem State.inc_mbx (s : State) (r : Reg) (i : Nat) (f : Fld) (k : Nat) : (s.inc r i f k).mbx = s.mbx := rfl
@[simp] theorem State.inc_dma (s : State) (r : Reg) (i : Nat) (f : Fld) (k : Nat) : (s.inc r i f k).dma = s.dma := rfl
@[simp] theorem State.inc_basin (s : State) (r : Reg) (i : Nat) (f : Fld) (k : Nat) : (s.inc r i f k).basin = s.basin := rfl
@[simp] theorem State.inc_stall (s : State) (r : Reg) (i : Nat) (f : Fld) (k : Nat) : (s.inc r i f k).stall = s.stall := rfl
@[simp] theorem State.inc_pwr (s : State) (r : Reg) (i : Nat) (f : Fld) (k : Nat) : (s.inc r i f k).pwr = s.pwr := rfl
@[simp] theorem State.inc_ext (s : State) (r : Reg) (i : Nat) (f : Fld) (k : Nat) : (s.inc r i f k).ext = s.ext := rfl
@[simp] theorem State.inc_sw (s : State) (r : Reg) (i : Nat) (f : Fld) (k : Nat) : (s.inc r i f k).sw = s.sw := rfl
@[simp] theorem State.inc_fans (s : State) (r : Reg) (i : Nat) (f : Fld) (k : Nat) : (s.inc r i f k).fans = s.fans := rfl
@[simp] theorem State.inc_trc (s : State) (r : Reg) (i : Nat) (f : Fld) (k : Nat) : (s.inc r i f k).trc = s.trc := rfl

@[simp] theorem State.setB_pending (s : State) (r : Reg) (i b : Nat) : (s.setB r i b).pending = s.pending := rfl
@[simp] theorem State.setB_free (s : State) (r : Reg) (i b : Nat) : (s.setB r i b).free = s.free := rfl
@[simp] theorem State.setB_mem (s : State) (r : Reg) (i b : Nat) : (s.setB r i b).mem = s.mem := rfl
@[simp] theorem State.setB_reply (s : State) (r : Reg) (i b : Nat) : (s.setB r i b).reply = s.reply := rfl
@[simp] theorem State.setB_unit (s : State) (r : Reg) (i b : Nat) : (s.setB r i b).unit = s.unit := rfl
@[simp] theorem State.setB_img (s : State) (r : Reg) (i b : Nat) : (s.setB r i b).img = s.img := rfl
@[simp] theorem State.setB_keep (s : State) (r : Reg) (i b : Nat) : (s.setB r i b).keep = s.keep := rfl
@[simp] theorem State.setB_tick (s : State) (r : Reg) (i b : Nat) : (s.setB r i b).tick = s.tick := rfl
@[simp] theorem State.setB_pins (s : State) (r : Reg) (i b : Nat) : (s.setB r i b).pins = s.pins := rfl
@[simp] theorem State.setB_port (s : State) (r : Reg) (i b : Nat) : (s.setB r i b).port = s.port := rfl
@[simp] theorem State.setB_stage (s : State) (r : Reg) (i b : Nat) : (s.setB r i b).stage = s.stage := rfl
@[simp] theorem State.setB_le (s : State) (r : Reg) (i b : Nat) : (s.setB r i b).le = s.le := rfl
@[simp] theorem State.setB_copyEcc (s : State) (r : Reg) (i b : Nat) : (s.setB r i b).copyEcc = s.copyEcc := rfl
@[simp] theorem State.setB_lc (s : State) (r : Reg) (i b : Nat) : (s.setB r i b).lc = s.lc := rfl
@[simp] theorem State.setB_rail (s : State) (r : Reg) (i b : Nat) : (s.setB r i b).rail = s.rail := rfl
@[simp] theorem State.setB_seq (s : State) (r : Reg) (i b : Nat) : (s.setB r i b).seq = s.seq := rfl
@[simp] theorem State.setB_adc (s : State) (r : Reg) (i b : Nat) : (s.setB r i b).adc = s.adc := rfl
@[simp] theorem State.setB_hint (s : State) (r : Reg) (i b : Nat) : (s.setB r i b).hint = s.hint := rfl
@[simp] theorem State.setB_ldg (s : State) (r : Reg) (i b : Nat) : (s.setB r i b).ldg = s.ldg := rfl
@[simp] theorem State.setB_cmp (s : State) (r : Reg) (i b : Nat) : (s.setB r i b).cmp = s.cmp := rfl
@[simp] theorem State.setB_core (s : State) (r : Reg) (i b : Nat) : (s.setB r i b).core = s.core := rfl
@[simp] theorem State.setB_l2 (s : State) (r : Reg) (i b : Nat) : (s.setB r i b).l2 = s.l2 := rfl
@[simp] theorem State.setB_poison (s : State) (r : Reg) (i b : Nat) : (s.setB r i b).poison = s.poison := rfl
@[simp] theorem State.setB_evd (s : State) (r : Reg) (i b : Nat) : (s.setB r i b).evd = s.evd := rfl
@[simp] theorem State.setB_mbx (s : State) (r : Reg) (i b : Nat) : (s.setB r i b).mbx = s.mbx := rfl
@[simp] theorem State.setB_dma (s : State) (r : Reg) (i b : Nat) : (s.setB r i b).dma = s.dma := rfl
@[simp] theorem State.setB_basin (s : State) (r : Reg) (i b : Nat) : (s.setB r i b).basin = s.basin := rfl
@[simp] theorem State.setB_stall (s : State) (r : Reg) (i b : Nat) : (s.setB r i b).stall = s.stall := rfl
@[simp] theorem State.setB_pwr (s : State) (r : Reg) (i b : Nat) : (s.setB r i b).pwr = s.pwr := rfl
@[simp] theorem State.setB_ext (s : State) (r : Reg) (i b : Nat) : (s.setB r i b).ext = s.ext := rfl
@[simp] theorem State.setB_sw (s : State) (r : Reg) (i b : Nat) : (s.setB r i b).sw = s.sw := rfl
@[simp] theorem State.setB_fans (s : State) (r : Reg) (i b : Nat) : (s.setB r i b).fans = s.fans := rfl
@[simp] theorem State.setB_trc (s : State) (r : Reg) (i b : Nat) : (s.setB r i b).trc = s.trc := rfl

@[simp] theorem State.clrB_pending (s : State) (r : Reg) (i b : Nat) : (s.clrB r i b).pending = s.pending := rfl
@[simp] theorem State.clrB_free (s : State) (r : Reg) (i b : Nat) : (s.clrB r i b).free = s.free := rfl
@[simp] theorem State.clrB_mem (s : State) (r : Reg) (i b : Nat) : (s.clrB r i b).mem = s.mem := rfl
@[simp] theorem State.clrB_reply (s : State) (r : Reg) (i b : Nat) : (s.clrB r i b).reply = s.reply := rfl
@[simp] theorem State.clrB_unit (s : State) (r : Reg) (i b : Nat) : (s.clrB r i b).unit = s.unit := rfl
@[simp] theorem State.clrB_img (s : State) (r : Reg) (i b : Nat) : (s.clrB r i b).img = s.img := rfl
@[simp] theorem State.clrB_keep (s : State) (r : Reg) (i b : Nat) : (s.clrB r i b).keep = s.keep := rfl
@[simp] theorem State.clrB_tick (s : State) (r : Reg) (i b : Nat) : (s.clrB r i b).tick = s.tick := rfl
@[simp] theorem State.clrB_pins (s : State) (r : Reg) (i b : Nat) : (s.clrB r i b).pins = s.pins := rfl
@[simp] theorem State.clrB_port (s : State) (r : Reg) (i b : Nat) : (s.clrB r i b).port = s.port := rfl
@[simp] theorem State.clrB_stage (s : State) (r : Reg) (i b : Nat) : (s.clrB r i b).stage = s.stage := rfl
@[simp] theorem State.clrB_le (s : State) (r : Reg) (i b : Nat) : (s.clrB r i b).le = s.le := rfl
@[simp] theorem State.clrB_copyEcc (s : State) (r : Reg) (i b : Nat) : (s.clrB r i b).copyEcc = s.copyEcc := rfl
@[simp] theorem State.clrB_lc (s : State) (r : Reg) (i b : Nat) : (s.clrB r i b).lc = s.lc := rfl
@[simp] theorem State.clrB_rail (s : State) (r : Reg) (i b : Nat) : (s.clrB r i b).rail = s.rail := rfl
@[simp] theorem State.clrB_seq (s : State) (r : Reg) (i b : Nat) : (s.clrB r i b).seq = s.seq := rfl
@[simp] theorem State.clrB_adc (s : State) (r : Reg) (i b : Nat) : (s.clrB r i b).adc = s.adc := rfl
@[simp] theorem State.clrB_hint (s : State) (r : Reg) (i b : Nat) : (s.clrB r i b).hint = s.hint := rfl
@[simp] theorem State.clrB_ldg (s : State) (r : Reg) (i b : Nat) : (s.clrB r i b).ldg = s.ldg := rfl
@[simp] theorem State.clrB_cmp (s : State) (r : Reg) (i b : Nat) : (s.clrB r i b).cmp = s.cmp := rfl
@[simp] theorem State.clrB_core (s : State) (r : Reg) (i b : Nat) : (s.clrB r i b).core = s.core := rfl
@[simp] theorem State.clrB_l2 (s : State) (r : Reg) (i b : Nat) : (s.clrB r i b).l2 = s.l2 := rfl
@[simp] theorem State.clrB_poison (s : State) (r : Reg) (i b : Nat) : (s.clrB r i b).poison = s.poison := rfl
@[simp] theorem State.clrB_evd (s : State) (r : Reg) (i b : Nat) : (s.clrB r i b).evd = s.evd := rfl
@[simp] theorem State.clrB_mbx (s : State) (r : Reg) (i b : Nat) : (s.clrB r i b).mbx = s.mbx := rfl
@[simp] theorem State.clrB_dma (s : State) (r : Reg) (i b : Nat) : (s.clrB r i b).dma = s.dma := rfl
@[simp] theorem State.clrB_basin (s : State) (r : Reg) (i b : Nat) : (s.clrB r i b).basin = s.basin := rfl
@[simp] theorem State.clrB_stall (s : State) (r : Reg) (i b : Nat) : (s.clrB r i b).stall = s.stall := rfl
@[simp] theorem State.clrB_pwr (s : State) (r : Reg) (i b : Nat) : (s.clrB r i b).pwr = s.pwr := rfl
@[simp] theorem State.clrB_ext (s : State) (r : Reg) (i b : Nat) : (s.clrB r i b).ext = s.ext := rfl
@[simp] theorem State.clrB_sw (s : State) (r : Reg) (i b : Nat) : (s.clrB r i b).sw = s.sw := rfl
@[simp] theorem State.clrB_fans (s : State) (r : Reg) (i b : Nat) : (s.clrB r i b).fans = s.fans := rfl
@[simp] theorem State.clrB_trc (s : State) (r : Reg) (i b : Nat) : (s.clrB r i b).trc = s.trc := rfl

@[simp] theorem State.plainWrite_pending (s : State) (r : Reg) (i : Nat) (v : W32) : (s.plainWrite r i v).pending = s.pending := rfl
@[simp] theorem State.plainWrite_free (s : State) (r : Reg) (i : Nat) (v : W32) : (s.plainWrite r i v).free = s.free := rfl
@[simp] theorem State.plainWrite_mem (s : State) (r : Reg) (i : Nat) (v : W32) : (s.plainWrite r i v).mem = s.mem := rfl
@[simp] theorem State.plainWrite_reply (s : State) (r : Reg) (i : Nat) (v : W32) : (s.plainWrite r i v).reply = s.reply := rfl
@[simp] theorem State.plainWrite_unit (s : State) (r : Reg) (i : Nat) (v : W32) : (s.plainWrite r i v).unit = s.unit := rfl
@[simp] theorem State.plainWrite_img (s : State) (r : Reg) (i : Nat) (v : W32) : (s.plainWrite r i v).img = s.img := rfl
@[simp] theorem State.plainWrite_keep (s : State) (r : Reg) (i : Nat) (v : W32) : (s.plainWrite r i v).keep = s.keep := rfl
@[simp] theorem State.plainWrite_tick (s : State) (r : Reg) (i : Nat) (v : W32) : (s.plainWrite r i v).tick = s.tick := rfl
@[simp] theorem State.plainWrite_pins (s : State) (r : Reg) (i : Nat) (v : W32) : (s.plainWrite r i v).pins = s.pins := rfl
@[simp] theorem State.plainWrite_port (s : State) (r : Reg) (i : Nat) (v : W32) : (s.plainWrite r i v).port = s.port := rfl
@[simp] theorem State.plainWrite_stage (s : State) (r : Reg) (i : Nat) (v : W32) : (s.plainWrite r i v).stage = s.stage := rfl
@[simp] theorem State.plainWrite_le (s : State) (r : Reg) (i : Nat) (v : W32) : (s.plainWrite r i v).le = s.le := rfl
@[simp] theorem State.plainWrite_copyEcc (s : State) (r : Reg) (i : Nat) (v : W32) : (s.plainWrite r i v).copyEcc = s.copyEcc := rfl
@[simp] theorem State.plainWrite_lc (s : State) (r : Reg) (i : Nat) (v : W32) : (s.plainWrite r i v).lc = s.lc := rfl
@[simp] theorem State.plainWrite_rail (s : State) (r : Reg) (i : Nat) (v : W32) : (s.plainWrite r i v).rail = s.rail := rfl
@[simp] theorem State.plainWrite_seq (s : State) (r : Reg) (i : Nat) (v : W32) : (s.plainWrite r i v).seq = s.seq := rfl
@[simp] theorem State.plainWrite_adc (s : State) (r : Reg) (i : Nat) (v : W32) : (s.plainWrite r i v).adc = s.adc := rfl
@[simp] theorem State.plainWrite_hint (s : State) (r : Reg) (i : Nat) (v : W32) : (s.plainWrite r i v).hint = s.hint := rfl
@[simp] theorem State.plainWrite_ldg (s : State) (r : Reg) (i : Nat) (v : W32) : (s.plainWrite r i v).ldg = s.ldg := rfl
@[simp] theorem State.plainWrite_cmp (s : State) (r : Reg) (i : Nat) (v : W32) : (s.plainWrite r i v).cmp = s.cmp := rfl
@[simp] theorem State.plainWrite_core (s : State) (r : Reg) (i : Nat) (v : W32) : (s.plainWrite r i v).core = s.core := rfl
@[simp] theorem State.plainWrite_l2 (s : State) (r : Reg) (i : Nat) (v : W32) : (s.plainWrite r i v).l2 = s.l2 := rfl
@[simp] theorem State.plainWrite_poison (s : State) (r : Reg) (i : Nat) (v : W32) : (s.plainWrite r i v).poison = s.poison := rfl
@[simp] theorem State.plainWrite_evd (s : State) (r : Reg) (i : Nat) (v : W32) : (s.plainWrite r i v).evd = s.evd := rfl
@[simp] theorem State.plainWrite_mbx (s : State) (r : Reg) (i : Nat) (v : W32) : (s.plainWrite r i v).mbx = s.mbx := rfl
@[simp] theorem State.plainWrite_dma (s : State) (r : Reg) (i : Nat) (v : W32) : (s.plainWrite r i v).dma = s.dma := rfl
@[simp] theorem State.plainWrite_basin (s : State) (r : Reg) (i : Nat) (v : W32) : (s.plainWrite r i v).basin = s.basin := rfl
@[simp] theorem State.plainWrite_stall (s : State) (r : Reg) (i : Nat) (v : W32) : (s.plainWrite r i v).stall = s.stall := rfl
@[simp] theorem State.plainWrite_pwr (s : State) (r : Reg) (i : Nat) (v : W32) : (s.plainWrite r i v).pwr = s.pwr := rfl
@[simp] theorem State.plainWrite_ext (s : State) (r : Reg) (i : Nat) (v : W32) : (s.plainWrite r i v).ext = s.ext := rfl
@[simp] theorem State.plainWrite_sw (s : State) (r : Reg) (i : Nat) (v : W32) : (s.plainWrite r i v).sw = s.sw := rfl
@[simp] theorem State.plainWrite_fans (s : State) (r : Reg) (i : Nat) (v : W32) : (s.plainWrite r i v).fans = s.fans := rfl
@[simp] theorem State.plainWrite_trc (s : State) (r : Reg) (i : Nat) (v : W32) : (s.plainWrite r i v).trc = s.trc := rfl

@[simp] theorem State.clearRegs_pending (s : State) (rs : List Reg) : (s.clearRegs rs).pending = s.pending := rfl
@[simp] theorem State.clearRegs_free (s : State) (rs : List Reg) : (s.clearRegs rs).free = s.free := rfl
@[simp] theorem State.clearRegs_mem (s : State) (rs : List Reg) : (s.clearRegs rs).mem = s.mem := rfl
@[simp] theorem State.clearRegs_reply (s : State) (rs : List Reg) : (s.clearRegs rs).reply = s.reply := rfl
@[simp] theorem State.clearRegs_unit (s : State) (rs : List Reg) : (s.clearRegs rs).unit = s.unit := rfl
@[simp] theorem State.clearRegs_img (s : State) (rs : List Reg) : (s.clearRegs rs).img = s.img := rfl
@[simp] theorem State.clearRegs_keep (s : State) (rs : List Reg) : (s.clearRegs rs).keep = s.keep := rfl
@[simp] theorem State.clearRegs_tick (s : State) (rs : List Reg) : (s.clearRegs rs).tick = s.tick := rfl
@[simp] theorem State.clearRegs_pins (s : State) (rs : List Reg) : (s.clearRegs rs).pins = s.pins := rfl
@[simp] theorem State.clearRegs_port (s : State) (rs : List Reg) : (s.clearRegs rs).port = s.port := rfl
@[simp] theorem State.clearRegs_stage (s : State) (rs : List Reg) : (s.clearRegs rs).stage = s.stage := rfl
@[simp] theorem State.clearRegs_le (s : State) (rs : List Reg) : (s.clearRegs rs).le = s.le := rfl
@[simp] theorem State.clearRegs_copyEcc (s : State) (rs : List Reg) : (s.clearRegs rs).copyEcc = s.copyEcc := rfl
@[simp] theorem State.clearRegs_lc (s : State) (rs : List Reg) : (s.clearRegs rs).lc = s.lc := rfl
@[simp] theorem State.clearRegs_rail (s : State) (rs : List Reg) : (s.clearRegs rs).rail = s.rail := rfl
@[simp] theorem State.clearRegs_seq (s : State) (rs : List Reg) : (s.clearRegs rs).seq = s.seq := rfl
@[simp] theorem State.clearRegs_adc (s : State) (rs : List Reg) : (s.clearRegs rs).adc = s.adc := rfl
@[simp] theorem State.clearRegs_hint (s : State) (rs : List Reg) : (s.clearRegs rs).hint = s.hint := rfl
@[simp] theorem State.clearRegs_ldg (s : State) (rs : List Reg) : (s.clearRegs rs).ldg = s.ldg := rfl
@[simp] theorem State.clearRegs_cmp (s : State) (rs : List Reg) : (s.clearRegs rs).cmp = s.cmp := rfl
@[simp] theorem State.clearRegs_core (s : State) (rs : List Reg) : (s.clearRegs rs).core = s.core := rfl
@[simp] theorem State.clearRegs_l2 (s : State) (rs : List Reg) : (s.clearRegs rs).l2 = s.l2 := rfl
@[simp] theorem State.clearRegs_poison (s : State) (rs : List Reg) : (s.clearRegs rs).poison = s.poison := rfl
@[simp] theorem State.clearRegs_evd (s : State) (rs : List Reg) : (s.clearRegs rs).evd = s.evd := rfl
@[simp] theorem State.clearRegs_mbx (s : State) (rs : List Reg) : (s.clearRegs rs).mbx = s.mbx := rfl
@[simp] theorem State.clearRegs_dma (s : State) (rs : List Reg) : (s.clearRegs rs).dma = s.dma := rfl
@[simp] theorem State.clearRegs_basin (s : State) (rs : List Reg) : (s.clearRegs rs).basin = s.basin := rfl
@[simp] theorem State.clearRegs_stall (s : State) (rs : List Reg) : (s.clearRegs rs).stall = s.stall := rfl
@[simp] theorem State.clearRegs_pwr (s : State) (rs : List Reg) : (s.clearRegs rs).pwr = s.pwr := rfl
@[simp] theorem State.clearRegs_ext (s : State) (rs : List Reg) : (s.clearRegs rs).ext = s.ext := rfl
@[simp] theorem State.clearRegs_sw (s : State) (rs : List Reg) : (s.clearRegs rs).sw = s.sw := rfl
@[simp] theorem State.clearRegs_fans (s : State) (rs : List Reg) : (s.clearRegs rs).fans = s.fans := rfl
@[simp] theorem State.clearRegs_trc (s : State) (rs : List Reg) : (s.clearRegs rs).trc = s.trc := rfl

@[simp] theorem State.tick1_pending (s : State) : (s.tick1).pending = s.pending := rfl
@[simp] theorem State.tick1_regs (s : State) : (s.tick1).regs = s.regs := rfl
@[simp] theorem State.tick1_mem (s : State) : (s.tick1).mem = s.mem := rfl
@[simp] theorem State.tick1_reply (s : State) : (s.tick1).reply = s.reply := rfl
@[simp] theorem State.tick1_unit (s : State) : (s.tick1).unit = s.unit := rfl
@[simp] theorem State.tick1_img (s : State) : (s.tick1).img = s.img := rfl
@[simp] theorem State.tick1_keep (s : State) : (s.tick1).keep = s.keep := rfl
@[simp] theorem State.tick1_tick (s : State) : (s.tick1).tick = s.tick := rfl
@[simp] theorem State.tick1_pins (s : State) : (s.tick1).pins = s.pins := rfl
@[simp] theorem State.tick1_port (s : State) : (s.tick1).port = s.port := rfl
@[simp] theorem State.tick1_stage (s : State) : (s.tick1).stage = s.stage := rfl
@[simp] theorem State.tick1_le (s : State) : (s.tick1).le = s.le := rfl
@[simp] theorem State.tick1_copyEcc (s : State) : (s.tick1).copyEcc = s.copyEcc := rfl
@[simp] theorem State.tick1_lc (s : State) : (s.tick1).lc = s.lc := rfl
@[simp] theorem State.tick1_rail (s : State) : (s.tick1).rail = s.rail := rfl
@[simp] theorem State.tick1_seq (s : State) : (s.tick1).seq = s.seq := rfl
@[simp] theorem State.tick1_adc (s : State) : (s.tick1).adc = s.adc := rfl
@[simp] theorem State.tick1_hint (s : State) : (s.tick1).hint = s.hint := rfl
@[simp] theorem State.tick1_ldg (s : State) : (s.tick1).ldg = s.ldg := rfl
@[simp] theorem State.tick1_cmp (s : State) : (s.tick1).cmp = s.cmp := rfl
@[simp] theorem State.tick1_core (s : State) : (s.tick1).core = s.core := rfl
@[simp] theorem State.tick1_l2 (s : State) : (s.tick1).l2 = s.l2 := rfl
@[simp] theorem State.tick1_poison (s : State) : (s.tick1).poison = s.poison := rfl
@[simp] theorem State.tick1_evd (s : State) : (s.tick1).evd = s.evd := rfl
@[simp] theorem State.tick1_mbx (s : State) : (s.tick1).mbx = s.mbx := rfl
@[simp] theorem State.tick1_dma (s : State) : (s.tick1).dma = s.dma := rfl
@[simp] theorem State.tick1_basin (s : State) : (s.tick1).basin = s.basin := rfl
@[simp] theorem State.tick1_stall (s : State) : (s.tick1).stall = s.stall := rfl
@[simp] theorem State.tick1_pwr (s : State) : (s.tick1).pwr = s.pwr := rfl
@[simp] theorem State.tick1_ext (s : State) : (s.tick1).ext = s.ext := rfl
@[simp] theorem State.tick1_sw (s : State) : (s.tick1).sw = s.sw := rfl
@[simp] theorem State.tick1_fans (s : State) : (s.tick1).fans = s.fans := rfl
@[simp] theorem State.tick1_trc (s : State) : (s.tick1).trc = s.trc := rfl
@[simp] theorem State.tick1_rd (s : State) (r' : Reg) (i' : Nat) : (s.tick1).rd r' i' = s.rd r' i' := rfl

@[simp] theorem State.mput_pending (s : State) (a : Nat) (b : Bytes) : (s.mput a b).pending = s.pending := rfl
@[simp] theorem State.mput_free (s : State) (a : Nat) (b : Bytes) : (s.mput a b).free = s.free := rfl
@[simp] theorem State.mput_regs (s : State) (a : Nat) (b : Bytes) : (s.mput a b).regs = s.regs := rfl
@[simp] theorem State.mput_reply (s : State) (a : Nat) (b : Bytes) : (s.mput a b).reply = s.reply := rfl
@[simp] theorem State.mput_unit (s : State) (a : Nat) (b : Bytes) : (s.mput a b).unit = s.unit := rfl
@[simp] theorem State.mput_img (s : State) (a : Nat) (b : Bytes) : (s.mput a b).img = s.img := rfl
@[simp] theorem State.mput_keep (s : State) (a : Nat) (b : Bytes) : (s.mput a b).keep = s.keep := rfl
@[simp] theorem State.mput_tick (s : State) (a : Nat) (b : Bytes) : (s.mput a b).tick = s.tick := rfl
@[simp] theorem State.mput_pins (s : State) (a : Nat) (b : Bytes) : (s.mput a b).pins = s.pins := rfl
@[simp] theorem State.mput_port (s : State) (a : Nat) (b : Bytes) : (s.mput a b).port = s.port := rfl
@[simp] theorem State.mput_stage (s : State) (a : Nat) (b : Bytes) : (s.mput a b).stage = s.stage := rfl
@[simp] theorem State.mput_le (s : State) (a : Nat) (b : Bytes) : (s.mput a b).le = s.le := rfl
@[simp] theorem State.mput_copyEcc (s : State) (a : Nat) (b : Bytes) : (s.mput a b).copyEcc = s.copyEcc := rfl
@[simp] theorem State.mput_lc (s : State) (a : Nat) (b : Bytes) : (s.mput a b).lc = s.lc := rfl
@[simp] theorem State.mput_rail (s : State) (a : Nat) (b : Bytes) : (s.mput a b).rail = s.rail := rfl
@[simp] theorem State.mput_seq (s : State) (a : Nat) (b : Bytes) : (s.mput a b).seq = s.seq := rfl
@[simp] theorem State.mput_adc (s : State) (a : Nat) (b : Bytes) : (s.mput a b).adc = s.adc := rfl
@[simp] theorem State.mput_hint (s : State) (a : Nat) (b : Bytes) : (s.mput a b).hint = s.hint := rfl
@[simp] theorem State.mput_ldg (s : State) (a : Nat) (b : Bytes) : (s.mput a b).ldg = s.ldg := rfl
@[simp] theorem State.mput_cmp (s : State) (a : Nat) (b : Bytes) : (s.mput a b).cmp = s.cmp := rfl
@[simp] theorem State.mput_core (s : State) (a : Nat) (b : Bytes) : (s.mput a b).core = s.core := rfl
@[simp] theorem State.mput_l2 (s : State) (a : Nat) (b : Bytes) : (s.mput a b).l2 = s.l2 := rfl
@[simp] theorem State.mput_poison (s : State) (a : Nat) (b : Bytes) : (s.mput a b).poison = s.poison := rfl
@[simp] theorem State.mput_evd (s : State) (a : Nat) (b : Bytes) : (s.mput a b).evd = s.evd := rfl
@[simp] theorem State.mput_mbx (s : State) (a : Nat) (b : Bytes) : (s.mput a b).mbx = s.mbx := rfl
@[simp] theorem State.mput_dma (s : State) (a : Nat) (b : Bytes) : (s.mput a b).dma = s.dma := rfl
@[simp] theorem State.mput_basin (s : State) (a : Nat) (b : Bytes) : (s.mput a b).basin = s.basin := rfl
@[simp] theorem State.mput_stall (s : State) (a : Nat) (b : Bytes) : (s.mput a b).stall = s.stall := rfl
@[simp] theorem State.mput_pwr (s : State) (a : Nat) (b : Bytes) : (s.mput a b).pwr = s.pwr := rfl
@[simp] theorem State.mput_ext (s : State) (a : Nat) (b : Bytes) : (s.mput a b).ext = s.ext := rfl
@[simp] theorem State.mput_sw (s : State) (a : Nat) (b : Bytes) : (s.mput a b).sw = s.sw := rfl
@[simp] theorem State.mput_fans (s : State) (a : Nat) (b : Bytes) : (s.mput a b).fans = s.fans := rfl
@[simp] theorem State.mput_trc (s : State) (a : Nat) (b : Bytes) : (s.mput a b).trc = s.trc := rfl
@[simp] theorem State.mput_rd (s : State) (a : Nat) (b : Bytes) (r' : Reg) (i' : Nat) : (s.mput a b).rd r' i' = s.rd r' i' := rfl

@[simp] theorem State.setUnit_pending (s : State) (kind idx : Nat) (u : UnitSt) : (s.setUnit kind idx u).pending = s.pending := rfl
@[simp] theorem State.setUnit_free (s : State) (kind idx : Nat) (u : UnitSt) : (s.setUnit kind idx u).free = s.free := rfl
@[simp] theorem State.setUnit_regs (s : State) (kind idx : Nat) (u : UnitSt) : (s.setUnit kind idx u).regs = s.regs := rfl
@[simp] theorem State.setUnit_mem (s : State) (kind idx : Nat) (u : UnitSt) : (s.setUnit kind idx u).mem = s.mem := rfl
@[simp] theorem State.setUnit_reply (s : State) (kind idx : Nat) (u : UnitSt) : (s.setUnit kind idx u).reply = s.reply := rfl
@[simp] theorem State.setUnit_img (s : State) (kind idx : Nat) (u : UnitSt) : (s.setUnit kind idx u).img = s.img := rfl
@[simp] theorem State.setUnit_keep (s : State) (kind idx : Nat) (u : UnitSt) : (s.setUnit kind idx u).keep = s.keep := rfl
@[simp] theorem State.setUnit_tick (s : State) (kind idx : Nat) (u : UnitSt) : (s.setUnit kind idx u).tick = s.tick := rfl
@[simp] theorem State.setUnit_pins (s : State) (kind idx : Nat) (u : UnitSt) : (s.setUnit kind idx u).pins = s.pins := rfl
@[simp] theorem State.setUnit_port (s : State) (kind idx : Nat) (u : UnitSt) : (s.setUnit kind idx u).port = s.port := rfl
@[simp] theorem State.setUnit_stage (s : State) (kind idx : Nat) (u : UnitSt) : (s.setUnit kind idx u).stage = s.stage := rfl
@[simp] theorem State.setUnit_le (s : State) (kind idx : Nat) (u : UnitSt) : (s.setUnit kind idx u).le = s.le := rfl
@[simp] theorem State.setUnit_copyEcc (s : State) (kind idx : Nat) (u : UnitSt) : (s.setUnit kind idx u).copyEcc = s.copyEcc := rfl
@[simp] theorem State.setUnit_lc (s : State) (kind idx : Nat) (u : UnitSt) : (s.setUnit kind idx u).lc = s.lc := rfl
@[simp] theorem State.setUnit_rail (s : State) (kind idx : Nat) (u : UnitSt) : (s.setUnit kind idx u).rail = s.rail := rfl
@[simp] theorem State.setUnit_seq (s : State) (kind idx : Nat) (u : UnitSt) : (s.setUnit kind idx u).seq = s.seq := rfl
@[simp] theorem State.setUnit_adc (s : State) (kind idx : Nat) (u : UnitSt) : (s.setUnit kind idx u).adc = s.adc := rfl
@[simp] theorem State.setUnit_hint (s : State) (kind idx : Nat) (u : UnitSt) : (s.setUnit kind idx u).hint = s.hint := rfl
@[simp] theorem State.setUnit_ldg (s : State) (kind idx : Nat) (u : UnitSt) : (s.setUnit kind idx u).ldg = s.ldg := rfl
@[simp] theorem State.setUnit_cmp (s : State) (kind idx : Nat) (u : UnitSt) : (s.setUnit kind idx u).cmp = s.cmp := rfl
@[simp] theorem State.setUnit_core (s : State) (kind idx : Nat) (u : UnitSt) : (s.setUnit kind idx u).core = s.core := rfl
@[simp] theorem State.setUnit_l2 (s : State) (kind idx : Nat) (u : UnitSt) : (s.setUnit kind idx u).l2 = s.l2 := rfl
@[simp] theorem State.setUnit_poison (s : State) (kind idx : Nat) (u : UnitSt) : (s.setUnit kind idx u).poison = s.poison := rfl
@[simp] theorem State.setUnit_evd (s : State) (kind idx : Nat) (u : UnitSt) : (s.setUnit kind idx u).evd = s.evd := rfl
@[simp] theorem State.setUnit_mbx (s : State) (kind idx : Nat) (u : UnitSt) : (s.setUnit kind idx u).mbx = s.mbx := rfl
@[simp] theorem State.setUnit_dma (s : State) (kind idx : Nat) (u : UnitSt) : (s.setUnit kind idx u).dma = s.dma := rfl
@[simp] theorem State.setUnit_basin (s : State) (kind idx : Nat) (u : UnitSt) : (s.setUnit kind idx u).basin = s.basin := rfl
@[simp] theorem State.setUnit_stall (s : State) (kind idx : Nat) (u : UnitSt) : (s.setUnit kind idx u).stall = s.stall := rfl
@[simp] theorem State.setUnit_pwr (s : State) (kind idx : Nat) (u : UnitSt) : (s.setUnit kind idx u).pwr = s.pwr := rfl
@[simp] theorem State.setUnit_ext (s : State) (kind idx : Nat) (u : UnitSt) : (s.setUnit kind idx u).ext = s.ext := rfl
@[simp] theorem State.setUnit_sw (s : State) (kind idx : Nat) (u : UnitSt) : (s.setUnit kind idx u).sw = s.sw := rfl
@[simp] theorem State.setUnit_fans (s : State) (kind idx : Nat) (u : UnitSt) : (s.setUnit kind idx u).fans = s.fans := rfl
@[simp] theorem State.setUnit_trc (s : State) (kind idx : Nat) (u : UnitSt) : (s.setUnit kind idx u).trc = s.trc := rfl
@[simp] theorem State.setUnit_rd (s : State) (kind idx : Nat) (u : UnitSt) (r' : Reg) (i' : Nat) : (s.setUnit kind idx u).rd r' i' = s.rd r' i' := rfl

@[simp] theorem State.setPrt_pending (s : State) (n : Nat) (p : Port) : (s.setPrt n p).pending = s.pending := rfl
@[simp] theorem State.setPrt_free (s : State) (n : Nat) (p : Port) : (s.setPrt n p).free = s.free := rfl
@[simp] theorem State.setPrt_regs (s : State) (n : Nat) (p : Port) : (s.setPrt n p).regs = s.regs := rfl
@[simp] theorem State.setPrt_mem (s : State) (n : Nat) (p : Port) : (s.setPrt n p).mem = s.mem := rfl
@[simp] theorem State.setPrt_reply (s : State) (n : Nat) (p : Port) : (s.setPrt n p).reply = s.reply := rfl
@[simp] theorem State.setPrt_unit (s : State) (n : Nat) (p : Port) : (s.setPrt n p).unit = s.unit := rfl
@[simp] theorem State.setPrt_img (s : State) (n : Nat) (p : Port) : (s.setPrt n p).img = s.img := rfl
@[simp] theorem State.setPrt_keep (s : State) (n : Nat) (p : Port) : (s.setPrt n p).keep = s.keep := rfl
@[simp] theorem State.setPrt_tick (s : State) (n : Nat) (p : Port) : (s.setPrt n p).tick = s.tick := rfl
@[simp] theorem State.setPrt_pins (s : State) (n : Nat) (p : Port) : (s.setPrt n p).pins = s.pins := rfl
@[simp] theorem State.setPrt_stage (s : State) (n : Nat) (p : Port) : (s.setPrt n p).stage = s.stage := rfl
@[simp] theorem State.setPrt_le (s : State) (n : Nat) (p : Port) : (s.setPrt n p).le = s.le := rfl
@[simp] theorem State.setPrt_copyEcc (s : State) (n : Nat) (p : Port) : (s.setPrt n p).copyEcc = s.copyEcc := rfl
@[simp] theorem State.setPrt_lc (s : State) (n : Nat) (p : Port) : (s.setPrt n p).lc = s.lc := rfl
@[simp] theorem State.setPrt_rail (s : State) (n : Nat) (p : Port) : (s.setPrt n p).rail = s.rail := rfl
@[simp] theorem State.setPrt_seq (s : State) (n : Nat) (p : Port) : (s.setPrt n p).seq = s.seq := rfl
@[simp] theorem State.setPrt_adc (s : State) (n : Nat) (p : Port) : (s.setPrt n p).adc = s.adc := rfl
@[simp] theorem State.setPrt_hint (s : State) (n : Nat) (p : Port) : (s.setPrt n p).hint = s.hint := rfl
@[simp] theorem State.setPrt_ldg (s : State) (n : Nat) (p : Port) : (s.setPrt n p).ldg = s.ldg := rfl
@[simp] theorem State.setPrt_cmp (s : State) (n : Nat) (p : Port) : (s.setPrt n p).cmp = s.cmp := rfl
@[simp] theorem State.setPrt_core (s : State) (n : Nat) (p : Port) : (s.setPrt n p).core = s.core := rfl
@[simp] theorem State.setPrt_l2 (s : State) (n : Nat) (p : Port) : (s.setPrt n p).l2 = s.l2 := rfl
@[simp] theorem State.setPrt_poison (s : State) (n : Nat) (p : Port) : (s.setPrt n p).poison = s.poison := rfl
@[simp] theorem State.setPrt_evd (s : State) (n : Nat) (p : Port) : (s.setPrt n p).evd = s.evd := rfl
@[simp] theorem State.setPrt_mbx (s : State) (n : Nat) (p : Port) : (s.setPrt n p).mbx = s.mbx := rfl
@[simp] theorem State.setPrt_dma (s : State) (n : Nat) (p : Port) : (s.setPrt n p).dma = s.dma := rfl
@[simp] theorem State.setPrt_basin (s : State) (n : Nat) (p : Port) : (s.setPrt n p).basin = s.basin := rfl
@[simp] theorem State.setPrt_stall (s : State) (n : Nat) (p : Port) : (s.setPrt n p).stall = s.stall := rfl
@[simp] theorem State.setPrt_pwr (s : State) (n : Nat) (p : Port) : (s.setPrt n p).pwr = s.pwr := rfl
@[simp] theorem State.setPrt_ext (s : State) (n : Nat) (p : Port) : (s.setPrt n p).ext = s.ext := rfl
@[simp] theorem State.setPrt_sw (s : State) (n : Nat) (p : Port) : (s.setPrt n p).sw = s.sw := rfl
@[simp] theorem State.setPrt_fans (s : State) (n : Nat) (p : Port) : (s.setPrt n p).fans = s.fans := rfl
@[simp] theorem State.setPrt_trc (s : State) (n : Nat) (p : Port) : (s.setPrt n p).trc = s.trc := rfl
@[simp] theorem State.setPrt_rd (s : State) (n : Nat) (p : Port) (r' : Reg) (i' : Nat) : (s.setPrt n p).rd r' i' = s.rd r' i' := rfl

@[simp] theorem State.setStg_pending (s : State) (p : Nat) (x : Stage) : (s.setStg p x).pending = s.pending := rfl
@[simp] theorem State.setStg_free (s : State) (p : Nat) (x : Stage) : (s.setStg p x).free = s.free := rfl
@[simp] theorem State.setStg_regs (s : State) (p : Nat) (x : Stage) : (s.setStg p x).regs = s.regs := rfl
@[simp] theorem State.setStg_mem (s : State) (p : Nat) (x : Stage) : (s.setStg p x).mem = s.mem := rfl
@[simp] theorem State.setStg_reply (s : State) (p : Nat) (x : Stage) : (s.setStg p x).reply = s.reply := rfl
@[simp] theorem State.setStg_unit (s : State) (p : Nat) (x : Stage) : (s.setStg p x).unit = s.unit := rfl
@[simp] theorem State.setStg_img (s : State) (p : Nat) (x : Stage) : (s.setStg p x).img = s.img := rfl
@[simp] theorem State.setStg_keep (s : State) (p : Nat) (x : Stage) : (s.setStg p x).keep = s.keep := rfl
@[simp] theorem State.setStg_tick (s : State) (p : Nat) (x : Stage) : (s.setStg p x).tick = s.tick := rfl
@[simp] theorem State.setStg_pins (s : State) (p : Nat) (x : Stage) : (s.setStg p x).pins = s.pins := rfl
@[simp] theorem State.setStg_port (s : State) (p : Nat) (x : Stage) : (s.setStg p x).port = s.port := rfl
@[simp] theorem State.setStg_le (s : State) (p : Nat) (x : Stage) : (s.setStg p x).le = s.le := rfl
@[simp] theorem State.setStg_copyEcc (s : State) (p : Nat) (x : Stage) : (s.setStg p x).copyEcc = s.copyEcc := rfl
@[simp] theorem State.setStg_lc (s : State) (p : Nat) (x : Stage) : (s.setStg p x).lc = s.lc := rfl
@[simp] theorem State.setStg_rail (s : State) (p : Nat) (x : Stage) : (s.setStg p x).rail = s.rail := rfl
@[simp] theorem State.setStg_seq (s : State) (p : Nat) (x : Stage) : (s.setStg p x).seq = s.seq := rfl
@[simp] theorem State.setStg_adc (s : State) (p : Nat) (x : Stage) : (s.setStg p x).adc = s.adc := rfl
@[simp] theorem State.setStg_hint (s : State) (p : Nat) (x : Stage) : (s.setStg p x).hint = s.hint := rfl
@[simp] theorem State.setStg_ldg (s : State) (p : Nat) (x : Stage) : (s.setStg p x).ldg = s.ldg := rfl
@[simp] theorem State.setStg_cmp (s : State) (p : Nat) (x : Stage) : (s.setStg p x).cmp = s.cmp := rfl
@[simp] theorem State.setStg_core (s : State) (p : Nat) (x : Stage) : (s.setStg p x).core = s.core := rfl
@[simp] theorem State.setStg_l2 (s : State) (p : Nat) (x : Stage) : (s.setStg p x).l2 = s.l2 := rfl
@[simp] theorem State.setStg_poison (s : State) (p : Nat) (x : Stage) : (s.setStg p x).poison = s.poison := rfl
@[simp] theorem State.setStg_evd (s : State) (p : Nat) (x : Stage) : (s.setStg p x).evd = s.evd := rfl
@[simp] theorem State.setStg_mbx (s : State) (p : Nat) (x : Stage) : (s.setStg p x).mbx = s.mbx := rfl
@[simp] theorem State.setStg_dma (s : State) (p : Nat) (x : Stage) : (s.setStg p x).dma = s.dma := rfl
@[simp] theorem State.setStg_basin (s : State) (p : Nat) (x : Stage) : (s.setStg p x).basin = s.basin := rfl
@[simp] theorem State.setStg_stall (s : State) (p : Nat) (x : Stage) : (s.setStg p x).stall = s.stall := rfl
@[simp] theorem State.setStg_pwr (s : State) (p : Nat) (x : Stage) : (s.setStg p x).pwr = s.pwr := rfl
@[simp] theorem State.setStg_ext (s : State) (p : Nat) (x : Stage) : (s.setStg p x).ext = s.ext := rfl
@[simp] theorem State.setStg_sw (s : State) (p : Nat) (x : Stage) : (s.setStg p x).sw = s.sw := rfl
@[simp] theorem State.setStg_fans (s : State) (p : Nat) (x : Stage) : (s.setStg p x).fans = s.fans := rfl
@[simp] theorem State.setStg_trc (s : State) (p : Nat) (x : Stage) : (s.setStg p x).trc = s.trc := rfl
@[simp] theorem State.setStg_rd (s : State) (p : Nat) (x : Stage) (r' : Reg) (i' : Nat) : (s.setStg p x).rd r' i' = s.rd r' i' := rfl

@[simp] theorem State.setLe_pending (s : State) (j : Nat) (x : LoopEngine) : (s.setLe j x).pending = s.pending := rfl
@[simp] theorem State.setLe_free (s : State) (j : Nat) (x : LoopEngine) : (s.setLe j x).free = s.free := rfl
@[simp] theorem State.setLe_regs (s : State) (j : Nat) (x : LoopEngine) : (s.setLe j x).regs = s.regs := rfl
@[simp] theorem State.setLe_mem (s : State) (j : Nat) (x : LoopEngine) : (s.setLe j x).mem = s.mem := rfl
@[simp] theorem State.setLe_reply (s : State) (j : Nat) (x : LoopEngine) : (s.setLe j x).reply = s.reply := rfl
@[simp] theorem State.setLe_unit (s : State) (j : Nat) (x : LoopEngine) : (s.setLe j x).unit = s.unit := rfl
@[simp] theorem State.setLe_img (s : State) (j : Nat) (x : LoopEngine) : (s.setLe j x).img = s.img := rfl
@[simp] theorem State.setLe_keep (s : State) (j : Nat) (x : LoopEngine) : (s.setLe j x).keep = s.keep := rfl
@[simp] theorem State.setLe_tick (s : State) (j : Nat) (x : LoopEngine) : (s.setLe j x).tick = s.tick := rfl
@[simp] theorem State.setLe_pins (s : State) (j : Nat) (x : LoopEngine) : (s.setLe j x).pins = s.pins := rfl
@[simp] theorem State.setLe_port (s : State) (j : Nat) (x : LoopEngine) : (s.setLe j x).port = s.port := rfl
@[simp] theorem State.setLe_stage (s : State) (j : Nat) (x : LoopEngine) : (s.setLe j x).stage = s.stage := rfl
@[simp] theorem State.setLe_copyEcc (s : State) (j : Nat) (x : LoopEngine) : (s.setLe j x).copyEcc = s.copyEcc := rfl
@[simp] theorem State.setLe_lc (s : State) (j : Nat) (x : LoopEngine) : (s.setLe j x).lc = s.lc := rfl
@[simp] theorem State.setLe_rail (s : State) (j : Nat) (x : LoopEngine) : (s.setLe j x).rail = s.rail := rfl
@[simp] theorem State.setLe_seq (s : State) (j : Nat) (x : LoopEngine) : (s.setLe j x).seq = s.seq := rfl
@[simp] theorem State.setLe_adc (s : State) (j : Nat) (x : LoopEngine) : (s.setLe j x).adc = s.adc := rfl
@[simp] theorem State.setLe_hint (s : State) (j : Nat) (x : LoopEngine) : (s.setLe j x).hint = s.hint := rfl
@[simp] theorem State.setLe_ldg (s : State) (j : Nat) (x : LoopEngine) : (s.setLe j x).ldg = s.ldg := rfl
@[simp] theorem State.setLe_cmp (s : State) (j : Nat) (x : LoopEngine) : (s.setLe j x).cmp = s.cmp := rfl
@[simp] theorem State.setLe_core (s : State) (j : Nat) (x : LoopEngine) : (s.setLe j x).core = s.core := rfl
@[simp] theorem State.setLe_l2 (s : State) (j : Nat) (x : LoopEngine) : (s.setLe j x).l2 = s.l2 := rfl
@[simp] theorem State.setLe_poison (s : State) (j : Nat) (x : LoopEngine) : (s.setLe j x).poison = s.poison := rfl
@[simp] theorem State.setLe_evd (s : State) (j : Nat) (x : LoopEngine) : (s.setLe j x).evd = s.evd := rfl
@[simp] theorem State.setLe_mbx (s : State) (j : Nat) (x : LoopEngine) : (s.setLe j x).mbx = s.mbx := rfl
@[simp] theorem State.setLe_dma (s : State) (j : Nat) (x : LoopEngine) : (s.setLe j x).dma = s.dma := rfl
@[simp] theorem State.setLe_basin (s : State) (j : Nat) (x : LoopEngine) : (s.setLe j x).basin = s.basin := rfl
@[simp] theorem State.setLe_stall (s : State) (j : Nat) (x : LoopEngine) : (s.setLe j x).stall = s.stall := rfl
@[simp] theorem State.setLe_pwr (s : State) (j : Nat) (x : LoopEngine) : (s.setLe j x).pwr = s.pwr := rfl
@[simp] theorem State.setLe_ext (s : State) (j : Nat) (x : LoopEngine) : (s.setLe j x).ext = s.ext := rfl
@[simp] theorem State.setLe_sw (s : State) (j : Nat) (x : LoopEngine) : (s.setLe j x).sw = s.sw := rfl
@[simp] theorem State.setLe_fans (s : State) (j : Nat) (x : LoopEngine) : (s.setLe j x).fans = s.fans := rfl
@[simp] theorem State.setLe_trc (s : State) (j : Nat) (x : LoopEngine) : (s.setLe j x).trc = s.trc := rfl
@[simp] theorem State.setLe_rd (s : State) (j : Nat) (x : LoopEngine) (r' : Reg) (i' : Nat) : (s.setLe j x).rd r' i' = s.rd r' i' := rfl

@[simp] theorem State.setLc_pending (s : State) (c : Nat) (x : LoopCluster) : (s.setLc c x).pending = s.pending := rfl
@[simp] theorem State.setLc_free (s : State) (c : Nat) (x : LoopCluster) : (s.setLc c x).free = s.free := rfl
@[simp] theorem State.setLc_regs (s : State) (c : Nat) (x : LoopCluster) : (s.setLc c x).regs = s.regs := rfl
@[simp] theorem State.setLc_mem (s : State) (c : Nat) (x : LoopCluster) : (s.setLc c x).mem = s.mem := rfl
@[simp] theorem State.setLc_reply (s : State) (c : Nat) (x : LoopCluster) : (s.setLc c x).reply = s.reply := rfl
@[simp] theorem State.setLc_unit (s : State) (c : Nat) (x : LoopCluster) : (s.setLc c x).unit = s.unit := rfl
@[simp] theorem State.setLc_img (s : State) (c : Nat) (x : LoopCluster) : (s.setLc c x).img = s.img := rfl
@[simp] theorem State.setLc_keep (s : State) (c : Nat) (x : LoopCluster) : (s.setLc c x).keep = s.keep := rfl
@[simp] theorem State.setLc_tick (s : State) (c : Nat) (x : LoopCluster) : (s.setLc c x).tick = s.tick := rfl
@[simp] theorem State.setLc_pins (s : State) (c : Nat) (x : LoopCluster) : (s.setLc c x).pins = s.pins := rfl
@[simp] theorem State.setLc_port (s : State) (c : Nat) (x : LoopCluster) : (s.setLc c x).port = s.port := rfl
@[simp] theorem State.setLc_stage (s : State) (c : Nat) (x : LoopCluster) : (s.setLc c x).stage = s.stage := rfl
@[simp] theorem State.setLc_le (s : State) (c : Nat) (x : LoopCluster) : (s.setLc c x).le = s.le := rfl
@[simp] theorem State.setLc_copyEcc (s : State) (c : Nat) (x : LoopCluster) : (s.setLc c x).copyEcc = s.copyEcc := rfl
@[simp] theorem State.setLc_rail (s : State) (c : Nat) (x : LoopCluster) : (s.setLc c x).rail = s.rail := rfl
@[simp] theorem State.setLc_seq (s : State) (c : Nat) (x : LoopCluster) : (s.setLc c x).seq = s.seq := rfl
@[simp] theorem State.setLc_adc (s : State) (c : Nat) (x : LoopCluster) : (s.setLc c x).adc = s.adc := rfl
@[simp] theorem State.setLc_hint (s : State) (c : Nat) (x : LoopCluster) : (s.setLc c x).hint = s.hint := rfl
@[simp] theorem State.setLc_ldg (s : State) (c : Nat) (x : LoopCluster) : (s.setLc c x).ldg = s.ldg := rfl
@[simp] theorem State.setLc_cmp (s : State) (c : Nat) (x : LoopCluster) : (s.setLc c x).cmp = s.cmp := rfl
@[simp] theorem State.setLc_core (s : State) (c : Nat) (x : LoopCluster) : (s.setLc c x).core = s.core := rfl
@[simp] theorem State.setLc_l2 (s : State) (c : Nat) (x : LoopCluster) : (s.setLc c x).l2 = s.l2 := rfl
@[simp] theorem State.setLc_poison (s : State) (c : Nat) (x : LoopCluster) : (s.setLc c x).poison = s.poison := rfl
@[simp] theorem State.setLc_evd (s : State) (c : Nat) (x : LoopCluster) : (s.setLc c x).evd = s.evd := rfl
@[simp] theorem State.setLc_mbx (s : State) (c : Nat) (x : LoopCluster) : (s.setLc c x).mbx = s.mbx := rfl
@[simp] theorem State.setLc_dma (s : State) (c : Nat) (x : LoopCluster) : (s.setLc c x).dma = s.dma := rfl
@[simp] theorem State.setLc_basin (s : State) (c : Nat) (x : LoopCluster) : (s.setLc c x).basin = s.basin := rfl
@[simp] theorem State.setLc_stall (s : State) (c : Nat) (x : LoopCluster) : (s.setLc c x).stall = s.stall := rfl
@[simp] theorem State.setLc_pwr (s : State) (c : Nat) (x : LoopCluster) : (s.setLc c x).pwr = s.pwr := rfl
@[simp] theorem State.setLc_ext (s : State) (c : Nat) (x : LoopCluster) : (s.setLc c x).ext = s.ext := rfl
@[simp] theorem State.setLc_sw (s : State) (c : Nat) (x : LoopCluster) : (s.setLc c x).sw = s.sw := rfl
@[simp] theorem State.setLc_fans (s : State) (c : Nat) (x : LoopCluster) : (s.setLc c x).fans = s.fans := rfl
@[simp] theorem State.setLc_trc (s : State) (c : Nat) (x : LoopCluster) : (s.setLc c x).trc = s.trc := rfl
@[simp] theorem State.setLc_rd (s : State) (c : Nat) (x : LoopCluster) (r' : Reg) (i' : Nat) : (s.setLc c x).rd r' i' = s.rd r' i' := rfl

@[simp] theorem State.setRl_pending (s : State) (r : Nat) (x : Rail) : (s.setRl r x).pending = s.pending := rfl
@[simp] theorem State.setRl_free (s : State) (r : Nat) (x : Rail) : (s.setRl r x).free = s.free := rfl
@[simp] theorem State.setRl_regs (s : State) (r : Nat) (x : Rail) : (s.setRl r x).regs = s.regs := rfl
@[simp] theorem State.setRl_mem (s : State) (r : Nat) (x : Rail) : (s.setRl r x).mem = s.mem := rfl
@[simp] theorem State.setRl_reply (s : State) (r : Nat) (x : Rail) : (s.setRl r x).reply = s.reply := rfl
@[simp] theorem State.setRl_unit (s : State) (r : Nat) (x : Rail) : (s.setRl r x).unit = s.unit := rfl
@[simp] theorem State.setRl_img (s : State) (r : Nat) (x : Rail) : (s.setRl r x).img = s.img := rfl
@[simp] theorem State.setRl_keep (s : State) (r : Nat) (x : Rail) : (s.setRl r x).keep = s.keep := rfl
@[simp] theorem State.setRl_tick (s : State) (r : Nat) (x : Rail) : (s.setRl r x).tick = s.tick := rfl
@[simp] theorem State.setRl_pins (s : State) (r : Nat) (x : Rail) : (s.setRl r x).pins = s.pins := rfl
@[simp] theorem State.setRl_port (s : State) (r : Nat) (x : Rail) : (s.setRl r x).port = s.port := rfl
@[simp] theorem State.setRl_stage (s : State) (r : Nat) (x : Rail) : (s.setRl r x).stage = s.stage := rfl
@[simp] theorem State.setRl_le (s : State) (r : Nat) (x : Rail) : (s.setRl r x).le = s.le := rfl
@[simp] theorem State.setRl_copyEcc (s : State) (r : Nat) (x : Rail) : (s.setRl r x).copyEcc = s.copyEcc := rfl
@[simp] theorem State.setRl_lc (s : State) (r : Nat) (x : Rail) : (s.setRl r x).lc = s.lc := rfl
@[simp] theorem State.setRl_seq (s : State) (r : Nat) (x : Rail) : (s.setRl r x).seq = s.seq := rfl
@[simp] theorem State.setRl_adc (s : State) (r : Nat) (x : Rail) : (s.setRl r x).adc = s.adc := rfl
@[simp] theorem State.setRl_hint (s : State) (r : Nat) (x : Rail) : (s.setRl r x).hint = s.hint := rfl
@[simp] theorem State.setRl_ldg (s : State) (r : Nat) (x : Rail) : (s.setRl r x).ldg = s.ldg := rfl
@[simp] theorem State.setRl_cmp (s : State) (r : Nat) (x : Rail) : (s.setRl r x).cmp = s.cmp := rfl
@[simp] theorem State.setRl_core (s : State) (r : Nat) (x : Rail) : (s.setRl r x).core = s.core := rfl
@[simp] theorem State.setRl_l2 (s : State) (r : Nat) (x : Rail) : (s.setRl r x).l2 = s.l2 := rfl
@[simp] theorem State.setRl_poison (s : State) (r : Nat) (x : Rail) : (s.setRl r x).poison = s.poison := rfl
@[simp] theorem State.setRl_evd (s : State) (r : Nat) (x : Rail) : (s.setRl r x).evd = s.evd := rfl
@[simp] theorem State.setRl_mbx (s : State) (r : Nat) (x : Rail) : (s.setRl r x).mbx = s.mbx := rfl
@[simp] theorem State.setRl_dma (s : State) (r : Nat) (x : Rail) : (s.setRl r x).dma = s.dma := rfl
@[simp] theorem State.setRl_basin (s : State) (r : Nat) (x : Rail) : (s.setRl r x).basin = s.basin := rfl
@[simp] theorem State.setRl_stall (s : State) (r : Nat) (x : Rail) : (s.setRl r x).stall = s.stall := rfl
@[simp] theorem State.setRl_pwr (s : State) (r : Nat) (x : Rail) : (s.setRl r x).pwr = s.pwr := rfl
@[simp] theorem State.setRl_ext (s : State) (r : Nat) (x : Rail) : (s.setRl r x).ext = s.ext := rfl
@[simp] theorem State.setRl_sw (s : State) (r : Nat) (x : Rail) : (s.setRl r x).sw = s.sw := rfl
@[simp] theorem State.setRl_fans (s : State) (r : Nat) (x : Rail) : (s.setRl r x).fans = s.fans := rfl
@[simp] theorem State.setRl_trc (s : State) (r : Nat) (x : Rail) : (s.setRl r x).trc = s.trc := rfl
@[simp] theorem State.setRl_rd (s : State) (r : Nat) (x : Rail) (r' : Reg) (i' : Nat) : (s.setRl r x).rd r' i' = s.rd r' i' := rfl

@[simp] theorem State.setStep_pending (s : State) (k : Nat) (x : SeqStep) : (s.setStep k x).pending = s.pending := rfl
@[simp] theorem State.setStep_free (s : State) (k : Nat) (x : SeqStep) : (s.setStep k x).free = s.free := rfl
@[simp] theorem State.setStep_regs (s : State) (k : Nat) (x : SeqStep) : (s.setStep k x).regs = s.regs := rfl
@[simp] theorem State.setStep_mem (s : State) (k : Nat) (x : SeqStep) : (s.setStep k x).mem = s.mem := rfl
@[simp] theorem State.setStep_reply (s : State) (k : Nat) (x : SeqStep) : (s.setStep k x).reply = s.reply := rfl
@[simp] theorem State.setStep_unit (s : State) (k : Nat) (x : SeqStep) : (s.setStep k x).unit = s.unit := rfl
@[simp] theorem State.setStep_img (s : State) (k : Nat) (x : SeqStep) : (s.setStep k x).img = s.img := rfl
@[simp] theorem State.setStep_keep (s : State) (k : Nat) (x : SeqStep) : (s.setStep k x).keep = s.keep := rfl
@[simp] theorem State.setStep_tick (s : State) (k : Nat) (x : SeqStep) : (s.setStep k x).tick = s.tick := rfl
@[simp] theorem State.setStep_pins (s : State) (k : Nat) (x : SeqStep) : (s.setStep k x).pins = s.pins := rfl
@[simp] theorem State.setStep_port (s : State) (k : Nat) (x : SeqStep) : (s.setStep k x).port = s.port := rfl
@[simp] theorem State.setStep_stage (s : State) (k : Nat) (x : SeqStep) : (s.setStep k x).stage = s.stage := rfl
@[simp] theorem State.setStep_le (s : State) (k : Nat) (x : SeqStep) : (s.setStep k x).le = s.le := rfl
@[simp] theorem State.setStep_copyEcc (s : State) (k : Nat) (x : SeqStep) : (s.setStep k x).copyEcc = s.copyEcc := rfl
@[simp] theorem State.setStep_lc (s : State) (k : Nat) (x : SeqStep) : (s.setStep k x).lc = s.lc := rfl
@[simp] theorem State.setStep_rail (s : State) (k : Nat) (x : SeqStep) : (s.setStep k x).rail = s.rail := rfl
@[simp] theorem State.setStep_adc (s : State) (k : Nat) (x : SeqStep) : (s.setStep k x).adc = s.adc := rfl
@[simp] theorem State.setStep_hint (s : State) (k : Nat) (x : SeqStep) : (s.setStep k x).hint = s.hint := rfl
@[simp] theorem State.setStep_ldg (s : State) (k : Nat) (x : SeqStep) : (s.setStep k x).ldg = s.ldg := rfl
@[simp] theorem State.setStep_cmp (s : State) (k : Nat) (x : SeqStep) : (s.setStep k x).cmp = s.cmp := rfl
@[simp] theorem State.setStep_core (s : State) (k : Nat) (x : SeqStep) : (s.setStep k x).core = s.core := rfl
@[simp] theorem State.setStep_l2 (s : State) (k : Nat) (x : SeqStep) : (s.setStep k x).l2 = s.l2 := rfl
@[simp] theorem State.setStep_poison (s : State) (k : Nat) (x : SeqStep) : (s.setStep k x).poison = s.poison := rfl
@[simp] theorem State.setStep_evd (s : State) (k : Nat) (x : SeqStep) : (s.setStep k x).evd = s.evd := rfl
@[simp] theorem State.setStep_mbx (s : State) (k : Nat) (x : SeqStep) : (s.setStep k x).mbx = s.mbx := rfl
@[simp] theorem State.setStep_dma (s : State) (k : Nat) (x : SeqStep) : (s.setStep k x).dma = s.dma := rfl
@[simp] theorem State.setStep_basin (s : State) (k : Nat) (x : SeqStep) : (s.setStep k x).basin = s.basin := rfl
@[simp] theorem State.setStep_stall (s : State) (k : Nat) (x : SeqStep) : (s.setStep k x).stall = s.stall := rfl
@[simp] theorem State.setStep_pwr (s : State) (k : Nat) (x : SeqStep) : (s.setStep k x).pwr = s.pwr := rfl
@[simp] theorem State.setStep_ext (s : State) (k : Nat) (x : SeqStep) : (s.setStep k x).ext = s.ext := rfl
@[simp] theorem State.setStep_sw (s : State) (k : Nat) (x : SeqStep) : (s.setStep k x).sw = s.sw := rfl
@[simp] theorem State.setStep_fans (s : State) (k : Nat) (x : SeqStep) : (s.setStep k x).fans = s.fans := rfl
@[simp] theorem State.setStep_trc (s : State) (k : Nat) (x : SeqStep) : (s.setStep k x).trc = s.trc := rfl
@[simp] theorem State.setStep_rd (s : State) (k : Nat) (x : SeqStep) (r' : Reg) (i' : Nat) : (s.setStep k x).rd r' i' = s.rd r' i' := rfl

@[simp] theorem State.setCor_pending (s : State) (n : Nat) (c : Core) : (s.setCor n c).pending = s.pending := rfl
@[simp] theorem State.setCor_free (s : State) (n : Nat) (c : Core) : (s.setCor n c).free = s.free := rfl
@[simp] theorem State.setCor_regs (s : State) (n : Nat) (c : Core) : (s.setCor n c).regs = s.regs := rfl
@[simp] theorem State.setCor_mem (s : State) (n : Nat) (c : Core) : (s.setCor n c).mem = s.mem := rfl
@[simp] theorem State.setCor_reply (s : State) (n : Nat) (c : Core) : (s.setCor n c).reply = s.reply := rfl
@[simp] theorem State.setCor_unit (s : State) (n : Nat) (c : Core) : (s.setCor n c).unit = s.unit := rfl
@[simp] theorem State.setCor_img (s : State) (n : Nat) (c : Core) : (s.setCor n c).img = s.img := rfl
@[simp] theorem State.setCor_keep (s : State) (n : Nat) (c : Core) : (s.setCor n c).keep = s.keep := rfl
@[simp] theorem State.setCor_tick (s : State) (n : Nat) (c : Core) : (s.setCor n c).tick = s.tick := rfl
@[simp] theorem State.setCor_pins (s : State) (n : Nat) (c : Core) : (s.setCor n c).pins = s.pins := rfl
@[simp] theorem State.setCor_port (s : State) (n : Nat) (c : Core) : (s.setCor n c).port = s.port := rfl
@[simp] theorem State.setCor_stage (s : State) (n : Nat) (c : Core) : (s.setCor n c).stage = s.stage := rfl
@[simp] theorem State.setCor_le (s : State) (n : Nat) (c : Core) : (s.setCor n c).le = s.le := rfl
@[simp] theorem State.setCor_copyEcc (s : State) (n : Nat) (c : Core) : (s.setCor n c).copyEcc = s.copyEcc := rfl
@[simp] theorem State.setCor_lc (s : State) (n : Nat) (c : Core) : (s.setCor n c).lc = s.lc := rfl
@[simp] theorem State.setCor_rail (s : State) (n : Nat) (c : Core) : (s.setCor n c).rail = s.rail := rfl
@[simp] theorem State.setCor_seq (s : State) (n : Nat) (c : Core) : (s.setCor n c).seq = s.seq := rfl
@[simp] theorem State.setCor_adc (s : State) (n : Nat) (c : Core) : (s.setCor n c).adc = s.adc := rfl
@[simp] theorem State.setCor_hint (s : State) (n : Nat) (c : Core) : (s.setCor n c).hint = s.hint := rfl
@[simp] theorem State.setCor_ldg (s : State) (n : Nat) (c : Core) : (s.setCor n c).ldg = s.ldg := rfl
@[simp] theorem State.setCor_cmp (s : State) (n : Nat) (c : Core) : (s.setCor n c).cmp = s.cmp := rfl
@[simp] theorem State.setCor_l2 (s : State) (n : Nat) (c : Core) : (s.setCor n c).l2 = s.l2 := rfl
@[simp] theorem State.setCor_poison (s : State) (n : Nat) (c : Core) : (s.setCor n c).poison = s.poison := rfl
@[simp] theorem State.setCor_evd (s : State) (n : Nat) (c : Core) : (s.setCor n c).evd = s.evd := rfl
@[simp] theorem State.setCor_mbx (s : State) (n : Nat) (c : Core) : (s.setCor n c).mbx = s.mbx := rfl
@[simp] theorem State.setCor_dma (s : State) (n : Nat) (c : Core) : (s.setCor n c).dma = s.dma := rfl
@[simp] theorem State.setCor_basin (s : State) (n : Nat) (c : Core) : (s.setCor n c).basin = s.basin := rfl
@[simp] theorem State.setCor_stall (s : State) (n : Nat) (c : Core) : (s.setCor n c).stall = s.stall := rfl
@[simp] theorem State.setCor_pwr (s : State) (n : Nat) (c : Core) : (s.setCor n c).pwr = s.pwr := rfl
@[simp] theorem State.setCor_ext (s : State) (n : Nat) (c : Core) : (s.setCor n c).ext = s.ext := rfl
@[simp] theorem State.setCor_sw (s : State) (n : Nat) (c : Core) : (s.setCor n c).sw = s.sw := rfl
@[simp] theorem State.setCor_fans (s : State) (n : Nat) (c : Core) : (s.setCor n c).fans = s.fans := rfl
@[simp] theorem State.setCor_trc (s : State) (n : Nat) (c : Core) : (s.setCor n c).trc = s.trc := rfl
@[simp] theorem State.setCor_rd (s : State) (n : Nat) (c : Core) (r' : Reg) (i' : Nat) : (s.setCor n c).rd r' i' = s.rd r' i' := rfl

@[simp] theorem State.setMb_pending (s : State) (m : Nat) (x : Mailbox) : (s.setMb m x).pending = s.pending := rfl
@[simp] theorem State.setMb_free (s : State) (m : Nat) (x : Mailbox) : (s.setMb m x).free = s.free := rfl
@[simp] theorem State.setMb_regs (s : State) (m : Nat) (x : Mailbox) : (s.setMb m x).regs = s.regs := rfl
@[simp] theorem State.setMb_mem (s : State) (m : Nat) (x : Mailbox) : (s.setMb m x).mem = s.mem := rfl
@[simp] theorem State.setMb_reply (s : State) (m : Nat) (x : Mailbox) : (s.setMb m x).reply = s.reply := rfl
@[simp] theorem State.setMb_unit (s : State) (m : Nat) (x : Mailbox) : (s.setMb m x).unit = s.unit := rfl
@[simp] theorem State.setMb_img (s : State) (m : Nat) (x : Mailbox) : (s.setMb m x).img = s.img := rfl
@[simp] theorem State.setMb_keep (s : State) (m : Nat) (x : Mailbox) : (s.setMb m x).keep = s.keep := rfl
@[simp] theorem State.setMb_tick (s : State) (m : Nat) (x : Mailbox) : (s.setMb m x).tick = s.tick := rfl
@[simp] theorem State.setMb_pins (s : State) (m : Nat) (x : Mailbox) : (s.setMb m x).pins = s.pins := rfl
@[simp] theorem State.setMb_port (s : State) (m : Nat) (x : Mailbox) : (s.setMb m x).port = s.port := rfl
@[simp] theorem State.setMb_stage (s : State) (m : Nat) (x : Mailbox) : (s.setMb m x).stage = s.stage := rfl
@[simp] theorem State.setMb_le (s : State) (m : Nat) (x : Mailbox) : (s.setMb m x).le = s.le := rfl
@[simp] theorem State.setMb_copyEcc (s : State) (m : Nat) (x : Mailbox) : (s.setMb m x).copyEcc = s.copyEcc := rfl
@[simp] theorem State.setMb_lc (s : State) (m : Nat) (x : Mailbox) : (s.setMb m x).lc = s.lc := rfl
@[simp] theorem State.setMb_rail (s : State) (m : Nat) (x : Mailbox) : (s.setMb m x).rail = s.rail := rfl
@[simp] theorem State.setMb_seq (s : State) (m : Nat) (x : Mailbox) : (s.setMb m x).seq = s.seq := rfl
@[simp] theorem State.setMb_adc (s : State) (m : Nat) (x : Mailbox) : (s.setMb m x).adc = s.adc := rfl
@[simp] theorem State.setMb_hint (s : State) (m : Nat) (x : Mailbox) : (s.setMb m x).hint = s.hint := rfl
@[simp] theorem State.setMb_ldg (s : State) (m : Nat) (x : Mailbox) : (s.setMb m x).ldg = s.ldg := rfl
@[simp] theorem State.setMb_cmp (s : State) (m : Nat) (x : Mailbox) : (s.setMb m x).cmp = s.cmp := rfl
@[simp] theorem State.setMb_core (s : State) (m : Nat) (x : Mailbox) : (s.setMb m x).core = s.core := rfl
@[simp] theorem State.setMb_l2 (s : State) (m : Nat) (x : Mailbox) : (s.setMb m x).l2 = s.l2 := rfl
@[simp] theorem State.setMb_poison (s : State) (m : Nat) (x : Mailbox) : (s.setMb m x).poison = s.poison := rfl
@[simp] theorem State.setMb_evd (s : State) (m : Nat) (x : Mailbox) : (s.setMb m x).evd = s.evd := rfl
@[simp] theorem State.setMb_dma (s : State) (m : Nat) (x : Mailbox) : (s.setMb m x).dma = s.dma := rfl
@[simp] theorem State.setMb_basin (s : State) (m : Nat) (x : Mailbox) : (s.setMb m x).basin = s.basin := rfl
@[simp] theorem State.setMb_stall (s : State) (m : Nat) (x : Mailbox) : (s.setMb m x).stall = s.stall := rfl
@[simp] theorem State.setMb_pwr (s : State) (m : Nat) (x : Mailbox) : (s.setMb m x).pwr = s.pwr := rfl
@[simp] theorem State.setMb_ext (s : State) (m : Nat) (x : Mailbox) : (s.setMb m x).ext = s.ext := rfl
@[simp] theorem State.setMb_sw (s : State) (m : Nat) (x : Mailbox) : (s.setMb m x).sw = s.sw := rfl
@[simp] theorem State.setMb_fans (s : State) (m : Nat) (x : Mailbox) : (s.setMb m x).fans = s.fans := rfl
@[simp] theorem State.setMb_trc (s : State) (m : Nat) (x : Mailbox) : (s.setMb m x).trc = s.trc := rfl
@[simp] theorem State.setMb_rd (s : State) (m : Nat) (x : Mailbox) (r' : Reg) (i' : Nat) : (s.setMb m x).rd r' i' = s.rd r' i' := rfl

@[simp] theorem State.setXp_pending (s : State) (u : Nat) (x : ExtPort) : (s.setXp u x).pending = s.pending := rfl
@[simp] theorem State.setXp_free (s : State) (u : Nat) (x : ExtPort) : (s.setXp u x).free = s.free := rfl
@[simp] theorem State.setXp_regs (s : State) (u : Nat) (x : ExtPort) : (s.setXp u x).regs = s.regs := rfl
@[simp] theorem State.setXp_mem (s : State) (u : Nat) (x : ExtPort) : (s.setXp u x).mem = s.mem := rfl
@[simp] theorem State.setXp_reply (s : State) (u : Nat) (x : ExtPort) : (s.setXp u x).reply = s.reply := rfl
@[simp] theorem State.setXp_unit (s : State) (u : Nat) (x : ExtPort) : (s.setXp u x).unit = s.unit := rfl
@[simp] theorem State.setXp_img (s : State) (u : Nat) (x : ExtPort) : (s.setXp u x).img = s.img := rfl
@[simp] theorem State.setXp_keep (s : State) (u : Nat) (x : ExtPort) : (s.setXp u x).keep = s.keep := rfl
@[simp] theorem State.setXp_tick (s : State) (u : Nat) (x : ExtPort) : (s.setXp u x).tick = s.tick := rfl
@[simp] theorem State.setXp_pins (s : State) (u : Nat) (x : ExtPort) : (s.setXp u x).pins = s.pins := rfl
@[simp] theorem State.setXp_port (s : State) (u : Nat) (x : ExtPort) : (s.setXp u x).port = s.port := rfl
@[simp] theorem State.setXp_stage (s : State) (u : Nat) (x : ExtPort) : (s.setXp u x).stage = s.stage := rfl
@[simp] theorem State.setXp_le (s : State) (u : Nat) (x : ExtPort) : (s.setXp u x).le = s.le := rfl
@[simp] theorem State.setXp_copyEcc (s : State) (u : Nat) (x : ExtPort) : (s.setXp u x).copyEcc = s.copyEcc := rfl
@[simp] theorem State.setXp_lc (s : State) (u : Nat) (x : ExtPort) : (s.setXp u x).lc = s.lc := rfl
@[simp] theorem State.setXp_rail (s : State) (u : Nat) (x : ExtPort) : (s.setXp u x).rail = s.rail := rfl
@[simp] theorem State.setXp_seq (s : State) (u : Nat) (x : ExtPort) : (s.setXp u x).seq = s.seq := rfl
@[simp] theorem State.setXp_adc (s : State) (u : Nat) (x : ExtPort) : (s.setXp u x).adc = s.adc := rfl
@[simp] theorem State.setXp_hint (s : State) (u : Nat) (x : ExtPort) : (s.setXp u x).hint = s.hint := rfl
@[simp] theorem State.setXp_ldg (s : State) (u : Nat) (x : ExtPort) : (s.setXp u x).ldg = s.ldg := rfl
@[simp] theorem State.setXp_cmp (s : State) (u : Nat) (x : ExtPort) : (s.setXp u x).cmp = s.cmp := rfl
@[simp] theorem State.setXp_core (s : State) (u : Nat) (x : ExtPort) : (s.setXp u x).core = s.core := rfl
@[simp] theorem State.setXp_l2 (s : State) (u : Nat) (x : ExtPort) : (s.setXp u x).l2 = s.l2 := rfl
@[simp] theorem State.setXp_poison (s : State) (u : Nat) (x : ExtPort) : (s.setXp u x).poison = s.poison := rfl
@[simp] theorem State.setXp_evd (s : State) (u : Nat) (x : ExtPort) : (s.setXp u x).evd = s.evd := rfl
@[simp] theorem State.setXp_mbx (s : State) (u : Nat) (x : ExtPort) : (s.setXp u x).mbx = s.mbx := rfl
@[simp] theorem State.setXp_dma (s : State) (u : Nat) (x : ExtPort) : (s.setXp u x).dma = s.dma := rfl
@[simp] theorem State.setXp_basin (s : State) (u : Nat) (x : ExtPort) : (s.setXp u x).basin = s.basin := rfl
@[simp] theorem State.setXp_stall (s : State) (u : Nat) (x : ExtPort) : (s.setXp u x).stall = s.stall := rfl
@[simp] theorem State.setXp_pwr (s : State) (u : Nat) (x : ExtPort) : (s.setXp u x).pwr = s.pwr := rfl
@[simp] theorem State.setXp_sw (s : State) (u : Nat) (x : ExtPort) : (s.setXp u x).sw = s.sw := rfl
@[simp] theorem State.setXp_fans (s : State) (u : Nat) (x : ExtPort) : (s.setXp u x).fans = s.fans := rfl
@[simp] theorem State.setXp_trc (s : State) (u : Nat) (x : ExtPort) : (s.setXp u x).trc = s.trc := rfl
@[simp] theorem State.setXp_rd (s : State) (u : Nat) (x : ExtPort) (r' : Reg) (i' : Nat) : (s.setXp u x).rd r' i' = s.rd r' i' := rfl

@[simp] theorem State.setTsrc_pending (s : State) (id : Nat) (x : TraceSrc) : (s.setTsrc id x).pending = s.pending := rfl
@[simp] theorem State.setTsrc_free (s : State) (id : Nat) (x : TraceSrc) : (s.setTsrc id x).free = s.free := rfl
@[simp] theorem State.setTsrc_regs (s : State) (id : Nat) (x : TraceSrc) : (s.setTsrc id x).regs = s.regs := rfl
@[simp] theorem State.setTsrc_mem (s : State) (id : Nat) (x : TraceSrc) : (s.setTsrc id x).mem = s.mem := rfl
@[simp] theorem State.setTsrc_reply (s : State) (id : Nat) (x : TraceSrc) : (s.setTsrc id x).reply = s.reply := rfl
@[simp] theorem State.setTsrc_unit (s : State) (id : Nat) (x : TraceSrc) : (s.setTsrc id x).unit = s.unit := rfl
@[simp] theorem State.setTsrc_img (s : State) (id : Nat) (x : TraceSrc) : (s.setTsrc id x).img = s.img := rfl
@[simp] theorem State.setTsrc_keep (s : State) (id : Nat) (x : TraceSrc) : (s.setTsrc id x).keep = s.keep := rfl
@[simp] theorem State.setTsrc_tick (s : State) (id : Nat) (x : TraceSrc) : (s.setTsrc id x).tick = s.tick := rfl
@[simp] theorem State.setTsrc_pins (s : State) (id : Nat) (x : TraceSrc) : (s.setTsrc id x).pins = s.pins := rfl
@[simp] theorem State.setTsrc_port (s : State) (id : Nat) (x : TraceSrc) : (s.setTsrc id x).port = s.port := rfl
@[simp] theorem State.setTsrc_stage (s : State) (id : Nat) (x : TraceSrc) : (s.setTsrc id x).stage = s.stage := rfl
@[simp] theorem State.setTsrc_le (s : State) (id : Nat) (x : TraceSrc) : (s.setTsrc id x).le = s.le := rfl
@[simp] theorem State.setTsrc_copyEcc (s : State) (id : Nat) (x : TraceSrc) : (s.setTsrc id x).copyEcc = s.copyEcc := rfl
@[simp] theorem State.setTsrc_lc (s : State) (id : Nat) (x : TraceSrc) : (s.setTsrc id x).lc = s.lc := rfl
@[simp] theorem State.setTsrc_rail (s : State) (id : Nat) (x : TraceSrc) : (s.setTsrc id x).rail = s.rail := rfl
@[simp] theorem State.setTsrc_seq (s : State) (id : Nat) (x : TraceSrc) : (s.setTsrc id x).seq = s.seq := rfl
@[simp] theorem State.setTsrc_adc (s : State) (id : Nat) (x : TraceSrc) : (s.setTsrc id x).adc = s.adc := rfl
@[simp] theorem State.setTsrc_hint (s : State) (id : Nat) (x : TraceSrc) : (s.setTsrc id x).hint = s.hint := rfl
@[simp] theorem State.setTsrc_ldg (s : State) (id : Nat) (x : TraceSrc) : (s.setTsrc id x).ldg = s.ldg := rfl
@[simp] theorem State.setTsrc_cmp (s : State) (id : Nat) (x : TraceSrc) : (s.setTsrc id x).cmp = s.cmp := rfl
@[simp] theorem State.setTsrc_core (s : State) (id : Nat) (x : TraceSrc) : (s.setTsrc id x).core = s.core := rfl
@[simp] theorem State.setTsrc_l2 (s : State) (id : Nat) (x : TraceSrc) : (s.setTsrc id x).l2 = s.l2 := rfl
@[simp] theorem State.setTsrc_poison (s : State) (id : Nat) (x : TraceSrc) : (s.setTsrc id x).poison = s.poison := rfl
@[simp] theorem State.setTsrc_evd (s : State) (id : Nat) (x : TraceSrc) : (s.setTsrc id x).evd = s.evd := rfl
@[simp] theorem State.setTsrc_mbx (s : State) (id : Nat) (x : TraceSrc) : (s.setTsrc id x).mbx = s.mbx := rfl
@[simp] theorem State.setTsrc_dma (s : State) (id : Nat) (x : TraceSrc) : (s.setTsrc id x).dma = s.dma := rfl
@[simp] theorem State.setTsrc_basin (s : State) (id : Nat) (x : TraceSrc) : (s.setTsrc id x).basin = s.basin := rfl
@[simp] theorem State.setTsrc_stall (s : State) (id : Nat) (x : TraceSrc) : (s.setTsrc id x).stall = s.stall := rfl
@[simp] theorem State.setTsrc_pwr (s : State) (id : Nat) (x : TraceSrc) : (s.setTsrc id x).pwr = s.pwr := rfl
@[simp] theorem State.setTsrc_ext (s : State) (id : Nat) (x : TraceSrc) : (s.setTsrc id x).ext = s.ext := rfl
@[simp] theorem State.setTsrc_sw (s : State) (id : Nat) (x : TraceSrc) : (s.setTsrc id x).sw = s.sw := rfl
@[simp] theorem State.setTsrc_fans (s : State) (id : Nat) (x : TraceSrc) : (s.setTsrc id x).fans = s.fans := rfl
@[simp] theorem State.setTsrc_rd (s : State) (id : Nat) (x : TraceSrc) (r' : Reg) (i' : Nat) : (s.setTsrc id x).rd r' i' = s.rd r' i' := rfl

@[simp] theorem State.setPrtn_pending (s : State) (p : Nat) (x : Partner) : (s.setPrtn p x).pending = s.pending := rfl
@[simp] theorem State.setPrtn_free (s : State) (p : Nat) (x : Partner) : (s.setPrtn p x).free = s.free := rfl
@[simp] theorem State.setPrtn_regs (s : State) (p : Nat) (x : Partner) : (s.setPrtn p x).regs = s.regs := rfl
@[simp] theorem State.setPrtn_mem (s : State) (p : Nat) (x : Partner) : (s.setPrtn p x).mem = s.mem := rfl
@[simp] theorem State.setPrtn_reply (s : State) (p : Nat) (x : Partner) : (s.setPrtn p x).reply = s.reply := rfl
@[simp] theorem State.setPrtn_unit (s : State) (p : Nat) (x : Partner) : (s.setPrtn p x).unit = s.unit := rfl
@[simp] theorem State.setPrtn_img (s : State) (p : Nat) (x : Partner) : (s.setPrtn p x).img = s.img := rfl
@[simp] theorem State.setPrtn_keep (s : State) (p : Nat) (x : Partner) : (s.setPrtn p x).keep = s.keep := rfl
@[simp] theorem State.setPrtn_tick (s : State) (p : Nat) (x : Partner) : (s.setPrtn p x).tick = s.tick := rfl
@[simp] theorem State.setPrtn_pins (s : State) (p : Nat) (x : Partner) : (s.setPrtn p x).pins = s.pins := rfl
@[simp] theorem State.setPrtn_port (s : State) (p : Nat) (x : Partner) : (s.setPrtn p x).port = s.port := rfl
@[simp] theorem State.setPrtn_stage (s : State) (p : Nat) (x : Partner) : (s.setPrtn p x).stage = s.stage := rfl
@[simp] theorem State.setPrtn_le (s : State) (p : Nat) (x : Partner) : (s.setPrtn p x).le = s.le := rfl
@[simp] theorem State.setPrtn_copyEcc (s : State) (p : Nat) (x : Partner) : (s.setPrtn p x).copyEcc = s.copyEcc := rfl
@[simp] theorem State.setPrtn_lc (s : State) (p : Nat) (x : Partner) : (s.setPrtn p x).lc = s.lc := rfl
@[simp] theorem State.setPrtn_rail (s : State) (p : Nat) (x : Partner) : (s.setPrtn p x).rail = s.rail := rfl
@[simp] theorem State.setPrtn_seq (s : State) (p : Nat) (x : Partner) : (s.setPrtn p x).seq = s.seq := rfl
@[simp] theorem State.setPrtn_adc (s : State) (p : Nat) (x : Partner) : (s.setPrtn p x).adc = s.adc := rfl
@[simp] theorem State.setPrtn_hint (s : State) (p : Nat) (x : Partner) : (s.setPrtn p x).hint = s.hint := rfl
@[simp] theorem State.setPrtn_cmp (s : State) (p : Nat) (x : Partner) : (s.setPrtn p x).cmp = s.cmp := rfl
@[simp] theorem State.setPrtn_core (s : State) (p : Nat) (x : Partner) : (s.setPrtn p x).core = s.core := rfl
@[simp] theorem State.setPrtn_l2 (s : State) (p : Nat) (x : Partner) : (s.setPrtn p x).l2 = s.l2 := rfl
@[simp] theorem State.setPrtn_poison (s : State) (p : Nat) (x : Partner) : (s.setPrtn p x).poison = s.poison := rfl
@[simp] theorem State.setPrtn_evd (s : State) (p : Nat) (x : Partner) : (s.setPrtn p x).evd = s.evd := rfl
@[simp] theorem State.setPrtn_mbx (s : State) (p : Nat) (x : Partner) : (s.setPrtn p x).mbx = s.mbx := rfl
@[simp] theorem State.setPrtn_dma (s : State) (p : Nat) (x : Partner) : (s.setPrtn p x).dma = s.dma := rfl
@[simp] theorem State.setPrtn_basin (s : State) (p : Nat) (x : Partner) : (s.setPrtn p x).basin = s.basin := rfl
@[simp] theorem State.setPrtn_stall (s : State) (p : Nat) (x : Partner) : (s.setPrtn p x).stall = s.stall := rfl
@[simp] theorem State.setPrtn_pwr (s : State) (p : Nat) (x : Partner) : (s.setPrtn p x).pwr = s.pwr := rfl
@[simp] theorem State.setPrtn_ext (s : State) (p : Nat) (x : Partner) : (s.setPrtn p x).ext = s.ext := rfl
@[simp] theorem State.setPrtn_sw (s : State) (p : Nat) (x : Partner) : (s.setPrtn p x).sw = s.sw := rfl
@[simp] theorem State.setPrtn_fans (s : State) (p : Nat) (x : Partner) : (s.setPrtn p x).fans = s.fans := rfl
@[simp] theorem State.setPrtn_trc (s : State) (p : Nat) (x : Partner) : (s.setPrtn p x).trc = s.trc := rfl
@[simp] theorem State.setPrtn_rd (s : State) (p : Nat) (x : Partner) (r' : Reg) (i' : Nat) : (s.setPrtn p x).rd r' i' = s.rd r' i' := rfl

@[simp] theorem State.setChn_pending (s : State) (c : Nat) (x : Chan) : (s.setChn c x).pending = s.pending := rfl
@[simp] theorem State.setChn_free (s : State) (c : Nat) (x : Chan) : (s.setChn c x).free = s.free := rfl
@[simp] theorem State.setChn_regs (s : State) (c : Nat) (x : Chan) : (s.setChn c x).regs = s.regs := rfl
@[simp] theorem State.setChn_mem (s : State) (c : Nat) (x : Chan) : (s.setChn c x).mem = s.mem := rfl
@[simp] theorem State.setChn_reply (s : State) (c : Nat) (x : Chan) : (s.setChn c x).reply = s.reply := rfl
@[simp] theorem State.setChn_unit (s : State) (c : Nat) (x : Chan) : (s.setChn c x).unit = s.unit := rfl
@[simp] theorem State.setChn_img (s : State) (c : Nat) (x : Chan) : (s.setChn c x).img = s.img := rfl
@[simp] theorem State.setChn_keep (s : State) (c : Nat) (x : Chan) : (s.setChn c x).keep = s.keep := rfl
@[simp] theorem State.setChn_tick (s : State) (c : Nat) (x : Chan) : (s.setChn c x).tick = s.tick := rfl
@[simp] theorem State.setChn_pins (s : State) (c : Nat) (x : Chan) : (s.setChn c x).pins = s.pins := rfl
@[simp] theorem State.setChn_port (s : State) (c : Nat) (x : Chan) : (s.setChn c x).port = s.port := rfl
@[simp] theorem State.setChn_stage (s : State) (c : Nat) (x : Chan) : (s.setChn c x).stage = s.stage := rfl
@[simp] theorem State.setChn_le (s : State) (c : Nat) (x : Chan) : (s.setChn c x).le = s.le := rfl
@[simp] theorem State.setChn_copyEcc (s : State) (c : Nat) (x : Chan) : (s.setChn c x).copyEcc = s.copyEcc := rfl
@[simp] theorem State.setChn_lc (s : State) (c : Nat) (x : Chan) : (s.setChn c x).lc = s.lc := rfl
@[simp] theorem State.setChn_rail (s : State) (c : Nat) (x : Chan) : (s.setChn c x).rail = s.rail := rfl
@[simp] theorem State.setChn_seq (s : State) (c : Nat) (x : Chan) : (s.setChn c x).seq = s.seq := rfl
@[simp] theorem State.setChn_adc (s : State) (c : Nat) (x : Chan) : (s.setChn c x).adc = s.adc := rfl
@[simp] theorem State.setChn_hint (s : State) (c : Nat) (x : Chan) : (s.setChn c x).hint = s.hint := rfl
@[simp] theorem State.setChn_ldg (s : State) (c : Nat) (x : Chan) : (s.setChn c x).ldg = s.ldg := rfl
@[simp] theorem State.setChn_cmp (s : State) (c : Nat) (x : Chan) : (s.setChn c x).cmp = s.cmp := rfl
@[simp] theorem State.setChn_core (s : State) (c : Nat) (x : Chan) : (s.setChn c x).core = s.core := rfl
@[simp] theorem State.setChn_l2 (s : State) (c : Nat) (x : Chan) : (s.setChn c x).l2 = s.l2 := rfl
@[simp] theorem State.setChn_poison (s : State) (c : Nat) (x : Chan) : (s.setChn c x).poison = s.poison := rfl
@[simp] theorem State.setChn_evd (s : State) (c : Nat) (x : Chan) : (s.setChn c x).evd = s.evd := rfl
@[simp] theorem State.setChn_mbx (s : State) (c : Nat) (x : Chan) : (s.setChn c x).mbx = s.mbx := rfl
@[simp] theorem State.setChn_basin (s : State) (c : Nat) (x : Chan) : (s.setChn c x).basin = s.basin := rfl
@[simp] theorem State.setChn_stall (s : State) (c : Nat) (x : Chan) : (s.setChn c x).stall = s.stall := rfl
@[simp] theorem State.setChn_pwr (s : State) (c : Nat) (x : Chan) : (s.setChn c x).pwr = s.pwr := rfl
@[simp] theorem State.setChn_ext (s : State) (c : Nat) (x : Chan) : (s.setChn c x).ext = s.ext := rfl
@[simp] theorem State.setChn_sw (s : State) (c : Nat) (x : Chan) : (s.setChn c x).sw = s.sw := rfl
@[simp] theorem State.setChn_fans (s : State) (c : Nat) (x : Chan) : (s.setChn c x).fans = s.fans := rfl
@[simp] theorem State.setChn_trc (s : State) (c : Nat) (x : Chan) : (s.setChn c x).trc = s.trc := rfl
@[simp] theorem State.setChn_rd (s : State) (c : Nat) (x : Chan) (r' : Reg) (i' : Nat) : (s.setChn c x).rd r' i' = s.rd r' i' := rfl

@[simp] theorem State.setStl_pending (s : State) (i : Nat) (x : Stall) : (s.setStl i x).pending = s.pending := rfl
@[simp] theorem State.setStl_free (s : State) (i : Nat) (x : Stall) : (s.setStl i x).free = s.free := rfl
@[simp] theorem State.setStl_regs (s : State) (i : Nat) (x : Stall) : (s.setStl i x).regs = s.regs := rfl
@[simp] theorem State.setStl_mem (s : State) (i : Nat) (x : Stall) : (s.setStl i x).mem = s.mem := rfl
@[simp] theorem State.setStl_reply (s : State) (i : Nat) (x : Stall) : (s.setStl i x).reply = s.reply := rfl
@[simp] theorem State.setStl_unit (s : State) (i : Nat) (x : Stall) : (s.setStl i x).unit = s.unit := rfl
@[simp] theorem State.setStl_img (s : State) (i : Nat) (x : Stall) : (s.setStl i x).img = s.img := rfl
@[simp] theorem State.setStl_keep (s : State) (i : Nat) (x : Stall) : (s.setStl i x).keep = s.keep := rfl
@[simp] theorem State.setStl_tick (s : State) (i : Nat) (x : Stall) : (s.setStl i x).tick = s.tick := rfl
@[simp] theorem State.setStl_pins (s : State) (i : Nat) (x : Stall) : (s.setStl i x).pins = s.pins := rfl
@[simp] theorem State.setStl_port (s : State) (i : Nat) (x : Stall) : (s.setStl i x).port = s.port := rfl
@[simp] theorem State.setStl_stage (s : State) (i : Nat) (x : Stall) : (s.setStl i x).stage = s.stage := rfl
@[simp] theorem State.setStl_le (s : State) (i : Nat) (x : Stall) : (s.setStl i x).le = s.le := rfl
@[simp] theorem State.setStl_copyEcc (s : State) (i : Nat) (x : Stall) : (s.setStl i x).copyEcc = s.copyEcc := rfl
@[simp] theorem State.setStl_lc (s : State) (i : Nat) (x : Stall) : (s.setStl i x).lc = s.lc := rfl
@[simp] theorem State.setStl_rail (s : State) (i : Nat) (x : Stall) : (s.setStl i x).rail = s.rail := rfl
@[simp] theorem State.setStl_seq (s : State) (i : Nat) (x : Stall) : (s.setStl i x).seq = s.seq := rfl
@[simp] theorem State.setStl_adc (s : State) (i : Nat) (x : Stall) : (s.setStl i x).adc = s.adc := rfl
@[simp] theorem State.setStl_hint (s : State) (i : Nat) (x : Stall) : (s.setStl i x).hint = s.hint := rfl
@[simp] theorem State.setStl_ldg (s : State) (i : Nat) (x : Stall) : (s.setStl i x).ldg = s.ldg := rfl
@[simp] theorem State.setStl_cmp (s : State) (i : Nat) (x : Stall) : (s.setStl i x).cmp = s.cmp := rfl
@[simp] theorem State.setStl_core (s : State) (i : Nat) (x : Stall) : (s.setStl i x).core = s.core := rfl
@[simp] theorem State.setStl_l2 (s : State) (i : Nat) (x : Stall) : (s.setStl i x).l2 = s.l2 := rfl
@[simp] theorem State.setStl_poison (s : State) (i : Nat) (x : Stall) : (s.setStl i x).poison = s.poison := rfl
@[simp] theorem State.setStl_evd (s : State) (i : Nat) (x : Stall) : (s.setStl i x).evd = s.evd := rfl
@[simp] theorem State.setStl_mbx (s : State) (i : Nat) (x : Stall) : (s.setStl i x).mbx = s.mbx := rfl
@[simp] theorem State.setStl_dma (s : State) (i : Nat) (x : Stall) : (s.setStl i x).dma = s.dma := rfl
@[simp] theorem State.setStl_basin (s : State) (i : Nat) (x : Stall) : (s.setStl i x).basin = s.basin := rfl
@[simp] theorem State.setStl_pwr (s : State) (i : Nat) (x : Stall) : (s.setStl i x).pwr = s.pwr := rfl
@[simp] theorem State.setStl_ext (s : State) (i : Nat) (x : Stall) : (s.setStl i x).ext = s.ext := rfl
@[simp] theorem State.setStl_sw (s : State) (i : Nat) (x : Stall) : (s.setStl i x).sw = s.sw := rfl
@[simp] theorem State.setStl_fans (s : State) (i : Nat) (x : Stall) : (s.setStl i x).fans = s.fans := rfl
@[simp] theorem State.setStl_trc (s : State) (i : Nat) (x : Stall) : (s.setStl i x).trc = s.trc := rfl
@[simp] theorem State.setStl_rd (s : State) (i : Nat) (x : Stall) (r' : Reg) (i' : Nat) : (s.setStl i x).rd r' i' = s.rd r' i' := rfl

@[simp] theorem State.unitAt_setUnit (s : State) (kind idx : Nat) (u : UnitSt) : (s.setUnit kind idx u).unitAt kind idx = u := tget_tset_same _ _ _ _
@[simp] theorem State.prt_setPrt (s : State) (n : Nat) (x : Port) : (s.setPrt n x).prt n = x := tget_tset_same _ _ _ _
theorem State.prt_setPrt_ne (s : State) {n k : Nat} (x : _) (h : n ≠ k) : (s.setPrt n x).prt k = s.prt k := tget_tset_ne _ _ _ h
@[simp] theorem State.stg_setStg (s : State) (n : Nat) (x : Stage) : (s.setStg n x).stg n = x := tget_tset_same _ _ _ _
theorem State.stg_setStg_ne (s : State) {n k : Nat} (x : _) (h : n ≠ k) : (s.setStg n x).stg k = s.stg k := tget_tset_ne _ _ _ h
@[simp] theorem State.leAt_setLe (s : State) (n : Nat) (x : LoopEngine) : (s.setLe n x).leAt n = x := tget_tset_same _ _ _ _
theorem State.leAt_setLe_ne (s : State) {n k : Nat} (x : _) (h : n ≠ k) : (s.setLe n x).leAt k = s.leAt k := tget_tset_ne _ _ _ h
@[simp] theorem State.lcAt_setLc (s : State) (n : Nat) (x : LoopCluster) : (s.setLc n x).lcAt n = x := tget_tset_same _ _ _ _
theorem State.lcAt_setLc_ne (s : State) {n k : Nat} (x : _) (h : n ≠ k) : (s.setLc n x).lcAt k = s.lcAt k := tget_tset_ne _ _ _ h
@[simp] theorem State.rl_setRl (s : State) (n : Nat) (x : Rail) : (s.setRl n x).rl n = x := tget_tset_same _ _ _ _
theorem State.rl_setRl_ne (s : State) {n k : Nat} (x : _) (h : n ≠ k) : (s.setRl n x).rl k = s.rl k := tget_tset_ne _ _ _ h
@[simp] theorem State.stepAt_setStep (s : State) (n : Nat) (x : SeqStep) : (s.setStep n x).stepAt n = x := tget_tset_same _ _ _ _
theorem State.stepAt_setStep_ne (s : State) {n k : Nat} (x : _) (h : n ≠ k) : (s.setStep n x).stepAt k = s.stepAt k := tget_tset_ne _ _ _ h
@[simp] theorem State.cor_setCor (s : State) (n : Nat) (x : Core) : (s.setCor n x).cor n = x := tget_tset_same _ _ _ _
theorem State.cor_setCor_ne (s : State) {n k : Nat} (x : _) (h : n ≠ k) : (s.setCor n x).cor k = s.cor k := tget_tset_ne _ _ _ h
@[simp] theorem State.mb_setMb (s : State) (n : Nat) (x : Mailbox) : (s.setMb n x).mb n = x := tget_tset_same _ _ _ _
theorem State.mb_setMb_ne (s : State) {n k : Nat} (x : _) (h : n ≠ k) : (s.setMb n x).mb k = s.mb k := tget_tset_ne _ _ _ h
@[simp] theorem State.xp_setXp (s : State) (n : Nat) (x : ExtPort) : (s.setXp n x).xp n = x := tget_tset_same _ _ _ _
theorem State.xp_setXp_ne (s : State) {n k : Nat} (x : _) (h : n ≠ k) : (s.setXp n x).xp k = s.xp k := tget_tset_ne _ _ _ h
@[simp] theorem State.tsrc_setTsrc (s : State) (n : Nat) (x : TraceSrc) : (s.setTsrc n x).tsrc n = x := tget_tset_same _ _ _ _
theorem State.tsrc_setTsrc_ne (s : State) {n k : Nat} (x : _) (h : n ≠ k) : (s.setTsrc n x).tsrc k = s.tsrc k := tget_tset_ne _ _ _ h
@[simp] theorem State.prtn_setPrtn (s : State) (n : Nat) (x : Partner) : (s.setPrtn n x).prtn n = x := tget_tset_same _ _ _ _
theorem State.prtn_setPrtn_ne (s : State) {n k : Nat} (x : _) (h : n ≠ k) : (s.setPrtn n x).prtn k = s.prtn k := tget_tset_ne _ _ _ h
@[simp] theorem State.chn_setChn (s : State) (n : Nat) (x : Chan) : (s.setChn n x).chn n = x := tget_tset_same _ _ _ _
theorem State.chn_setChn_ne (s : State) {n k : Nat} (x : _) (h : n ≠ k) : (s.setChn n x).chn k = s.chn k := tget_tset_ne _ _ _ h
@[simp] theorem State.stl_setStl (s : State) (n : Nat) (x : Stall) : (s.setStl n x).stl n = x := tget_tset_same _ _ _ _
theorem State.stl_setStl_ne (s : State) {n k : Nat} (x : _) (h : n ≠ k) : (s.setStl n x).stl k = s.stl k := tget_tset_ne _ _ _ h

/-! ### Registers after a write of one of them -/

theorem Reg.eq_of_ctorIdx {a b : Reg} (h : a.ctorIdx = b.ctorIdx) : a = b := by
  have := congrArg Reg.ofNat h
  simpa [Reg.ofNat_ctorIdx] using this

theorem State.rd_wr (s : State) (r r' : Reg) (i i' : Nat) (v : W32) : (s.wr r i v).rd r' i' = if r' = r ∧ i' = i then v else s.rd r' i' := by
  unfold State.wr State.rd
  simp only [tget_tset]
  by_cases h : r' = r
  · subst h; simp [tget_tset, eq_comm]
  · have : r.ctorIdx ≠ r'.ctorIdx := fun e => h (Reg.eq_of_ctorIdx e.symm)
    simp [h, this]

@[simp] theorem State.rd_wr_same (s : State) (r : Reg) (i : Nat) (v : W32) : (s.wr r i v).rd r i = v := by simp [State.rd_wr]
theorem State.rd_wr_ne (s : State) {r r' : Reg} (h : r' ≠ r) (i i' : Nat) (v : W32) : (s.wr r i v).rd r' i' = s.rd r' i' := by simp [State.rd_wr, h]
theorem State.rd_wr_idx (s : State) (r : Reg) {i i' : Nat} (h : i' ≠ i) (v : W32) : (s.wr r i v).rd r i' = s.rd r i' := by simp [State.rd_wr, h]

end Sys2Proof.Machine
end

