-- ==== Sys2Proof/Tests/Slice0.lean ====
section
/-!
SUPPORT. The model's own tests: ill-formed operands, words written out from the encodings of chapters 06 and 11, states that meet the hypotheses of each statement, and single steps.
-/
namespace Sys2Proof.Tests
open Sys2Proof.Machine

/-! ## Small states -/

/-- `n` bytes, zero but for the listed. -/
def ent (n : Nat) (l : List (Nat × Nat)) : Bytes := (List.range n).map (fun i => BitVec.ofNat 8 (tget 0 l i))

/-- An image: a tick of 20 µs, PL port 0 with two stages, host port 0 of class OWNER, rail 0 with its weir and step. -/
def img0 : Tab (Tab Bytes) :=
  [(tPKG, [(0, ent 8 [(0, 20)])]),
   (tREG, [(0, ent 8 [(1, 1)]), (1, ent 8 [(0, 1), (1, 1)]), (2, ent 8 [(0, 2), (1, 1)]), (3, ent 8 [(0, 3), (1, 1)])]),
   (tPORT, [(portKey 1 0, ent 8 [(0, 1)]), (portKey 2 0, ent 8 [(0, 2)]), (portKey 0x20 0, ent 8 [(0, 0x20), (2, 2), (3, 1)]), (portKey 0x21 0, ent 8 [(0, 0x21), (3, 1)])]),
   (tCLASS, [(0, ent 8 [])]),
   (tSTAGE, [(0, ent 8 [(1, 0xFF), (3, 2), (4, 3)])]),
   (tRAIL, [(0, ent 96 [(1, 2), (2, 5), (10, 0xD0), (11, 7), (12, 0xE8), (13, 3), (16, 1), (17, 0xFF), (18, 1), (19, 4), (20, 100), (22, 10), (34, 1)])]),
   (tWEIR, [(0, ent 32 [(2, 0xFF), (3, 0x3F), (10, 100), (16, 200), (18, 50), (20, 9), (22, 100)])]),
   (tSEQ, [(0, ent 32 [(4, 0xFF), (5, 0xFF), (6, 0xFF), (7, 0xFF), (12, 10)])])]

/-- The part in service: all regions, the tick running, the PL drivers on. -/
def live : State :=
  let s : State := { State.reset with
    img := { State.reset.img with sec := img0 }
    keep := { State.reset.keep with boot := .running }
    pins := { State.reset.pins with porst := false, plOn := true } }
  ((s.pf .IMG_STATUS 0 F.IMG_STATUS.IN_SERVICE 0xF).pb .TICK_STATUS 0 F.TICK_STATUS.RUNNING true).pb .TICK_STATUS 0 F.TICK_STATUS.LOCKED true

/-- Core 0 at level M. -/
def m0 : Req := { agent := .core 0, lvl := .m, sid := 0, cls := 0 }
/-- Core 0 at level U. -/
def u0 : Req := { m0 with lvl := .u }
/-- The start of the basin. -/
def bb : Nat := basinBase

def admits (s : State) (who : Req) (r : Reg) (i : Nat) : Bool :=
  s.gate who (r.addrOf i) true == .reg r i none && (decide (r.desc.wrLvl.num ≤ reqRights who) || isPort who) && (!inKeep r || !isDebug who)
    && (r != .CH_CTL || s.chCtlOk who i)

theorem admits_of {s : State} {who : Req} {r : Reg} {i : Nat} (h : admits s who r i = true) : s.Admits who r i := by
  simp only [admits, Bool.and_eq_true, beq_iff_eq, Bool.or_eq_true, decide_eq_true_eq, Bool.not_eq_true', bne_iff_ne, ne_eq] at h
  obtain ⟨⟨⟨a, b⟩, c⟩, d⟩ := h
  exact ⟨a, b, fun e => c.resolve_left (by simp [e]), fun e => d.resolve_left (fun f => f e)⟩

theorem shows_of {s : State} {who : Req} {r : Reg} {i : Nat} (a : s.gate who (r.addrOf i) false = .reg r i none)
    (b : r.desc.rdLvl.num ≤ reqRights who ∨ isPort who = true) : s.Shows who r i := ⟨a, b⟩

/-! ## Ill-formed operands -/

def conv0 : Conv := { c1 := 0, c2 := 0, c3 := 0, c4 := 0 }
def flash0 : BootFlash := { images := [], firmwares := [] }
def site0 : BootSite := { trained := 0xF, codeEcc := [], netHeld := false }
def media0 : BootMedia := { trngOk := true, loaders := [], images := [], firmwares := [], trained := 0xF, codeEcc := [], netHeld := false }

theorem test_illformed_sense : (Instr.senseSampleReady [] conv0).wf = false := by decide
theorem test_illformed_uart : (Instr.uartLoaderBlock [] 0 flash0 site0).wf = false := by decide
theorem test_illformed_mig : (Instr.migRx [] 0).wf = false := by decide
theorem test_illformed_unit : (Instr.uncorrectableFault (.unit 0 32)).wf = false ∧ (Instr.uncorrectableFault (.unit 0 31)).wf = true := by decide
theorem test_illformed_stops : exec (.migRx [] 0) State.reset = .fault .illFormed := rfl

/-! ## Words of the spec's own examples and encodings -/

/-- The four words of chapter 11's worked example. -/
theorem test_word_addkm : wordP64 (.addkm 0 5 0 1) = some 0x22802001 := by decide
theorem test_word_mkhi : wordP64 (.mkhi 0 6 0x500) = some 0xA3000500 := by decide
theorem test_word_shlk : wordP64 (.shlk 0 5 5 45) = some 0x2294E02D := by decide
theorem test_word_or : wordP64 (.or 0 5 5 6 0) = some 0x1294C005 := by decide
/-- 0x0000_0000 is NOP; classes 0b1101 to 0b1111 are reserved (R363, R364). -/
theorem test_word_known : knownP64 0 = true ∧ knownP64 0xD0000000 = false ∧ knownP64 0xFFFFFFFF = false := by decide
/-- SUB k3, k2, k1 is opcode 0b000010 with d 3, a 2, b 1 (R215, R216). -/
theorem test_word_le_sub : decodeLe 12 0b00001000110010000100000000000000 .ok .ok = some (.leSub 12 0b00110010000100000000000000 .ok) := by decide
/-- The fill word and opcode 0b111111 are no instruction (R216). -/
theorem test_word_le_reserved : decodeLe 0 0xFFFFFFFF .ok .ok = none ∧ decodeLe 0 0 .ok .ok = some (.leNop 0 0 .ok) := by decide

/-! ## States that meet the hypotheses of the statements -/

/-! ### The machine as a whole -/

theorem test_meets_EmptyQueueAdvancesTimebase : live.pending = [] ∧
    (∀ j, ({ live with tick := { live.tick with tb := live.idleTb } } : State).leReserved j = false) ∧
    (∀ n, ({ live with tick := { live.tick with tb := live.idleTb } } : State).coreReserved n = false) := by decide

theorem test_meets_StepKeepsInvariant : live.Inv ∧ ∃ t, step { live with pending := [.cancel m0 0] } = .next t :=
  ⟨⟨by decide, fun _ ba => by cases ba <;> exact Nat.zero_le _, fun _ => ⟨Nat.zero_le _, Nat.zero_le _, Nat.zero_le _⟩⟩, _, rfl⟩

theorem test_meets_FusesStayAndCountersRise : ∃ t, step { live with pending := [.counterIncrementDone] } = .next t := ⟨_, rfl⟩
theorem test_meets_CommandsChangeOnlyTheirParts : ∃ t, exec .porstNAssert live = .next t := ⟨_, rfl⟩

/-! ### Registers and the keep -/

/-- A write is admitted; one by U of a register of M is not, and its unit answers; an address that no unit answers. -/
theorem test_meets_RegisterCommandsWriteTheirRegister :
    (Instr.keepCntInc m0 0).write = some (m0, .KEEP_CNT_CTL, 0, 0x100) ∧ live.Admits m0 .KEEP_CNT_CTL 0 ∧
    live.gate u0 (Reg.addrOf .KEEP_CNT_CTL 0) true = .reg .KEEP_CNT_CTL 0 none ∧ reqRights u0 < (Reg.desc .KEEP_CNT_CTL).wrLvl.num ∧ isPort u0 = false ∧
    (live.setUnit 10 0 { live.unitAt 10 0 with fenced := true }).gate m0 (Reg.addrOf .PORT_CTL 0) true = .bus none :=
  ⟨rfl, admits_of (by decide), by decide, by decide, by decide, by decide⟩

theorem test_meets_PlainRegisters :
    (0x200002000030 : BitVec 48).toNat = Reg.addrOf .KEEP_JOB_ADDR_LO 0 ∧ live.rgn 0x200002000030 = .ctl ∧ Reg.KEEP_JOB_ADDR_LO ∉ Reg.acting ∧ Reg.KEEP_JOB_ADDR_LO ∉ Reg.computed ∧
    live.Admits m0 .KEEP_JOB_ADDR_LO 0 ∧ live.Shows m0 .KEEP_JOB_ADDR_LO 0 ∧
    ¬(live.engineUp 0x200002000030).RailAbsent .KEEP_JOB_ADDR_LO 0 ∧ (live.engineUp (Reg.addrOf .RAIL_CTL 63)).RailAbsent .RAIL_CTL 63 ∧ live.Admits m0 .RAIL_CTL 63 :=
  ⟨by decide, by decide, by decide, by decide, admits_of (by decide), shows_of (by decide) (by decide), by unfold State.RailAbsent; decide, by unfold State.RailAbsent; decide, admits_of (by decide)⟩

/-- No increment and no move runs; of a fresh chip and of a provisioned one with an owner key the first moves are granted. -/
theorem test_meets_CountersAndLifecycle : live.Admits m0 .KEEP_CNT_CTL 0 ∧ live.Admits m0 .KEEP_LC_CTL 0 ∧ live.keep.incBusy = none ∧ live.keep.lcBusy = none ∧
    (∃ m ∈ lifecycleMoves, m.1 = 0x1 ∧ m.2.1 = 0x3 ∧ 0 ∈ m.2.2) ∧ (∃ m ∈ lifecycleMoves, m.1 = 0x3 ∧ m.2.1 = 0x7 ∧ 1 ∈ m.2.2) ∧
    ({ live.keep with slotEc := [(3, 1)] } : Keep).ownerKey = true ∧ live.keep.ownerKey = false :=
  ⟨admits_of (by decide), admits_of (by decide), by decide⟩

/-- A descriptor at the start of the basin: OP, input of `n` bytes and output of `m` at 4 KiB and 8 KiB. -/
def withJob (op n m : Nat) : State :=
  let s := (live.wr .KEEP_JOB_ADDR_HI 0 0x1000).mput bb (ent 64 [(0, op), (1, if op = 9 then 5 else 0), (9, 0x10), (13, 0x10), (16, n), (20, m % 256), (21, m / 256), (25, 0x20), (29, 0x10)])
  { s with keep := { s.keep with block := some 0 } }

theorem test_meets_KeepJobs : (withJob 1 3 32).Admits m0 .KEEP_JOB_CTL 0 ∧ (withJob 1 3 32).keep.job = none ∧
    (jobOf (ent 64 [(0, 1), (9, 0x10), (13, 0x10), (16, 3), (20, 32), (25, 0x20), (29, 0x10)])).code = none :=
  ⟨admits_of (by decide), by decide, by decide⟩

theorem test_meets_KeepJobs_sign : ((withJob 5 48 3676).memRd edReq (withJob 5 48 3676).jobAddr 64).isSome = true ∧ (withJob 5 48 3676).keep.trngOk = true ∧
    (withJob 5 48 3676).keep.exhausted = false ∧ (withJob 5 48 3676).keep.block.isSome = true ∧ (withJob 5 48 3676).keep.hssIdx < 1023 ∧ 0 < (withJob 5 48 3676).refill.keep.bucket ∧
    (((withJob 5 48 3676).memRd edReq (withJob 5 48 3676).jobAddr 64).map (fun b => (jobOf b).code)) = some none := by decide

/-- A request by host port 0, whose class is OWNER, and one by port 1, which no PORT entry turns on. -/
def via0 : SpdmVia := { port := 0, sub := 0, sid := 0 }
theorem test_meets_SpdmResponder : live.SpdmGranted via0 ∧ (live.ses 0).established = true ∧ live.mctpUp { via0 with port := 1 } = false ∧
    ({ live with keep := { live.keep with block := some 0 } } : State).canSign ∧
    (live.ses 7).established = false ∧ ({ live with keep := { live.keep with sess := [(7, { opened := true, established := false, keyGen := 0, cosign := [] })] } } : State).SpdmGranted { via0 with sid := 7 } :=
  ⟨⟨by decide, by decide, by decide⟩, by decide, by decide, by unfold State.canSign; decide, by decide, ⟨by decide, by decide, by decide⟩⟩

/-! ### Amendments, resets, the tick, sense channels -/

/-- An amendment that a port of class OWNER submitted is held. -/
def amd0 : Amend := { len := 0, cls := 0, verifyOnly := false, n := none, verified := false, staged := false, committed := false, ins := [] }
def held (a : Amend) : State := { live with img := { live.img with held := some a } }

theorem test_meets_Amendments : live.Admits m0 .IMG_AMD_CTL 0 ∧ live.pwr.step = none ∧ bit (0 : W32).toNat 1 = false ∧ (held amd0).img.held.isSome = true ∧
    (live.plainWrite .IMG_AMD_CTL 0 1).img.held = none ∧ ((live.plainWrite .IMG_AMD_CTL 0 1).memRd edReq 0 0) = some [] ∧ (held amd0).noneBroughtIn ∧
    (held amd0).amdVerify amd0 = (2, 0) :=
  ⟨admits_of (by decide), by decide, by decide, by decide, by decide, by decide, by unfold State.noneBroughtIn; decide, by decide⟩

/-- Verified; staged, late and in time; at the commit point of tick N. -/
def amdV (n : Nat) : Amend := { amd0 with verified := true, n := some n }
theorem test_meets_Amendments_stage : ({ held (amdV 1) with tick := { live.tick with count := 1 } } : State).isLate 1 = true ∧ (held (amdV 9)).isLate 9 = false ∧ (amdV 0).verified = true ∧ (amdV 0).staged = false := by decide
theorem test_meets_Amendments_commit : (∀ c, c < 4 → (live.lcAt c).release = false) ∧ live.tick.count + 1 = 1 ∧
    (held { amdV 1 with staged := true }).amdBusy (amdStruc []) (mergeStruc live.img.sec (amdStruc [])) = 0 ∧
    (held { amdV 1 with staged := true }).amdConflict (mergeStruc live.img.sec (amdStruc [])) = false ∧
    (held { amdV 1 with staged := true }).roleOk (amdStruc []) = true := by decide +kernel
theorem test_meets_Amendments_drain : bit ({ live with img := { live.img with draining := 8 } } : State).img.draining (3 : Fin 4) = true := by decide

theorem test_meets_Resets : live.pins.porst = false ∧ live.pwr.asleep = 0 ∧ State.reset.pins.porst = true ∧ State.reset.pins.sysrst = false ∧
    firstCopy (State.reset.objOk 1 0) 0 (media0.loaders.take 4) = none ∧ live.keep.boot = .running ∧ live.inService 0 = true ∧ bit live.img.hold (0 : Fin 4) = false := by decide
theorem test_meets_Resets_tickStart : let s : State := { live with keep := { live.keep with boot := .applied } }
    s.keep.boot = .applied ∧ s.gb .TICK_STATUS 0 F.TICK_STATUS.STOPPED = false ∧ s.tick.dark = false := by decide
theorem test_meets_Resets_uart (blk : Bytes) (h : blk.length = 1024) : (Instr.uartLoaderBlock blk 0 flash0 site0).wf = true ∧ (∃ c : W32, crc32 blk = c.toNat) ∧ (∃ c : W32, crc32 blk ≠ c.toNat) := by
  refine ⟨by simp [Instr.wf, h], ⟨BitVec.ofNat 32 (crc32 blk), ?_⟩, ?_⟩
  · rw [BitVec.toNat_ofNat]; exact (Nat.mod_eq_of_lt (crc32_lt blk)).symm
  · by_cases h0 : crc32 blk = 0
    · refine ⟨1#32, ?_⟩; rw [h0]; decide
    · exact ⟨0#32, h0⟩
/-- The first block of an object of 1,024 bytes and its signature block; more blocks are awaited. -/
theorem test_meets_Resets_object : objLen ([0x58, 0x52, 0x58, 0x4C] ++ List.replicate 20 0 ++ [0, 4, 0, 0]) = some 4568 ∧
    ({ live with keep := { live.keep with boot := .waitLoader } } : State).keep.lcInForce ≠ 0xF := by decide
def asleep (n : Nat) : State :=
  { (live.wr .PWR_WAKE_EN 0 0x3FF) with pwr := { live.pwr with asleep := n, stby := if n = 1 then some { sec := [], bank := [], code := [], lens := [] } else none } }
theorem test_meets_Wake : (asleep 1).getB .PWR_WAKE_EN 0 9 = true ∧ (asleep 1).pins.porst = false ∧ (asleep 1).pwr.step = none ∧ (asleep 1).pwr.stby.isSome = true ∧
    (asleep 2).getB .PWR_WAKE_EN 0 2 = true ∧ (asleep 2).pwr.asleep = 2 ∧ (asleep 2).pwr.stby = none := by decide
theorem test_meets_Faults : kindCount 10 = 52 ∧ unitSource 10 51 = some 819 ∧ unitSource 9 127 = some 383 := by decide

/-- The tick runs; on TICK_IN; in the dark. -/
def onIn : State := { live.pb .TICK_STATUS 0 F.TICK_STATUS.ON_TICKIN true with cmp := { live.cmp with role := 2, act := .shadow }, tick := { live.tick with tickIn := true } }
theorem test_meets_Tick : live.ticking = true ∧ live.tick.dark = false ∧ live.cmp.joinAt = none ∧ live.onTickIn = false ∧ onIn.onTickIn = true ∧ onIn.ticking = true ∧
    48 < (49 : BitVec 16).toInt.natAbs ∧ live.gb .TICK_STATUS 0 F.TICK_STATUS.STOPPED = false ∧ live.gb .TICK_STATUS 0 F.TICK_STATUS.LOCKED = true := by decide

theorem test_meets_Sense : (List.replicate 64 conv0).length = 64 ∧ 8 ≤ tget 0 ({ live with adc := { satRun := [(79, 8)] } } : State).adc.satRun 79 ∧ live.getB (satReg 79) 0 (79 % 32) = false := by decide
def hint0 : HintRx := { b := BitVec.ofNat 48 (crc8 [0, 0, 0, 0, 0]), bad := false, ns := 0 }
def hinted : State := live.pb .HINT_CTL 0 F.HINT_CTL.EN true
theorem test_meets_Hint : hint0.good ∧ ¬({ hint0 with bad := true } : HintRx).good ∧ hinted.hintOn 0 = true ∧ hinted.gb .HINT_CTL 0 F.HINT_CTL.EN = true ∧ hinted.fenced 7 0 = false ∧
    (hinted.railE (hintChar hint0.b 0 % 64)).isSome = true ∧ bit (u8 (hinted.railD 0) 17) 0 = true ∧ (hinted.railE 63).isNone = true := by unfold HintRx.good; decide

/-! ### Loop engines -/

/-- LE 0 with these registers. -/
def le (x : LoopEngine) : State := live.setLe 0 x
/-- LE 0 runs. -/
def leRun : LoopEngine := { LoopEngine.init with st := .run, cyc := 50 }

theorem goes_of {s : State} {i : Instr} {j : Fin 36} {w : BitVec 26} {f : Ecc}
    (h : (match i.leForm with | some (j', w', f', m, x) => j' == j && w' == w && f' == f && (w.toNat &&& m == 0) && (!x || !(s.leAt j).atEnd) | none => false) = true)
    (h1 : (s.leAt j).st = .run) (h2 : (s.leAt j).cyc + 30 < s.tlen) (h3 : (s.leAt j).marked = false) (h4 : f ≠ .two) : s.LeGoes i j w f := by
  refine ⟨?_, h1, h2, h3, h4⟩
  cases e : i.leForm with
  | none => simp [e] at h
  | some q =>
    obtain ⟨a, b, c, m, x⟩ := q
    simp only [e, Bool.and_eq_true, beq_iff_eq, Bool.or_eq_true, Bool.not_eq_true'] at h
    obtain ⟨⟨⟨⟨rfl, rfl⟩, rfl⟩, q⟩, r⟩ := h
    exact ⟨m, x, rfl, q, fun hx => r.resolve_left (by simp [hx])⟩

theorem test_meets_LoopEngineResults : (le leRun).LeGoes (.leAdd 0 0 .ok) 0 0 .ok ∧ (Instr.leAdd 0 0 .ok).leK ((le leRun).leAt 0) = some (0, 0) ∧
    (Instr.leAdd 0 0 .ok).leK ((leRun.ks 0 0x7FFFFFFF)) = some (0, 2 * (2 ^ 31 - 1)) ∧ (Instr.leAdd 0 0 .ok).leK (leRun.ks 0 0x80000000) = some (0, -2 ^ 32) :=
  ⟨goes_of (by decide) (by decide) (by decide) (by decide) (by decide), by decide, by decide, by decide⟩
theorem test_meets_LoopEngineAccumulators : (le leRun).LeGoes (.leMac 0 0 .one) 0 0 .one ∧ (Instr.leMac 0 0 .ok).leM leRun = some (0, 0) ∧
    (Instr.leMac 0 0 .ok).leM ((leRun.ms 0 (BitVec.ofInt 72 (2 ^ 71 - 1))).ks 0 1) = some (0, 2 ^ 71) ∧
    (le leRun).LeGoes (.leRsr 0 15 .ok) 0 15 .ok ∧ (le leRun).LeGoes (.leEvp 0 7 .ok) 0 7 .ok :=
  ⟨goes_of (by decide) (by decide) (by decide) (by decide) (by decide), by decide, by decide,
    goes_of (by decide) (by decide) (by decide) (by decide) (by decide), goes_of (by decide) (by decide) (by decide) (by decide) (by decide)⟩
theorem test_meets_LoopEngineIllFormedWords : (le leRun).leRuns 0 = true ∧ live.leRuns 0 = false ∧ { leRun with lbuf := some [], lbad := 1 }.marked = true ∧
    (1 : BitVec 26).toNat &&& 0x3FFFFFF ≠ 0 ∧ { leRun with lc0 := 1, le0 := 0x00000000 }.atEnd = true := by decide
theorem test_meets_LoopEngineLoadsAndStores : (le leRun).LeGoes (.leLd 0 0x4000 .ok .ok) 0 0x4000 .ok ∧
    ((Instr.leLd 0 0x4000 .ok .ok).leAcc leRun).map (·.addr) = some 0x4000 ∧ ((Instr.leSt 0 0x4000 .ok).leAcc (leRun.ps 0 0x80000)).map (·.addr) = some 0x84000 ∧
    (live.pf .LC_LE_SHWIN 0 F.LC_LE_SHWIN.LEN 8).leWindow 0 0x4000 4 ∧ ¬live.leWindow 0 0x4000 4 ∧ leRun.cyc + 1 + 30 ≤ live.tlen :=
  ⟨goes_of (by decide) (by decide) (by decide) (by decide) (by decide), by decide, by decide, by unfold State.leWindow; decide, by unfold State.leWindow; decide, by decide⟩
theorem test_meets_LoopEngineTransfersLoopsAndWaits : (le leRun).LeGoes (.leBeq 0 1 .ok) 0 1 .ok ∧ ((Instr.leBeq 0 1 .ok).leJump leRun).map (·.2.1) = some 2 ∧
    (le leRun).LeGoes (.leLoop 0 0x802 .ok) 0 0x802 .ok ∧ loopForm 0x802 ∧ leRun.loopFits 0x802 ∧ leRun.loopCount 0x802 = 2 ∧ leRun.loopFits 2 ∧ leRun.loopCount 2 = 0 ∧
    ¬{ leRun with lc0 := 1 }.loopFits 2 ∧ (le leRun).LeGoes (.leWaits 0 1 .ok) 0 1 .ok ∧ (le { leRun with st := .wait }).waitMet 0 51 &&& 1 = 0 ∧
    (le { leRun with setNow := true, set := some ((le leRun).mkSet 0) }).waitMet 0 4000 &&& 1 ≠ 0 :=
  ⟨goes_of (by decide) (by decide) (by decide) (by decide) (by decide), by decide, goes_of (by decide) (by decide) (by decide) (by decide) (by decide),
    by unfold loopForm; decide, by unfold LoopEngine.loopFits; decide, by decide, by unfold LoopEngine.loopFits; decide, by decide, by unfold LoopEngine.loopFits; decide,
    goes_of (by decide) (by decide) (by decide) (by decide) (by decide), by decide, by decide⟩
theorem test_meets_LoopEngineSamplesAndCommands : (le leRun).LeGoes (.leRds 0 0 .ok) 0 0 .ok ∧ (le leRun).LeGoes (.leSendp 0 0 .ok) 0 0 .ok ∧
    (le leRun).LeGoes (.leCommit 0 0 .ok) 0 0 .ok ∧ (le leRun).LeGoes (.leEnd 0 0 .ok) 0 0 .ok ∧ idxForm 0 ∧ ¬idxForm 0x20001 ∧
    live.leServes 0 = some (0, 0) ∧ live.leServes 5 = none ∧ live.server 0 = 0 ∧ live.seqStopped 0 = false ∧ (live.phasesOf 0).length = 2 ∧
    ¬live.ownsPos 5 0 ∧ (le { leRun with cyc := 3930, started := true }).leOver 0 = true ∧ live.Admits m0 .LC_SPARE_CTL 0 ∧ live.Admits m0 .LC_REC_CTL 3 ∧ live.Admits m0 .LC_LE_CTL (leIdx 35) :=
  ⟨goes_of (by decide) (by decide) (by decide) (by decide) (by decide), goes_of (by decide) (by decide) (by decide) (by decide) (by decide),
    goes_of (by decide) (by decide) (by decide) (by decide) (by decide), goes_of (by decide) (by decide) (by decide) (by decide) (by decide),
    by unfold idxForm; decide, by unfold idxForm; decide, by decide, by decide, by decide, by decide, by decide,
    by rintro ⟨r, g, h, -⟩; exact absurd h (by rw [show live.leServes 5 = none by decide]; simp), by decide, admits_of (by decide), admits_of (by decide), admits_of (by decide)⟩
theorem test_meets_ownsPos : live.ownsPos 0 1 := ⟨0, 0, by decide, by decide, by decide⟩

/-! ### Stages, PL ports, rails, the sequencer -/

/-- Stage 0 is powered, in this state. -/
def stage (x : Stage) : State := live.setStg 0 x
def stRun : Stage := { Stage.init with powered := true, st := .run, enable := true, locked := 16, marker := .run }
theorem test_meets_Stages : (Instr.current 0 0 5 true).lineFrame = some (0, 1, 0, 5, true) ∧ ((stage stRun).stg 0).takes ∧ addressed 0 1 0 5 ∧ ¬addressed 0 1 1 5 ∧
    stRun.actOvr = false ∧ stRun.actPwr = false ∧ stRun.get 0x11 ≠ 1 ∧ ({ stRun with reg := [(0x11, 1)] } : Stage).get 0x11 = 1 ∧ stRun.badFields 3 0 1 true = true ∧
    (1 : BitVec 16).toNat < 256 := by unfold Stage.takes addressed; decide
theorem test_meets_StageRegisters : ({ stRun with st := .ready }.managed).writable 0x10 4 ∧ ¬stRun.managed.writable 0x10 9 ∧ stRun.managed.has 0x30 = false ∧ stRun.has 0x14 = true ∧
    stRun.actMgmt = false ∧ stRun.get 0x10 ≤ { stRun with missed := 4 }.missed ∧ 16 ≤ stRun.locked ∧ stRun.marker ≠ .test ∧ stRun.counts = true := by unfold Stage.writable; decide

/-- Port 0 in a state, with this content. -/
def port (st : Nat) (p : Port) : State := (live.setPrt 0 p).pf .PL_STATUS 0 F.PL_STATUS.STATE st
def port0 : Port := live.prt 0
/-- Port 0 in UP, stage 0 woken. -/
def up : State := (port 3 port0).wr .PL_PHASE 0 1
theorem test_meets_Ports : up.lineFree 0 100 ∧ ({ port0 with disShed := true } : Port).disShed = true ∧ port0.ovr = [] ∧ port0.shed = none ∧ port0.inj = none ∧
    up.shedMask 0 ≠ 0 ∧ up.plSends 0 = true ∧ up.listens 0 ∧ port0.injOn 2 0 = false ∧ bit (up.expects 0) 0 = true ∧ bit (up.expects 63) 7 = false := by
  unfold State.lineFree State.listens; decide
theorem test_meets_Ports_replies : ({ port0 with expect := some 0 } : Port).enum = none ∧ 0 < up.slotsA 0 ∧ up.inWindow 0 (up.slotsA 0) 0 ((up.slotsA 0) * 100) = false ∧
    (port 1 { port0 with enum := some { full := true, todo := [0], step := .sync 0, tries := 0, got := [] } }).plState 0 = 1 ∧
    3 ≤ tget 0 ({ port0 with silent := [(0, 3)] } : Port).silent 0 ∧ bit (up.woken 0) 0 = true ∧ up.fenced 6 0 = false ∧ up.getB .PL_PHASE 0 8 = false ∧
    ({ port0 with quietPrev := true } : Port).quietPrev = true ∧ 3 ≤ ({ port0 with busTicks := 3 } : Port).busTicks ∧ up.plGen 0 ≠ 0 ∧ ({ port0 with eye := true } : Port).eye = true ∧
    ((live.setRl 0 { live.rl 0 with st := .regulate, outRun := 4 }).rl 0).st.live = true ∧ live.copies = false ∧ bit (u8 (live.weirD 0) 1) 1 = false := by decide
theorem test_meets_PortRequests : up.Admits m0 .PL_CTL 0 ∧ up.plState 0 = 3 ∧ (port 5 port0).plState 0 = 5 ∧ up.plInUse 0 = false ∧ (0 : W32).toNat / 2 % 2 ^ 4 = 0 ∧
    ((port 4 port0).pf .PL_CTL 0 F.PL_CTL.TEST 3).inTest 0 = true ∧ ((up.setRl 0 { live.rl 0 with st := .regulate })).plInUse 0 = true ∧ up.Admits m0 .PL_READMIT 0 ∧
    up.Admits m0 .PL_REG_CMD 0 ∧ up.Admits m0 .PL_INJ 0 ∧ live.plGen 63 = 0 :=
  ⟨admits_of (by decide), by decide, by decide, by decide, by decide, by decide, by decide, admits_of (by decide), admits_of (by decide), admits_of (by decide), by decide⟩

/-- Rail 0 with this content. -/
def rail (x : Rail) : State := live.setRl 0 x
def rail0 : Rail := live.rl 0
theorem test_meets_Rails : live.copies = false ∧ live.runsSeq = true ∧ RState.live .ramp = true ∧ live.stepRail 0 = some 0 ∧ u16 (live.seqD 0) 14 ≤ rail0.since ∧ rail0.pg = false ∧
    live.stepOf 0 = 0 ∧ (rail { rail0 with st := .wait }).stepSt 0 = .wait ∧ seqDeps (live.seqD 0) = [] ∧ u16 (live.seqD 0) 8 ≤ 10 := by decide
/-- Step 1 is a GPIO step whose power-good input is GPIO 3. -/
def gpioStep (x : SeqStep) : State :=
  let img := live.img
  ({ live with img := { img with sec := tset img.sec tSEQ [(0, ((tget? (tget [] img.sec tSEQ) 0).getD [])), (1, ent 32 [(1, 1), (2, 2), (3, 3), (4, 0xFF), (5, 0xFF), (6, 0xFF), (7, 0xFF)])] } }).setStep 1 x
theorem test_meets_Rails_gpio : (gpioStep { live.stepAt 1 with st := .regulate }).stepGpio 1 = true ∧ (gpioStep { live.stepAt 1 with st := .regulate }).stepRail 1 = none ∧
    (gpioStep { live.stepAt 1 with st := .regulate }).steps = [0, 1] ∧ u16 ((gpioStep (live.stepAt 1)).seqD 1) 14 = 0 := by decide
theorem test_meets_SequencerRequests : live.Admits m0 .SEQ_CTL 0 ∧ live.anyDown = false ∧ (rail { rail0 with st := .down }).anyDown = true ∧ only 1 0 ∧ only 4 2 ∧ live.steps = [0] ∧
    live.stepSt 0 = .off ∧ (rail { rail0 with st := .regulate }).mayGoDown 0 0 ∧ (rail { rail0 with st := .fault }).causePresent 0 = false ∧ live.Admits m0 .RAIL_CTL 0 ∧
    (live.railE 0).isSome = true ∧ live.Admits m0 .RAIL_SETPT 0 ∧ u16 (live.railD 0) 8 ≤ 1000 ∧ 1000 ≤ u16 (live.railD 0) 10 ∧ live.Admits m0 .RAIL_WSHED_HI 0 :=
  ⟨admits_of (by decide), by decide, by decide, by unfold only; decide, by unfold only; decide, by decide, by decide,
    ⟨by decide, by decide, by decide, by decide, fun d => rfl⟩, by decide, admits_of (by decide), by decide, admits_of (by decide), by decide, by decide, admits_of (by decide)⟩

/-! ### The ledger, the companion, the event distributor, mailboxes -/

/-- More of an image: 2 GiB of DRAM on channel 0, a ledger of four series with its base in the basin and partner 0 on PCIe, pool 2, the engines' tables, limits of stall 0, a companion. -/
def img1 : Tab (Tab Bytes) :=
  img0 ++ [(tMEM, [(0, ent 16 [(1, 1), (5, 2)]), (0xFF, ent 8 [(0, 0xFF)])]),
    (tLDG, [(0, ent 16 [(2, 1), (10, 1), (13, 1)]), (65536, ent 32 [(5, 0x10), (8, 4), (12, 1)])]),
    (tBSN, [(1, ent 16 [(2, 128), (4, 1), (8, 4)]), (2, ent 16 [(2, 128), (4, 1), (8, 4)])]),
    (tDMA, [(0, ent 64 [(5, 0x10), (32, 1), (40, 0)])]),
    (tSTL, [(0, ent 16 [(2, 2), (4, 2), (5, 2), (8, 2)])]),
    (tCMP, [(0, ent 16 [(1, 1), (5, 7)])])]
def ser (kf : Nat) : Bytes := ent 64 [(0, kf), (8, 1), (14, 1)]
def full : State :=
  { live with
    img := { live.img with sec := img1 }
    ldg := { live.ldg with cache := [(0, { bytes := ser 0x20, dirty := true, since := 0, used := 0 }), (1, { bytes := ser 0x10, dirty := false, since := 0, used := 0 }),
      (2, { bytes := ser 0x80, dirty := false, since := 0, used := 0 }), (3, { bytes := ser 0, dirty := false, since := 0, used := 0 })] }
    mem := [] }
def poll1 : Poll := { partner := 0, req := .pcie 0 1, series := 1, tag := 3, issued := 0, probe := false, key := serKey (ser 0x10), granule := 128 }
def polling : State := { full with ldg := { full.ldg with polls := [poll1] } }
def reply1 : Reply := { bytes := [5], cpl := .ok, success := true, enabled := true, pecOk := true, lost := false }

theorem test_meets_Ledger : (ser 0x20).length = 64 ∧ full.serRange (u8 (ser 0x20) 11) = none ∧ full.serOk 0 = true ∧ serPeriod (full.ser 0) ≠ 0 ∧ full.serStays 0 (ser 0x20) ∧
    (full.tick.count + 0) % serPeriod (full.ser 0) = 0 ∧ full.serSource (full.ser 0) = none ∧ ({ full with ldg := { full.ldg with pub := [(0, (0, 5))] } } : State).serSource (ser 0x20) = some 5 ∧
    serKind (full.ser 1) = 1 ∧ (full.partE 0).isSome = true ∧ full.mayPoll 0 = true ∧ polling.mayPoll 0 = false ∧
    full.seriesCount = 4 := by unfold State.serStays; decide
theorem test_meets_Ledger_replies : polling.findPoll 0 3 = some poll1 ∧ polling.findPoll 0 4 = none ∧ polling.polled 1 = true ∧ replyFails (ent 16 [(2, 1)]) reply1 = false ∧
    lenFits 1 0 0 1 = true ∧ serRaw 0 0 [5] = some (5, 1) ∧ polling.ldg.waiting = [] ∧ full.partSeries 0 = [1] ∧
    u64 (full.ser 1) 56 + 4 * serPeriod (full.ser 1) ≤ ({ full with tick := { full.tick with count := 4 } } : State).tick.count ∧
    Memory.wf full.mem = true ∧ u32 full.ldgD 12 ≠ 0 ∧ full.memOpen ledReq (full.serAddr 0) 64 true = true := by decide
theorem test_meets_LedgerCommands : full.Admits m0 .LDG_CMD 0 ∧ full.ldg.busy = false ∧ full.seriesCount ≤ 4 ∧ live.serOk 0 = false ∧ serKind (full.ser 2) = 8 ∧ serPeriod (full.ser 2) ≠ 0 ∧
    full.serStays 2 full.ldgEntry :=
  ⟨admits_of (by decide), by decide, by decide, by decide, by decide, by decide, by unfold State.serStays; decide⟩

/-- A package of a pair. -/
def pair (act : Act) (role : Nat) : State := { full with cmp := { full.cmp with act := act, role := role, link := true } }
/-- A heartbeat of an ACT and a SENT count, its CRC right. -/
def beat (l : List (Nat × Nat)) : Bytes := let b := ent 60 ([(0, 0x42), (1, 0x48)] ++ l); b ++ leBytes 4 (crc32 b)
theorem beat_whole : (hbWhole (beat [(2, 1)])) = true := by decide +kernel
theorem test_meets_Companion : (pair .driving 1).paired = true ∧ live.paired = false ∧ hbWhole [] = false ∧ (pair .detached 2).hbValid (beat [(8, 9)]) = false ∧
    u64 (beat [(8, 9)]) 8 ≠ (pair .detached 2).tick.count ∧ (pair .driving 1).hbValid (beat []) = true ∧ (pair .driving 1).joinEn = true ∧
    (pair .shadow 2).hbIn 0 = none ∧ u8 full.cmpD 1 ≠ 0 ∧ (pair .driving 1).pins.ownOut = false ∧
    ({ pair .driving 1 with cmp := { (pair .driving 1).cmp with fenceReq := true } } : State).cmp.fenceReq = true ∧ (pair .driving 1).sendsLink = true ∧
    (pair .driving 1).memOpen cmpReq bb 4096 true = true := by decide +kernel
theorem test_meets_Companion_requests : (pair .driving 1).Admits m0 .CMP_CTL 0 ∧ (pair .driving 1).pins.fenceLow = false ∧ (pair .driving 1).Admits m0 .CMP_MIG_CTL 0 ∧ (pair .driving 1).Admits m0 .CMP_MIG_RXSTAT 0 :=
  ⟨admits_of (by decide), by decide, admits_of (by decide), admits_of (by decide)⟩

/-- Source 5 is enabled, pending and routed to target 0. -/
def evs : State := (((live.wr .EVD_EN_SET 0 0x20).wr .EVD_PEND_SET 0 0x20).wr .EVD_PMR 0 16).wr .EVD_SRC_CFG 5 0
def presented : State := { evs with evd := { evs.evd with pres := [(0, 5)] } }
def active : State := { evs with evd := { evs.evd with actOn := [(5, 0)] } }
theorem test_meets_Events : m0.agent = .core 0 ∧ evs.Shows m0 .EVD_ACK 0 ∧ tget? evs.evd.pres 0 = none ∧ tget? presented.evd.pres 0 = some 5 ∧ presented.prio 5 < presented.rpr 0 ∧
    evs.Admits m0 .EVD_EOI 0 ∧ tget? active.evd.actOn 5 = some 0 :=
  ⟨rfl, shows_of (by decide) (by decide), by decide, by decide, by decide, admits_of (by decide), by decide⟩
theorem test_meets_Events_distributor : evs.Admits m0 .EVD_PMR 0 ∧ evs.Admits m0 .EVD_SWGEN 0 ∧ evs.Admits m0 .EVD_FALLBACK 0 ∧ evs.inService 3 = true ∧ evs.Admits m0 .EVD_EN_SET 63 ∧
    evs.Admits m0 .EVD_EN_CLR 0 ∧ evs.Admits m0 .EVD_PEND_SET 0 ∧ evs.Admits m0 .EVD_PEND_CLR 0 ∧ evs.Admits m0 .EVD_SRC_CFG 2047 ∧ evs.prio 5 = 0 :=
  ⟨admits_of (by decide), admits_of (by decide), admits_of (by decide), by decide, admits_of (by decide), admits_of (by decide), admits_of (by decide), admits_of (by decide), admits_of (by decide), by decide⟩

theorem test_meets_Mailboxes : live.Admits m0 .MBX_AB_TX 127 ∧ live.frozenOther 127 false = false ∧ (live.way 0 true).q.length < 8 ∧ (live.way 0 true).seq < 2 ^ 12 ∧
    live.Shows m0 .MBX_AB_RX_DATA 0 ∧ live.Shows m0 .MBX_BA_RX_STAMP 0 ∧ live.Admits m0 .MBX_AB_ACK 0 ∧
    ({ live with mbx := [(0, { Mailbox.init with ab := { MbxDir.init with st := 1 } })] } : State).way 0 false = { MbxDir.init with st := 1 } :=
  ⟨admits_of (by decide), by decide, by decide, by decide, shows_of (by decide) (by decide), shows_of (by decide) (by decide), admits_of (by decide), by decide⟩

/-! ### DMA channels, the basin, stalls -/

/-- Channel 0 of engine 0 in a state. -/
def chan (x : Chan) : State := full.setChn 0 x
/-- A barge of four elements of 4 bytes, from the basin to the basin. -/
def barge : Bytes := ent 64 [(5, 0x10), (13, 0x10), (12, 1), (24, 4), (28, 1), (30, 1)]
theorem test_meets_DmaChannels : full.Admits m0 .CH_CTL (chNum 0 0) ∧ full.ctxCount 0 < 64 ∧ (full.dmaRd 0 (full.chEntry 0) 128).isSome = true ∧ full.prioCh 0 = true ∧ full.prioCh 1 = false ∧
    full.Admits m0 .CH_OWN (chNum 3 1023) ∧ (chan { Chan.init with st := .paused }).engOpen 0 = true ∧ bit full.img.hold (0 : Fin 4) = false :=
  ⟨admits_of (by decide), by decide, by decide, by decide, by decide, admits_of (by decide), by decide, by decide⟩

theorem test_meets_Basin : full.ent tBSN 2 = some (ent 16 [(2, 128), (4, 1), (8, 4)]) ∧ full.Shows m0 .BSN_POOL_ALLOC 2 ∧ full.grants 2 = true ∧ full.grants 3 = false ∧ full.basin.length < 131072 ∧
    full.Admits m0 .BSN_FREE 0 := ⟨by decide, shows_of (by decide) (by decide), by decide, by decide, by decide, admits_of (by decide)⟩

/-- Stall 0 in a state, running a command. -/
def stall (st : Nat) (c : Option Nat) : State := (full.setStSt 0 st).setStl 0 { Stall.init with cmd := c }
theorem test_meets_Stalls : full.Admits m0 .STL_CTL 0 ∧ (stall 1 none).stlCmd 0 = none ∧ (stall 1 none).stSt 0 = 1 ∧ (stall 2 (some 2)).stlDrained 0 = true ∧ (stall 2 (some 2)).stlCmd 0 = some 2 ∧
    (stall 4 (some 6)).recAddr 0 + 4096 ≤ full.dramSize ∧ (stall 4 (some 6)).memOpen edReq 0 4096 true = true ∧ live.dramSize < 4096 :=
  ⟨admits_of (by decide), by decide, by decide, by decide, by decide, by decide, by decide +kernel, by decide⟩
theorem test_meets_StallMaps : (Reg.STL_MBX_MAP, 8) ∈ stlMaps ∧ 0x200000D00000 + 0 * 0x1000 + 2112 = Reg.STL_MBX_MAP.addrOf 0 ∧ full.Admits m0 .STL_MBX_MAP 0 ∧
    full.Admits m0 .STL_BIND 0 ∧ ¬full.pageOpen u0 0 0 :=
  ⟨by decide, by decide, admits_of (by decide), admits_of (by decide), fun h => absurd h.2 (by decide)⟩
theorem test_meets_StallTenant : (stall 1 none).Admits m0 .STL_T_BELL 0 ∧ (stall 1 none).Admits m0 .STL_T_EN_SET 0 ∧ (stall 1 none).Shows m0 .STL_T_BSN_ALLOC 0 ∧ full.stlPool 0 = 2 ∧
    (stall 1 none).Admits m0 .STL_T_BSN_FREE 0 ∧ (stall 1 none).Admits m0 .STL_T_LV_CMD 0 ∧ full.stlPool 1 = 0xFF :=
  ⟨admits_of (by decide), admits_of (by decide), shows_of (by decide) (by decide), by decide, admits_of (by decide), admits_of (by decide), by decide⟩

/-! ### Cores -/

/-- Core 0 runs at level M from the start of the basin. -/
def core0 : Core := { Core.init with st := .run, pc := BitVec.ofNat 64 bb }
def core (c : Core) : State := full.setCor 0 c
def run : State := core core0
theorem test_meets_Issues : run.Issues 0 := ⟨by decide, by decide, by decide +kernel⟩
theorem test_meets_P64Integer : (p64Op run (.add 0 1 2 3 0)).isSome = true ∧ (p64Op run (.add 0 1 2 3 1)).map (·.legal) = some false ∧ run.stBit 0 7 = false ∧
    (p64Op (core { core0 with g := [(2, 0x7FFFFFFFFFFFFFFF)] }) (.add 0 1 2 2 0)).map (·.val) = some (2 * (2 ^ 63 - 1)) := by decide
theorem test_meets_P64Divide : (p64Div run (.div 0 1 2 3 0)).map (·.y) = some 0 ∧ (p64Div (core { core0 with g := [(3, 2)] }) (.mod 0 1 2 3 0)).map (·.y) = some 2 ∧ run.stBit 0 6 = false := by decide
theorem test_meets_P64ControlFlow : (p64Jump run (.cbeq 0 1 2 4)).map (·.taken) = some true ∧ run.atLoopEnd 0 = false ∧ (run.sr 0 srLCNT).toNat % 2 ^ 32 = 0 ∧
    (p64Jump run (.jlinkr 0 0 30 1 0)).map (·.legal) = some false := by decide
theorem test_meets_P64Loads : (p64Load (.ld64 0 1 2 0 true)).isSome = true ∧
    (run.access 0 .load (BitVec.ofNat 64 bb) 8).2.toOption = some [⟨BitVec.ofNat 64 bb, 8, bb, .wb⟩] ∧ (match (run.access 0 .load 0x7FFFFFFFFFFFFFFF 8).2 with | .error _ => true | .ok _ => false) = true ∧
    run.stBit 0 8 = false ∧ (core { core0 with load := some { d := 1, parts := [(bb, 8)], size := 8, signed := false, va := 0, wb := [], ovlp := false } }).memOpen (coreReq run 0) bb 8 false = true ∧
    (run.rgn bb).device = false := by decide +kernel
theorem test_meets_P64Stores : p64Store (.st64 0 1 2 0) = some (0, 1, 2, 0, 8) ∧ (run.access 0 .store (BitVec.ofNat 64 bb) 8).2.toOption = some [⟨BitVec.ofNat 64 bb, 8, bb, .wb⟩] ∧ run.isRam bb ∧ Memory.wf run.mem = true ∧
    run.memOpen (coreReq run 0) bb 8 true = true ∧ run.memOpen (coreReq run 0) 0x200000000000 8 true = false :=
  ⟨by decide, by decide +kernel, .inl (by decide), by decide, by decide, by decide⟩
theorem test_meets_P64Atomics : (p64Atomic run (.atadd64 0 1 2 3 0)).isSome = true ∧ (run.translate 0 .m .atomic bb).2 = .ok bb .wb ∧ (core0.sb = []) := by decide +kernel
theorem test_meets_P64SystemRegisters : (p64Sr run (.mfsr 0 1 0 0x008)).isSome = true ∧ srRule 0x008 = some (1, 1, 0xFFFF) ∧ srRule 0x0FF = none ∧ isPmu srPMU_CTL = true := by decide
theorem test_meets_P64System : p64Sys (.wait 0 0 0 0) = some (0, true, 1) ∧ (p64Line (.dcwb 0 0 2 0)).isSome = true ∧ (p64Tinv run (.tinvAll 0 0 0 0)).map (·.2.1) = some false ∧
    core0.stepping = false ∧ core0.haltReq = false ∧ 1 ≤ (run.lvl 0).num := by decide
theorem test_meets_P64Exceptions : (core { core0 with sp := [(3, BitVec.ofNat 64 (bb + 0x1000))], sr := tset core0.sr 0x01A (BitVec.ofNat 64 bb) }).EntryOk 0 3 0x14 0 ∧
    p64Call (.brk 0 0 0 5) = some (0, true, [0, 1, 2, 3], 0x14, 5) ∧ run.atBoundary 0 = true ∧ core0.st ≠ .c3 :=
  ⟨⟨by decide, .inl (by decide), by decide, by decide, by decide, by decide, by unfold State.isRam; intro j h; left; revert j; decide, ⟨.inl (by decide), by decide⟩, by decide, by decide, by decide⟩,
    by decide, by decide, by decide⟩

/-! ### Ports, debug, trace, power -/

/-- Link up on controller 0. -/
def linked : State := full.wr .PORT_STAT 0 1
theorem test_meets_Ports_traffic : full.portOn 32 = false ∧ linked.portOn 0 = true ∧ (portKind 0).1 = 1 ∧ linked.linkUp 0 = true ∧ full.Shows m0 .PORT_RXQ 0 ∧ full.Admits m0 .PORT_TXQ 0 ∧
    mbxFrameOf (.readAck 3 1 0 [0x4D, 0x42, 2, 0, 0, 0, 0, 0]) = some (3, 1, 0, [0x4D, 0x42, 2, 0, 0, 0, 0, 0], 2) ∧ frameFits [0x4D, 0x42, 2, 0, 0, 0, 0, 0] ∧ ¬frameFits [] :=
  ⟨by decide, by decide, by decide, by decide, shows_of (by decide) (by decide), admits_of (by decide), by decide, by unfold frameFits; decide, by unfold frameFits; decide⟩
theorem test_meets_PortOperations : (rawOf (.pcieRetrain 0 m0 0)).isSome = true ∧ (portKind 0).1 ∈ [1, 2] ∧ full.Admits m0 .PORT_RAW_CMD 0 ∧ full.rawEn 0 = false ∧
    full.fanE 0 = none ∧ full.Admits m0 .FAN_WDT 0 ∧ full.Admits m0 .FAN_PWM 15 ∧ (0 : BitVec 38).toNat < full.dramSize ∧ full.fenced 5 0 = false :=
  ⟨by decide, by decide, admits_of (by decide), by decide, by decide, admits_of (by decide), admits_of (by decide), by decide, by decide⟩
theorem test_meets_Debug : run.Admits m0 .DBG_CORE_CTL 0 ∧ (core { core0 with halted := true }).fenced 0 0 = false ∧ run.Admits m0 .DBG_CORE_DATA_LO 0 ∧ run.Admits m0 .DBG_LE_CTL 35 ∧
    run.Admits m0 .DBG_LE_DATA 0 ∧ run.Admits m0 .TRC_DBG_UNLOCK 0 ∧ run.keep.lcInForce = 7 :=
  ⟨admits_of (by decide), by decide, admits_of (by decide), admits_of (by decide), admits_of (by decide), admits_of (by decide), by decide⟩
/-- Trace of core 0 is on. -/
def traced : State := { (run.pb .TRC_CTL 0 F.TRC_CTL.EN true) with unit := [(unitKey 0 0, { UnitSt.init with trace := true })] }
theorem test_meets_Trace : (tget UnitSt.init traced.unit (unitKey 0 0)).trace = true ∧ (traced.tsrc 0).atoms = [] ∧ (traced.tsrc 0).lost = 0 ∧ (traced.tsrc 0).held = [] ∧ (traced.tsrc 0).since < 4000 ∧
    (traced.tsrc 0).fifo.length + 10 ≤ 2048 ∧ traced.Admits m0 .TRC_CTL 0 := ⟨by decide, by decide, by decide, by decide, by decide, by decide, admits_of (by decide)⟩
theorem test_meets_Sluice : full.sluiceFree 0 ∧ full.Admits m0 .PWR_REG_CTL 0 ∧ full.Admits m0 .PWR_CC_FREQ 0 ∧ vMin 12 ≤ 750 ∧ full.gf .PWR_REG_STAT 0 F.PWR_REG_STAT.STATE ≠ 2 :=
  ⟨⟨(fun x h => by rw [show full.pwr.sluice = [] from rfl] at h; cases h), by decide, by decide, by decide⟩, admits_of (by decide), admits_of (by decide), by decide, by decide⟩
theorem test_meets_Power : full.Admits m0 .PWR_CORE_CTL 0 ∧ (full.cor 0).st = .c3 ∧ bit full.img.hold 0 = false ∧ full.inService 0 = true ∧ full.isOut 0 0 = false ∧ full.pins.sysrst = false ∧
    full.Admits m0 .PWR_PKG_CTL 0 ∧ full.pwr.step = none :=
  ⟨admits_of (by decide), by decide, by decide, by decide, by decide, by decide, admits_of (by decide), by decide⟩
theorem test_meets_UnitActions : (Instr.unitFence m0 0).unitAction = some (m0, 0, 1) ∧ full.Admits m0 .PWR_UNIT_CTL 0 ∧ full.pwr.act = none ∧ full.unitCode 2 6 0 = 0 ∧ full.unitCode 8 6 0 = 1 ∧
    full.unitCode 2 6 64 = 2 := ⟨rfl, admits_of (by decide), by decide, by decide, by decide, by decide⟩

/-! ## Single steps -/

/-- The front command runs with the rest of the queue. -/
theorem test_front (c : Instr) (s : State) (r : List Instr) : step { s with pending := c :: r } = exec c { s with pending := r } := rfl
theorem test_reset_mem : Memory.wf State.reset.mem = true := by decide

/-- ADD saturates and sets OVF only with SAT (R217); it takes one cycle. -/
theorem test_le_add : (match exec (.leAdd 0 0xC8000 .ok) (le (({ leRun with sat := true }.ks 3 0x7FFFFFFF).ks 2 1)) with
    | .next t => some ((t.leAt 0).kg 0, (t.leAt 0).ls, (t.leAt 0).cyc) | _ => none) = some (0x7FFFFFFF, 1, 51) := by decide +kernel
/-- The worked example of R160: CURRENT to stage 2, 20 A, EN 1. -/
theorem test_frame : mkFrame 1 2 0x2800 true = 0x14500129 := by decide +kernel
/-- ADDKM g5, g0, 1 of chapter 11's worked example. -/
theorem test_addkm : (match exec (.addkm 0 5 0 1) run with | .next t => some (t.gr 0 5, t.pcOf 0) | _ => none) = some (1, BitVec.ofNat 64 bb + 4) := by decide +kernel
/-! ### Further clauses of the statements -/

/-- A channel in ACTIVE with a context; a barge of 512 elements from the basin to the basin; one from port line 0 (two-wire controller 0), of which one burst runs. -/
def act0 : Chan := { Chan.init with st := .active, ctx := true }
def barge2 : Bytes := ent 64 [(5, 0x10), (13, 0x10), (10, 1), (24, 0), (29, 2), (32, 1), (34, 1), (36, 1), (40, 1)]
def bargeIn : Bytes := ent 64 [(13, 0x10), (24, 4), (28, 8), (32, 1), (34, 1)]
def lined : State :=
  let s := full.setChn 0 { act0 with st := .waiting, barge := some (bb, bargeIn), burst := some 8 }
  { s with img := { s.img with sec := (tPORT, [(portKey 6 0, ent 8 [(0, 6)])]) :: img1 }, dma := { s.dma with held := [(0, 0)] }, tick := { s.tick with count := 2 ^ 16 } }
theorem test_meets_OnlyIllFormedCommandsStop : full.engOpen 0 = true ∧ (chan { Chan.init with st := .queued }).ctxCount 0 < 64 ∧
    ((chan { act0 with next := bb }).mput bb barge2).dmaRd 0 bb 64 = some barge2 ∧ bBad bb barge2 = false ∧ bUsesPort barge2 = false ∧ bTotal barge2 = 512 ∧
    (chan { act0 with barge := some (bb, barge2) }).ownStall 0 = none ∧ bRun barge2 true 0 (min 256 (bTotal barge2 - 0)) = 256 ∧ txReg (bAddr barge2 true 0) = none ∧
    (chan act0).memOpen (dmaReq 0) (bAddr barge2 true 0) 256 true = true := by decide +kernel
theorem test_meets_OnlyIllFormedCommandsStop_ports : lined.lineCh 0 0 = some 0 ∧ lined.engOpen 0 = true ∧ lined.portOn (linePort 0) = true ∧ bSrcPort bargeIn = true ∧ bLine bargeIn = 0 ∧
    (lined.chn 0).burst = some 8 ∧ (lined.chn 0).onLine 0 = true ∧ (lined.chn 0).buf.length < bTotal bargeIn * bEs bargeIn ∧ full.portOn (linePort 0) = false ∧
    (lined.chn 0).lastAt + lined.gf .DMA_RQ_CFG 0 F.DMA_RQ_CFG.TIMEOUT ≤ lined.tick.count := by decide +kernel
/-- The shadow set of a running channel: one that follows, one that failed; a misaligned NEXT; ORDER. -/
theorem test_meets_DmaEngines : (chan { act0 with barge := some (bb, barge2), shadow := some (bb, barge2) }).displacedNow 0 = false ∧ ({ act0 with next := 8 } : Chan).next % 64 ≠ 0 ∧
    bit (bCtl barge2) 5 = false ∧ bBad bb (ent 64 [(60, 1)]) = true ∧ bTotal barge2 ≤ 0 + (List.replicate 512 (0 : Byte)).length / bEs barge2 ∧ txReg 0x200008000000 = none := by decide +kernel

/-- No unit action, join or amendment waits; LE 0 overran, and its rail lets the spare take over; LE 0 may be released. -/
theorem test_meets_TickEdges : live.PlainEdge ∧ live.LcQuiet 0 ∧ (∀ k, k < 32 → ¬live.callsSpare k) ∧ live.startsLes ∧ (live.leServes 0).isSome = true ∧ live.server (live.served 0) = 0 ∧ live.leServes 1 = none ∧
    live.rails.count 0 = 1 ∧ (rail { rail0 with st := .ramp }).copies = false ∧ (rail { rail0 with st := .ramp }).stepRail 0 = some 0 :=
  ⟨⟨by decide, by decide, by decide, by decide, by intro a h; cases h⟩, ⟨fun j _ h => (by decide : ∀ j, j < 36 → (live.leAt j).pend = (false, false, false)) j h, by decide⟩,
    fun k hk ⟨_, _, _, _, h, _⟩ => absurd h (by rw [(by decide : ∀ k, k < 32 → (live.leAt k).started = false) k hk]; decide), by unfold State.startsLes; decide, by decide, by decide, by decide, by decide, by decide, by decide⟩
theorem test_meets_TickEdges_spare : (le { leRun with started := true, overrun := true }).leRail 0 = some (0, 0) ∧ (le { leRun with started := true, overrun := true }).takeoverOf 0 = true ∧
    (le { leRun with started := true, overrun := true }).leStepMode 0 = false ∧ ((le leRun).lcAt 0).spareFor = none ∧ (le leRun).leFenced 32 = false ∧ (le leRun).leOut 32 = false ∧
    ({ live with lc := [(0, { live.lcAt 0 with spareFor := some 0, releaseOk := true })] } : State).lcAt 0 = { live.lcAt 0 with spareFor := some 0, releaseOk := true } ∧
    ((le { leRun with pend := (true, false, true) }).leAt 0).pend = (true, false, true) ∧ live.isOut 1 0 = false := by decide
/-- An amendment committed for the next tick. -/
theorem test_meets_TickEdges_amendment : ∃ a : Amend, (held { amd0 with committed := true, n := some 1 }).img.held = some a ∧ a.committed = true ∧
    a.n = some ((held { amd0 with committed := true, n := some 1 }).tick.count + 1) ∧ a.len ≤ 0x400000 ∧ live.staging + 2 ^ 22 ≤ leLocal 0 := ⟨_, rfl, by decide, by decide, by decide, by decide⟩

/-- An amendment of one section of type `t` without entries, AMD_SEQ `q`, signed by nobody in particular, held. -/
def amdHead (t q : Nat) : List (Nat × Nat) :=
  [(0, 0x55), (1, 0x54), (2, 0x4E), (3, 0x58), (4, 1), (6, 1), (8, 1), (20, q), (32, 0xA1), (34, 1), (36, 0x28), (37, 0x0E), (40, 80), (64, t % 256), (65, t / 256), (68, 80), (80, 0x58), (81, 0x53), (82, 0x49), (83, 0x47)]
def heldAmd (t q : Nat) : State := { held { amd0 with len := 3624 } with mem := ((amdHead t q).filter (fun e => e.2 ≠ 0)).map (fun e => (e.1, BitVec.ofNat 8 e.2)) }
/-- The signatures rest on the uninterpreted functions of log entry 7; every other premise is met. -/
theorem test_meets_Amendments_outcomes :
    (let s := heldAmd 0x0E 1; let b := s.amdBytes { amd0 with len := 3624 }
     sigBlockOk b (sigOff b) = true ∧ amdFormed b ∧ s.amdFresh b ∧ amdGranted 2 b ∧ s.isLate (u64 b 24) = false) := by
  unfold amdFormed State.amdFresh amdGranted; decide +kernel
theorem test_meets_Amendments_refusals :
    (let s := heldAmd 0x102 0; let b := s.amdBytes { amd0 with len := 3624 }
     sigBlockOk b (sigOff b) = true ∧ formatOk b true = false ∧ badType b = some 0x102 ∧ ¬s.amdFresh b ∧ ¬amdGranted 2 b ∧ ¬amdGranted 3 b) := by
  unfold State.amdFresh amdGranted; decide +kernel
/-- The commit point refuses an LE that has overrun and that a rail moves to. -/
def movedTo : Struc := mergeStruc img0 [(tRAIL, [(0, ent 96 [(1, 2), (2, 5), (4, 1), (10, 0xD0), (11, 7), (12, 0xE8), (13, 3), (16, 1), (17, 0xFF), (18, 1), (19, 4), (20, 100), (22, 10), (32, 1), (34, 1)])])]
theorem test_meets_Amendments_conflict : live.movedRails movedTo = [0] ∧ railLes (movedTo.d tRAIL 0) = [1] ∧
    ((live.setLe 1 { leRun with overrun := true }).leAt 1).overrun = true ∧ (live.setLe 1 leRun).amdConflict movedTo = false := by decide +kernel

/-- OV_CODE 16, UV_CODE 8, UV_TICKS 1: a code of 17 is above, one of 0 below. -/
def tight : State := { rail { rail0 with st := .regulate } with img := { live.img with sec := (tWEIR, [(0, ent 32 [(2, 16), (4, 8), (6, 1)])]) :: img0 } }
theorem test_meets_Sense_trips : tight.copies = false ∧ tight.rails = [0] ∧ (tight.rl 0).st.live = true ∧ tight.tick.dark = false ∧ u8 (tight.railD 0) 2 = 5 ∧ tight.fenced 8 5 = false ∧
    u16 (tight.weirD 0) 2 < Conv.code { c1 := 17, c2 := 17, c3 := 17, c4 := 17 } ∧ Conv.code conv0 < u16 (tight.weirD 0) 4 ∧ u8 (tight.weirD 0) 6 ≤ (tight.rl 0).uvRun + 1 := by decide

/-- A NOTIFY frame on a UART, with its length and CRC-32. -/
theorem test_uart_frame : uartFrame [] = [0x7E, 0, 0, 0, 0, 0] := by decide +kernel
theorem test_meets_Wake_patterns : (asleep 1).wakeBit .wakeN = some 0 ∧ (asleep 1).wakeBit (.pcie 0) = some 4 ∧ (asleep 1).wakeBit (.pcie 1) = none := by decide

/-! ### Words of the cores -/

/-- The fields of a word give its command: 0x0000_0000 is NOP, and the first word of chapter 11's worked example ADDKM (R362 to R364). -/
theorem test_decode_p64 : decodeP64 3 false 0 = some (.nop 3 0 0 0) ∧ decodeP64 0 true 0x22802001 = some (.addkm 0 5 0 1) := by decide

theorem test_meets_Companion_edge : (pair .driving 1).PairEdge 0 ∧ (pair .shadow 2).PairEdge 0 :=
  ⟨⟨by decide, by decide, by decide, by decide, (fun a h => nomatch (show none = some a from h)), .inl (by decide)⟩,
    ⟨by decide, by decide, by decide, by decide, (fun a h => nomatch (show none = some a from h)), .inl (by decide)⟩⟩

/-- Rail 0 runs without a phase for two ticks; nothing else goes down. -/
theorem test_meets_Rails_faults : (rail { rail0 with st := .regulate, nophaseRun := 2 }).copies = false ∧ (rail { rail0 with st := .regulate, nophaseRun := 2 }).rl 0 = { rail0 with st := .regulate, nophaseRun := 2 } ∧
    live.seq = [] ∧ u8 (live.seqD 0) 13 % 4 = 0 ∧ bit (u8 (live.seqD 0) 13) 7 = false ∧ (rail { rail0 with st := .down }).stepAt 0 = SeqStep.init ∧ live.railPorts 0 = [0] := by decide

/-- A frame on a UART, on a two-wire bus without PEC, and on a host port; the fastest link of a host port, and one beyond it. -/
theorem test_meets_Ports_frames : full.frameIn 42 0 [0x7E, 0, 0, 0, 0, 0] = some [] ∧ full.frameIn 42 0 [0x7E, 0, 0, 0, 0, 1] = none ∧ full.frameIn 14 0 [0xD0, 0] = some [] ∧ full.frameIn 14 0 [0xD1, 0] = none ∧
    full.frameIn 0 0 [5] = some [5] ∧ full.poison = [] ∧ linkMay 0 (ent 8 [(2, 5), (3, 8)]) 5 8 ∧ ¬linkMay 0 (ent 8 [(2, 5), (3, 8)]) 6 8 ∧ linkMay 2 (ent 8 [(2, 4), (3, 4)]) 4 4 := by
  unfold linkMay; decide +kernel
/-- Controller 0 under raw access; one that waits for a poll; a pause frame is obeyed where OPT asks for it. -/
def raw0 : State := full.pb .PORT_CTL 0 F.PORT_CTL.RAW_EN true
theorem test_meets_PortOperations_raw : raw0.rawEn 0 = true ∧ raw0.portOn 0 = true ∧ raw0.avsBusy 0 = false ∧ (raw0.xp 0).raw = none ∧ (raw0.ldg.polls = []) ∧
    (∃ q ∈ polling.ldg.polls, polling.partOn 2 q.partner = true) ∧ rawLines 14 = some (0, 1) ∧ rawLines 47 = some (57, 57) ∧ rawLines 34 = none ∧
    ({ full.fans with own := 1 } : Fans).own = 1 ∧ u8 (ent 8 [(5, 1)]) 5 % 2 = 1 ∧ full.untagVlan 0 = none := by decide
/-- Core 0's FIFO is full and a packet waits; one was lost. -/
theorem test_meets_Trace_room : ((traced.setTsrc 0 { TraceSrc.init with held := [[5]] }).tsrc 0).held = [[5]] ∧ ((traced.setTsrc 0 { TraceSrc.init with lost := 1 }).tsrc 0).lost = 1 ∧ (traced.cor 0).haltReq = false ∧
    (traced.setTsrc 0 { TraceSrc.init with held := [] }).atBoundary 0 = true ∧ ((traced.setTsrc 0 { TraceSrc.init with atoms := [true, false, true] }).tsrc 0).atoms = [true, false, true] ∧
    traced.gb .TRC_CTL 0 F.TRC_CTL.CYC = false := by decide
/-- A sluice request of region 0 waits for its acknowledgement, at 800 mV with the clocks to rise. -/
def sluicing : State := { full with pwr := { full.pwr with sluice := [(0, { v := 800, f0 := 20, f1 := 20, phase := .ack, keeps := false })] } }
theorem test_meets_Sluice_steps : tget? sluicing.pwr.sluice 0 = some { v := 800, f0 := 20, f1 := 20, phase := .ack, keeps := false } ∧ sluicing.voutPort 0 = 34 ∧
    sluicing.gf .PWR_REG_STAT 0 F.PWR_REG_STAT.STATE ≠ 2 ∧ 800 ≤ 785 + 15 ∧ ¬(800 ≤ 784 + 15) ∧ (800 * 97 ≤ 776 * 100) ∧ (775 * 100 < 800 * 97) := by decide
theorem test_meets_Power_retention : (full.pf .PWR_REG_STAT 0 F.PWR_REG_STAT.STATE 2).gf .PWR_REG_STAT 0 F.PWR_REG_STAT.STATE = 2 ∧ (full.cor 0).halted = false ∧ (full.cor 0).haltReq = false ∧
    tget? ({ full with pwr := { full.pwr with before := [(0, (750, 20, 20))] } } : State).pwr.before 0 = some (750, 20, 20) := by decide
/-- An action on PL port 0 waits for the edge, one on core 0 for UNIT_ACTION_DONE. -/
def acting (kind : Nat) : State := { full with pwr := { full.pwr with act := some (2, kind, 0), acted := none } }
theorem test_meets_UnitActions_kinds : (acting 6).pwr.act = some (2, 6, 0) ∧ (acting 6).pwr.acted = none ∧ (acting 6).ticking = true ∧ (acting 6).unitCode 2 6 0 = 0 ∧ (acting 0).unitCode 2 0 0 = 0 ∧
    (acting 6).plState 0 ≠ 5 ∧ kindCount 6 = 64 := by decide
/-- Slot 0 of stall 0, bound to SID 5, is mailbox 3, side A. -/
def slotted : State := ((stall 1 none).pf .STL_BIND 0 F.STL_BIND.SID 5).wr .STL_MBX_MAP 0 0x80000003
theorem test_meets_StallTenant_slots : slotted.stSt 0 = 1 ∧ slotted.gf .STL_BIND 0 F.STL_BIND.SID = 5 ∧ (slotted.rd .STL_MBX_MAP 0).getLsbD 31 = true ∧ slotted.fenced 9 3 = false ∧
    (slotted.way 3 true).q.length < 8 ∧ slotted.frozenOther 3 true = false := by decide
end Sys2Proof.Tests
end

section
/-!
SUPPORT. The registers of Parhild-64 and memory across everything that an instruction does beside its own work: fetch, translation, caches, counters, trace, events and halts.
-/
namespace Sys2Proof.Machine

/-- Two contents of a core agree in the general registers, the stack pointers, PC, the store buffer and every system register but the PMU's. -/
structure Core.SameRegs (c c' : Core) : Prop where
  g : c'.g = c.g
  sp : c'.sp = c.sp
  pc : c'.pc = c.pc
  sb : c'.sb = c.sb
  sr : ∀ n k, isPmu k = false → c'.sr1 n k = c.sr1 n k

/-- From s to t every core keeps these registers, and memory stays: what caches, TLBs, counters, trace and events may do beside an instruction's own work. -/
structure State.SameRegs (s t : State) : Prop where
  core : ∀ m, (s.cor m).SameRegs (t.cor m)
  mem : t.mem = s.mem

/-- The fields of a core that SameRegs speaks of. -/
def Core.shown (c : Core) : Tab W64 × Tab W64 × W64 × List SbEnt × Tab W64 := (c.g, c.sp, c.pc, c.sb, c.sr)

theorem Core.SameRegs.of_eq {c c' : Core} (h : c'.shown = c.shown) : c.SameRegs c' := by
  simp only [Core.shown, Prod.mk.injEq] at h
  obtain ⟨hg, hsp, hpc, hsb, hsr⟩ := h
  exact ⟨hg, hsp, hpc, hsb, fun n k _ => by simp only [Core.sr1, hsr]⟩

theorem Core.SameRegs.refl (c : Core) : c.SameRegs c := .of_eq rfl

theorem Core.SameRegs.trans {a b c : Core} (h : a.SameRegs b) (k : b.SameRegs c) : a.SameRegs c :=
  ⟨k.g.trans h.g, k.sp.trans h.sp, k.pc.trans h.pc, k.sb.trans h.sb, fun n i hi => (k.sr n i hi).trans (h.sr n i hi)⟩

theorem Core.lose_sameRegs (c : Core) (ls : List Nat) : c.SameRegs (c.lose ls) := .of_eq rfl

theorem State.cor_regionUp (s : State) (k n : Nat) : (s.regionUp k).cor n = s.cor n := by
  unfold State.regionUp
  split <;> rfl

theorem isPmu_counter {i : Nat} (h : i < 8) : isPmu (0x0D0 + i) = true := by
  simp only [isPmu, Bool.and_eq_true, decide_eq_true_eq]
  omega

namespace State.SameRegs

variable {r s t : State}

theorem refl (s : State) : s.SameRegs s := ⟨fun _ => .refl _, rfl⟩

theorem trans (h : r.SameRegs s) (k : s.SameRegs t) : r.SameRegs t :=
  ⟨fun m => (h.core m).trans (k.core m), k.mem.trans h.mem⟩

/-- An update that reaches neither the cores nor memory. -/
theorem upd (h : r.SameRegs s) (e : (t.core, t.mem) = (s.core, s.mem)) : r.SameRegs t := by
  obtain ⟨hc, hm⟩ := Prod.mk.inj e
  exact ⟨fun m => by simp only [State.cor, hc]; exact h.core m, hm.trans h.mem⟩

theorem tick1 (h : r.SameRegs s) : r.SameRegs s.tick1 := h.upd rfl

theorem pb {reg : Reg} {i : Nat} {f : Fld} {b : Bool} (h : r.SameRegs s) : r.SameRegs (s.pb reg i f b) := h.upd rfl

theorem pf {reg : Reg} {i : Nat} {f : Fld} {k : Nat} (h : r.SameRegs s) : r.SameRegs (s.pf reg i f k) := h.upd rfl

theorem setCor {n : Nat} {c : Core} (h : r.SameRegs s) (hc : (s.cor n).SameRegs c) : r.SameRegs (s.setCor n c) :=
  h.trans ⟨fun m => by
    by_cases e : n = m
    · subst e; rwa [State.cor_setCor]
    · rw [State.cor_setCor_ne _ _ e]; exact .refl _, rfl⟩

/-- A core's other fields are updated. -/
theorem updCor {n : Nat} {c : Core} (h : r.SameRegs s) (e : c.shown = (s.cor n).shown) : r.SameRegs (s.setCor n c) := h.setCor (.of_eq e)

/-- Every core is updated by its number. -/
theorem mapCore {f : Nat → Core → Core} (h : r.SameRegs s) (hc : t.core = s.core.map (fun e => (e.1, f e.1 e.2))) (hm : t.mem = s.mem)
    (hf : ∀ (m : Nat) (c : Core), c.SameRegs (f m c)) : r.SameRegs t := by
  refine h.trans ⟨fun m => ?_, hm⟩
  simp only [State.cor, hc]
  induction s.core with
  | nil => exact .refl _
  | cons e l ih =>
    simp only [List.map_cons, tget]
    split
    · exact hf _ _
    · exact ih

theorem setPmu {n k : Nat} {v : W64} (h : r.SameRegs s) (hk : isPmu k = true) : r.SameRegs (s.setSr n k v) :=
  h.setCor ⟨rfl, rfl, rfl, rfl, fun _ _ hi => tget_tset_ne _ _ _ (fun e => by simp [← e, hk] at hi)⟩

theorem cond {a b : State} {c : Prop} {d : Decidable c} (h : c → s.SameRegs a) (k : ¬c → s.SameRegs b) : s.SameRegs (@ite State c d a b) := by
  split
  · next e => exact h e
  · next e => exact k e

theorem forEach {α : Type} {f : State → α → State} {l : List α} (h : r.SameRegs s) (hf : ∀ t, ∀ a ∈ l, r.SameRegs t → r.SameRegs (f t a)) :
    r.SameRegs (forEach l f s) := by
  induction l generalizing s with
  | nil => exact h
  | cons a l ih => exact ih (hf s a (List.mem_cons_self ..) h) (fun t b hb => hf t b (List.mem_cons_of_mem _ hb))

theorem of_pair {α : Type} {p : State × α} {a : α} (h : s.SameRegs p.1) (e : p = (t, a)) : s.SameRegs t := by
  rw [e] at h; exact h

/-! ### Events and trace -/

theorem regionUp {k : Nat} (h : r.SameRegs s) : r.SameRegs (s.regionUp k) :=
  cond (fun _ => h) (fun _ => h.upd rfl)

theorem wake {n : Nat} (h : r.SameRegs s) : r.SameRegs (s.wake n) := by
  unfold State.wake
  refine cond (fun _ => h) (fun _ => cond (fun _ => h.upd rfl) (fun _ => ?_))
  rw [← s.cor_regionUp (n / 8) n]
  exact h.regionUp.updCor rfl

theorem present {n : Nat} (h : r.SameRegs s) : r.SameRegs (s.present n) := by
  unfold State.present
  split
  · exact h
  · exact wake (h.upd rfl)

theorem raise {src : Nat} (h : r.SameRegs s) : r.SameRegs (s.raise src) :=
  cond (fun _ => h) (fun _ => cond (fun _ => h.upd rfl) (fun _ => cond (fun _ => wake (present (h.upd rfl))) (fun _ => wake (h.upd rfl))))

theorem ovfTry {id : Nat} (h : r.SameRegs s) : r.SameRegs (s.ovfTry id) :=
  cond (fun _ => h) (fun _ => h.upd rfl)

theorem putRaw {id : Nat} {p : Bytes} (h : r.SameRegs s) : r.SameRegs (s.putRaw id p) :=
  cond (fun _ => h.upd rfl) (fun _ => cond (fun _ => h.upd rfl) (fun _ => cond (fun _ => raise (h.upd rfl)) (fun _ => h.upd rfl)))

theorem emitRaw {id : Nat} {p : Bytes} (h : r.SameRegs s) : r.SameRegs (s.emitRaw id p) := putRaw (ovfTry h)

theorem syncRaw {n : Nat} (h : r.SameRegs s) : r.SameRegs (s.syncRaw n) := emitRaw ((emitRaw h).upd rfl)

theorem syncDue {n : Nat} (h : r.SameRegs s) : r.SameRegs (s.syncDue n) :=
  cond (fun _ => h) (fun _ => syncRaw h)

theorem flushAtoms {n : Nat} (h : r.SameRegs s) : r.SameRegs (s.flushAtoms n) :=
  cond (fun _ => ovfTry h) (fun _ => syncDue (tick1 (putRaw ((ovfTry h).upd rfl))))

theorem atom {n : Nat} {taken : Bool} (h : r.SameRegs s) : r.SameRegs (s.atom n taken) :=
  cond (fun _ => h) (fun _ => cond (fun _ => flushAtoms (h.upd rfl)) (fun _ => h.upd rfl))

theorem emitSync {n : Nat} (h : r.SameRegs s) : r.SameRegs (s.emitSync n) :=
  cond (fun _ => syncRaw (flushAtoms h)) (fun _ => h)

theorem resyncTrace {n : Nat} (h : r.SameRegs s) : r.SameRegs (s.resyncTrace n) :=
  cond (fun _ => emitSync (h.updCor rfl)) (fun _ => h)

theorem haltNow {n k : Nat} (h : r.SameRegs s) : r.SameRegs (s.haltNow n k) :=
  pb (pf (h.updCor rfl))

theorem haltPoll {n : Nat} (h : r.SameRegs s) : r.SameRegs (s.haltPoll n) :=
  cond (fun _ => haltNow h) (fun _ => cond (fun _ => haltNow h) (fun _ => h))

/-! ### Performance counters -/

theorem pmuAdd {n i k : Nat} (h : r.SameRegs s) (hi : i < 8) : r.SameRegs (s.pmuAdd n i k) := by
  unfold State.pmuAdd
  have cnt {v : W64} := h.setPmu (n := n) (v := v) (isPmu_counter hi)
  exact cond (fun _ => cnt) (fun _ => raise (cnt.setPmu (by decide)))

theorem pmu {n ev : Nat} (h : r.SameRegs s) : r.SameRegs (s.pmu n ev) :=
  cond (fun _ => h) (fun _ => h.forEach (fun _ _ hi ht => cond (fun _ => ht.pmuAdd (List.mem_range.mp hi)) (fun _ => ht)))

theorem pmuSettle {n : Nat} (h : r.SameRegs s) : r.SameRegs (s.pmuSettle n) :=
  cond (fun _ => h) (fun _ => h.forEach (fun _ _ hi ht => cond (fun _ => (ht.pmuAdd (List.mem_range.mp hi)).tick1) (fun _ => ht)))

theorem note {n ev : Nat} (h : r.SameRegs s) : r.SameRegs (s.note n ev) :=
  cond (fun _ => h) (fun _ => h.updCor rfl)

theorem counted {n : Nat} (h : r.SameRegs s) : r.SameRegs (s.counted n) :=
  pmuSettle ((forEach (pmu h) (fun _ _ _ ht => pmu ht)).updCor rfl)

/-! ### Translation -/

theorem fillL1 {n : Nat} {a : Acc} {e : TlbEnt} (h : r.SameRegs s) : r.SameRegs (s.fillL1 n a e) := by
  unfold State.fillL1
  refine tick1 ?_
  split
  · exact h.updCor rfl
  · exact h.updCor rfl

theorem fillL2 {n va : Nat} {e : TlbEnt} (h : r.SameRegs s) : r.SameRegs (s.fillL2 n e va) := by
  unfold State.fillL2
  dsimp only
  split
  · exact h
  · exact tick1 (h.updCor rfl)

theorem fillWc {n : Nat} {ws : List WcEnt} (h : r.SameRegs s) : r.SameRegs (s.fillWc n ws) :=
  h.forEach (fun _ _ _ ht => tick1 (ht.updCor rfl))

theorem install {n va : Nat} {c : TCtx} {a : Acc} {e : TlbEnt} {ws : List WcEnt} (h : r.SameRegs s) : r.SameRegs (s.install n c a va e ws) :=
  fillWc (fillL2 (fillL1 (h.updCor rfl)))

theorem rewalk {n va : Nat} {u : Bool} {a : Acc} {c : TCtx} (h : r.SameRegs s) : r.SameRegs (s.rewalk n u a c va).1 := by
  unfold State.rewalk
  dsimp only
  split
  · exact note h
  · exact install ((note h).updCor rfl)

theorem walk {n va : Nat} {u : Bool} {a : Acc} {c : TCtx} (h : r.SameRegs s) : r.SameRegs (s.walk n u a c va).1 := by
  unfold State.walk
  split
  · exact rewalk (note h)
  · exact install (note h)

theorem lookup {n va : Nat} {u : Bool} {a : Acc} {c : TCtx} (h : r.SameRegs s) : r.SameRegs (s.lookup n u a c va).1 := by
  have miss {ev : Nat} := note (n := n) (ev := ev) h
  unfold State.lookup
  dsimp only
  split
  · split
    · exact h
    · exact rewalk h
  · split
    · exact fillL1 miss
    · split
      · exact rewalk miss
      · exact walk miss

theorem translate {n va : Nat} {l : Lvl} {a : Acc} (h : r.SameRegs s) : r.SameRegs (s.translate n l a va).1 := by
  unfold State.translate
  dsimp only
  split
  · split <;> exact h
  · split
    · split <;> exact h
    · split
      · next e => exact (lookup h).of_pair e
      · next e => exact (lookup h).of_pair e

theorem fetchTr {n : Nat} (h : r.SameRegs s) : r.SameRegs (s.fetchTr n).1 := by
  unfold State.fetchTr
  dsimp only
  split
  · exact translate h
  · split
    · split
      · exact h.upd rfl
      · exact translate (h.tick1.updCor rfl)
    · exact translate (h.updCor rfl)

/-! ### The fetch of an instruction -/

theorem l2Back {k l : Nat} (h : r.SameRegs s) : r.SameRegs (s.l2Back k l) :=
  cond (fun _ => h.upd rfl) (fun _ => h)

theorem l2Evict {k l : Nat} (h : r.SameRegs s) : r.SameRegs (s.l2Evict k l) := by
  unfold State.l2Evict
  refine (l2Back h).mapCore (f := fun m c => if m / 4 = k then c.lose [l] else c) ?_ rfl (fun m c => ?_)
  · show (s.l2Back k l).core.map _ = _
    congr 1
    funext e
    split <;> rfl
  · split
    · exact c.lose_sameRegs _
    · exact .refl c

theorem l2Fill {k l : Nat} (h : r.SameRegs s) : r.SameRegs (s.l2Fill k l) := by
  have back : r.SameRegs (Machine.forEach (s.l2.map (·.1)) (fun s j => s.l2Back j l) s) := h.forEach (fun _ _ _ ht => l2Back ht)
  unfold State.l2Fill
  split
  · exact h.upd rfl
  · dsimp only
    split
    · exact (l2Evict back).tick1.upd rfl
    · exact back.upd rfl

theorem l1iFill {n line : Nat} {b : Bytes} (h : r.SameRegs s) : r.SameRegs (s.l1iFill n line b) := by
  unfold State.l1iFill
  dsimp only
  split
  · exact tick1 ((l2Fill h).updCor rfl)
  · exact (l2Fill h).updCor rfl

/-- Control space answers no access of a whole line, and no other place does more than take a free value. -/
theorem busRd_line {q : Req} {a : Nat} {b : Bytes} (h : r.SameRegs s) (e : s.busRd q a 64 = (t, some b)) : r.SameRegs t := by
  unfold State.busRd at e
  split at e
  · simp [State.ctlRead, ctlShape] at e
  · split at e
    · simp at e
    · split at e
      · simp at e
      · split at e
        · simp at e
        · obtain ⟨rfl, -⟩ := Prod.mk.inj e
          exact h.upd rfl
  · obtain ⟨rfl, -⟩ := Prod.mk.inj e
    exact h
  · split at e
    · obtain ⟨rfl, -⟩ := Prod.mk.inj e
      exact h.upd rfl
    · simp at e
  · obtain ⟨rfl, -⟩ := Prod.mk.inj e
    exact h

/-- A fetch that does not fault. -/
theorem fetch {n : Nat} (h : r.SameRegs s) (e : s.fetch n = (t, none)) : r.SameRegs t := by
  have tr := fetchTr (n := n) h
  unfold State.fetch at e
  dsimp only at e
  split at e
  · cases e
  · next _ _ etr =>
    replace tr := tr.of_pair etr
    split at e
    · cases e; exact tr
    · split at e
      · cases e
      · next erd =>
        have rd := note (n := n) (ev := evL1I) (tr.busRd_line erd)
        split at e
        · cases e; exact rd
        · cases e; exact l1iFill (cond (fun _ => rd) (fun _ => note rd))

end State.SameRegs

/-! ### What the registers of a core then read -/

namespace State.SameRegs

variable {s t : State} (h : s.SameRegs t)
include h

theorem sr {n k : Nat} (hk : isPmu k = false) : t.sr n k = s.sr n k := (h.core n).sr n k hk
theorem lvl (n : Nat) : t.lvl n = s.lvl n := by simp only [State.lvl, h.sr (k := srSTATUS) rfl]
theorem stBit (n b : Nat) : t.stBit n b = s.stBit n b := by simp only [State.stBit, h.sr (k := srSTATUS) rfl]
theorem pcOf (n : Nat) : t.pcOf n = s.pcOf n := (h.core n).pc
theorem spAt (n l : Nat) : (t.cor n).spAt l = (s.cor n).spAt l := by simp only [Core.spAt, (h.core n).sp]
theorem gr (n i : Nat) : t.gr n i = s.gr n i := by simp only [State.gr, h.lvl, h.spAt, (h.core n).g]
theorem fallsTo (n : Nat) : t.fallsTo n = s.fallsTo n := by
  simp only [State.fallsTo, h.pcOf, h.sr (k := srLCNT) rfl, h.sr (k := srLEND) rfl]

theorem leaves (n d : Nat) : s.Leaves t n d :=
  ⟨fun i _ => h.gr n i, fun l _ => h.spAt n l, fun _ _ _ hk => h.sr hk, fun a => by simp only [State.mget, h.mem], fun m _ => ⟨h.pcOf m, h.gr m⟩⟩

/-- An exception taken where nothing of the instruction's own has been done yet. -/
theorem traps (n code : Nat) : s.Traps (t.trap n { code := code, faddr := t.pcOf n, synd := 0 }) n code (s.pcOf n) :=
  ⟨t, h.leaves n 0, h.pcOf n, h.sr rfl, h.sr rfl, by rw [h.pcOf]⟩

end State.SameRegs

end Sys2Proof.Machine
end

section
/-!
SUPPORT. The frame of an instruction of Parhild-64: its issue, the write of its result, and its completion (R376, R390).
-/
namespace Sys2Proof.Machine

/-! ### An instruction that issues -/

theorem State.Issues.sameRegs {s : State} {n : Nat} (h : s.Issues n) : s.SameRegs (s.issued n) := by
  have ready : s.SameRegs (let u := s.resyncTrace n; u.setCor n { u.cor n with shield := false, evs := [] }) :=
    (State.SameRegs.refl s).resyncTrace.updCor rfl
  exact ready.fetch (Prod.ext rfl h.fetch)

/-- On a core that can execute it, an instruction of any level and place does its own work in the state that the fetch leaves, or is illegal. -/
theorem State.Issues.insnU_eq {s : State} {n : Nat} (h : s.Issues n) (legal : Bool) (body : State → Flow) :
    s.insnU n legal body = if legal then (body (s.issued n)).finish n else (s.issued n).trap n { code := xILLEGAL, faddr := (s.issued n).pcOf n, synd := 0 } := by
  simp only [State.insnU, State.insn, h.runs, State.detApply, h.det, Bool.not_true, Bool.false_eq_true, if_false]
  split
  · next e => exact absurd ((congrArg Prod.snd e).symm.trans h.fetch) (by simp)
  · next _ t e =>
    have ht : s.issued n = t := congrArg Prod.fst e
    rw [ht]
    cases legal <;> simp

/-! ### A write of a general register -/

section
variable (s : State) (n d : Nat) (v : W64)

/-- A write of g[d] is one of the core's stack pointers or general registers, and of no other core. -/
theorem State.cor_gw (m : Nat) : ∃ g sp, (s.gw n d v).cor m = { s.cor m with g := g, sp := sp } ∧ (m ≠ n → g = (s.cor m).g ∧ sp = (s.cor m).sp) := by
  by_cases e : n = m
  · subst e
    unfold State.gw
    split
    · exact ⟨_, _, rfl, by simp⟩
    · split
      · exact ⟨_, _, State.cor_setCor .., by simp⟩
      · exact ⟨_, _, State.cor_setCor .., by simp⟩
  · refine ⟨_, _, ?_, fun _ => ⟨rfl, rfl⟩⟩
    unfold State.gw State.setSp
    split
    · rfl
    · split <;> exact State.cor_setCor_ne _ _ e

@[simp] theorem State.gw_mem : (s.gw n d v).mem = s.mem := by
  unfold State.gw
  split
  · rfl
  · split <;> rfl

@[simp] theorem State.gw_sr (m k : Nat) : (s.gw n d v).sr m k = s.sr m k := by
  obtain ⟨g, sp, e, -⟩ := s.cor_gw n d v m
  simp only [State.sr, e, Core.sr1]

@[simp] theorem State.gw_pcOf (m : Nat) : (s.gw n d v).pcOf m = s.pcOf m := by
  obtain ⟨g, sp, e, -⟩ := s.cor_gw n d v m
  simp only [State.pcOf, e]

@[simp] theorem State.gw_sb (m : Nat) : ((s.gw n d v).cor m).sb = (s.cor m).sb := by
  obtain ⟨g, sp, e, -⟩ := s.cor_gw n d v m
  simp only [e]

@[simp] theorem State.gw_lvl (m : Nat) : (s.gw n d v).lvl m = s.lvl m := by simp only [State.lvl, State.gw_sr]

theorem State.gw_spAt (l : Nat) : ((s.gw n d v).cor n).spAt l = if d = 31 ∧ l = (s.lvl n).num then v else (s.cor n).spAt l := by
  unfold State.gw State.setSp
  split
  · next e => simp [e]
  · split
    · next e => simp [Core.spAt, tget_tset, e, eq_comm]
    · next e => simp [Core.spAt, e]

theorem State.gr_gw_same : (s.gw n d v).gr n d = if d = 0 then 0 else v := by
  by_cases h31 : d = 31
  · subst h31; simp [State.gr, State.gw_spAt]
  · unfold State.gr
    split
    · rfl
    · next h0 => simp [State.gw, h0, h31]

theorem State.gr_gw_ne {i : Nat} (h : i ≠ d) : (s.gw n d v).gr n i = s.gr n i := by
  unfold State.gr
  split
  · rfl
  · split
    · next e => 
      have : d ≠ 31 := fun e' => h (e.trans e'.symm)
      simp [State.gw_spAt, this]
    · unfold State.gw State.setSp
      split
      · rfl
      · split
        · simp
        · simp [tget_tset_ne _ _ _ h.symm]

theorem State.gr_gw_core {m : Nat} (h : m ≠ n) (i : Nat) : (s.gw n d v).gr m i = s.gr m i := by
  obtain ⟨g, sp, e, keep⟩ := s.cor_gw n d v m
  obtain ⟨rfl, rfl⟩ := keep h
  simp only [State.gr, State.gw_lvl, e]

/-- A write of g[d] leaves every other register. -/
theorem State.leaves_gw : s.Leaves (s.gw n d v) n d where
  regs _ h := s.gr_gw_ne n d v h
  sps l h := by rw [State.gw_spAt, if_neg (fun ⟨hd, hl⟩ => h hd hl)]
  srs k _ _ _ := s.gw_sr n d v n k
  mem _ := by simp only [State.mget, State.gw_mem]
  others m h := ⟨s.gw_pcOf n d v m, s.gr_gw_core n d v h⟩

end

/-! ### Completion -/

theorem State.SameRegs.leaves_trans {s t u : State} {n d : Nat} (h : s.SameRegs t) (k : t.Leaves u n d) : s.Leaves u n d where
  regs i hi := (k.regs i hi).trans (h.gr n i)
  sps l hl := (k.sps l (fun e => by rw [h.lvl]; exact hl e)).trans (h.spAt n l)
  srs i a b c := (k.srs i a b c).trans (h.sr c)
  mem a := (k.mem a).trans ((h.leaves n d).mem a)
  others m hm := ⟨(k.others m hm).1.trans (h.pcOf m), fun i => ((k.others m hm).2 i).trans (h.gr m i)⟩

theorem State.Leaves.sameRegs {s t u : State} {n d : Nat} (k : s.Leaves t n d) (h : t.SameRegs u) : s.Leaves u n d where
  regs i hi := (h.gr n i).trans (k.regs i hi)
  sps l hl := (h.spAt n l).trans (k.sps l hl)
  srs i a b c := (h.sr c).trans (k.srs i a b c)
  mem a := ((h.leaves n d).mem a).trans (k.mem a)
  others m hm := ⟨(h.pcOf m).trans (k.others m hm).1, fun i => (h.gr m i).trans ((k.others m hm).2 i)⟩

/-- Only PC and LCNT of core n are set. -/
def State.goto (s : State) (n : Nat) (pc lcnt : W64) : State := (s.setSr n srLCNT lcnt).setPc n pc

section
variable (s : State) (n : Nat) (pc lcnt : W64)

theorem State.cor_goto (m : Nat) :
    (s.goto n pc lcnt).cor m = if n = m then { s.cor m with sr := tset (s.cor m).sr srLCNT lcnt, pc := pc } else s.cor m := by
  unfold State.goto State.setSr State.setPc
  split
  · next e => subst e; simp
  · next e => simp [State.cor_setCor_ne _ _ e]

@[simp] theorem State.goto_pcOf : (s.goto n pc lcnt).pcOf n = pc := by simp [State.pcOf, State.cor_goto]
@[simp] theorem State.goto_sb (m : Nat) : ((s.goto n pc lcnt).cor m).sb = (s.cor m).sb := by rw [State.cor_goto]; split <;> rfl
@[simp] theorem State.goto_spAt (m l : Nat) : ((s.goto n pc lcnt).cor m).spAt l = (s.cor m).spAt l := by rw [State.cor_goto]; split <;> rfl
@[simp] theorem State.goto_lcnt : (s.goto n pc lcnt).sr n srLCNT = lcnt := by simp [State.sr, State.cor_goto, Core.sr1]

theorem State.goto_sr (m : Nat) {k : Nat} (h : k ≠ srLCNT) : (s.goto n pc lcnt).sr m k = s.sr m k := by
  simp only [State.sr, State.cor_goto]
  split
  · exact tget_tset_ne _ _ _ h.symm
  · rfl

theorem State.goto_lvl (m : Nat) : (s.goto n pc lcnt).lvl m = s.lvl m := by
  simp only [State.lvl, s.goto_sr n pc lcnt m (show srSTATUS ≠ srLCNT by decide)]

@[simp] theorem State.goto_gr (m i : Nat) : (s.goto n pc lcnt).gr m i = s.gr m i := by
  have g : ((s.goto n pc lcnt).cor m).g = (s.cor m).g := by rw [State.cor_goto]; split <;> rfl
  simp only [State.gr, State.goto_lvl, State.goto_spAt, g]

theorem State.Leaves.goto {s t : State} {n d : Nat} (k : s.Leaves t n d) (pc lcnt : W64) : s.Leaves (t.goto n pc lcnt) n d where
  regs i hi := (t.goto_gr n pc lcnt n i).trans (k.regs i hi)
  sps l hl := (t.goto_spAt n pc lcnt n l).trans (k.sps l hl)
  srs i a b c := (t.goto_sr n pc lcnt n a).trans (k.srs i a b c)
  mem a := k.mem a
  others m hm := ⟨(show _ = t.pcOf m by simp only [State.pcOf, State.cor_goto, if_neg hm.symm]).trans (k.others m hm).1,
    fun i => (t.goto_gr n pc lcnt m i).trans ((k.others m hm).2 i)⟩

theorem srReset_lcnt (m : Nat) : srReset m srLCNT = 0 := rfl

/-- A PC alone is set, LCNT staying as it was. -/
theorem State.goto_sameRegs_setPc : (s.goto n pc (s.sr n srLCNT)).SameRegs (s.setPc n pc) := by
  refine ⟨fun m => ?_, rfl⟩
  rw [State.cor_goto]
  split
  · next e =>
    subst e
    rw [State.setPc, State.cor_setCor]
    exact ⟨rfl, rfl, rfl, rfl, fun i k _ => by
      by_cases hk : srLCNT = k
      · subst hk; simp only [Core.sr1, State.sr, tget_tset_same, srReset_lcnt]
      · exact (tget_tset_ne _ _ _ hk).symm⟩
  · next e =>
    rw [State.setPc, State.cor_setCor_ne _ _ e]
    exact .refl _

end

/-- The completion of an instruction that falls through: PC and LCNT go on by R376, and beside them nothing of SameRegs changes. -/
theorem State.retire_goto (s : State) (n : Nat) :
    ∃ c, s.SameRegs c ∧ (c.goto n (s.fallsTo n).1 (s.fallsTo n).2).SameRegs (s.retire n) := by
  have hc : s.SameRegs (s.counted n) := (State.SameRegs.refl s).counted
  refine ⟨s.counted n, hc, ?_⟩
  rw [← hc.fallsTo]
  unfold State.retire State.fallsTo State.atLoopEnd
  simp only [Bool.and_eq_true, decide_eq_true_eq]
  split
  · dsimp only
    have lend (v : W64) : ((s.counted n).setSr n srLCNT v).sr n srLEND = (s.counted n).sr n srLEND := by
      simp only [State.setSr, State.sr, State.cor_setCor, Core.sr1, tget_tset_ne _ _ _ (show srLCNT ≠ srLEND by decide)]
    split
    · rw [lend]
      exact .haltPoll (.atom (.refl _))
    · exact .haltPoll (.atom (.refl _))
  · exact State.SameRegs.haltPoll (State.goto_sameRegs_setPc ..)

/-- The completion of an instruction that has written v to g[d]. -/
theorem State.SameRegs.retires {s u : State} (h : s.SameRegs u) (n d : Nat) (v : W64) : s.Retires ((u.result n d v).finish n) n d v := by
  obtain ⟨c, hc, ht⟩ := (u.gw n d v).retire_goto n
  have falls : (u.gw n d v).fallsTo n = s.fallsTo n := by
    rw [← h.fallsTo]
    simp only [State.fallsTo, State.gw_sr, State.gw_pcOf]
  rw [falls] at ht
  change s.Retires ((u.gw n d v).retire n) n d v
  exact {
    leaves := ((h.leaves_trans (u.leaves_gw n d v)).sameRegs hc |>.goto _ _).sameRegs ht
    result := by rw [ht.gr, State.goto_gr, hc.gr, State.gr_gw_same]
    pc := by rw [ht.pcOf, State.goto_pcOf]
    lcnt := by rw [ht.sr rfl, State.goto_lcnt]
    lend := by rw [ht.sr rfl, State.goto_sr _ _ _ _ _ (by decide), hc.sr rfl, State.gw_sr, h.sr rfl]
    buffer := by rw [(ht.core n).sb, State.goto_sb, (hc.core n).sb, State.gw_sb, (h.core n).sb] }

end Sys2Proof.Machine
end

section
/-!
PROOFS. The divides of Parhild-64 (R367 to R369).
-/
namespace Sys2Proof.Machine

/-- A remainder is smaller than the divisor and has the sign of the dividend (R367). -/
theorem tmod_spec (x : Int) {y : Int} (h : y ≠ 0) :
    (x.tmod y).natAbs < y.natAbs ∧ (0 ≤ x → 0 ≤ x.tmod y) ∧ (x ≤ 0 → x.tmod y ≤ 0) := by
  refine ⟨?_, fun hx => Int.tmod_nonneg y hx, fun hx => ?_⟩
  · rw [Int.natAbs_tmod]
    exact Nat.mod_lt _ (Int.natAbs_pos.mpr h)
  · have := Int.tmod_nonneg (a := -x) y (by omega)
    rw [Int.neg_tmod] at this
    omega

/-- A signed quotient leaves the range of its operands for the most negative dividend divided by −1 alone (R369). -/
theorem outside_tdiv_iff {w : Nat} {x y : Int} (lo : -2 ^ (w - 1) ≤ x) (hi : x < 2 ^ (w - 1)) (hy : y ≠ 0) :
    outside w (x.tdiv y) = true ↔ x = -2 ^ (w - 1) ∧ y = -1 := by
  simp only [outside, Bool.or_eq_true, decide_eq_true_eq]
  push_cast
  generalize (2 : Int) ^ (w - 1) = m at lo hi ⊢
  by_cases h1 : y = 1
  · subst h1; rw [Int.tdiv_one]; omega
  by_cases h2 : y = -1
  · subst h2; rw [Int.tdiv_neg, Int.tdiv_one]; omega
  have small : (x.tdiv y).natAbs * 2 ≤ x.natAbs := by
    rw [Int.natAbs_tdiv]
    calc x.natAbs / y.natAbs * 2 ≤ x.natAbs / y.natAbs * y.natAbs := Nat.mul_le_mul_left _ (by omega)
      _ ≤ x.natAbs := Nat.div_mul_le_self _ _
  omega

/-- The most negative dividend and its quotient by −1 have the same low bits (R369). -/
theorem wrapTo_corner {w : Nat} (hw : 0 < w) : wrapTo w (2 ^ (w - 1)) = wrapTo w (-2 ^ (w - 1)) := by
  have double : (2 : Int) ^ (w - 1) = -2 ^ (w - 1) + (2 ^ w : Nat) := by
    obtain ⟨k, rfl⟩ : ∃ k, w = k + 1 := ⟨w - 1, by omega⟩
    rw [Nat.add_sub_cancel, Int.natCast_pow, Int.pow_succ]
    show (2 : Int) ^ k = -2 ^ k + 2 ^ k * 2
    omega
  have low : BitVec.ofInt w (2 ^ (w - 1)) = BitVec.ofInt w (-2 ^ (w - 1)) :=
    (congrArg (BitVec.ofInt w) double).trans (BitVec.eq_of_toNat_eq (by simp only [BitVec.toNat_ofInt, Int.add_emod_right]))
  simp only [wrapTo, low]

/-- An operand as a divide of width w reads it (R367). -/
def divRead (w : Nat) (signed : Bool) (v : W64) : Int := if signed then (v.setWidth w).toInt else (v.toNat % 2 ^ w : Nat)

/-- What a divide does in state s once its operands x and y are read (R368, R369). -/
def State.divWork (s : State) (n d w : Nat) (signed quo : Bool) (x y : Int) : Flow :=
  if y = 0 then
    if s.dze n then .exc s { code := xDIVZ, faddr := s.pcOf n, synd := 0 } else s.result n d (if quo then 0 else wrapTo w x)
  else if quo then (if signed then s.exact n d w (x.tdiv y) else s.result n d (wrapTo w (x / y)))
  else s.result n d (wrapTo w (x.tmod y))

theorem State.Issues.divide_eq {s : State} {n : Nat} (h : s.Issues n) (d a b : Fin 32) (z : BitVec 8) (w : Nat) (signed quo : Bool) :
    s.divide n d a b z w signed quo =
      if z == 0 then ((s.issued n).divWork n d w signed quo (divRead w signed (s.gr n a)) (divRead w signed (s.gr n b))).finish n
      else (s.issued n).trap n { code := xILLEGAL, faddr := (s.issued n).pcOf n, synd := 0 } := by
  rw [← h.sameRegs.gr n a, ← h.sameRegs.gr n b]
  simp only [divRead, ← BitVec.toNat_setWidth]
  exact h.insnU_eq _ _

/-- Every row of p64Div runs State.divide on the operands that it names. -/
theorem p64Div_eq_some {s : State} {i : Instr} {p : P64Div} (h : p64Div s i = some p) :
    ∃ a b z, exec i s = .next (s.divide p.n p.d a b z p.w p.signed p.quo) ∧ (p.w = 64 ∨ p.w = 32) ∧ p.legal = (z == 0) ∧
      p.x = divRead p.w p.signed (s.gr p.n a) ∧ p.y = divRead p.w p.signed (s.gr p.n b) := by
  unfold p64Div at h
  dsimp only at h
  split at h <;> cases h
  all_goals exact ⟨_, _, _, rfl, by simp, rfl, rfl, rfl⟩

section
variable (s : State) (n d w : Nat) (quo : Bool) {x y : Int}

theorem State.divWork_zero_exc (signed : Bool) (x : Int) (h : s.stBit n 6 = true) :
    s.divWork n d w signed quo x 0 = .exc s { code := xDIVZ, faddr := s.pcOf n, synd := 0 } := by
  simp [State.divWork, State.dze, h]

theorem State.divWork_zero (signed : Bool) (x : Int) (h : s.stBit n 6 = false) :
    s.divWork n d w signed quo x 0 = s.result n d (wrapTo w (if quo then 0 else x)) := by
  have zero : wrapTo w 0 = 0 := by simp [wrapTo, BitVec.signExtend]
  cases quo <;> simp [State.divWork, State.dze, h, zero]

theorem State.exact_of_inside {v : Int} (h : outside w v = false) : s.exact n d w v = s.result n d (wrapTo w v) := by
  simp [State.exact, h]

theorem State.exact_of_not_ove {v : Int} (h : s.stBit n 7 = false) : s.exact n d w v = s.result n d (wrapTo w v) := by
  simp [State.exact, State.ove, h]

theorem State.exact_exc {v : Int} (ho : outside w v = true) (h : s.stBit n 7 = true) :
    s.exact n d w v = .exc s { code := xOVF, faddr := s.pcOf n, synd := 0 } := by
  simp [State.exact, State.ove, h, ho]

theorem State.divWork_signed_quo (hy : y ≠ 0) : s.divWork n d w true true x y = s.exact n d w (x.tdiv y) := by
  simp [State.divWork, hy]

theorem State.divWork_corner_exc (h : s.stBit n 7 = true) :
    s.divWork n d w true true (-2 ^ (w - 1)) (-1) = .exc s { code := xOVF, faddr := s.pcOf n, synd := 0 } := by
  have pos : (0 : Int) < 2 ^ (w - 1) := Int.pow_pos (by decide)
  have out : outside w ((-2 ^ (w - 1) : Int).tdiv (-1)) = true :=
    (outside_tdiv_iff (Int.le_refl _) (by omega) (by decide)).mpr ⟨rfl, rfl⟩
  rw [State.divWork_signed_quo _ _ _ _ (by decide), State.exact_exc _ _ _ _ out h]

theorem State.divWork_corner (hw : 0 < w) (h : s.stBit n 7 = false) :
    s.divWork n d w true true (-2 ^ (w - 1)) (-1) = s.result n d (wrapTo w (-2 ^ (w - 1))) := by
  rw [State.divWork_signed_quo _ _ _ _ (by decide), State.exact_of_not_ove _ _ _ _ h, Int.tdiv_neg, Int.tdiv_one, Int.neg_neg, wrapTo_corner hw]

end

/-- What a signed and an unsigned operand range over. -/
theorem divRead_range (w : Nat) (signed : Bool) (v : W64) :
    (signed = true → -2 ^ (w - 1) ≤ divRead w signed v ∧ divRead w signed v < 2 ^ (w - 1)) ∧ (signed = false → 0 ≤ divRead w signed v) := by
  cases signed
  · exact ⟨nofun, fun _ => Int.natCast_nonneg _⟩
  · exact ⟨fun _ => ⟨BitVec.le_toInt _, BitVec.toInt_lt⟩, nofun⟩

section
variable (s : State) (n d w : Nat) {signed quo : Bool} {x y : Int}

/-- Beside a divisor of 0 and the corner, a divide writes the quotient rounded toward 0, or the remainder that goes with it. -/
theorem State.divWork_result (hs : signed = true → -2 ^ (w - 1) ≤ x ∧ x < 2 ^ (w - 1)) (hu : signed = false → 0 ≤ x) (hy : y ≠ 0)
    (hc : ¬(signed = true ∧ quo = true ∧ x = -2 ^ (w - 1) ∧ y = -1)) :
    s.divWork n d w signed quo x y = s.result n d (wrapTo w (if quo then x.tdiv y else x.tmod y)) := by
  cases quo with
  | false => simp [State.divWork, hy]
  | true =>
    cases signed with
    | false => simp [State.divWork, hy, Int.tdiv_eq_ediv_of_nonneg (hu rfl)]
    | true =>
      obtain ⟨lo, hi⟩ := hs rfl
      have inside : outside w (x.tdiv y) = false := by
        rw [← Bool.not_eq_true, outside_tdiv_iff lo hi hy]
        exact fun h => hc ⟨rfl, rfl, h⟩
      rw [State.divWork_signed_quo _ _ _ _ hy, State.exact_of_inside _ _ _ _ inside]
      rfl

end

/-- Settles O46. The state that the fetch leaves has the registers of s, so the divide reads there what the statement names; its work
has the outcomes of divWork_zero_exc, divWork_zero, divWork_corner_exc, divWork_corner and divWork_result, which become the step's. -/
theorem p64DivideResults : Obligations.P64DivideResults := by
  intro s i p hp issues
  obtain ⟨a, b, z, step, width, legal, hx, hy⟩ := p64Div_eq_some hp
  have same := issues.sameRegs
  have range := divRead_range p.w p.signed (s.gr p.n a)
  rw [issues.divide_eq, ← hx, ← hy, ← legal] at step
  rw [← hx] at range
  clear hp hx hy legal
  obtain ⟨n, d, legal, w, x, y, signed, quo⟩ := p
  dsimp only at *
  generalize s.issued n = u at step same
  refine ⟨fun h => ⟨_, by rw [step, h]; rfl, same.traps n 0x01⟩, fun h => ?_⟩
  rw [h, if_pos rfl] at step
  have traps {code : Nat} (e : u.divWork n d w signed quo x y = .exc u { code := code, faddr := u.pcOf n, synd := 0 }) :
      ∃ t, exec i s = .next t ∧ s.Traps t n code (s.pcOf n) := ⟨_, by rw [step, e]; rfl, same.traps n code⟩
  have retires {v : Int} (e : u.divWork n d w signed quo x y = u.result n d (wrapTo w v)) :
      ∃ t, exec i s = .next t ∧ s.Retires t n d (wrapTo w v) := ⟨_, by rw [step, e], same.retires n d _⟩
  rw [← same.stBit, ← same.stBit]
  refine ⟨fun y0 dze => ?_, fun y0 dze => ?_, fun hc ove => ?_, fun hc ove => ?_, fun y0 hc => ?_⟩
  · subst y0
    exact traps (u.divWork_zero_exc n d w quo signed x dze)
  · subst y0
    exact retires (u.divWork_zero n d w quo signed x dze)
  · obtain ⟨rfl, rfl, rfl, rfl⟩ := hc
    exact traps (u.divWork_corner_exc n d w ove)
  · obtain ⟨rfl, rfl, rfl, rfl⟩ := hc
    exact retires (u.divWork_corner n d w (by omega) ove)
  · obtain ⟨t, next, ret⟩ := retires (u.divWork_result n d w range.1 range.2 y0 hc)
    refine ⟨t, _, next, ret, ?_, ?_⟩
    · rintro rfl
      have rem : x - x.tdiv y * y = x.tmod y := by
        rw [Int.tmod_def, Int.mul_comm]
      rw [if_pos rfl, rem]
      exact tmod_spec x y0
    · rintro rfl
      exact ⟨(tmod_spec x y0).1, Int.emod_eq_zero_of_dvd (Int.dvd_self_sub_tmod), (tmod_spec x y0).2⟩

end Sys2Proof.Machine
end

section
/-!
SUPPORT. What an access that reaches its register does, and the bits of a register after one of them is set or cleared (R4, R7).
-/
namespace Sys2Proof.Machine

/-! ### Accesses -/

theorem coreNo_of_agent {q : Req} {n : Fin 32} (h : q.agent = .core n) : coreNo q = some n.val := by
  simp only [coreNo, h]

/-- Between the loop clusters and the DMA engines, but for the EVD slices, no register brings a region back from retention. -/
theorem State.engineUp_eq_self (s : State) {a : Nat} (lo : ctlBase + 0x600000 ≤ a) (hi : a < ctlBase + 0xC00000)
    (slice : a < ctlBase + 0xA04000 ∨ ctlBase + 0xA04200 ≤ a) : s.engineUp a = s := by
  unfold State.engineUp
  dsimp only
  rw [if_neg (by omega), if_neg (by omega), if_neg (by omega), if_neg (by unfold ctlBase at *; omega)]

/-- A read that reaches the register, and wakes no region, is the read of the register. -/
theorem State.Shows.get_eq {s : State} {q : Req} {r : Reg} {i : Nat} (h : s.Shows q r i) (away : s.engineUp (r.addrOf i) = s) :
    (.next (s.regGet q r i) : Out) = (s.regRead q r i).1.showed (s.regRead q r i).2 := by
  simp only [State.regGet, State.ctlRd, h.gate, away, State.regReadAs, if_pos h.level, State.showed]

/-- A write that reaches the register, and wakes no region, is the write of the register. -/
theorem State.Admits.cmd_eq {s : State} {q : Req} {r : Reg} {i : Nat} (h : s.Admits q r i) (notCh : r ≠ .CH_CTL)
    (away : s.engineUp (r.addrOf i) = s) (v : W32) : (.next (s.regCmd q r i v) : Out) = (s.regWrite q r i none v).wrote := by
  have level : (r.desc.wrLvl.num ≤ reqRights q ∨ isPort q = true ∨ (none : Option Nat).isSome = true) ∧ ¬(inKeep r = true ∧ isDebug q = true) :=
    ⟨h.level.imp_right .inl, fun ⟨keep, debug⟩ => by simp [h.keep keep] at debug⟩
  simp only [State.regCmd, State.ctlWr, h.gate, away, State.regWriteAs, if_neg (fun e => notCh (And.left e)), if_pos level, State.wrote, if_true]

/-! ### Bits of a register -/

theorem State.getB_eq_getLsbD (s : State) (r : Reg) (i b : Nat) : s.getB r i b = (s.rd r i).getLsbD b := by
  simp only [State.getB, bit, BitVec.getLsbD, Nat.testBit_eq_decide_div_mod_eq]

theorem getLsbD_ofNat_two_pow (b b' : Nat) : (BitVec.ofNat 32 (2 ^ b)).getLsbD b' = decide (b' = b ∧ b' < 32) := by
  rw [BitVec.getLsbD_ofNat, Nat.testBit_two_pow, Bool.decide_and, Bool.and_comm]
  simp only [eq_comm]

theorem State.getB_setB (s : State) (r r' : Reg) (i i' : Nat) {b : Nat} (h : b < 32) (b' : Nat) :
    (s.setB r i b).getB r' i' b' = (decide (r' = r ∧ i' = i ∧ b' = b) || s.getB r' i' b') := by
  simp only [State.getB_eq_getLsbD, State.setB, State.rd_wr]
  by_cases e : r' = r ∧ i' = i
  · obtain ⟨rfl, rfl⟩ := e
    have bound : b' = b ∧ b' < 32 ↔ b' = b := and_iff_left_of_imp (fun e => e ▸ h)
    simp only [and_self, true_and, if_true, BitVec.getLsbD_or, getLsbD_ofNat_two_pow, bound, Bool.or_comm]
  · simp [e, ← and_assoc]

theorem State.getB_clrB (s : State) (r r' : Reg) (i i' b b' : Nat) :
    (s.clrB r i b).getB r' i' b' = (s.getB r' i' b' && !decide (r' = r ∧ i' = i ∧ b' = b)) := by
  simp only [State.getB_eq_getLsbD, State.clrB, State.rd_wr]
  by_cases e : r' = r ∧ i' = i
  · obtain ⟨rfl, rfl⟩ := e
    by_cases hw : b' < 32
    · simp only [and_self, true_and, if_true, BitVec.getLsbD_and, BitVec.getLsbD_not, getLsbD_ofNat_two_pow, hw, and_true, decide_true, Bool.true_and]
    · simp only [BitVec.getLsbD_of_ge _ _ (Nat.le_of_not_lt hw), Bool.false_and]
  · simp [e, ← and_assoc]

/-! ### Frames -/

/-- What keeps the parts outside of a mask has the frame of every list of parts that names the mask's. -/
theorem Kept.toFrame {m : Nat} {s t : State} (h : Kept m s t) {ps : List Piece} (named : ∀ p, p ∉ ps → m.testBit p.ctorIdx = false) : Frame ps s t :=
  ⟨h.queue, fun p hp => h.frame p (named p hp)⟩

end Sys2Proof.Machine
end

section
/-!
SUPPORT. Acknowledge and end of interrupt at a target (R438, R442, R443).
-/
namespace Sys2Proof

/-! ### Entries of a table -/

theorem mem_of_mem_tset {α : Type} {t : Tab α} {i : Nat} {v : α} {e : Nat × α} (h : e ∈ tset t i v) : e = (i, v) ∨ e ∈ t := by
  induction t with
  | nil => simpa [tset] using h
  | cons d r ih =>
    obtain ⟨k, w⟩ := d
    unfold tset at h
    split at h
    · exact (List.mem_cons.mp h).imp_right (List.mem_cons_of_mem _)
    · split at h
      · exact List.mem_cons.mp h
      · rcases List.mem_cons.mp h with rfl | h
        · exact .inr List.mem_cons_self
        · exact (ih h).imp_right (List.mem_cons_of_mem _)

theorem mem_tset_self {α : Type} (t : Tab α) (i : Nat) (v : α) : (i, v) ∈ tset t i v := by
  induction t with
  | nil => exact List.mem_cons_self
  | cons d r ih =>
    unfold tset
    split
    · exact List.mem_cons_self
    · split
      · exact List.mem_cons_self
      · exact List.mem_cons_of_mem _ ih

theorem tget?_tdel {α : Type} (t : Tab α) (i k : Nat) : tget? (tdel t i) k = if k = i then none else tget? t k := by
  induction t with
  | nil => simp [tdel, tget?]
  | cons d r ih =>
    obtain ⟨j, w⟩ := d
    simp only [tdel, ne_eq, decide_not] at ih ⊢
    by_cases hj : j = i
    · subst hj
      by_cases hk : k = j
      · subst hk
        simp [ih]
      · simp [ih, hk, tget?, Ne.symm hk]
    · by_cases hk : j = k
      · simp [tget?, hk, hk ▸ hj]
      · simp [tget?, hj, hk, ih]

/-! ### The least value of a list -/

theorem le_foldl_min_iff {α : Type} (f : α → Nat) (k : Nat) (l : List α) (a : Nat) :
    k ≤ l.foldl (fun m e => min m (f e)) a ↔ k ≤ a ∧ ∀ e ∈ l, k ≤ f e := by
  induction l generalizing a with
  | nil => simp
  | cons d r ih => rw [List.foldl_cons, ih, Nat.le_min, List.forall_mem_cons, and_assoc]

theorem foldl_min_attained {α : Type} (f : α → Nat) (l : List α) (a : Nat) :
    l.foldl (fun m e => min m (f e)) a = a ∨ ∃ e ∈ l, l.foldl (fun m e => min m (f e)) a = f e := by
  induction l generalizing a with
  | nil => exact .inl rfl
  | cons d r ih =>
    simp only [List.foldl_cons]
    rcases ih (min a (f d)) with h | ⟨e, he, h⟩
    · rcases Nat.le_total a (f d) with le | le
      · exact .inl (h.trans (Nat.min_eq_left le))
      · exact .inr ⟨d, List.mem_cons_self, h.trans (Nat.min_eq_right le)⟩
    · exact .inr ⟨e, List.mem_cons_of_mem _ he, h⟩

namespace Machine

/-! ### The running priority (R438) -/

theorem State.le_rpr_iff (s : State) (t k : Nat) : k ≤ s.rpr t ↔ k ≤ 16 ∧ ∀ y, (y, t) ∈ s.evd.actOn → k ≤ s.prio y := by
  simp only [State.rpr, le_foldl_min_iff, List.mem_filter, decide_eq_true_eq]
  exact and_congr_right fun _ => ⟨fun h y hy => h (y, t) ⟨hy, rfl⟩, fun h e he => h e.1 (he.2 ▸ he.1)⟩

theorem State.rpr_le_sixteen (s : State) (t : Nat) : s.rpr t ≤ 16 := ((s.le_rpr_iff t _).mp (Nat.le_refl _)).1

theorem State.rpr_le_prio {s : State} {t y : Nat} (h : (y, t) ∈ s.evd.actOn) : s.rpr t ≤ s.prio y := ((s.le_rpr_iff t _).mp (Nat.le_refl _)).2 y h

theorem State.rpr_attained (s : State) (t : Nat) : s.rpr t = 16 ∨ ∃ y, (y, t) ∈ s.evd.actOn ∧ s.rpr t = s.prio y := by
  rcases foldl_min_attained (fun e : Nat × Nat => s.prio e.1) (s.evd.actOn.filter (fun e => e.2 = t)) 16 with h | ⟨⟨y, u⟩, he, h⟩
  · exact .inl h
  · obtain ⟨mem, on⟩ := List.mem_filter.mp he
    simp only [decide_eq_true_eq] at on
    exact .inr ⟨y, on ▸ mem, h⟩

/-- A source of a lower PRIO than the running priority, once the target has it active, sets the running priority to its own. -/
theorem State.rpr_of_tset {s u : State} {t x : Nat} (act : u.evd.actOn = tset s.evd.actOn x t) (prio : ∀ y, u.prio y = s.prio y) (lower : s.prio x < s.rpr t) :
    u.rpr t = s.prio x := by
  refine Nat.le_antisymm (prio x ▸ u.rpr_le_prio (act ▸ mem_tset_self _ _ _)) ((u.le_rpr_iff t _).mpr ⟨?_, fun y hy => ?_⟩)
  · exact Nat.le_trans (Nat.le_of_lt lower) (s.rpr_le_sixteen t)
  · rw [prio]
    rw [act] at hy
    rcases mem_of_mem_tset hy with e | old
    · cases e; exact Nat.le_refl _
    · exact Nat.le_trans (Nat.le_of_lt lower) (State.rpr_le_prio old)

/-! ### The bits of a source (R433) -/

theorem source_eq_iff {x y : Nat} : y / 32 = x / 32 ∧ y % 32 = x % 32 ↔ y = x := by omega

theorem State.evPend_clrB (s : State) (x y : Nat) : (s.clrB .EVD_PEND_SET (x / 32) (x % 32)).evPend y = (s.evPend y && !decide (y = x)) := by
  simp [State.evPend, State.getB_clrB, source_eq_iff]

theorem State.evAct_clrB (s : State) (x y : Nat) : (s.clrB .EVD_ACTIVE (x / 32) (x % 32)).evAct y = (s.evAct y && !decide (y = x)) := by
  simp [State.evAct, State.getB_clrB, source_eq_iff]

theorem State.evAct_setB (s : State) (x y : Nat) : (s.setB .EVD_ACTIVE (x / 32) (x % 32)).evAct y = (decide (y = x) || s.evAct y) := by
  simp [State.evAct, State.getB_setB _ _ _ _ _ (Nat.mod_lt x (by decide : 0 < 32)), source_eq_iff]

/-! ### Acknowledge (R442) -/

/-- What the acknowledge of source x leaves at target t. -/
def State.acked (s : State) (t x : Nat) : State :=
  let u := (s.clrB .EVD_PEND_SET (x / 32) (x % 32)).setB .EVD_ACTIVE (x / 32) (x % 32)
  { u with evd := { actOn := tset s.evd.actOn x t, pres := tdel s.evd.pres t,
                    modAt := if s.gb .EVD_SRC_CFG x F.EVD_SRC_CFG.MOD then tset s.evd.modAt t s.tick.count else s.evd.modAt } }

theorem State.evdAck_of_none {s : State} {t : Nat} (h : tget? s.evd.pres t = none) : s.evdAck t = (s, 0x000FFFFF) := by
  simp only [State.evdAck, h]

theorem State.evdAck_of_some {s : State} {t x : Nat} (h : tget? s.evd.pres t = some x) :
    s.evdAck t = (s.acked t x, BitVec.ofNat 32 (s.prio x * 2 ^ 16 + x)) := by
  simp only [State.evdAck, h]
  rfl

section
variable (s : State) (t x y : Nat)

/-- An acknowledge changes the registers PEND and ACT only. -/
theorem State.acked_rd {r : Reg} (pend : r ≠ .EVD_PEND_SET) (act : r ≠ .EVD_ACTIVE) (i : Nat) : (s.acked t x).rd r i = s.rd r i :=
  (State.rd_wr_ne _ act _ _ _).trans (State.rd_wr_ne _ pend _ _ _)

@[simp] theorem State.acked_evPend : (s.acked t x).evPend y = (s.evPend y && !decide (y = x)) :=
  calc (s.acked t x).evPend y
      = ((s.clrB .EVD_PEND_SET (x / 32) (x % 32)).setB .EVD_ACTIVE (x / 32) (x % 32)).evPend y := rfl
    _ = (s.clrB .EVD_PEND_SET (x / 32) (x % 32)).evPend y := by simp [State.evPend, State.getB_setB _ _ _ _ _ (Nat.mod_lt x (by decide : 0 < 32))]
    _ = _ := s.evPend_clrB x y

@[simp] theorem State.acked_evAct : (s.acked t x).evAct y = (decide (y = x) || s.evAct y) :=
  calc (s.acked t x).evAct y
      = ((s.clrB .EVD_PEND_SET (x / 32) (x % 32)).setB .EVD_ACTIVE (x / 32) (x % 32)).evAct y := rfl
    _ = (decide (y = x) || (s.clrB .EVD_PEND_SET (x / 32) (x % 32)).evAct y) := State.evAct_setB _ x y
    _ = _ := by simp [State.evAct, State.getB_clrB]

@[simp] theorem State.acked_evEn : (s.acked t x).evEn y = s.evEn y := by
  simp only [State.evEn, State.getB, s.acked_rd t x (r := .EVD_EN_SET) (by decide) (by decide)]

@[simp] theorem State.acked_prio : (s.acked t x).prio y = s.prio y := by
  simp only [State.prio, State.gf, s.acked_rd t x (r := .EVD_SRC_CFG) (by decide) (by decide)]

/-- Routing rests on EVD_SRC_CFG, EVD_FALLBACK and what makes a core available (R435). -/
@[simp] theorem State.acked_route : (s.acked t x).route y = s.route y := by
  have fallback : (s.acked t x).fallback = s.fallback := by
    simp only [State.fallback, State.gf, s.acked_rd t x (r := .EVD_FALLBACK) (by decide) (by decide)]
  have serves (r : Nat) : (s.acked t x).inService r = s.inService r := by
    simp only [State.inService, State.gf, s.acked_rd t x (r := .IMG_STATUS) (by decide) (by decide)]
  have available (n : Nat) : (s.acked t x).available n = s.available n := by
    unfold State.available
    rw [serves]
    rfl
  have target : (s.acked t x).gf .EVD_SRC_CFG y F.EVD_SRC_CFG.TARGET = s.gf .EVD_SRC_CFG y F.EVD_SRC_CFG.TARGET := by
    simp only [State.gf, s.acked_rd t x (r := .EVD_SRC_CFG) (by decide) (by decide)]
  unfold State.route
  rw [target, fallback]
  dsimp only
  rw [available]

@[simp] theorem State.acked_pres : tget? (s.acked t x).evd.pres y = if y = t then none else tget? s.evd.pres y := tget?_tdel _ _ _

end

/-! ### End of interrupt (R443) -/

/-- What the end of source x leaves. -/
def State.ended (s : State) (x : Nat) : State :=
  let u := s.clrB .EVD_ACTIVE (x / 32) (x % 32)
  { u with evd := { s.evd with actOn := tdel s.evd.actOn x } }

theorem State.evdEoi_of_active {s : State} {t : Nat} {v : W32} (h : v.toNat % 2 ^ 16 < 2048 ∧ tget? s.evd.actOn (v.toNat % 2 ^ 16) = some t) :
    s.evdEoi t v = s.ended (v.toNat % 2 ^ 16) := if_pos h

theorem State.evdEoi_of_other {s : State} {t : Nat} {v : W32} (h : ¬(v.toNat % 2 ^ 16 < 2048 ∧ tget? s.evd.actOn (v.toNat % 2 ^ 16) = some t)) :
    s.evdEoi t v = s.inc .EVD_TGT_STAT t F.EVD_TGT_STAT.BADEOI 1 := if_neg h

section
variable (s : State) (x y : Nat)

@[simp] theorem State.ended_evAct : (s.ended x).evAct y = (s.evAct y && !decide (y = x)) := s.evAct_clrB x y

/-- The end of a source changes the register ACT only. -/
theorem State.ended_rd {r : Reg} (act : r ≠ .EVD_ACTIVE) (i : Nat) : (s.ended x).rd r i = s.rd r i := State.rd_wr_ne _ act _ _ _

@[simp] theorem State.ended_evPend : (s.ended x).evPend y = s.evPend y := by
  simp only [State.evPend, State.getB, s.ended_rd x (r := .EVD_PEND_SET) (by decide)]

@[simp] theorem State.ended_prio : (s.ended x).prio y = s.prio y := by
  simp only [State.prio, State.gf, s.ended_rd x (r := .EVD_SRC_CFG) (by decide)]

@[simp] theorem State.ended_actOn : tget? (s.ended x).evd.actOn y = if y = x then none else tget? s.evd.actOn y := tget?_tdel _ _ _

end

/-! ### The two commands -/

/-- The mask 137439477760, under which State.evdAck_kept and State.evdEoi_kept hold, is that of the distributor and its registers. -/
theorem Piece.evd_mask (p : Piece) : p ∉ [Piece.evd, .rEVD] → (137439477760).testBit p.ctorIdx = false := by
  cases p <;> decide

theorem State.evdAck_frame (s : State) (t : Nat) : Frame [.evd, .rEVD] s (s.evdAck t).1 :=
  (State.evdAck_kept (by decide) (Kept.refl 137439477760 s)).toFrame Piece.evd_mask

theorem State.evdEoi_frame (s : State) (t : Nat) (v : W32) : Frame [.evd, .rEVD] s (s.evdEoi t v) :=
  (State.evdEoi_kept (by decide) (Kept.refl 137439477760 s)).toFrame Piece.evd_mask

theorem exec_evdAck {s : State} {q : Req} {n : Fin 32} (core : q.agent = .core n) (shows : s.Shows q .EVD_ACK 0) :
    exec (.evdAck q) s = (s.evdAck n).1.showed (s.evdAck n).2 := by
  have read : s.regRead q .EVD_ACK 0 = s.evdAck n := by simp [State.regRead, State.noRail, coreNo_of_agent core]
  exact (shows.get_eq (s.engineUp_eq_self (by decide) (by decide) (by decide))).trans (by rw [read])

theorem exec_evdEoi {s : State} {q : Req} {n : Fin 32} (core : q.agent = .core n) (admits : s.Admits q .EVD_EOI 0) (v : W32) :
    exec (.evdEoi q v) s = (s.evdEoi n v).wrote := by
  have write : s.regWrite q .EVD_EOI 0 none v = s.evdEoi n v := by simp [State.regWrite, State.noRail, State.regWriteA, State.regWriteB, coreNo_of_agent core]
  exact (admits.cmd_eq (by decide) (s.engineUp_eq_self (by decide) (by decide) (by decide)) v).trans (by rw [write])

/-- Settles O34. The two commands are State.evdAck and State.evdEoi at the core's own target; State.acked and State.ended say what they leave,
and the running priority is the least PRIO of the sources active there (State.le_rpr_iff, State.rpr_attained). -/
theorem acknowledgeAndEndOfInterrupt : Obligations.AcknowledgeAndEndOfInterrupt := by
  refine ⟨fun s q n core shows => ⟨fun nothing => ?_, fun x _ pres lower => ?_⟩, fun s q n v core admits => ⟨fun small active => ?_, fun other => ?_⟩⟩
  · rw [exec_evdAck core shows, State.evdAck_of_none nothing]
  · have frame := s.evdAck_frame n
    rw [exec_evdAck core shows]
    rw [State.evdAck_of_some pres] at frame ⊢
    refine ⟨s.acked n x, rfl, by simp, by simp, by simp,
      State.rpr_of_tset rfl (s.acked_prio n x) lower, fun y _ ne => ?_, fun y => ⟨s.acked_evEn n x y, s.acked_route n x y, s.acked_prio n x y⟩,
      fun k ne => by simp [ne], frame⟩
    simp [ne]
  · have frame := s.evdEoi_frame n v
    rw [exec_evdEoi core admits]
    rw [State.evdEoi_of_active ⟨small, active⟩] at frame ⊢
    generalize v.toNat % 2 ^ 16 = x at frame ⊢
    refine ⟨s.ended x, rfl, by simp, State.rpr_le_sixteen _ _, s.ended_actOn x, fun y m mem eq => ?_, ?_,
      fun y _ ne => by simp [ne], s.ended_evPend x, rfl, frame⟩
    · exact s.ended_prio x y ▸ State.rpr_le_prio (eq ▸ mem)
    · simpa only [State.ended_prio] using (s.ended x).rpr_attained n
  · rw [exec_evdEoi core admits, State.evdEoi_of_other other]

end Machine
end Sys2Proof
end

section
/-!
SUPPORT. Mailboxes: a direction after an update of one of them, what an event of a mailbox leaves, and a push (R446 to R453).
-/
namespace Sys2Proof.Machine

/-! ### The directions of a mailbox -/

@[simp] theorem State.way_setDir_same (s : State) (m : Nat) (ba : Bool) (d : MbxDir) : (s.setDir m ba d).way m ba = d := by
  cases ba <;> simp [State.way, State.setDir, Mailbox.dir, Mailbox.setDir]

@[simp] theorem State.way_setDir_other (s : State) (m : Nat) (ba : Bool) (d : MbxDir) : (s.setDir m ba d).way m (!ba) = s.way m (!ba) := by
  cases ba <;> simp [State.way, State.setDir, Mailbox.dir, Mailbox.setDir]

theorem State.mb_setDir_ne (s : State) {m k : Nat} (h : k ≠ m) (ba : Bool) (d : MbxDir) : (s.setDir m ba d).mb k = s.mb k :=
  State.mb_setMb_ne s _ h.symm

/-- A reset empties both queues, and both directions number from 0 again (R457). -/
theorem State.way_mbxReset (s : State) (m : Nat) (ba : Bool) : (s.mbxReset m).way m ba = MbxDir.init := by
  have whole : (s.mbxReset m).mb m = Mailbox.init := s.mb_setMb m Mailbox.init
  cases ba <;> simp [State.way, whole, Mailbox.dir, Mailbox.init]

/-! ### Events of a mailbox -/

/-- Setting a bit of MBX_EVT changes no queue: 15805799071744 is the mask of State.mEvt_kept. -/
theorem State.mEvt_mb (s : State) (m b k : Nat) : (s.mEvt m b).mb k = s.mb k := by
  have mbx : (s.mEvt m b).mbx = s.mbx := (State.mEvt_kept (by decide) (Kept.refl 15805799071744 s)).frame .mbx (by decide)
  simp only [State.mb, mbx]

theorem State.way_mEvt (s : State) (m b k : Nat) (ba : Bool) : (s.mEvt m b).way k ba = s.way k ba := by simp only [State.way, State.mEvt_mb]

theorem State.raise_rd_mbx (s : State) (x : Nat) {r : Reg} (h : r.block = .rMBX) (i : Nat) : (s.raise x).rd r i = s.rd r i :=
  (State.raise_kept (by decide) (Kept.refl 2336479641600 s)).frame .rMBX (by decide) r i h

theorem State.uevt_rd_mbx (s : State) (kind idx off b : Nat) {r : Reg} (h : r.block = .rMBX) (i : Nat) : (s.uevt kind idx off b).rd r i = s.rd r i :=
  (State.uevt_kept (by decide) (Kept.refl 6734794588160 s)).frame .rMBX (by decide) r i h

theorem State.notifyPort_rd_mbx (s : State) (m b : Nat) {r : Reg} (h : r.block = .rMBX) (i : Nat) : (s.notifyPort m b).rd r i = s.rd r i :=
  (State.notifyPort_kept (by decide) (Kept.refl 8796126576640 s)).frame .rMBX (by decide) r i h

theorem State.setEvt_rd_mbx (s : State) (evt en : Reg) (m b src : Nat) {r : Reg} (h : r.block = .rMBX) (ne : r ≠ evt) (i : Nat) :
    (s.setEvt evt en m b src).rd r i = s.rd r i := by
  have set : (s.setB evt m b).rd r i = s.rd r i := State.rd_wr_ne s ne _ _ _
  unfold State.setEvt
  split
  · rfl
  · dsimp only
    split
    · exact (State.raise_rd_mbx _ _ h i).trans set
    · exact set

/-- Setting a bit of MBX_EVT changes no other register of the block MBX. -/
theorem State.mEvt_rd_mbx (s : State) (m b : Nat) {r : Reg} (h : r.block = .rMBX) (ne : r ≠ .MBX_EVT) (i : Nat) : (s.mEvt m b).rd r i = s.rd r i := by
  have set : (s.mbxEvt m b).rd r i = s.rd r i := (State.uevt_rd_mbx _ _ _ _ _ h i).trans (State.setEvt_rd_mbx s _ _ _ _ _ h ne i)
  unfold State.mEvt
  split
  · rfl
  · dsimp only
    split
    · exact (State.notifyPort_rd_mbx _ _ _ h i).trans set
    · exact set

/-! ### A push -/

/-- A direction after word w has entered with the stamp st in tick now (R450, R453). -/
def MbxDir.entered (d : MbxDir) (st w : W32) (now : Nat) : MbxDir := { d with q := d.q ++ [(st, w)], seq := (d.seq + 1) % 4096 }.wait now

@[simp] theorem MbxDir.wait_q (d : MbxDir) (now : Nat) : (d.wait now).q = d.q := by unfold MbxDir.wait; split <;> rfl
@[simp] theorem MbxDir.wait_seq (d : MbxDir) (now : Nat) : (d.wait now).seq = d.seq := by unfold MbxDir.wait; split <;> rfl

theorem MbxDir.entered_q (d : MbxDir) (st w : W32) (now : Nat) : (d.entered st w now).q = d.q ++ [(st, w)] := MbxDir.wait_q _ _

/-- The sequence wraps from 0xFFF to 0x000 (R450). -/
theorem MbxDir.entered_seq (d : MbxDir) (st w : W32) (now : Nat) (h : d.seq < 2 ^ 12) : (d.entered st w now).seq = if d.seq = 0xFFF then 0 else d.seq + 1 := by
  rw [MbxDir.entered, MbxDir.wait_seq]
  dsimp only
  split <;> omega

section
variable {s : State} {m : Nat} {ba : Bool} (cls stall org : Nat) (w : W32)

/-- A push into a full direction (R451). -/
theorem State.mbxPush_of_full (h : 8 ≤ (s.way m ba).q.length) :
    s.mbxPush m ba cls stall org w = (s.setDir m ba ((s.way m ba).wait s.tick.count)).inc .MBX_ERR m (mbxErrOf ba) 1 := if_pos (.inl h)

theorem State.mbxPush_of_room (h : (s.way m ba).q.length < 8) (thawed : s.frozenOther m ba = false) :
    s.mbxPush m ba cls stall org w =
      (s.setDir m ba ((s.way m ba).entered (stampWord cls stall org (s.way m ba).seq) w s.tick.count)).mEvt m (if ba then 1 else 0) :=
  if_neg (fun e => e.elim (Nat.not_le_of_lt h) (by simp [thawed]))

end

/-- Bits 11:0 of a stamp are the sequence (R447). -/
theorem stampWord_seq (cls stall org : Nat) {seq : Nat} (h : seq < 2 ^ 12) : (stampWord cls stall org seq).toNat % 2 ^ 12 = seq := by
  simp only [stampWord, BitVec.toNat_ofNat]
  omega

theorem Reg.addrOf_mbxTx (m : Nat) (ba : Bool) :
    Reg.addrOf (if ba then .MBX_BA_TX else .MBX_AB_TX) m = ctlBase + 0xB00020 + m * 0x100 + if ba then 0x20 else 0 := by
  cases ba <;> simp [Reg.addrOf, Reg.desc, ctlBase, Nat.add_right_comm]

theorem State.engineUp_mbxTx (s : State) (m : Fin 128) (ba : Bool) : s.engineUp (Reg.addrOf (if ba then .MBX_BA_TX else .MBX_AB_TX) m) = s := by
  have bound := m.isLt
  have side : (if ba then 0x20 else 0) ≤ 0x20 := by cases ba <;> decide
  rw [Reg.addrOf_mbxTx]
  exact s.engineUp_eq_self (by omega) (by omega) (.inr (by omega))

/-- A TX write that reaches the mailbox pushes the word, with the writer's class and origin and stall 0 in its stamp (R447, R449). -/
theorem exec_mbxTx {s : State} {m : Fin 128} {ba : Bool} {who : Req} (h : s.Admits who (if ba then .MBX_BA_TX else .MBX_AB_TX) m) (v : W32) :
    exec (.mbxTx m ba who v) s = (s.mbxPush m ba (s.stampClass who) 0 ((originOf who).getD 0) v).wrote :=
  (h.cmd_eq (by cases ba <;> decide) (s.engineUp_mbxTx m ba) v).trans (by cases ba <;> rfl)

/-- Settles O36. A TX write is a push (exec_mbxTx); State.mbxPush_of_full and State.mbxPush_of_room are its two outcomes, and the event
of the second leaves the queues and MBX_ERR (State.mEvt_mb, State.mEvt_rd_mbx). -/
theorem mailboxPushesNumberAndDropWords : Obligations.MailboxPushesNumberAndDropWords := by
  refine ⟨fun m ba s => by rw [State.way_mbxReset]; exact ⟨rfl, rfl⟩, fun s m ba who v admits thawed => ⟨fun full => ?_, fun room seq => ?_⟩⟩
  · rw [exec_mbxTx admits, State.mbxPush_of_full _ _ _ _ full]
    rfl
  · refine ⟨_, stampWord (s.stampClass who) 0 ((originOf who).getD 0) (s.way m ba).seq, (exec_mbxTx admits v).trans (by rw [State.mbxPush_of_room _ _ _ _ room thawed]), ?_, stampWord_seq _ _ _ seq, ?_, ?_, fun k ne => ?_, ?_⟩
    · rw [State.way_mEvt, State.way_setDir_same, MbxDir.entered_q]
    · rw [State.way_mEvt, State.way_setDir_same, MbxDir.entered_seq _ _ _ _ seq]
    · rw [State.way_mEvt, State.way_setDir_other]
    · rw [State.mEvt_mb, State.mb_setDir_ne s ne]
    · rw [State.mEvt_rd_mbx _ _ _ Reg.MBX_ERR_block (by decide)]
      rfl

end Sys2Proof.Machine
end
